-- ==== Sys2Proof/Word.lean ====
section
/-! DEFINITION. The word types and the plainest arithmetic on them. -/

namespace Sys2Proof

/-- One byte. -/
abbrev Byte := BitVec 8

/-- A register or memory word of 32 bits (R4). -/
abbrev Word := BitVec 32

end Sys2Proof
end

