-- ==== Sys2Proof/Syntax.lean ====
section
/-! DEFINITION. The commands of the block: one constructor per row of the command table, with the operands its event
carries. -/

namespace Sys2Proof

/-- What one port does to a word of a bank in a cycle (R191). -/
inductive PortKind where
  /-- No access. -/
  | none
  /-- A plain read. -/
  | read
  /-- A plain write. -/
  | write
  /-- A write through the bit-set alias. -/
  | set
  /-- A write through the bit-clear alias. -/
  | clear
deriving DecidableEq, Repr

/-- The access of one port: its kind, its master port (R207), the byte enables of the 16-byte word and the data;
`host` for an access that the host port made, whichever way it came (R192). -/
structure PortAccess where
  kind : PortKind
  master : Nat
  en : Nat
  data : Nat
  host : Bool
deriving DecidableEq, Repr

/-- What port B does to a word of the newt's clutch SRAM, at its die-local address, in the cycle of the newt's access (R72, R191). -/
structure Meeting where
  word : Nat
  access : PortAccess
deriving DecidableEq, Repr

/-- What an access of the L slot meets: fabric beats that took their fifth cycle on a DMEM bank it needs (R69), cycles lost to the
arbitration of the clutch crossbar and port-B accesses to its words (R72), and the 128-bit words of a vector store that a newt reset,
coming while they are being issued, drops (R469). -/
structure AccessMeets where
  fab : Nat
  lost : Nat
  met : List Meeting
  cut : Nat
deriving DecidableEq, Repr

/-- What a leapfrog test found in a bank (R200 to R205): the rows that fail, the spare rows that fail (a bit each), and the place of
the first failing bit: which of the failing rows, spare rows first, the word in the row, the bit. -/
structure BankTest where
  bank : Nat
  rows : List Nat
  spareBad : Nat
  first : Nat
  word : Nat
  bit : Nat
deriving DecidableEq, Repr

/-- A ratio a TRACK bridge has measured (R270): the bridge's global number, fs_src / fs_dst as 4.28. -/
structure BridgeRatio where
  bridge : Nat
  ratio : Nat
deriving DecidableEq, Repr

/-- What another unit answers to an access of CSF, as the command that makes the access carries it (R365, R423): data (0 for a write), an
error, or nothing within 100 µs. -/
inductive FarAnswer where
  | data (v : Nat)
  | refused
  | timeout
deriving DecidableEq, Repr

/-- A Biray frame without its type (R355): the common fields of word 0, words 1 to 7, the payload's bytes. -/
structure BFrame where
  src : Nat
  dst : Nat
  wrap : Nat
  hops : Nat
  w : List Nat
  payload : List Nat
deriving DecidableEq, Repr

/-- What a graph image names and places (R417, R432), as its file tells it: the layout of a file is the compiler's. A
parameter: index, domain, die, addresses of element 0 in copies 0 and 1, the initial value of each element. -/
structure ParamDef where
  index : Nat
  dom : Nat
  die : Nat
  a0 : Nat
  a1 : Nat
  init : List Nat
deriving DecidableEq, Repr

/-- A route: index, domain, die, crosspoint, the four words of its initial record. -/
structure RouteDef where
  index : Nat
  dom : Nat
  die : Nat
  xp : Nat
  init : List Nat
deriving DecidableEq, Repr

/-- A meter: index, domain, die, address of its accumulators, their number. -/
structure MeterDef where
  index : Nat
  dom : Nat
  die : Nat
  addr : Nat
  count : Nat
deriving DecidableEq, Repr

/-- A path: index, domain, the graph's own latency in samples of the domain, as a 48.16 value, the port sections (128 × iguana die + 2 ×
port + section), the bridges (global) and the receive streams (global) on it. -/
structure PathDef where
  index : Nat
  dom : Nat
  own : Nat
  sections : List Nat
  bridges : List Nat
  streams : List Nat
deriving DecidableEq, Repr

/-- A source block: index, die, address of sample 0. -/
structure SourceDef where
  index : Nat
  die : Nat
  addr : Nat
deriving DecidableEq, Repr

/-- Bytes an image places: die, address, bytes. -/
structure PlaceDef where
  die : Nat
  addr : Nat
  bytes : List Nat
deriving DecidableEq, Repr

/-- A target class of a die that an image declares for remote access (R218), for reads, writes or both. -/
structure GrantDef where
  die : Nat
  cls : Nat
  read : Bool
  write : Bool
deriving DecidableEq, Repr

/-- A graph image. -/
structure GraphImage where
  params : List ParamDef
  routes : List RouteDef
  meters : List MeterDef
  paths : List PathDef
  sources : List SourceDef
  places : List PlaceDef
  grants : List GrantDef
deriving DecidableEq, Repr

/-- Messages on their way: die-link VC 0 messages, posts, partials, Biray frames, CSF messages. -/
inductive Msg where
  /-- An epoch start to a die (R43); `commit` says the commit of the domain takes effect at it. -/
  | epochStart (die dom boundary : Nat) (commit : Bool)
  /-- A drain report of a die, or its withdrawal (R47, R150); `cause` is the die whose post caused a withdrawal, 8 for a report. -/
  | drainReport (die dom boundary : Nat) (withdrawn : Bool) (cause : Nat)
  /-- A late marker to a die (R151). -/
  | lateMarker (die dom : Nat)
  /-- A release order to a die (R172). -/
  | releaseOrder (die dom boundary : Nat)
  /-- A post to a task slot (R130, R141), of a master port of a die; source domain 3 is none; `also` is the mask of the domains of
  the DMA chain it ends (R225). -/
  | post (srcDie port die clutch slot flags srcDom also : Nat)
  /-- A claim of a flow by a tongue, on its way to the flow's home (R147). -/
  | flowClaim (die clutch slot flow : Nat)
  /-- The home's answer to a claim. -/
  | claimResponse (die clutch slot flow : Nat) (granted : Bool)
  /-- A release of a flow by a tongue, on its way to the flow's home (R148). -/
  | flowRelease (flow die clutch : Nat)
  /-- A change of a busy bit, on its way to a die's replica (R148). -/
  | flowUpdate (die flow : Nat) (busy : Bool)
  /-- A chorus partial for the home of a bus (R173), from a die, or from unit `src` − 8 of the ring; the sums of the epoch's samples
  as 96-bit numbers, the term count, the SAT and NaN indications. -/
  | partialSum (src die bus dom boundary : Nat) (sums : List Nat) (terms : Nat) (sat nan : Bool)
  /-- An MSI-X message to the host: address and data of its vector (R407). -/
  | msix (addr data : Nat)
  /-- A completion of a non-posted request of the PCIe host: its status (0 Successful, 1 Unsupported Request, 4 Completer Abort) and
  the data it carries (R392, R393). -/
  | completion (status data : Nat)
  /-- A slip of a phase group, from its anchor to the other die: a drop or a repeat (R253). -/
  | groupSlip (die group : Nat) (drop : Bool) (time : Nat)
  /-- A Biray frame leaving by the east port (die 6) or the west port (die 7), with its type (R356). -/
  | biray (die type : Nat) (frame : BFrame)
deriving DecidableEq, Repr

/-- The lane operations of two or three sources (R111). -/
inductive LaneOp where
  | fma | mul | add | sub | min | max
deriving DecidableEq, Repr

/-- The lane operations of one source. -/
inductive UnaryOp where
  | abs | neg | rcps
deriving DecidableEq, Repr

/-- The functions of the SALU group (R123), in the order of FN. -/
inductive SaluFn where
  | add | sub | and | or | xor | shl | shr | sra | mul | min | max | slt | sltu
deriving DecidableEq, Repr

/-- The M slot of a bundle (R106, R111). -/
inductive MIns where
  | vmac (d a b p : Nat) (bs z n : Bool)
  | lane (op : LaneOp) (d a b p : Nat) (bs : Bool)
  | unary (op : UnaryOp) (d a p : Nat)
  | vcmp (d a b p : Nat) (bs : Bool) (cond : Nat)
  | vsel (d a b p : Nat)
  | vrnd (d a p : Nat) (c : Bool)
  | vglide (d a b p : Nat)
  | divi (d a b p : Nat)
  | divs (d b p : Nat)
  | divf (d a b p : Nat)
  | vcvt (d a p : Nat) (dir : Bool) (sh : Nat)
deriving DecidableEq, Repr

/-- The L slot of a bundle (R107, R121). -/
inductive LIns where
  | vld (r ar p sm smi um u : Nat)
  | vst (r ar p sm smi um u : Nat)
  | lds (r ar um u : Nat)
  | sts (r ar um u : Nat)
  | adda (ar um u : Nat)
deriving DecidableEq, Repr

/-- The C slot of a bundle (R108, R123). -/
inductive CIns where
  | nop
  | salu (fn : SaluFn) (d a b : Nat)
  | saddi (d a imm : Nat)
  | ldil (d imm : Nat)
  | ldih (d imm : Nat)
  | movr (df di sf si : Nat)
  | vext (v s k : Nat)
  | vins (v s k : Nat)
  | br (tgt : Nat)
  | brc (cond a tgt : Nat)
  | call (tgt : Nat)
  | ret
  | rept (rs : Bool) (a n : Nat)
  | loopTop (byReg : Bool) (n tgt : Nat)
  | endl
  | sig (a b : Nat)
  | done
  | halt
deriving DecidableEq, Repr

/-- An instruction of a newt, by its class (R105). -/
inductive NewtOp where
  | m (i : MIns)
  | l (i : LIns)
  | c (i : CIns)
deriving DecidableEq, Repr

/-- The commands. -/
inductive Instr where
  /-- `REGISTER_WRITE` (R7): master `port` of die `mdie` writes a 32-bit register at a global address; what hardware
  has set in its W1C fields in the same cycle (R8), in the layout of the register. -/
  | registerWrite (mdie port addr data tie : Nat)
  /-- `RC_REGISTER_READ` (R7): a master reads a register with an RC field; what hardware has set or counted in it in
  the same cycle, and what its saturated counts and maxima held before that cycle. -/
  | rcRegisterRead (mdie port addr tie before : Nat)
  /-- `REG64_LOW_READ` (R5): a master reads the low word of a 64-bit register; what hardware has counted in it in the
  same cycle. -/
  | reg64LowRead (mdie port addr tie : Nat)
  /-- `REG64_LOW_WRITE` (R5): a master writes the low word of a 64-bit register. -/
  | reg64LowWrite (mdie port addr data : Nat)
  /-- `REG64_HIGH_WRITE` (R5): a master writes the high word of a 64-bit register; what hardware has set in it in the
  same cycle. -/
  | reg64HighWrite (mdie port addr data tie : Nat)
  /-- `FABRIC_ACCESS` (R210): a master presents an access of `len` bytes; `rivals` ask for the same target of its
  crossbar in the same cycle, `far` at the target die; what hardware has set or counted in a register read or written.
  -/
  | fabricAccess (mdie port addr : Nat) (write : Bool) (len data : Nat) (rivals far : List Nat) (tie before : Nat)
  /-- `DOMCNT_INCREMENT` (R261): the media clock of a domain reaches its next sample; the ratios TRACK bridges have
  measured anew. -/
  | domcntIncrement (dom : Nat) (meas : List BridgeRatio)
  /-- `EPOCH_BOUNDARY` (R41): DOMCNT of the domain on die 6 has reached a multiple of B. -/
  | epochBoundary (dom : Nat)
  /-- `EPOCH_DISPATCH` (R49): the controller on die 6 starts the epoch of the latest passed boundary of the domain. -/
  | epochDispatch (dom : Nat)
  /-- `EPOCH_START_RECEIPT` (R43): an epoch-start message reaches a die. -/
  | epochStartReceipt (die dom boundary : Nat) (commit : Bool)
  /-- `DIE_DRAIN_REPORT` (R46): a die's work of the domain is done. -/
  | dieDrainReport (die dom : Nat)
  /-- `DRAIN_REPORT_RECEIPT` (R47): a drain report of a die, or its withdrawal, reaches the controller. -/
  | drainReportReceipt (die dom boundary : Nat) (withdrawn : Bool)
  /-- `EPOCH_ENABLE` (R45): EPOCH_CFG.EN of the domain is written 1. -/
  | epochEnable (dom : Nat)
  /-- `EPOCH_STOP` (R45): EPOCH_CFG.EN of the domain is written 0. -/
  | epochStop (dom : Nat)
  /-- `COMMIT_ARM` (R55): EPOCH_CTL.COMMIT_ARM of the domain is written 1. -/
  | commitArm (dom : Nat)
  /-- `COMMIT_CANCEL` (R56): EPOCH_CTL.COMMIT_CANCEL of the domain is written 1. -/
  | commitCancel (dom : Nat)
  /-- `SNAP_ARM` (R61): EPOCH_CTL.SNAP_ARM of the domain is written 1. -/
  | snapArm (dom : Nat)
  /-- `SNAP_CANCEL` (R56): EPOCH_CTL.SNAP_CANCEL of the domain is written 1. -/
  | snapCancel (dom : Nat)
  /-- `COMMIT_ACK_DEADLINE` (R58): DOMCNT of the domain reaches T - B of the pending commit. -/
  | commitAckDeadline (dom : Nat)
  /-- `INSTRUCTION_FETCH` (R70): the fetch unit reads the bundle's words, or has lost its read to a fabric beat that
  waited four cycles. -/
  | instructionFetch (die newt : Nat) (stalled : Bool)
  /-- `ILLEGAL_ENCODING` (R132): the bundle at the newt's next address meets an illegal condition at decode. -/
  | illegalEncoding (die newt : Nat)
  /-- `BREAKPOINT_MATCH` (R93): the address of the next bundle is compared with the breakpoints. -/
  | breakpointMatch (die newt : Nat)
  /-- `VMAC` (R112): accD gets accD ± vA × B; `z` loads the product, `neg` negates it. -/
  | vmac (die newt : Nat) (e : Bool) (d a b p : Nat) (bs z neg : Bool)
  /-- `VFMA` (R111): the lane operation of its name. -/
  | vfma (die newt : Nat) (e : Bool) (d a b p : Nat) (bs : Bool)
  /-- `VMUL` (R111): the lane operation of its name. -/
  | vmul (die newt : Nat) (e : Bool) (d a b p : Nat) (bs : Bool)
  /-- `VADD` (R111): the lane operation of its name. -/
  | vadd (die newt : Nat) (e : Bool) (d a b p : Nat) (bs : Bool)
  /-- `VSUB` (R111): the lane operation of its name. -/
  | vsub (die newt : Nat) (e : Bool) (d a b p : Nat) (bs : Bool)
  /-- `VMIN` (R111): the lane operation of its name. -/
  | vmin (die newt : Nat) (e : Bool) (d a b p : Nat) (bs : Bool)
  /-- `VMAX` (R111): the lane operation of its name. -/
  | vmax (die newt : Nat) (e : Bool) (d a b p : Nat) (bs : Bool)
  /-- `VABS` (R111): the lane operation of its name. -/
  | vabs (die newt : Nat) (e : Bool) (d a p : Nat)
  /-- `VNEG` (R111): the lane operation of its name. -/
  | vneg (die newt : Nat) (e : Bool) (d a p : Nat)
  /-- `VCMP` (R113): lanes compare into pD. -/
  | vcmp (die newt : Nat) (e : Bool) (d a b p : Nat) (bs : Bool) (cond : Nat)
  /-- `VSEL` (R114): each lane takes A or B by the bit of p[p]. -/
  | vsel (die newt : Nat) (e : Bool) (d a b p : Nat)
  /-- `VRND` (R115): accA rounds into vD and may be cleared. -/
  | vrnd (die newt : Nat) (e : Bool) (d a p : Nat) (clr : Bool)
  /-- `VGLIDE` (R117): a gain step at a zero crossing. -/
  | vglide (die newt : Nat) (e : Bool) (d a b p : Nat)
  /-- `RCPS` (R118): a reciprocal seed. -/
  | rcps (die newt : Nat) (e : Bool) (d a p : Nat)
  /-- `DIVI` (R119): the division state starts. -/
  | divi (die newt : Nat) (e : Bool) (d a b p : Nat)
  /-- `DIVS` (R119): one division step. -/
  | divs (die newt : Nat) (e : Bool) (d b p : Nat)
  /-- `DIVF` (R120): the quotient forms. -/
  | divf (die newt : Nat) (e : Bool) (d a b p : Nat)
  /-- `VCVT` (R116): fp32 to fixed point, or back where `dir` is set. -/
  | vcvt (die newt : Nat) (e : Bool) (d a p : Nat) (dir : Bool) (shift : Nat)
  /-- `VLD` (R121): a vector load, with what it meets. -/
  | vld (die newt : Nat) (e : Bool) (r ar p sm smi um u : Nat) (io : AccessMeets)
  /-- `VST` (R121): a vector store, with what it meets. -/
  | vst (die newt : Nat) (e : Bool) (r ar p sm smi um u : Nat) (io : AccessMeets)
  /-- `LDS` (R121): a scalar load, with what it meets. -/
  | lds (die newt : Nat) (e : Bool) (r ar um u : Nat) (io : AccessMeets)
  /-- `STS` (R121): a scalar store, with what it meets. -/
  | sts (die newt : Nat) (e : Bool) (r ar um u : Nat) (io : AccessMeets)
  /-- `ADDA` (R121): an address update. -/
  | adda (die newt : Nat) (e : Bool) (ar um u : Nat)
  /-- `NOP` (R123): nothing. -/
  | nop (die newt : Nat) (e : Bool)
  /-- `SALU_ADD` (R123): sD gets the function of sA and sB. -/
  | saluAdd (die newt : Nat) (e : Bool) (d a b : Nat)
  /-- `SALU_SUB` (R123): sD gets the function of sA and sB. -/
  | saluSub (die newt : Nat) (e : Bool) (d a b : Nat)
  /-- `SALU_AND` (R123): sD gets the function of sA and sB. -/
  | saluAnd (die newt : Nat) (e : Bool) (d a b : Nat)
  /-- `SALU_OR` (R123): sD gets the function of sA and sB. -/
  | saluOr (die newt : Nat) (e : Bool) (d a b : Nat)
  /-- `SALU_XOR` (R123): sD gets the function of sA and sB. -/
  | saluXor (die newt : Nat) (e : Bool) (d a b : Nat)
  /-- `SALU_SHL` (R123): sD gets the function of sA and sB. -/
  | saluShl (die newt : Nat) (e : Bool) (d a b : Nat)
  /-- `SALU_SHR` (R123): sD gets the function of sA and sB. -/
  | saluShr (die newt : Nat) (e : Bool) (d a b : Nat)
  /-- `SALU_SRA` (R123): sD gets the function of sA and sB. -/
  | saluSra (die newt : Nat) (e : Bool) (d a b : Nat)
  /-- `SALU_MUL` (R123): sD gets the function of sA and sB. -/
  | saluMul (die newt : Nat) (e : Bool) (d a b : Nat)
  /-- `SALU_MIN` (R123): sD gets the function of sA and sB. -/
  | saluMin (die newt : Nat) (e : Bool) (d a b : Nat)
  /-- `SALU_MAX` (R123): sD gets the function of sA and sB. -/
  | saluMax (die newt : Nat) (e : Bool) (d a b : Nat)
  /-- `SALU_SLT` (R123): sD gets the function of sA and sB. -/
  | saluSlt (die newt : Nat) (e : Bool) (d a b : Nat)
  /-- `SALU_SLTU` (R123): sD gets the function of sA and sB. -/
  | saluSltu (die newt : Nat) (e : Bool) (d a b : Nat)
  /-- `SADDI` (R123): sD gets sA plus the signed immediate. -/
  | saddi (die newt : Nat) (e : Bool) (d a imm : Nat)
  /-- `LDIL` (R123): sD gets the immediate. -/
  | ldil (die newt : Nat) (e : Bool) (d imm : Nat)
  /-- `LDIH` (R123): the upper half of sD gets the immediate. -/
  | ldih (die newt : Nat) (e : Bool) (d imm : Nat)
  /-- `MOVR` (R124): register SF[SI] is copied to DF[DI]. -/
  | movr (die newt : Nat) (e : Bool) (df di sf si : Nat)
  /-- `VEXT` (R123): a scalar gets a lane. -/
  | vext (die newt : Nat) (e : Bool) (v sreg lane : Nat)
  /-- `VINS` (R123): a lane gets a scalar. -/
  | vins (die newt : Nat) (e : Bool) (v sreg lane : Nat)
  /-- `BR` (R123): a branch. -/
  | br (die newt : Nat) (e : Bool) (tgt : Nat)
  /-- `BRC` (R126): a conditional branch. -/
  | brc (die newt : Nat) (e : Bool) (cond a tgt : Nat)
  /-- `CALL` (R123): s12 gets the return address. -/
  | call (die newt : Nat) (e : Bool) (tgt : Nat)
  /-- `RET` (R123): a branch to s12. -/
  | ret (die newt : Nat) (e : Bool)
  /-- `REPT` (R129): the next bundle repeats, `n` + 1 times or s[a] times. -/
  | rept (die newt : Nat) (e rs : Bool) (a n : Nat)
  /-- `LOOP` (R127): a level is pushed, with `n` + 1 or s[n] rounds. -/
  | loopTop (die newt : Nat) (e byReg : Bool) (n tgt : Nat)
  /-- `ENDL` (R127): the end of a loop body. -/
  | endl (die newt : Nat) (e : Bool)
  /-- `SIG` (R130): flags s[b] are posted to the task slot s[a] names. -/
  | sig (die newt : Nat) (e : Bool) (a b : Nat)
  /-- `DONE` (R91): the task ends. -/
  | done (die newt : Nat) (e : Bool)
  /-- `HALT` (R93): debug halt. -/
  | halt (die newt : Nat) (e : Bool)
  /-- `COMPLETION_REPORT` (R91): every store and SIG of the draining task has been accepted. -/
  | completionReport (die newt : Nat)
  /-- `PARK_REQ` (R92): NEWT_CTL.PARK_REQ is written 1. -/
  | parkReq (die newt : Nat)
  /-- `UNPARK` (R92): NEWT_CTL.UNPARK is written 1. -/
  | unpark (die newt : Nat)
  /-- `HALT_REQ` (R93): NEWT_CTL.HALT_REQ is written 1. -/
  | haltReq (die newt : Nat)
  /-- `RESUME` (R94): NEWT_CTL.RESUME is written 1. -/
  | resume (die newt : Nat)
  /-- `STEP` (R94): NEWT_CTL.STEP is written 1. -/
  | step (die newt : Nat)
  /-- `ABORT` (R94): NEWT_CTL.ABORT is written 1. -/
  | abort (die newt : Nat)
  /-- `NEWT_CLR_CNT` (R101): NEWT_CTL.CLR_CNT is written 1. -/
  | newtClrCnt (die newt : Nat)
  /-- `DBG_REGISTER_ACCESS` (R99): a master reads or writes a debug register. -/
  | dbgRegisterAccess (mdie port addr : Nat) (write : Bool) (data : Nat)
  /-- `NEWT_RESET` (R469): the gill writes 1 to NEWT_RST.GO. -/
  | newtReset (die newt : Nat)
  /-- `POST_ARRIVAL` (R139): a post of a master port of a die reaches a tongue (R130, R141); srcDom 3 is none. -/
  | postArrival (srcDie port die clutch slot flags srcDom : Nat)
  /-- `DISPATCH_DECISION` (R145): the tongue makes one dispatch decision; the package clutches whose tongues claim in
  the same cycle. -/
  | dispatchDecision (die clutch : Nat) (rivals : List Nat)
  /-- `FLOW_CLAIM` (R146): the claim of a tongue of another die reaches the home of the flow; the package clutches
  whose tongues claim in the same cycle. -/
  | flowClaim (die clutch slot flow : Nat) (rivals : List Nat)
  /-- `CLAIM_RESPONSE` (R147): the home's answer reaches the tongue. -/
  | claimResponse (die clutch slot flow : Nat) (granted : Bool)
  /-- `FLOW_RELEASE` (R148): a release by a task of the clutch reaches the home of the flow. -/
  | flowRelease (flow die clutch : Nat)
  /-- `FLOW_REPLICA_UPDATE` (R148): the die's replica shows a change at the home. -/
  | flowReplicaUpdate (die flow : Nat) (busy : Bool)
  /-- `LATE_MARKER_RECEIPT` (R151): a late marker of the domain reaches the die. -/
  | lateMarkerReceipt (die dom : Nat)
  /-- `CROAK_ENTRY_WRITE` (R152): the crossbar grants the croak writer; whether a granted DMA read burst over the ring
  has not returned its last beat. -/
  | croakEntryWrite (die clutch : Nat) (readout : Bool)
  /-- `CROAK_FREEZE` (R154): CROAK_CFG.FREEZE is written 1. -/
  | croakFreeze (die clutch : Nat)
  /-- `CROAK_FROZEN` (R154): the buffer of a freezing log has been written out. -/
  | croakFrozen (die clutch : Nat)
  /-- `CROAK_RESUME` (R154): CROAK_CFG.FROZEN is written 1. -/
  | croakResume (die clutch : Nat)
  /-- `SLOT_ENABLE` (R134): SLOT_CTRL is written with EN = 1 and these fields. -/
  | slotEnable (die clutch slot mode prio dom flow : Nat)
  /-- `SLOT_DISABLE` (R134): SLOT_CTRL is written with EN = 0. -/
  | slotDisable (die clutch slot : Nat)
  /-- `SLOT_CLR_FLAGS` (R156): SLOT_CLR.FLAGS is written 1. -/
  | slotClrFlags (die clutch slot : Nat)
  /-- `SLOT_CLR_PEND` (R156): SLOT_CLR.PEND is written 1. -/
  | slotClrPend (die clutch slot : Nat)
  /-- `SLOT_CLR_AFF` (R156): SLOT_CLR.AFF is written 1. -/
  | slotClrAff (die clutch slot : Nat)
  /-- `TONGUE_CLR_CNT` (R155): TONGUE_CFG.CLR_CNT is written 1. -/
  | tongueClrCnt (die clutch : Nat)
  /-- `CHORUS_KICK` (R169): CHORUS_KICK is written with this group. -/
  | chorusKick (die group : Nat)
  /-- `GROUP_RUN_START` (R170): the die's chorus is free and starts its next ready group. -/
  | groupRunStart (die : Nat)
  /-- `GROUP_RUN_END` (R170): the run in progress finishes. -/
  | groupRunEnd (die : Nat)
  /-- `PARTIAL_RELEASE` (R171): four cycles after the last enabled group of the domain with this stage or less. -/
  | partialRelease (die dom stage : Nat)
  /-- `PARTIAL_ARRIVAL` (R175): a partial for a boundary reaches a die: the 96-bit sums, the term count, the SAT and
  NaN indications. -/
  | partialArrival (die bus dom boundary : Nat) (sums : List Nat) (terms : Nat) (sat nan : Bool)
  /-- `BUS_BLOCK_COMPLETE` (R174): the write of a reduced bus block completes. -/
  | busBlockComplete (die bus boundary : Nat)
  /-- `RELEASE_ORDER_RECEIPT` (R172): a release order for the epoch of a boundary reaches a die. -/
  | releaseOrderReceipt (die dom boundary : Nat)
  /-- `BANK_ACCESS` (R191): the accesses ports A and B make to one 16-byte word of a bank in one cycle. -/
  | bankAccess (die word : Nat) (a b : PortAccess)
  /-- `ALIAS_WRITE` (R195): a bit-set or bit-clear write on a port (0 A, 1 B), with what the other port does to the
  word in its first cycle. -/
  | aliasWrite (die word port : Nat) (clear : Bool) (mine other : PortAccess)
  /-- `BUSY_RETRY` (R192): the port's refused access to the word is retried in its reserved cycle, with what the other
  port does to the word in it. -/
  | busyRetry (die word port : Nat) (other : PortAccess)
  /-- `LF_START` (R201): LF_CTL is written with START and these fields. -/
  | lfStart (die mode all newts bank : Nat)
  /-- `LF_ABORT` (R201): LF_CTL.ABORT is written 1. -/
  | lfAbort (die : Nat)
  /-- `LF_DONE` (R201): the last bank of the run finishes; what the tests found. -/
  | lfDone (die : Nat) (outcomes : List BankTest) (newtFail newtWaddr newtBit : Nat)
  /-- `FUSE_BURN` (R203): the gill writes LF_FUSE with BURN and this bank. -/
  | fuseBurn (die bank : Nat)
  /-- `FUSE_BURN_DONE` (R203): the burn completes; bit e says that entry e verified. -/
  | fuseBurnDone (die verified : Nat)
  /-- `FAB_PARK_APPLY` (R212): the target is next idle after a write of FAB_PARK. -/
  | fabParkApply (die target : Nat)
  /-- `DMA_ABORT` (R214): DMA_START is written with ABORT = 1; the bytes of the descriptor already written, the length
  in beats of the write burst in progress (0 none) and how many of its beats were accepted; the responses of other
  ring units to its bursts there. -/
  | dmaAbort (die engine moved len written : Nat) (far : List (Nat × Bool))
  /-- `DMA_START` (R224): DMA_START is written with ABORT = 0 and this DESC by a master of class cls. -/
  | dmaStart (die engine desc cls : Nat)
  /-- `DMA_DESCRIPTOR_READ` (R223): the engine reads and checks its next descriptor. -/
  | dmaDescriptorRead (die engine : Nat)
  /-- `DMA_DESCRIPTOR_COMPLETE` (R223): the transfer of the descriptor runs to its end; the responses of other ring
  units to its bursts there, in order. -/
  | dmaDescriptorComplete (die engine : Nat) (far : List (Nat × Bool))
  /-- `DMA_ERROR` (R225): the outstanding beats of the engine have returned after an error. -/
  | dmaError (die engine : Nat)
  /-- `LINK_RETRAIN` (R221): LINK_CTL.RETRAIN is written; the messages in flight on the link. -/
  | linkRetrain (die link : Nat) (lost : List Msg)
  /-- `LINK_TRAINING_DONE` (R221): a training attempt ends with a measured latency in link cycles. -/
  | linkTrainingDone (die link cyc : Nat)
  /-- `FLIT_RECEIPT` (R222): a flit reaches the die on a link: data, or a header or VC 0 flit that carries msg; the
  wrong bits of its four 72-bit quarters. -/
  | flitReceipt (die link : Nat) (isData : Bool) (masks : List Nat) (msg : List Msg)
  /-- `SAP_ENABLE` (R234): SAP_CFG of a section (0 receive, 1 transmit) is written with EN = 1 and these fields. -/
  | sapEnable (die port sec cfg : Nat)
  /-- `SAP_DISABLE` (R257): SAP_CFG is written with EN = 0. -/
  | sapDisable (die port sec : Nat)
  /-- `SAP_STOP` (R257): the current frame of a disabled section ends. -/
  | sapStop (die port sec : Nat)
  /-- `SAP_FRAME_START` (R235): FS of a slave section changes to this level, this many BCLKs after the previous frame
  start. -/
  | sapFrameStart (die port sec bclks fs : Nat)
  /-- `SAP_RX_FRAME` (R246): a receive frame with these slots of W bits completes. -/
  | sapRxFrame (die port : Nat) (words : List Nat)
  /-- `SAP_TX_FRAME_START` (R246): a transmit frame starts on the pins. -/
  | sapTxFrameStart (die port : Nat)
  /-- `GROUP_SLIP_MESSAGE` (R253): a group slip reaches the die that is not the anchor. -/
  | groupSlipMessage (die group : Nat) (drop : Bool)
  /-- `SAP_LOST_TIMEOUT` (R249): no frame start for two frame periods. -/
  | sapLostTimeout (die port sec : Nat)
  /-- `SLOTMASK_STAGE` (R245): SAP_SLOTMASK_NEXT is written. -/
  | slotmaskStage (die port sec mask : Nat)
  /-- `MEDIA_CLOCK_LOCK_START` (R262): DOM_CFG is written with MCEN = 1 and these fields. -/
  | mediaClockLockStart (dom rate ring : Nat)
  /-- `MEDIA_CLOCK_STOP` (R262): DOM_CFG is written with MCEN = 0 and these fields. -/
  | mediaClockStop (dom rate ring : Nat)
  /-- `MEDIA_CLOCK_LOCKED` (R262): the synthesizer's lock completes. -/
  | mediaClockLocked (dom : Nat)
  /-- `BRIDGE_ENABLE` (R268): BR_CFG of a local bridge is written with EN = 1 and these fields. -/
  | bridgeEnable (die bridge cfg : Nat)
  /-- `BRIDGE_DISABLE` (R275): BR_CFG is written with EN = 0. -/
  | bridgeDisable (die bridge : Nat)
  /-- `BRIDGE_OFF` (R275): the output block in progress of a disabled bridge is finished. -/
  | bridgeOff (die bridge : Nat)
  /-- `BRIDGE_TRACK_LOCK` (R273): the delay of a TRACK bridge has held for 1 s; its measured ratio, 4.28. -/
  | bridgeTrackLock (die bridge ratio : Nat)
  /-- `REF_RAW_CHANGE` (R280): a reference pin (gpio 0) or a GPIO input of an iguana die (gpio 1) takes a raw level.
  -/
  | refRawChange (gpio die input level : Nat)
  /-- `INPUT_EDGE_ACCEPT` (R280): the raw level has held for GFLT, or an internal reference's edge is taken; its
  signed phase in ns against the DPLL output, and the differences (frame output, signed 0.5 ns) at outputs whose edge
  position it falls on. -/
  | inputEdgeAccept (gpio die input phase : Nat) (errs : List (Nat × Nat))
  /-- `REF_LOS` (R281): no accepted asserting edge for two nominal periods. -/
  | refLos (ref : Nat)
  /-- `REF_STUCK` (R281): an accepted level has stayed asserted beyond STUCKTO. -/
  | refStuck (gpio die input : Nat)
  /-- `MONITOR_GATE_END` (R281): a gate ends; the frequency measured, signed ppt. -/
  | monitorGateEnd (gpio die input freq : Nat)
  /-- `REF_QUALIFY` (R282): the reference has been clean for its hold-off. -/
  | refQualify (ref : Nat)
  /-- `REFSEL_CONFIG_WRITE` (R284): RANK of reference `which` below 10 is written, or REFSEL_CFG (10). -/
  | refselConfigWrite (which value : Nat)
  /-- `REF_ENABLE` (R298): REF_CFG is written with EN = 1 and these fields. -/
  | refEnable (ref pol rank : Nat)
  /-- `DPLL_LOCK` (R285): the phase has held within LOCKWIN for LOCKTIME. -/
  | dpllLock
  /-- `DPLL_UNLOCK` (R285): the phase has been beyond LOCKWIN for 1 s. -/
  | dpllUnlock
  /-- `HOLDOVER_UPDATE` (R292): 100 ms of lock more. -/
  | holdoverUpdate
  /-- `XO_LOST` (R293): XO_IN has stopped for 1 µs or left its range. -/
  | xoLost
  /-- `XO_RESTORE` (R293): XO_IN has been good for 10 s; the phase difference of the two sources, signed ns. -/
  | xoRestore (phase : Nat)
  /-- `FRAME_OUT_ENABLE` (R295): FO_CFG is written with EN = 1 and these fields. -/
  | frameOutEnable (out pol square src : Nat)
  /-- `FRAME_OUT_DISABLE` (R295): FO_CFG is written with EN = 0. -/
  | frameOutDisable (out : Nat)
  /-- `FRAME_OUT_REALIGN` (R296): FO_CTL.REALIGN is written, or FO_OFFSET (write 1). -/
  | frameOutRealign (out write offset : Nat)
  /-- `MDLL_RELOCK` (R302): MDLL_CTL.RELOCK is written on a die; what was in flight on its links, by link. -/
  | mdllRelock (die : Nat) (lost : List (Nat × Msg))
  /-- `MDLL_SEARCH_END` (R302): a band search ends in a band, its control word at a limit (1) or not. -/
  | mdllSearchEnd (die band limit : Nat)
  /-- `MDLL_LOCK_COMPLETE` (R302): the lock completes with this phase error, signed ps. -/
  | mdllLockComplete (die pherr : Nat)
  /-- `MDLL_LOL` (R304): the phase error has exceeded 100 ps on 8 cycles. -/
  | mdllLol (die : Nat) (lost : List (Nat × Msg))
  /-- `MDLL_REFLOSS` (R304): no REFCLK100 edge for 25 ns. -/
  | mdllRefloss (die : Nat) (lost : List (Nat × Msg))
  /-- `REFCLK_RETURN` (R304): 1,000 good REFCLK100 edges. -/
  | refclkReturn (die : Nat)
  /-- `MAC_MODE_WRITE` (R312): MAC_CFG of a local MAC is written. -/
  | macModeWrite (die mac cfg : Nat)
  /-- `ANRESTART` (R312): MAC_CTL.ANRESTART is written. -/
  | anrestart (die mac : Nat)
  /-- `MAC_LINK_CHANGE` (R313): the link of the lane comes up or falls. -/
  | macLinkChange (die mac up : Nat)
  /-- `TXQ_PI_WRITE` (R323): TXQ_PI of a ring is written. -/
  | txqPiWrite (die mac queue idx : Nat)
  /-- `MAC_FRAME_ADMIT` (R314): the next frame of a host ring (stream 0), or the packet of local stream (stream − 1)
  on offer. -/
  | macFrameAdmit (die mac queue stream : Nat)
  /-- `MAC_TX_START` (R315): the MAC may start a frame; the error of its stamp, 5 ns less. -/
  | macTxStart (die mac dev : Nat)
  /-- `MAC_TX_COMPLETE` (R318): the frame has left the line. -/
  | macTxComplete (die mac : Nat)
  /-- `PAUSE_EXPIRY` (R316): the pause time has elapsed. -/
  | pauseExpiry (die mac : Nat)
  /-- `LAUNCH_TIME_REACHED` (R317): the PHC reaches the launch time of the queue's head frame. -/
  | launchTimeReached (die mac queue : Nat)
  /-- `MAC_RESET` (R319): MAC_CTL.RESET is written; the write burst of MAC DMA in progress (len 0 none). -/
  | macReset (die mac addr len : Nat) (beats : List Nat)
  /-- `CLR_TSOVF` (R325): MAC_CTL.CLR_TSOVF is written. -/
  | clrTsovf (die mac : Nat)
  /-- `TSF_POP` (R325): MAC_TSF_INFO is read. -/
  | tsfPop (die mac : Nat)
  /-- `MAC_RX_FRAME` (R320): a frame with its FCS has been received; the error of its stamp, 5 ns less. -/
  | macRxFrame (die mac : Nat) (frame : List Nat) (err full dev : Nat)
  /-- `STREAM_TX_ENABLE` (R328): STX_CFG of a local stream is written with EN = 1 and these fields. -/
  | streamTxEnable (die stream dom mac queue : Nat)
  /-- `STREAM_RX_ENABLE` (R328): SRX_CFG of a local stream is written with EN = 1 and these fields. -/
  | streamRxEnable (die stream dom mask srcchk : Nat)
  /-- `STREAM_DISABLE` (R335): EN of a transmit (rx 0) or receive stream is written 0. -/
  | streamDisable (die rx stream : Nat)
  /-- `STREAM_STOP` (R335): the packet in progress of a disabled stream is finished. -/
  | streamStop (die rx stream : Nat)
  /-- `SERVO_OFFSET_WRITE` (R341): the high word of SERVO_OFFSET is written; the offset, signed 2⁻¹⁶ ns; whether a
  STEP_ACK is accepted in the same cycle. -/
  | servoOffsetWrite (theta : Nat) (ack : Bool)
  /-- `STEP_ACK` (R343): SERVO_CTL.STEP_ACK is written. -/
  | stepAck
  /-- `SERVO_CLR` (R343): SERVO_CTL.CLR is written. -/
  | servoClr
  /-- `PHC_SET` (R343): PTP_CTL.SET is written on an iguana die. -/
  | phcSet (die : Nat)
  /-- `PHC_SNAP` (R340): PTP_CTL.SNAP is written on an iguana die. -/
  | phcSnap (die : Nat)
  /-- `PHC_CHANGE_APPLY` (R339): the scheduled edge of a change of F (bit 0) or of a step (bit 1). -/
  | phcChangeApply (what : Nat)
  /-- `PHC_SLAVE_CHECK` (R339): the 1 ms check of die 7's copy. -/
  | phcSlaveCheck
  /-- `SERVO_HOLD` (R342): no offset for TIMEOUT × 100 ms. -/
  | servoHold
  /-- `TSYNC_ARM` (R347): TS_CFG is written with EN = 1 and these fields. -/
  | tsyncArm (out periodic pol : Nat)
  /-- `TSYNC_DISABLE` (R347): TS_CFG is written with EN = 0. -/
  | tsyncDisable (out : Nat)
  /-- `TSYNC_FIRE` (R347): the PHC reaches the output's programmed time. -/
  | tsyncFire (out : Nat)
  /-- `TSYNC_PULSE_END` (R347): the pulse has lasted TS_WIDTH. -/
  | tsyncPulseEnd (out : Nat)
  /-- `BIRAY_LINK_UP` (R354): all four lanes of a port's receive direction hold lock and alignment. -/
  | birayLinkUp (die : Nat)
  /-- `BIRAY_LINK_DOWN` (R354): a lane is lost for 1 µs, or no frame came for 10 µs; the lanes still locked. -/
  | birayLinkDown (die lanes : Nat)
  /-- `BIRAY_RETRAIN` (R354): BIRAY_CTL.RETRAIN is written on a port's die. -/
  | birayRetrain (die : Nat)
  /-- `KEEPALIVE_SEND` (R354): a port's direction has carried nothing for 2 µs. -/
  | keepaliveSend (die : Nat)
  /-- `FRAME_CRC_FAIL` (R355): a frame whose CRC fails arrives at a port. -/
  | frameCrcFail (die : Nat)
  /-- `KEEPALIVE` (R356): a KEEPALIVE frame arrives, 0 at the west port, 1 at the east port. -/
  | keepalive (dir : Nat)
  /-- `DELAY` (R354): a DELAY frame arrives; with REPLY = 1 the measured round trip in ns. -/
  | delay (dir reply trip : Nat)
  /-- `ENUM` (R360): an ENUM frame arrives. -/
  | enum (dir : Nat) (frame : BFrame)
  /-- `JOIN` (R362): a JOIN frame arrives. -/
  | join (dir : Nat) (frame : BFrame)
  /-- `ASSIGN` (R362): an ASSIGN frame arrives. -/
  | assign (dir : Nat) (frame : BFrame)
  /-- `TIME` (R366): a TIME frame arrives, at SYSCNT `stamp`; its residence in 2⁻¹⁶ ns. -/
  | time (dir : Nat) (frame : BFrame) (stamp resid : Nat)
  /-- `HEALTH` (R372): a HEALTH frame arrives. -/
  | health (dir : Nat) (frame : BFrame)
  /-- `COMMIT` (R368): a COMMIT frame arrives. -/
  | commitFrame (dir : Nat) (frame : BFrame)
  /-- `PARTIAL` (R369): a PARTIAL frame arrives. -/
  | partialFrame (dir : Nat) (frame : BFrame)
  /-- `MREQ` (R365): an MREQ frame arrives, for `len` bytes. -/
  | mreq (dir : Nat) (frame : BFrame) (len : Nat)
  /-- `MRSP` (R365): an MRSP frame arrives. -/
  | mrsp (dir : Nat) (frame : BFrame)
  /-- `MIRROR` (R380): a MIRROR frame arrives. -/
  | mirror (dir : Nat) (frame : BFrame)
  /-- `UNDEFINED_FRAME_TYPE` (R356): a frame of an undefined type arrives. -/
  | undefinedFrameType (dir type : Nat) (frame : BFrame)
  /-- `RING_STEP` (R463): the ring step of start-up begins. -/
  | ringStep
  /-- `ENUM_TIMEOUT` (R360): the head's token has not returned within 1 ms. -/
  | enumTimeout
  /-- `ENUM_WAIT_TIMEOUT` (R361): 100 ms have passed since the ring step. -/
  | enumWaitTimeout
  /-- `RING_REENUMERATE` (R362): RING_CTL.ENUM is written. -/
  | ringReenumerate
  /-- `TIME_FRAME_SEND` (R366): a 1 ms tick of the DPLL output; what of each domain's sample, in 2⁻³² sample, has
  elapsed within the tick's nanosecond. -/
  | timeFrameSend (pa pb pc : Nat)
  /-- `HEALTH_TIMER` (R372): 1 ms has passed while domain A's epochs are stopped. -/
  | healthTimer
  /-- `RING_UNWRAP` (R364): a port's link has been UP for 100 ms without a break. -/
  | ringUnwrap (die : Nat)
  /-- `REMOTE_ACCESS_TIMEOUT` (R365): 100 µs have passed without the MRSP of a tag. -/
  | remoteAccessTimeout (tag : Nat)
  /-- `DOMCNT_ALIGN` (R367): the media edge at which an alignment that waits lands. -/
  | domcntAlign (dom : Nat) (meas : List BridgeRatio)
  /-- `HEALTH_COPY_SEND` (R374): 2 µs have passed since the HEALTH frame with TAKEOVER. -/
  | healthCopySend
  /-- `ACTIVATE` (R370): PAIR_CTL.ACTIVATE is written. -/
  | activate
  /-- `TAKEOVER` (R374): PAIR_CTL.TAKEOVER is written. -/
  | takeover
  /-- `PAIR_SNAP_ARM` (R380): PAIR_CTL.SNAP_ARM is written. -/
  | pairSnapArm
  /-- `PAIR_SNAP_CANCEL` (R380): PAIR_CTL.SNAP_CANCEL is written. -/
  | pairSnapCancel
  /-- `PAIRID_WRITE` (R370): PAIR_CFG is written with these fields. -/
  | pairidWrite (pairid auto isoyield : Nat)
  /-- `RESYNC_ACK_DEADLINE` (R380): DOMCNT A reaches T_A − B. -/
  | resyncAckDeadline
  /-- `MIRROR_APPLY` (R380): the standby has drained its epoch T_d − B and writes the data it holds. -/
  | mirrorApply (dom : Nat)
  /-- `TAIL_SHED` (R388): the gill writes AXO_TAIL_CTL.RESET = 1; the tail's write burst in progress: address, beats
  (0 none), beats accepted. -/
  | tailShed (addr len : Nat) (beats : List Nat)
  /-- `TAIL_IMAGE_LOADED` (R388): the tail image has been read and measured: its SHA-384, whether its signature
  verifies, the bytes for private memory and for the carve-out. -/
  | tailImageLoaded (hash : List Nat) (good : Bool) (priv carve : List Nat)
  /-- `TAIL_RESET_RELEASE` (R388): the gill writes AXO_TAIL_CTL.RESET = 0. -/
  | tailResetRelease
  /-- `RESTART_TAIL` (R390): HP_GILLREQ.RESTART_TAIL is written 1. -/
  | restartTail
  /-- `PCIE_MEMORY_REQUEST` (R393): a memory request of `n` dwords at a bus address, with its byte enables and data.
  -/
  | pcieMemoryRequest (addr : Nat) (write : Bool) (n en data : Nat)
  /-- `FLR` (R395): a function-level or hot reset; the host bridge's write burst in progress: address, beats (0 none),
  beats accepted. -/
  | flr (addr len : Nat) (beats : List Nat)
  /-- `PCIE_PERST` (R395): PCIE_PERST_N changes to a level; the burst in progress as for FLR. -/
  | pciePerst (level addr len : Nat) (beats : List Nat)
  /-- `MSIX_UNMASK` (R407): a vector's mask bit is cleared; 32 is the function mask. -/
  | msixUnmask (vector : Nat)
  /-- `HOST_IPEND_CLEAR` (R407): HOST_IPEND is written; the sources whose events fall in the same cycle. -/
  | hostIpendClear (mask events : Nat)
  /-- `HOST_EVT_WRITE` (R406): HOST_EVT is written. -/
  | hostEvtWrite (evt : Nat)
  /-- `RD0` (R396): whole words read and nibbles of one more; the words whose nibbles come late (R505). -/
  | rd0 (offset words nibbles : Nat) (late : List Nat)
  /-- `WR0` (R396): whole words written and nibbles of one more. -/
  | wr0 (offset : Nat) (data : List Nat) (nibbles : Nat)
  /-- `RD2` (R396): as RD0, of BAR2. -/
  | rd2 (offset words nibbles : Nat) (late : List Nat)
  /-- `WR2` (R396): as WR0, of BAR2. -/
  | wr2 (offset : Nat) (data : List Nat) (nibbles : Nat)
  /-- `STAT` (R396): QSPI_STATUS is read, with nibbles of a repetition left. -/
  | stat (nibbles : Nat)
  /-- `BAD_COMMAND` (R396): a command byte that is not listed. -/
  | badCommand (cmd : Nat)
  /-- `QSPI_CS_RISE` (R398): CS_N rises. -/
  | qspiCsRise
  /-- `MBX_PI_WRITE` (R403): MBX_PI of a ring is written by a master of a class; whether the command before wrote the
  ring's other index in the same cycle. -/
  | mbxPiWrite (ring idx cls : Nat) (tie : Bool)
  /-- `MBX_CI_WRITE` (R403): MBX_CI of a ring is written by a master of a class; whether the command before wrote the
  ring's other index in the same cycle. -/
  | mbxCiWrite (ring idx cls : Nat) (tie : Bool)
  /-- `UNKNOWN_OPCODE` (R414): CSF takes the front command of a pair, whose opcode it does not know. -/
  | unknownOpcode (pair : Nat)
  /-- `SYS_INFO` (R418): CSF takes this command, the front one of a pair. -/
  | sysInfo (pair : Nat)
  /-- `SYS_STATUS` (R418): CSF takes this command, the front one of a pair. -/
  | sysStatus (pair : Nat)
  /-- `SYS_EVENTS` (R416): CSF takes this command, the front one of a pair. -/
  | sysEvents (pair : Nat)
  /-- `SYS_RESTART_TAIL` (R418): CSF takes this command, the front one of a pair. -/
  | sysRestartTail (pair : Nat)
  /-- `SYS_ECHO` (R418): CSF takes this command, the front one of a pair. -/
  | sysEcho (pair : Nat)
  /-- `GRAPH_LOAD_BEGIN` (R432): CSF takes this command, the front one of a pair. -/
  | graphLoadBegin (pair : Nat)
  /-- `GRAPH_LOAD_DATA` (R432): CSF takes this command, the front one of a pair. -/
  | graphLoadData (pair : Nat)
  /-- `GRAPH_LOAD_END` (R432): CSF takes this command: what the loaded file tells, whether it was built for this part
  and firmware, whether the partner of a pair places it too. -/
  | graphLoadEnd (pair : Nat) (image : GraphImage) (fits partnerOk : Bool)
  /-- `GRAPH_START` (R433): CSF takes this command, the front one of a pair. -/
  | graphStart (pair : Nat)
  /-- `GRAPH_STOP` (R433): CSF takes this command, the front one of a pair. -/
  | graphStop (pair : Nat)
  /-- `GRAPH_QUERY_LATENCY` (R434): CSF takes this command, the front one of a pair. -/
  | graphQueryLatency (pair : Nat)
  /-- `GRAPH_QUERY_BRIDGE` (R418): CSF takes this command, the front one of a pair. -/
  | graphQueryBridge (pair : Nat)
  /-- `TX_BEGIN` (R420): CSF takes this command, the front one of a pair. -/
  | txBegin (pair : Nat)
  /-- `TX_SET` (R427): CSF takes this command, the front one of a pair. -/
  | txSet (pair : Nat)
  /-- `TX_COMMIT_AT` (R421): CSF takes this command; what other units answer to its accesses, in order. -/
  | txCommitAt (pair : Nat) (far : List FarAnswer)
  /-- `TX_ARM` (R421): CSF arms the next queued transaction of a domain; what other units answer to its accesses, in
  order. -/
  | txArm (dom : Nat) (far : List FarAnswer)
  /-- `CATCH_UP` (R422): CSF does the catch-up of the domain's committed transaction; what other units answer to its
  accesses, in order. -/
  | catchUp (dom : Nat) (far : List FarAnswer)
  /-- `TX_ABORT` (R424): CSF takes this command; what other units answer to its accesses, in order. -/
  | txAbort (pair : Nat) (far : List FarAnswer)
  /-- `TX_STATUS` (R418): CSF takes this command, the front one of a pair. -/
  | txStatus (pair : Nat)
  /-- `PARAM_GET` (R427): CSF takes this command, the front one of a pair. -/
  | paramGet (pair : Nat)
  /-- `SCENE_STORE` (R429): CSF takes this command; what other units answer to its accesses, in order. -/
  | sceneStore (pair : Nat) (far : List FarAnswer)
  /-- `SCENE_RECALL` (R430): CSF takes this command; what other units answer to its accesses, in order. -/
  | sceneRecall (pair : Nat) (far : List FarAnswer)
  /-- `SCENE_DELETE` (R418): CSF takes this command, the front one of a pair. -/
  | sceneDelete (pair : Nat)
  /-- `SCENE_LIST` (R418): CSF takes this command, the front one of a pair. -/
  | sceneList (pair : Nat)
  /-- `ROUTE_SET` (R428): CSF takes this command; what other units answer to its accesses, in order. -/
  | routeSet (pair : Nat) (far : List FarAnswer)
  /-- `ROUTE_GET` (R427): CSF takes this command, the front one of a pair. -/
  | routeGet (pair : Nat)
  /-- `ROUTE_XFLEN` (R428): CSF takes this command; what other units answer to its accesses, in order. -/
  | routeXflen (pair : Nat) (far : List FarAnswer)
  /-- `METER_SNAPSHOT` (R431): CSF takes this command, the front one of a pair. -/
  | meterSnapshot (pair : Nat)
  /-- `METER_READ` (R431): CSF takes this command, the front one of a pair. -/
  | meterRead (pair : Nat)
  /-- `CLK_DOMAIN_SET` (R418): CSF takes this command, the front one of a pair. -/
  | clkDomainSet (pair : Nat)
  /-- `CLK_REF_SET` (R418): CSF takes this command, the front one of a pair. -/
  | clkRefSet (pair : Nat)
  /-- `CLK_SEL_SET` (R418): CSF takes this command, the front one of a pair. -/
  | clkSelSet (pair : Nat)
  /-- `CLK_STATUS` (R418): CSF takes this command, the front one of a pair. -/
  | clkStatus (pair : Nat)
  /-- `NET_MAC_SET` (R418): CSF takes this command, the front one of a pair. -/
  | netMacSet (pair : Nat)
  /-- `NET_PTP_SET` (R418): CSF takes this command, the front one of a pair. -/
  | netPtpSet (pair : Nat)
  /-- `NET_STREAM_TX` (R418): CSF takes this command; what other units answer to its accesses, in order. -/
  | netStreamTx (pair : Nat) (far : List FarAnswer)
  /-- `NET_STREAM_RX` (R418): CSF takes this command, the front one of a pair. -/
  | netStreamRx (pair : Nat)
  /-- `NET_STATUS` (R418): CSF takes this command, the front one of a pair. -/
  | netStatus (pair : Nat)
  /-- `PAIR_SET` (R418): CSF takes this command, the front one of a pair. -/
  | pairSet (pair : Nat)
  /-- `PAIR_ACTIVATE` (R418): CSF takes this command, the front one of a pair. -/
  | pairActivate (pair : Nat)
  /-- `PAIR_TAKEOVER` (R418): CSF takes this command, the front one of a pair. -/
  | pairTakeover (pair : Nat)
  /-- `PAIR_RESYNC` (R418): CSF takes this command, the front one of a pair. -/
  | pairResync (pair : Nat)
  /-- `PAIR_STATUS` (R418): CSF takes this command, the front one of a pair. -/
  | pairStatus (pair : Nat)
  /-- `FAULT_LIST` (R454): CSF takes this command, the front one of a pair. -/
  | faultList (pair : Nat)
  /-- `FAULT_ACK` (R454): CSF takes this command, the front one of a pair. -/
  | faultAck (pair : Nat)
  /-- `FAULT_INJECT` (R454): CSF takes this command, the front one of a pair. -/
  | faultInject (pair : Nat)
  /-- `FAULT_CLEAR` (R454): CSF takes this command, the front one of a pair. -/
  | faultClear (pair : Nat)
  /-- `FAULT_SERVICE` (R448): CSF serves the interrupt line of a set. -/
  | faultService (die set : Nat)
  /-- `FLT_STATUS_ACK` (R445): FLT_STATUS.ACK of a set is written 1; whether an escalating raise, and the end of the
  level's timer, fall in the same cycle. -/
  | fltStatusAck (die set : Nat) (raise expiry : Bool)
  /-- `ACK2` (R445): the gill writes FLT_ESC.ACK2 of a set; whether an escalating raise falls in the same cycle. -/
  | ack2 (die set : Nat) (raise : Bool)
  /-- `CLR3` (R445): the gill writes FLT_ESC.CLR3 of a set. -/
  | clr3 (die set : Nat)
  /-- `GRACE_T1_EXPIRY` (R444): T1 of a set expires. -/
  | graceT1Expiry (die set : Nat)
  /-- `GRACE_T2_EXPIRY` (R444): T2 of a set expires. -/
  | graceT2Expiry (die set : Nat)
  /-- `GILL_L2_CHECK` (R449): the gill examines a set at L2. -/
  | gillL2Check (die set : Nat)
  /-- `THERM_TRIP` (R451): a sensor reads 125 °C or more, in signed 1/8 °C; what was in flight on the die's links is
  lost. -/
  | thermTrip (die sensor tj : Nat) (lost : List (Nat × Msg))
  /-- `THERMAL_THRESHOLD` (R452): a sensor's reading, signed 1/8 °C; what was in flight on the die's links, by link.
  -/
  | thermalThreshold (die sensor tj : Nat) (lost : List (Nat × Msg))
  /-- `VMON_THRESHOLD` (R452): a rail's reading in mV. -/
  | vmonThreshold (die rail mv : Nat)
  /-- `PORST_ASSERT` (R461): PORST_N falls. -/
  | porstAssert
  /-- `PORST_RELEASE` (R459): PORST_N rises: the straps as sampled, whether stage 2 of each image set verifies, and
  the bytes of the one accepted. -/
  | porstRelease (bootsrc head hostsel test : Nat) (good1 good2 : Bool) (stage2 : List Nat)
  /-- `PFAIL_ACCEPT` (R470): PFAIL_N has been low for 1 µs. -/
  | pfailAccept
  /-- `SNAPSHOT_PROGRAM_DONE` (R472): the snapshot's page program completes. -/
  | snapshotProgramDone
  /-- `SNAPSHOT_ERASE` (R472): PFAIL_N has been high for 10 ms and stage 2 erases a page. -/
  | snapshotErase
  /-- `SLEEP_ENTRY` (R475): a falling SLEEP_N has been low for 1 µs. -/
  | sleepEntry
  /-- `PCIE_LINK_CHANGE` (R412): the link enters or leaves L0, by a reset of R395 or not. -/
  | pcieLinkChange (up speed width : Nat) (byReset : Bool)
  /-- `PCIE_CONFIG_REQUEST` (R392): a configuration register, by the number of its 32-bit word, is read or written. -/
  | pcieConfigRequest (reg : Nat) (write : Bool) (data : Nat)
  /-- `RING_PRESENT_EXPIRY` (R362): no HEALTH frame came from an address for 10 ms. -/
  | ringPresentExpiry (addr : Nat)
  /-- `SNAPSHOT_ERASE_DONE` (R472): the erase completes. -/
  | snapshotEraseDone
  /-- `FRAME_OUT_EDGE` (R295): the output's next edge position is reached. -/
  | frameOutEdge (out : Nat)
  /-- `MDLL_LOCK_TIMEOUT` (R464): at boot, no lock 1 ms after RELOCK. -/
  | mdllLockTimeout (die : Nat)
  /-- `SENSOR_SELF_CHECK_FAILURE` (R452): a sensor fails its self-check. -/
  | sensorSelfCheckFailure (die sensor : Nat)
deriving DecidableEq, Repr

end Sys2Proof
end

