-- ==== Sys2Proof/Decode.lean ====
section
/-! DEFINITION. The decoder of the host's question. The command table gives no row any bits: a command is no word. -/

namespace Sys2Proof

/-- The command a table word spells: none, since no row of the table has an encoding. -/
def decodeTableWord (_nbits _w : Nat) : Option Instr := none

end Sys2Proof
end

