-- ==== Sys2Proof/Machine/Bytes.lean ====
section
/-! DEFINITION. Lists of bytes, and the CRC-32. -/

namespace Sys2Proof.Machine

/-- `n` bytes of a number, the least significant first. -/
def natBytes : Nat → Nat → List Nat
  | 0, _ => []
  | n + 1, v => v % 256 :: natBytes n (v / 256)

/-- Bytes as a number, the first the least significant. -/
def bytesNat : List Nat → Nat
  | [] => 0
  | b :: t => b + 256 * bytesNat t

/-- Bytes as a number, the first the most significant (network order). -/
def netNat (l : List Nat) : Nat := l.foldl (fun v b => v * 256 + b) 0

/-- `n` bytes of a number in network order. -/
def netBytes (n v : Nat) : List Nat := (natBytes n v).reverse

/-- A slice of a byte list. -/
def slice (l : List Nat) (a n : Nat) : List Nat := (l.drop a).take n

/-- A byte list with some of its bytes replaced. -/
def patch (l : List Nat) (a : Nat) (new : List Nat) : List Nat := l.take a ++ new ++ l.drop (a + new.length)

/-- One bit of the CRC-32 of IEEE 802.3, reflected. -/
def crcBit (c : Nat) : Nat := if c % 2 = 1 then c / 2 ^^^ 0xEDB88320 else c / 2

/-- One byte. -/
def crcByte (c b : Nat) : Nat :=
  crcBit (crcBit (crcBit (crcBit (crcBit (crcBit (crcBit (crcBit (c ^^^ b))))))))

/-- The CRC-32 of IEEE 802.3. PRESUMED from that standard (log entry 36). -/
def crc32 (l : List Nat) : Nat := l.foldl crcByte 0xFFFFFFFF ^^^ 0xFFFFFFFF

/-- A byte list of `n` numbers of `w` bytes each, the least significant byte first. -/
def packBytes (w : Nat) (l : List Nat) : List Nat := (l.map (natBytes w)).flatten

end Sys2Proof.Machine
end

