-- ==== Sys2Proof/Config.lean ====
section
/-! DEFINITION. What a part fixes and the spec leaves open: constants with no body, so that no proof can lean on a value. -/

namespace Sys2Proof.Config

/-- The device identity the fuses of this part hold (RING_DEVID, R383): fixed per part, no value in the spec. -/
opaque deviceId : Nat

/-- The PCI-SIG vendor ID the fuses of this part hold (R392). -/
opaque vendorId : Nat

/-- Whether the fuses of this part demand a signed tail image (AXO_STATUS.TAILSIGN, R410). -/
opaque tailSign : Nat

/-- A value the spec leaves open, fresh for each number drawn: the machine draws number `freeCtr` and advances it. -/
opaque freeValue : Nat → Nat

/-- Sign and significand of the NaN an accumulator takes (R79 fixes neither), of the accumulator and the two factors. -/
opaque accNan : Nat → Nat → Nat → Nat

/-- INSTANCE of a fault whose code has none in the code table (R457). -/
opaque noInstance : Nat

/-- What the check of R186 makes of three or more wrong bits, of the stored data and the error mask. -/
opaque multiBit : Nat → Nat → Nat

/-- Whether the addend of the PHC (R337), of the frequency word, is the next multiple of 2⁻⁴⁰ ns above, where it is none. -/
opaque phcUp : Int → Bool

/-- Whether a servo product (R341), of the exact product in 2⁻²⁴ ppt, becomes the next whole ppt above, where it is none. -/
opaque servoUp : Int → Bool

/-- Whether the delay of a bridge in 2⁻¹⁶ samples of another domain (R434), of its numerator and denominator, becomes the next whole
number above, where it is none: odd for yes. -/
opaque delayUp : Nat → Nat → Nat

/-- Whether an average of the DPLL's frequency word (R292), of sum and count, becomes the next whole ppt above, where it is none. -/
opaque meanUp : Int → Nat → Bool

/-- The coefficient of a bridge's filter (R270), an fp32 word: of the RATE codes of source and target, the position between two source
samples in 2⁻²⁴, and the place of the sample in the filter. -/
opaque brCoeff : Nat → Nat → Nat → Nat → Nat

/-- How far the delay of an EXACT bridge lies above the nominal (R272), in 2⁻¹⁶ target samples: of its alignment pair and the RATE codes
of source and target. -/
opaque brPhase : Nat → Nat → Nat → Nat → Nat

/-- Whether BR_RATIO of two RATE codes, where it is no multiple of 2⁻²⁸, becomes the next one above: odd for yes. -/
opaque brRatioUp : Nat → Nat → Nat

/-- Bytes CSF takes to store a scene (R429), of its elements. -/
opaque sceneBytes : Nat → Nat

end Sys2Proof.Config
end

