-- ==== Sys2Proof/Machine/Fld.lean ====
section
/-! DEFINITION. The names of the machine's cells: one constructor of `Fld` for every field of every register
the spec gives (register and field name as the spec has them), then one for every piece of state the spec gives the
machine without a register of its own. A cell is addressed by its name, the die that holds it and an instance
number; `Fld.width` is its width in bits and `Fld.reset` its value at reset. -/

namespace Sys2Proof.Machine

/-- The name of a cell. Instance numbers count from 0 in the spec's order; where a register has two strides the outer
one counts first; a register of a per-newt, per-clutch or per-MAC block counts the block first. -/
inductive Fld where
  /-- TB_SYSCNT.COUNT [63:0], RO (R63). -/
  | TB_SYSCNT
  /-- TB_DOMCNT.COUNT [63:0], RO (R63). -/
  | TB_DOMCNT
  /-- TB_GEN.GEN [31:0], RO (R63). -/
  | TB_GEN
  /-- TB_STATUS.SYNC [0], RO (R63). -/
  | TB_STATUS_SYNC
  /-- TB_STATUS.RUN [3:1], RO (R63). -/
  | TB_STATUS_RUN
  /-- EPOCH_CFG.EN [0], RW (R64). -/
  | EPOCH_CFG_EN
  /-- EPOCH_CFG.BSIZE [2:1], RWL (R64). -/
  | EPOCH_CFG_BSIZE
  /-- EPOCH_STATUS.RUN [0], RO (R64). -/
  | EPOCH_STATUS_RUN
  /-- EPOCH_STATUS.DRAINED [1], RO (R64). -/
  | EPOCH_STATUS_DRAINED
  /-- EPOCH_STATUS.DIE_DRAINED [15:8], RO (R64). -/
  | EPOCH_STATUS_DIE_DRAINED
  /-- EPOCH_STATUS.LATE [16], RO (R64). -/
  | EPOCH_STATUS_LATE
  /-- EPOCH_STATUS.OVERRUN [17], W1C (R64). -/
  | EPOCH_STATUS_OVERRUN
  /-- EPOCH_STATUS.SKIPPED [18], W1C (R64). -/
  | EPOCH_STATUS_SKIPPED
  /-- EPOCH_CUR.BOUNDARY [63:0], RO (R64). -/
  | EPOCH_CUR
  /-- EPOCH_LATE_CNT.COUNT [31:0], RO (R64). -/
  | EPOCH_LATE_CNT
  /-- EPOCH_SKIP_CNT.COUNT [31:0], RO (R64). -/
  | EPOCH_SKIP_CNT
  /-- EPOCH_DRAIN_LAST.NS [31:0], RO (R64). -/
  | EPOCH_DRAIN_LAST
  /-- EPOCH_DRAIN_MAX.NS [31:0], RC (R64). -/
  | EPOCH_DRAIN_MAX
  /-- EPOCH_COMMIT_AT.T [63:0], RW (R64). -/
  | EPOCH_COMMIT_AT
  /-- EPOCH_SNAP_AT.T [63:0], RW (R64). -/
  | EPOCH_SNAP_AT
  /-- EPOCH_CTL.COMMIT_ARM [0], WO (R64). -/
  | EPOCH_CTL_COMMIT_ARM
  /-- EPOCH_CTL.COMMIT_CANCEL [1], WO (R64). -/
  | EPOCH_CTL_COMMIT_CANCEL
  /-- EPOCH_CTL.SNAP_ARM [2], WO (R64). -/
  | EPOCH_CTL_SNAP_ARM
  /-- EPOCH_CTL.SNAP_CANCEL [3], WO (R64). -/
  | EPOCH_CTL_SNAP_CANCEL
  /-- EPOCH_CSTAT.COMMIT_PEND [0], RO (R64). -/
  | EPOCH_CSTAT_COMMIT_PEND
  /-- EPOCH_CSTAT.COMMIT_DONE [1], W1C (R64). -/
  | EPOCH_CSTAT_COMMIT_DONE
  /-- EPOCH_CSTAT.BADALIGN [2], W1C (R64). -/
  | EPOCH_CSTAT_BADALIGN
  /-- EPOCH_CSTAT.TOOLATE [3], W1C (R64). -/
  | EPOCH_CSTAT_TOOLATE
  /-- EPOCH_CSTAT.REFUSED [4], W1C (R64). -/
  | EPOCH_CSTAT_REFUSED
  /-- EPOCH_CSTAT.SPLIT [5], W1C (R64). -/
  | EPOCH_CSTAT_SPLIT
  /-- EPOCH_CSTAT.SNAP_PEND [8], RO (R64). -/
  | EPOCH_CSTAT_SNAP_PEND
  /-- EPOCH_CSTAT.SNAP_DONE [9], W1C (R64). -/
  | EPOCH_CSTAT_SNAP_DONE
  /-- EPOCH_CSTAT.SNAP_BAD [10], W1C (R64). -/
  | EPOCH_CSTAT_SNAP_BAD
  /-- EPOCH_SNAP_SRC.BOUNDARY [63:0], RO (R64). -/
  | EPOCH_SNAP_SRC
  /-- NEWT_CFG.LOOPSEL [0], RWL (R99). -/
  | NEWT_CFG_LOOPSEL
  /-- NEWT_CFG.DBGEN [1], RW (R99). -/
  | NEWT_CFG_DBGEN
  /-- NEWT_CTL.PARK_REQ [0], WO (R99). -/
  | NEWT_CTL_PARK_REQ
  /-- NEWT_CTL.UNPARK [1], WO (R99). -/
  | NEWT_CTL_UNPARK
  /-- NEWT_CTL.HALT_REQ [2], WO (R99). -/
  | NEWT_CTL_HALT_REQ
  /-- NEWT_CTL.RESUME [3], WO (R99). -/
  | NEWT_CTL_RESUME
  /-- NEWT_CTL.STEP [4], WO (R99). -/
  | NEWT_CTL_STEP
  /-- NEWT_CTL.ABORT [5], WO (R99). -/
  | NEWT_CTL_ABORT
  /-- NEWT_CTL.CLR_CNT [6], WO (R99). -/
  | NEWT_CTL_CLR_CNT
  /-- NEWT_STATUS.STATE [2:0], RO (R100). -/
  | NEWT_STATUS_STATE
  /-- NEWT_STATUS.CFGLOCK [3], RO (R100). -/
  | NEWT_STATUS_CFGLOCK
  /-- NEWT_STATUS.INREPT [4], RO (R100). -/
  | NEWT_STATUS_INREPT
  /-- NEWT_STATUS.HALT_PEND [5], RO (R100). -/
  | NEWT_STATUS_HALT_PEND
  /-- NEWT_STATUS.PARK_PEND [6], RO (R100). -/
  | NEWT_STATUS_PARK_PEND
  /-- NEWT_STATUS.ABORTED [7], W1C (R100). -/
  | NEWT_STATUS_ABORTED
  /-- NEWT_STATUS.MISALIGN [8], W1C (R100). -/
  | NEWT_STATUS_MISALIGN
  /-- NEWT_STATUS.HALT_IGN [9], W1C (R100). -/
  | NEWT_STATUS_HALT_IGN
  /-- NEWT_STATUS.LOOPDEPTH [14:12], RO (R100). -/
  | NEWT_STATUS_LOOPDEPTH
  /-- NEWT_TASK.SLOT [7:0], RO (R100). -/
  | NEWT_TASK_SLOT
  /-- NEWT_TASK.DOMAIN [9:8], RO (R100). -/
  | NEWT_TASK_DOMAIN
  /-- NEWT_TASK.COPY [10], RO (R100). -/
  | NEWT_TASK_COPY
  /-- NEWT_TASK.NEWT [15:11], RO (R100). -/
  | NEWT_TASK_NEWT
  /-- NEWT_TASK.FLOW [25:16], RO (R100). -/
  | NEWT_TASK_FLOW
  /-- NEWT_TASK.PRIO [30:26], RO (R100). -/
  | NEWT_TASK_PRIO
  /-- NEWT_PC.PC [14:2], RO (R100). -/
  | NEWT_PC
  /-- NEWT_FPFLAGS.V [7:0], W1C (R100). -/
  | NEWT_FPFLAGS_V
  /-- NEWT_FPFLAGS.O [15:8], W1C (R100). -/
  | NEWT_FPFLAGS_O
  /-- NEWT_FPFLAGS.U [23:16], W1C (R100). -/
  | NEWT_FPFLAGS_U
  /-- NEWT_BKPT.EN [0], RW (R100). -/
  | NEWT_BKPT_EN
  /-- NEWT_BKPT.ADDR [14:2], RW (R100). -/
  | NEWT_BKPT_ADDR
  /-- NEWT_BUSY.CYCLES [63:0], RO (R100). -/
  | NEWT_BUSY
  /-- NEWT_TASKS.COUNT [31:0], RO (R100). -/
  | NEWT_TASKS
  /-- NEWT_STALL_SB.CYCLES [31:0], RO (R100). -/
  | NEWT_STALL_SB
  /-- NEWT_STALL_MEM.CYCLES [31:0], RO (R100). -/
  | NEWT_STALL_MEM
  /-- NEWT_STALL_FAB.CYCLES [31:0], RO (R100). -/
  | NEWT_STALL_FAB
  /-- NEWT_STALL_DONE.CYCLES [31:0], RO (R100). -/
  | NEWT_STALL_DONE
  /-- NEWT_ECC.CE_CNT [15:0], RO (R100). -/
  | NEWT_ECC_CE_CNT
  /-- NEWT_ECC.DMEM_UE [16], W1C (R100). -/
  | NEWT_ECC_DMEM_UE
  /-- NEWT_ECC.PMEM_UE [17], W1C (R100). -/
  | NEWT_ECC_PMEM_UE
  /-- NEWT_ECC.CE_CLR [18], WO (R100). -/
  | NEWT_ECC_CE_CLR
  /-- NEWT_BADADDR.ADDR [31:0], RO (R100). -/
  | NEWT_BADADDR
  /-- NEWT_RST.GO [0], WO (R100). -/
  | NEWT_RST
  /-- DBG_V.VAL [31:0], RW (R98). -/
  | DBG_V
  /-- DBG_ACC.VAL [63:0], RW (R98). -/
  | DBG_ACC
  /-- DBG_S.VAL [31:0], RW (R98). -/
  | DBG_S
  /-- DBG_A.VAL [31:0], RW (R98). -/
  | DBG_A
  /-- DBG_B.VAL [31:0], RW (R98). -/
  | DBG_B
  /-- DBG_L.VAL [31:0], RW (R98). -/
  | DBG_L
  /-- DBG_M.VAL [31:0], RW (R98). -/
  | DBG_M
  /-- DBG_P.VAL [7:0], RW (R98). -/
  | DBG_P
  /-- TONGUE_POST.FLAGS [30:0], W1S (R156). -/
  | TONGUE_POST_FLAGS
  /-- TONGUE_POST.EPOCH [31], RO (R156). -/
  | TONGUE_POST_EPOCH
  /-- TONGUE_CFG.AFFWIN [15:0], RW (R156). -/
  | TONGUE_CFG_AFFWIN
  /-- TONGUE_CFG.CLR_CNT [16], WO (R156). -/
  | TONGUE_CFG_CLR_CNT
  /-- TONGUE_STATUS.QUEUED [8:0], RO (R156). -/
  | TONGUE_STATUS_QUEUED
  /-- TONGUE_STATUS.INSVC [12:9], RO (R156). -/
  | TONGUE_STATUS_INSVC
  /-- TONGUE_STATUS.POSTDIS_CNT [31:16], RC (R156). -/
  | TONGUE_STATUS_POSTDIS_CNT
  /-- CROAK_BASE.BASE [22:16], RWL (R156). -/
  | CROAK_BASE
  /-- CROAK_CFG.EN [0], RW (R156). -/
  | CROAK_CFG_EN
  /-- CROAK_CFG.SKIPLOG [1], RW (R156). -/
  | CROAK_CFG_SKIPLOG
  /-- CROAK_CFG.FREEZE_LATE [2], RW (R156). -/
  | CROAK_CFG_FREEZE_LATE
  /-- CROAK_CFG.FROZEN [3], W1C (R156). -/
  | CROAK_CFG_FROZEN
  /-- CROAK_CFG.FREEZE [4], WO (R156). -/
  | CROAK_CFG_FREEZE
  /-- CROAK_WPTR.IDX [11:0], RO (R156). -/
  | CROAK_WPTR
  /-- CROAK_SEQ.SEQ [31:0], RO (R156). -/
  | CROAK_SEQ
  /-- CROAK_DROP.COUNT [31:0], RC (R156). -/
  | CROAK_DROP
  /-- NAFF_HIT.COUNT [31:0], RO (R156). -/
  | NAFF_HIT
  /-- NAFF_MISS.COUNT [31:0], RO (R156). -/
  | NAFF_MISS
  /-- Q_DEPTH.DEPTH [8:0], RO (R156). -/
  | Q_DEPTH
  /-- Q_HWM.DEPTH [8:0], RC (R156). -/
  | Q_HWM
  /-- Q_WAIT_MAX.CYCLES [31:0], RC (R156). -/
  | Q_WAIT_MAX
  /-- Q_WAIT_SUM.CYCLES [63:0], RO (R156). -/
  | Q_WAIT_SUM
  /-- Q_DISP.COUNT [31:0], RO (R156). -/
  | Q_DISP
  /-- TDOM_STATUS.IDLE [0], RO (R156). -/
  | TDOM_STATUS_IDLE
  /-- TDOM_STATUS.QUEUED [9:1], RO (R156). -/
  | TDOM_STATUS_QUEUED
  /-- TDOM_STATUS.INSVC [13:10], RO (R156). -/
  | TDOM_STATUS_INSVC
  /-- DOM_STATUS.MLOCK [0], RO (R274). -/
  | DOM_STATUS_MLOCK
  /-- DOM_STATUS.BADRATE [1], W1C (R274). -/
  | DOM_STATUS_BADRATE
  /-- DOM_STATUS.RINGMIS [2], W1C (R274). -/
  | DOM_STATUS_RINGMIS
  /-- DOM_STATUS.AHEAD [3], W1C (R274). -/
  | DOM_STATUS_AHEAD
  /-- DOM_STATUS.RINGERR [4], W1C (R274). -/
  | DOM_STATUS_RINGERR
  /-- DOM_DRAIN_LAST.NS [31:0], RO (R156). -/
  | DOM_DRAIN_LAST
  /-- DOM_DRAIN_MAX.NS [31:0], RC (R156). -/
  | DOM_DRAIN_MAX
  /-- DOM_LATE.COUNT [31:0], RO (R156). -/
  | DOM_LATE
  /-- DOM_MERGED.COUNT [31:0], RO (R156). -/
  | DOM_MERGED
  /-- SLOT_CTRL.EN [0], RW (R156). -/
  | SLOT_CTRL_EN
  /-- SLOT_CTRL.MODE [1], RWL (R156). -/
  | SLOT_CTRL_MODE
  /-- SLOT_CTRL.PRIO [6:2], RWL (R156). -/
  | SLOT_CTRL_PRIO
  /-- SLOT_CTRL.DOMAIN [8:7], RWL (R156). -/
  | SLOT_CTRL_DOMAIN
  /-- SLOT_CTRL.FLOW [18:9], RWL (R156). -/
  | SLOT_CTRL_FLOW
  /-- SLOT_MASK.MASK [31:0], RWL (R156). -/
  | SLOT_MASK
  /-- SLOT_FLAGS.FLAGS [31:0], RO (R156). -/
  | SLOT_FLAGS
  /-- SLOT_PEND.PEND [31:0], RO (R156). -/
  | SLOT_PEND
  /-- SLOT_ENTRY.PC [14:2], RWL (R156). -/
  | SLOT_ENTRY
  /-- SLOT_ARG.ARG [31:0], RWL (R156). -/
  | SLOT_ARG
  /-- SLOT_STATE.STATE [1:0], RO (R156). -/
  | SLOT_STATE_STATE
  /-- SLOT_STATE.AFFV [2], RO (R156). -/
  | SLOT_STATE_AFFV
  /-- SLOT_STATE.LASTNEWT [5:3], RO (R156). -/
  | SLOT_STATE_LASTNEWT
  /-- SLOT_CLR.FLAGS [0], WO (R156). -/
  | SLOT_CLR_FLAGS
  /-- SLOT_CLR.PEND [1], WO (R156). -/
  | SLOT_CLR_PEND
  /-- SLOT_CLR.AFF [2], WO (R156). -/
  | SLOT_CLR_AFF
  /-- TONGUE_FLOWMAP.BUSY [31:0], RO (R156). -/
  | TONGUE_FLOWMAP
  /-- CHORUS_CFG.EN [0], RW (R182). -/
  | CHORUS_CFG_EN
  /-- CHORUS_CFG.XFLEN [8:4], RW (R182). -/
  | CHORUS_CFG_XFLEN
  /-- CHORUS_STATUS.BUSY [0], RO (R182). -/
  | CHORUS_STATUS_BUSY
  /-- CHORUS_STATUS.GROUP [8:1], RO (R182). -/
  | CHORUS_STATUS_GROUP
  /-- CHORUS_XP_BASE.BASE [24:16], RWL (R182). -/
  | CHORUS_XP_BASE
  /-- CHORUS_XP_CNT.COUNT [16:0], RWL (R182). -/
  | CHORUS_XP_CNT
  /-- CHORUS_KICKOFS.OFS [22:10], RWL (R182). -/
  | CHORUS_KICKOFS
  /-- CHORUS_KICK.GROUP [7:0], WO (R182). -/
  | CHORUS_KICK
  /-- CHORUS_XSAMP.COUNT [63:0], RO (R182). -/
  | CHORUS_XSAMP
  /-- CHORUS_SAT_CNT.COUNT [31:0], RC (R182). -/
  | CHORUS_SAT_CNT
  /-- CHORUS_NAN_CNT.COUNT [31:0], RC (R182). -/
  | CHORUS_NAN_CNT
  /-- CHORUS_BADXP_CNT.COUNT [31:0], RC (R182). -/
  | CHORUS_BADXP_CNT
  /-- CHORUS_XKICK_CNT.COUNT [31:0], RC (R182). -/
  | CHORUS_XKICK_CNT
  /-- CHORUS_GRPMISS_CNT.COUNT [31:0], RC (R182). -/
  | CHORUS_GRPMISS_CNT
  /-- CHORUS_BADPART_CNT.COUNT [31:0], RC (R182). -/
  | CHORUS_BADPART_CNT
  /-- CHORUS_INCOMP_CNT.COUNT [31:0], RC (R182). -/
  | CHORUS_INCOMP_CNT
  /-- GRP_RANGE.FIRST [14:0], RWL (R182). -/
  | GRP_RANGE_FIRST
  /-- GRP_RANGE.COUNT [31:16], RWL (R182). -/
  | GRP_RANGE_COUNT
  /-- GRP_CFG.EN [0], RW (R182). -/
  | GRP_CFG_EN
  /-- GRP_CFG.DOMAIN [2:1], RWL (R182). -/
  | GRP_CFG_DOMAIN
  /-- GRP_CFG.STAGE [5:3], RWL (R182). -/
  | GRP_CFG_STAGE
  /-- GRP_CFG.NKICK [13:6], RWL (R182). -/
  | GRP_CFG_NKICK
  /-- GRP_STAT.KICKS [7:0], RO (R182). -/
  | GRP_STAT_KICKS
  /-- GRP_STAT.RAN [8], RO (R182). -/
  | GRP_STAT_RAN
  /-- GRP_STAT.MISS [9], W1C (R182). -/
  | GRP_STAT_MISS
  /-- BUS_CFG.EN [0], RW (R182). -/
  | BUS_CFG_EN
  /-- BUS_CFG.DOMAIN [2:1], RWL (R182). -/
  | BUS_CFG_DOMAIN
  /-- BUS_CFG.TX [3], RWL (R182). -/
  | BUS_CFG_TX
  /-- BUS_CFG.STAGE [6:4], RWL (R182). -/
  | BUS_CFG_STAGE
  /-- BUS_HOME.UNIT [3:0], RWL (R182). -/
  | BUS_HOME_UNIT
  /-- BUS_HOME.DIE [6:4], RWL (R182). -/
  | BUS_HOME_DIE
  /-- BUS_HOME.EXPECT [14:8], RWL (R182). -/
  | BUS_HOME_EXPECT
  /-- BUS_DEST.ADDR [24:5], RWL (R182). -/
  | BUS_DEST
  /-- BUS_CONS.TARGET [17:0], RWL (R182). -/
  | BUS_CONS_TARGET
  /-- BUS_CONS.CEN [18], RWL (R182). -/
  | BUS_CONS_CEN
  /-- BUS_CONS.KGRP [26:19], RWL (R182). -/
  | BUS_CONS_KGRP
  /-- BUS_CONS.KEN [27], RWL (R182). -/
  | BUS_CONS_KEN
  /-- BUS_CFLAGS.FLAGS [30:0], RWL (R182). -/
  | BUS_CFLAGS
  /-- BUS_STAT.SAT [0], W1C (R182). -/
  | BUS_STAT_SAT
  /-- BUS_STAT.NAN [1], W1C (R182). -/
  | BUS_STAT_NAN
  /-- BUS_STAT.INCOMP [2], W1C (R182). -/
  | BUS_STAT_INCOMP
  /-- BUS_STAT.LATE [3], W1C (R182). -/
  | BUS_STAT_LATE
  /-- BUS_STAT.RANGE [4], W1C (R182). -/
  | BUS_STAT_RANGE
  /-- BUS_STAT.RCVD [22:16], RO (R182). -/
  | BUS_STAT_RCVD
  /-- LF_CTL.START [0], WO (R205). -/
  | LF_CTL_START
  /-- LF_CTL.ABORT [1], WO (R205). -/
  | LF_CTL_ABORT
  /-- LF_CTL.MODE [2], RW (R205). -/
  | LF_CTL_MODE
  /-- LF_CTL.ALL [3], RW (R205). -/
  | LF_CTL_ALL
  /-- LF_CTL.NEWTS [4], RW (R205). -/
  | LF_CTL_NEWTS
  /-- LF_CTL.BANK [15:8], RW (R205). -/
  | LF_CTL_BANK
  /-- LF_STATUS.BUSY [0], RO (R205). -/
  | LF_STATUS_BUSY
  /-- LF_STATUS.DONE [1], W1C (R205). -/
  | LF_STATUS_DONE
  /-- LF_STATUS.REFUSED [2], W1C (R205). -/
  | LF_STATUS_REFUSED
  /-- LF_STATUS.ABORTED [3], W1C (R205). -/
  | LF_STATUS_ABORTED
  /-- LF_STATUS.OFFLINE [4], RO (R205). -/
  | LF_STATUS_OFFLINE
  /-- LF_STATUS.BANK [15:8], RO (R205). -/
  | LF_STATUS_BANK
  /-- LF_FAIL.WADDR [20:0], RO (R205). -/
  | LF_FAIL_WADDR
  /-- LF_FAIL.VALID [31], W1C (R205). -/
  | LF_FAIL_VALID
  /-- LF_FAIL.BIT [39:32], RO (R205). -/
  | LF_FAIL_BIT
  /-- BANK_COLL.WADDR [20:0], RO (R205). -/
  | BANK_COLL_WADDR
  /-- BANK_COLL.KIND [22:21], RO (R205). -/
  | BANK_COLL_KIND
  /-- BANK_COLL.VALID [31], W1C (R205). -/
  | BANK_COLL_VALID
  /-- BANK_COLL.AMASTER [39:32], RO (R205). -/
  | BANK_COLL_AMASTER
  /-- BANK_COLL.BMASTER [47:40], RO (R205). -/
  | BANK_COLL_BMASTER
  /-- BANK_COLL_OVF.COUNT [31:0], RC (R205). -/
  | BANK_COLL_OVF
  /-- BANK_TORN.WADDR [20:0], RO (R205). -/
  | BANK_TORN_WADDR
  /-- BANK_TORN.VALID [31], W1C (R205). -/
  | BANK_TORN_VALID
  /-- BANK_TORN.MASTER [39:32], RO (R205). -/
  | BANK_TORN_MASTER
  /-- BANK_TORN.WRITTEN [44:40], RO (R205). -/
  | BANK_TORN_WRITTEN
  /-- BANK_TORN.LEN [49:45], RO (R205). -/
  | BANK_TORN_LEN
  /-- BANK_ECCLOG.WADDR [20:0], RO (R205). -/
  | BANK_ECCLOG_WADDR
  /-- BANK_ECCLOG.HALF [21], RO (R205). -/
  | BANK_ECCLOG_HALF
  /-- BANK_ECCLOG.VALID [31], W1C (R205). -/
  | BANK_ECCLOG_VALID
  /-- BANK_ECCLOG.BIT [38:32], RO (R205). -/
  | BANK_ECCLOG_BIT
  /-- BANK_ECCLOG.UE [39], RO (R205). -/
  | BANK_ECCLOG_UE
  /-- BANK_ECCLOG.PORT [40], RO (R205). -/
  | BANK_ECCLOG_PORT
  /-- BANK_ECCLOG.MERGE [41], RO (R205). -/
  | BANK_ECCLOG_MERGE
  /-- BANK_ECCLOG.INJ [42], RO (R205). -/
  | BANK_ECCLOG_INJ
  /-- BANK_INJ_SEL.BANK [7:0], RW (R205). -/
  | BANK_INJ_SEL_BANK
  /-- BANK_INJ_SEL.HALF [9:8], RW (R205). -/
  | BANK_INJ_SEL_HALF
  /-- BANK_INJ_SEL.MASK [23:16], RW (R205). -/
  | BANK_INJ_SEL_MASK
  /-- LF_FUSE.BANK [7:0], RW (R205). -/
  | LF_FUSE_BANK
  /-- LF_FUSE.BURN [8], WO (R205). -/
  | LF_FUSE_BURN
  /-- LF_FUSE.BUSY [9], RO (R205). -/
  | LF_FUSE_BUSY
  /-- LF_FUSE.DONE [10], W1C (R205). -/
  | LF_FUSE_DONE
  /-- LF_FUSE.ERR [11], W1C (R205). -/
  | LF_FUSE_ERR
  /-- LF_NEWT_FAIL.FAIL [31:0], W1C (R205). -/
  | LF_NEWT_FAIL
  /-- BANK_STAT.RESULT [1:0], RO (R205). -/
  | BANK_STAT_RESULT
  /-- BANK_STAT.NEWROWS [4:2], RO (R205). -/
  | BANK_STAT_NEWROWS
  /-- BANK_STAT.OFFLINE [5], RO (R205). -/
  | BANK_STAT_OFFLINE
  /-- BANK_STAT.UE [6], W1C (R205). -/
  | BANK_STAT_UE
  /-- BANK_STAT.TORN [7], W1C (R205). -/
  | BANK_STAT_TORN
  /-- BANK_CE.CE_CNT [15:0], RC (R205). -/
  | BANK_CE_CE_CNT
  /-- BANK_CE.UE_CNT [31:16], RC (R205). -/
  | BANK_CE_UE_CNT
  /-- BANK_REPAIR.ROW_LO [8:0], RO (R205). -/
  | BANK_REPAIR_ROW_LO
  /-- BANK_REPAIR.ROW_HI [24:16], RO (R205). -/
  | BANK_REPAIR_ROW_HI
  /-- BANK_REPAIR.FUSED_LO [14], RO (R205). -/
  | BANK_REPAIR_FUSED_LO
  /-- BANK_REPAIR.FUSED_HI [30], RO (R205). -/
  | BANK_REPAIR_FUSED_HI
  /-- BANK_REPAIR.VALID_LO [15], RO (R205). -/
  | BANK_REPAIR_VALID_LO
  /-- BANK_REPAIR.VALID_HI [31], RO (R205). -/
  | BANK_REPAIR_VALID_HI
  /-- FAB_STAT.UP [3:0], RO (R226). -/
  | FAB_STAT_UP
  /-- FAB_STAT.TORN_CNT [31:16], RC (R226). -/
  | FAB_STAT_TORN_CNT
  /-- FAB_DERR.ADDR [31:0], RO (R226). -/
  | FAB_DERR_ADDR
  /-- FAB_DERR.DIE [35:32], RO (R226). -/
  | FAB_DERR_DIE
  /-- FAB_DERR.UNIT [39:36], RO (R226). -/
  | FAB_DERR_UNIT
  /-- FAB_DERR.PORT [44:40], RO (R226). -/
  | FAB_DERR_PORT
  /-- FAB_DERR.ORIGIN [47:45], RO (R226). -/
  | FAB_DERR_ORIGIN
  /-- FAB_DERR.CLASS [51:48], RO (R226). -/
  | FAB_DERR_CLASS
  /-- FAB_DERR.WRITE [52], RO (R226). -/
  | FAB_DERR_WRITE
  /-- FAB_DERR.CAUSE [54:53], RO (R226). -/
  | FAB_DERR_CAUSE
  /-- FAB_DERR.VALID [63], W1C (R226). -/
  | FAB_DERR_VALID
  /-- FAB_DERR_OVF.COUNT [31:0], RC (R226). -/
  | FAB_DERR_OVF
  /-- FAB_PERR.ADDR [31:0], RO (R226). -/
  | FAB_PERR_ADDR
  /-- FAB_PERR.DIE [35:32], RO (R226). -/
  | FAB_PERR_DIE
  /-- FAB_PERR.UNIT [39:36], RO (R226). -/
  | FAB_PERR_UNIT
  /-- FAB_PERR.PORT [44:40], RO (R226). -/
  | FAB_PERR_PORT
  /-- FAB_PERR.ORIGIN [47:45], RO (R226). -/
  | FAB_PERR_ORIGIN
  /-- FAB_PERR.CLASS [51:48], RO (R226). -/
  | FAB_PERR_CLASS
  /-- FAB_PERR.WRITE [52], RO (R226). -/
  | FAB_PERR_WRITE
  /-- FAB_PERR.CAUSE [54:53], RO (R226). -/
  | FAB_PERR_CAUSE
  /-- FAB_PERR.VALID [63], W1C (R226). -/
  | FAB_PERR_VALID
  /-- FAB_PERR_OVF.COUNT [31:0], RC (R226). -/
  | FAB_PERR_OVF
  /-- DMA_KICKOFS.EN [0], RW (R226). -/
  | DMA_KICKOFS_EN
  /-- DMA_KICKOFS.OFS [22:10], RWL (R226). -/
  | DMA_KICKOFS_OFS
  /-- FAB_PARK.MASTER [4:0], RW (R226). -/
  | FAB_PARK_MASTER
  /-- FAB_PARK.EN [5], RW (R226). -/
  | FAB_PARK_EN
  /-- FAB_PRIO.T0 [2:0], RW (R226). -/
  | FAB_PRIO_T0
  /-- FAB_PRIO.T1 [6:4], RW (R226). -/
  | FAB_PRIO_T1
  /-- FAB_PRIO.T2 [10:8], RW (R226). -/
  | FAB_PRIO_T2
  /-- FAB_PRIO.T3 [14:12], RW (R226). -/
  | FAB_PRIO_T3
  /-- FAB_PRIO.T4 [18:16], RW (R226). -/
  | FAB_PRIO_T4
  /-- FAB_PRIO.T5 [22:20], RW (R226). -/
  | FAB_PRIO_T5
  /-- FAB_PRIO.T6 [26:24], RW (R226). -/
  | FAB_PRIO_T6
  /-- FAB_PRIO.T7 [30:28], RW (R226). -/
  | FAB_PRIO_T7
  /-- FAB_PRIO.T8 [34:32], RW (R226). -/
  | FAB_PRIO_T8
  /-- FAB_PRIO.T9 [38:36], RW (R226). -/
  | FAB_PRIO_T9
  /-- FAB_PRIO.T10 [42:40], RW (R226). -/
  | FAB_PRIO_T10
  /-- FAB_PERM.PERM [35:0], RW (R226). -/
  | FAB_PERM
  /-- LINK_STATUS.STATE [1:0], RO (R226). -/
  | LINK_STATUS_STATE
  /-- LINK_STATUS.TRIES [3:2], RO (R226). -/
  | LINK_STATUS_TRIES
  /-- LINK_STATUS.ABSENT [4], RO (R226). -/
  | LINK_STATUS_ABSENT
  /-- LINK_CTL.RETRAIN [0], WO (R226). -/
  | LINK_CTL
  /-- LINK_CE.CE_CNT [15:0], RC (R226). -/
  | LINK_CE_CE_CNT
  /-- LINK_CE.UE_CNT [31:16], RC (R226). -/
  | LINK_CE_UE_CNT
  /-- LINK_LAT.CYC [5:0], RO (R226). -/
  | LINK_LAT
  /-- DMA_START.ABORT [0], WO (R226). -/
  | DMA_START_ABORT
  /-- DMA_START.DESC [24:5], WO (R226). -/
  | DMA_START_DESC
  /-- DMA_STATUS.BUSY [0], RO (R226). -/
  | DMA_STATUS_BUSY
  /-- DMA_STATUS.QDEPTH [4:1], RO (R226). -/
  | DMA_STATUS_QDEPTH
  /-- DMA_STATUS.ERR [5], W1C (R226). -/
  | DMA_STATUS_ERR
  /-- DMA_STATUS.KOVF [6], W1C (R226). -/
  | DMA_STATUS_KOVF
  /-- DMA_CUR.DESC [24:5], RO (R226). -/
  | DMA_CUR
  /-- DMA_ERRADDR.ADDR [39:0], RO (R226). -/
  | DMA_ERRADDR_ADDR
  /-- DMA_ERRADDR.VALID [63], W1C (R226). -/
  | DMA_ERRADDR_VALID
  /-- SAP_CFG.EN [0], RW (R256). -/
  | SAP_CFG_EN
  /-- SAP_CFG.MASTER [1], RWL (R256). -/
  | SAP_CFG_MASTER
  /-- SAP_CFG.DOMAIN [3:2], RWL (R256). -/
  | SAP_CFG_DOMAIN
  /-- SAP_CFG.BREN [4], RWL (R256). -/
  | SAP_CFG_BREN
  /-- SAP_CFG.BRIDGE [11:5], RWL (R256). -/
  | SAP_CFG_BRIDGE
  /-- SAP_CFG.PGEN [12], RWL (R256). -/
  | SAP_CFG_PGEN
  /-- SAP_CFG.PGRP [16:13], RWL (R256). -/
  | SAP_CFG_PGRP
  /-- SAP_CFG.HIZ [17], RWL (R256). -/
  | SAP_CFG_HIZ
  /-- SAP_CFG.DITHEN [18], RWL (R256). -/
  | SAP_CFG_DITHEN
  /-- SAP_FMT.MODE [1:0], RWL (R256). -/
  | SAP_FMT_MODE
  /-- SAP_FMT.SLOTS [6:2], RWL (R256). -/
  | SAP_FMT_SLOTS
  /-- SAP_FMT.SWIDTH [8:7], RWL (R256). -/
  | SAP_FMT_SWIDTH
  /-- SAP_FMT.DWIDTH [10:9], RWL (R256). -/
  | SAP_FMT_DWIDTH
  /-- SAP_FMT.BCKPOL [11], RWL (R256). -/
  | SAP_FMT_BCKPOL
  /-- SAP_FMT.FSPOL [12], RWL (R256). -/
  | SAP_FMT_FSPOL
  /-- SAP_FMT.FSDLY [13], RWL (R256). -/
  | SAP_FMT_FSDLY
  /-- SAP_SLOTMASK.MASK [31:0], RO (R256). -/
  | SAP_SLOTMASK
  /-- SAP_SLOTMASK_NEXT.MASK [31:0], RW (R256). -/
  | SAP_SLOTMASK_NEXT
  /-- SAP_BUF.BASE [23:10], RWL (R256). -/
  | SAP_BUF
  /-- SAP_STATUS.STATE [2:0], RO (R256). -/
  | SAP_STATUS_STATE
  /-- SAP_STATUS.DRIVE [3], RO (R256). -/
  | SAP_STATUS_DRIVE
  /-- SAP_STATUS.LEVEL [6:4], RO (R256). -/
  | SAP_STATUS_LEVEL
  /-- SAP_STATUS.BADCFG [7], W1C (R256). -/
  | SAP_STATUS_BADCFG
  /-- SAP_STATUS.RESYNC [8], W1C (R256). -/
  | SAP_STATUS_RESYNC
  /-- SAP_STATUS.GSPLIT [9], W1C (R256). -/
  | SAP_STATUS_GSPLIT
  /-- SAP_STATUS.MASKPEND [10], RO (R256). -/
  | SAP_STATUS_MASKPEND
  /-- SAP_SLIP_DROP.FRAMES [31:0], RC (R256). -/
  | SAP_SLIP_DROP
  /-- SAP_SLIP_REP.FRAMES [31:0], RC (R256). -/
  | SAP_SLIP_REP
  /-- SAP_SLIP_UNDR.FRAMES [31:0], RC (R256). -/
  | SAP_SLIP_UNDR
  /-- SAP_FERR.COUNT [31:0], RC (R256). -/
  | SAP_FERR
  /-- SAP_LOST.SAMPLES [31:0], RC (R256). -/
  | SAP_LOST
  /-- SAP_DITHER.SEED [31:0], RWL (R256). -/
  | SAP_DITHER
  /-- PG_CFG.EN [0], RW (R256). -/
  | PG_CFG_EN
  /-- PG_CFG.REFPORT [6:1], RWL (R256). -/
  | PG_CFG_REFPORT
  /-- PG_CFG.REFDIR [7], RWL (R256). -/
  | PG_CFG_REFDIR
  /-- PG_STAT.ANCHOR [0], RO (R256). -/
  | PG_STAT_ANCHOR
  /-- PG_STAT.SPLIT [1], W1C (R256). -/
  | PG_STAT_SPLIT
  /-- PG_STAT.MEMBERS [7:2], RO (R256). -/
  | PG_STAT_MEMBERS
  /-- PG_DROP.COUNT [31:0], RC (R256). -/
  | PG_DROP
  /-- PG_REP.COUNT [31:0], RC (R256). -/
  | PG_REP
  /-- DOM_CFG.RATE [3:0], RWL (R274). -/
  | DOM_CFG_RATE
  /-- DOM_CFG.RING [4], RWL (R274). -/
  | DOM_CFG_RING
  /-- DOM_CFG.MCEN [5], RWL (R274). -/
  | DOM_CFG_MCEN
  /-- DOM_RPHASE.NS [31:0], RO (R274). -/
  | DOM_RPHASE
  /-- BR_CFG.EN [0], RW (R274). -/
  | BR_CFG_EN
  /-- BR_CFG.SRCDOM [2:1], RWL (R274). -/
  | BR_CFG_SRCDOM
  /-- BR_CFG.DSTDOM [4:3], RWL (R274). -/
  | BR_CFG_DSTDOM
  /-- BR_CFG.SRCRATE [8:5], RWL (R274). -/
  | BR_CFG_SRCRATE
  /-- BR_CFG.ALIGNSET [9], RWL (R274). -/
  | BR_CFG_ALIGNSET
  /-- BR_STATUS.STATE [1:0], RO (R274). -/
  | BR_STATUS_STATE
  /-- BR_STATUS.BADCFG [2], W1C (R274). -/
  | BR_STATUS_BADCFG
  /-- BR_STATUS.CONFLICT [3], W1C (R274). -/
  | BR_STATUS_CONFLICT
  /-- BR_STATUS.RANGE [4], W1C (R274). -/
  | BR_STATUS_RANGE
  /-- BR_DELAY.SAMPLES [31:0], RO (R274). -/
  | BR_DELAY
  /-- BR_RATIO.RATIO [31:0], RO (R274). -/
  | BR_RATIO
  /-- BR_ALIGN_N.COUNT [31:0], RWL (R274). -/
  | BR_ALIGN_N
  /-- BR_ALIGN_S.COUNT [31:0], RWL (R274). -/
  | BR_ALIGN_S
  /-- BR_IBUF.BASE [23:10], RWL (R274). -/
  | BR_IBUF
  /-- BR_OBUF.BASE [23:10], RWL (R274). -/
  | BR_OBUF
  /-- BR_UNDR.BLOCKS [31:0], RC (R274). -/
  | BR_UNDR
  /-- BR_LOST.SAMPLES [31:0], RC (R274). -/
  | BR_LOST
  /-- REFSEL_CFG.MODE [1:0], RW (R298). -/
  | REFSEL_CFG_MODE
  /-- REFSEL_CFG.REVERT [2], RW (R298). -/
  | REFSEL_CFG_REVERT
  /-- REFSEL_CFG.FORCEIDX [6:3], RW (R298). -/
  | REFSEL_CFG_FORCEIDX
  /-- REFSEL_STATUS.SEL [3:0], RO (R298). -/
  | REFSEL_STATUS_SEL
  /-- REFSEL_STATUS.SWITCHING [4], RO (R298). -/
  | REFSEL_STATUS_SWITCHING
  /-- DPLL_CFG.BW [3:0], RW (R298). -/
  | DPLL_CFG_BW
  /-- DPLL_CFG.PBO_HIT [4], RW (R298). -/
  | DPLL_CFG_PBO_HIT
  /-- DPLL_CFG.REALIGN [5], RW (R298). -/
  | DPLL_CFG_REALIGN
  /-- DPLL_CFG.SLEW [15:6], RW (R298). -/
  | DPLL_CFG_SLEW
  /-- DPLL_CFG.INITALIGN [16], RW (R298). -/
  | DPLL_CFG_INITALIGN
  /-- DPLL_STATUS.STATE [1:0], RO (R298). -/
  | DPLL_STATUS_STATE
  /-- DPLL_STATUS.HOVALID [2], RO (R298). -/
  | DPLL_STATUS_HOVALID
  /-- DPLL_STATUS.XOSRC [3], RO (R298). -/
  | DPLL_STATUS_XOSRC
  /-- DPLL_STATUS.BWEFF [7:4], RO (R298). -/
  | DPLL_STATUS_BWEFF
  /-- DPLL_STATUS.REALIGNING [8], RO (R298). -/
  | DPLL_STATUS_REALIGNING
  /-- DPLL_HIST.FREE_RUN [0], W1C (R298). -/
  | DPLL_HIST_FREE_RUN
  /-- DPLL_HIST.ACQUIRE [1], W1C (R298). -/
  | DPLL_HIST_ACQUIRE
  /-- DPLL_HIST.LOCKED [2], W1C (R298). -/
  | DPLL_HIST_LOCKED
  /-- DPLL_HIST.HOLDOVER [3], W1C (R298). -/
  | DPLL_HIST_HOLDOVER
  /-- DPLL_HIST.XO_LOST [4], W1C (R298). -/
  | DPLL_HIST_XO_LOST
  /-- DPLL_FREQ.PPT [31:0], RO (R298). -/
  | DPLL_FREQ
  /-- DPLL_HOFREQ.PPT [31:0], RO (R298). -/
  | DPLL_HOFREQ
  /-- DPLL_PBO.NS [31:0], RO (R298). -/
  | DPLL_PBO
  /-- REFSEL_DISC.PPT [31:0], RW (R298). -/
  | REFSEL_DISC
  /-- REFSEL_SWCNT.COUNT [31:0], RC (R298). -/
  | REFSEL_SWCNT
  /-- DPLL_LOCK.LOCKWIN [15:0], RW (R298). -/
  | DPLL_LOCK_LOCKWIN
  /-- DPLL_LOCK.LOCKTIME [23:16], RW (R298). -/
  | DPLL_LOCK_LOCKTIME
  /-- DPLL_LOCK.HITTH [31:24], RW (R298). -/
  | DPLL_LOCK_HITTH
  /-- DPLL_IEN.FREE_RUN [0], RW (R298). -/
  | DPLL_IEN_FREE_RUN
  /-- DPLL_IEN.ACQUIRE [1], RW (R298). -/
  | DPLL_IEN_ACQUIRE
  /-- DPLL_IEN.LOCKED [2], RW (R298). -/
  | DPLL_IEN_LOCKED
  /-- DPLL_IEN.HOLDOVER [3], RW (R298). -/
  | DPLL_IEN_HOLDOVER
  /-- DPLL_IEN.XO_LOST [4], RW (R298). -/
  | DPLL_IEN_XO_LOST
  /-- REF_CFG.EN [0], RW (R298). -/
  | REF_CFG_EN
  /-- REF_CFG.POL [1], RWL (R298). -/
  | REF_CFG_POL
  /-- REF_CFG.RANK [5:2], RW (R298). -/
  | REF_CFG_RANK
  /-- REF_NOM_NUM.NUM [31:0], RWL (R298). -/
  | REF_NOM_NUM
  /-- REF_NOM_DEN.DEN [15:0], RWL (R298). -/
  | REF_NOM_DEN
  /-- REF_QUAL.WINDOW [15:0], RW (R298). -/
  | REF_QUAL_WINDOW
  /-- REF_QUAL.HOLDOFF [23:16], RW (R298). -/
  | REF_QUAL_HOLDOFF
  /-- REF_MON.GFLT [5:0], RWL (R298). -/
  | REF_MON_GFLT
  /-- REF_MON.STUCKTO [23:8], RWL (R298). -/
  | REF_MON_STUCKTO
  /-- REF_LIVE.LOS [0], RO (R298). -/
  | REF_LIVE_LOS
  /-- REF_LIVE.FREQ_OOR [1], RO (R298). -/
  | REF_LIVE_FREQ_OOR
  /-- REF_LIVE.PHASE_HIT [2], RO (R298). -/
  | REF_LIVE_PHASE_HIT
  /-- REF_LIVE.DISCREPANT [3], RO (R298). -/
  | REF_LIVE_DISCREPANT
  /-- REF_LIVE.STUCK [4], RO (R298). -/
  | REF_LIVE_STUCK
  /-- REF_LIVE.OVERRATE [5], RO (R298). -/
  | REF_LIVE_OVERRATE
  /-- REF_LIVE.SUSPECT [6], RO (R298). -/
  | REF_LIVE_SUSPECT
  /-- REF_LIVE.QUAL [7], RO (R298). -/
  | REF_LIVE_QUAL
  /-- REF_HIST.LOS [0], W1C (R298). -/
  | REF_HIST_LOS
  /-- REF_HIST.FREQ_OOR [1], W1C (R298). -/
  | REF_HIST_FREQ_OOR
  /-- REF_HIST.PHASE_HIT [2], W1C (R298). -/
  | REF_HIST_PHASE_HIT
  /-- REF_HIST.DISCREPANT [3], W1C (R298). -/
  | REF_HIST_DISCREPANT
  /-- REF_HIST.STUCK [4], W1C (R298). -/
  | REF_HIST_STUCK
  /-- REF_HIST.OVERRATE [5], W1C (R298). -/
  | REF_HIST_OVERRATE
  /-- REF_HIST.SUSPECT [6], W1C (R298). -/
  | REF_HIST_SUSPECT
  /-- REF_HIST.BADCFG [8], W1C (R298). -/
  | REF_HIST_BADCFG
  /-- REF_IEN.LOS [0], RW (R298). -/
  | REF_IEN_LOS
  /-- REF_IEN.FREQ_OOR [1], RW (R298). -/
  | REF_IEN_FREQ_OOR
  /-- REF_IEN.PHASE_HIT [2], RW (R298). -/
  | REF_IEN_PHASE_HIT
  /-- REF_IEN.DISCREPANT [3], RW (R298). -/
  | REF_IEN_DISCREPANT
  /-- REF_IEN.STUCK [4], RW (R298). -/
  | REF_IEN_STUCK
  /-- REF_IEN.OVERRATE [5], RW (R298). -/
  | REF_IEN_OVERRATE
  /-- REF_IEN.SUSPECT [6], RW (R298). -/
  | REF_IEN_SUSPECT
  /-- REF_IEN.BADCFG [8], RW (R298). -/
  | REF_IEN_BADCFG
  /-- REF_FREQ.PPT [31:0], RO (R298). -/
  | REF_FREQ
  /-- REF_PHASE.NS [31:0], RO (R298). -/
  | REF_PHASE
  /-- REF_OVR.COUNT [31:0], RC (R298). -/
  | REF_OVR
  /-- REF_HOLD.S [7:0], RO (R298). -/
  | REF_HOLD
  /-- FO_CFG.EN [0], RW (R298). -/
  | FO_CFG_EN
  /-- FO_CFG.POL [1], RWL (R298). -/
  | FO_CFG_POL
  /-- FO_CFG.SQUARE [2], RWL (R298). -/
  | FO_CFG_SQUARE
  /-- FO_CFG.SRC [6:3], RWL (R298). -/
  | FO_CFG_SRC
  /-- FO_NUM.NUM [31:0], RWL (R298). -/
  | FO_NUM
  /-- FO_DEN.DEN [15:0], RWL (R298). -/
  | FO_DEN
  /-- FO_OFFSET.HALFNS [31:0], RW (R298). -/
  | FO_OFFSET
  /-- FO_WIDTH.HALFNS [31:0], RWL (R298). -/
  | FO_WIDTH
  /-- FO_CTL.REALIGN [0], WO (R298). -/
  | FO_CTL
  /-- FO_STATUS.STATE [1:0], RO (R298). -/
  | FO_STATUS_STATE
  /-- FO_STATUS.MISALIGN [2], W1C (R298). -/
  | FO_STATUS_MISALIGN
  /-- FO_STATUS.BADCFG [3], W1C (R298). -/
  | FO_STATUS_BADCFG
  /-- FO_ERR.HALFNS [31:0], RO (R298). -/
  | FO_ERR
  /-- GPIO_LEVELS.LEVEL [15:0], RO (R299). -/
  | GPIO_LEVELS
  /-- GPIO_CFG.EN [0], RW (R299). -/
  | GPIO_CFG_EN
  /-- GPIO_CFG.POL [1], RWL (R299). -/
  | GPIO_CFG_POL
  /-- GPIO_CFG.IEN [2], RW (R299). -/
  | GPIO_CFG_IEN
  /-- GPIO_MON.GFLT [15:0], RWL (R299). -/
  | GPIO_MON_GFLT
  /-- GPIO_MON.STUCKTO [31:16], RWL (R299). -/
  | GPIO_MON_STUCKTO
  /-- GPIO_RATE.RATE [15:0], RWL (R299). -/
  | GPIO_RATE
  /-- GPIO_STATUS.LEVEL [0], RO (R299). -/
  | GPIO_STATUS_LEVEL
  /-- GPIO_STATUS.STUCK [1], RO (R299). -/
  | GPIO_STATUS_STUCK
  /-- GPIO_STATUS.OVERRATE [2], RO (R299). -/
  | GPIO_STATUS_OVERRATE
  /-- GPIO_STATUS.STUCK_H [3], W1C (R299). -/
  | GPIO_STATUS_STUCK_H
  /-- GPIO_STATUS.OVERRATE_H [4], W1C (R299). -/
  | GPIO_STATUS_OVERRATE_H
  /-- GPIO_STATUS.CHG [5], W1C (R299). -/
  | GPIO_STATUS_CHG
  /-- GPIO_OVR.COUNT [31:0], RC (R299). -/
  | GPIO_OVR
  /-- GPIO_STAMP.NS [63:0], RO (R299). -/
  | GPIO_STAMP
  /-- MDLL_CFG.LOLACT [0], RW (R310). -/
  | MDLL_CFG
  /-- MDLL_CTL.RELOCK [0], WO (R310). -/
  | MDLL_CTL
  /-- MDLL_STATUS.STATE [1:0], RO (R310). -/
  | MDLL_STATUS_STATE
  /-- MDLL_STATUS.OUT [3:2], RO (R310). -/
  | MDLL_STATUS_OUT
  /-- MDLL_STATUS.BAND [7:4], RO (R310). -/
  | MDLL_STATUS_BAND
  /-- MDLL_STATUS.SEARCHES [9:8], RO (R310). -/
  | MDLL_STATUS_SEARCHES
  /-- MDLL_HIST.LOL [0], W1C (R310). -/
  | MDLL_HIST_LOL
  /-- MDLL_HIST.REFLOSS [1], W1C (R310). -/
  | MDLL_HIST_REFLOSS
  /-- MDLL_HIST.BYPASSED [2], W1C (R310). -/
  | MDLL_HIST_BYPASSED
  /-- MDLL_HIST.MULTI [3], W1C (R310). -/
  | MDLL_HIST_MULTI
  /-- MDLL_LOCKCNT.COUNT [31:0], RO (R310). -/
  | MDLL_LOCKCNT
  /-- MDLL_LOCKTIME.NS [31:0], RO (R310). -/
  | MDLL_LOCKTIME
  /-- MDLL_PHERR.PS [15:0], RO (R310). -/
  | MDLL_PHERR
  /-- MDLL_STALL.NS [31:0], RC (R310). -/
  | MDLL_STALL
  /-- MAC_CFG.MODE [2:0], RW (R334). -/
  | MAC_CFG_MODE
  /-- MAC_CFG.FEC [4:3], RW (R334). -/
  | MAC_CFG_FEC
  /-- MAC_CFG.RXPAUSE [5], RW (R334). -/
  | MAC_CFG_RXPAUSE
  /-- MAC_CFG.GUARD [6], RW (R334). -/
  | MAC_CFG_GUARD
  /-- MAC_CFG.PROMISC [7], RW (R334). -/
  | MAC_CFG_PROMISC
  /-- MAC_CFG.MAXLEN [21:8], RW (R334). -/
  | MAC_CFG_MAXLEN
  /-- MAC_CTL.RESET [0], WO (R334). -/
  | MAC_CTL_RESET
  /-- MAC_CTL.CLR_TSOVF [1], WO (R334). -/
  | MAC_CTL_CLR_TSOVF
  /-- MAC_CTL.ANRESTART [2], WO (R334). -/
  | MAC_CTL_ANRESTART
  /-- MAC_STATUS.LINK [0], RO (R334). -/
  | MAC_STATUS_LINK
  /-- MAC_STATUS.PAUSED [1], RO (R334). -/
  | MAC_STATUS_PAUSED
  /-- MAC_STATUS.ANDONE [2], RO (R334). -/
  | MAC_STATUS_ANDONE
  /-- MAC_STATUS.LINKCHG [3], W1C (R334). -/
  | MAC_STATUS_LINKCHG
  /-- MAC_STATUS.TSOVF [4], W1C (R334). -/
  | MAC_STATUS_TSOVF
  /-- MAC_STATUS.BADCFG [5], W1C (R334). -/
  | MAC_STATUS_BADCFG
  /-- MAC_ADDR.ADDR [47:0], RW (R334). -/
  | MAC_ADDR
  /-- MAC_MHASH.HASH [63:0], RW (R334). -/
  | MAC_MHASH
  /-- TXQ_BASE.BASE [23:5], RWL (R334). -/
  | TXQ_BASE
  /-- TXQ_SIZE.LOG [3:0], RWL (R334). -/
  | TXQ_SIZE
  /-- TXQ_PI.IDX [11:0], RW (R334). -/
  | TXQ_PI
  /-- TXQ_CI.IDX [11:0], RO (R334). -/
  | TXQ_CI
  /-- RXR_BASE.BASE [23:5], RWL (R334). -/
  | RXR_BASE
  /-- RXR_SIZE.LOG [3:0], RWL (R334). -/
  | RXR_SIZE
  /-- RXR_PI.IDX [11:0], RO (R334). -/
  | RXR_PI
  /-- RXR_CI.IDX [11:0], RW (R334). -/
  | RXR_CI
  /-- RXR_BUFLEN.BYTES [13:0], RWL (R334). -/
  | RXR_BUFLEN
  /-- MAC_TSF_NS.NS [29:0], RO (R334). -/
  | MAC_TSF_NS
  /-- MAC_TSF_S.SEC [31:0], RO (R334). -/
  | MAC_TSF_S
  /-- MAC_TSF_INFO.SEQ [15:0], RC (R334). -/
  | MAC_TSF_INFO_SEQ
  /-- MAC_TSF_INFO.QUEUE [18:16], RO (R334). -/
  | MAC_TSF_INFO_QUEUE
  /-- MAC_TSF_INFO.VALID [19], RO (R334). -/
  | MAC_TSF_INFO_VALID
  /-- MAC_TSF_INFO.DEPTH [25:20], RO (R334). -/
  | MAC_TSF_INFO_DEPTH
  /-- MAC_TSF_OVF.COUNT [15:0], RO (R334). -/
  | MAC_TSF_OVF
  /-- TX_FRAMES.COUNT [31:0], RO (R334). -/
  | TX_FRAMES
  /-- TX_ABORT.COUNT [31:0], RC (R334). -/
  | TX_ABORT
  /-- TX_LAUNCH_LATE.COUNT [31:0], RC (R334). -/
  | TX_LAUNCH_LATE
  /-- RX_FRAMES.COUNT [31:0], RO (R334). -/
  | RX_FRAMES
  /-- RX_FCS.COUNT [31:0], RC (R334). -/
  | RX_FCS
  /-- RX_RUNT.COUNT [31:0], RC (R334). -/
  | RX_RUNT
  /-- RX_OVSZ.COUNT [31:0], RC (R334). -/
  | RX_OVSZ
  /-- RX_ALIGN.COUNT [31:0], RC (R334). -/
  | RX_ALIGN
  /-- RX_OVF.COUNT [31:0], RC (R334). -/
  | RX_OVF
  /-- RX_NOBUF.COUNT [31:0], RC (R334). -/
  | RX_NOBUF
  /-- RX_PAUSE.COUNT [31:0], RC (R334). -/
  | RX_PAUSE
  /-- RX_CTRL.COUNT [31:0], RC (R334). -/
  | RX_CTRL
  /-- MAC_WAKE_CFG.PEN [7:0], RW (R334). -/
  | MAC_WAKE_CFG_PEN
  /-- MAC_WAKE_CFG.MAGIC [8], RW (R334). -/
  | MAC_WAKE_CFG_MAGIC
  /-- MAC_WAKE_STAT.PHIT [7:0], W1C (R334). -/
  | MAC_WAKE_STAT_PHIT
  /-- MAC_WAKE_STAT.MHIT [8], W1C (R334). -/
  | MAC_WAKE_STAT_MHIT
  /-- WAKE_PAT.VAL [31:0], RW (R334). -/
  | WAKE_PAT
  /-- WAKE_MASK.VAL [31:0], RW (R334). -/
  | WAKE_MASK
  /-- PKT_CFG.EN [0], RW (R335). -/
  | PKT_CFG_EN
  /-- PKT_CFG.TXGATE [1], RO (R335). -/
  | PKT_CFG_TXGATE
  /-- PKT_TXLOAD.LOAD [19:0], RO (R335). -/
  | PKT_TXLOAD
  /-- PKT_RXLOAD.LOAD [19:0], RO (R335). -/
  | PKT_RXLOAD
  /-- STX_CFG.EN [0], RW (R335). -/
  | STX_CFG_EN
  /-- STX_CFG.DOMAIN [2:1], RWL (R335). -/
  | STX_CFG_DOMAIN
  /-- STX_CFG.MAC [4:3], RWL (R335). -/
  | STX_CFG_MAC
  /-- STX_CFG.QUEUE [7:5], RWL (R335). -/
  | STX_CFG_QUEUE
  /-- STX_FMT.ENC [1:0], RWL (R335). -/
  | STX_FMT_ENC
  /-- STX_FMT.CHANS [7:2], RWL (R335). -/
  | STX_FMT_CHANS
  /-- STX_FMT.PTIME [15:8], RWL (R335). -/
  | STX_FMT_PTIME
  /-- STX_BUF.BASE [23:10], RWL (R335). -/
  | STX_BUF
  /-- STX_HDR.VLAN [0], RWL (R335). -/
  | STX_HDR_VLAN
  /-- STX_HDR.BASE [23:6], RWL (R335). -/
  | STX_HDR_BASE
  /-- STX_SEQOFS.OFS [15:0], RWL (R335). -/
  | STX_SEQOFS
  /-- STX_TSOFS.OFS [31:0], RWL (R335). -/
  | STX_TSOFS
  /-- STX_STAT.RUN [0], RO (R335). -/
  | STX_STAT_RUN
  /-- STX_STAT.BADCFG [1], W1C (R335). -/
  | STX_STAT_BADCFG
  /-- STX_PKTS.COUNT [31:0], RO (R335). -/
  | STX_PKTS
  /-- STX_LATE.COUNT [31:0], RC (R335). -/
  | STX_LATE
  /-- STX_DROP.COUNT [31:0], RC (R335). -/
  | STX_DROP
  /-- STX_GATED.COUNT [31:0], RC (R335). -/
  | STX_GATED
  /-- SRX_CFG.EN [0], RW (R335). -/
  | SRX_CFG_EN
  /-- SRX_CFG.DOMAIN [2:1], RWL (R335). -/
  | SRX_CFG_DOMAIN
  /-- SRX_CFG.MACMASK [6:3], RWL (R335). -/
  | SRX_CFG_MACMASK
  /-- SRX_CFG.SRCCHK [7], RWL (R335). -/
  | SRX_CFG_SRCCHK
  /-- SRX_FMT.ENC [1:0], RWL (R335). -/
  | SRX_FMT_ENC
  /-- SRX_FMT.CHANS [7:2], RWL (R335). -/
  | SRX_FMT_CHANS
  /-- SRX_FMT.PTIME [15:8], RWL (R335). -/
  | SRX_FMT_PTIME
  /-- SRX_FMT.PT [22:16], RWL (R335). -/
  | SRX_FMT_PT
  /-- SRX_BUF.BASE [23:10], RWL (R335). -/
  | SRX_BUF
  /-- SRX_JBUF.BASE [23:10], RWL (R335). -/
  | SRX_JBUF_BASE
  /-- SRX_JBUF.JLOG [27:24], RWL (R335). -/
  | SRX_JBUF_JLOG
  /-- SRX_MATCH_IP.ADDR [31:0], RWL (R335). -/
  | SRX_MATCH_IP
  /-- SRX_MATCH_PORT.PORT [15:0], RWL (R335). -/
  | SRX_MATCH_PORT
  /-- SRX_MATCH_SRC.ADDR [31:0], RWL (R335). -/
  | SRX_MATCH_SRC
  /-- SRX_OFS.OFS [31:0], RWL (R335). -/
  | SRX_OFS
  /-- SRX_STAT.RUN [0], RO (R335). -/
  | SRX_STAT_RUN
  /-- SRX_STAT.BADCFG [1], W1C (R335). -/
  | SRX_STAT_BADCFG
  /-- SRX_STAT.RCVD [2], RO (R335). -/
  | SRX_STAT_RCVD
  /-- SRX_PKTS.COUNT [31:0], RO (R335). -/
  | SRX_PKTS
  /-- SRX_LATE.COUNT [31:0], RC (R335). -/
  | SRX_LATE
  /-- SRX_EARLY.COUNT [31:0], RC (R335). -/
  | SRX_EARLY
  /-- SRX_MISS.COUNT [31:0], RC (R335). -/
  | SRX_MISS
  /-- SRX_SEQGAP.COUNT [31:0], RC (R335). -/
  | SRX_SEQGAP
  /-- SRX_BADHDR.COUNT [31:0], RC (R335). -/
  | SRX_BADHDR
  /-- PTP_CTL.SNAP [0], WO (R350). -/
  | PTP_CTL_SNAP
  /-- PTP_CTL.SET [1], WO (R350). -/
  | PTP_CTL_SET
  /-- PTP_STATUS.SLVERR [0], W1C (R350). -/
  | PTP_STATUS_SLVERR
  /-- PTP_STATUS.PEND [1], RO (R350). -/
  | PTP_STATUS_PEND
  /-- PHC_SEC.SEC [47:0], RO (R350). -/
  | PHC_SEC
  /-- PHC_NS.NS [29:0], RO (R350). -/
  | PHC_NS
  /-- PHC_FRAC.FRAC [15:0], RO (R350). -/
  | PHC_FRAC
  /-- PHC_SYS.NS [63:0], RO (R350). -/
  | PHC_SYS
  /-- PHC_SETSEC.SEC [47:0], RW (R350). -/
  | PHC_SETSEC
  /-- PHC_SETNS.NS [29:0], RW (R350). -/
  | PHC_SETNS
  /-- SERVO_CFG.EN [0], RW (R350). -/
  | SERVO_CFG
  /-- SERVO_CTL.STEP_ACK [0], WO (R350). -/
  | SERVO_CTL_STEP_ACK
  /-- SERVO_CTL.CLR [1], WO (R350). -/
  | SERVO_CTL_CLR
  /-- SERVO_STATUS.STEP_REQ [0], RO (R350). -/
  | SERVO_STATUS_STEP_REQ
  /-- SERVO_STATUS.LOCK [1], RO (R350). -/
  | SERVO_STATUS_LOCK
  /-- SERVO_STATUS.HOLD [2], RO (R350). -/
  | SERVO_STATUS_HOLD
  /-- SERVO_STATUS.FSAT [3], W1C (R350). -/
  | SERVO_STATUS_FSAT
  /-- SERVO_STATUS.STEP_CANC [4], W1C (R350). -/
  | SERVO_STATUS_STEP_CANC
  /-- SERVO_STATUS.STEPPED [5], W1C (R350). -/
  | SERVO_STATUS_STEPPED
  /-- SERVO_OFFSET.THETA [63:0], WO (R350). -/
  | SERVO_OFFSET
  /-- STEP_THRESH.NS [31:0], RW (R350). -/
  | STEP_THRESH
  /-- SERVO_KP.GAIN [23:0], RW (R350). -/
  | SERVO_KP
  /-- SERVO_KI.GAIN [23:0], RW (R350). -/
  | SERVO_KI
  /-- SERVO_FMAX.PPT [31:0], RW (R350). -/
  | SERVO_FMAX
  /-- SERVO_FREQ.PPT [31:0], RO (R350). -/
  | SERVO_FREQ
  /-- SERVO_FBASE.PPT [31:0], RWL (R350). -/
  | SERVO_FBASE
  /-- SERVO_INT.PPT [31:0], RO (R350). -/
  | SERVO_INT
  /-- STEP_VAL.THETA [63:0], RO (R350). -/
  | STEP_VAL
  /-- SERVO_LOCK.LOCKTH [15:0], RW (R350). -/
  | SERVO_LOCK_LOCKTH
  /-- SERVO_LOCK.LOCKN [23:16], RW (R350). -/
  | SERVO_LOCK_LOCKN
  /-- SERVO_LOCK.TIMEOUT [31:24], RW (R350). -/
  | SERVO_LOCK_TIMEOUT
  /-- STEP_CNT.COUNT [31:0], RC (R350). -/
  | STEP_CNT
  /-- MAP_DOMCNT.N [63:0], RO (R350). -/
  | MAP_DOMCNT
  /-- MAP_SEC.SEC [47:0], RO (R350). -/
  | MAP_SEC
  /-- MAP_NS.NS [29:0], RO (R350). -/
  | MAP_NS
  /-- MAP_FRAC.FRAC [15:0], RO (R350). -/
  | MAP_FRAC
  /-- MAP_STAT.STEPPED [0], RO (R350). -/
  | MAP_STAT
  /-- MAP_SEQ.SEQ [31:0], RO (R350). -/
  | MAP_SEQ
  /-- TS_CFG.EN [0], RW (R350). -/
  | TS_CFG_EN
  /-- TS_CFG.PERIODIC [1], RWL (R350). -/
  | TS_CFG_PERIODIC
  /-- TS_CFG.POL [2], RWL (R350). -/
  | TS_CFG_POL
  /-- TS_START_SEC.SEC [47:0], RWL (R350). -/
  | TS_START_SEC
  /-- TS_START_NS.NS [29:0], RWL (R350). -/
  | TS_START_NS
  /-- TS_WIDTH.NS [23:0], RWL (R350). -/
  | TS_WIDTH
  /-- TS_PERIOD.NS [39:0], RWL (R350). -/
  | TS_PERIOD
  /-- TS_STATUS.STATE [1:0], RO (R350). -/
  | TS_STATUS_STATE
  /-- TS_STATUS.LATE [2], W1C (R350). -/
  | TS_STATUS_LATE
  /-- TS_STATUS.BADCFG [3], W1C (R350). -/
  | TS_STATUS_BADCFG
  /-- TS_EDGES.COUNT [31:0], RO (R350). -/
  | TS_EDGES
  /-- BIRAY_STATUS.STATE [1:0], RO (R383). -/
  | BIRAY_STATUS_STATE
  /-- BIRAY_STATUS.WRAP [2], RO (R383). -/
  | BIRAY_STATUS_WRAP
  /-- BIRAY_STATUS.LANES [6:3], RO (R383). -/
  | BIRAY_STATUS_LANES
  /-- BIRAY_STATUS.LINKCHG [7], W1C (R383). -/
  | BIRAY_STATUS_LINKCHG
  /-- BIRAY_CTL.RETRAIN [0], WO (R383). -/
  | BIRAY_CTL
  /-- BIRAY_DELAY.NS [15:0], RO (R383). -/
  | BIRAY_DELAY
  /-- BIRAY_CRCERR.COUNT [31:0], RC (R383). -/
  | BIRAY_CRCERR
  /-- BIRAY_DISC.COUNT [31:0], RC (R383). -/
  | BIRAY_DISC
  /-- BIRAY_WRAPCNT.COUNT [31:0], RO (R383). -/
  | BIRAY_WRAPCNT
  /-- RING_STATUS.ADDR [3:0], RO (R383). -/
  | RING_STATUS_ADDR
  /-- RING_STATUS.UP [4], RO (R383). -/
  | RING_STATUS_UP
  /-- RING_STATUS.HEAD [5], RO (R383). -/
  | RING_STATUS_HEAD
  /-- RING_STATUS.N [10:6], RO (R383). -/
  | RING_STATUS_N
  /-- RING_STATUS.WRAPPED [11], RO (R383). -/
  | RING_STATUS_WRAPPED
  /-- RING_STATUS.OVERSIZE [12], W1C (R383). -/
  | RING_STATUS_OVERSIZE
  /-- RING_STATUS.NOHEAD [13], W1C (R383). -/
  | RING_STATUS_NOHEAD
  /-- RING_STATUS.MULTIHEAD [14], W1C (R383). -/
  | RING_STATUS_MULTIHEAD
  /-- RING_STATUS.ENUMFAIL [15], W1C (R383). -/
  | RING_STATUS_ENUMFAIL
  /-- RING_CTL.ENUM [0], WO (R383). -/
  | RING_CTL
  /-- RING_PRESENT.UNITS [15:0], RO (R383). -/
  | RING_PRESENT
  /-- RING_TIMEOUT.COUNT [31:0], RC (R383). -/
  | RING_TIMEOUT
  /-- RING_DEVID.ID [63:0], RO (R383). -/
  | RING_DEVID
  /-- PAIR_CFG.PAIRID [7:0], RWL (R383). -/
  | PAIR_CFG_PAIRID
  /-- PAIR_CFG.AUTO [8], RW (R383). -/
  | PAIR_CFG_AUTO
  /-- PAIR_CFG.ISOYIELD [9], RW (R383). -/
  | PAIR_CFG_ISOYIELD
  /-- PAIR_CTL.ACTIVATE [0], WO (R383). -/
  | PAIR_CTL_ACTIVATE
  /-- PAIR_CTL.TAKEOVER [1], WO (R383). -/
  | PAIR_CTL_TAKEOVER
  /-- PAIR_CTL.SNAP_ARM [2], WO (R383). -/
  | PAIR_CTL_SNAP_ARM
  /-- PAIR_CTL.SNAP_CANCEL [3], WO (R383). -/
  | PAIR_CTL_SNAP_CANCEL
  /-- PAIR_STATUS.ROLE [1:0], RO (R383). -/
  | PAIR_STATUS_ROLE
  /-- PAIR_STATUS.SYNC [3:2], RO (R383). -/
  | PAIR_STATUS_SYNC
  /-- PAIR_STATUS.PARTNER [4], RO (R383). -/
  | PAIR_STATUS_PARTNER
  /-- PAIR_STATUS.TAKEPEND [5], RO (R383). -/
  | PAIR_STATUS_TAKEPEND
  /-- PAIR_STATUS.SNAPPEND [6], RO (R383). -/
  | PAIR_STATUS_SNAPPEND
  /-- PAIR_STATUS.REFUSED [7], W1C (R383). -/
  | PAIR_STATUS_REFUSED
  /-- PAIR_STATUS.SNAPFAIL [8], W1C (R383). -/
  | PAIR_STATUS_SNAPFAIL
  /-- PAIR_STATUS.CONFLICT [9], W1C (R383). -/
  | PAIR_STATUS_CONFLICT
  /-- PAIR_STATUS.BADALIGN [10], W1C (R383). -/
  | PAIR_STATUS_BADALIGN
  /-- PAIR_STATUS.TOOLATE [11], W1C (R383). -/
  | PAIR_STATUS_TOOLATE
  /-- PAIR_HMISS.COUNT [31:0], RC (R383). -/
  | PAIR_HMISS
  /-- PAIR_ACTSINCE.BOUNDARY [63:0], RO (R383). -/
  | PAIR_ACTSINCE
  /-- PAIR_SNAP_AT.T [63:0], RW (R383). -/
  | PAIR_SNAP_AT
  /-- PAIR_RGN_BASE.BASE [23:10], RWL (R383). -/
  | PAIR_RGN_BASE
  /-- PAIR_RGN_CNT.COUNT [10:0], RWL (R383). -/
  | PAIR_RGN_CNT
  /-- PAIR_MISMATCH.COUNT [31:0], RC (R383). -/
  | PAIR_MISMATCH
  /-- PAIR_DIG_BND.BOUNDARY [31:0], RO (R383). -/
  | PAIR_DIG_BND
  /-- PAIR_DIG_OWN.DIGEST [31:0], RO (R383). -/
  | PAIR_DIG_OWN
  /-- PAIR_DIG_PART.DIGEST [31:0], RO (R383). -/
  | PAIR_DIG_PART
  /-- HP_CFG.HOSTSEL [0], RO (R410). -/
  | HP_CFG
  /-- HP_STATUS.LINKUP [0], RO (R410). -/
  | HP_STATUS_LINKUP
  /-- HP_STATUS.SPEED [2:1], RO (R410). -/
  | HP_STATUS_SPEED
  /-- HP_STATUS.WIDTH [5:3], RO (R410). -/
  | HP_STATUS_WIDTH
  /-- HOST_IPEND.PEND [31:0], W1C (R410). -/
  | HOST_IPEND
  /-- HOST_IMASK.MASK [31:0], RW (R410). -/
  | HOST_IMASK
  /-- HOST_EVT.EVT [13:0], WO (R410). -/
  | HOST_EVT
  /-- HP_TPEND.CMD [15:0], W1C (R410). -/
  | HP_TPEND_CMD
  /-- HP_TPEND.FLR [16], W1C (R410). -/
  | HP_TPEND_FLR
  /-- HP_GILLREQ.RESTART_TAIL [0], WO (R410). -/
  | HP_GILLREQ_RESTART_TAIL
  /-- HP_GILLREQ.PEND [1], RO (R410). -/
  | HP_GILLREQ_PEND
  /-- QSPI_STATUS.ERR [0], W1C (R410). -/
  | QSPI_STATUS_ERR
  /-- QSPI_STATUS.ABORT [1], W1C (R410). -/
  | QSPI_STATUS_ABORT
  /-- QSPI_STATUS.BADCMD [2], W1C (R410). -/
  | QSPI_STATUS_BADCMD
  /-- HP_ERRADDR.ADDR [39:0], RO (R410). -/
  | HP_ERRADDR_ADDR
  /-- HP_ERRADDR.VALID [63], W1C (R410). -/
  | HP_ERRADDR_VALID
  /-- MBX_PI.IDX [6:0], RW (R410). -/
  | MBX_PI
  /-- MBX_CI.IDX [6:0], RW (R410). -/
  | MBX_CI
  /-- MBX_STAT.FILL [6:0], RO (R410). -/
  | MBX_STAT_FILL
  /-- MBX_STAT.BADIDX [7], W1C (R410). -/
  | MBX_STAT_BADIDX
  /-- MBX_STAT.WRONGSIDE [8], W1C (R410). -/
  | MBX_STAT_WRONGSIDE
  /-- BAR2_XLAT.TARGET [15:0], RW (R410). -/
  | BAR2_XLAT_TARGET
  /-- BAR2_XLAT.EN [16], RW (R410). -/
  | BAR2_XLAT_EN
  /-- BAR2_XLAT.RO [17], RW (R410). -/
  | BAR2_XLAT_RO
  /-- MSIX_ADDR.ADDR [31:0], RW (R410). -/
  | MSIX_ADDR
  /-- MSIX_UADDR.ADDR [31:0], RW (R410). -/
  | MSIX_UADDR
  /-- MSIX_DATA.DATA [31:0], RW (R410). -/
  | MSIX_DATA
  /-- MSIX_CTRL.MASK [0], RW (R410). -/
  | MSIX_CTRL
  /-- MSIX_PBA.PEND [31:0], RO (R410). -/
  | MSIX_PBA
  /-- AXO_STATUS.TAIL [1:0], RO (R411). -/
  | AXO_STATUS_TAIL
  /-- AXO_STATUS.TAILSIGN [2], RO (R411). -/
  | AXO_STATUS_TAILSIGN
  /-- AXO_SHEDCNT.COUNT [31:0], RO (R411). -/
  | AXO_SHEDCNT
  /-- AXO_TWIN.PAGE [4:0], RW (R411). -/
  | AXO_TWIN
  /-- AXO_MEAS.HASH [31:0], RO (R411). -/
  | AXO_MEAS
  /-- AXO_TAILSTAMP.NS [63:0], RO (R411). -/
  | AXO_TAILSTAMP
  /-- AXO_TAIL_CTL.RESET [0], RW (R411). -/
  | AXO_TAIL_CTL
  /-- THERM_CFG.WARN [7:0], RW (R452). -/
  | THERM_CFG_WARN
  /-- THERM_CFG.HOT [15:8], RW (R452). -/
  | THERM_CFG_HOT
  /-- THERM_STATUS.TRIPPED [0], RO (R452). -/
  | THERM_STATUS_TRIPPED
  /-- THERM_STATUS.SENSOR [3:1], RO (R452). -/
  | THERM_STATUS_SENSOR
  /-- THERM_TEMP.TJ [11:0], RO (R452). -/
  | THERM_TEMP_TJ
  /-- THERM_TEMP.VALID [31], RO (R452). -/
  | THERM_TEMP_VALID
  /-- THERM_MAX.TJ [11:0], RC (R452). -/
  | THERM_MAX
  /-- VMON.MV [11:0], RO (R452). -/
  | VMON
  /-- FLT_LIVE.LIVE [31:0], RO (R436). -/
  | FLT_LIVE
  /-- FLT_STICKY.STICKY [31:0], W1C (R436). -/
  | FLT_STICKY
  /-- FLT_FIRST.CODE [4:0], RO (R436). -/
  | FLT_FIRST_CODE
  /-- FLT_FIRST.SEV [6:5], RO (R436). -/
  | FLT_FIRST_SEV
  /-- FLT_FIRST.VALID [7], W1C (R436). -/
  | FLT_FIRST_VALID
  /-- FLT_FIRST.CONCURRENT [8], RO (R436). -/
  | FLT_FIRST_CONCURRENT
  /-- FLT_FIRST.CLEARED_BEFORE_READ [9], RO (R436). -/
  | FLT_FIRST_CLEARED_BEFORE_READ
  /-- FLT_FIRST.INSTANCE [31:16], RO (R436). -/
  | FLT_FIRST_INSTANCE
  /-- FLT_FIRST_STAMP.NS [63:0], RO (R436). -/
  | FLT_FIRST_STAMP
  /-- FLT_CNT.COUNT [31:0], RC (R436). -/
  | FLT_CNT
  /-- FLT_INJ.COUNT [15:0], RW (R436). -/
  | FLT_INJ_COUNT
  /-- FLT_INJ.MASK [23:16], RW (R436). -/
  | FLT_INJ_MASK
  /-- FLT_INJ.SEL [25:24], RW (R436). -/
  | FLT_INJ_SEL
  /-- FLT_STATUS.LEVEL [1:0], RO (R436). -/
  | FLT_STATUS_LEVEL
  /-- FLT_STATUS.TIRQ [2], RO (R436). -/
  | FLT_STATUS_TIRQ
  /-- FLT_STATUS.GIRQ [3], RO (R436). -/
  | FLT_STATUS_GIRQ
  /-- FLT_STATUS.ACK [4], WO (R436). -/
  | FLT_STATUS_ACK
  /-- FLT_STATUS.LATEACK [5], W1C (R436). -/
  | FLT_STATUS_LATEACK
  /-- FLT_STATUS.NOTE [6], W1C (R436). -/
  | FLT_STATUS_NOTE
  /-- FLT_IEN.IEN [31:0], RW (R436). -/
  | FLT_IEN
  /-- FLT_GRACE.T1 [15:0], RW (R436). -/
  | FLT_GRACE_T1
  /-- FLT_GRACE.T2 [31:16], RW (R436). -/
  | FLT_GRACE_T2
  /-- FLT_ESC.MINSEV [1:0], RW (R436). -/
  | FLT_ESC_MINSEV
  /-- FLT_ESC.EN [2], RW (R436). -/
  | FLT_ESC_EN
  /-- FLT_ESC.ACK2 [3], WO (R436). -/
  | FLT_ESC_ACK2
  /-- FLT_ESC.CLR3 [4], WO (R436). -/
  | FLT_ESC_CLR3
  /-- nanoseconds since the last REFCLK100 edge of the die, the interpolation of a hardware capture (R38). -/
  | SUBNS
  /-- REFCLK100 is present at the die; R461 asks REFCLK100 to run before PORST_N is released (R304). -/
  | REFCLK_OK
  /-- SYSCNT at which DOMCNT crossed the boundary of the epoch in EPOCH_CUR (inst = domain) (R51). -/
  | EP_T0
  /-- an epoch has been dispatched since the domain was enabled (R45). -/
  | EP_CURV
  /-- boundary + 1 of the epoch whose drain made transmit slot i ready (inst = domain*4+i) (R50). -/
  | EP_RDY
  /-- boundary + 1 of the epoch the output slot of buffer i is assigned to; 0 none (inst = domain*4+i) (R45). -/
  | EP_ASGN
  /-- most recent boundary that has passed on die 6 (R49). -/
  | EP_PASSED
  /-- SYSCNT at that boundary (R49). -/
  | EP_PASST
  /-- a boundary has passed whose epoch has not been started (R49). -/
  | EP_OWED
  /-- target of the pending commit (inst = domain) (R54). -/
  | COMMIT_T
  /-- units that have acknowledged the pending ring-wide commit (R58). -/
  | COMMIT_ACKS
  /-- this unit armed the pending commit (R58). -/
  | COMMIT_OWN
  /-- target of the pending meter snapshot (R61). -/
  | SNAP_T
  /-- boundary whose meter state the die's snapshot buffer holds (per die, inst = domain) (R61). -/
  | SNAPBUF
  /-- boundary + 1 of the transmit slot last decided missed (inst = domain) (R50). -/
  | TX_MISS
  /-- word index of the next bundle of newt n (R103). -/
  | NEWT_NEXT
  /-- issues of the repeated bundle still to come (R88). -/
  | NEWT_REPT
  /-- a STEP is in progress: halt after the next bundle (R94). -/
  | NEWT_STEP
  /-- the breakpoint on the next bundle is not taken (RESUME, STEP) (R94). -/
  | NEWT_SKIPBP
  /-- busy bit of flow f at its home (die = f mod 6, inst = f) (R146). -/
  | FLOW_BUSY
  /-- newt granted last by the tongue; 7 before any grant, so that the first round begins at newt 0, DESIGN CHOICE (log entry 137) (R145). -/
  | TONGUE_RR
  /-- the log is freezing: no new entry is taken (R154). -/
  | CROAK_FREEZING
  /-- SYSCNT of the last epoch start received (inst = clutch*3+domain) (R155). -/
  | DOM_T0
  /-- group enable in effect (inst = group) (R168). -/
  | GRP_EN_EFF
  /-- the group was abandoned in this epoch (R172). -/
  | GRP_ABAND
  /-- parameter copy selected at the start of the run (R159). -/
  | GRP_COPY
  /-- bus enable in effect (inst = bus) (R182). -/
  | BUS_EN_EFF
  /-- the die's partial of a bus sample (inst = bus*64+offset) (R166). -/
  | XSUM
  /-- terms counted for the bus in this epoch (R166). -/
  | BUS_TERMS
  /-- SAT indication carried with the die's partial (R183). -/
  | BUS_PSAT
  /-- NaN indication carried with the die's partial (R183). -/
  | BUS_PNAN
  /-- the die's partial was released in this epoch (R171). -/
  | BUS_RELD
  /-- boundary + 1 the accumulation set holds (inst = bus*4+set) (R175). -/
  | ASET_B
  /-- partials held in the set (R174). -/
  | ASET_RCVD
  /-- terms of the partials held (R166). -/
  | ASET_TERMS
  /-- the set has been reduced (R175). -/
  | ASET_RED
  /-- sum of the partials held (inst = (bus*4+set)*64+offset) (R166). -/
  | ASET_SUM
  /-- mode of the leapfrog run in progress (R200). -/
  | LF_RUNMODE
  /-- ALL of the run in progress (R201). -/
  | LF_RUNALL
  /-- newts whose memories the run tests (R201). -/
  | LF_RUNNEWTS
  /-- eFuse repair entry (inst = bank*4+entry): row [8:0], fused [14], valid [15] (R202). -/
  | EFUSE_REP
  /-- bank of the burn in progress (R203). -/
  | LF_FUSEB
  /-- stored parity of the eFuse entry fails (R202). -/
  | EFUSE_BAD
  /-- 1 + master granted the target last; 0 none (inst = target port) (R211). -/
  | FAB_RR
  /-- parking in effect at the target: EN [5], MASTER [4:0] (R212). -/
  | FAB_PARKED
  /-- a FAB_PARK write waits for the target to be idle (R212). -/
  | FAB_PARKPEND
  /-- master class of the running chain (inst = engine) (R215). -/
  | DMA_CLASS
  /-- domains in which the running chain is outstanding, a bit each; bit 3 every domain, while a chained descriptor is read (inst = engine) (R225). -/
  | DMA_DOM
  /-- the running chain was started through DMA_START (inst = engine) (R223). -/
  | DMA_BYREG
  /-- data flits received on link l of the die since the last access whose data came over it (inst = link) (R222). -/
  | LINK_FLITS
  /-- 0 idle, 1 descriptor to be read, 2 transfer in progress (R223). -/
  | DMA_PHASE
  /-- attempts of the training in progress (R221). -/
  | LINK_TRIES
  /-- dither LFSR of the section (R238). -/
  | SAP_LFSR
  /-- good frames seen in succession (R249). -/
  | SAP_GOOD
  /-- EN was written 0 and the current frame runs out (R257). -/
  | SAP_STOPPING
  /-- MASTER [0], DOMAIN [2:1] and BREN [3] of the frame that runs out (R257). -/
  | SAP_WAS
  /-- EN was written 0 and the block in progress is finished (R275). -/
  | BR_STOPPING
  /-- SRCDOM [1:0] and DSTDOM [3:2] of the block that is finished (R275). -/
  | BR_WAS
  /-- 1 + the first sample of the output block in progress; 0 none (R275). -/
  | BR_BOPEN
  /-- N0 of the alignment pair in force, two's complement (R270). -/
  | BR_N0
  /-- S0 of the alignment pair in force, two's complement (R270). -/
  | BR_S0
  /-- flags of the output block in progress (R269). -/
  | BR_BFLAGS
  /-- STAMP of the output block in progress (R269). -/
  | BR_BSTAMP
  /-- flags of the input block in progress (R269). -/
  | BR_IFLAGS
  /-- STAMP of the input block in progress (R269). -/
  | BR_ISTAMP
  /-- accepted level of the reference input (R280). -/
  | REF_LEVEL
  /-- raw level of the reference input (R280). -/
  | REF_RAW
  /-- stamp of the raw transition waiting for GFLT (R280). -/
  | REF_RAWT
  /-- a raw transition waits for GFLT (R280). -/
  | REF_RAWP
  /-- stamp of the last accepted asserting edge (R281). -/
  | REF_E1
  /-- stamp of the accepted asserting edge before it (R281). -/
  | REF_E2
  /-- accepted asserting edges seen, up to 2 (R281). -/
  | REF_NE
  /-- accepted asserting edges in the gate (R281). -/
  | REF_GEDGES
  /-- changes rejected in the gate (R281). -/
  | REF_GREJ
  /-- a phase hit occurred in a gate before this one (R281). -/
  | REF_GHIT
  /-- a clean gate has ended since the reference became clean (R282). -/
  | REF_GCLEAN
  /-- the reference has been unclean during the gate in progress (R282). -/
  | REF_GDIRTY
  /-- SYSCNT at which the hold-off in progress began (R282). -/
  | REF_HOLDT
  /-- accepted edges of the new reference since the switch began (R286). -/
  | SW_EDGES
  /-- the ACQUIRE in force was entered from FREE_RUN (R291). -/
  | SW_FREERUN
  /-- 100 ms units of the present lock averaged, up to 100 (R292). -/
  | HO_LOCKT
  /-- the holdover memory is frozen (R292). -/
  | HO_FROZEN
  /-- fraction of the next nanosecond the slew of DPLL_PBO has moved, in 1e-9 ns (R290). -/
  | PBO_ACC
  /-- position of the next asserting edge of the frame output, in 0.5 ns / FO_NUM, two's complement (R295). -/
  | FO_NEXT
  /-- position of the deasserting edge in progress or last, in the same unit (R295). -/
  | FO_FALL
  /-- the frame output is asserted (R295). -/
  | FO_HIGH
  /-- a realignment waits for the next source edge (R296). -/
  | FO_REALIGN
  /-- raw level of the GPIO input (R297). -/
  | GPIO_RAW
  /-- stamp of the raw transition waiting for GFLT (R297). -/
  | GPIO_RAWT
  /-- a raw transition waits for GFLT (R297). -/
  | GPIO_RAWP
  /-- accepted assertions in the gate (R297). -/
  | GPIO_GEDGES
  /-- changes rejected in the gate (R297). -/
  | GPIO_GREJ
  /-- SYSCNT at the start of the lock in progress (R310). -/
  | MDLL_T0
  /-- the lock in progress follows a loss (R311). -/
  | MDLL_AFTERLOSS
  /-- LOLACT as read at the last loss (R305). -/
  | MDLL_COMPAT
  /-- next transmit stamp sequence number (R324). -/
  | MAC_TSEQ
  /-- 1 + the pause time in quanta received while a frame is on the line; 0 none (R316). -/
  | MAC_PAUSEQ
  /-- quanta of the pause in effect (R316). -/
  | MAC_PAUSET
  /-- index of the next descriptor MAC DMA takes (inst = MAC*8+queue) (R314). -/
  | TXQ_FETCH
  /-- Clause 37 negotiation is running (R312). -/
  | MAC_AN
  /-- EN was written 0 and the packet in progress is finished (R335). -/
  | STX_STOPPING
  /-- last RTP sequence number (R332). -/
  | SRX_SEQ
  /-- a sequence number has been seen (R332). -/
  | SRX_SEQV
  /-- jitter position valid (inst = stream*8192+position) (R333). -/
  | SRX_VALID
  /-- STREAM_RX_MISS was raised in this epoch (R333). -/
  | SRX_MISSD
  /-- flags of the receive block in progress (R329). -/
  | SRX_BFLAGS
  /-- STAMP of the receive block in progress (R329). -/
  | SRX_BSTAMP
  /-- 1 + first sample of the receive block in progress; 0 none (R329). -/
  | SRX_BN0
  /-- WAKE_N is asserted (always-on domain) (R326). -/
  | WAKE_N_PIN
  /-- running PHC seconds (dies 6 and 7) (R337). -/
  | PHC_RSEC
  /-- running PHC nanoseconds (R337). -/
  | PHC_RNS
  /-- running PHC fraction, in 2^-40 ns (R337). -/
  | PHC_RFRAC
  /-- frequency word in force at the PHC, signed ppt (R337). -/
  | PHC_F
  /-- processed offsets in succession within LOCKTH (R342). -/
  | SERVO_GOODN
  /-- a step was applied since the last capture (inst = domain) (R349). -/
  | MAP_STEPD
  /-- the TSYNC output is asserted (R347). -/
  | TS_ACT
  /-- seconds of the next edge (R347). -/
  | TS_NSEC
  /-- nanoseconds of the next edge (R347). -/
  | TS_NNS
  /-- a DELAY exchange is in progress at the port (R354). -/
  | BIRAY_DLY
  /-- the ring step has begun (R463). -/
  | RING_STEPPED
  /-- the unit holds a ring address (ADDR 15 alone cannot say so, R25) (R360). -/
  | RING_HASADDR
  /-- ENUM tokens sent in this enumeration (R360). -/
  | RING_TRIES
  /-- the head awaits its token (R360). -/
  | RING_TOKEN
  /-- t_h of the last TIME frame (R366). -/
  | RING_TH
  /-- head's DOMCNT of the last TIME frame (inst = domain) (R367). -/
  | RING_HDOM
  /-- head's PHASE of the last TIME frame (inst = domain) (R367). -/
  | RING_HPH
  /-- SYSCNT + 1 at which the head assigned the address; 0 never (inst = address) (R362). -/
  | RING_ASGNT
  /-- the west port has unwrapped and discards frames with WRAP set (R364). -/
  | BIRAY_DISCW
  /-- an alignment waits for the next media edge (inst = domain) (R367). -/
  | RING_ALIGN
  /-- ACTIVATE accepted, waits for the next boundary (R370). -/
  | PAIR_ACTREQ
  /-- PAIR_CTL.TAKEOVER written since the previous boundary (R374). -/
  | PAIR_TRIG
  /-- a yield is due (R375). -/
  | PAIR_YIELD
  /-- boundary y of the yield (R375). -/
  | PAIR_YIELDAT
  /-- boundary + 1 of the partner's latest HEALTH frame (R372). -/
  | PAIR_PBND
  /-- boundary + 1 of the partner's HEALTH frame before that (R372). -/
  | PAIR_PBND2
  /-- SYNC in the partner's latest HEALTH frame (R372). -/
  | PAIR_PSYNC
  /-- boundaries of domain A since a partner frame, up to 3 (R383). -/
  | PAIR_QUIET
  /-- boundaries of domain A since a partner frame with ROLE = ACTIVE, up to 3 (R370). -/
  | PAIR_ACTQ
  /-- 1 + the boundary at which the unit last yielded; 0 none since it became STANDBY otherwise (R375). -/
  | PAIR_YIELDB
  /-- 1 + DOMCNT A at which both ports were last found DOWN; 0 none since reset (R378). -/
  | PORT_DOWNT
  /-- ROLE in that frame (R372). -/
  | PAIR_PROLE
  /-- ESC in that frame (R372). -/
  | PAIR_PESC
  /-- ring address of the partner (R372). -/
  | PAIR_PADDR
  /-- partner frames missing in succession, up to 3 (R374). -/
  | PAIR_MISSN
  /-- consecutive equal digests while SYNCING (inst = domain) (R380). -/
  | PAIR_EQ
  /-- own digest of the slot last reported (inst = domain) (R373). -/
  | PAIR_DIG
  /-- boundary + 1 at which that slot is reported; 0 none (inst = domain) (R373). -/
  | PAIR_DIGB
  /-- sum of the CRCs of the slot in progress (inst = domain) (R373). -/
  | DIG_ACC
  /-- the mirror data of the domain has been written (inst = domain) (R380). -/
  | PAIR_APPL
  /-- the partner acknowledged START (R380). -/
  | PAIR_SNAPACK
  /-- T_d of domain d in the resync (R380). -/
  | PAIR_TD
  /-- T_d is known (R380). -/
  | PAIR_TDV
  /-- END has arrived for the domain (inst = domain) (R380). -/
  | MIRROR_ENDV
  /-- TB_GEN carried by END (R380). -/
  | MIRROR_GEN
  /-- a shed is in progress (R388). -/
  | TAIL_SHEDDING
  /-- the tail has been shed since power-on (R388). -/
  | TAIL_SHED
  /-- the function is in D3hot (R392). -/
  | PCIE_D3
  /-- MSI-X is enabled (R407). -/
  | PCIE_MSIXEN
  /-- MSI-X function mask (R407). -/
  | PCIE_FMASK
  /-- 256 + command byte of the transaction in progress; 0 none (R396). -/
  | QSPI_CMD
  /-- nibbles of the current word already transferred (R398). -/
  | QSPI_NIB
  /-- the transaction is a bad command: IO stays high-impedance (R396). -/
  | QSPI_BAD
  /-- SYSCNT at which T1 or T2 of the set started (inst = block ID) (R444). -/
  | FLT_T0
  /-- SYSCNT capture + 1 of the first read of FLT_FIRST since the record was written; 0 while unread (R442). -/
  | FLT_READT
  /-- BOOTSRC as sampled (R459). -/
  | STRAP_BOOTSRC
  /-- TESTMODE_N was low at sampling (R459). -/
  | STRAP_TESTMODE
  /-- PORST_N is asserted (R461). -/
  | IN_PORST
  /-- a power-fail snapshot is being programmed (R470). -/
  | SNAP_BUSY
  /-- page the snapshot in progress goes to (R472). -/
  | SNAP_PAGE
  /-- snapshot page is erased (inst = page) (R472). -/
  | SNAP_PGE
  /-- an erase of the page is in progress (R472). -/
  | SNAP_ERASING
  /-- the snapshot belongs to entry into the wake-only state (R475). -/
  | SNAP_SLEEP
  /-- SLEEP_ACK is asserted (R475). -/
  | SLEEP_ACK_PIN
  /-- the package is in the wake-only state (R475). -/
  | WAKE_ONLY
  /-- MAC 0's lane and wake detector are handed to the always-on domain (R475). -/
  | AON_LANE
  /-- number the next entry of the tongue's queues takes, which keeps their order (inst = clutch) (R144). -/
  | TONGUE_TICKET
  /-- the die's latest message of the epoch in progress is a drain report (inst = domain) (R150). -/
  | DRAIN_SENT
  /-- boundary + 1 of the latest epoch start the die received (inst = domain) (R43). -/
  | EP_SEEN
  /-- boundary + 1 of a release order that waits for the run in progress to end (inst = domain) (R172). -/
  | REL_ORDER
  /-- boundary + 1 of the bus block last written by this home (inst = bus) (R46). -/
  | BUS_WRITTEN
  /-- global address of the beat or descriptor whose error the engine is handling (R225). -/
  | DMA_EADDR
  /-- word of the descriptor the engine has read (inst = engine*8+word) (R223). -/
  | DMA_DESC
  /-- time at which DONE issued, or the counters were cleared since (R91). -/
  | NEWT_DONET
  /-- CSF has delivered READY and serves commands (R418). -/
  | CSF_READY
  /-- event groups the pair subscribes to (inst = pair) (R416). -/
  | CSF_EVMASK
  /-- event counter of the pair (inst = pair) (R413). -/
  | CSF_EVSEQ
  /-- events discarded since the pair's last delivery (inst = pair) (R416). -/
  | CSF_EVLOST
  /-- TXID assigned last (R418). -/
  | CSF_TXID
  /-- graph image: 0 none, 1 being loaded, 2 loaded (R432). -/
  | IMG_STATE
  /-- SIZE of the image being loaded (R432). -/
  | IMG_SIZE
  /-- CRC-32 announced for it (R432). -/
  | IMG_CRC
  /-- the first PAIR_EVENT since READY is still to carry the snapshot's values (R474). -/
  | CSF_SNAPEV
  /-- the holding register of a master (inst = port): 0 empty, 1 a capture, 2 a held low word (R5). -/
  | HOLD_KIND
  /-- the 64-bit register it came from: die and die-local address (R5). -/
  | HOLD_REG
  /-- the word held (R5). -/
  | HOLD_VAL
  /-- memory space enable of the endpoint's command register (R392). -/
  | PCIE_MSE
  /-- max payload size of the endpoint's device control register (R392). -/
  | PCIE_MPS
  /-- Unsupported Request Detected of the endpoint's device status register (R392). -/
  | PCIE_URD
  /-- AER uncorrectable error status of the endpoint (R392). -/
  | PCIE_UESTA
  /-- AER uncorrectable error mask of the endpoint (R392). -/
  | PCIE_UEMASK
  /-- AER uncorrectable error severity of the endpoint (R392). -/
  | PCIE_UESEV
  /-- step of the boot sequence the gill has come to: 0 none, 2 stage 2 runs, 3 leapfrog, 4 second lock, 5 links and after (R462). -/
  | BOOT_STEP
  /-- dies whose part of the boot step is not done (R462). -/
  | BOOT_WAIT
  /-- SYSCNT capture of the ring step (R463). -/
  | RING_STEPT
  /-- CSF has left the set's acknowledgement to the host (R448). -/
  | CSF_HOLDACK
  /-- ROLE of the snapshot that READY reported (R474). -/
  | CSF_SNAPROLE
  /-- SYNC of the snapshot that READY reported (R474). -/
  | CSF_SNAPSYNC
  /-- PAIR_ACTSINCE of the snapshot that READY reported (R474). -/
  | CSF_SNAPSINCE
  /-- PFAIL_N is asserted, as the gill has accepted it (R470). -/
  | PFAIL_PIN
  /-- PCIE_PERST_N is asserted (R395). -/
  | PCIE_PERST
  /-- image set whose stage 2 the ROM accepted; 0 none (R467). -/
  | BOOT_SET
  /-- base address of BAR0 as configured (R392). -/
  | PCIE_BAR0
  /-- base address of BAR2 as configured (R392). -/
  | PCIE_BAR2
  /-- PAIRID in a unit's latest HEALTH frame (inst = ring address) (R423). -/
  | CSF_UPAIR
  /-- PTP domain number set by NET_PTP_SET (R418). -/
  | CSF_PTPDOM
  /-- log sync interval set by NET_PTP_SET, signed (R418). -/
  | CSF_PTPSYNC
  /-- nanoseconds in which the die's core clock made no cycle, gated or in bypass (R307). -/
  | LOST_CYC
  /-- time at which the acceptance of the die's latest post across a die link is back (inst = domain) (R150). -/
  | POST_ACC
  /-- 1 + package clutch whose claim the home granted last; 0 none (die = home) (R146). -/
  | FLOW_RR
  /-- the last alignment found the domain's count ahead of the ring (inst = domain) (R40). -/
  | RING_AHEAD
  /-- RATE or block size of the ring-wide domain differs from the head's (inst = domain) (R264). -/
  | RING_MIS
  /-- word index of the last bundle newt n issued (R100). -/
  | NEWT_LAST
  /-- time + 1 at which the counters of newt n were last cleared (R101). -/
  | NEWT_CLRT
  /-- SLOTMASK_NEXT staged a mask that no commit has latched yet (R245). -/
  | SAP_DIRTY
  /-- time of the domain's last count (inst = domain) (R366). -/
  | DOM_EDGET
  /-- sum of the frequency word over the nanoseconds of lock since the last update, signed (R292). -/
  | HO_ACC
  /-- nanoseconds of lock since the last update (R292). -/
  | HO_ACCN
  /-- average of the frequency word over one of the last 100 updates, signed ppt (inst = update modulo 100) (R292). -/
  | HO_AVG
  /-- the next place in HO_AVG (R292). -/
  | HO_UPD
  /-- the PHC has stepped since reference 8's last edge (R345). -/
  | PTP_JUMP
  /-- SYSCNT time at which the pulse in progress ends (R347). -/
  | TS_OFFT
  /-- a step has carried the PHC past START of the armed one-shot (R348). -/
  | TS_JUMP
  /-- die 7's copy differed at the last check and is loaded at the next (R339). -/
  | PHC_SLVBAD
  /-- the pair whose turn is next in CSF's round (R415). -/
  | CSF_TURN
  /-- MBX_PI before its last accepted write (R404). -/
  | MBX_PIOLD
  /-- MBX_CI before its last accepted write (R404). -/
  | MBX_CIOLD
  /-- cycles of the die when newt n entered HALTED: its pipeline goes on (inst = newt) (R93). -/
  | NEWT_HALTT
  /-- code of the raise that the record takes of the cycle in which the set last raised (inst = set) (R440). -/
  | FLT_LASTC
  /-- INSTANCE of that raise (R440). -/
  | FLT_LASTI
  /-- that cycle held more than one raise (R441). -/
  | FLT_LASTN
  /-- SYSCNT capture of that cycle (R440). -/
  | FLT_LASTT
  /-- SYSCNT of the last write of an offset, or of the enable of the servo (R342). -/
  | SERVO_OFFT
  /-- own digest of a slot (inst = domain*64 + slot mod 64) (R373). -/
  | DIG_RING
  /-- boundary + 1 at which that slot is reported; 0 none (R373). -/
  | DIG_RINGB
  /-- partner's digest of a slot (inst = domain*64 + slot mod 64) (R373). -/
  | DIG_PART
  /-- 1 + low 32 bits of its boundary; 0 none (R373). -/
  | DIG_PARTB
  /-- 1 + low 32 bits of the boundary whose digests were compared last at this place (R373). -/
  | DIG_CMP
  /-- the unit is oversize: it takes no address and is passive (R360). -/
  | RING_OVER
  /-- TAG at which the search for the next free one begins (R365). -/
  | RING_TAGN
  /-- a Biray port was UP at the ring step (R463). -/
  | RING_UPSTEP
deriving DecidableEq, Repr

/-- Width of a cell in bits. -/
def Fld.width : Fld → Nat
  | .TB_SYSCNT | .TB_DOMCNT | .EPOCH_CUR | .EPOCH_COMMIT_AT | .EPOCH_SNAP_AT | .EPOCH_SNAP_SRC | .NEWT_BUSY
  | .DBG_ACC | .Q_WAIT_SUM | .CHORUS_XSAMP | .GPIO_STAMP | .MAC_MHASH | .PHC_SYS | .SERVO_OFFSET | .STEP_VAL
  | .MAP_DOMCNT | .RING_DEVID | .PAIR_ACTSINCE | .PAIR_SNAP_AT | .AXO_TAILSTAMP | .FLT_FIRST_STAMP | .EP_T0
  | .EP_PASSED | .EP_PASST | .COMMIT_T | .SNAP_T | .SNAPBUF | .DOM_T0 | .ASET_B | .BR_BSTAMP | .BR_ISTAMP
  | .REF_RAWT | .REF_E1 | .REF_E2 | .REF_HOLDT | .GPIO_RAWT | .MDLL_T0 | .SRX_BSTAMP | .RING_TH | .RING_HDOM
  | .PAIR_YIELDAT | .PAIR_TD | .FLT_T0 | .FLT_READT | .TONGUE_TICKET | .NEWT_DONET | .RING_STEPT | .CSF_SNAPSINCE
  | .PCIE_BAR0 | .PCIE_BAR2 | .LOST_CYC | .POST_ACC | .NEWT_CLRT | .DOM_EDGET | .HO_ACCN | .TS_OFFT | .NEWT_HALTT
  | .FLT_LASTT | .SERVO_OFFT => 64
  | .TB_GEN | .EPOCH_LATE_CNT | .EPOCH_SKIP_CNT | .EPOCH_DRAIN_LAST | .EPOCH_DRAIN_MAX | .NEWT_TASKS
  | .NEWT_STALL_SB | .NEWT_STALL_MEM | .NEWT_STALL_FAB | .NEWT_STALL_DONE | .NEWT_BADADDR | .DBG_V | .DBG_S
  | .DBG_A | .DBG_B | .DBG_L | .DBG_M | .CROAK_SEQ | .CROAK_DROP | .NAFF_HIT | .NAFF_MISS | .Q_WAIT_MAX | .Q_DISP
  | .DOM_DRAIN_LAST | .DOM_DRAIN_MAX | .DOM_LATE | .DOM_MERGED | .SLOT_MASK | .SLOT_FLAGS | .SLOT_PEND | .SLOT_ARG
  | .TONGUE_FLOWMAP | .CHORUS_SAT_CNT | .CHORUS_NAN_CNT | .CHORUS_BADXP_CNT | .CHORUS_XKICK_CNT
  | .CHORUS_GRPMISS_CNT | .CHORUS_BADPART_CNT | .CHORUS_INCOMP_CNT | .BANK_COLL_OVF | .LF_NEWT_FAIL
  | .FAB_DERR_ADDR | .FAB_DERR_OVF | .FAB_PERR_ADDR | .FAB_PERR_OVF | .SAP_SLOTMASK | .SAP_SLOTMASK_NEXT
  | .SAP_SLIP_DROP | .SAP_SLIP_REP | .SAP_SLIP_UNDR | .SAP_FERR | .SAP_LOST | .SAP_DITHER | .PG_DROP | .PG_REP
  | .DOM_RPHASE | .BR_DELAY | .BR_RATIO | .BR_ALIGN_N | .BR_ALIGN_S | .BR_UNDR | .BR_LOST | .DPLL_FREQ
  | .DPLL_HOFREQ | .DPLL_PBO | .REFSEL_DISC | .REFSEL_SWCNT | .REF_NOM_NUM | .REF_FREQ | .REF_PHASE | .REF_OVR
  | .FO_NUM | .FO_OFFSET | .FO_WIDTH | .FO_ERR | .GPIO_OVR | .MDLL_LOCKCNT | .MDLL_LOCKTIME | .MDLL_STALL
  | .MAC_TSF_S | .TX_FRAMES | .TX_ABORT | .TX_LAUNCH_LATE | .RX_FRAMES | .RX_FCS | .RX_RUNT | .RX_OVSZ | .RX_ALIGN
  | .RX_OVF | .RX_NOBUF | .RX_PAUSE | .RX_CTRL | .WAKE_PAT | .WAKE_MASK | .STX_TSOFS | .STX_PKTS | .STX_LATE
  | .STX_DROP | .STX_GATED | .SRX_MATCH_IP | .SRX_MATCH_SRC | .SRX_OFS | .SRX_PKTS | .SRX_LATE | .SRX_EARLY
  | .SRX_MISS | .SRX_SEQGAP | .SRX_BADHDR | .STEP_THRESH | .SERVO_FMAX | .SERVO_FREQ | .SERVO_FBASE | .SERVO_INT
  | .STEP_CNT | .MAP_SEQ | .TS_EDGES | .BIRAY_CRCERR | .BIRAY_DISC | .BIRAY_WRAPCNT | .RING_TIMEOUT | .PAIR_HMISS
  | .PAIR_MISMATCH | .PAIR_DIG_BND | .PAIR_DIG_OWN | .PAIR_DIG_PART | .HOST_IPEND | .HOST_IMASK | .MSIX_ADDR
  | .MSIX_UADDR | .MSIX_DATA | .MSIX_PBA | .AXO_SHEDCNT | .AXO_MEAS | .FLT_LIVE | .FLT_STICKY | .FLT_CNT
  | .FLT_IEN | .BUS_TERMS | .ASET_TERMS | .LF_RUNNEWTS | .SAP_LFSR | .REF_GEDGES | .REF_GREJ | .HO_LOCKT
  | .GPIO_GEDGES | .GPIO_GREJ | .PHC_F | .RING_HPH | .PAIR_DIG | .DIG_ACC | .MIRROR_GEN | .DMA_DESC | .CSF_EVMASK
  | .CSF_EVLOST | .CSF_TXID | .IMG_SIZE | .IMG_CRC | .HOLD_VAL | .PCIE_UESTA | .PCIE_UEMASK | .PCIE_UESEV
  | .HO_AVG | .DIG_RING | .DIG_PART => 32
  | .TB_STATUS_SYNC | .EPOCH_CFG_EN | .EPOCH_STATUS_RUN | .EPOCH_STATUS_DRAINED | .EPOCH_STATUS_LATE
  | .EPOCH_STATUS_OVERRUN | .EPOCH_STATUS_SKIPPED | .EPOCH_CTL_COMMIT_ARM | .EPOCH_CTL_COMMIT_CANCEL
  | .EPOCH_CTL_SNAP_ARM | .EPOCH_CTL_SNAP_CANCEL | .EPOCH_CSTAT_COMMIT_PEND | .EPOCH_CSTAT_COMMIT_DONE
  | .EPOCH_CSTAT_BADALIGN | .EPOCH_CSTAT_TOOLATE | .EPOCH_CSTAT_REFUSED | .EPOCH_CSTAT_SPLIT
  | .EPOCH_CSTAT_SNAP_PEND | .EPOCH_CSTAT_SNAP_DONE | .EPOCH_CSTAT_SNAP_BAD | .NEWT_CFG_LOOPSEL | .NEWT_CFG_DBGEN
  | .NEWT_CTL_PARK_REQ | .NEWT_CTL_UNPARK | .NEWT_CTL_HALT_REQ | .NEWT_CTL_RESUME | .NEWT_CTL_STEP
  | .NEWT_CTL_ABORT | .NEWT_CTL_CLR_CNT | .NEWT_STATUS_CFGLOCK | .NEWT_STATUS_INREPT | .NEWT_STATUS_HALT_PEND
  | .NEWT_STATUS_PARK_PEND | .NEWT_STATUS_ABORTED | .NEWT_STATUS_MISALIGN | .NEWT_STATUS_HALT_IGN
  | .NEWT_TASK_COPY | .NEWT_BKPT_EN | .NEWT_ECC_DMEM_UE | .NEWT_ECC_PMEM_UE | .NEWT_ECC_CE_CLR | .NEWT_RST
  | .TONGUE_POST_EPOCH | .TONGUE_CFG_CLR_CNT | .CROAK_CFG_EN | .CROAK_CFG_SKIPLOG | .CROAK_CFG_FREEZE_LATE
  | .CROAK_CFG_FROZEN | .CROAK_CFG_FREEZE | .TDOM_STATUS_IDLE | .DOM_STATUS_MLOCK | .DOM_STATUS_BADRATE
  | .DOM_STATUS_RINGMIS | .DOM_STATUS_AHEAD | .DOM_STATUS_RINGERR | .SLOT_CTRL_EN | .SLOT_CTRL_MODE
  | .SLOT_STATE_AFFV | .SLOT_CLR_FLAGS | .SLOT_CLR_PEND | .SLOT_CLR_AFF | .CHORUS_CFG_EN | .CHORUS_STATUS_BUSY
  | .GRP_CFG_EN | .GRP_STAT_RAN | .GRP_STAT_MISS | .BUS_CFG_EN | .BUS_CFG_TX | .BUS_CONS_CEN | .BUS_CONS_KEN
  | .BUS_STAT_SAT | .BUS_STAT_NAN | .BUS_STAT_INCOMP | .BUS_STAT_LATE | .BUS_STAT_RANGE | .LF_CTL_START
  | .LF_CTL_ABORT | .LF_CTL_MODE | .LF_CTL_ALL | .LF_CTL_NEWTS | .LF_STATUS_BUSY | .LF_STATUS_DONE
  | .LF_STATUS_REFUSED | .LF_STATUS_ABORTED | .LF_STATUS_OFFLINE | .LF_FAIL_VALID | .BANK_COLL_VALID
  | .BANK_TORN_VALID | .BANK_ECCLOG_HALF | .BANK_ECCLOG_VALID | .BANK_ECCLOG_UE | .BANK_ECCLOG_PORT
  | .BANK_ECCLOG_MERGE | .BANK_ECCLOG_INJ | .LF_FUSE_BURN | .LF_FUSE_BUSY | .LF_FUSE_DONE | .LF_FUSE_ERR
  | .BANK_STAT_OFFLINE | .BANK_STAT_UE | .BANK_STAT_TORN | .BANK_REPAIR_FUSED_LO | .BANK_REPAIR_FUSED_HI
  | .BANK_REPAIR_VALID_LO | .BANK_REPAIR_VALID_HI | .FAB_DERR_WRITE | .FAB_DERR_VALID | .FAB_PERR_WRITE
  | .FAB_PERR_VALID | .DMA_KICKOFS_EN | .FAB_PARK_EN | .LINK_STATUS_ABSENT | .LINK_CTL | .DMA_START_ABORT
  | .DMA_STATUS_BUSY | .DMA_STATUS_ERR | .DMA_STATUS_KOVF | .DMA_ERRADDR_VALID | .SAP_CFG_EN | .SAP_CFG_MASTER
  | .SAP_CFG_BREN | .SAP_CFG_PGEN | .SAP_CFG_HIZ | .SAP_CFG_DITHEN | .SAP_FMT_BCKPOL | .SAP_FMT_FSPOL
  | .SAP_FMT_FSDLY | .SAP_STATUS_DRIVE | .SAP_STATUS_BADCFG | .SAP_STATUS_RESYNC | .SAP_STATUS_GSPLIT
  | .SAP_STATUS_MASKPEND | .PG_CFG_EN | .PG_CFG_REFDIR | .PG_STAT_ANCHOR | .PG_STAT_SPLIT | .DOM_CFG_RING
  | .DOM_CFG_MCEN | .BR_CFG_EN | .BR_CFG_ALIGNSET | .BR_STATUS_BADCFG | .BR_STATUS_CONFLICT | .BR_STATUS_RANGE
  | .REFSEL_CFG_REVERT | .REFSEL_STATUS_SWITCHING | .DPLL_CFG_PBO_HIT | .DPLL_CFG_REALIGN | .DPLL_CFG_INITALIGN
  | .DPLL_STATUS_HOVALID | .DPLL_STATUS_XOSRC | .DPLL_STATUS_REALIGNING | .DPLL_HIST_FREE_RUN | .DPLL_HIST_ACQUIRE
  | .DPLL_HIST_LOCKED | .DPLL_HIST_HOLDOVER | .DPLL_HIST_XO_LOST | .DPLL_IEN_FREE_RUN | .DPLL_IEN_ACQUIRE
  | .DPLL_IEN_LOCKED | .DPLL_IEN_HOLDOVER | .DPLL_IEN_XO_LOST | .REF_CFG_EN | .REF_CFG_POL | .REF_LIVE_LOS
  | .REF_LIVE_FREQ_OOR | .REF_LIVE_PHASE_HIT | .REF_LIVE_DISCREPANT | .REF_LIVE_STUCK | .REF_LIVE_OVERRATE
  | .REF_LIVE_SUSPECT | .REF_LIVE_QUAL | .REF_HIST_LOS | .REF_HIST_FREQ_OOR | .REF_HIST_PHASE_HIT
  | .REF_HIST_DISCREPANT | .REF_HIST_STUCK | .REF_HIST_OVERRATE | .REF_HIST_SUSPECT | .REF_HIST_BADCFG
  | .REF_IEN_LOS | .REF_IEN_FREQ_OOR | .REF_IEN_PHASE_HIT | .REF_IEN_DISCREPANT | .REF_IEN_STUCK
  | .REF_IEN_OVERRATE | .REF_IEN_SUSPECT | .REF_IEN_BADCFG | .FO_CFG_EN | .FO_CFG_POL | .FO_CFG_SQUARE | .FO_CTL
  | .FO_STATUS_MISALIGN | .FO_STATUS_BADCFG | .GPIO_CFG_EN | .GPIO_CFG_POL | .GPIO_CFG_IEN | .GPIO_STATUS_LEVEL
  | .GPIO_STATUS_STUCK | .GPIO_STATUS_OVERRATE | .GPIO_STATUS_STUCK_H | .GPIO_STATUS_OVERRATE_H | .GPIO_STATUS_CHG
  | .MDLL_CFG | .MDLL_CTL | .MDLL_HIST_LOL | .MDLL_HIST_REFLOSS | .MDLL_HIST_BYPASSED | .MDLL_HIST_MULTI
  | .MAC_CFG_RXPAUSE | .MAC_CFG_GUARD | .MAC_CFG_PROMISC | .MAC_CTL_RESET | .MAC_CTL_CLR_TSOVF
  | .MAC_CTL_ANRESTART | .MAC_STATUS_LINK | .MAC_STATUS_PAUSED | .MAC_STATUS_ANDONE | .MAC_STATUS_LINKCHG
  | .MAC_STATUS_TSOVF | .MAC_STATUS_BADCFG | .MAC_TSF_INFO_VALID | .MAC_WAKE_CFG_MAGIC | .MAC_WAKE_STAT_MHIT
  | .PKT_CFG_EN | .PKT_CFG_TXGATE | .STX_CFG_EN | .STX_HDR_VLAN | .STX_STAT_RUN | .STX_STAT_BADCFG | .SRX_CFG_EN
  | .SRX_CFG_SRCCHK | .SRX_STAT_RUN | .SRX_STAT_BADCFG | .SRX_STAT_RCVD | .PTP_CTL_SNAP | .PTP_CTL_SET
  | .PTP_STATUS_SLVERR | .PTP_STATUS_PEND | .SERVO_CFG | .SERVO_CTL_STEP_ACK | .SERVO_CTL_CLR
  | .SERVO_STATUS_STEP_REQ | .SERVO_STATUS_LOCK | .SERVO_STATUS_HOLD | .SERVO_STATUS_FSAT
  | .SERVO_STATUS_STEP_CANC | .SERVO_STATUS_STEPPED | .MAP_STAT | .TS_CFG_EN | .TS_CFG_PERIODIC | .TS_CFG_POL
  | .TS_STATUS_LATE | .TS_STATUS_BADCFG | .BIRAY_STATUS_WRAP | .BIRAY_STATUS_LINKCHG | .BIRAY_CTL
  | .RING_STATUS_UP | .RING_STATUS_HEAD | .RING_STATUS_WRAPPED | .RING_STATUS_OVERSIZE | .RING_STATUS_NOHEAD
  | .RING_STATUS_MULTIHEAD | .RING_STATUS_ENUMFAIL | .RING_CTL | .PAIR_CFG_AUTO | .PAIR_CFG_ISOYIELD
  | .PAIR_CTL_ACTIVATE | .PAIR_CTL_TAKEOVER | .PAIR_CTL_SNAP_ARM | .PAIR_CTL_SNAP_CANCEL | .PAIR_STATUS_PARTNER
  | .PAIR_STATUS_TAKEPEND | .PAIR_STATUS_SNAPPEND | .PAIR_STATUS_REFUSED | .PAIR_STATUS_SNAPFAIL
  | .PAIR_STATUS_CONFLICT | .PAIR_STATUS_BADALIGN | .PAIR_STATUS_TOOLATE | .HP_CFG | .HP_STATUS_LINKUP
  | .HP_TPEND_FLR | .HP_GILLREQ_RESTART_TAIL | .HP_GILLREQ_PEND | .QSPI_STATUS_ERR | .QSPI_STATUS_ABORT
  | .QSPI_STATUS_BADCMD | .HP_ERRADDR_VALID | .MBX_STAT_BADIDX | .MBX_STAT_WRONGSIDE | .BAR2_XLAT_EN
  | .BAR2_XLAT_RO | .MSIX_CTRL | .AXO_STATUS_TAILSIGN | .AXO_TAIL_CTL | .THERM_STATUS_TRIPPED | .THERM_TEMP_VALID
  | .FLT_FIRST_VALID | .FLT_FIRST_CONCURRENT | .FLT_FIRST_CLEARED_BEFORE_READ | .FLT_STATUS_TIRQ
  | .FLT_STATUS_GIRQ | .FLT_STATUS_ACK | .FLT_STATUS_LATEACK | .FLT_STATUS_NOTE | .FLT_ESC_EN | .FLT_ESC_ACK2
  | .FLT_ESC_CLR3 | .REFCLK_OK | .EP_CURV | .EP_OWED | .COMMIT_OWN | .NEWT_STEP | .NEWT_SKIPBP | .FLOW_BUSY
  | .CROAK_FREEZING | .GRP_EN_EFF | .GRP_ABAND | .GRP_COPY | .BUS_EN_EFF | .BUS_PSAT | .BUS_PNAN | .BUS_RELD
  | .ASET_RED | .LF_RUNMODE | .LF_RUNALL | .EFUSE_BAD | .FAB_PARKPEND | .DMA_BYREG | .SAP_STOPPING | .BR_STOPPING
  | .REF_LEVEL | .REF_RAW | .REF_RAWP | .REF_GHIT | .REF_GCLEAN | .REF_GDIRTY | .SW_FREERUN | .HO_FROZEN
  | .FO_HIGH | .FO_REALIGN | .GPIO_RAW | .GPIO_RAWP | .MDLL_AFTERLOSS | .MDLL_COMPAT | .MAC_AN | .STX_STOPPING
  | .SRX_SEQV | .SRX_VALID | .SRX_MISSD | .WAKE_N_PIN | .MAP_STEPD | .TS_ACT | .BIRAY_DLY | .RING_STEPPED
  | .RING_HASADDR | .RING_TOKEN | .BIRAY_DISCW | .RING_ALIGN | .PAIR_ACTREQ | .PAIR_TRIG | .PAIR_YIELD
  | .PAIR_APPL | .PAIR_SNAPACK | .PAIR_TDV | .MIRROR_ENDV | .TAIL_SHEDDING | .TAIL_SHED | .PCIE_D3 | .PCIE_MSIXEN
  | .PCIE_FMASK | .QSPI_BAD | .STRAP_TESTMODE | .IN_PORST | .SNAP_BUSY | .SNAP_PAGE | .SNAP_PGE | .SNAP_ERASING
  | .SNAP_SLEEP | .SLEEP_ACK_PIN | .WAKE_ONLY | .AON_LANE | .DRAIN_SENT | .CSF_READY | .CSF_SNAPEV | .PCIE_MSE
  | .PCIE_URD | .CSF_HOLDACK | .PFAIL_PIN | .PCIE_PERST | .RING_AHEAD | .RING_MIS | .SAP_DIRTY | .PTP_JUMP
  | .TS_JUMP | .PHC_SLVBAD | .FLT_LASTN | .RING_OVER | .RING_UPSTEP => 1
  | .TB_STATUS_RUN | .NEWT_STATUS_STATE | .NEWT_STATUS_LOOPDEPTH | .SLOT_STATE_LASTNEWT | .GRP_CFG_STAGE
  | .BUS_CFG_STAGE | .BUS_HOME_DIE | .BANK_STAT_NEWROWS | .FAB_DERR_ORIGIN | .FAB_PERR_ORIGIN | .FAB_PRIO_T0
  | .FAB_PRIO_T1 | .FAB_PRIO_T2 | .FAB_PRIO_T3 | .FAB_PRIO_T4 | .FAB_PRIO_T5 | .FAB_PRIO_T6 | .FAB_PRIO_T7
  | .FAB_PRIO_T8 | .FAB_PRIO_T9 | .FAB_PRIO_T10 | .SAP_STATUS_STATE | .SAP_STATUS_LEVEL | .MAC_CFG_MODE
  | .MAC_TSF_INFO_QUEUE | .STX_CFG_QUEUE | .HP_STATUS_WIDTH | .THERM_STATUS_SENSOR | .TONGUE_RR | .QSPI_NIB
  | .PCIE_MPS | .BOOT_STEP => 3
  | .EPOCH_CFG_BSIZE | .NEWT_TASK_DOMAIN | .SLOT_CTRL_DOMAIN | .SLOT_STATE_STATE | .GRP_CFG_DOMAIN
  | .BUS_CFG_DOMAIN | .BANK_COLL_KIND | .BANK_INJ_SEL_HALF | .BANK_STAT_RESULT | .FAB_DERR_CAUSE | .FAB_PERR_CAUSE
  | .LINK_STATUS_STATE | .LINK_STATUS_TRIES | .SAP_CFG_DOMAIN | .SAP_FMT_MODE | .SAP_FMT_SWIDTH | .SAP_FMT_DWIDTH
  | .BR_CFG_SRCDOM | .BR_CFG_DSTDOM | .BR_STATUS_STATE | .REFSEL_CFG_MODE | .DPLL_STATUS_STATE | .FO_STATUS_STATE
  | .MDLL_STATUS_STATE | .MDLL_STATUS_OUT | .MDLL_STATUS_SEARCHES | .MAC_CFG_FEC | .STX_CFG_DOMAIN | .STX_CFG_MAC
  | .STX_FMT_ENC | .SRX_CFG_DOMAIN | .SRX_FMT_ENC | .TS_STATUS_STATE | .BIRAY_STATUS_STATE | .PAIR_STATUS_ROLE
  | .PAIR_STATUS_SYNC | .HP_STATUS_SPEED | .AXO_STATUS_TAIL | .FLT_FIRST_SEV | .FLT_INJ_SEL | .FLT_STATUS_LEVEL
  | .FLT_ESC_MINSEV | .DMA_PHASE | .LINK_TRIES | .SAP_GOOD | .REF_NE | .SW_EDGES | .RING_TRIES | .PAIR_PSYNC
  | .PAIR_QUIET | .PAIR_ACTQ | .PAIR_PROLE | .PAIR_PESC | .PAIR_MISSN | .STRAP_BOOTSRC | .IMG_STATE | .HOLD_KIND
  | .BOOT_SET => 2
  | .EPOCH_STATUS_DIE_DRAINED | .NEWT_TASK_SLOT | .NEWT_FPFLAGS_V | .NEWT_FPFLAGS_O | .NEWT_FPFLAGS_U | .DBG_P
  | .CHORUS_STATUS_GROUP | .CHORUS_KICK | .GRP_CFG_NKICK | .GRP_STAT_KICKS | .BUS_CONS_KGRP | .LF_CTL_BANK
  | .LF_STATUS_BANK | .LF_FAIL_BIT | .BANK_COLL_AMASTER | .BANK_COLL_BMASTER | .BANK_TORN_MASTER
  | .BANK_INJ_SEL_BANK | .BANK_INJ_SEL_MASK | .LF_FUSE_BANK | .DPLL_LOCK_LOCKTIME | .DPLL_LOCK_HITTH
  | .REF_QUAL_HOLDOFF | .REF_HOLD | .MAC_WAKE_CFG_PEN | .MAC_WAKE_STAT_PHIT | .STX_FMT_PTIME | .SRX_FMT_PTIME
  | .SERVO_LOCK_LOCKN | .SERVO_LOCK_TIMEOUT | .PAIR_CFG_PAIRID | .THERM_CFG_WARN | .THERM_CFG_HOT | .FLT_INJ_MASK
  | .LF_FUSEB | .LINK_FLITS | .BR_BFLAGS | .BR_IFLAGS | .SRX_BFLAGS | .SERVO_GOODN | .BOOT_WAIT | .CSF_SNAPROLE
  | .CSF_SNAPSYNC | .CSF_UPAIR | .CSF_PTPDOM | .CSF_PTPSYNC | .HO_UPD | .RING_TAGN => 8
  | .NEWT_TASK_NEWT | .NEWT_TASK_PRIO | .SLOT_CTRL_PRIO | .CHORUS_CFG_XFLEN | .BANK_TORN_WRITTEN | .BANK_TORN_LEN
  | .FAB_DERR_PORT | .FAB_PERR_PORT | .FAB_PARK_MASTER | .SAP_FMT_SLOTS | .RING_STATUS_N | .AXO_TWIN
  | .FLT_FIRST_CODE | .FAB_RR | .PAIR_EQ | .FLOW_RR | .FLT_LASTC => 5
  | .NEWT_TASK_FLOW | .SLOT_CTRL_FLOW | .DPLL_CFG_SLEW => 10
  | .NEWT_PC | .NEWT_BKPT_ADDR | .SLOT_ENTRY | .CHORUS_KICKOFS | .DMA_KICKOFS_OFS | .NEWT_NEXT | .NEWT_LAST => 13
  | .NEWT_ECC_CE_CNT | .TONGUE_CFG_AFFWIN | .TONGUE_STATUS_POSTDIS_CNT | .GRP_RANGE_COUNT | .BANK_CE_CE_CNT
  | .BANK_CE_UE_CNT | .FAB_STAT_TORN_CNT | .LINK_CE_CE_CNT | .LINK_CE_UE_CNT | .DPLL_LOCK_LOCKWIN | .REF_NOM_DEN
  | .REF_QUAL_WINDOW | .REF_MON_STUCKTO | .FO_DEN | .GPIO_LEVELS | .GPIO_MON_GFLT | .GPIO_MON_STUCKTO | .GPIO_RATE
  | .MDLL_PHERR | .MAC_TSF_INFO_SEQ | .MAC_TSF_OVF | .STX_SEQOFS | .SRX_MATCH_PORT | .PHC_FRAC
  | .SERVO_LOCK_LOCKTH | .MAP_FRAC | .BIRAY_DELAY | .RING_PRESENT | .HP_TPEND_CMD | .BAR2_XLAT_TARGET
  | .FLT_FIRST_INSTANCE | .FLT_INJ_COUNT | .FLT_GRACE_T1 | .FLT_GRACE_T2 | .COMMIT_ACKS | .EFUSE_REP | .MAC_TSEQ
  | .MAC_PAUSET | .SRX_SEQ | .CSF_EVSEQ | .FLT_LASTI => 16
  | .TONGUE_POST_FLAGS | .BUS_CFLAGS => 31
  | .TONGUE_STATUS_QUEUED | .Q_DEPTH | .Q_HWM | .TDOM_STATUS_QUEUED | .CHORUS_XP_BASE | .BANK_REPAIR_ROW_LO
  | .BANK_REPAIR_ROW_HI | .QSPI_CMD => 9
  | .TONGUE_STATUS_INSVC | .TDOM_STATUS_INSVC | .BUS_HOME_UNIT | .FAB_STAT_UP | .FAB_DERR_DIE | .FAB_DERR_UNIT
  | .FAB_DERR_CLASS | .FAB_PERR_DIE | .FAB_PERR_UNIT | .FAB_PERR_CLASS | .DMA_STATUS_QDEPTH | .SAP_CFG_PGRP
  | .DOM_CFG_RATE | .BR_CFG_SRCRATE | .REFSEL_CFG_FORCEIDX | .REFSEL_STATUS_SEL | .DPLL_CFG_BW
  | .DPLL_STATUS_BWEFF | .REF_CFG_RANK | .FO_CFG_SRC | .MDLL_STATUS_BAND | .TXQ_SIZE | .RXR_SIZE
  | .SRX_CFG_MACMASK | .SRX_JBUF_JLOG | .BIRAY_STATUS_LANES | .RING_STATUS_ADDR | .SUBNS | .DMA_CLASS | .DMA_DOM
  | .SAP_WAS | .BR_WAS | .PAIR_PADDR | .CSF_TURN => 4
  | .CROAK_BASE | .BUS_HOME_EXPECT | .BUS_STAT_RCVD | .BANK_ECCLOG_BIT | .SAP_CFG_BRIDGE | .SRX_FMT_PT | .MBX_PI
  | .MBX_CI | .MBX_STAT_FILL | .ASET_RCVD | .MBX_PIOLD | .MBX_CIOLD => 7
  | .CROAK_WPTR | .TXQ_PI | .TXQ_CI | .RXR_PI | .RXR_CI | .THERM_TEMP_TJ | .THERM_MAX | .VMON | .TXQ_FETCH => 12
  | .CHORUS_XP_CNT | .NEWT_REPT | .MAC_PAUSEQ => 17
  | .GRP_RANGE_FIRST => 15
  | .BUS_DEST | .DMA_START_DESC | .DMA_CUR | .PKT_TXLOAD | .PKT_RXLOAD => 20
  | .BUS_CONS_TARGET | .STX_HDR_BASE => 18
  | .LF_FAIL_WADDR | .BANK_COLL_WADDR | .BANK_TORN_WADDR | .BANK_ECCLOG_WADDR => 21
  | .FAB_PERM | .HOLD_REG => 36
  | .LINK_LAT | .PG_CFG_REFPORT | .PG_STAT_MEMBERS | .REF_MON_GFLT | .MAC_TSF_INFO_DEPTH | .STX_FMT_CHANS
  | .SRX_FMT_CHANS | .FAB_PARKED => 6
  | .DMA_ERRADDR_ADDR | .TS_PERIOD | .HP_ERRADDR_ADDR | .PHC_RFRAC | .DMA_EADDR => 40
  | .SAP_BUF | .BR_IBUF | .BR_OBUF | .MAC_CFG_MAXLEN | .RXR_BUFLEN | .STX_BUF | .SRX_BUF | .SRX_JBUF_BASE
  | .PAIR_RGN_BASE | .HOST_EVT => 14
  | .MAC_ADDR | .PHC_SEC | .PHC_SETSEC | .MAP_SEC | .TS_START_SEC | .PHC_RSEC | .TS_NSEC => 48
  | .TXQ_BASE | .RXR_BASE => 19
  | .MAC_TSF_NS | .PHC_NS | .PHC_SETNS | .MAP_NS | .TS_START_NS | .PBO_ACC | .PHC_RNS | .TS_NNS => 30
  | .SERVO_KP | .SERVO_KI | .TS_WIDTH => 24
  | .PAIR_RGN_CNT => 11
  | .EP_RDY | .EP_ASGN | .TX_MISS | .BR_BOPEN | .BR_N0 | .BR_S0 | .SRX_BN0 | .RING_ASGNT | .PAIR_PBND
  | .PAIR_PBND2 | .PAIR_YIELDB | .PORT_DOWNT | .PAIR_DIGB | .EP_SEEN | .REL_ORDER | .BUS_WRITTEN | .DIG_RINGB => 65
  | .XSUM | .ASET_SUM | .HO_ACC => 96
  | .FO_NEXT | .FO_FALL => 128
  | .DIG_PARTB | .DIG_CMP => 33

/-- Reset value of FAB_PERM of a class on a die (R218). -/
def Fld.permReset (d cls : Nat) : Nat :=
  if d < 6 then
    match cls with
    | 0 | 1 | 2 | 3 | 4 | 5 | 7 => 0x3FFFFF
    | 9 => 0x155555
    | _ => 0
  else
    match cls with
    | 0 | 1 | 2 | 3 | 4 | 5 => 0x55555553F
    | 7 => 0xFFFFFFFFF
    | 8 => if d = 6 then 0xC0 else 0
    | 9 => if d = 6 then 0xD57555515 else 0x555555515
    | _ => 0

/-- Reset value of the cell of instance `i` on die `d`. -/
def Fld.reset (f : Fld) (d i : Nat) : Nat :=
  match f with
  | .TB_SYSCNT | .TB_DOMCNT | .TB_GEN | .TB_STATUS_SYNC | .TB_STATUS_RUN | .EPOCH_CFG_EN | .EPOCH_STATUS_RUN
  | .EPOCH_STATUS_DRAINED | .EPOCH_STATUS_DIE_DRAINED | .EPOCH_STATUS_LATE | .EPOCH_STATUS_OVERRUN
  | .EPOCH_STATUS_SKIPPED | .EPOCH_CUR | .EPOCH_LATE_CNT | .EPOCH_SKIP_CNT | .EPOCH_DRAIN_LAST | .EPOCH_DRAIN_MAX
  | .EPOCH_COMMIT_AT | .EPOCH_SNAP_AT | .EPOCH_CTL_COMMIT_ARM | .EPOCH_CTL_COMMIT_CANCEL | .EPOCH_CTL_SNAP_ARM
  | .EPOCH_CTL_SNAP_CANCEL | .EPOCH_CSTAT_COMMIT_PEND | .EPOCH_CSTAT_COMMIT_DONE | .EPOCH_CSTAT_BADALIGN
  | .EPOCH_CSTAT_TOOLATE | .EPOCH_CSTAT_REFUSED | .EPOCH_CSTAT_SPLIT | .EPOCH_CSTAT_SNAP_PEND
  | .EPOCH_CSTAT_SNAP_DONE | .EPOCH_CSTAT_SNAP_BAD | .EPOCH_SNAP_SRC | .NEWT_CFG_LOOPSEL | .NEWT_CFG_DBGEN
  | .NEWT_CTL_PARK_REQ | .NEWT_CTL_UNPARK | .NEWT_CTL_HALT_REQ | .NEWT_CTL_RESUME | .NEWT_CTL_STEP
  | .NEWT_CTL_ABORT | .NEWT_CTL_CLR_CNT | .NEWT_STATUS_CFGLOCK | .NEWT_STATUS_INREPT | .NEWT_STATUS_HALT_PEND
  | .NEWT_STATUS_PARK_PEND | .NEWT_STATUS_ABORTED | .NEWT_STATUS_MISALIGN | .NEWT_STATUS_HALT_IGN
  | .NEWT_STATUS_LOOPDEPTH | .NEWT_TASK_SLOT | .NEWT_TASK_DOMAIN | .NEWT_TASK_COPY | .NEWT_TASK_NEWT
  | .NEWT_TASK_FLOW | .NEWT_TASK_PRIO | .NEWT_PC | .NEWT_FPFLAGS_V | .NEWT_FPFLAGS_O | .NEWT_FPFLAGS_U
  | .NEWT_BKPT_EN | .NEWT_BKPT_ADDR | .NEWT_BUSY | .NEWT_TASKS | .NEWT_STALL_SB | .NEWT_STALL_MEM
  | .NEWT_STALL_FAB | .NEWT_STALL_DONE | .NEWT_ECC_CE_CNT | .NEWT_ECC_DMEM_UE | .NEWT_ECC_PMEM_UE
  | .NEWT_ECC_CE_CLR | .NEWT_BADADDR | .NEWT_RST | .DBG_V | .DBG_ACC | .DBG_S | .DBG_A | .DBG_B | .DBG_L | .DBG_M
  | .TONGUE_POST_FLAGS | .TONGUE_POST_EPOCH | .TONGUE_CFG_CLR_CNT | .TONGUE_STATUS_QUEUED | .TONGUE_STATUS_INSVC
  | .TONGUE_STATUS_POSTDIS_CNT | .CROAK_BASE | .CROAK_CFG_EN | .CROAK_CFG_SKIPLOG | .CROAK_CFG_FREEZE_LATE
  | .CROAK_CFG_FROZEN | .CROAK_CFG_FREEZE | .CROAK_WPTR | .CROAK_SEQ | .CROAK_DROP | .NAFF_HIT | .NAFF_MISS
  | .Q_DEPTH | .Q_HWM | .Q_WAIT_MAX | .Q_WAIT_SUM | .Q_DISP | .TDOM_STATUS_QUEUED | .TDOM_STATUS_INSVC
  | .DOM_STATUS_MLOCK | .DOM_STATUS_BADRATE | .DOM_STATUS_RINGMIS | .DOM_STATUS_AHEAD | .DOM_STATUS_RINGERR
  | .DOM_DRAIN_LAST | .DOM_DRAIN_MAX | .DOM_LATE | .DOM_MERGED | .SLOT_CTRL_EN | .SLOT_CTRL_MODE | .SLOT_CTRL_PRIO
  | .SLOT_CTRL_DOMAIN | .SLOT_CTRL_FLOW | .SLOT_MASK | .SLOT_FLAGS | .SLOT_PEND | .SLOT_ENTRY | .SLOT_ARG
  | .SLOT_STATE_STATE | .SLOT_STATE_AFFV | .SLOT_STATE_LASTNEWT | .SLOT_CLR_FLAGS | .SLOT_CLR_PEND | .SLOT_CLR_AFF
  | .TONGUE_FLOWMAP | .CHORUS_CFG_EN | .CHORUS_STATUS_BUSY | .CHORUS_STATUS_GROUP | .CHORUS_XP_BASE
  | .CHORUS_XP_CNT | .CHORUS_KICKOFS | .CHORUS_KICK | .CHORUS_XSAMP | .CHORUS_SAT_CNT | .CHORUS_NAN_CNT
  | .CHORUS_BADXP_CNT | .CHORUS_XKICK_CNT | .CHORUS_GRPMISS_CNT | .CHORUS_BADPART_CNT | .CHORUS_INCOMP_CNT
  | .GRP_RANGE_FIRST | .GRP_RANGE_COUNT | .GRP_CFG_EN | .GRP_CFG_DOMAIN | .GRP_CFG_STAGE | .GRP_CFG_NKICK
  | .GRP_STAT_KICKS | .GRP_STAT_RAN | .GRP_STAT_MISS | .BUS_CFG_EN | .BUS_CFG_DOMAIN | .BUS_CFG_TX
  | .BUS_CFG_STAGE | .BUS_HOME_EXPECT | .BUS_DEST | .BUS_CONS_TARGET | .BUS_CONS_CEN | .BUS_CONS_KGRP
  | .BUS_CONS_KEN | .BUS_CFLAGS | .BUS_STAT_SAT | .BUS_STAT_NAN | .BUS_STAT_INCOMP | .BUS_STAT_LATE
  | .BUS_STAT_RANGE | .BUS_STAT_RCVD | .LF_CTL_START | .LF_CTL_ABORT | .LF_CTL_MODE | .LF_CTL_ALL | .LF_CTL_NEWTS
  | .LF_CTL_BANK | .LF_STATUS_BUSY | .LF_STATUS_DONE | .LF_STATUS_REFUSED | .LF_STATUS_ABORTED
  | .LF_STATUS_OFFLINE | .LF_STATUS_BANK | .LF_FAIL_WADDR | .LF_FAIL_VALID | .LF_FAIL_BIT | .BANK_COLL_WADDR
  | .BANK_COLL_KIND | .BANK_COLL_VALID | .BANK_COLL_AMASTER | .BANK_COLL_BMASTER | .BANK_COLL_OVF
  | .BANK_TORN_WADDR | .BANK_TORN_VALID | .BANK_TORN_MASTER | .BANK_TORN_WRITTEN | .BANK_TORN_LEN
  | .BANK_ECCLOG_WADDR | .BANK_ECCLOG_HALF | .BANK_ECCLOG_VALID | .BANK_ECCLOG_BIT | .BANK_ECCLOG_UE
  | .BANK_ECCLOG_PORT | .BANK_ECCLOG_MERGE | .BANK_ECCLOG_INJ | .BANK_INJ_SEL_BANK | .BANK_INJ_SEL_HALF
  | .BANK_INJ_SEL_MASK | .LF_FUSE_BANK | .LF_FUSE_BURN | .LF_FUSE_BUSY | .LF_FUSE_DONE | .LF_FUSE_ERR
  | .LF_NEWT_FAIL | .BANK_STAT_RESULT | .BANK_STAT_NEWROWS | .BANK_STAT_OFFLINE | .BANK_STAT_UE | .BANK_STAT_TORN
  | .BANK_CE_CE_CNT | .BANK_CE_UE_CNT | .BANK_REPAIR_ROW_LO | .BANK_REPAIR_ROW_HI | .BANK_REPAIR_FUSED_LO
  | .BANK_REPAIR_FUSED_HI | .BANK_REPAIR_VALID_LO | .BANK_REPAIR_VALID_HI | .FAB_STAT_UP | .FAB_STAT_TORN_CNT
  | .FAB_DERR_ADDR | .FAB_DERR_DIE | .FAB_DERR_UNIT | .FAB_DERR_PORT | .FAB_DERR_ORIGIN | .FAB_DERR_CLASS
  | .FAB_DERR_WRITE | .FAB_DERR_CAUSE | .FAB_DERR_VALID | .FAB_DERR_OVF | .FAB_PERR_ADDR | .FAB_PERR_DIE
  | .FAB_PERR_UNIT | .FAB_PERR_PORT | .FAB_PERR_ORIGIN | .FAB_PERR_CLASS | .FAB_PERR_WRITE | .FAB_PERR_CAUSE
  | .FAB_PERR_VALID | .FAB_PERR_OVF | .DMA_KICKOFS_EN | .DMA_KICKOFS_OFS | .FAB_PARK_MASTER | .FAB_PARK_EN
  | .LINK_STATUS_STATE | .LINK_STATUS_TRIES | .LINK_CTL | .LINK_CE_CE_CNT | .LINK_CE_UE_CNT | .LINK_LAT
  | .DMA_START_ABORT | .DMA_START_DESC | .DMA_STATUS_BUSY | .DMA_STATUS_QDEPTH | .DMA_STATUS_ERR
  | .DMA_STATUS_KOVF | .DMA_CUR | .DMA_ERRADDR_ADDR | .DMA_ERRADDR_VALID | .SAP_CFG_EN | .SAP_CFG_MASTER
  | .SAP_CFG_DOMAIN | .SAP_CFG_BREN | .SAP_CFG_BRIDGE | .SAP_CFG_PGEN | .SAP_CFG_PGRP | .SAP_CFG_HIZ
  | .SAP_CFG_DITHEN | .SAP_FMT_MODE | .SAP_FMT_SLOTS | .SAP_FMT_SWIDTH | .SAP_FMT_DWIDTH | .SAP_FMT_BCKPOL
  | .SAP_FMT_FSPOL | .SAP_FMT_FSDLY | .SAP_SLOTMASK | .SAP_SLOTMASK_NEXT | .SAP_BUF | .SAP_STATUS_STATE
  | .SAP_STATUS_DRIVE | .SAP_STATUS_LEVEL | .SAP_STATUS_BADCFG | .SAP_STATUS_RESYNC | .SAP_STATUS_GSPLIT
  | .SAP_STATUS_MASKPEND | .SAP_SLIP_DROP | .SAP_SLIP_REP | .SAP_SLIP_UNDR | .SAP_FERR | .SAP_LOST | .PG_CFG_EN
  | .PG_CFG_REFPORT | .PG_CFG_REFDIR | .PG_STAT_ANCHOR | .PG_STAT_SPLIT | .PG_STAT_MEMBERS | .PG_DROP | .PG_REP
  | .DOM_CFG_MCEN | .DOM_RPHASE | .BR_CFG_EN | .BR_CFG_SRCDOM | .BR_CFG_DSTDOM | .BR_CFG_SRCRATE
  | .BR_CFG_ALIGNSET | .BR_STATUS_STATE | .BR_STATUS_BADCFG | .BR_STATUS_CONFLICT | .BR_STATUS_RANGE | .BR_DELAY
  | .BR_RATIO | .BR_ALIGN_N | .BR_ALIGN_S | .BR_IBUF | .BR_OBUF | .BR_UNDR | .BR_LOST | .REFSEL_CFG_MODE
  | .REFSEL_CFG_REVERT | .REFSEL_CFG_FORCEIDX | .REFSEL_STATUS_SWITCHING | .DPLL_CFG_REALIGN | .DPLL_STATUS_STATE
  | .DPLL_STATUS_HOVALID | .DPLL_STATUS_XOSRC | .DPLL_STATUS_REALIGNING | .DPLL_HIST_ACQUIRE | .DPLL_HIST_LOCKED
  | .DPLL_HIST_HOLDOVER | .DPLL_HIST_XO_LOST | .DPLL_FREQ | .DPLL_HOFREQ | .DPLL_PBO | .REFSEL_SWCNT
  | .DPLL_IEN_FREE_RUN | .DPLL_IEN_ACQUIRE | .DPLL_IEN_LOCKED | .DPLL_IEN_HOLDOVER | .DPLL_IEN_XO_LOST
  | .REF_CFG_EN | .REF_CFG_POL | .REF_CFG_RANK | .REF_LIVE_FREQ_OOR | .REF_LIVE_PHASE_HIT | .REF_LIVE_DISCREPANT
  | .REF_LIVE_STUCK | .REF_LIVE_OVERRATE | .REF_LIVE_SUSPECT | .REF_LIVE_QUAL | .REF_HIST_LOS | .REF_HIST_FREQ_OOR
  | .REF_HIST_PHASE_HIT | .REF_HIST_DISCREPANT | .REF_HIST_STUCK | .REF_HIST_OVERRATE | .REF_HIST_SUSPECT
  | .REF_HIST_BADCFG | .REF_IEN_LOS | .REF_IEN_FREQ_OOR | .REF_IEN_PHASE_HIT | .REF_IEN_DISCREPANT
  | .REF_IEN_STUCK | .REF_IEN_OVERRATE | .REF_IEN_SUSPECT | .REF_IEN_BADCFG | .REF_FREQ | .REF_PHASE | .REF_OVR
  | .REF_HOLD | .FO_CFG_EN | .FO_CFG_POL | .FO_CFG_SQUARE | .FO_CFG_SRC | .FO_NUM | .FO_DEN | .FO_OFFSET
  | .FO_WIDTH | .FO_CTL | .FO_STATUS_STATE | .FO_STATUS_MISALIGN | .FO_STATUS_BADCFG | .FO_ERR | .GPIO_LEVELS
  | .GPIO_CFG_EN | .GPIO_CFG_POL | .GPIO_CFG_IEN | .GPIO_MON_STUCKTO | .GPIO_STATUS_LEVEL | .GPIO_STATUS_STUCK
  | .GPIO_STATUS_OVERRATE | .GPIO_STATUS_STUCK_H | .GPIO_STATUS_OVERRATE_H | .GPIO_STATUS_CHG | .GPIO_OVR
  | .GPIO_STAMP | .MDLL_CFG | .MDLL_CTL | .MDLL_STATUS_STATE | .MDLL_STATUS_OUT | .MDLL_STATUS_BAND
  | .MDLL_STATUS_SEARCHES | .MDLL_HIST_LOL | .MDLL_HIST_REFLOSS | .MDLL_HIST_BYPASSED | .MDLL_HIST_MULTI
  | .MDLL_LOCKCNT | .MDLL_LOCKTIME | .MDLL_PHERR | .MDLL_STALL | .MAC_CFG_MODE | .MAC_CFG_FEC | .MAC_CFG_RXPAUSE
  | .MAC_CFG_GUARD | .MAC_CFG_PROMISC | .MAC_CTL_RESET | .MAC_CTL_CLR_TSOVF | .MAC_CTL_ANRESTART
  | .MAC_STATUS_LINK | .MAC_STATUS_PAUSED | .MAC_STATUS_ANDONE | .MAC_STATUS_LINKCHG | .MAC_STATUS_TSOVF
  | .MAC_STATUS_BADCFG | .MAC_ADDR | .MAC_MHASH | .TXQ_BASE | .TXQ_SIZE | .TXQ_PI | .TXQ_CI | .RXR_BASE
  | .RXR_SIZE | .RXR_PI | .RXR_CI | .RXR_BUFLEN | .MAC_TSF_NS | .MAC_TSF_S | .MAC_TSF_INFO_SEQ
  | .MAC_TSF_INFO_QUEUE | .MAC_TSF_INFO_VALID | .MAC_TSF_INFO_DEPTH | .MAC_TSF_OVF | .TX_FRAMES | .TX_ABORT
  | .TX_LAUNCH_LATE | .RX_FRAMES | .RX_FCS | .RX_RUNT | .RX_OVSZ | .RX_ALIGN | .RX_OVF | .RX_NOBUF | .RX_PAUSE
  | .RX_CTRL | .MAC_WAKE_CFG_PEN | .MAC_WAKE_CFG_MAGIC | .MAC_WAKE_STAT_PHIT | .MAC_WAKE_STAT_MHIT | .WAKE_PAT
  | .WAKE_MASK | .PKT_CFG_EN | .PKT_CFG_TXGATE | .PKT_TXLOAD | .PKT_RXLOAD | .STX_CFG_EN | .STX_CFG_DOMAIN
  | .STX_CFG_MAC | .STX_CFG_QUEUE | .STX_FMT_ENC | .STX_FMT_CHANS | .STX_FMT_PTIME | .STX_BUF | .STX_HDR_VLAN
  | .STX_HDR_BASE | .STX_SEQOFS | .STX_TSOFS | .STX_STAT_RUN | .STX_STAT_BADCFG | .STX_PKTS | .STX_LATE
  | .STX_DROP | .STX_GATED | .SRX_CFG_EN | .SRX_CFG_DOMAIN | .SRX_CFG_MACMASK | .SRX_CFG_SRCCHK | .SRX_FMT_ENC
  | .SRX_FMT_CHANS | .SRX_FMT_PTIME | .SRX_FMT_PT | .SRX_BUF | .SRX_JBUF_BASE | .SRX_JBUF_JLOG | .SRX_MATCH_IP
  | .SRX_MATCH_PORT | .SRX_MATCH_SRC | .SRX_OFS | .SRX_STAT_RUN | .SRX_STAT_BADCFG | .SRX_STAT_RCVD | .SRX_PKTS
  | .SRX_LATE | .SRX_EARLY | .SRX_MISS | .SRX_SEQGAP | .SRX_BADHDR | .PTP_CTL_SNAP | .PTP_CTL_SET
  | .PTP_STATUS_SLVERR | .PTP_STATUS_PEND | .PHC_SEC | .PHC_NS | .PHC_FRAC | .PHC_SYS | .PHC_SETSEC | .PHC_SETNS
  | .SERVO_CFG | .SERVO_CTL_STEP_ACK | .SERVO_CTL_CLR | .SERVO_STATUS_STEP_REQ | .SERVO_STATUS_LOCK
  | .SERVO_STATUS_HOLD | .SERVO_STATUS_FSAT | .SERVO_STATUS_STEP_CANC | .SERVO_STATUS_STEPPED | .SERVO_OFFSET
  | .SERVO_FREQ | .SERVO_FBASE | .SERVO_INT | .STEP_VAL | .STEP_CNT | .MAP_DOMCNT | .MAP_SEC | .MAP_NS | .MAP_FRAC
  | .MAP_STAT | .MAP_SEQ | .TS_CFG_EN | .TS_CFG_PERIODIC | .TS_CFG_POL | .TS_START_SEC | .TS_START_NS | .TS_WIDTH
  | .TS_PERIOD | .TS_STATUS_STATE | .TS_STATUS_LATE | .TS_STATUS_BADCFG | .TS_EDGES | .BIRAY_STATUS_STATE
  | .BIRAY_STATUS_WRAP | .BIRAY_STATUS_LANES | .BIRAY_STATUS_LINKCHG | .BIRAY_CTL | .BIRAY_DELAY | .BIRAY_CRCERR
  | .BIRAY_DISC | .BIRAY_WRAPCNT | .RING_STATUS_UP | .RING_STATUS_HEAD | .RING_STATUS_N | .RING_STATUS_WRAPPED
  | .RING_STATUS_OVERSIZE | .RING_STATUS_NOHEAD | .RING_STATUS_MULTIHEAD | .RING_STATUS_ENUMFAIL | .RING_CTL
  | .RING_PRESENT | .RING_TIMEOUT | .PAIR_CFG_PAIRID | .PAIR_CFG_AUTO | .PAIR_CFG_ISOYIELD | .PAIR_CTL_ACTIVATE
  | .PAIR_CTL_TAKEOVER | .PAIR_CTL_SNAP_ARM | .PAIR_CTL_SNAP_CANCEL | .PAIR_STATUS_ROLE | .PAIR_STATUS_SYNC
  | .PAIR_STATUS_PARTNER | .PAIR_STATUS_TAKEPEND | .PAIR_STATUS_SNAPPEND | .PAIR_STATUS_REFUSED
  | .PAIR_STATUS_SNAPFAIL | .PAIR_STATUS_CONFLICT | .PAIR_STATUS_BADALIGN | .PAIR_STATUS_TOOLATE | .PAIR_HMISS
  | .PAIR_ACTSINCE | .PAIR_SNAP_AT | .PAIR_RGN_BASE | .PAIR_RGN_CNT | .PAIR_MISMATCH | .PAIR_DIG_BND
  | .PAIR_DIG_OWN | .PAIR_DIG_PART | .HP_CFG | .HP_STATUS_LINKUP | .HP_STATUS_SPEED | .HP_STATUS_WIDTH
  | .HOST_IPEND | .HOST_IMASK | .HOST_EVT | .HP_TPEND_CMD | .HP_TPEND_FLR | .HP_GILLREQ_RESTART_TAIL
  | .HP_GILLREQ_PEND | .QSPI_STATUS_ERR | .QSPI_STATUS_ABORT | .QSPI_STATUS_BADCMD | .HP_ERRADDR_ADDR
  | .HP_ERRADDR_VALID | .MBX_PI | .MBX_CI | .MBX_STAT_FILL | .MBX_STAT_BADIDX | .MBX_STAT_WRONGSIDE
  | .BAR2_XLAT_TARGET | .BAR2_XLAT_EN | .BAR2_XLAT_RO | .MSIX_ADDR | .MSIX_UADDR | .MSIX_DATA | .MSIX_PBA
  | .AXO_STATUS_TAIL | .AXO_SHEDCNT | .AXO_TWIN | .AXO_MEAS | .AXO_TAILSTAMP | .THERM_STATUS_TRIPPED
  | .THERM_STATUS_SENSOR | .THERM_TEMP_TJ | .THERM_TEMP_VALID | .THERM_MAX | .VMON | .FLT_LIVE | .FLT_STICKY
  | .FLT_FIRST_CODE | .FLT_FIRST_SEV | .FLT_FIRST_VALID | .FLT_FIRST_CONCURRENT | .FLT_FIRST_CLEARED_BEFORE_READ
  | .FLT_FIRST_INSTANCE | .FLT_FIRST_STAMP | .FLT_CNT | .FLT_INJ_COUNT | .FLT_INJ_MASK | .FLT_INJ_SEL
  | .FLT_STATUS_LEVEL | .FLT_STATUS_TIRQ | .FLT_STATUS_GIRQ | .FLT_STATUS_ACK | .FLT_STATUS_LATEACK
  | .FLT_STATUS_NOTE | .FLT_IEN | .FLT_ESC_ACK2 | .FLT_ESC_CLR3 | .SUBNS | .EP_T0 | .EP_CURV | .EP_RDY | .EP_ASGN
  | .EP_PASSED | .EP_PASST | .EP_OWED | .COMMIT_T | .COMMIT_ACKS | .COMMIT_OWN | .SNAP_T | .SNAPBUF | .TX_MISS
  | .NEWT_NEXT | .NEWT_REPT | .NEWT_STEP | .NEWT_SKIPBP | .FLOW_BUSY | .CROAK_FREEZING | .DOM_T0 | .GRP_EN_EFF
  | .GRP_ABAND | .GRP_COPY | .BUS_EN_EFF | .XSUM | .BUS_TERMS | .BUS_PSAT | .BUS_PNAN | .BUS_RELD | .ASET_B
  | .ASET_RCVD | .ASET_TERMS | .ASET_RED | .ASET_SUM | .LF_RUNMODE | .LF_RUNALL | .LF_RUNNEWTS | .EFUSE_REP
  | .LF_FUSEB | .EFUSE_BAD | .FAB_RR | .FAB_PARKED | .FAB_PARKPEND | .DMA_DOM | .DMA_BYREG | .LINK_FLITS
  | .DMA_PHASE | .LINK_TRIES | .SAP_GOOD | .SAP_STOPPING | .SAP_WAS | .BR_STOPPING | .BR_WAS | .BR_BOPEN | .BR_N0
  | .BR_S0 | .BR_BFLAGS | .BR_BSTAMP | .BR_IFLAGS | .BR_ISTAMP | .REF_LEVEL | .REF_RAW | .REF_RAWT | .REF_RAWP
  | .REF_E1 | .REF_E2 | .REF_NE | .REF_GEDGES | .REF_GREJ | .REF_GHIT | .REF_GCLEAN | .REF_GDIRTY | .REF_HOLDT
  | .SW_EDGES | .SW_FREERUN | .HO_LOCKT | .HO_FROZEN | .PBO_ACC | .FO_NEXT | .FO_FALL | .FO_HIGH | .FO_REALIGN
  | .GPIO_RAW | .GPIO_RAWT | .GPIO_RAWP | .GPIO_GEDGES | .GPIO_GREJ | .MDLL_T0 | .MDLL_AFTERLOSS | .MDLL_COMPAT
  | .MAC_TSEQ | .MAC_PAUSEQ | .MAC_PAUSET | .TXQ_FETCH | .MAC_AN | .STX_STOPPING | .SRX_SEQ | .SRX_SEQV
  | .SRX_VALID | .SRX_MISSD | .SRX_BFLAGS | .SRX_BSTAMP | .SRX_BN0 | .WAKE_N_PIN | .PHC_RSEC | .PHC_RNS
  | .PHC_RFRAC | .PHC_F | .SERVO_GOODN | .MAP_STEPD | .TS_ACT | .TS_NSEC | .TS_NNS | .BIRAY_DLY | .RING_STEPPED
  | .RING_HASADDR | .RING_TRIES | .RING_TOKEN | .RING_TH | .RING_HDOM | .RING_HPH | .RING_ASGNT | .BIRAY_DISCW
  | .RING_ALIGN | .PAIR_ACTREQ | .PAIR_TRIG | .PAIR_YIELD | .PAIR_YIELDAT | .PAIR_PBND | .PAIR_PBND2 | .PAIR_PSYNC
  | .PAIR_YIELDB | .PORT_DOWNT | .PAIR_PROLE | .PAIR_PESC | .PAIR_MISSN | .PAIR_EQ | .PAIR_DIG | .PAIR_DIGB
  | .DIG_ACC | .PAIR_APPL | .PAIR_SNAPACK | .PAIR_TD | .PAIR_TDV | .MIRROR_ENDV | .MIRROR_GEN | .TAIL_SHEDDING
  | .TAIL_SHED | .PCIE_D3 | .PCIE_MSIXEN | .PCIE_FMASK | .QSPI_CMD | .QSPI_NIB | .QSPI_BAD | .FLT_T0 | .FLT_READT
  | .STRAP_BOOTSRC | .STRAP_TESTMODE | .IN_PORST | .SNAP_BUSY | .SNAP_PAGE | .SNAP_PGE | .SNAP_ERASING
  | .SNAP_SLEEP | .SLEEP_ACK_PIN | .WAKE_ONLY | .AON_LANE | .TONGUE_TICKET | .DRAIN_SENT | .EP_SEEN | .REL_ORDER
  | .BUS_WRITTEN | .DMA_EADDR | .DMA_DESC | .NEWT_DONET | .CSF_READY | .CSF_EVMASK | .CSF_EVSEQ | .CSF_EVLOST
  | .CSF_TXID | .IMG_STATE | .IMG_SIZE | .IMG_CRC | .CSF_SNAPEV | .HOLD_KIND | .HOLD_REG | .HOLD_VAL | .PCIE_MSE
  | .PCIE_MPS | .PCIE_URD | .PCIE_UESTA | .PCIE_UEMASK | .BOOT_STEP | .BOOT_WAIT | .RING_STEPT | .CSF_HOLDACK
  | .CSF_SNAPROLE | .CSF_SNAPSYNC | .CSF_SNAPSINCE | .PFAIL_PIN | .PCIE_PERST | .BOOT_SET | .PCIE_BAR0
  | .PCIE_BAR2 | .CSF_UPAIR | .CSF_PTPDOM | .CSF_PTPSYNC | .LOST_CYC | .POST_ACC | .FLOW_RR | .RING_AHEAD
  | .RING_MIS | .NEWT_LAST | .NEWT_CLRT | .SAP_DIRTY | .DOM_EDGET | .HO_ACC | .HO_ACCN | .HO_AVG | .HO_UPD
  | .PTP_JUMP | .TS_OFFT | .TS_JUMP | .PHC_SLVBAD | .CSF_TURN | .MBX_PIOLD | .MBX_CIOLD | .NEWT_HALTT | .FLT_LASTC
  | .FLT_LASTI | .FLT_LASTN | .FLT_LASTT | .SERVO_OFFT | .DIG_RING | .DIG_RINGB | .DIG_PART | .DIG_PARTB
  | .DIG_CMP | .RING_OVER | .RING_TAGN | .RING_UPSTEP => 0
  | .EPOCH_CFG_BSIZE | .TDOM_STATUS_IDLE | .DOM_CFG_RATE | .DPLL_CFG_PBO_HIT | .DPLL_CFG_INITALIGN
  | .DPLL_HIST_FREE_RUN | .REF_LIVE_LOS | .MSIX_CTRL | .AXO_TAIL_CTL | .FLT_ESC_MINSEV | .FLT_ESC_EN | .REFCLK_OK
  | .SAP_LFSR => 1
  | .NEWT_STATUS_STATE => 5
  | .DBG_P => if i % 4 = 0 then 255 else 0
  | .TONGUE_CFG_AFFWIN => 64
  | .CHORUS_CFG_XFLEN | .DPLL_CFG_BW | .DPLL_STATUS_BWEFF => 6
  | .BUS_HOME_UNIT | .REFSEL_STATUS_SEL | .RING_STATUS_ADDR | .PAIR_PADDR => 15
  | .BUS_HOME_DIE => i % 6
  | .FAB_PRIO_T0 | .FAB_PRIO_T1 | .FAB_PRIO_T2 | .FAB_PRIO_T3 | .FAB_PRIO_T4 | .FAB_PRIO_T5 | .FAB_PRIO_T6
  | .FAB_PRIO_T7 | .FAB_PRIO_T8 | .FAB_PRIO_T9 | .FAB_PRIO_T10 | .DMA_CLASS | .PAIR_QUIET | .PAIR_ACTQ => 3
  | .FAB_PERM => Fld.permReset d i
  | .LINK_STATUS_ABSENT => if (d < 3 && i == 2) || (3 ≤ d && d ≤ 5 && i == 3) then 1 else 0
  | .SAP_DITHER => i % 2
  | .DOM_CFG_RING => if i % 3 = 0 then 1 else 0
  | .DPLL_CFG_SLEW | .REF_MON_STUCKTO | .GPIO_MON_GFLT | .SERVO_LOCK_LOCKTH => 1000
  | .REFSEL_DISC => 2000000
  | .DPLL_LOCK_LOCKWIN | .REF_QUAL_WINDOW | .THERM_CFG_HOT => 100
  | .DPLL_LOCK_LOCKTIME | .REF_QUAL_HOLDOFF | .GPIO_RATE => 10
  | .DPLL_LOCK_HITTH => 20
  | .REF_NOM_NUM => if i = 8 then 1 else if i = 9 then 1000 else 0
  | .REF_NOM_DEN => if i = 8 ∨ i = 9 then 1 else 0
  | .REF_MON_GFLT | .SERVO_LOCK_LOCKN => 8
  | .MAC_CFG_MAXLEN => 1522
  | .STEP_THRESH => 100000
  | .SERVO_KP => 1024000
  | .SERVO_KI => 128000
  | .SERVO_FMAX => 500000000
  | .SERVO_LOCK_TIMEOUT => 30
  | .RING_DEVID => Config.deviceId % 2 ^ 64
  | .AXO_STATUS_TAILSIGN => Config.tailSign % 2
  | .THERM_CFG_WARN => 95
  | .FLT_GRACE_T1 | .FLT_GRACE_T2 => 500
  | .TONGUE_RR => 7
  | .PCIE_UESEV => 0x462030

end Sys2Proof.Machine
end

