-- ==== Sys2Proof/Machine/RegTable.lean ====
section
/-! DEFINITION. Where the registers lie: one row per register of the spec's register tables, with its offset in its
block, its strides and counts, and its fields with their bit places and access codes (R7). -/

namespace Sys2Proof.Machine

/-- The access codes of R7. -/
inductive Access where
  | RO | RW | W1C | W1S | WO | RC | RWL
deriving DecidableEq, Repr

/-- The register blocks of the die-local maps (R28, R29). `flt` is a block's fault register set (R436). -/
inductive Block where
  | newt | tongue | chorus | bank | fab | mdll | therm | sap | rate | refsel | mac | pkt | ptp | biray | hp | axo | gpio | flt
deriving DecidableEq, Repr

/-- One field of a register: its cell, its lowest bit and its access code. -/
structure FieldRow where
  fld : Fld
  lo : Nat
  acc : Access
deriving DecidableEq, Repr

/-- One register: its block, its offset, its strides and counts (outer first), whether it is 64 bits wide, its fields. -/
structure RegRow where
  blk : Block
  off : Nat
  strides : List (Nat × Nat)
  wide : Bool
  fields : List FieldRow
deriving DecidableEq, Repr

/-- Registers of block fab, part 1. -/
def fabRegs0 : List RegRow := [
  ⟨.fab, 0x3F000, [], true, [⟨.TB_SYSCNT, 0, .RO⟩]⟩,
  ⟨.fab, 0x3F010, [(8, 3)], true, [⟨.TB_DOMCNT, 0, .RO⟩]⟩,
  ⟨.fab, 0x3F030, [(4, 3)], false, [⟨.TB_GEN, 0, .RO⟩]⟩,
  ⟨.fab, 0x3F03C, [], false, [⟨.TB_STATUS_SYNC, 0, .RO⟩, ⟨.TB_STATUS_RUN, 1, .RO⟩]⟩,
  ⟨.fab, 0x0, [], false, [⟨.FAB_STAT_UP, 0, .RO⟩, ⟨.FAB_STAT_TORN_CNT, 16, .RC⟩]⟩,
  ⟨.fab, 0x8, [], true, [⟨.FAB_DERR_ADDR, 0, .RO⟩, ⟨.FAB_DERR_DIE, 32, .RO⟩, ⟨.FAB_DERR_UNIT, 36, .RO⟩, ⟨.FAB_DERR_PORT, 40, .RO⟩, ⟨.FAB_DERR_ORIGIN, 45, .RO⟩, ⟨.FAB_DERR_CLASS, 48, .RO⟩, ⟨.FAB_DERR_WRITE, 52, .RO⟩, ⟨.FAB_DERR_CAUSE, 53, .RO⟩, ⟨.FAB_DERR_VALID, 63, .W1C⟩]⟩,
  ⟨.fab, 0x10, [], false, [⟨.FAB_DERR_OVF, 0, .RC⟩]⟩,
  ⟨.fab, 0x18, [], true, [⟨.FAB_PERR_ADDR, 0, .RO⟩, ⟨.FAB_PERR_DIE, 32, .RO⟩, ⟨.FAB_PERR_UNIT, 36, .RO⟩, ⟨.FAB_PERR_PORT, 40, .RO⟩, ⟨.FAB_PERR_ORIGIN, 45, .RO⟩, ⟨.FAB_PERR_CLASS, 48, .RO⟩, ⟨.FAB_PERR_WRITE, 52, .RO⟩, ⟨.FAB_PERR_CAUSE, 53, .RO⟩, ⟨.FAB_PERR_VALID, 63, .W1C⟩]⟩,
  ⟨.fab, 0x20, [], false, [⟨.FAB_PERR_OVF, 0, .RC⟩]⟩,
  ⟨.fab, 0x24, [], false, [⟨.DMA_KICKOFS_EN, 0, .RW⟩, ⟨.DMA_KICKOFS_OFS, 10, .RWL⟩]⟩,
  ⟨.fab, 0x100, [(4, 11)], false, [⟨.FAB_PARK_MASTER, 0, .RW⟩, ⟨.FAB_PARK_EN, 5, .RW⟩]⟩,
  ⟨.fab, 0x200, [(8, 21)], true, [⟨.FAB_PRIO_T0, 0, .RW⟩, ⟨.FAB_PRIO_T1, 4, .RW⟩, ⟨.FAB_PRIO_T2, 8, .RW⟩, ⟨.FAB_PRIO_T3, 12, .RW⟩, ⟨.FAB_PRIO_T4, 16, .RW⟩, ⟨.FAB_PRIO_T5, 20, .RW⟩, ⟨.FAB_PRIO_T6, 24, .RW⟩, ⟨.FAB_PRIO_T7, 28, .RW⟩, ⟨.FAB_PRIO_T8, 32, .RW⟩, ⟨.FAB_PRIO_T9, 36, .RW⟩, ⟨.FAB_PRIO_T10, 40, .RW⟩]⟩]

/-- Registers of block fab, part 2. -/
def fabRegs1 : List RegRow := [
  ⟨.fab, 0x400, [(8, 16)], true, [⟨.FAB_PERM, 0, .RW⟩]⟩,
  ⟨.fab, 0x500, [(16, 4)], false, [⟨.LINK_STATUS_STATE, 0, .RO⟩, ⟨.LINK_STATUS_TRIES, 2, .RO⟩, ⟨.LINK_STATUS_ABSENT, 4, .RO⟩]⟩,
  ⟨.fab, 0x504, [(16, 4)], false, [⟨.LINK_CTL, 0, .WO⟩]⟩,
  ⟨.fab, 0x508, [(16, 4)], false, [⟨.LINK_CE_CE_CNT, 0, .RC⟩, ⟨.LINK_CE_UE_CNT, 16, .RC⟩]⟩,
  ⟨.fab, 0x50C, [(16, 4)], false, [⟨.LINK_LAT, 0, .RO⟩]⟩,
  ⟨.fab, 0x1000, [(32, 8)], false, [⟨.DMA_START_ABORT, 0, .WO⟩, ⟨.DMA_START_DESC, 5, .WO⟩]⟩,
  ⟨.fab, 0x1004, [(32, 8)], false, [⟨.DMA_STATUS_BUSY, 0, .RO⟩, ⟨.DMA_STATUS_QDEPTH, 1, .RO⟩, ⟨.DMA_STATUS_ERR, 5, .W1C⟩, ⟨.DMA_STATUS_KOVF, 6, .W1C⟩]⟩,
  ⟨.fab, 0x1008, [(32, 8)], false, [⟨.DMA_CUR, 5, .RO⟩]⟩,
  ⟨.fab, 0x1010, [(32, 8)], true, [⟨.DMA_ERRADDR_ADDR, 0, .RO⟩, ⟨.DMA_ERRADDR_VALID, 63, .W1C⟩]⟩]

/-- Registers of block fab. -/
def fabRegs : List RegRow := fabRegs0 ++ fabRegs1

/-- Registers of block rate, part 1. -/
def rateRegs0 : List RegRow := [
  ⟨.rate, 0x20000, [(256, 3)], false, [⟨.EPOCH_CFG_EN, 0, .RW⟩, ⟨.EPOCH_CFG_BSIZE, 1, .RWL⟩]⟩,
  ⟨.rate, 0x20004, [(256, 3)], false, [⟨.EPOCH_STATUS_RUN, 0, .RO⟩, ⟨.EPOCH_STATUS_DRAINED, 1, .RO⟩, ⟨.EPOCH_STATUS_DIE_DRAINED, 8, .RO⟩, ⟨.EPOCH_STATUS_LATE, 16, .RO⟩, ⟨.EPOCH_STATUS_OVERRUN, 17, .W1C⟩, ⟨.EPOCH_STATUS_SKIPPED, 18, .W1C⟩]⟩,
  ⟨.rate, 0x20008, [(256, 3)], true, [⟨.EPOCH_CUR, 0, .RO⟩]⟩,
  ⟨.rate, 0x20010, [(256, 3)], false, [⟨.EPOCH_LATE_CNT, 0, .RO⟩]⟩,
  ⟨.rate, 0x20014, [(256, 3)], false, [⟨.EPOCH_SKIP_CNT, 0, .RO⟩]⟩,
  ⟨.rate, 0x20018, [(256, 3)], false, [⟨.EPOCH_DRAIN_LAST, 0, .RO⟩]⟩,
  ⟨.rate, 0x2001C, [(256, 3)], false, [⟨.EPOCH_DRAIN_MAX, 0, .RC⟩]⟩,
  ⟨.rate, 0x20020, [(256, 3)], true, [⟨.EPOCH_COMMIT_AT, 0, .RW⟩]⟩,
  ⟨.rate, 0x20028, [(256, 3)], true, [⟨.EPOCH_SNAP_AT, 0, .RW⟩]⟩,
  ⟨.rate, 0x20030, [(256, 3)], false, [⟨.EPOCH_CTL_COMMIT_ARM, 0, .WO⟩, ⟨.EPOCH_CTL_COMMIT_CANCEL, 1, .WO⟩, ⟨.EPOCH_CTL_SNAP_ARM, 2, .WO⟩, ⟨.EPOCH_CTL_SNAP_CANCEL, 3, .WO⟩]⟩,
  ⟨.rate, 0x20034, [(256, 3)], false, [⟨.EPOCH_CSTAT_COMMIT_PEND, 0, .RO⟩, ⟨.EPOCH_CSTAT_COMMIT_DONE, 1, .W1C⟩, ⟨.EPOCH_CSTAT_BADALIGN, 2, .W1C⟩, ⟨.EPOCH_CSTAT_TOOLATE, 3, .W1C⟩, ⟨.EPOCH_CSTAT_REFUSED, 4, .W1C⟩, ⟨.EPOCH_CSTAT_SPLIT, 5, .W1C⟩, ⟨.EPOCH_CSTAT_SNAP_PEND, 8, .RO⟩, ⟨.EPOCH_CSTAT_SNAP_DONE, 9, .W1C⟩, ⟨.EPOCH_CSTAT_SNAP_BAD, 10, .W1C⟩]⟩,
  ⟨.rate, 0x20038, [(256, 3)], true, [⟨.EPOCH_SNAP_SRC, 0, .RO⟩]⟩]

/-- Registers of block rate, part 2. -/
def rateRegs1 : List RegRow := [
  ⟨.rate, 0x4, [(32, 3)], false, [⟨.DOM_STATUS_MLOCK, 0, .RO⟩, ⟨.DOM_STATUS_BADRATE, 1, .W1C⟩, ⟨.DOM_STATUS_RINGMIS, 2, .W1C⟩, ⟨.DOM_STATUS_AHEAD, 3, .W1C⟩, ⟨.DOM_STATUS_RINGERR, 4, .W1C⟩]⟩,
  ⟨.rate, 0x0, [(32, 3)], false, [⟨.DOM_CFG_RATE, 0, .RWL⟩, ⟨.DOM_CFG_RING, 4, .RWL⟩, ⟨.DOM_CFG_MCEN, 5, .RWL⟩]⟩,
  ⟨.rate, 0x8, [(32, 3)], false, [⟨.DOM_RPHASE, 0, .RO⟩]⟩,
  ⟨.rate, 0x1000, [(64, 128)], false, [⟨.BR_CFG_EN, 0, .RW⟩, ⟨.BR_CFG_SRCDOM, 1, .RWL⟩, ⟨.BR_CFG_DSTDOM, 3, .RWL⟩, ⟨.BR_CFG_SRCRATE, 5, .RWL⟩, ⟨.BR_CFG_ALIGNSET, 9, .RWL⟩]⟩,
  ⟨.rate, 0x1004, [(64, 128)], false, [⟨.BR_STATUS_STATE, 0, .RO⟩, ⟨.BR_STATUS_BADCFG, 2, .W1C⟩, ⟨.BR_STATUS_CONFLICT, 3, .W1C⟩, ⟨.BR_STATUS_RANGE, 4, .W1C⟩]⟩,
  ⟨.rate, 0x1008, [(64, 128)], false, [⟨.BR_DELAY, 0, .RO⟩]⟩,
  ⟨.rate, 0x100C, [(64, 128)], false, [⟨.BR_RATIO, 0, .RO⟩]⟩,
  ⟨.rate, 0x1010, [(64, 128)], false, [⟨.BR_ALIGN_N, 0, .RWL⟩]⟩,
  ⟨.rate, 0x1014, [(64, 128)], false, [⟨.BR_ALIGN_S, 0, .RWL⟩]⟩,
  ⟨.rate, 0x1018, [(64, 128)], false, [⟨.BR_IBUF, 10, .RWL⟩]⟩,
  ⟨.rate, 0x101C, [(64, 128)], false, [⟨.BR_OBUF, 10, .RWL⟩]⟩,
  ⟨.rate, 0x1020, [(64, 128)], false, [⟨.BR_UNDR, 0, .RC⟩]⟩]

/-- Registers of block rate, part 3. -/
def rateRegs2 : List RegRow := [
  ⟨.rate, 0x1024, [(64, 128)], false, [⟨.BR_LOST, 0, .RC⟩]⟩]

/-- Registers of block rate. -/
def rateRegs : List RegRow := rateRegs0 ++ rateRegs1 ++ rateRegs2

/-- Registers of block newt, part 1. -/
def newtRegs0 : List RegRow := [
  ⟨.newt, 0x0, [], false, [⟨.NEWT_CFG_LOOPSEL, 0, .RWL⟩, ⟨.NEWT_CFG_DBGEN, 1, .RW⟩]⟩,
  ⟨.newt, 0x4, [], false, [⟨.NEWT_CTL_PARK_REQ, 0, .WO⟩, ⟨.NEWT_CTL_UNPARK, 1, .WO⟩, ⟨.NEWT_CTL_HALT_REQ, 2, .WO⟩, ⟨.NEWT_CTL_RESUME, 3, .WO⟩, ⟨.NEWT_CTL_STEP, 4, .WO⟩, ⟨.NEWT_CTL_ABORT, 5, .WO⟩, ⟨.NEWT_CTL_CLR_CNT, 6, .WO⟩]⟩,
  ⟨.newt, 0x8, [], false, [⟨.NEWT_STATUS_STATE, 0, .RO⟩, ⟨.NEWT_STATUS_CFGLOCK, 3, .RO⟩, ⟨.NEWT_STATUS_INREPT, 4, .RO⟩, ⟨.NEWT_STATUS_HALT_PEND, 5, .RO⟩, ⟨.NEWT_STATUS_PARK_PEND, 6, .RO⟩, ⟨.NEWT_STATUS_ABORTED, 7, .W1C⟩, ⟨.NEWT_STATUS_MISALIGN, 8, .W1C⟩, ⟨.NEWT_STATUS_HALT_IGN, 9, .W1C⟩, ⟨.NEWT_STATUS_LOOPDEPTH, 12, .RO⟩]⟩,
  ⟨.newt, 0xC, [], false, [⟨.NEWT_TASK_SLOT, 0, .RO⟩, ⟨.NEWT_TASK_DOMAIN, 8, .RO⟩, ⟨.NEWT_TASK_COPY, 10, .RO⟩, ⟨.NEWT_TASK_NEWT, 11, .RO⟩, ⟨.NEWT_TASK_FLOW, 16, .RO⟩, ⟨.NEWT_TASK_PRIO, 26, .RO⟩]⟩,
  ⟨.newt, 0x10, [], false, [⟨.NEWT_PC, 2, .RO⟩]⟩,
  ⟨.newt, 0x14, [], false, [⟨.NEWT_FPFLAGS_V, 0, .W1C⟩, ⟨.NEWT_FPFLAGS_O, 8, .W1C⟩, ⟨.NEWT_FPFLAGS_U, 16, .W1C⟩]⟩,
  ⟨.newt, 0x18, [(4, 2)], false, [⟨.NEWT_BKPT_EN, 0, .RW⟩, ⟨.NEWT_BKPT_ADDR, 2, .RW⟩]⟩,
  ⟨.newt, 0x20, [], true, [⟨.NEWT_BUSY, 0, .RO⟩]⟩,
  ⟨.newt, 0x28, [], false, [⟨.NEWT_TASKS, 0, .RO⟩]⟩,
  ⟨.newt, 0x2C, [], false, [⟨.NEWT_STALL_SB, 0, .RO⟩]⟩,
  ⟨.newt, 0x30, [], false, [⟨.NEWT_STALL_MEM, 0, .RO⟩]⟩,
  ⟨.newt, 0x34, [], false, [⟨.NEWT_STALL_FAB, 0, .RO⟩]⟩]

/-- Registers of block newt, part 2. -/
def newtRegs1 : List RegRow := [
  ⟨.newt, 0x38, [], false, [⟨.NEWT_STALL_DONE, 0, .RO⟩]⟩,
  ⟨.newt, 0x40, [], false, [⟨.NEWT_ECC_CE_CNT, 0, .RO⟩, ⟨.NEWT_ECC_DMEM_UE, 16, .W1C⟩, ⟨.NEWT_ECC_PMEM_UE, 17, .W1C⟩, ⟨.NEWT_ECC_CE_CLR, 18, .WO⟩]⟩,
  ⟨.newt, 0x44, [], false, [⟨.NEWT_BADADDR, 0, .RO⟩]⟩,
  ⟨.newt, 0x48, [], false, [⟨.NEWT_RST, 0, .WO⟩]⟩,
  ⟨.newt, 0x1000, [(4, 256)], false, [⟨.DBG_V, 0, .RW⟩]⟩,
  ⟨.newt, 0x1400, [(8, 64)], true, [⟨.DBG_ACC, 0, .RW⟩]⟩,
  ⟨.newt, 0x1600, [(4, 16)], false, [⟨.DBG_S, 0, .RW⟩]⟩,
  ⟨.newt, 0x1640, [(4, 12)], false, [⟨.DBG_A, 0, .RW⟩]⟩,
  ⟨.newt, 0x1680, [(4, 12)], false, [⟨.DBG_B, 0, .RW⟩]⟩,
  ⟨.newt, 0x16C0, [(4, 12)], false, [⟨.DBG_L, 0, .RW⟩]⟩,
  ⟨.newt, 0x1700, [(4, 4)], false, [⟨.DBG_M, 0, .RW⟩]⟩,
  ⟨.newt, 0x1710, [(4, 4)], false, [⟨.DBG_P, 0, .RW⟩]⟩]

/-- Registers of block newt. -/
def newtRegs : List RegRow := newtRegs0 ++ newtRegs1

/-- Registers of block tongue, part 1. -/
def tongueRegs0 : List RegRow := [
  ⟨.tongue, 0x0, [(4, 256)], false, [⟨.TONGUE_POST_FLAGS, 0, .W1S⟩, ⟨.TONGUE_POST_EPOCH, 31, .RO⟩]⟩,
  ⟨.tongue, 0x400, [], false, [⟨.TONGUE_CFG_AFFWIN, 0, .RW⟩, ⟨.TONGUE_CFG_CLR_CNT, 16, .WO⟩]⟩,
  ⟨.tongue, 0x404, [], false, [⟨.TONGUE_STATUS_QUEUED, 0, .RO⟩, ⟨.TONGUE_STATUS_INSVC, 9, .RO⟩, ⟨.TONGUE_STATUS_POSTDIS_CNT, 16, .RC⟩]⟩,
  ⟨.tongue, 0x410, [], false, [⟨.CROAK_BASE, 16, .RWL⟩]⟩,
  ⟨.tongue, 0x414, [], false, [⟨.CROAK_CFG_EN, 0, .RW⟩, ⟨.CROAK_CFG_SKIPLOG, 1, .RW⟩, ⟨.CROAK_CFG_FREEZE_LATE, 2, .RW⟩, ⟨.CROAK_CFG_FROZEN, 3, .W1C⟩, ⟨.CROAK_CFG_FREEZE, 4, .WO⟩]⟩,
  ⟨.tongue, 0x418, [], false, [⟨.CROAK_WPTR, 0, .RO⟩]⟩,
  ⟨.tongue, 0x41C, [], false, [⟨.CROAK_SEQ, 0, .RO⟩]⟩,
  ⟨.tongue, 0x420, [], false, [⟨.CROAK_DROP, 0, .RC⟩]⟩,
  ⟨.tongue, 0x500, [(8, 8)], false, [⟨.NAFF_HIT, 0, .RO⟩]⟩,
  ⟨.tongue, 0x504, [(8, 8)], false, [⟨.NAFF_MISS, 0, .RO⟩]⟩,
  ⟨.tongue, 0x600, [(32, 32)], false, [⟨.Q_DEPTH, 0, .RO⟩]⟩,
  ⟨.tongue, 0x604, [(32, 32)], false, [⟨.Q_HWM, 0, .RC⟩]⟩]

/-- Registers of block tongue, part 2. -/
def tongueRegs1 : List RegRow := [
  ⟨.tongue, 0x608, [(32, 32)], false, [⟨.Q_WAIT_MAX, 0, .RC⟩]⟩,
  ⟨.tongue, 0x610, [(32, 32)], true, [⟨.Q_WAIT_SUM, 0, .RO⟩]⟩,
  ⟨.tongue, 0x618, [(32, 32)], false, [⟨.Q_DISP, 0, .RO⟩]⟩,
  ⟨.tongue, 0xA00, [(32, 3)], false, [⟨.TDOM_STATUS_IDLE, 0, .RO⟩, ⟨.TDOM_STATUS_QUEUED, 1, .RO⟩, ⟨.TDOM_STATUS_INSVC, 10, .RO⟩]⟩,
  ⟨.tongue, 0xA04, [(32, 3)], false, [⟨.DOM_DRAIN_LAST, 0, .RO⟩]⟩,
  ⟨.tongue, 0xA08, [(32, 3)], false, [⟨.DOM_DRAIN_MAX, 0, .RC⟩]⟩,
  ⟨.tongue, 0xA0C, [(32, 3)], false, [⟨.DOM_LATE, 0, .RO⟩]⟩,
  ⟨.tongue, 0xA10, [(32, 3)], false, [⟨.DOM_MERGED, 0, .RO⟩]⟩,
  ⟨.tongue, 0x1000, [(32, 256)], false, [⟨.SLOT_CTRL_EN, 0, .RW⟩, ⟨.SLOT_CTRL_MODE, 1, .RWL⟩, ⟨.SLOT_CTRL_PRIO, 2, .RWL⟩, ⟨.SLOT_CTRL_DOMAIN, 7, .RWL⟩, ⟨.SLOT_CTRL_FLOW, 9, .RWL⟩]⟩,
  ⟨.tongue, 0x1004, [(32, 256)], false, [⟨.SLOT_MASK, 0, .RWL⟩]⟩,
  ⟨.tongue, 0x1008, [(32, 256)], false, [⟨.SLOT_FLAGS, 0, .RO⟩]⟩,
  ⟨.tongue, 0x100C, [(32, 256)], false, [⟨.SLOT_PEND, 0, .RO⟩]⟩]

/-- Registers of block tongue, part 3. -/
def tongueRegs2 : List RegRow := [
  ⟨.tongue, 0x1010, [(32, 256)], false, [⟨.SLOT_ENTRY, 2, .RWL⟩]⟩,
  ⟨.tongue, 0x1014, [(32, 256)], false, [⟨.SLOT_ARG, 0, .RWL⟩]⟩,
  ⟨.tongue, 0x1018, [(32, 256)], false, [⟨.SLOT_STATE_STATE, 0, .RO⟩, ⟨.SLOT_STATE_AFFV, 2, .RO⟩, ⟨.SLOT_STATE_LASTNEWT, 3, .RO⟩]⟩,
  ⟨.tongue, 0x101C, [(32, 256)], false, [⟨.SLOT_CLR_FLAGS, 0, .WO⟩, ⟨.SLOT_CLR_PEND, 1, .WO⟩, ⟨.SLOT_CLR_AFF, 2, .WO⟩]⟩,
  ⟨.tongue, 0x3000, [(4, 32)], false, [⟨.TONGUE_FLOWMAP, 0, .RO⟩]⟩]

/-- Registers of block tongue. -/
def tongueRegs : List RegRow := tongueRegs0 ++ tongueRegs1 ++ tongueRegs2

/-- Registers of block chorus, part 1. -/
def chorusRegs0 : List RegRow := [
  ⟨.chorus, 0x0, [], false, [⟨.CHORUS_CFG_EN, 0, .RW⟩, ⟨.CHORUS_CFG_XFLEN, 4, .RW⟩]⟩,
  ⟨.chorus, 0x4, [], false, [⟨.CHORUS_STATUS_BUSY, 0, .RO⟩, ⟨.CHORUS_STATUS_GROUP, 1, .RO⟩]⟩,
  ⟨.chorus, 0x8, [], false, [⟨.CHORUS_XP_BASE, 16, .RWL⟩]⟩,
  ⟨.chorus, 0xC, [], false, [⟨.CHORUS_XP_CNT, 0, .RWL⟩]⟩,
  ⟨.chorus, 0x10, [], false, [⟨.CHORUS_KICKOFS, 10, .RWL⟩]⟩,
  ⟨.chorus, 0x14, [], false, [⟨.CHORUS_KICK, 0, .WO⟩]⟩,
  ⟨.chorus, 0x18, [], true, [⟨.CHORUS_XSAMP, 0, .RO⟩]⟩,
  ⟨.chorus, 0x20, [], false, [⟨.CHORUS_SAT_CNT, 0, .RC⟩]⟩,
  ⟨.chorus, 0x24, [], false, [⟨.CHORUS_NAN_CNT, 0, .RC⟩]⟩,
  ⟨.chorus, 0x28, [], false, [⟨.CHORUS_BADXP_CNT, 0, .RC⟩]⟩,
  ⟨.chorus, 0x2C, [], false, [⟨.CHORUS_XKICK_CNT, 0, .RC⟩]⟩,
  ⟨.chorus, 0x30, [], false, [⟨.CHORUS_GRPMISS_CNT, 0, .RC⟩]⟩]

/-- Registers of block chorus, part 2. -/
def chorusRegs1 : List RegRow := [
  ⟨.chorus, 0x34, [], false, [⟨.CHORUS_BADPART_CNT, 0, .RC⟩]⟩,
  ⟨.chorus, 0x38, [], false, [⟨.CHORUS_INCOMP_CNT, 0, .RC⟩]⟩,
  ⟨.chorus, 0x1000, [(16, 256)], false, [⟨.GRP_RANGE_FIRST, 0, .RWL⟩, ⟨.GRP_RANGE_COUNT, 16, .RWL⟩]⟩,
  ⟨.chorus, 0x1004, [(16, 256)], false, [⟨.GRP_CFG_EN, 0, .RW⟩, ⟨.GRP_CFG_DOMAIN, 1, .RWL⟩, ⟨.GRP_CFG_STAGE, 3, .RWL⟩, ⟨.GRP_CFG_NKICK, 6, .RWL⟩]⟩,
  ⟨.chorus, 0x1008, [(16, 256)], false, [⟨.GRP_STAT_KICKS, 0, .RO⟩, ⟨.GRP_STAT_RAN, 8, .RO⟩, ⟨.GRP_STAT_MISS, 9, .W1C⟩]⟩,
  ⟨.chorus, 0x2000, [(32, 512)], false, [⟨.BUS_CFG_EN, 0, .RW⟩, ⟨.BUS_CFG_DOMAIN, 1, .RWL⟩, ⟨.BUS_CFG_TX, 3, .RWL⟩, ⟨.BUS_CFG_STAGE, 4, .RWL⟩]⟩,
  ⟨.chorus, 0x2004, [(32, 512)], false, [⟨.BUS_HOME_UNIT, 0, .RWL⟩, ⟨.BUS_HOME_DIE, 4, .RWL⟩, ⟨.BUS_HOME_EXPECT, 8, .RWL⟩]⟩,
  ⟨.chorus, 0x2008, [(32, 512)], false, [⟨.BUS_DEST, 5, .RWL⟩]⟩,
  ⟨.chorus, 0x200C, [(32, 512)], false, [⟨.BUS_CONS_TARGET, 0, .RWL⟩, ⟨.BUS_CONS_CEN, 18, .RWL⟩, ⟨.BUS_CONS_KGRP, 19, .RWL⟩, ⟨.BUS_CONS_KEN, 27, .RWL⟩]⟩,
  ⟨.chorus, 0x2010, [(32, 512)], false, [⟨.BUS_CFLAGS, 0, .RWL⟩]⟩,
  ⟨.chorus, 0x2014, [(32, 512)], false, [⟨.BUS_STAT_SAT, 0, .W1C⟩, ⟨.BUS_STAT_NAN, 1, .W1C⟩, ⟨.BUS_STAT_INCOMP, 2, .W1C⟩, ⟨.BUS_STAT_LATE, 3, .W1C⟩, ⟨.BUS_STAT_RANGE, 4, .W1C⟩, ⟨.BUS_STAT_RCVD, 16, .RO⟩]⟩]

/-- Registers of block chorus. -/
def chorusRegs : List RegRow := chorusRegs0 ++ chorusRegs1

/-- Registers of block bank, part 1. -/
def bankRegs0 : List RegRow := [
  ⟨.bank, 0x0, [], false, [⟨.LF_CTL_START, 0, .WO⟩, ⟨.LF_CTL_ABORT, 1, .WO⟩, ⟨.LF_CTL_MODE, 2, .RW⟩, ⟨.LF_CTL_ALL, 3, .RW⟩, ⟨.LF_CTL_NEWTS, 4, .RW⟩, ⟨.LF_CTL_BANK, 8, .RW⟩]⟩,
  ⟨.bank, 0x4, [], false, [⟨.LF_STATUS_BUSY, 0, .RO⟩, ⟨.LF_STATUS_DONE, 1, .W1C⟩, ⟨.LF_STATUS_REFUSED, 2, .W1C⟩, ⟨.LF_STATUS_ABORTED, 3, .W1C⟩, ⟨.LF_STATUS_OFFLINE, 4, .RO⟩, ⟨.LF_STATUS_BANK, 8, .RO⟩]⟩,
  ⟨.bank, 0x8, [], true, [⟨.LF_FAIL_WADDR, 0, .RO⟩, ⟨.LF_FAIL_VALID, 31, .W1C⟩, ⟨.LF_FAIL_BIT, 32, .RO⟩]⟩,
  ⟨.bank, 0x10, [], true, [⟨.BANK_COLL_WADDR, 0, .RO⟩, ⟨.BANK_COLL_KIND, 21, .RO⟩, ⟨.BANK_COLL_VALID, 31, .W1C⟩, ⟨.BANK_COLL_AMASTER, 32, .RO⟩, ⟨.BANK_COLL_BMASTER, 40, .RO⟩]⟩,
  ⟨.bank, 0x18, [], false, [⟨.BANK_COLL_OVF, 0, .RC⟩]⟩,
  ⟨.bank, 0x20, [], true, [⟨.BANK_TORN_WADDR, 0, .RO⟩, ⟨.BANK_TORN_VALID, 31, .W1C⟩, ⟨.BANK_TORN_MASTER, 32, .RO⟩, ⟨.BANK_TORN_WRITTEN, 40, .RO⟩, ⟨.BANK_TORN_LEN, 45, .RO⟩]⟩,
  ⟨.bank, 0x28, [], true, [⟨.BANK_ECCLOG_WADDR, 0, .RO⟩, ⟨.BANK_ECCLOG_HALF, 21, .RO⟩, ⟨.BANK_ECCLOG_VALID, 31, .W1C⟩, ⟨.BANK_ECCLOG_BIT, 32, .RO⟩, ⟨.BANK_ECCLOG_UE, 39, .RO⟩, ⟨.BANK_ECCLOG_PORT, 40, .RO⟩, ⟨.BANK_ECCLOG_MERGE, 41, .RO⟩, ⟨.BANK_ECCLOG_INJ, 42, .RO⟩]⟩,
  ⟨.bank, 0x30, [], false, [⟨.BANK_INJ_SEL_BANK, 0, .RW⟩, ⟨.BANK_INJ_SEL_HALF, 8, .RW⟩, ⟨.BANK_INJ_SEL_MASK, 16, .RW⟩]⟩,
  ⟨.bank, 0x34, [], false, [⟨.LF_FUSE_BANK, 0, .RW⟩, ⟨.LF_FUSE_BURN, 8, .WO⟩, ⟨.LF_FUSE_BUSY, 9, .RO⟩, ⟨.LF_FUSE_DONE, 10, .W1C⟩, ⟨.LF_FUSE_ERR, 11, .W1C⟩]⟩,
  ⟨.bank, 0x38, [], false, [⟨.LF_NEWT_FAIL, 0, .W1C⟩]⟩,
  ⟨.bank, 0x1000, [(16, 256)], false, [⟨.BANK_STAT_RESULT, 0, .RO⟩, ⟨.BANK_STAT_NEWROWS, 2, .RO⟩, ⟨.BANK_STAT_OFFLINE, 5, .RO⟩, ⟨.BANK_STAT_UE, 6, .W1C⟩, ⟨.BANK_STAT_TORN, 7, .W1C⟩]⟩,
  ⟨.bank, 0x1004, [(16, 256)], false, [⟨.BANK_CE_CE_CNT, 0, .RC⟩, ⟨.BANK_CE_UE_CNT, 16, .RC⟩]⟩]

/-- Registers of block bank, part 2. -/
def bankRegs1 : List RegRow := [
  ⟨.bank, 0x1008, [(16, 256), (4, 2)], false, [⟨.BANK_REPAIR_ROW_LO, 0, .RO⟩, ⟨.BANK_REPAIR_ROW_HI, 16, .RO⟩, ⟨.BANK_REPAIR_FUSED_LO, 14, .RO⟩, ⟨.BANK_REPAIR_FUSED_HI, 30, .RO⟩, ⟨.BANK_REPAIR_VALID_LO, 15, .RO⟩, ⟨.BANK_REPAIR_VALID_HI, 31, .RO⟩]⟩]

/-- Registers of block bank. -/
def bankRegs : List RegRow := bankRegs0 ++ bankRegs1

/-- Registers of block sap, part 1. -/
def sapRegs0 : List RegRow := [
  ⟨.sap, 0x0, [(256, 32), (64, 2)], false, [⟨.SAP_CFG_EN, 0, .RW⟩, ⟨.SAP_CFG_MASTER, 1, .RWL⟩, ⟨.SAP_CFG_DOMAIN, 2, .RWL⟩, ⟨.SAP_CFG_BREN, 4, .RWL⟩, ⟨.SAP_CFG_BRIDGE, 5, .RWL⟩, ⟨.SAP_CFG_PGEN, 12, .RWL⟩, ⟨.SAP_CFG_PGRP, 13, .RWL⟩, ⟨.SAP_CFG_HIZ, 17, .RWL⟩, ⟨.SAP_CFG_DITHEN, 18, .RWL⟩]⟩,
  ⟨.sap, 0x4, [(256, 32), (64, 2)], false, [⟨.SAP_FMT_MODE, 0, .RWL⟩, ⟨.SAP_FMT_SLOTS, 2, .RWL⟩, ⟨.SAP_FMT_SWIDTH, 7, .RWL⟩, ⟨.SAP_FMT_DWIDTH, 9, .RWL⟩, ⟨.SAP_FMT_BCKPOL, 11, .RWL⟩, ⟨.SAP_FMT_FSPOL, 12, .RWL⟩, ⟨.SAP_FMT_FSDLY, 13, .RWL⟩]⟩,
  ⟨.sap, 0x8, [(256, 32), (64, 2)], false, [⟨.SAP_SLOTMASK, 0, .RO⟩]⟩,
  ⟨.sap, 0xC, [(256, 32), (64, 2)], false, [⟨.SAP_SLOTMASK_NEXT, 0, .RW⟩]⟩,
  ⟨.sap, 0x10, [(256, 32), (64, 2)], false, [⟨.SAP_BUF, 10, .RWL⟩]⟩,
  ⟨.sap, 0x14, [(256, 32), (64, 2)], false, [⟨.SAP_STATUS_STATE, 0, .RO⟩, ⟨.SAP_STATUS_DRIVE, 3, .RO⟩, ⟨.SAP_STATUS_LEVEL, 4, .RO⟩, ⟨.SAP_STATUS_BADCFG, 7, .W1C⟩, ⟨.SAP_STATUS_RESYNC, 8, .W1C⟩, ⟨.SAP_STATUS_GSPLIT, 9, .W1C⟩, ⟨.SAP_STATUS_MASKPEND, 10, .RO⟩]⟩,
  ⟨.sap, 0x18, [(256, 32), (64, 2)], false, [⟨.SAP_SLIP_DROP, 0, .RC⟩]⟩,
  ⟨.sap, 0x1C, [(256, 32), (64, 2)], false, [⟨.SAP_SLIP_REP, 0, .RC⟩]⟩,
  ⟨.sap, 0x20, [(256, 32), (64, 2)], false, [⟨.SAP_SLIP_UNDR, 0, .RC⟩]⟩,
  ⟨.sap, 0x24, [(256, 32), (64, 2)], false, [⟨.SAP_FERR, 0, .RC⟩]⟩,
  ⟨.sap, 0x28, [(256, 32), (64, 2)], false, [⟨.SAP_LOST, 0, .RC⟩]⟩,
  ⟨.sap, 0x2C, [(256, 32), (64, 2)], false, [⟨.SAP_DITHER, 0, .RWL⟩]⟩]

/-- Registers of block sap, part 2. -/
def sapRegs1 : List RegRow := [
  ⟨.sap, 0x2000, [(16, 16)], false, [⟨.PG_CFG_EN, 0, .RW⟩, ⟨.PG_CFG_REFPORT, 1, .RWL⟩, ⟨.PG_CFG_REFDIR, 7, .RWL⟩]⟩,
  ⟨.sap, 0x2004, [(16, 16)], false, [⟨.PG_STAT_ANCHOR, 0, .RO⟩, ⟨.PG_STAT_SPLIT, 1, .W1C⟩, ⟨.PG_STAT_MEMBERS, 2, .RO⟩]⟩,
  ⟨.sap, 0x2008, [(16, 16)], false, [⟨.PG_DROP, 0, .RC⟩]⟩,
  ⟨.sap, 0x200C, [(16, 16)], false, [⟨.PG_REP, 0, .RC⟩]⟩]

/-- Registers of block sap. -/
def sapRegs : List RegRow := sapRegs0 ++ sapRegs1

/-- Registers of block refsel, part 1. -/
def refselRegs0 : List RegRow := [
  ⟨.refsel, 0x0, [], false, [⟨.REFSEL_CFG_MODE, 0, .RW⟩, ⟨.REFSEL_CFG_REVERT, 2, .RW⟩, ⟨.REFSEL_CFG_FORCEIDX, 3, .RW⟩]⟩,
  ⟨.refsel, 0x4, [], false, [⟨.REFSEL_STATUS_SEL, 0, .RO⟩, ⟨.REFSEL_STATUS_SWITCHING, 4, .RO⟩]⟩,
  ⟨.refsel, 0x8, [], false, [⟨.DPLL_CFG_BW, 0, .RW⟩, ⟨.DPLL_CFG_PBO_HIT, 4, .RW⟩, ⟨.DPLL_CFG_REALIGN, 5, .RW⟩, ⟨.DPLL_CFG_SLEW, 6, .RW⟩, ⟨.DPLL_CFG_INITALIGN, 16, .RW⟩]⟩,
  ⟨.refsel, 0xC, [], false, [⟨.DPLL_STATUS_STATE, 0, .RO⟩, ⟨.DPLL_STATUS_HOVALID, 2, .RO⟩, ⟨.DPLL_STATUS_XOSRC, 3, .RO⟩, ⟨.DPLL_STATUS_BWEFF, 4, .RO⟩, ⟨.DPLL_STATUS_REALIGNING, 8, .RO⟩]⟩,
  ⟨.refsel, 0x10, [], false, [⟨.DPLL_HIST_FREE_RUN, 0, .W1C⟩, ⟨.DPLL_HIST_ACQUIRE, 1, .W1C⟩, ⟨.DPLL_HIST_LOCKED, 2, .W1C⟩, ⟨.DPLL_HIST_HOLDOVER, 3, .W1C⟩, ⟨.DPLL_HIST_XO_LOST, 4, .W1C⟩]⟩,
  ⟨.refsel, 0x14, [], false, [⟨.DPLL_FREQ, 0, .RO⟩]⟩,
  ⟨.refsel, 0x18, [], false, [⟨.DPLL_HOFREQ, 0, .RO⟩]⟩,
  ⟨.refsel, 0x1C, [], false, [⟨.DPLL_PBO, 0, .RO⟩]⟩,
  ⟨.refsel, 0x20, [], false, [⟨.REFSEL_DISC, 0, .RW⟩]⟩,
  ⟨.refsel, 0x24, [], false, [⟨.REFSEL_SWCNT, 0, .RC⟩]⟩,
  ⟨.refsel, 0x28, [], false, [⟨.DPLL_LOCK_LOCKWIN, 0, .RW⟩, ⟨.DPLL_LOCK_LOCKTIME, 16, .RW⟩, ⟨.DPLL_LOCK_HITTH, 24, .RW⟩]⟩,
  ⟨.refsel, 0x2C, [], false, [⟨.DPLL_IEN_FREE_RUN, 0, .RW⟩, ⟨.DPLL_IEN_ACQUIRE, 1, .RW⟩, ⟨.DPLL_IEN_LOCKED, 2, .RW⟩, ⟨.DPLL_IEN_HOLDOVER, 3, .RW⟩, ⟨.DPLL_IEN_XO_LOST, 4, .RW⟩]⟩]

/-- Registers of block refsel, part 2. -/
def refselRegs1 : List RegRow := [
  ⟨.refsel, 0x1000, [(64, 10)], false, [⟨.REF_CFG_EN, 0, .RW⟩, ⟨.REF_CFG_POL, 1, .RWL⟩, ⟨.REF_CFG_RANK, 2, .RW⟩]⟩,
  ⟨.refsel, 0x1004, [(64, 10)], false, [⟨.REF_NOM_NUM, 0, .RWL⟩]⟩,
  ⟨.refsel, 0x1008, [(64, 10)], false, [⟨.REF_NOM_DEN, 0, .RWL⟩]⟩,
  ⟨.refsel, 0x100C, [(64, 10)], false, [⟨.REF_QUAL_WINDOW, 0, .RW⟩, ⟨.REF_QUAL_HOLDOFF, 16, .RW⟩]⟩,
  ⟨.refsel, 0x1010, [(64, 10)], false, [⟨.REF_MON_GFLT, 0, .RWL⟩, ⟨.REF_MON_STUCKTO, 8, .RWL⟩]⟩,
  ⟨.refsel, 0x1014, [(64, 10)], false, [⟨.REF_LIVE_LOS, 0, .RO⟩, ⟨.REF_LIVE_FREQ_OOR, 1, .RO⟩, ⟨.REF_LIVE_PHASE_HIT, 2, .RO⟩, ⟨.REF_LIVE_DISCREPANT, 3, .RO⟩, ⟨.REF_LIVE_STUCK, 4, .RO⟩, ⟨.REF_LIVE_OVERRATE, 5, .RO⟩, ⟨.REF_LIVE_SUSPECT, 6, .RO⟩, ⟨.REF_LIVE_QUAL, 7, .RO⟩]⟩,
  ⟨.refsel, 0x1018, [(64, 10)], false, [⟨.REF_HIST_LOS, 0, .W1C⟩, ⟨.REF_HIST_FREQ_OOR, 1, .W1C⟩, ⟨.REF_HIST_PHASE_HIT, 2, .W1C⟩, ⟨.REF_HIST_DISCREPANT, 3, .W1C⟩, ⟨.REF_HIST_STUCK, 4, .W1C⟩, ⟨.REF_HIST_OVERRATE, 5, .W1C⟩, ⟨.REF_HIST_SUSPECT, 6, .W1C⟩, ⟨.REF_HIST_BADCFG, 8, .W1C⟩]⟩,
  ⟨.refsel, 0x101C, [(64, 10)], false, [⟨.REF_IEN_LOS, 0, .RW⟩, ⟨.REF_IEN_FREQ_OOR, 1, .RW⟩, ⟨.REF_IEN_PHASE_HIT, 2, .RW⟩, ⟨.REF_IEN_DISCREPANT, 3, .RW⟩, ⟨.REF_IEN_STUCK, 4, .RW⟩, ⟨.REF_IEN_OVERRATE, 5, .RW⟩, ⟨.REF_IEN_SUSPECT, 6, .RW⟩, ⟨.REF_IEN_BADCFG, 8, .RW⟩]⟩,
  ⟨.refsel, 0x1020, [(64, 10)], false, [⟨.REF_FREQ, 0, .RO⟩]⟩,
  ⟨.refsel, 0x1024, [(64, 10)], false, [⟨.REF_PHASE, 0, .RO⟩]⟩,
  ⟨.refsel, 0x1028, [(64, 10)], false, [⟨.REF_OVR, 0, .RC⟩]⟩,
  ⟨.refsel, 0x102C, [(64, 10)], false, [⟨.REF_HOLD, 0, .RO⟩]⟩]

/-- Registers of block refsel, part 3. -/
def refselRegs2 : List RegRow := [
  ⟨.refsel, 0x2000, [(32, 4)], false, [⟨.FO_CFG_EN, 0, .RW⟩, ⟨.FO_CFG_POL, 1, .RWL⟩, ⟨.FO_CFG_SQUARE, 2, .RWL⟩, ⟨.FO_CFG_SRC, 3, .RWL⟩]⟩,
  ⟨.refsel, 0x2004, [(32, 4)], false, [⟨.FO_NUM, 0, .RWL⟩]⟩,
  ⟨.refsel, 0x2008, [(32, 4)], false, [⟨.FO_DEN, 0, .RWL⟩]⟩,
  ⟨.refsel, 0x200C, [(32, 4)], false, [⟨.FO_OFFSET, 0, .RW⟩]⟩,
  ⟨.refsel, 0x2010, [(32, 4)], false, [⟨.FO_WIDTH, 0, .RWL⟩]⟩,
  ⟨.refsel, 0x2014, [(32, 4)], false, [⟨.FO_CTL, 0, .WO⟩]⟩,
  ⟨.refsel, 0x2018, [(32, 4)], false, [⟨.FO_STATUS_STATE, 0, .RO⟩, ⟨.FO_STATUS_MISALIGN, 2, .W1C⟩, ⟨.FO_STATUS_BADCFG, 3, .W1C⟩]⟩,
  ⟨.refsel, 0x201C, [(32, 4)], false, [⟨.FO_ERR, 0, .RO⟩]⟩]

/-- Registers of block refsel. -/
def refselRegs : List RegRow := refselRegs0 ++ refselRegs1 ++ refselRegs2

/-- Registers of block gpio, part 1. -/
def gpioRegs0 : List RegRow := [
  ⟨.gpio, 0x0, [], false, [⟨.GPIO_LEVELS, 0, .RO⟩]⟩,
  ⟨.gpio, 0x1000, [(32, 16)], false, [⟨.GPIO_CFG_EN, 0, .RW⟩, ⟨.GPIO_CFG_POL, 1, .RWL⟩, ⟨.GPIO_CFG_IEN, 2, .RW⟩]⟩,
  ⟨.gpio, 0x1004, [(32, 16)], false, [⟨.GPIO_MON_GFLT, 0, .RWL⟩, ⟨.GPIO_MON_STUCKTO, 16, .RWL⟩]⟩,
  ⟨.gpio, 0x1008, [(32, 16)], false, [⟨.GPIO_RATE, 0, .RWL⟩]⟩,
  ⟨.gpio, 0x100C, [(32, 16)], false, [⟨.GPIO_STATUS_LEVEL, 0, .RO⟩, ⟨.GPIO_STATUS_STUCK, 1, .RO⟩, ⟨.GPIO_STATUS_OVERRATE, 2, .RO⟩, ⟨.GPIO_STATUS_STUCK_H, 3, .W1C⟩, ⟨.GPIO_STATUS_OVERRATE_H, 4, .W1C⟩, ⟨.GPIO_STATUS_CHG, 5, .W1C⟩]⟩,
  ⟨.gpio, 0x1010, [(32, 16)], false, [⟨.GPIO_OVR, 0, .RC⟩]⟩,
  ⟨.gpio, 0x1018, [(32, 16)], true, [⟨.GPIO_STAMP, 0, .RO⟩]⟩]

/-- Registers of block gpio. -/
def gpioRegs : List RegRow := gpioRegs0

/-- Registers of block mdll, part 1. -/
def mdllRegs0 : List RegRow := [
  ⟨.mdll, 0x0, [], false, [⟨.MDLL_CFG, 0, .RW⟩]⟩,
  ⟨.mdll, 0x4, [], false, [⟨.MDLL_CTL, 0, .WO⟩]⟩,
  ⟨.mdll, 0x8, [], false, [⟨.MDLL_STATUS_STATE, 0, .RO⟩, ⟨.MDLL_STATUS_OUT, 2, .RO⟩, ⟨.MDLL_STATUS_BAND, 4, .RO⟩, ⟨.MDLL_STATUS_SEARCHES, 8, .RO⟩]⟩,
  ⟨.mdll, 0xC, [], false, [⟨.MDLL_HIST_LOL, 0, .W1C⟩, ⟨.MDLL_HIST_REFLOSS, 1, .W1C⟩, ⟨.MDLL_HIST_BYPASSED, 2, .W1C⟩, ⟨.MDLL_HIST_MULTI, 3, .W1C⟩]⟩,
  ⟨.mdll, 0x10, [], false, [⟨.MDLL_LOCKCNT, 0, .RO⟩]⟩,
  ⟨.mdll, 0x14, [], false, [⟨.MDLL_LOCKTIME, 0, .RO⟩]⟩,
  ⟨.mdll, 0x18, [], false, [⟨.MDLL_PHERR, 0, .RO⟩]⟩,
  ⟨.mdll, 0x1C, [], false, [⟨.MDLL_STALL, 0, .RC⟩]⟩]

/-- Registers of block mdll. -/
def mdllRegs : List RegRow := mdllRegs0

/-- Registers of block mac, part 1. -/
def macRegs0 : List RegRow := [
  ⟨.mac, 0x0, [], false, [⟨.MAC_CFG_MODE, 0, .RW⟩, ⟨.MAC_CFG_FEC, 3, .RW⟩, ⟨.MAC_CFG_RXPAUSE, 5, .RW⟩, ⟨.MAC_CFG_GUARD, 6, .RW⟩, ⟨.MAC_CFG_PROMISC, 7, .RW⟩, ⟨.MAC_CFG_MAXLEN, 8, .RW⟩]⟩,
  ⟨.mac, 0x4, [], false, [⟨.MAC_CTL_RESET, 0, .WO⟩, ⟨.MAC_CTL_CLR_TSOVF, 1, .WO⟩, ⟨.MAC_CTL_ANRESTART, 2, .WO⟩]⟩,
  ⟨.mac, 0x8, [], false, [⟨.MAC_STATUS_LINK, 0, .RO⟩, ⟨.MAC_STATUS_PAUSED, 1, .RO⟩, ⟨.MAC_STATUS_ANDONE, 2, .RO⟩, ⟨.MAC_STATUS_LINKCHG, 3, .W1C⟩, ⟨.MAC_STATUS_TSOVF, 4, .W1C⟩, ⟨.MAC_STATUS_BADCFG, 5, .W1C⟩]⟩,
  ⟨.mac, 0xC, [], true, [⟨.MAC_ADDR, 0, .RW⟩]⟩,
  ⟨.mac, 0x14, [], true, [⟨.MAC_MHASH, 0, .RW⟩]⟩,
  ⟨.mac, 0x20, [(16, 8)], false, [⟨.TXQ_BASE, 5, .RWL⟩]⟩,
  ⟨.mac, 0x24, [(16, 8)], false, [⟨.TXQ_SIZE, 0, .RWL⟩]⟩,
  ⟨.mac, 0x28, [(16, 8)], false, [⟨.TXQ_PI, 0, .RW⟩]⟩,
  ⟨.mac, 0x2C, [(16, 8)], false, [⟨.TXQ_CI, 0, .RO⟩]⟩,
  ⟨.mac, 0xA0, [], false, [⟨.RXR_BASE, 5, .RWL⟩]⟩,
  ⟨.mac, 0xA4, [], false, [⟨.RXR_SIZE, 0, .RWL⟩]⟩,
  ⟨.mac, 0xA8, [], false, [⟨.RXR_PI, 0, .RO⟩]⟩]

/-- Registers of block mac, part 2. -/
def macRegs1 : List RegRow := [
  ⟨.mac, 0xAC, [], false, [⟨.RXR_CI, 0, .RW⟩]⟩,
  ⟨.mac, 0xB0, [], false, [⟨.RXR_BUFLEN, 0, .RWL⟩]⟩,
  ⟨.mac, 0x100, [], false, [⟨.MAC_TSF_NS, 0, .RO⟩]⟩,
  ⟨.mac, 0x104, [], false, [⟨.MAC_TSF_S, 0, .RO⟩]⟩,
  ⟨.mac, 0x108, [], false, [⟨.MAC_TSF_INFO_SEQ, 0, .RC⟩, ⟨.MAC_TSF_INFO_QUEUE, 16, .RO⟩, ⟨.MAC_TSF_INFO_VALID, 19, .RO⟩, ⟨.MAC_TSF_INFO_DEPTH, 20, .RO⟩]⟩,
  ⟨.mac, 0x10C, [], false, [⟨.MAC_TSF_OVF, 0, .RO⟩]⟩,
  ⟨.mac, 0x200, [], false, [⟨.TX_FRAMES, 0, .RO⟩]⟩,
  ⟨.mac, 0x204, [], false, [⟨.TX_ABORT, 0, .RC⟩]⟩,
  ⟨.mac, 0x208, [], false, [⟨.TX_LAUNCH_LATE, 0, .RC⟩]⟩,
  ⟨.mac, 0x20C, [], false, [⟨.RX_FRAMES, 0, .RO⟩]⟩,
  ⟨.mac, 0x210, [], false, [⟨.RX_FCS, 0, .RC⟩]⟩,
  ⟨.mac, 0x214, [], false, [⟨.RX_RUNT, 0, .RC⟩]⟩]

/-- Registers of block mac, part 3. -/
def macRegs2 : List RegRow := [
  ⟨.mac, 0x218, [], false, [⟨.RX_OVSZ, 0, .RC⟩]⟩,
  ⟨.mac, 0x21C, [], false, [⟨.RX_ALIGN, 0, .RC⟩]⟩,
  ⟨.mac, 0x220, [], false, [⟨.RX_OVF, 0, .RC⟩]⟩,
  ⟨.mac, 0x224, [], false, [⟨.RX_NOBUF, 0, .RC⟩]⟩,
  ⟨.mac, 0x228, [], false, [⟨.RX_PAUSE, 0, .RC⟩]⟩,
  ⟨.mac, 0x22C, [], false, [⟨.RX_CTRL, 0, .RC⟩]⟩,
  ⟨.mac, 0x300, [], false, [⟨.MAC_WAKE_CFG_PEN, 0, .RW⟩, ⟨.MAC_WAKE_CFG_MAGIC, 8, .RW⟩]⟩,
  ⟨.mac, 0x304, [], false, [⟨.MAC_WAKE_STAT_PHIT, 0, .W1C⟩, ⟨.MAC_WAKE_STAT_MHIT, 8, .W1C⟩]⟩,
  ⟨.mac, 0x1000, [(256, 8), (4, 32)], false, [⟨.WAKE_PAT, 0, .RW⟩]⟩,
  ⟨.mac, 0x1080, [(256, 8), (4, 4)], false, [⟨.WAKE_MASK, 0, .RW⟩]⟩]

/-- Registers of block mac. -/
def macRegs : List RegRow := macRegs0 ++ macRegs1 ++ macRegs2

/-- Registers of block pkt, part 1. -/
def pktRegs0 : List RegRow := [
  ⟨.pkt, 0x0, [], false, [⟨.PKT_CFG_EN, 0, .RW⟩, ⟨.PKT_CFG_TXGATE, 1, .RO⟩]⟩,
  ⟨.pkt, 0x4, [], false, [⟨.PKT_TXLOAD, 0, .RO⟩]⟩,
  ⟨.pkt, 0x8, [], false, [⟨.PKT_RXLOAD, 0, .RO⟩]⟩,
  ⟨.pkt, 0x1000, [(64, 128)], false, [⟨.STX_CFG_EN, 0, .RW⟩, ⟨.STX_CFG_DOMAIN, 1, .RWL⟩, ⟨.STX_CFG_MAC, 3, .RWL⟩, ⟨.STX_CFG_QUEUE, 5, .RWL⟩]⟩,
  ⟨.pkt, 0x1004, [(64, 128)], false, [⟨.STX_FMT_ENC, 0, .RWL⟩, ⟨.STX_FMT_CHANS, 2, .RWL⟩, ⟨.STX_FMT_PTIME, 8, .RWL⟩]⟩,
  ⟨.pkt, 0x1008, [(64, 128)], false, [⟨.STX_BUF, 10, .RWL⟩]⟩,
  ⟨.pkt, 0x100C, [(64, 128)], false, [⟨.STX_HDR_VLAN, 0, .RWL⟩, ⟨.STX_HDR_BASE, 6, .RWL⟩]⟩,
  ⟨.pkt, 0x1010, [(64, 128)], false, [⟨.STX_SEQOFS, 0, .RWL⟩]⟩,
  ⟨.pkt, 0x1014, [(64, 128)], false, [⟨.STX_TSOFS, 0, .RWL⟩]⟩,
  ⟨.pkt, 0x1018, [(64, 128)], false, [⟨.STX_STAT_RUN, 0, .RO⟩, ⟨.STX_STAT_BADCFG, 1, .W1C⟩]⟩,
  ⟨.pkt, 0x101C, [(64, 128)], false, [⟨.STX_PKTS, 0, .RO⟩]⟩,
  ⟨.pkt, 0x1020, [(64, 128)], false, [⟨.STX_LATE, 0, .RC⟩]⟩]

/-- Registers of block pkt, part 2. -/
def pktRegs1 : List RegRow := [
  ⟨.pkt, 0x1024, [(64, 128)], false, [⟨.STX_DROP, 0, .RC⟩]⟩,
  ⟨.pkt, 0x1028, [(64, 128)], false, [⟨.STX_GATED, 0, .RC⟩]⟩,
  ⟨.pkt, 0x4000, [(64, 128)], false, [⟨.SRX_CFG_EN, 0, .RW⟩, ⟨.SRX_CFG_DOMAIN, 1, .RWL⟩, ⟨.SRX_CFG_MACMASK, 3, .RWL⟩, ⟨.SRX_CFG_SRCCHK, 7, .RWL⟩]⟩,
  ⟨.pkt, 0x4004, [(64, 128)], false, [⟨.SRX_FMT_ENC, 0, .RWL⟩, ⟨.SRX_FMT_CHANS, 2, .RWL⟩, ⟨.SRX_FMT_PTIME, 8, .RWL⟩, ⟨.SRX_FMT_PT, 16, .RWL⟩]⟩,
  ⟨.pkt, 0x4008, [(64, 128)], false, [⟨.SRX_BUF, 10, .RWL⟩]⟩,
  ⟨.pkt, 0x400C, [(64, 128)], false, [⟨.SRX_JBUF_BASE, 10, .RWL⟩, ⟨.SRX_JBUF_JLOG, 24, .RWL⟩]⟩,
  ⟨.pkt, 0x4010, [(64, 128)], false, [⟨.SRX_MATCH_IP, 0, .RWL⟩]⟩,
  ⟨.pkt, 0x4014, [(64, 128)], false, [⟨.SRX_MATCH_PORT, 0, .RWL⟩]⟩,
  ⟨.pkt, 0x4018, [(64, 128)], false, [⟨.SRX_MATCH_SRC, 0, .RWL⟩]⟩,
  ⟨.pkt, 0x401C, [(64, 128)], false, [⟨.SRX_OFS, 0, .RWL⟩]⟩,
  ⟨.pkt, 0x4020, [(64, 128)], false, [⟨.SRX_STAT_RUN, 0, .RO⟩, ⟨.SRX_STAT_BADCFG, 1, .W1C⟩, ⟨.SRX_STAT_RCVD, 2, .RO⟩]⟩,
  ⟨.pkt, 0x4024, [(64, 128)], false, [⟨.SRX_PKTS, 0, .RO⟩]⟩]

/-- Registers of block pkt, part 3. -/
def pktRegs2 : List RegRow := [
  ⟨.pkt, 0x4028, [(64, 128)], false, [⟨.SRX_LATE, 0, .RC⟩]⟩,
  ⟨.pkt, 0x402C, [(64, 128)], false, [⟨.SRX_EARLY, 0, .RC⟩]⟩,
  ⟨.pkt, 0x4030, [(64, 128)], false, [⟨.SRX_MISS, 0, .RC⟩]⟩,
  ⟨.pkt, 0x4034, [(64, 128)], false, [⟨.SRX_SEQGAP, 0, .RC⟩]⟩,
  ⟨.pkt, 0x4038, [(64, 128)], false, [⟨.SRX_BADHDR, 0, .RC⟩]⟩]

/-- Registers of block pkt. -/
def pktRegs : List RegRow := pktRegs0 ++ pktRegs1 ++ pktRegs2

/-- Registers of block ptp, part 1. -/
def ptpRegs0 : List RegRow := [
  ⟨.ptp, 0x0, [], false, [⟨.PTP_CTL_SNAP, 0, .WO⟩, ⟨.PTP_CTL_SET, 1, .WO⟩]⟩,
  ⟨.ptp, 0x4, [], false, [⟨.PTP_STATUS_SLVERR, 0, .W1C⟩, ⟨.PTP_STATUS_PEND, 1, .RO⟩]⟩,
  ⟨.ptp, 0x8, [], true, [⟨.PHC_SEC, 0, .RO⟩]⟩,
  ⟨.ptp, 0x10, [], false, [⟨.PHC_NS, 0, .RO⟩]⟩,
  ⟨.ptp, 0x14, [], false, [⟨.PHC_FRAC, 0, .RO⟩]⟩,
  ⟨.ptp, 0x18, [], true, [⟨.PHC_SYS, 0, .RO⟩]⟩,
  ⟨.ptp, 0x20, [], true, [⟨.PHC_SETSEC, 0, .RW⟩]⟩,
  ⟨.ptp, 0x28, [], false, [⟨.PHC_SETNS, 0, .RW⟩]⟩,
  ⟨.ptp, 0x40, [], false, [⟨.SERVO_CFG, 0, .RW⟩]⟩,
  ⟨.ptp, 0x44, [], false, [⟨.SERVO_CTL_STEP_ACK, 0, .WO⟩, ⟨.SERVO_CTL_CLR, 1, .WO⟩]⟩,
  ⟨.ptp, 0x48, [], false, [⟨.SERVO_STATUS_STEP_REQ, 0, .RO⟩, ⟨.SERVO_STATUS_LOCK, 1, .RO⟩, ⟨.SERVO_STATUS_HOLD, 2, .RO⟩, ⟨.SERVO_STATUS_FSAT, 3, .W1C⟩, ⟨.SERVO_STATUS_STEP_CANC, 4, .W1C⟩, ⟨.SERVO_STATUS_STEPPED, 5, .W1C⟩]⟩,
  ⟨.ptp, 0x50, [], true, [⟨.SERVO_OFFSET, 0, .WO⟩]⟩]

/-- Registers of block ptp, part 2. -/
def ptpRegs1 : List RegRow := [
  ⟨.ptp, 0x58, [], false, [⟨.STEP_THRESH, 0, .RW⟩]⟩,
  ⟨.ptp, 0x5C, [], false, [⟨.SERVO_KP, 0, .RW⟩]⟩,
  ⟨.ptp, 0x60, [], false, [⟨.SERVO_KI, 0, .RW⟩]⟩,
  ⟨.ptp, 0x64, [], false, [⟨.SERVO_FMAX, 0, .RW⟩]⟩,
  ⟨.ptp, 0x68, [], false, [⟨.SERVO_FREQ, 0, .RO⟩]⟩,
  ⟨.ptp, 0x6C, [], false, [⟨.SERVO_FBASE, 0, .RWL⟩]⟩,
  ⟨.ptp, 0x70, [], false, [⟨.SERVO_INT, 0, .RO⟩]⟩,
  ⟨.ptp, 0x78, [], true, [⟨.STEP_VAL, 0, .RO⟩]⟩,
  ⟨.ptp, 0x80, [], false, [⟨.SERVO_LOCK_LOCKTH, 0, .RW⟩, ⟨.SERVO_LOCK_LOCKN, 16, .RW⟩, ⟨.SERVO_LOCK_TIMEOUT, 24, .RW⟩]⟩,
  ⟨.ptp, 0x84, [], false, [⟨.STEP_CNT, 0, .RC⟩]⟩,
  ⟨.ptp, 0x100, [(32, 3)], true, [⟨.MAP_DOMCNT, 0, .RO⟩]⟩,
  ⟨.ptp, 0x108, [(32, 3)], true, [⟨.MAP_SEC, 0, .RO⟩]⟩]

/-- Registers of block ptp, part 3. -/
def ptpRegs2 : List RegRow := [
  ⟨.ptp, 0x110, [(32, 3)], false, [⟨.MAP_NS, 0, .RO⟩]⟩,
  ⟨.ptp, 0x114, [(32, 3)], false, [⟨.MAP_FRAC, 0, .RO⟩]⟩,
  ⟨.ptp, 0x118, [(32, 3)], false, [⟨.MAP_STAT, 0, .RO⟩]⟩,
  ⟨.ptp, 0x11C, [(32, 3)], false, [⟨.MAP_SEQ, 0, .RO⟩]⟩,
  ⟨.ptp, 0x200, [(64, 4)], false, [⟨.TS_CFG_EN, 0, .RW⟩, ⟨.TS_CFG_PERIODIC, 1, .RWL⟩, ⟨.TS_CFG_POL, 2, .RWL⟩]⟩,
  ⟨.ptp, 0x208, [(64, 4)], true, [⟨.TS_START_SEC, 0, .RWL⟩]⟩,
  ⟨.ptp, 0x210, [(64, 4)], false, [⟨.TS_START_NS, 0, .RWL⟩]⟩,
  ⟨.ptp, 0x214, [(64, 4)], false, [⟨.TS_WIDTH, 0, .RWL⟩]⟩,
  ⟨.ptp, 0x218, [(64, 4)], true, [⟨.TS_PERIOD, 0, .RWL⟩]⟩,
  ⟨.ptp, 0x220, [(64, 4)], false, [⟨.TS_STATUS_STATE, 0, .RO⟩, ⟨.TS_STATUS_LATE, 2, .W1C⟩, ⟨.TS_STATUS_BADCFG, 3, .W1C⟩]⟩,
  ⟨.ptp, 0x224, [(64, 4)], false, [⟨.TS_EDGES, 0, .RO⟩]⟩]

/-- Registers of block ptp. -/
def ptpRegs : List RegRow := ptpRegs0 ++ ptpRegs1 ++ ptpRegs2

/-- Registers of block biray, part 1. -/
def birayRegs0 : List RegRow := [
  ⟨.biray, 0x0, [], false, [⟨.BIRAY_STATUS_STATE, 0, .RO⟩, ⟨.BIRAY_STATUS_WRAP, 2, .RO⟩, ⟨.BIRAY_STATUS_LANES, 3, .RO⟩, ⟨.BIRAY_STATUS_LINKCHG, 7, .W1C⟩]⟩,
  ⟨.biray, 0x4, [], false, [⟨.BIRAY_CTL, 0, .WO⟩]⟩,
  ⟨.biray, 0x8, [], false, [⟨.BIRAY_DELAY, 0, .RO⟩]⟩,
  ⟨.biray, 0xC, [], false, [⟨.BIRAY_CRCERR, 0, .RC⟩]⟩,
  ⟨.biray, 0x10, [], false, [⟨.BIRAY_DISC, 0, .RC⟩]⟩,
  ⟨.biray, 0x14, [], false, [⟨.BIRAY_WRAPCNT, 0, .RO⟩]⟩,
  ⟨.biray, 0x100, [], false, [⟨.RING_STATUS_ADDR, 0, .RO⟩, ⟨.RING_STATUS_UP, 4, .RO⟩, ⟨.RING_STATUS_HEAD, 5, .RO⟩, ⟨.RING_STATUS_N, 6, .RO⟩, ⟨.RING_STATUS_WRAPPED, 11, .RO⟩, ⟨.RING_STATUS_OVERSIZE, 12, .W1C⟩, ⟨.RING_STATUS_NOHEAD, 13, .W1C⟩, ⟨.RING_STATUS_MULTIHEAD, 14, .W1C⟩, ⟨.RING_STATUS_ENUMFAIL, 15, .W1C⟩]⟩,
  ⟨.biray, 0x104, [], false, [⟨.RING_CTL, 0, .WO⟩]⟩,
  ⟨.biray, 0x108, [], false, [⟨.RING_PRESENT, 0, .RO⟩]⟩,
  ⟨.biray, 0x10C, [], false, [⟨.RING_TIMEOUT, 0, .RC⟩]⟩,
  ⟨.biray, 0x110, [], true, [⟨.RING_DEVID, 0, .RO⟩]⟩,
  ⟨.biray, 0x200, [], false, [⟨.PAIR_CFG_PAIRID, 0, .RWL⟩, ⟨.PAIR_CFG_AUTO, 8, .RW⟩, ⟨.PAIR_CFG_ISOYIELD, 9, .RW⟩]⟩]

/-- Registers of block biray, part 2. -/
def birayRegs1 : List RegRow := [
  ⟨.biray, 0x204, [], false, [⟨.PAIR_CTL_ACTIVATE, 0, .WO⟩, ⟨.PAIR_CTL_TAKEOVER, 1, .WO⟩, ⟨.PAIR_CTL_SNAP_ARM, 2, .WO⟩, ⟨.PAIR_CTL_SNAP_CANCEL, 3, .WO⟩]⟩,
  ⟨.biray, 0x208, [], false, [⟨.PAIR_STATUS_ROLE, 0, .RO⟩, ⟨.PAIR_STATUS_SYNC, 2, .RO⟩, ⟨.PAIR_STATUS_PARTNER, 4, .RO⟩, ⟨.PAIR_STATUS_TAKEPEND, 5, .RO⟩, ⟨.PAIR_STATUS_SNAPPEND, 6, .RO⟩, ⟨.PAIR_STATUS_REFUSED, 7, .W1C⟩, ⟨.PAIR_STATUS_SNAPFAIL, 8, .W1C⟩, ⟨.PAIR_STATUS_CONFLICT, 9, .W1C⟩, ⟨.PAIR_STATUS_BADALIGN, 10, .W1C⟩, ⟨.PAIR_STATUS_TOOLATE, 11, .W1C⟩]⟩,
  ⟨.biray, 0x20C, [], false, [⟨.PAIR_HMISS, 0, .RC⟩]⟩,
  ⟨.biray, 0x210, [], true, [⟨.PAIR_ACTSINCE, 0, .RO⟩]⟩,
  ⟨.biray, 0x218, [], true, [⟨.PAIR_SNAP_AT, 0, .RW⟩]⟩,
  ⟨.biray, 0x220, [], false, [⟨.PAIR_RGN_BASE, 10, .RWL⟩]⟩,
  ⟨.biray, 0x224, [], false, [⟨.PAIR_RGN_CNT, 0, .RWL⟩]⟩,
  ⟨.biray, 0x228, [], false, [⟨.PAIR_MISMATCH, 0, .RC⟩]⟩,
  ⟨.biray, 0x240, [(16, 3)], false, [⟨.PAIR_DIG_BND, 0, .RO⟩]⟩,
  ⟨.biray, 0x244, [(16, 3)], false, [⟨.PAIR_DIG_OWN, 0, .RO⟩]⟩,
  ⟨.biray, 0x248, [(16, 3)], false, [⟨.PAIR_DIG_PART, 0, .RO⟩]⟩]

/-- Registers of block biray. -/
def birayRegs : List RegRow := birayRegs0 ++ birayRegs1

/-- Registers of block hp, part 1. -/
def hpRegs0 : List RegRow := [
  ⟨.hp, 0x0, [], false, [⟨.HP_CFG, 0, .RO⟩]⟩,
  ⟨.hp, 0x4, [], false, [⟨.HP_STATUS_LINKUP, 0, .RO⟩, ⟨.HP_STATUS_SPEED, 1, .RO⟩, ⟨.HP_STATUS_WIDTH, 3, .RO⟩]⟩,
  ⟨.hp, 0x8, [], false, [⟨.HOST_IPEND, 0, .W1C⟩]⟩,
  ⟨.hp, 0xC, [], false, [⟨.HOST_IMASK, 0, .RW⟩]⟩,
  ⟨.hp, 0x10, [], false, [⟨.HOST_EVT, 0, .WO⟩]⟩,
  ⟨.hp, 0x14, [], false, [⟨.HP_TPEND_CMD, 0, .W1C⟩, ⟨.HP_TPEND_FLR, 16, .W1C⟩]⟩,
  ⟨.hp, 0x18, [], false, [⟨.HP_GILLREQ_RESTART_TAIL, 0, .WO⟩, ⟨.HP_GILLREQ_PEND, 1, .RO⟩]⟩,
  ⟨.hp, 0x1C, [], false, [⟨.QSPI_STATUS_ERR, 0, .W1C⟩, ⟨.QSPI_STATUS_ABORT, 1, .W1C⟩, ⟨.QSPI_STATUS_BADCMD, 2, .W1C⟩]⟩,
  ⟨.hp, 0x20, [], true, [⟨.HP_ERRADDR_ADDR, 0, .RO⟩, ⟨.HP_ERRADDR_VALID, 63, .W1C⟩]⟩,
  ⟨.hp, 0x100, [(16, 32)], false, [⟨.MBX_PI, 0, .RW⟩]⟩,
  ⟨.hp, 0x104, [(16, 32)], false, [⟨.MBX_CI, 0, .RW⟩]⟩,
  ⟨.hp, 0x108, [(16, 32)], false, [⟨.MBX_STAT_FILL, 0, .RO⟩, ⟨.MBX_STAT_BADIDX, 7, .W1C⟩, ⟨.MBX_STAT_WRONGSIDE, 8, .W1C⟩]⟩]

/-- Registers of block hp, part 2. -/
def hpRegs1 : List RegRow := [
  ⟨.hp, 0x10000, [(4, 256)], false, [⟨.BAR2_XLAT_TARGET, 0, .RW⟩, ⟨.BAR2_XLAT_EN, 16, .RW⟩, ⟨.BAR2_XLAT_RO, 17, .RW⟩]⟩,
  ⟨.hp, 0x20000, [(16, 32)], false, [⟨.MSIX_ADDR, 0, .RW⟩]⟩,
  ⟨.hp, 0x20004, [(16, 32)], false, [⟨.MSIX_UADDR, 0, .RW⟩]⟩,
  ⟨.hp, 0x20008, [(16, 32)], false, [⟨.MSIX_DATA, 0, .RW⟩]⟩,
  ⟨.hp, 0x2000C, [(16, 32)], false, [⟨.MSIX_CTRL, 0, .RW⟩]⟩,
  ⟨.hp, 0x21000, [], false, [⟨.MSIX_PBA, 0, .RO⟩]⟩]

/-- Registers of block hp. -/
def hpRegs : List RegRow := hpRegs0 ++ hpRegs1

/-- Registers of block axo, part 1. -/
def axoRegs0 : List RegRow := [
  ⟨.axo, 0x0, [], false, [⟨.AXO_STATUS_TAIL, 0, .RO⟩, ⟨.AXO_STATUS_TAILSIGN, 2, .RO⟩]⟩,
  ⟨.axo, 0x4, [], false, [⟨.AXO_SHEDCNT, 0, .RO⟩]⟩,
  ⟨.axo, 0x8, [], false, [⟨.AXO_TWIN, 0, .RW⟩]⟩,
  ⟨.axo, 0x10, [(4, 12)], false, [⟨.AXO_MEAS, 0, .RO⟩]⟩,
  ⟨.axo, 0x100, [], true, [⟨.AXO_TAILSTAMP, 0, .RO⟩]⟩,
  ⟨.axo, 0x20000, [], false, [⟨.AXO_TAIL_CTL, 0, .RW⟩]⟩]

/-- Registers of block axo. -/
def axoRegs : List RegRow := axoRegs0

/-- Registers of block therm, part 1. -/
def thermRegs0 : List RegRow := [
  ⟨.therm, 0x0, [], false, [⟨.THERM_CFG_WARN, 0, .RW⟩, ⟨.THERM_CFG_HOT, 8, .RW⟩]⟩,
  ⟨.therm, 0x4, [], false, [⟨.THERM_STATUS_TRIPPED, 0, .RO⟩, ⟨.THERM_STATUS_SENSOR, 1, .RO⟩]⟩,
  ⟨.therm, 0x10, [(4, 8)], false, [⟨.THERM_TEMP_TJ, 0, .RO⟩, ⟨.THERM_TEMP_VALID, 31, .RO⟩]⟩,
  ⟨.therm, 0x30, [], false, [⟨.THERM_MAX, 0, .RC⟩]⟩,
  ⟨.therm, 0x40, [(4, 4)], false, [⟨.VMON, 0, .RO⟩]⟩]

/-- Registers of block therm. -/
def thermRegs : List RegRow := thermRegs0

/-- Registers of block flt, part 1. -/
def fltRegs0 : List RegRow := [
  ⟨.flt, 0x0, [], false, [⟨.FLT_LIVE, 0, .RO⟩]⟩,
  ⟨.flt, 0x4, [], false, [⟨.FLT_STICKY, 0, .W1C⟩]⟩,
  ⟨.flt, 0x8, [], false, [⟨.FLT_FIRST_CODE, 0, .RO⟩, ⟨.FLT_FIRST_SEV, 5, .RO⟩, ⟨.FLT_FIRST_VALID, 7, .W1C⟩, ⟨.FLT_FIRST_CONCURRENT, 8, .RO⟩, ⟨.FLT_FIRST_CLEARED_BEFORE_READ, 9, .RO⟩, ⟨.FLT_FIRST_INSTANCE, 16, .RO⟩]⟩,
  ⟨.flt, 0x10, [], true, [⟨.FLT_FIRST_STAMP, 0, .RO⟩]⟩,
  ⟨.flt, 0x18, [], false, [⟨.FLT_CNT, 0, .RC⟩]⟩,
  ⟨.flt, 0x1C, [], false, [⟨.FLT_INJ_COUNT, 0, .RW⟩, ⟨.FLT_INJ_MASK, 16, .RW⟩, ⟨.FLT_INJ_SEL, 24, .RW⟩]⟩,
  ⟨.flt, 0x20, [], false, [⟨.FLT_STATUS_LEVEL, 0, .RO⟩, ⟨.FLT_STATUS_TIRQ, 2, .RO⟩, ⟨.FLT_STATUS_GIRQ, 3, .RO⟩, ⟨.FLT_STATUS_ACK, 4, .WO⟩, ⟨.FLT_STATUS_LATEACK, 5, .W1C⟩, ⟨.FLT_STATUS_NOTE, 6, .W1C⟩]⟩,
  ⟨.flt, 0x24, [], false, [⟨.FLT_IEN, 0, .RW⟩]⟩,
  ⟨.flt, 0x28, [], false, [⟨.FLT_GRACE_T1, 0, .RW⟩, ⟨.FLT_GRACE_T2, 16, .RW⟩]⟩,
  ⟨.flt, 0x2C, [], false, [⟨.FLT_ESC_MINSEV, 0, .RW⟩, ⟨.FLT_ESC_EN, 2, .RW⟩, ⟨.FLT_ESC_ACK2, 3, .WO⟩, ⟨.FLT_ESC_CLR3, 4, .WO⟩]⟩]

/-- Registers of block flt. -/
def fltRegs : List RegRow := fltRegs0

/-- The registers of a block. -/
def Block.regs : Block → List RegRow
  | .newt => newtRegs
  | .tongue => tongueRegs
  | .chorus => chorusRegs
  | .bank => bankRegs
  | .fab => fabRegs
  | .mdll => mdllRegs
  | .therm => thermRegs
  | .sap => sapRegs
  | .rate => rateRegs
  | .refsel => refselRegs
  | .mac => macRegs
  | .pkt => pktRegs
  | .ptp => ptpRegs
  | .biray => birayRegs
  | .hp => hpRegs
  | .axo => axoRegs
  | .gpio => gpioRegs
  | .flt => fltRegs

end Sys2Proof.Machine
end

