-- ==== Sys2Proof/Machine/State.lean ====
section
/-! DEFINITION. The state. -/

namespace Sys2Proof.Machine

/-- The place of a cell: its name, the die that holds it, its instance. -/
structure Loc where
  fld : Fld
  die : Nat
  inst : Nat
deriving DecidableEq, Repr

/-- A condition fault that holds for one INSTANCE (R438). -/
structure Cond where
  die : Nat
  set : Nat
  code : Nat
  inst : Nat
deriving DecidableEq, Repr

/-- An entry of a tongue's priority queue (R144): `ticket` keeps the order of entry, `enq` is the time it entered,
`passed` whether it has been passed over for its flow before (R152). -/
structure QEntry where
  die : Nat
  clutch : Nat
  slot : Nat
  ticket : Nat
  enq : Nat
  passed : Bool
deriving DecidableEq, Repr

/-- A remote flow claim outstanding (R147): the reserved entry, its flow and the newt (0-7), the flags of the decision, those
posted since, the decision's time, the entry's wait, reason and skip count, and whether the claim was abandoned (R513). -/
structure Claim where
  entry : QEntry
  flow : Nat
  newt : Nat
  flags : Nat
  again : Nat
  time : Nat
  wait : Nat
  reason : Nat
  skipped : Nat
  abandoned : Bool
deriving DecidableEq, Repr

/-- An entry of a croak log in the writer's buffer (R152, R153): its sequence number and words 0 to 2. -/
structure CroakEntry where
  die : Nat
  clutch : Nat
  seq : Nat
  w0 : Nat
  w1 : Nat
  w2 : Nat
deriving DecidableEq, Repr

/-- A kick of a DMA engine (R224): the descriptor, the class the chain runs under (R215), the domain read ahead
(R225), and whether DMA_START made it. -/
structure Kick where
  die : Nat
  engine : Nat
  desc : Nat
  cls : Nat
  dom : Nat
  reg : Bool
deriving DecidableEq, Repr

/-- A bank access refused with BUSY that waits for its retry (R192): word address, port, 0 plain or 1 bit-set or 2
bit-clear alias. -/
structure BusyAccess where
  die : Nat
  word : Nat
  port : Nat
  aliasKind : Nat
  access : PortAccess
deriving DecidableEq, Repr

/-- A word that an alias operation of a port's master locks in the cycle of a SYSCNT capture (R195, R196). -/
structure WordLock where
  die : Nat
  word : Nat
  port : Nat
  master : Nat
  cyc : Nat
deriving DecidableEq, Repr

/-- What the last bank command answered on ports A and B: data, error response, and BUSY (bit 0 A, bit 1 B). -/
structure BankResp where
  dataA : Nat
  errA : Bool
  dataB : Nat
  errB : Bool
  busy : Nat
deriving DecidableEq, Repr

/-- Faults of a newt detected during a REPT, whose report waits for the last repetition (R88): the time of detection and
the codes with their INSTANCEs. -/
structure Deferred where
  die : Nat
  newt : Nat
  stamp : Nat
  codes : List (Nat × Nat)
deriving DecidableEq, Repr

/-- What the scoreboard of a newt holds (R76): the first cycle in which the next bundle may issue, in cycles of the newt's own, and for
each register with a result on its way (by number of file and index) the cycle from which a bundle may read it, and from which a VMAC
into the same accumulator may. -/
structure Board where
  die : Nat
  newt : Nat
  cyc : Nat
  regs : List (Nat × Nat × Nat)
deriving DecidableEq, Repr

/-- The instructions of the bundle a newt is decoding, while its last instruction has not come (R102). -/
structure Bundle where
  die : Nat
  newt : Nat
  m : Option MIns
  l : Option LIns
  c : Option CIns
  io : AccessMeets
deriving DecidableEq, Repr

/-- A reduced bus block that is being written (R174): the fp32 samples. -/
structure BusBlock where
  die : Nat
  bus : Nat
  boundary : Nat
  data : List Nat
deriving DecidableEq, Repr

/-- A data flit received with wrong bits on a link of a die (R222): the number of the flit among those of its access, the wrong bits of
its 256, and whether the check found them. -/
structure BadFlit where
  die : Nat
  link : Nat
  index : Nat
  wrong : Nat
  found : Bool
deriving DecidableEq, Repr

/-- What the last fabric access answered: the data of a read, and whether the response was an error (R213). -/
structure FabResp where
  data : Nat
  err : Bool
deriving DecidableEq, Repr

/-- A frame of a serial port: 1 + the sample number it carries (receive: 1), its STAMP, the data word of each slot (`hiZ`
where TD is high-impedance), whether it repeats another. Zero in `num` says that there is none. -/
structure SapFrame where
  num : Nat
  stamp : Nat
  words : List Nat
  rep : Bool
deriving DecidableEq, Repr

/-- What an enabled section of a serial port holds (R228 to R253); `sec` is 2 × local port + section. -/
structure SapPort where
  die : Nat
  sec : Nat
  /-- The slip buffer, oldest frame first (R246). -/
  fifo : List SapFrame
  /-- Receive: the frame the domain took last. Transmit: the frame on the pins. -/
  last : SapFrame
  /-- Receive: the frame put last. Transmit: the frame the domain side put last, which a missed block repeats (R247). -/
  prev : SapFrame
  /-- Receive: the frame put before `prev`. -/
  prior : SapFrame
  /-- 1 + the STAMP of the frame in progress; 0 none. -/
  start : Nat
  /-- The frame in progress has completed: 1 put, 2 dropped. -/
  fresh : Nat
  /-- Transmit: 1 + the sample of the last frame sent from the buffer, and the STAMP of the last frame sent anew. -/
  outn : Nat
  tstamp : Nat
  /-- Latched slot masks: mask, the sample at which it goes live, its commit's target (R245). -/
  masks : List (Nat × Nat × Nat)
  /-- Flags and dropped frames for the next receive block. -/
  pflags : Nat
  pdrop : Nat
  /-- A group slip waits for the n-th next frame, or domain sample (R251). -/
  gframe : Nat
  gsample : Nat
  /-- Transmit: the last sample taken of each channel, and the CRC of each channel over the slot so far (R373). -/
  vals : List Nat
  crcs : List Nat
  /-- Transmit: 1 + the sample the domain side made last. -/
  made : Nat
  /-- 1 + the time of the last frame decided on the pins' side; 0 none (R253, R507). -/
  decided : Nat
deriving DecidableEq, Repr

/-- The header of a block in progress of a section (R240), with the slot mask of its channels. -/
structure SapBlk where
  die : Nat
  sec : Nat
  n0 : Nat
  mask : Nat
  flags : Nat
  stamp : Nat
  stamped : Bool
  ndrop : Nat
  nrep : Nat
deriving DecidableEq, Repr

/-- A change of a die's PHC that awaits its edge, the one with SYSCNT `due` (R339): kind 0 a frequency word `val`, by a servo offset or
not (R344); 1 a step back by `val` (2⁻¹⁶ ns); 2 a set to `sec` and `ns`. -/
structure PhcChange where
  die : Nat
  due : Nat
  kind : Nat
  offset : Bool
  val : Nat
  sec : Nat
  ns : Nat
deriving DecidableEq, Repr

/-- A source sample a bridge holds (fp32); `missed`: its block missed its slot (R269). -/
structure BrSample where
  value : Nat
  missed : Bool
deriving DecidableEq, Repr

/-- The source samples a bridge holds, the newest first, with the low 32 bits of the newest one's count (R270). -/
structure BrHist where
  die : Nat
  bridge : Nat
  newest : Nat
  /-- When the newest was taken (R272). -/
  time : Nat
  samples : List BrSample
deriving DecidableEq, Repr

/-- A frame in a MAC's transmit buffer (R314): `host` 1 if a descriptor of index `idx` of its ring holds it; `launch` 1 when
its launch time has been reached, 2 when that was while the line was busy or paused (R317); `bad` for a descriptor refused; `seq` is 1 + the stamp sequence
number given to the frame, 0 none. -/
structure MacFrame where
  die : Nat
  mac : Nat
  queue : Nat
  host : Nat
  idx : Nat
  bytes : List Nat
  tsreq : Bool
  seq : Nat
  timed : Bool
  lsec : Nat
  lns : Nat
  launch : Nat
  bad : Bool
deriving DecidableEq, Repr

/-- An entry of a MAC's transmit stamp FIFO (R324). -/
structure TsfEntry where
  die : Nat
  mac : Nat
  seq : Nat
  queue : Nat
  sec : Nat
  ns : Nat
deriving DecidableEq, Repr

/-- A packet a transmit stream has built, on offer to its MAC, and whether it is gated (R330, R331). -/
structure StxPacket where
  die : Nat
  stream : Nat
  mac : Nat
  queue : Nat
  bytes : List Nat
  gated : Bool
deriving DecidableEq, Repr

/-- What a running transmit stream holds: the words of the packet in progress, frame by frame, the last sample taken of each
channel, 1 + the first sample of the block in progress with its header's flags and stamp (R329, R330), and the CRC of each
channel over the slot so far (R373). -/
structure StxRun where
  die : Nat
  stream : Nat
  words : List Nat
  lasts : List Nat
  bn0 : Nat
  bflags : Nat
  bstamp : Nat
  crcs : List Nat
deriving DecidableEq, Repr

/-- Mirror data a standby holds: domain, die, address, bytes (R380). -/
structure MirrorBlk where
  dom : Nat
  die : Nat
  addr : Nat
  bytes : List Nat
deriving DecidableEq, Repr

/-- An access to another unit that waits for its response (R365); `dom` is the domain of a post, 3 for none (R46). -/
structure RemoteAcc where
  tag : Nat
  unit : Nat
  die : Nat
  port : Nat
  addr : Nat
  write : Bool
  dom : Nat
deriving DecidableEq, Repr

/-- A request of the host port that the host bridge has not finished (R365, R393, R397): of which port, its BAR and offset, the data of a
write; the tag of the access to another unit whose answer it awaits (none: it waits for the requests before it), that access's place and
length and its address; the accesses that follow, as places and lengths; the bytes read so far, the address of the first error, the words
that the answer of a QSPI read has and those that come late (R505). -/
structure HostTask where
  qspi : Bool
  bar : Nat
  off : Nat
  write : Bool
  data : Nat
  tag : Option Nat
  part : Nat × Nat
  addr : Nat
  rest : List (Nat × Nat)
  val : Nat
  bad : Option Nat
  words : Nat
  late : List Nat
deriving DecidableEq, Repr

/-- One 4-byte element of a transaction or a scene: its unit and die, its addresses in copies 0 and 1, its value. -/
structure TxElem where
  unit : Nat
  die : Nat
  a0 : Nat
  a1 : Nat
  val : Nat
deriving DecidableEq, Repr

/-- A transaction of CSF (R419 to R422): its TXID, domain and STATE, the T asked for (2⁶⁴ − 1 NEXT), the armed T, the
generation it produces, its elements, the EVT_AT of its routes (the place of the record, the sample), and whether its catch-up is done; `bnd` is 1 + the
boundary at which TB_GEN changed. -/
structure CsfTx where
  id : Nat
  dom : Nat
  state : Nat
  want : Nat
  armed : Nat
  gen : Nat
  elems : List TxElem
  evts : List TxElem
  caught : Bool
  bnd : Nat
deriving DecidableEq, Repr

/-- A stored scene (R429): its number, domain, the generation captured, its parameter elements, and its routes, each as the
four words of its record. -/
structure CsfScene where
  num : Nat
  dom : Nat
  gen : Nat
  elems : List TxElem
  routes : List (List TxElem)
deriving DecidableEq, Repr

/-- An event that waits for delivery to a pair (R416). -/
structure CsfEvent where
  pair : Nat
  code : Nat
  txid : Nat
  payload : List Nat
deriving DecidableEq, Repr

/-- A fault record (R455). -/
structure FaultRec where
  stamp : Nat
  unit : Nat
  die : Nat
  block : Nat
  code : Nat
  sev : Nat
  flags : Nat
  level : Nat
  inst : Nat
  cnt : Nat
deriving DecidableEq, Repr

/-- A GRAPH_START that waits for its window (R433): pair, the domains asked for and those not yet enabled, START_AT. -/
structure CsfStart where
  pair : Nat
  mask : Nat
  left : Nat
  start : Nat
deriving DecidableEq, Repr

/-- The state of the machine. -/
structure State where
  /-- Every register field and hidden cell that differs from its reset value, in the order of `Loc.before`. -/
  cells : List (Loc × Nat)
  /-- Every byte of memory that differs from `memDefault`, at rising keys. -/
  mem : List Host.Cell
  /-- 64-bit check words of the SRAM whose stored bits are no code word: key and the mask of the 72 wrong bits (R186). -/
  errs : List (Nat × Nat)
  /-- The instances for which a condition fault holds (R438). -/
  conds : List Cond
  /-- Raises a block has met in this cycle and not yet signalled together (R441); none between commands. -/
  due : List Cond
  /-- Messages on their way. -/
  sent : List Msg
  /-- The entries of the tongues' queues, oldest ticket first for each tongue (R144). -/
  queue : List QEntry
  /-- Remote flow claims outstanding (R147). -/
  claims : List Claim
  /-- Croak entries waiting in the writers' buffers (R152). -/
  croak : List CroakEntry
  /-- Chorus groups ready to run, as (die, group), in the order in which they became ready (R168, R170). -/
  ready : List (Nat × Nat)
  /-- Kicks that wait at the DMA engines (R224). -/
  kicks : List Kick
  /-- Bank accesses that wait for their retry (R192). -/
  busyAcc : List BusyAccess
  /-- The words that alias operations lock, in this cycle or a later one (R195). -/
  locks : List WordLock
  /-- Data flits received with wrong bits, of accesses that have not taken place yet (R222). -/
  badFlits : List BadFlit
  /-- The answers of the last bank command. -/
  resp : BankResp
  /-- The answer of the last fabric access. -/
  answer : FabResp
  /-- Newt faults whose report a REPT defers. -/
  deferred : List Deferred
  /-- Bundles being decoded, at most one a newt. -/
  bundles : List Bundle
  /-- The scoreboards of the newts that have issued a bundle of their task. -/
  boards : List Board
  /-- Bus blocks being written. -/
  blocks : List BusBlock
  /-- The enabled sections of the serial ports. -/
  ports : List SapPort
  /-- The blocks of serial port sections in progress. -/
  sapBlks : List SapBlk
  /-- Changes of the PHC that await their edges, oldest first (R339). -/
  phc : List PhcChange
  /-- The source samples bridges hold (R270). -/
  hists : List BrHist
  /-- The frames in the MACs' transmit buffers, in the order of admission (R314). -/
  macTx : List MacFrame
  /-- The frames on the MACs' lines. -/
  macLine : List MacFrame
  /-- The MACs' transmit stamp FIFOs, oldest first (R324). -/
  tsf : List TsfEntry
  /-- Packets on offer to the MACs. -/
  built : List StxPacket
  /-- The transmit streams that run. -/
  stx : List StxRun
  /-- Mirror data held, in order of arrival (R380). -/
  mirror : List MirrorBlk
  /-- Accesses to other units that wait for their responses (R365). -/
  remote : List RemoteAcc
  /-- Requests of the host port in progress, the one that awaits an answer first (R365, R397). -/
  hostQ : List HostTask
  /-- The loaded graph image (R432). -/
  image : Option GraphImage
  /-- The values of the image's meters at the last snapshot of their domain: index and values (R61, R431). -/
  snaps : List (Nat × List Nat)
  /-- CSF's transactions, in the order in which they came to their states; those ended stay until 1,024 newer ones have ended
  (R420). -/
  txs : List CsfTx
  /-- CSF's stored scenes. -/
  scenes : List CsfScene
  /-- Events not yet delivered, oldest first. -/
  events : List CsfEvent
  /-- CSF's fault log, the latest 4,096 records, oldest first (R454). -/
  faultLog : List FaultRec
  /-- GRAPH_START commands that wait. -/
  starts : List CsfStart
  /-- The model's own: the number of the next free value. -/
  freeCtr : Nat
  /-- The commands that wait, first in, first out. -/
  pending : List Instr
deriving DecidableEq, Repr

/-- The faults that stop the machine: none. An access to a place that does not exist is answered on the bus (R213), and
every command that meets an error has the effect the spec gives for it. -/
inductive Fault where
deriving DecidableEq, Repr

/-- The refusals. -/
inductive Refusal where
  /-- Raised by `exec` for a command that has no meaning yet. Safe: nothing is claimed of it. -/
  | notModelled (mnemonic : String)
deriving DecidableEq, Repr

/-- What a meaning answers. -/
abbrev Result := Host.Outcome State Fault Refusal

/-- Right after reset: every register at its reset value, nothing listed in memory, nothing on its way, no command waiting. -/
def State.reset : State where
  cells := []
  mem := []
  errs := []
  conds := []
  sent := []
  queue := []
  claims := []
  croak := []
  ready := []
  kicks := []
  busyAcc := []
  locks := []
  badFlits := []
  due := []
  resp := ⟨0, false, 0, false, 0⟩
  answer := ⟨0, false⟩
  deferred := []
  bundles := []
  boards := []
  blocks := []
  ports := []
  sapBlks := []
  phc := []
  hists := []
  macTx := []
  macLine := []
  tsf := []
  built := []
  stx := []
  mirror := []
  remote := []
  hostQ := []
  image := none
  snaps := []
  txs := []
  scenes := []
  events := []
  faultLog := []
  starts := []
  freeCtr := 0
  pending := []

end Sys2Proof.Machine
end

