-- ==== Sys2Proof/Machine/Ops.lean ====
section
/-! DEFINITION. The named operations over the machine's cells, memory, messages and faults. Every meaning is written
over these. -/

namespace Sys2Proof.Machine

/-! ### Bits of natural numbers -/

/-- Bit `k` of `v`. -/
def bitAt (v k : Nat) : Nat := v / 2 ^ k % 2

/-- Bits `[lo+w-1:lo]` of `v`. -/
def bitsAt (v lo w : Nat) : Nat := v / 2 ^ lo % 2 ^ w

/-- `v` with bit `k` set. -/
def setBit (v k : Nat) : Nat := v ||| 2 ^ k

/-- `v` with bit `k` cleared. -/
def clearBit (v k : Nat) : Nat := if bitAt v k = 1 then v - 2 ^ k else v

/-- `v` with bits `[lo+w-1:lo]` replaced by the low `w` bits of `x`. -/
def setBits (v lo w x : Nat) : Nat := v - bitsAt v lo w * 2 ^ lo + x % 2 ^ w * 2 ^ lo

/-- The signed value of the `w`-bit number `v`. -/
def signed (w v : Nat) : Int :=
  let u := v % 2 ^ w
  if u < 2 ^ (w - 1) then (u : Int) else (u : Int) - (2 ^ w : Nat)

/-- The `w`-bit two's complement form of an integer. -/
def unsigned (w : Nat) (x : Int) : Nat := (x % ((2 ^ w : Nat) : Int)).toNat

/-- One if the condition holds, zero otherwise. -/
def flag (c : Bool) : Nat := if c then 1 else 0

/-! ### Cells -/

/-- The order of the cell list: by name, then die, then instance. -/
def Loc.before (a b : Loc) : Bool :=
  if a.fld.ctorIdx < b.fld.ctorIdx then true
  else if b.fld.ctorIdx < a.fld.ctorIdx then false
  else if a.die < b.die then true
  else if b.die < a.die then false
  else a.inst < b.inst

/-- The value listed for a cell. -/
def Cells.find (l : Loc) : List (Loc × Nat) → Option Nat
  | [] => none
  | (k, v) :: t => if k = l then some v else Cells.find l t

/-- The list without a cell's entry. -/
def Cells.erase (l : Loc) : List (Loc × Nat) → List (Loc × Nat)
  | [] => []
  | (k, v) :: t => if k = l then Cells.erase l t else (k, v) :: Cells.erase l t

/-- The list with a cell's entry set, at its place in the order. -/
def Cells.insert (l : Loc) (x : Nat) : List (Loc × Nat) → List (Loc × Nat)
  | [] => [(l, x)]
  | (k, v) :: t =>
    if k = l then (l, x) :: t
    else if l.before k then (l, x) :: (k, v) :: t
    else (k, v) :: Cells.insert l x t

/-- The value of a cell: what the list holds for it, else its reset value. -/
def State.get (s : State) (f : Fld) (d i : Nat) : Nat :=
  (Cells.find ⟨f, d, i⟩ s.cells).getD (f.reset d i)

/-- Write a cell, cutting the value to the cell's width. The list keeps no entry equal to the reset value. -/
def State.put (s : State) (f : Fld) (d i v : Nat) : State :=
  if v % 2 ^ f.width = f.reset d i then { s with cells := Cells.erase ⟨f, d, i⟩ s.cells }
  else { s with cells := Cells.insert ⟨f, d, i⟩ (v % 2 ^ f.width) s.cells }

/-- Whether a one-bit cell is set. -/
def State.on (s : State) (f : Fld) (d i : Nat) : Bool := s.get f d i == 1

/-- Apply an update only where a condition holds. -/
def State.when (s : State) (c : Prop) [Decidable c] (f : State → State) : State := if c then f s else s

/-- Add to a counter, wrapping at its width. -/
def State.inc (s : State) (f : Fld) (d i n : Nat) : State := s.put f d i (s.get f d i + n)

/-- Add to a counter that saturates at its largest value. -/
def State.incSat (s : State) (f : Fld) (d i n : Nat) : State :=
  s.put f d i (min (s.get f d i + n) (2 ^ f.width - 1))

/-- Subtract, stopping at zero. -/
def State.dec (s : State) (f : Fld) (d i n : Nat) : State := s.put f d i (s.get f d i - n)

/-- Raise a cell to a value if that is larger. -/
def State.raiseTo (s : State) (f : Fld) (d i v : Nat) : State := s.put f d i (max (s.get f d i) v)

/-- The update applied for each element of a list, in order. -/
def State.each {α : Type} (s : State) (l : List α) (f : α → State → State) : State :=
  l.foldl (fun t a => f a t) s

/-- Put one value into a cell of every instance `0 … n-1` of a die. -/
def State.putAll (s : State) (f : Fld) (d n v : Nat) : State :=
  s.each (List.range n) fun i t => t.put f d i v

/-! ### Memory -/

/-- The key of a byte: the die and the die-local address. -/
def memKey (d a : Nat) : Nat := d * 2 ^ 32 + a % 2 ^ 32

/-- What an unlisted byte reads as. DESIGN CHOICE (log entry 2). -/
def memDefault : Byte := 0

/-- The byte listed at a key. -/
def Memory.find (k : Nat) : List Host.Cell → Byte
  | [] => memDefault
  | (a, b) :: t => if a = k then b else Memory.find k t

/-- The list without a key. -/
def Memory.erase (k : Nat) : List Host.Cell → List Host.Cell
  | [] => []
  | (a, b) :: t => if a = k then Memory.erase k t else (a, b) :: Memory.erase k t

/-- The list with a byte set at its place. -/
def Memory.insert (k : Nat) (x : Byte) : List Host.Cell → List Host.Cell
  | [] => [(k, x)]
  | (a, b) :: t =>
    if a = k then (k, x) :: t
    else if k < a then (k, x) :: (a, b) :: t
    else (a, b) :: Memory.insert k x t

/-- The list after a write of one byte. -/
def Memory.set (k : Nat) (x : Byte) (m : List Host.Cell) : List Host.Cell :=
  if x = memDefault then Memory.erase k m else Memory.insert k x m

/-- The canonical form: keys strictly rising, no entry equal to what an unlisted byte reads as. -/
def Memory.wf : List Host.Cell → Bool
  | [] => true
  | [(_, b)] => b != memDefault
  | (a, b) :: (c, d) :: t => b != memDefault && a < c && Memory.wf ((c, d) :: t)

/-- Read one byte of a die's memory. -/
def State.byte (s : State) (d a : Nat) : Byte := Memory.find (memKey d a) s.mem

/-- Write one byte of a die's memory. -/
def State.setByte (s : State) (d a : Nat) (x : Byte) : State :=
  { s with mem := Memory.set (memKey d a) x s.mem }

/-- Read `n` bytes, the first the least significant (R2). -/
def State.load (s : State) (d a : Nat) : Nat → Nat
  | 0 => 0
  | n + 1 => (s.byte d a).toNat + 256 * s.load d (a + 1) n

/-- Write the low `n` bytes of `v`, the least significant first (R2). -/
def State.store (s : State) (d a : Nat) : Nat → Nat → State
  | 0, _ => s
  | n + 1, v => (s.setByte d a (BitVec.ofNat 8 v)).store d (a + 1) n (v / 256)

/-- Write a list of bytes. -/
def State.storeBytes (s : State) (d a : Nat) : List Nat → State
  | [] => s
  | b :: t => (s.setByte d a (BitVec.ofNat 8 b)).storeBytes d (a + 1) t

/-- Read `n` bytes as a list. -/
def State.loadBytes (s : State) (d a : Nat) : Nat → List Nat
  | 0 => []
  | n + 1 => (s.byte d a).toNat :: s.loadBytes d (a + 1) n

/-- A 32-bit word of a die's memory. -/
def State.word (s : State) (d a : Nat) : Nat := s.load d a 4

/-- Write a 32-bit word. -/
def State.setWord (s : State) (d a v : Nat) : State := s.store d a 4 v

/-! ### Time, messages and free values -/

/-- SYSCNT with 1 ns resolution, as a hardware capture on a die takes it (R38). -/
def State.capture (s : State) (d : Nat) : Nat := s.get .TB_SYSCNT d 0 + s.get .SUBNS d 0

/-- Put a message on its way (die links, VC 0, Biray frames, host messages). -/
def State.send (s : State) (m : Msg) : State := { s with sent := s.sent ++ [m] }

/-- Take a message out of those on their way. -/
def State.arrived (s : State) (m : Msg) : State := { s with sent := s.sent.erase m }

/-- The path of a message: its target and the master that issued it. What is issued on one path arrives in that order (R15). A
tongue's claims and releases leave by one master; partials of other units enter by the Biray ingress. -/
def Msg.path : Msg → List Nat
  | .epochStart d _ _ _ => [0, d]
  | .lateMarker d _ => [0, d]
  | .releaseOrder d _ _ => [0, d]
  | .drainReport d _ _ _ _ => [1, d]
  | .post src p d _ _ _ _ _ => [2, src, p, d]
  | .flowClaim d c _ f => [3, d, c, f % 6]
  | .flowRelease f d c => [3, d, c, f % 6]
  | .claimResponse d _ _ f _ => [5, f % 6, d]
  | .flowUpdate d f _ => [5, f % 6, d]
  | .partialSum u d _ _ _ _ _ _ _ => [6, min u 8, d]
  | .msix _ _ | .completion _ _ => [7]
  | .groupSlip d _ _ _ => [8, d]
  | .biray d _ _ => [9, d]

/-- The withdrawal that the die of a report caused has not arrived yet (R150). -/
def State.withdrawalAhead (s : State) (m : Msg) : Bool :=
  match m with
  | .drainReport d D _ false _ =>
    (s.sent.takeWhile fun q => q != m).any fun q =>
      match q with
      | .drainReport _ E _ true c => E == D && c == d
      | _ => false
  | _ => false

/-- The start of the epoch that an immediate post belongs to has not come to its die yet (R143). -/
def State.startAhead (s : State) (m : Msg) : Bool :=
  match m with
  | .post _ _ d _ _ _ D _ =>
    (s.sent.takeWhile fun q => q != m).any fun q =>
      match q with
      | .epochStart e E _ _ => e == d && E == D
      | _ => false
  | _ => false

/-- The die whose clocked logic takes a message; none for what leaves the package. -/
def Msg.taker : Msg → Option Nat
  | .epochStart d _ _ _ | .lateMarker d _ | .releaseOrder d _ _ | .post _ _ d _ _ _ _ _ | .claimResponse d _ _ _ _ | .flowUpdate d _ _
  | .partialSum _ d _ _ _ _ _ _ _ | .groupSlip d _ _ _ => some d
  | .drainReport _ _ _ _ _ => some 6
  | .flowClaim _ _ _ f | .flowRelease f _ _ => some (f % 6)
  | .msix _ _ | .completion _ _ | .biray _ _ _ => none

/-- The clock of a die runs: MDLL_STATUS.OUT is not 0, gated (R305, R307). A command that writes a register of a die, or acts in a circuit
on its clock, does so only then; in power-on reset no die has one (R461). -/
def State.dieClocked (s : State) (d : Nat) : Bool := s.get .MDLL_STATUS_OUT d 0 != 0

/-- A message on its way arrives next: the first of its path; for a drain report every withdrawal it depends on, and for an immediate
post the start of its epoch, has come before (R15, R143, R150). A gated die takes none (R307). -/
def State.nextOn (s : State) (m : Msg) : Bool :=
  (s.sent.find? fun q => Msg.path q == Msg.path m) == some m && !s.withdrawalAhead m && !s.startAhead m &&
    ((Msg.taker m).map s.dieClocked).getD true

/-- The first message that may arrive and satisfies a test, taken; where there is none nothing happens. -/
def State.receive (s : State) (test : Msg → Bool) (f : Msg → State → State) : State :=
  match s.sent.find? fun m => test m && s.nextOn m with
  | none => s
  | some m => f m (s.arrived m)

/-- Cycles a die's core clock has run, in ns: the capture less the nanoseconds without a cycle (R305, R307). -/
def State.cycles (s : State) (d : Nat) : Nat := s.capture d - s.get .LOST_CYC d 0

/-- A value the spec leaves open. -/
def State.free (s : State) : Nat := Config.freeValue s.freeCtr

/-- Move on to the next free value. -/
def State.drawn (s : State) : State := { s with freeCtr := s.freeCtr + 1 }

/-! ### Places in the package (R11 to R19) -/

/-- The eight dies. -/
def allDies : List Nat := [0, 1, 2, 3, 4, 5, 6, 7]

/-- The compute dies. -/
def geckoDies : List Nat := [0, 1, 2, 3, 4, 5]

/-- The hub dies. -/
def iguanaDies : List Nat := [6, 7]

/-- Hop count of R14. -/
def hops (a b : Nat) : Nat :=
  if a = b then 0
  else if a < 6 ∧ b < 6 then (if a % 3 < b % 3 then b % 3 - a % 3 else a % 3 - b % 3) + (if a / 3 = b / 3 then 0 else 1)
  else if a < 6 then (if b = 6 then a % 3 + 1 else 3 - a % 3)
  else if b < 6 then (if a = 6 then b % 3 + 1 else 3 - b % 3)
  else 4

/-- The two dies a link of a die joins, and the peer's own number of that link; `none` where R12 has no such link. Gecko:
0 W, 1 E, 2 N, 3 S. Iguana: 0 north row, 1 south row (R226). -/
def linkPeer (d l : Nat) : Option (Nat × Nat) :=
  if d < 6 then
    match l with
    | 0 => some (if d % 3 = 0 then (6, d / 3) else (d - 1, 1))
    | 1 => some (if d % 3 = 2 then (7, d / 3) else (d + 1, 0))
    | 2 => if d < 3 then none else some (d - 3, 3)
    | 3 => if d < 3 then some (d + 3, 2) else none
    | _ => none
  else if d = 6 then (if l = 0 then some (0, 0) else if l = 1 then some (3, 0) else none)
  else if d = 7 then (if l = 0 then some (2, 1) else if l = 1 then some (5, 1) else none)
  else none

/-- The links each die has: gecko 4, iguana 2. -/
def linkCount (d : Nat) : Nat := if d < 6 then 4 else 2

/-- In power-on reset, and with TESTMODE_N low at the last sampling of the straps until the next one, every output is high-impedance,
open-drain outputs are released and SERDES lanes powered down (R460, R461, R486). -/
def State.pinsFloat (s : State) : Bool := s.on .STRAP_TESTMODE 6 0 || s.on .IN_PORST 6 0

/-- An iguana die's SERDES lanes run: their reference clocks come from its MDLL alone (R301, R305). -/
def State.serdesRuns (s : State) (d : Nat) : Bool := s.get .MDLL_STATUS_OUT d 0 == 1 && !s.pinsFloat

/-- The state a meaning answers. -/
def State.run (s : State) (f : State → Result) : State :=
  match f s with
  | .next t => t
  | _ => s

/-! ### The gill (R385, R462, R470) -/

/-- Stage 2 runs on the gill: the ROM has accepted an image set (R462, R467), and no thermal trip stops the clocks (R451). -/
def State.stage2 (s : State) : Bool := s.get .BOOT_SET 6 0 != 0 && !s.on .THERM_STATUS_TRIPPED 6 0

/-- The gill acts: stage 2 runs and no snapshot is being written (R470; log entry 91). -/
def State.gillFree (s : State) : Bool := s.stage2 && !s.on .SNAP_BUSY 6 0

end Sys2Proof.Machine
end

