-- ==== Sys2Proof/Machine/Faults.lean ====
section
/-! DEFINITION. The fault register sets (R436 to R447): the codes, raising a fault, the first-fault record, the
escalation levels. One set per block instance; a set's cells use the block ID type × 64 + instance as their instance. -/

namespace Sys2Proof.Machine

/-- The faults of the code table (R457), in the table's order. -/
inductive FaultName where
  /-- Type 1, code 0: CRITICAL, C, while FAULTED; INSTANCE: Task slot. -/
  | NEWT_PMEM_UE
  /-- Type 1, code 1: CRITICAL, C, while FAULTED; INSTANCE: Task slot. -/
  | NEWT_ILLEGAL
  /-- Type 1, code 2: MAJOR, E; INSTANCE: Task slot for a newt access; 0xFFFF for a fabric access (R511, R512). -/
  | NEWT_DMEM_UE
  /-- Type 1, code 3: MAJOR, E; INSTANCE: Task slot. -/
  | NEWT_ADDR
  /-- Type 1, code 4: MINOR, E; INSTANCE: Task slot. -/
  | NEWT_MISALIGN
  /-- Type 1, code 5: MINOR, E; INSTANCE: 0xFFFF. -/
  | NEWT_PMEM_WERR
  /-- Type 1, code 6: INFO, E; INSTANCE: Task slot. -/
  | NEWT_HALT_IGN
  /-- Type 1, code 7: INFO, E; INSTANCE: 0 DMEM, 1 PMEM. -/
  | NEWT_ECC_CE
  /-- Type 2, code 0: MINOR, E; INSTANCE: —. -/
  | TONGUE_CROAK_ERR
  /-- Type 2, code 1: MINOR, E; INSTANCE: Slot. -/
  | TONGUE_POST_DIS
  /-- Type 2, code 2: INFO, E; INSTANCE: —. -/
  | TONGUE_CROAK_DROP
  /-- Type 3, code 0: MAJOR, E; INSTANCE: Bus. -/
  | CHORUS_INCOMP
  /-- Type 3, code 1: MAJOR, E; INSTANCE: Group. -/
  | CHORUS_GRPMISS
  /-- Type 3, code 2: MAJOR, E; INSTANCE: Bus. -/
  | CHORUS_PART_DISC
  /-- Type 3, code 3: MINOR, E; INSTANCE: Group. -/
  | CHORUS_BADXP
  /-- Type 3, code 4: MINOR, E; INSTANCE: Group. -/
  | CHORUS_XKICK
  /-- Type 3, code 5: INFO, E; INSTANCE: Bus. -/
  | CHORUS_SAT
  /-- Type 3, code 6: INFO, E; INSTANCE: Bus. -/
  | CHORUS_NAN
  /-- Type 4, code 0: MAJOR, E; INSTANCE: Bank index. -/
  | BANK_UE
  /-- Type 4, code 1: MAJOR, E; INSTANCE: Bank index. -/
  | BANK_OFFLINE_ACC
  /-- Type 4, code 2: MAJOR, E; INSTANCE: Bank index; 0x100 + die newt for newt memory. -/
  | BANK_LF_FAIL
  /-- Type 4, code 3: MINOR, E; INSTANCE: Bank index. -/
  | BANK_TORN
  /-- Type 4, code 4: MINOR, E; INSTANCE: Bank index. -/
  | BANK_FUSE_ERR
  /-- Type 4, code 5: INFO, E; INSTANCE: Bank index. -/
  | BANK_LF_REPAIR
  /-- Type 4, code 6: INFO, E; INSTANCE: Bank index. -/
  | BANK_CE
  /-- Type 5, code 0: CRITICAL, C, while FAILED; INSTANCE: Link. -/
  | FAB_LINK_FAIL
  /-- Type 5, code 1: CRITICAL, E; INSTANCE: Link. -/
  | FAB_LINK_UE
  /-- Type 5, code 2: MAJOR, E; INSTANCE: Target port. -/
  | FAB_PERM_DENY
  /-- Type 5, code 3: MAJOR, E; INSTANCE: Engine. -/
  | DMA_ERR
  /-- Type 5, code 4: MINOR, E; INSTANCE: Master port. -/
  | FAB_DECODE
  /-- Type 5, code 5: MINOR, E; INSTANCE: Master port. -/
  | FAB_TORN
  /-- Type 5, code 6: MINOR, E; INSTANCE: Engine. -/
  | DMA_KICK_OVF
  /-- Type 5, code 7: INFO, E; INSTANCE: Link. -/
  | FAB_LINK_CE
  /-- Type 6, code 0: CRITICAL, C; INSTANCE: —. -/
  | MDLL_LOL
  /-- Type 6, code 1: CRITICAL, C; INSTANCE: —. -/
  | MDLL_REFLOSS
  /-- Type 6, code 2: MAJOR, C; INSTANCE: —. -/
  | MDLL_BYPASS
  /-- Type 6, code 3: INFO, E; INSTANCE: —. -/
  | MDLL_RELOCKED
  /-- Type 6, code 4: INFO, E; INSTANCE: —. -/
  | MDLL_MULTISEARCH
  /-- Type 7, code 0: CRITICAL, C, latched; INSTANCE: Sensor. -/
  | THERM_TRIP
  /-- Type 7, code 1: MAJOR, C; INSTANCE: Sensor. -/
  | THERM_HOT
  /-- Type 7, code 2: MAJOR, C; INSTANCE: Rail. -/
  | VMON_UV
  /-- Type 7, code 3: MAJOR, C; INSTANCE: Rail. -/
  | VMON_OV
  /-- Type 7, code 4: MINOR, C; INSTANCE: Sensor. -/
  | THERM_WARN
  /-- Type 7, code 5: MINOR, C; INSTANCE: Sensor. -/
  | THERM_SENSOR
  /-- Type 8, code 0: MAJOR, C; INSTANCE: 2 × port + section (0 receive, 1 transmit). -/
  | SAP_LOST
  /-- Type 8, code 1: MINOR, E; INSTANCE: As code 0. -/
  | SAP_FRAME
  /-- Type 8, code 2: MINOR, E; INSTANCE: As code 0. -/
  | SAP_GRP_SPLIT
  /-- Type 8, code 3: MINOR, E; INSTANCE: As code 0. -/
  | SAP_BADCFG
  /-- Type 8, code 4: INFO, E; INSTANCE: As code 0; 0x100 + group for a group slip. -/
  | SAP_SLIP
  /-- Type 8, code 5: INFO, E; INSTANCE: As code 0. -/
  | SAP_UNDR
  /-- Type 9, code 0: MAJOR, E, die 6; INSTANCE: Domain. -/
  | EPOCH_SKIP
  /-- Type 9, code 1: MAJOR, E, die 6; INSTANCE: Domain. -/
  | EPOCH_OVERRUN
  /-- Type 9, code 2: MAJOR, E, die 6; INSTANCE: Domain. -/
  | EPOCH_SPLIT
  /-- Type 9, code 3: MAJOR, C; INSTANCE: Domain. -/
  | DOM_RINGERR
  /-- Type 9, code 4: MAJOR, C; INSTANCE: Domain. -/
  | DOM_RINGMIS
  /-- Type 9, code 5: MAJOR, C; INSTANCE: Global bridge. -/
  | BRIDGE_LOST
  /-- Type 9, code 6: MINOR, E; INSTANCE: Global bridge. -/
  | BRIDGE_UNDR
  /-- Type 9, code 7: MINOR, E; INSTANCE: Global bridge. -/
  | BRIDGE_BADCFG
  /-- Type 9, code 8: MINOR, E; INSTANCE: Global bridge. -/
  | BRIDGE_CONFLICT
  /-- Type 9, code 9: MINOR, E; INSTANCE: Domain. -/
  | DOM_BADRATE
  /-- Type 10, code 0: MAJOR, C; INSTANCE: —. -/
  | REFSEL_XO_LOST
  /-- Type 10, code 1: MAJOR, C; INSTANCE: —. -/
  | REFSEL_HOLDOVER
  /-- Type 10, code 2: MAJOR, E; INSTANCE: Reference. -/
  | REFSEL_SEL_LOST
  /-- Type 10, code 3: MINOR, C; INSTANCE: Reference. -/
  | REFSEL_SUSPECT
  /-- Type 10, code 4: MINOR, E; INSTANCE: Frame output. -/
  | REFSEL_FO_MISALIGN
  /-- Type 10, code 5: INFO, E; INSTANCE: Reference. -/
  | REFSEL_SWITCH
  /-- Type 10, code 6: INFO, E; INSTANCE: Reference; 0xFF for DPLL_HIST. -/
  | REFSEL_EVENT
  /-- Type 11, code 0: MAJOR, C; INSTANCE: —. -/
  | MAC_LINK_DOWN
  /-- Type 11, code 1: MINOR, E; INSTANCE: —. -/
  | MAC_RX_OVF
  /-- Type 11, code 2: MINOR, E; INSTANCE: —. -/
  | MAC_TSF_OVF
  /-- Type 11, code 3: INFO, E; INSTANCE: Queue. -/
  | MAC_LAUNCH_LATE
  /-- Type 12, code 0: MAJOR, E; INSTANCE: Global stream. -/
  | STREAM_RX_MISS
  /-- Type 12, code 1: MAJOR, E; INSTANCE: Global stream. -/
  | STREAM_TX_DROP
  /-- Type 12, code 2: MINOR, E; INSTANCE: Global stream. -/
  | STREAM_RX_LATE
  /-- Type 12, code 3: MINOR, E; INSTANCE: Global stream; + 0x100 for receive. -/
  | STREAM_BADCFG
  /-- Type 13, code 0: MAJOR, E, die 7; INSTANCE: —. -/
  | PTP_SLVERR
  /-- Type 13, code 1: MAJOR, C; INSTANCE: —. -/
  | PTP_HOLD
  /-- Type 13, code 2: MINOR, C, while STEP_REQ = 1; INSTANCE: —. -/
  | PTP_STEP_REQ
  /-- Type 13, code 3: MINOR, E; INSTANCE: —. -/
  | PTP_FSAT
  /-- Type 13, code 4: MINOR, E; INSTANCE: Output. -/
  | TSYNC_LATE
  /-- Type 13, code 5: MINOR, E; INSTANCE: Output. -/
  | TSYNC_BADCFG
  /-- Type 13, code 6: INFO, E; INSTANCE: —. -/
  | PTP_STEPPED
  /-- Type 13, code 7: INFO, E; INSTANCE: —. -/
  | PTP_STEP_CANC
  /-- Type 14, code 0: MAJOR, E; INSTANCE: Domain. -/
  | PAIR_DIVERGE
  /-- Type 14, code 1: MAJOR, E; INSTANCE: —. -/
  | PAIR_SNAPFAIL
  /-- Type 14, code 2: MAJOR, E; INSTANCE: —. -/
  | PAIR_CONFLICT
  /-- Type 14, code 3: MAJOR, E; INSTANCE: —. -/
  | PAIR_TAKEOVER
  /-- Type 14, code 4: MAJOR, C; INSTANCE: —. -/
  | RING_WRAP
  /-- Type 14, code 5: MAJOR, E; INSTANCE: —. -/
  | RING_ENUM
  /-- Type 14, code 6: MAJOR, C; INSTANCE: 0 primary, 1 reverse direction. -/
  | BIRAY_LINK_DOWN
  /-- Type 14, code 7: MINOR, E; INSTANCE: —. -/
  | PAIR_HMISS
  /-- Type 14, code 8: MINOR, E; INSTANCE: Target unit. -/
  | RING_TIMEOUT
  /-- Type 14, code 9: MINOR, E; INSTANCE: 0 primary, 1 reverse direction. -/
  | BIRAY_CRC
  /-- Type 15, code 0: MAJOR, C; INSTANCE: —. -/
  | HP_LINK_DOWN
  /-- Type 15, code 1: MINOR, E; INSTANCE: —. -/
  | HP_ERR
  /-- Type 15, code 2: MINOR, E; INSTANCE: Ring. -/
  | MBX_BADIDX
  /-- Type 15, code 3: MINOR, E; INSTANCE: Ring. -/
  | MBX_WRONGSIDE
  /-- Type 15, code 4: MINOR, E; INSTANCE: —. -/
  | QSPI_BADCMD
  /-- Type 15, code 5: INFO, E; INSTANCE: —. -/
  | HP_FLR
  /-- Type 15, code 6: INFO, E; INSTANCE: —. -/
  | QSPI_ABORT
  /-- Type 16, code 0: CRITICAL, C, while FAILED; INSTANCE: —. -/
  | AXO_TAIL_FAIL
  /-- Type 16, code 1: MAJOR, C, while RESET or LOADING; INSTANCE: —. -/
  | AXO_TAIL_DOWN
  /-- Type 16, code 2: INFO, E; INSTANCE: —. -/
  | AXO_TAIL_UP
  /-- Type 17, code 0: MINOR, C; INSTANCE: Global input. -/
  | GPIO_STUCK
  /-- Type 17, code 1: MINOR, C; INSTANCE: Global input. -/
  | GPIO_OVERRATE
  /-- Type 17, code 2: INFO, E; INSTANCE: Global input. -/
  | GPIO_CHANGE
deriving DecidableEq, Repr

/-- Block type of the block table (R456). -/
def FaultName.type : FaultName → Nat
  | .NEWT_PMEM_UE | .NEWT_ILLEGAL | .NEWT_DMEM_UE | .NEWT_ADDR | .NEWT_MISALIGN | .NEWT_PMEM_WERR
  | .NEWT_HALT_IGN | .NEWT_ECC_CE => 1
  | .TONGUE_CROAK_ERR | .TONGUE_POST_DIS | .TONGUE_CROAK_DROP => 2
  | .CHORUS_INCOMP | .CHORUS_GRPMISS | .CHORUS_PART_DISC | .CHORUS_BADXP | .CHORUS_XKICK | .CHORUS_SAT
  | .CHORUS_NAN => 3
  | .BANK_UE | .BANK_OFFLINE_ACC | .BANK_LF_FAIL | .BANK_TORN | .BANK_FUSE_ERR | .BANK_LF_REPAIR | .BANK_CE => 4
  | .FAB_LINK_FAIL | .FAB_LINK_UE | .FAB_PERM_DENY | .DMA_ERR | .FAB_DECODE | .FAB_TORN | .DMA_KICK_OVF
  | .FAB_LINK_CE => 5
  | .MDLL_LOL | .MDLL_REFLOSS | .MDLL_BYPASS | .MDLL_RELOCKED | .MDLL_MULTISEARCH => 6
  | .THERM_TRIP | .THERM_HOT | .VMON_UV | .VMON_OV | .THERM_WARN | .THERM_SENSOR => 7
  | .SAP_LOST | .SAP_FRAME | .SAP_GRP_SPLIT | .SAP_BADCFG | .SAP_SLIP | .SAP_UNDR => 8
  | .EPOCH_SKIP | .EPOCH_OVERRUN | .EPOCH_SPLIT | .DOM_RINGERR | .DOM_RINGMIS | .BRIDGE_LOST | .BRIDGE_UNDR
  | .BRIDGE_BADCFG | .BRIDGE_CONFLICT | .DOM_BADRATE => 9
  | .REFSEL_XO_LOST | .REFSEL_HOLDOVER | .REFSEL_SEL_LOST | .REFSEL_SUSPECT | .REFSEL_FO_MISALIGN
  | .REFSEL_SWITCH | .REFSEL_EVENT => 10
  | .MAC_LINK_DOWN | .MAC_RX_OVF | .MAC_TSF_OVF | .MAC_LAUNCH_LATE => 11
  | .STREAM_RX_MISS | .STREAM_TX_DROP | .STREAM_RX_LATE | .STREAM_BADCFG => 12
  | .PTP_SLVERR | .PTP_HOLD | .PTP_STEP_REQ | .PTP_FSAT | .TSYNC_LATE | .TSYNC_BADCFG | .PTP_STEPPED
  | .PTP_STEP_CANC => 13
  | .PAIR_DIVERGE | .PAIR_SNAPFAIL | .PAIR_CONFLICT | .PAIR_TAKEOVER | .RING_WRAP | .RING_ENUM
  | .BIRAY_LINK_DOWN | .PAIR_HMISS | .RING_TIMEOUT | .BIRAY_CRC => 14
  | .HP_LINK_DOWN | .HP_ERR | .MBX_BADIDX | .MBX_WRONGSIDE | .QSPI_BADCMD | .HP_FLR | .QSPI_ABORT => 15
  | .AXO_TAIL_FAIL | .AXO_TAIL_DOWN | .AXO_TAIL_UP => 16
  | .GPIO_STUCK | .GPIO_OVERRATE | .GPIO_CHANGE => 17

/-- Code within the block. -/
def FaultName.code : FaultName → Nat
  | .NEWT_PMEM_UE | .TONGUE_CROAK_ERR | .CHORUS_INCOMP | .BANK_UE | .FAB_LINK_FAIL | .MDLL_LOL | .THERM_TRIP
  | .SAP_LOST | .EPOCH_SKIP | .REFSEL_XO_LOST | .MAC_LINK_DOWN | .STREAM_RX_MISS | .PTP_SLVERR | .PAIR_DIVERGE
  | .HP_LINK_DOWN | .AXO_TAIL_FAIL | .GPIO_STUCK => 0
  | .NEWT_ILLEGAL | .TONGUE_POST_DIS | .CHORUS_GRPMISS | .BANK_OFFLINE_ACC | .FAB_LINK_UE | .MDLL_REFLOSS
  | .THERM_HOT | .SAP_FRAME | .EPOCH_OVERRUN | .REFSEL_HOLDOVER | .MAC_RX_OVF | .STREAM_TX_DROP | .PTP_HOLD
  | .PAIR_SNAPFAIL | .HP_ERR | .AXO_TAIL_DOWN | .GPIO_OVERRATE => 1
  | .NEWT_DMEM_UE | .TONGUE_CROAK_DROP | .CHORUS_PART_DISC | .BANK_LF_FAIL | .FAB_PERM_DENY | .MDLL_BYPASS
  | .VMON_UV | .SAP_GRP_SPLIT | .EPOCH_SPLIT | .REFSEL_SEL_LOST | .MAC_TSF_OVF | .STREAM_RX_LATE
  | .PTP_STEP_REQ | .PAIR_CONFLICT | .MBX_BADIDX | .AXO_TAIL_UP | .GPIO_CHANGE => 2
  | .NEWT_ADDR | .CHORUS_BADXP | .BANK_TORN | .DMA_ERR | .MDLL_RELOCKED | .VMON_OV | .SAP_BADCFG | .DOM_RINGERR
  | .REFSEL_SUSPECT | .MAC_LAUNCH_LATE | .STREAM_BADCFG | .PTP_FSAT | .PAIR_TAKEOVER | .MBX_WRONGSIDE => 3
  | .NEWT_MISALIGN | .CHORUS_XKICK | .BANK_FUSE_ERR | .FAB_DECODE | .MDLL_MULTISEARCH | .THERM_WARN | .SAP_SLIP
  | .DOM_RINGMIS | .REFSEL_FO_MISALIGN | .TSYNC_LATE | .RING_WRAP | .QSPI_BADCMD => 4
  | .NEWT_PMEM_WERR | .CHORUS_SAT | .BANK_LF_REPAIR | .FAB_TORN | .THERM_SENSOR | .SAP_UNDR | .BRIDGE_LOST
  | .REFSEL_SWITCH | .TSYNC_BADCFG | .RING_ENUM | .HP_FLR => 5
  | .NEWT_HALT_IGN | .CHORUS_NAN | .BANK_CE | .DMA_KICK_OVF | .BRIDGE_UNDR | .REFSEL_EVENT | .PTP_STEPPED
  | .BIRAY_LINK_DOWN | .QSPI_ABORT => 6
  | .NEWT_ECC_CE | .FAB_LINK_CE | .BRIDGE_BADCFG | .PTP_STEP_CANC | .PAIR_HMISS => 7
  | .BRIDGE_CONFLICT | .RING_TIMEOUT => 8
  | .DOM_BADRATE | .BIRAY_CRC => 9

/-- Severity: 0 INFO, 1 MINOR, 2 MAJOR, 3 CRITICAL. -/
def FaultName.severity : FaultName → Nat
  | .NEWT_PMEM_UE | .NEWT_ILLEGAL | .FAB_LINK_FAIL | .FAB_LINK_UE | .MDLL_LOL | .MDLL_REFLOSS | .THERM_TRIP
  | .AXO_TAIL_FAIL => 3
  | .NEWT_DMEM_UE | .NEWT_ADDR | .CHORUS_INCOMP | .CHORUS_GRPMISS | .CHORUS_PART_DISC | .BANK_UE
  | .BANK_OFFLINE_ACC | .BANK_LF_FAIL | .FAB_PERM_DENY | .DMA_ERR | .MDLL_BYPASS | .THERM_HOT | .VMON_UV
  | .VMON_OV | .SAP_LOST | .EPOCH_SKIP | .EPOCH_OVERRUN | .EPOCH_SPLIT | .DOM_RINGERR | .DOM_RINGMIS
  | .BRIDGE_LOST | .REFSEL_XO_LOST | .REFSEL_HOLDOVER | .REFSEL_SEL_LOST | .MAC_LINK_DOWN | .STREAM_RX_MISS
  | .STREAM_TX_DROP | .PTP_SLVERR | .PTP_HOLD | .PAIR_DIVERGE | .PAIR_SNAPFAIL | .PAIR_CONFLICT
  | .PAIR_TAKEOVER | .RING_WRAP | .RING_ENUM | .BIRAY_LINK_DOWN | .HP_LINK_DOWN | .AXO_TAIL_DOWN => 2
  | .NEWT_MISALIGN | .NEWT_PMEM_WERR | .TONGUE_CROAK_ERR | .TONGUE_POST_DIS | .CHORUS_BADXP | .CHORUS_XKICK
  | .BANK_TORN | .BANK_FUSE_ERR | .FAB_DECODE | .FAB_TORN | .DMA_KICK_OVF | .THERM_WARN | .THERM_SENSOR
  | .SAP_FRAME | .SAP_GRP_SPLIT | .SAP_BADCFG | .BRIDGE_UNDR | .BRIDGE_BADCFG | .BRIDGE_CONFLICT | .DOM_BADRATE
  | .REFSEL_SUSPECT | .REFSEL_FO_MISALIGN | .MAC_RX_OVF | .MAC_TSF_OVF | .STREAM_RX_LATE | .STREAM_BADCFG
  | .PTP_STEP_REQ | .PTP_FSAT | .TSYNC_LATE | .TSYNC_BADCFG | .PAIR_HMISS | .RING_TIMEOUT | .BIRAY_CRC
  | .HP_ERR | .MBX_BADIDX | .MBX_WRONGSIDE | .QSPI_BADCMD | .GPIO_STUCK | .GPIO_OVERRATE => 1
  | .NEWT_HALT_IGN | .NEWT_ECC_CE | .TONGUE_CROAK_DROP | .CHORUS_SAT | .CHORUS_NAN | .BANK_LF_REPAIR | .BANK_CE
  | .FAB_LINK_CE | .MDLL_RELOCKED | .MDLL_MULTISEARCH | .SAP_SLIP | .SAP_UNDR | .REFSEL_SWITCH | .REFSEL_EVENT
  | .MAC_LAUNCH_LATE | .PTP_STEPPED | .PTP_STEP_CANC | .HP_FLR | .QSPI_ABORT | .AXO_TAIL_UP | .GPIO_CHANGE => 0

/-- Whether the fault is a condition (kind C) or an event. -/
def FaultName.condition : FaultName → Bool
  | .NEWT_PMEM_UE | .NEWT_ILLEGAL | .FAB_LINK_FAIL | .MDLL_LOL | .MDLL_REFLOSS | .MDLL_BYPASS | .THERM_TRIP
  | .THERM_HOT | .VMON_UV | .VMON_OV | .THERM_WARN | .THERM_SENSOR | .SAP_LOST | .DOM_RINGERR | .DOM_RINGMIS
  | .BRIDGE_LOST | .REFSEL_XO_LOST | .REFSEL_HOLDOVER | .REFSEL_SUSPECT | .MAC_LINK_DOWN | .PTP_HOLD
  | .PTP_STEP_REQ | .RING_WRAP | .BIRAY_LINK_DOWN | .HP_LINK_DOWN | .AXO_TAIL_FAIL | .AXO_TAIL_DOWN
  | .GPIO_STUCK | .GPIO_OVERRATE => true
  | .NEWT_DMEM_UE | .NEWT_ADDR | .NEWT_MISALIGN | .NEWT_PMEM_WERR | .NEWT_HALT_IGN | .NEWT_ECC_CE
  | .TONGUE_CROAK_ERR | .TONGUE_POST_DIS | .TONGUE_CROAK_DROP | .CHORUS_INCOMP | .CHORUS_GRPMISS
  | .CHORUS_PART_DISC | .CHORUS_BADXP | .CHORUS_XKICK | .CHORUS_SAT | .CHORUS_NAN | .BANK_UE
  | .BANK_OFFLINE_ACC | .BANK_LF_FAIL | .BANK_TORN | .BANK_FUSE_ERR | .BANK_LF_REPAIR | .BANK_CE | .FAB_LINK_UE
  | .FAB_PERM_DENY | .DMA_ERR | .FAB_DECODE | .FAB_TORN | .DMA_KICK_OVF | .FAB_LINK_CE | .MDLL_RELOCKED
  | .MDLL_MULTISEARCH | .SAP_FRAME | .SAP_GRP_SPLIT | .SAP_BADCFG | .SAP_SLIP | .SAP_UNDR | .EPOCH_SKIP
  | .EPOCH_OVERRUN | .EPOCH_SPLIT | .BRIDGE_UNDR | .BRIDGE_BADCFG | .BRIDGE_CONFLICT | .DOM_BADRATE
  | .REFSEL_SEL_LOST | .REFSEL_FO_MISALIGN | .REFSEL_SWITCH | .REFSEL_EVENT | .MAC_RX_OVF | .MAC_TSF_OVF
  | .MAC_LAUNCH_LATE | .STREAM_RX_MISS | .STREAM_TX_DROP | .STREAM_RX_LATE | .STREAM_BADCFG | .PTP_SLVERR
  | .PTP_FSAT | .TSYNC_LATE | .TSYNC_BADCFG | .PTP_STEPPED | .PTP_STEP_CANC | .PAIR_DIVERGE | .PAIR_SNAPFAIL
  | .PAIR_CONFLICT | .PAIR_TAKEOVER | .RING_ENUM | .PAIR_HMISS | .RING_TIMEOUT | .BIRAY_CRC | .HP_ERR
  | .MBX_BADIDX | .MBX_WRONGSIDE | .QSPI_BADCMD | .HP_FLR | .QSPI_ABORT | .AXO_TAIL_UP | .GPIO_CHANGE => false

/-- The codes a block type has, as a mask of bits (R437). -/
def faultCodes : Nat → Nat
  | 1 => 0xff
  | 2 => 0x7
  | 3 => 0x7f
  | 4 => 0x7f
  | 5 => 0xff
  | 6 => 0x1f
  | 7 => 0x3f
  | 8 => 0x3f
  | 9 => 0x3ff
  | 10 => 0x7f
  | 11 => 0xf
  | 12 => 0xf
  | 13 => 0xff
  | 14 => 0x3ff
  | 15 => 0x7f
  | 16 => 0x7
  | 17 => 0x7
  | _ => 0

/-- All faults. -/
def FaultName.all : List FaultName := [
  .NEWT_PMEM_UE, .NEWT_ILLEGAL, .NEWT_DMEM_UE, .NEWT_ADDR, .NEWT_MISALIGN, .NEWT_PMEM_WERR, .NEWT_HALT_IGN,
  .NEWT_ECC_CE, .TONGUE_CROAK_ERR, .TONGUE_POST_DIS, .TONGUE_CROAK_DROP, .CHORUS_INCOMP, .CHORUS_GRPMISS,
  .CHORUS_PART_DISC, .CHORUS_BADXP, .CHORUS_XKICK, .CHORUS_SAT, .CHORUS_NAN, .BANK_UE, .BANK_OFFLINE_ACC,
  .BANK_LF_FAIL, .BANK_TORN, .BANK_FUSE_ERR, .BANK_LF_REPAIR, .BANK_CE, .FAB_LINK_FAIL, .FAB_LINK_UE,
  .FAB_PERM_DENY, .DMA_ERR, .FAB_DECODE, .FAB_TORN, .DMA_KICK_OVF, .FAB_LINK_CE, .MDLL_LOL, .MDLL_REFLOSS,
  .MDLL_BYPASS, .MDLL_RELOCKED, .MDLL_MULTISEARCH, .THERM_TRIP, .THERM_HOT, .VMON_UV, .VMON_OV, .THERM_WARN,
  .THERM_SENSOR, .SAP_LOST, .SAP_FRAME, .SAP_GRP_SPLIT, .SAP_BADCFG, .SAP_SLIP, .SAP_UNDR, .EPOCH_SKIP,
  .EPOCH_OVERRUN, .EPOCH_SPLIT, .DOM_RINGERR, .DOM_RINGMIS, .BRIDGE_LOST, .BRIDGE_UNDR, .BRIDGE_BADCFG,
  .BRIDGE_CONFLICT, .DOM_BADRATE, .REFSEL_XO_LOST, .REFSEL_HOLDOVER, .REFSEL_SEL_LOST, .REFSEL_SUSPECT,
  .REFSEL_FO_MISALIGN, .REFSEL_SWITCH, .REFSEL_EVENT, .MAC_LINK_DOWN, .MAC_RX_OVF, .MAC_TSF_OVF,
  .MAC_LAUNCH_LATE, .STREAM_RX_MISS, .STREAM_TX_DROP, .STREAM_RX_LATE, .STREAM_BADCFG, .PTP_SLVERR, .PTP_HOLD,
  .PTP_STEP_REQ, .PTP_FSAT, .TSYNC_LATE, .TSYNC_BADCFG, .PTP_STEPPED, .PTP_STEP_CANC, .PAIR_DIVERGE,
  .PAIR_SNAPFAIL, .PAIR_CONFLICT, .PAIR_TAKEOVER, .RING_WRAP, .RING_ENUM, .BIRAY_LINK_DOWN, .PAIR_HMISS,
  .RING_TIMEOUT, .BIRAY_CRC, .HP_LINK_DOWN, .HP_ERR, .MBX_BADIDX, .MBX_WRONGSIDE, .QSPI_BADCMD, .HP_FLR,
  .QSPI_ABORT, .AXO_TAIL_FAIL, .AXO_TAIL_DOWN, .AXO_TAIL_UP, .GPIO_STUCK, .GPIO_OVERRATE, .GPIO_CHANGE]

/-- The fault a block type has under a code. -/
def faultOf (ty code : Nat) : Option FaultName := FaultName.all.find? fun n => n.type == ty && n.code == code

/-- The block ID of a fault's set (R443). -/
def FaultName.set (n : FaultName) (b : Nat) : Nat := n.type * 64 + b

/-- One raise: a code and its INSTANCE. -/
structure Raise where
  name : FaultName
  inst : Nat
deriving DecidableEq, Repr

/-- The order of R441: highest severity, then lowest code, then lowest INSTANCE. -/
def Raise.before (a b : Raise) : Bool :=
  b.name.severity < a.name.severity ||
    (a.name.severity == b.name.severity && (a.name.code < b.name.code || (a.name.code == b.name.code && a.inst < b.inst)))

/-- The raise the record takes out of those of one cycle (R441). -/
def Raise.first : List Raise → Option Raise
  | [] => none
  | r :: t =>
    match Raise.first t with
    | none => some r
    | some q => if q.before r then some q else some r

/-- Occurrences of one code with one INSTANCE in one cycle form one raise (R438). -/
def Raise.join : List Raise → List Raise
  | [] => []
  | r :: t => if r ∈ t then Raise.join t else r :: Raise.join t

/-- The STICKY bits of some raises. -/
def Raise.bits : List Raise → Nat
  | [] => 0
  | r :: t => 2 ^ r.name.code ||| Raise.bits t

/-- Write the first-fault record of a set (R440, R441). -/
def State.recordFault (s : State) (d x : Nat) (r : Raise) (several : Bool) (stamp : Nat) : State :=
  (((((((s.put .FLT_FIRST_CODE d x r.name.code).put .FLT_FIRST_SEV d x r.name.severity).put .FLT_FIRST_INSTANCE d x
    r.inst).put .FLT_FIRST_VALID d x 1).put .FLT_FIRST_CONCURRENT d x (flag several)).put
    .FLT_FIRST_CLEARED_BEFORE_READ d x 0).put .FLT_FIRST_STAMP d x stamp).put .FLT_READT d x 0

/-- The set notes what the record takes of this cycle's raises, for a write of VALID in the same cycle (R440). -/
def State.noteRaises (s : State) (d x : Nat) (r : Raise) (several : Bool) (stamp : Nat) : State :=
  (((s.put .FLT_LASTC d x r.name.code).put .FLT_LASTI d x r.inst).put .FLT_LASTN d x (flag several)).put .FLT_LASTT d x stamp

/-- The record is written from the raises of the cycle of a write that frees it (R440). -/
def State.recordLast (s : State) (d x : Nat) : State :=
  match faultOf (x / 64) (s.get .FLT_LASTC d x) with
  | none => s
  | some n => s.recordFault d x ⟨n, s.get .FLT_LASTI d x⟩ (s.on .FLT_LASTN d x) (s.get .FLT_LASTT d x)

/-- A set enters L1: TIRQ, and T1 starts (R444). -/
def State.enterL1 (s : State) (d x : Nat) : State :=
  ((s.put .FLT_STATUS_LEVEL d x 1).put .FLT_STATUS_TIRQ d x 1).put .FLT_T0 d x (s.capture d)

/-- The raises of one cycle, detected at `stamp`, at the set of block instance `b` of die `d` (R438, R440, R441, R444).
All are faults of one block type. -/
def State.raisesAt (s : State) (stamp d b : Nat) (l : List Raise) : State :=
  match Raise.first (Raise.join l) with
  | none => s
  | some r =>
    let x := r.name.set b
    let bits := Raise.bits l
    let n := (Raise.join l).length
    let s1 := ((s.put .FLT_STICKY d x (s.get .FLT_STICKY d x ||| bits)).incSat .FLT_CNT d x n).noteRaises d x r (n > 1) stamp
    let s2 := s1.when (s1.get .FLT_FIRST_VALID d x = 0) fun t => t.recordFault d x r (n > 1) stamp
    let s3 := s2.when (s2.get .FLT_IEN d x &&& bits ≠ 0) fun t => t.put .FLT_STATUS_NOTE d x 1
    s3.when (s3.get .FLT_STATUS_LEVEL d x = 0 ∧ s3.get .FLT_ESC_EN d x = 1 ∧
        s3.get .FLT_ESC_MINSEV d x ≤ r.name.severity) fun t => t.enterL1 d x

/-- The raises of this cycle. -/
def State.raises (s : State) (d b : Nat) (l : List Raise) : State := s.raisesAt (s.capture d) d b l

/-- One event raised (R438). -/
def State.fault (s : State) (n : FaultName) (d b inst : Nat) : State := s.raises d b [⟨n, inst⟩]

/-- The instance of a condition that begins to hold is noted, and LIVE follows (R438). -/
def State.condMark (s : State) (d b : Nat) (r : Raise) : State :=
  let c : Cond := ⟨d, r.name.set b, r.name.code, r.inst⟩
  let t := if c ∈ s.conds then s else { s with conds := s.conds ++ [c] }
  t.put .FLT_LIVE d (r.name.set b) (t.get .FLT_LIVE d (r.name.set b) ||| 2 ^ r.name.code)

/-- Whether a condition's LIVE bit is set. -/
def State.live (s : State) (d b : Nat) (n : FaultName) : Bool := bitAt (s.get .FLT_LIVE d (n.set b)) n.code == 1

/-- The transitions of LIVE from 0 to 1 among conditions that begin together: one raise for each code. -/
def risingConds (s : State) (d b : Nat) : List Raise → List Raise
  | [] => []
  | r :: t =>
    if s.live d b r.name || t.any (fun q => q.name == r.name) then risingConds s d b t
    else r :: risingConds s d b t

/-- Events and beginnings of conditions that a block detects in one cycle. -/
def State.signal (s : State) (d b : Nat) (events conds : List Raise) : State :=
  (s.each conds fun r t => t.condMark d b r).raises d b (events ++ risingConds s d b conds)

/-- One condition begins to hold. -/
def State.condBegin (s : State) (n : FaultName) (d b inst : Nat) : State :=
  if s.live d b n then s.condMark d b ⟨n, inst⟩
  else (s.condMark d b ⟨n, inst⟩).fault n d b inst

/-- One condition ceases to hold for an instance: LIVE falls with the last, and a record not yet read notes it (R442). -/
def State.condEnd (s : State) (n : FaultName) (d b inst : Nat) : State :=
  let x := n.set b
  let t := { s with conds := s.conds.erase ⟨d, x, n.code, inst⟩ }
  if t.conds.any (fun c => c.die == d && c.set == x && c.code == n.code) then t
  else
    (t.put .FLT_LIVE d x (clearBit (t.get .FLT_LIVE d x) n.code)).when
      (s.live d b n = true ∧ s.get .FLT_FIRST_VALID d x = 1 ∧ s.get .FLT_FIRST_CODE d x = n.code ∧
        (s.get .FLT_READT d x = 0 ∨ s.get .FLT_READT d x = s.capture d + 1)) fun u =>
      u.put .FLT_FIRST_CLEARED_BEFORE_READ d x 1

/-- A raise that its block signals together with the others of its cycle (R441). -/
def State.owe (s : State) (n : FaultName) (d b inst : Nat) : State := { s with due := s.due ++ [⟨d, n.set b, n.code, inst⟩] }

/-- The same of a condition that begins to hold. -/
def State.oweCond (s : State) (n : FaultName) (d b inst : Nat) : State :=
  let t := s.condMark d b ⟨n, inst⟩
  if s.live d b n then t else t.owe n d b inst

/-- The raise of an entry. -/
def Cond.raise (c : Cond) : Option Raise := (faultOf (c.set / 64) c.code).map fun n => ⟨n, c.inst⟩

/-- What a block has met in this cycle is signalled, its set named by one of its faults (R438, R441). -/
def State.settle (s : State) (n : FaultName) (d b : Nat) : State :=
  let mine (c : Cond) : Bool := c.die == d && c.set == n.set b
  { s with due := s.due.filter fun c => !mine c }.raises d b ((s.due.filter mine).filterMap Cond.raise)

/-- A condition follows a level. -/
def State.condSet (s : State) (n : FaultName) (d b inst : Nat) (holds : Bool) : State :=
  if holds then s.condBegin n d b inst else s.condEnd n d b inst

/-- A read of FLT_FIRST (R442). -/
def State.firstRead (s : State) (d x : Nat) : State :=
  s.when (s.get .FLT_READT d x = 0) fun t => t.put .FLT_READT d x (s.capture d + 1)

/-- FAULT_N: asserted while any set of any die is at L3 (R447). -/
def State.faultN (s : State) : Bool := !s.pinsFloat && s.cells.any fun c => c.1.fld == .FLT_STATUS_LEVEL && c.2 == 3

/-- The highest escalation level of the package, the ESC field of a HEALTH frame (R447). -/
def State.highestLevel (s : State) : Nat :=
  s.cells.foldl (fun m c => if c.1.fld = .FLT_STATUS_LEVEL then max m c.2 else m) 0

/-- A set returns to L0 (R444): TIRQ and GIRQ clear, NOTE stays. No acknowledgement is left to the host (R448). -/
def State.toL0 (s : State) (d x : Nat) : State :=
  (((s.put .FLT_STATUS_LEVEL d x 0).put .FLT_STATUS_TIRQ d x 0).put .FLT_STATUS_GIRQ d x 0).put .CSF_HOLDACK d x 0

/-- An acknowledgement returns a set to L0, or with an escalating raise of the same cycle leaves it at L1 with T1 restarted (R446). -/
def State.ackDown (s : State) (d x : Nat) (raise : Bool) : State :=
  if raise then (s.toL0 d x).enterL1 d x else s.toL0 d x

/-- FLT_STATUS.ACK (R445, R446): `raise` and `expiry` say that an escalating raise, and the end of the level's timer, fall in the same
cycle. -/
def State.ackStatus (s : State) (d x : Nat) (raise expiry : Bool) : State :=
  match s.get .FLT_STATUS_LEVEL d x with
  | 0 => s
  | 1 => s.ackDown d x raise
  | 2 => ((s.put .FLT_STATUS_TIRQ d x 0).put .FLT_STATUS_LATEACK d x 1).when (expiry = true) fun t => t.put .FLT_STATUS_LEVEL d x 3
  | _ => s.put .FLT_STATUS_TIRQ d x 0

/-- FLT_ESC.ACK2 (R445, R446). -/
def State.ackL2 (s : State) (d x : Nat) (raise : Bool) : State :=
  s.when (s.get .FLT_STATUS_LEVEL d x = 2) fun t => t.ackDown d x raise

/-- FLT_ESC.CLR3 (R445). THERM_TRIP is latched until PORST_N (R451). -/
def State.clearL3 (s : State) (d x : Nat) : State := s.when (s.get .FLT_STATUS_LEVEL d x = 3) fun t => t.toL0 d x

/-- Entry to L2: GIRQ, and T2 starts (R444). -/
def State.enterL2 (s : State) (d x : Nat) : State :=
  ((s.put .FLT_STATUS_LEVEL d x 2).put .FLT_STATUS_GIRQ d x 1).put .FLT_T0 d x (s.capture d)

/-- The grace time of a level in nanoseconds; a field of 0 acts as 1 (R436). -/
def State.grace1 (s : State) (d x : Nat) : Nat := max 1 (s.get .FLT_GRACE_T1 d x) * 100000
def State.grace2 (s : State) (d x : Nat) : Nat := max 1 (s.get .FLT_GRACE_T2 d x) * 100000

/-- The interrupt line of a block to the tail (R444). -/
def State.tailLine (s : State) (d x : Nat) : Bool := s.on .FLT_STATUS_TIRQ d x || s.on .FLT_STATUS_NOTE d x

end Sys2Proof.Machine
end

