-- ==== Sys2Proof/Machine/Epoch.lean ====
section
/-! DEFINITION. Epochs and media time (R35 to R65): the epoch controller on die 6, commits, snapshots. -/

namespace Sys2Proof.Machine

/-- Block size B of a domain (R41). -/
def State.bsize (s : State) (D : Nat) : Nat := 8 * 2 ^ s.get .EPOCH_CFG_BSIZE 6 D

/-- DOMCNT of a domain, as die 6 counts it (R39). -/
def State.domcnt (s : State) (D : Nat) : Nat := s.get .TB_DOMCNT 6 D

/-- Which of the four block buffers a boundary uses (R44). -/
def State.slotOf (s : State) (D b : Nat) : Nat := D * 4 + b / s.bsize D % 4

/-- EPOCH_STATUS.RUN and its copies in TB_STATUS of every die (R63). -/
def State.setRun (s : State) (D v : Nat) : State :=
  (s.put .EPOCH_STATUS_RUN 6 D v).each allDies fun d t =>
    t.put .TB_STATUS_RUN d 0 (setBits (t.get .TB_STATUS_RUN d 0) D 1 v)

/-- RUN falls: slots after the last epoch have no epoch assigned (R45). -/
def State.haltEpochs (s : State) (D : Nat) : State :=
  ((s.setRun D 0).each [0, 1, 2, 3] fun i t =>
    t.when (t.get .EPOCH_CUR 6 D + 1 < t.get .EP_ASGN 6 (D * 4 + i)) fun u => u.put .EP_ASGN 6 (D * 4 + i) 0).put
      .EP_OWED 6 D 0

/-- A die link is UP (R221). -/
def State.linkUp (s : State) (d l : Nat) : Bool := s.get .LINK_STATUS_STATE d l == 2

/-- Every die link of the package is UP (R308). -/
def State.linksUp (s : State) : Bool :=
  allDies.all fun d => (List.range (linkCount d)).all fun l => (linkPeer d l).isNone || s.linkUp d l

/-- Boundaries passed over when the epoch of boundary `b` starts (R49). -/
def State.skippedBy (s : State) (D b : Nat) : Nat :=
  if s.get .EP_CURV 6 D = 1 then (b - s.get .EPOCH_CUR 6 D) / s.bsize D - 1 else 0

/-- Skipped boundaries are counted and raise a MAJOR fault (R49, R51, R52). -/
def State.countSkips (s : State) (D n : Nat) : State :=
  s.when (0 < n) fun t =>
    ((t.inc .EPOCH_SKIP_CNT 6 D n).put .EPOCH_STATUS_SKIPPED 6 D 1).fault .EPOCH_SKIP 6 0 D

/-- The broadcast of an epoch start (R43). -/
def State.broadcastStart (s : State) (D b : Nat) (commit : Bool) : State :=
  s.each allDies fun d t => t.send (.epochStart d D b commit)

/-- Every die's core clock comes from its MDLL (R308): MDLL_STATUS.OUT = 1. -/
def State.clocksUp (s : State) : Bool := allDies.all fun d => s.get .MDLL_STATUS_OUT d 0 == 1

/-- A domain is ring-wide: its DOM_CFG.RING is 1 (R264). -/
def State.ringWide (s : State) (D : Nat) : Bool := s.on .DOM_CFG_RING 6 D

/-- A ring-wide domain is out of its ring-wide epochs: its count is ahead of the ring, or its RATE or block size differs from the
head's (R40, R264), or the unit is oversize (R360). -/
def State.ringOut (s : State) (D : Nat) : Bool :=
  s.ringWide D && (s.on .RING_AHEAD 6 D || s.on .RING_MIS 6 D || s.on .RING_OVER 6 0)

/-- The unit takes part in the ring's frames of a domain. -/
def State.ringPart (s : State) (D : Nat) : Bool := s.ringWide D && !s.ringOut D

/-- The controller may start an epoch of the domain: a boundary waits, no earlier epoch is undrained, the domain is
enabled, every MDLL drives its die and every die link is UP (R47, R49, R308). The epochs of a ring-wide domain are the ring's, so a
unit that takes no part in them starts none (R40, R264): DEDUCED (log entry 105). -/
def State.mayDispatch (s : State) (D : Nat) : Bool :=
  s.on .EP_OWED 6 D && s.on .EPOCH_CFG_EN 6 D && (s.get .EP_CURV 6 D == 0 || s.on .EPOCH_STATUS_DRAINED 6 D) &&
    s.clocksUp && s.linksUp && !s.ringOut D

/-- A commit takes effect at the epoch of boundary `b` (R54). -/
def State.commitDue (s : State) (D b : Nat) : Bool :=
  s.on .EPOCH_CSTAT_COMMIT_PEND 6 D && s.get .COMMIT_T 6 D ≤ b

/-- A write of EN = 1 (R45): the first boundary strictly after the write, or a pending stop is withdrawn. -/
def State.enableEpochs (s : State) (D : Nat) : State :=
  s.when (s.get .EPOCH_CFG_EN 6 D = 0) fun s =>
    (s.put .EPOCH_CFG_EN 6 D 1).when (s.get .EPOCH_STATUS_RUN 6 D = 0) fun t =>
      (t.put .EP_OWED 6 D 0).put .EP_CURV 6 D 0

/-- A write of EN = 0 (R45): the epoch in progress runs to drain; with none in progress RUN falls at once. DEDUCED (log entry 10). -/
def State.stopEpochs (s : State) (D : Nat) : State :=
  s.when (s.get .EPOCH_CFG_EN 6 D = 1) fun s =>
    (s.put .EPOCH_CFG_EN 6 D 0).when (s.get .EPOCH_STATUS_RUN 6 D = 0 ∨ s.get .EPOCH_STATUS_DRAINED 6 D = 1) fun t =>
      t.haltEpochs D

/-- EPOCH_ENABLE (R45). -/
def execEpochEnable (D : Nat) (s : State) : Result := .next <| s.when (s.dieClocked 6 = true) fun s => s.enableEpochs D

/-- EPOCH_STOP (R45). -/
def execEpochStop (D : Nat) (s : State) : Result := .next <| s.when (s.dieClocked 6 = true) fun s => s.stopEpochs D

/-- Target not a multiple of B (R55). -/
def State.badAlign (s : State) (D T : Nat) : Bool := T % s.bsize D != 0

/-- Target earlier than the boundary after next (R55). -/
def State.tooLate (s : State) (D T : Nat) : Bool := T < (s.domcnt D / s.bsize D + 2) * s.bsize D

/-- The checks of R55 for an arm at the domain's own COMMIT_AT: each condition that holds sets its bit. -/
def State.refuseCommit (s : State) (D T : Nat) : State :=
  ((s.when (s.badAlign D T = true) fun t => t.put .EPOCH_CSTAT_BADALIGN 6 D 1).when (s.tooLate D T = true) fun t =>
    t.put .EPOCH_CSTAT_TOOLATE 6 D 1).when (s.get .EPOCH_CSTAT_COMMIT_PEND 6 D = 1) fun t =>
      t.put .EPOCH_CSTAT_REFUSED 6 D 1

/-- A commit at `T` is refused under R55. -/
def State.commitRefused (s : State) (D T : Nat) : Bool :=
  s.badAlign D T || s.tooLate D T || s.on .EPOCH_CSTAT_COMMIT_PEND 6 D

/-- A commit becomes pending; `own` says this unit armed it (R54, R58). -/
def State.commitPend (s : State) (D T own : Nat) : State :=
  (((s.put .EPOCH_CSTAT_COMMIT_PEND 6 D 1).put .COMMIT_T 6 D T).put .COMMIT_ACKS 6 D 0).put .COMMIT_OWN 6 D own

/-- A withdrawal is still in time: DOMCNT D < T − B (R56). -/
def State.cancelInTime (s : State) (D T : Nat) : Bool := s.domcnt D + s.bsize D < T

/-- A snapshot arm is refused under any condition of R55 (R61, R64). -/
def State.snapRefused (s : State) (D T : Nat) : Bool :=
  s.badAlign D T || s.tooLate D T || s.on .EPOCH_CSTAT_SNAP_PEND 6 D

/-- A refused snapshot arm (R64). -/
def State.refuseSnap (s : State) (D : Nat) : State := s.put .EPOCH_CSTAT_SNAP_BAD 6 D 1

/-- A snapshot becomes pending (R61). -/
def State.snapPend (s : State) (D T : Nat) : State := (s.put .EPOCH_CSTAT_SNAP_PEND 6 D 1).put .SNAP_T 6 D T

/-- Every unit of the ring that the commit went to has acknowledged it (R58). -/
def State.commitAcked (s : State) (D : Nat) : Bool :=
  s.get .RING_PRESENT 6 0 &&& (s.get .COMMIT_ACKS 6 D ||| 2 ^ s.get .RING_STATUS_ADDR 6 0) == s.get .RING_PRESENT 6 0

/-- COMMIT_ACK_DEADLINE (R58): DOMCNT D reaches T − B without every acknowledgement. -/
def execCommitAckDeadline (D : Nat) (s : State) : Result :=
  .next <| s.when (s.get .EPOCH_CSTAT_COMMIT_PEND 6 D = 1 ∧ s.get .COMMIT_OWN 6 D = 1 ∧ s.ringPart D = true ∧
      s.commitAcked D = false ∧ s.get .COMMIT_T 6 D ≤ s.domcnt D + s.bsize D) fun t =>
    (t.put .EPOCH_CSTAT_SPLIT 6 D 1).fault .EPOCH_SPLIT 6 0 D

end Sys2Proof.Machine
end

