-- ==== Sys2Proof/Machine/Ring.lean ====
section
/-! DEFINITION. Routes over the die links (R14), Biray frames as a unit originates them (R355 to R357), and requests to other
units (R365). -/

namespace Sys2Proof.Machine

/-! ### Routes (R14) -/

/-- The link of die `a` on the fixed route to die `b`, `a` not `b`. -/
def nextLink (a b : Nat) : Nat :=
  if a = 6 then (if b = 7 ∨ b < 3 then 0 else 1)
  else if a = 7 then (if b = 6 ∨ b < 3 then 0 else 1)
  else if b = 6 then 0
  else if b = 7 then 1
  else if b % 3 < a % 3 then 0
  else if a % 3 < b % 3 then 1
  else if b < a then 2
  else 3

/-- The links a route crosses, each with the die that sends on it. -/
def routeFrom : Nat → Nat → Nat → List (Nat × Nat)
  | 0, _, _ => []
  | n + 1, a, b =>
    if a = b then []
    else
      match linkPeer a (nextLink a b) with
      | none => []
      | some (c, _) => (a, nextLink a b) :: routeFrom n c b

/-- The route from die `a` to die `b`. -/
def route (a b : Nat) : List (Nat × Nat) := routeFrom 5 a b

/-- Every link of a route is UP. -/
def State.routeUp (s : State) (a b : Nat) : Bool := (route a b).all fun x => s.linkUp x.1 x.2

/-- The port of die `a`'s crossbar towards another die (R208). -/
def linkEgress (a b : Nat) : Nat := if a < 6 then 6 + nextLink a b else 4 + nextLink a b

/-- A message of master `p` of a die to another die has been granted at the link's egress: the round moves on (R207, R211). -/
def State.msgGranted (s : State) (d p e : Nat) : State := if d = e then s else s.put .FAB_RR d (linkEgress d e) (p + 1)

/-! ### Frames (R355, R356) -/

/-- Frame types. -/
abbrev frKeepalive : Nat := 0
abbrev frDelay : Nat := 1
abbrev frEnum : Nat := 2
abbrev frJoin : Nat := 3
abbrev frAssign : Nat := 4
abbrev frTime : Nat := 5
abbrev frHealth : Nat := 6
abbrev frCommit : Nat := 7
abbrev frPartial : Nat := 8
abbrev frMreq : Nat := 9
abbrev frMrsp : Nat := 10
abbrev frMirror : Nat := 11

/-- Header word `i` (1 to 7) of a frame, and words `i` and `i` + 1 as 64 bits. -/
def frWord (f : BFrame) (i : Nat) : Nat := f.w.getD (i - 1) 0
def frLong (f : BFrame) (i : Nat) : Nat := frWord f i + frWord f (i + 1) * 2 ^ 32

/-- The low and high words of a 64-bit field. -/
def words64 (v : Nat) : List Nat := [v % 2 ^ 32, v / 2 ^ 32 % 2 ^ 32]

/-- Payload bytes padded to a multiple of 16. -/
def pad16 (l : List Nat) : List Nat := l ++ List.replicate ((16 - l.length % 16) % 16) 0

/-- Own ring address; also 15 without one. -/
def State.ringAddr (s : State) : Nat := s.get .RING_STATUS_ADDR 6 0

/-- The unit holds a ring address, which may be 15 (R25, R360). -/
def State.addressed (s : State) : Bool := s.on .RING_HASADDR 6 0

/-- The unit takes a ring address. -/
def State.takeAddr (s : State) (a : Nat) : State :=
  ((s.put .RING_STATUS_ADDR 6 0 a).put .RING_HASADDR 6 0 1).put .RING_OVER 6 0 0

/-- A port is UP. -/
def State.portUp (s : State) (d : Nat) : Bool := s.get .BIRAY_STATUS_STATE d 0 == 2

/-- A port is UP and its lanes have their clock. -/
def State.portLive (s : State) (d : Nat) : Bool := s.portUp d && s.serdesRuns d

/-- A frame is sent by a port that is UP; otherwise it is lost. Frames leave in the order in which commands issue them: egress has no
backlog in the model, DESIGN CHOICE (log entry 120). -/
def State.portSend (s : State) (d ty : Nat) (f : BFrame) : State :=
  s.when (s.portLive d = true) fun t => t.send (.biray d ty f)

/-- A frame bound east: by the east port, or turned onto the west port's reverse direction at a wrap (R357, R363). -/
def State.birayEast (s : State) (ty : Nat) (f : BFrame) : State :=
  if s.on .BIRAY_STATUS_WRAP 6 0 then s.when (s.routeUp 6 7 = true) fun t => t.portSend 7 ty { f with wrap := 1 }
  else s.portSend 6 ty f

/-- A frame this unit originates (R357); an oversize unit originates none but KEEPALIVE and DELAY (R360). -/
def State.birayOwn (s : State) (ty dst : Nat) (w payload : List Nat) : State :=
  s.when (s.get .RING_OVER 6 0 = 0) fun t => t.birayEast ty ⟨t.ringAddr, dst, 0, 0, w, pad16 payload⟩

/-- A frame that die `d` originates reaches the east port over the die links (R357). -/
def State.birayFrom (s : State) (d ty dst : Nat) (w payload : List Nat) : State :=
  s.when (s.routeUp d 6 = true) fun t => t.birayOwn ty dst w payload

/-- The TAG of the next request: the next in turn that no outstanding request has, so that an MRSP that comes after its timeout finds no
request (R365). -/
def State.freeTag (s : State) : Nat :=
  (((List.range 256).map fun k => (s.get .RING_TAGN 6 0 + k) % 256).find? fun g => s.remote.all fun r => r.tag != g).getD 0

/-- A request to another unit leaves as an MREQ, and its answer is awaited (R365); `dom` is the domain of a post, 3 for none. -/
def State.remoteReq (s : State) (d port unit tdie loc : Nat) (write : Bool) (len data dom : Nat) : State :=
  let tag := s.freeTag
  let t := { s.put .RING_TAGN 6 0 (tag + 1) with
    remote := s.remote ++ [RemoteAcc.mk tag unit d port (unit * 2 ^ 36 + tdie * 2 ^ 32 + loc) write dom] }
  t.birayFrom d frMreq unit ([tag + flag write * 256 + ((len + 15) / 16 - 1) * 512, loc, unit * 16 + tdie])
    (if write then natBytes len data else [])

end Sys2Proof.Machine
end

