-- ==== Sys2Proof/Machine/Tongue.lean ====
section
/-! DEFINITION. The tongue (R133 to R157): slots, posts, queues, the dispatch choice, flows, the croak log. Slot cells use
clutch × 256 + slot as their instance, queue cells clutch × 32 + queue, domain cells clutch × 3 + domain. -/

namespace Sys2Proof.Machine

/-- Instance of a slot's cells. -/
def slotIx (c k : Nat) : Nat := c * 256 + k

/-- Slot states (R134). -/
abbrev slotDisabled : Nat := 0
abbrev slotWait : Nat := 1
abbrev slotQueued : Nat := 2
abbrev slotService : Nat := 3

/-- Newt states (R99). -/
abbrev newtIdle : Nat := 0
abbrev newtRun : Nat := 1
abbrev newtDraining : Nat := 2
abbrev newtHalted : Nat := 3
abbrev newtFaulted : Nat := 4
abbrev newtParked : Nat := 5

/-! ### Slot states and idleness -/

/-- The tongue is idle in a domain: no slot of it queued or in service (R149). -/
def State.idleIn (s : State) (d c D : Nat) : Bool :=
  s.get .TDOM_STATUS_QUEUED d (c * 3 + D) == 0 && s.get .TDOM_STATUS_INSVC d (c * 3 + D) == 0

/-- The IDLE bit follows; at a transition to idle the drain time is recorded (R155). -/
def State.refreshIdle (s : State) (d c D : Nat) : State :=
  let y := c * 3 + D
  let x := min (s.capture d - s.get .DOM_T0 d y) 0xFFFFFFFF
  if s.idleIn d c D then
    s.when (s.get .TDOM_STATUS_IDLE d y = 0) fun t =>
      ((t.put .TDOM_STATUS_IDLE d y 1).put .DOM_DRAIN_LAST d y x).raiseTo .DOM_DRAIN_MAX d y x
  else s.put .TDOM_STATUS_IDLE d y 0

/-- A slot changes state; the counts of its domain and the tongue follow. -/
def State.slotMove (s : State) (d c k new : Nat) : State :=
  let x := slotIx c k
  let old := s.get .SLOT_STATE_STATE d x
  let D := s.get .SLOT_CTRL_DOMAIN d x
  let y := c * 3 + D
  let s1 := s.put .SLOT_STATE_STATE d x new
  let s2 := s1.when (old = slotQueued) fun t => t.dec .TDOM_STATUS_QUEUED d y 1
  let s3 := s2.when (old = slotService) fun t => (t.dec .TDOM_STATUS_INSVC d y 1).dec .TONGUE_STATUS_INSVC d c 1
  let s4 := s3.when (new = slotQueued) fun t => t.inc .TDOM_STATUS_QUEUED d y 1
  let s5 := s4.when (new = slotService) fun t => (t.inc .TDOM_STATUS_INSVC d y 1).inc .TONGUE_STATUS_INSVC d c 1
  s5.refreshIdle d c D

/-- The readiness condition (R137). -/
def State.slotReady (s : State) (d x : Nat) : Bool :=
  let m := s.get .SLOT_MASK d x
  let f := s.get .SLOT_FLAGS d x &&& m
  m != 0 && (if s.on .SLOT_CTRL_MODE d x then f != 0 else f == m)

/-- An entry of the same tongue that entered later. -/
def QEntry.ahead (e q : QEntry) : Bool := e.die == q.die && e.clutch == q.clutch && e.ticket < q.ticket

/-- An entry returns to its place: before the first entry of its tongue that entered later. -/
def insertByTicket (e : QEntry) : List QEntry → List QEntry
  | [] => [e]
  | q :: t => if e.ahead q then e :: q :: t else q :: insertByTicket e t

/-- Queue of a slot. -/
def State.queueIx (s : State) (d c k : Nat) : Nat := c * 32 + s.get .SLOT_CTRL_PRIO d (slotIx c k)

/-- A queue grows by an entry: depth and high-water mark (R155). -/
def State.queueGrow (s : State) (d c k : Nat) : State :=
  let q := s.queueIx d c k
  let s1 := (s.inc .Q_DEPTH d q 1).inc .TONGUE_STATUS_QUEUED d c 1
  s1.raiseTo .Q_HWM d q (s1.get .Q_DEPTH d q)

/-- A queue loses an entry. -/
def State.queueShrink (s : State) (d c k : Nat) : State :=
  (s.dec .Q_DEPTH d (s.queueIx d c k) 1).dec .TONGUE_STATUS_QUEUED d c 1

/-- A slot enters the tail of its queue, `later` cycles from now (R139, R144). -/
def State.enqueue (s : State) (d c k later : Nat) : State :=
  let e : QEntry := ⟨d, c, k, s.get .TONGUE_TICKET d c, s.cycles d + later, false⟩
  let s1 := { s with queue := s.queue ++ [e] }
  ((s1.inc .TONGUE_TICKET d c 1).queueGrow d c k).slotMove d c k slotQueued

/-- A WAIT slot whose condition holds is queued at the end of the next cycle (R134, R137, R139). -/
def State.evalSlot (s : State) (d c k : Nat) : State :=
  s.when (s.get .SLOT_STATE_STATE d (slotIx c k) = slotWait ∧ s.slotReady d (slotIx c k) = true) fun t => t.enqueue d c k 1

/-! ### Drain withdrawals -/

/-- A die that has reported drain of a domain and is no longer drained, for a post of die `src`, withdraws its report (R150). -/
def State.withdrawDrain (s : State) (src d D : Nat) : State :=
  s.when (s.get .DRAIN_SENT d D = 1) fun t =>
    (t.put .DRAIN_SENT d D 0).send (.drainReport d D (t.get .EP_SEEN d D - 1) true src)

/-- After an accepted post of die `src`: withdraw if a tongue of the die is no longer idle in the domain. -/
def State.checkUndrained (s : State) (src d c D : Nat) : State :=
  if s.idleIn d c D then s else s.withdrawDrain src d D

/-! ### Posts -/

/-- A post is immediate: its source domain is the slot's and it comes from this package (R141). A post of another unit is a write of
TONGUE_POST, which carries no domain. -/
def State.postImmediate (s : State) (d x srcDom : Nat) : Bool :=
  srcDom != 3 && srcDom == s.get .SLOT_CTRL_DOMAIN d x

/-- Bits posted again to a slot whose claim is outstanding stay set for the next dispatch (R138). -/
def State.postedAgain (s : State) (d c k flags : Nat) : State :=
  { s with claims := s.claims.map fun q =>
      if q.entry.die = d ∧ q.entry.clutch = c ∧ q.entry.slot = k ∧ q.abandoned = false then
        { q with again := q.again ||| flags } else q }

/-- A post of die `src` accepted by a tongue (R139, R141, R142, R150). -/
def State.acceptPost (s : State) (src d c k flags srcDom : Nat) : State :=
  let x := slotIx c k
  let f := flags % 2 ^ 31
  if s.get .SLOT_STATE_STATE d x = slotDisabled then
    (s.incSat .TONGUE_STATUS_POSTDIS_CNT d c 1).fault .TONGUE_POST_DIS d c k
  else if s.postImmediate d x srcDom then
    (((s.put .SLOT_FLAGS d x (s.get .SLOT_FLAGS d x ||| f)).postedAgain d c k f).evalSlot d c k).checkUndrained src d c
      (s.get .SLOT_CTRL_DOMAIN d x)
  else s.put .SLOT_PEND d x (s.get .SLOT_PEND d x ||| f)

/-! ### Flows -/

/-- The home die of a flow (R146). -/
def flowHome (f : Nat) : Nat := f % 6

/-- The die replica's busy bit of a flow (R148). One copy per die stands for the four tongues' equal registers. -/
def State.flowSeen (s : State) (d f : Nat) : Bool := bitAt (s.get .TONGUE_FLOWMAP d (f / 32)) (f % 32) == 1

/-- The home's busy bit changes, and the change goes to every replica (R148). -/
def State.setFlowBusy (s : State) (f : Nat) (busy : Bool) : State :=
  (s.put .FLOW_BUSY (flowHome f) f (flag busy)).each geckoDies fun d t => t.send (.flowUpdate d f busy)

/-- A task of a clutch gives its flow back (R148): at once at home, else by a release. -/
def State.giveFlow (s : State) (d c f : Nat) : State :=
  if f = 0 then s
  else if flowHome f = d then s.setFlowBusy f false
  else (s.msgGranted d (4 + c) (flowHome f)).send (.flowRelease f d c)

/-! ### The croak log -/

/-- The tongue's entries waiting in the writer's buffer. -/
def State.croakOf (s : State) (d c : Nat) : List CroakEntry := s.croak.filter fun e => e.die == d && e.clutch == c

/-- An entry is taken into the log (R152): its SEQ is used even when the buffer is full. -/
def State.croakTake (s : State) (d c w0 w1 w2 : Nat) : State :=
  if s.get .CROAK_CFG_EN d c = 0 ∨ s.get .CROAK_CFG_FROZEN d c = 1 ∨ s.get .CROAK_FREEZING d c = 1 then s
  else
    let q := s.get .CROAK_SEQ d c
    let s1 := (s.inc .CROAK_SEQ d c 1).put .CROAK_WPTR d c (q + 1)
    if 8 ≤ (s.croakOf d c).length then
      (s1.incSat .CROAK_DROP d c 1).fault .TONGUE_CROAK_DROP d c Config.noInstance
    else { s1 with croak := s1.croak ++ [⟨d, c, q, w0, w1, w2⟩] }

/-- An event of a queued entry is logged (R153). -/
def State.croakLog (s : State) (e : QEntry) (newt reason skipped time wait : Nat) : State :=
  let x := slotIx e.clutch e.slot
  let p := s.get .SLOT_CTRL_PRIO e.die x
  s.croakTake e.die e.clutch (time % 2 ^ 32)
    (e.slot + newt * 2 ^ 8 + p * 2 ^ 11 + reason * 2 ^ 16 + s.get .Q_DEPTH e.die (e.clutch * 32 + p) * 2 ^ 20 +
      s.get .SLOT_CTRL_DOMAIN e.die x * 2 ^ 29)
    (s.get .SLOT_CTRL_FLOW e.die x + skipped * 2 ^ 10 + min wait 0xFFFF * 2 ^ 16)

/-! ### The dispatch choice (R145) -/

/-- Newt `i` of a clutch is idle and not reserved. -/
def State.newtOffered (s : State) (d c i : Nat) : Bool :=
  s.get .NEWT_STATUS_STATE d (c * 8 + i) == newtIdle &&
    !s.claims.any fun q => q.entry.die == d && q.entry.clutch == c && q.newt == i && !q.abandoned

/-- The idle newts of a clutch. -/
def State.idleNewts (s : State) (d c : Nat) : List Nat := (List.range 8).filter fun i => s.newtOffered d c i

/-- The first four entries of a queue. -/
def State.window (s : State) (d c q : Nat) : List QEntry :=
  (s.queue.filter fun e => e.die == d && e.clutch == c && s.get .SLOT_CTRL_PRIO d (slotIx c e.slot) == q).take 4

/-- An entry's flow is busy in the die replica. -/
def State.flowBlocked (s : State) (e : QEntry) : Bool :=
  let f := s.get .SLOT_CTRL_FLOW e.die (slotIx e.clutch e.slot)
  f != 0 && s.flowSeen e.die f

/-- The newt that last ran an entry's task is parked, halted or faulted. -/
def State.stranded (s : State) (e : QEntry) : Bool :=
  let st := s.get .NEWT_STATUS_STATE e.die (e.clutch * 8 + s.get .SLOT_STATE_LASTNEWT e.die (slotIx e.clutch e.slot))
  st == newtParked || st == newtHalted || st == newtFaulted

/-- Cycles an entry has waited. -/
def State.waited (s : State) (e : QEntry) : Nat := s.cycles e.die - e.enq

/-- An entry is eligible for newt `i` (R145). -/
def State.eligible (s : State) (e : QEntry) (i : Nat) : Bool :=
  let x := slotIx e.clutch e.slot
  s.get .SLOT_STATE_AFFV e.die x == 0 || s.get .SLOT_STATE_LASTNEWT e.die x == i ||
    s.get .TONGUE_CFG_AFFWIN e.die e.clutch < s.waited e || s.stranded e

/-- An entry's last newt is valid and idle. -/
def State.lastIdle (s : State) (e : QEntry) : Bool :=
  let x := slotIx e.clutch e.slot
  s.on .SLOT_STATE_AFFV e.die x && s.newtOffered e.die e.clutch (s.get .SLOT_STATE_LASTNEWT e.die x)

/-- The next idle newt in round-robin order after the newt granted last. -/
def State.nextNewt (s : State) (d c : Nat) : Option Nat :=
  ((List.range 8).map fun k => (s.get .TONGUE_RR d c + 1 + k) % 8).find? fun i => s.newtOffered d c i

/-- The candidates of a queue's window. -/
def State.candidates (s : State) (d c q : Nat) : List QEntry :=
  (s.window d c q).filter fun e => !s.flowBlocked e && (s.idleNewts d c).any fun i => s.eligible e i

/-- The choice of the decision: queues from 31 down. `none` where no queue has a candidate. -/
def State.choose (s : State) (d c : Nat) : Nat → Option (Nat × QEntry)
  | 0 => none
  | q + 1 =>
    match s.candidates d c q with
    | [] => s.choose d c q
    | e :: t => some (q, ((e :: t).find? fun x => s.lastIdle x).getD e)

/-- The newt the chosen entry goes to. -/
def State.chosenNewt (s : State) (e : QEntry) : Nat :=
  if s.lastIdle e then s.get .SLOT_STATE_LASTNEWT e.die (slotIx e.clutch e.slot)
  else (s.nextNewt e.die e.clutch).getD 0

/-- REASON of a dispatch (R153); a stranded entry is logged as such even if it timed out too. -/
def State.reasonOf (s : State) (e : QEntry) (i : Nat) : Nat :=
  let x := slotIx e.clutch e.slot
  if s.get .SLOT_STATE_AFFV e.die x = 0 then 1
  else if s.get .SLOT_STATE_LASTNEWT e.die x = i then 0
  else if s.stranded e then 3
  else 2

/-- Entries passed over for their flow in a window, in window order; ahead of `stop` where given (R152). -/
def State.passedOver (s : State) (d c q : Nat) (stop : Option QEntry) : List QEntry :=
  let w := s.window d c q
  (match stop with
   | none => w
   | some e => w.takeWhile fun x => x != e).filter fun x => s.flowBlocked x

/-- Log each entry passed over in a window for the first time, and note it (R152); SKIPPED counts those passed over ahead of it
(R153). -/
def State.logPassed (s : State) (l : List QEntry) : State :=
  s.each l.zipIdx fun (x : QEntry × Nat) t =>
    let e := x.1
    let u := { t with queue := t.queue.map fun q => if q = e then { q with passed := true } else q }
    u.when (e.passed = false ∧ t.get .CROAK_CFG_SKIPLOG e.die e.clutch = 1) fun v =>
      v.croakLog e 0 5 x.2 (t.capture e.die) (t.waited e)

/-- Log what the queues above `q` passed over, highest first, and the dispatching queue's entries ahead of the choice. DESIGN
CHOICE (log entry 100): a queue whose claim is refused or still out counts as the one that dispatches, and these entries come
before the entry of the dispatch or refusal; DEPTH counts the chosen entry, which has not left yet (R153). -/
def State.logDecision (s : State) (d c : Nat) (choice : Option (Nat × QEntry)) : State :=
  match choice with
  | none => s.each ((List.range 32).map fun k => 31 - k) fun q t => t.logPassed (s.passedOver d c q none)
  | some (q, e) =>
    (s.each ((List.range (31 - q)).map fun k => 31 - k) fun r t => t.logPassed (s.passedOver d c r none)).logPassed
      (s.passedOver d c q (some e))

/-! ### The grant (R89) -/

/-- The register cells a grant and a newt reset clear: DBG_ cells of the newt. -/
def isNewtReg (n : Nat) (l : Loc) : Bool :=
  match l.fld with
  | .DBG_V => l.inst / 256 == n
  | .DBG_ACC => l.inst / 64 == n
  | .DBG_S => l.inst / 16 == n
  | .DBG_A | .DBG_B | .DBG_L => l.inst / 12 == n
  | .DBG_M | .DBG_P => l.inst / 4 == n
  | _ => false

/-- Every v, acc, s, a, b, l, m and p register takes its reset value: 0, and 0xFF for p0 (R89). -/
def State.clearRegs (s : State) (d n : Nat) : State :=
  { s with
    cells := s.cells.filter fun c => !(c.1.die == d && isNewtReg n c.1)
    boards := s.boards.filter fun b => !(b.die == d && b.newt == n) }

/-- The task word in the layout of NEWT_TASK. -/
def taskWord (slot dom copy newt flow prio : Nat) : Nat :=
  slot + dom * 2 ^ 8 + copy * 2 ^ 10 + newt * 2 ^ 11 + flow * 2 ^ 16 + prio * 2 ^ 26

/-- A task starts on a newt (R89, R90): cleared registers, the entry registers, the entry address. -/
def State.startTask (s : State) (d c i k flags : Nat) : State :=
  let x := slotIx c k
  let n := c * 8 + i
  let D := s.get .SLOT_CTRL_DOMAIN d x
  let f := s.get .SLOT_CTRL_FLOW d x
  let p := s.get .SLOT_CTRL_PRIO d x
  let copy := s.get .TB_GEN d D % 2
  let s1 := (((s.clearRegs d n).put .DBG_A d (n * 12) (s.get .SLOT_ARG d x)).put .DBG_S d (n * 16 + 13)
    (s.get .TB_DOMCNT d D)).put .DBG_S d (n * 16 + 14) flags
  let s2 := (((((((s1.put .DBG_S d (n * 16 + 15) (taskWord k D copy n f p)).put .NEWT_TASK_SLOT d n k).put
    .NEWT_TASK_DOMAIN d n D).put .NEWT_TASK_COPY d n copy).put .NEWT_TASK_NEWT d n n).put .NEWT_TASK_FLOW d n f).put
    .NEWT_TASK_PRIO d n p).put .NEWT_NEXT d n (s.get .SLOT_ENTRY d x)
  let s3 := (((s2.put .NEWT_STATUS_LOOPDEPTH d n 0).put .NEWT_REPT d n 0).put .NEWT_SKIPBP d n 0).put .NEWT_STEP d n 0
  let s4 := (s3.put .NEWT_STATUS_STATE d n newtRun).put .NEWT_STATUS_CFGLOCK d n 1
  s4.when (s4.get .NEWT_STATUS_HALT_PEND d n = 1 ∧ s4.get .NEWT_CFG_DBGEN d n = 1) fun t =>
    (((t.put .NEWT_STATUS_STATE d n newtHalted).put .NEWT_STATUS_HALT_PEND d n 0).put .NEWT_PC d n (t.get .NEWT_NEXT d n)).put
      .NEWT_HALTT d n (t.cycles d)

/-- The counters of a dispatch (R155). -/
def State.countDispatch (s : State) (e : QEntry) (i reason wait : Nat) : State :=
  let d := e.die
  let q := s.queueIx d e.clutch e.slot
  let s1 := ((s.raiseTo .Q_WAIT_MAX d q (min wait 0xFFFFFFFF)).inc .Q_WAIT_SUM d q wait).inc .Q_DISP d q 1
  if reason = 0 then s1.inc .NAFF_HIT d (e.clutch * 8 + i) 1
  else if reason = 1 then s1
  else s1.inc .NAFF_MISS d (e.clutch * 8 + i) 1

/-- The grant of an entry that has left its queue (R138, R145, R89): flags `taken` at the decision, of which those
posted since (`again`) stay set. -/
def State.grant (s : State) (e : QEntry) (i taken again reason skipped time wait : Nat) : State :=
  let d := e.die
  let x := slotIx e.clutch e.slot
  let cleared := taken - (taken &&& again)
  let f := s.get .SLOT_FLAGS d x
  let s1 := s.put .SLOT_FLAGS d x (f - (f &&& cleared))
  let s2 := (((s1.put .SLOT_STATE_LASTNEWT d x i).put .SLOT_STATE_AFFV d x 1).put .TONGUE_RR d e.clutch i).countDispatch e i
    reason wait
  let s3 := (s2.slotMove d e.clutch e.slot slotService).startTask d e.clutch i e.slot taken
  s3.croakLog e i reason skipped time wait

/-- An entry leaves its queue. A reserved entry counts in no queue (R147), yet as a slot of state QUEUED in DOM_STATUS.QUEUED:
DEDUCED (log entry 101). -/
def State.unqueue (s : State) (e : QEntry) : State :=
  ({ s with queue := s.queue.filter fun q => !(q.die == e.die && q.clutch == e.clutch && q.slot == e.slot) }).queueShrink
    e.die e.clutch e.slot

/-- An entry returns to the place it held (R147). -/
def State.requeue (s : State) (e : QEntry) : State :=
  ({ s with queue := insertByTicket e s.queue }).queueGrow e.die e.clutch e.slot

/-! ### Ties of claims (R146) -/

/-- How far a tongue stands in a home's round after the one granted last; `z` is its package clutch. DESIGN CHOICE (log entry 102):
one round for each home, in the order of package clutches. -/
def State.claimTurn (s : State) (h z : Nat) : Nat := (z + 24 - s.get .FLOW_RR h 0) % 24

/-- A tongue claims the flow of a home in this cycle: a claim of it is on its way, or it is one of the home's own and has chosen
an entry of the flow. -/
def State.claiming (s : State) (h f z : Nat) : Bool :=
  if z / 4 = h then
    !(s.idleNewts h (z % 4)).isEmpty &&
      (match s.choose h (z % 4) 32 with
       | some q => s.get .SLOT_CTRL_FLOW h (slotIx (z % 4) q.2.slot) == f
       | none => false)
  else s.sent.any fun m =>
    match m with
    | .flowClaim d c _ g => g == f && d * 4 + c == z
    | _ => false

/-- The home grants the claim of tongue `z`: the flow is free and no rival of this cycle comes before it in the round. -/
def State.winsClaim (s : State) (f z : Nat) (rivals : List Nat) : Bool :=
  let h := flowHome f
  s.get .FLOW_BUSY h f == 0 &&
    rivals.all fun r => r == z || !s.claiming h f r || s.claimTurn h z ≤ s.claimTurn h r

/-- The claim of tongue `z` is granted. -/
def State.grantFlow (s : State) (f z : Nat) : State := (s.put .FLOW_RR (flowHome f) 0 (z + 1)).setFlowBusy f true

/-- DISPATCH_DECISION (R145, R146, R147, R152, R89); `rivals` are the tongues that claim in the same cycle (R146). -/
def execDispatchDecision (d c : Nat) (rivals : List Nat) (s : State) : Result :=
  .next <|
    if s.dieClocked d = false ∨ s.idleNewts d c = [] then s
    else
      let choice := s.choose d c 32
      let s1 := s.logDecision d c choice
      match choice with
      | none => s1
      | some (q, e) =>
        let x := slotIx c e.slot
        let i := s.chosenNewt e
        let r := s.reasonOf e i
        let k := (s.passedOver d c q (some e)).length
        let f := s.get .SLOT_CTRL_FLOW d x
        let taken := s.get .SLOT_FLAGS d x &&& s.get .SLOT_MASK d x
        if f = 0 then (s1.unqueue e).grant e i taken 0 r k (s.capture d) (s.waited e)
        else if flowHome f = d then
          if s.winsClaim f (d * 4 + c) rivals = false then s1.croakLog e i 4 k (s.capture d) (s.waited e)
          else ((s1.unqueue e).grantFlow f (d * 4 + c)).grant e i taken 0 r k (s.capture d) (s.waited e)
        else
          let s2 := s1.unqueue e
          let claim : Claim := ⟨e, f, i, taken, 0, s.capture d, s.waited e, r, k, false⟩
          (({ s2 with claims := s2.claims ++ [claim] }).msgGranted d (4 + c) (flowHome f)).send (.flowClaim d c e.slot f)

/-- The time at which the acceptance of a post is back at the die that issued it, in each domain it counts in (R150). -/
def State.acceptBack (s : State) (src d srcDom also : Nat) : State :=
  s.each [0, 1, 2] fun D t =>
    t.when (src ≠ d ∧ src < 8 ∧ (srcDom = D ∨ bitAt also D = 1)) fun u =>
      u.raiseTo .POST_ACC src D (u.capture d + 12 * hops d src)

/-- A post reaches its tongue. -/
def State.postTaken (s : State) (m : Msg) : State :=
  match m with
  | .post src _ d c k flags srcDom also => (s.acceptBack src d srcDom also).acceptPost src d c k flags srcDom
  | _ => s

/-- A message is a post of these fields. -/
def Msg.isPost (m : Msg) (src p d c k flags srcDom : Nat) : Bool :=
  match m with
  | .post src' p' d' c' k' flags' srcDom' _ =>
    src' == src && p' == p && d' == d && c' == c && k' == k && flags' == flags && srcDom' == srcDom
  | _ => false

/-- POST_ARRIVAL (R139, R141, R142, R150). -/
def execPostArrival (src p d c k flags srcDom : Nat) (s : State) : Result :=
  .next <| s.receive (fun m => Msg.isPost m src p d c k flags srcDom) fun m t => t.postTaken m

/-- FLOW_CLAIM (R146, R147): the home grants in order of arrival; `rivals` are the tongues that claim in the same cycle; a losing
claim is refused. -/
def execFlowClaim (d c k f : Nat) (rivals : List Nat) (s : State) : Result :=
  .next <| s.receive (fun m => m == .flowClaim d c k f) fun _ t =>
    if s.winsClaim f (d * 4 + c) rivals then (t.grantFlow f (d * 4 + c)).send (.claimResponse d c k f true)
    else t.send (.claimResponse d c k f false)

/-- The claim an answer belongs to: the oldest of the slot for the flow. -/
def State.claimOf (s : State) (d c k f : Nat) : Option Claim :=
  s.claims.find? fun q => q.entry.die == d && q.entry.clutch == c && q.entry.slot == k && q.flow == f

/-- The answer to a claim takes effect (R147, R513). -/
def State.claimEnds (s : State) (q : Claim) (granted : Bool) : State :=
  let s1 := { s with claims := s.claims.erase q }
  if q.abandoned then (if granted then s1.giveFlow q.entry.die q.entry.clutch q.flow else s1)
  else if granted then s1.grant q.entry q.newt q.flags q.again q.reason q.skipped q.time q.wait
  else (s1.requeue q.entry).croakLog q.entry q.newt 4 q.skipped q.time q.wait

/-- CLAIM_RESPONSE (R147, R513). -/
def execClaimResponse (d c k f : Nat) (granted : Bool) (s : State) : Result :=
  .next <| s.receive (fun m => m == .claimResponse d c k f granted) fun _ t =>
    match t.claimOf d c k f with
    | none => t
    | some q => t.claimEnds q granted

/-- FLOW_RELEASE (R148). -/
def execFlowRelease (f d c : Nat) (s : State) : Result :=
  .next <| s.receive (fun m => m == .flowRelease f d c) fun _ t => t.setFlowBusy f false

/-- FLOW_REPLICA_UPDATE (R148). -/
def execFlowReplicaUpdate (d f : Nat) (busy : Bool) (s : State) : Result :=
  .next <| s.receive (fun m => m == .flowUpdate d f busy) fun _ t => t.put .TONGUE_FLOWMAP d (f / 32)
    (setBits (t.get .TONGUE_FLOWMAP d (f / 32)) (f % 32) 1 (flag busy))

/-! ### Abandoned claims (R513) -/

/-- The claims that satisfy a test end: an enabled slot returns to its queue, a disabled one becomes DISABLED. -/
def State.abandonClaims (s : State) (test : Claim → Bool) : State :=
  let hit := s.claims.filter fun q => test q && !q.abandoned
  let s1 := { s with claims := s.claims.map fun q => if test q then { q with abandoned := true } else q }
  s1.each hit fun q t =>
    let e := q.entry
    if t.get .SLOT_CTRL_EN e.die (slotIx e.clutch e.slot) = 1 then t.requeue e
    else t.slotMove e.die e.clutch e.slot slotDisabled

/-- A newt leaves IDLE: the claims that reserve it end. -/
def State.newtLeavesIdle (s : State) (d n : Nat) : State :=
  s.abandonClaims fun q => q.entry.die == d && q.entry.clutch * 8 + q.newt == n

/-! ### Slots, the log, the counters -/

/-- SLOT_ENABLE (R134, R135). -/
def execSlotEnable (d c k mode prio dom flow : Nat) (s : State) : Result :=
  let x := slotIx c k
  .next <| s.when (s.dieClocked d = true) fun s =>
    if dom = 3 ∨ s.get .SLOT_CTRL_EN d x = 1 then s
    else if s.get .SLOT_STATE_STATE d x = slotDisabled then
      ((((((((s.put .SLOT_CTRL_EN d x 1).put .SLOT_CTRL_MODE d x mode).put .SLOT_CTRL_PRIO d x prio).put .SLOT_CTRL_DOMAIN d x
        dom).put .SLOT_CTRL_FLOW d x flow).put .SLOT_FLAGS d x 0).put .SLOT_PEND d x 0).put .SLOT_STATE_AFFV d x 0).slotMove
          d c k slotWait
    else s.put .SLOT_CTRL_EN d x 1

/-- SLOT_DISABLE (R134, R135, R513). -/
def execSlotDisable (d c k : Nat) (s : State) : Result :=
  let x := slotIx c k
  let s1 := s.put .SLOT_CTRL_EN d x 0
  .next <| s.when (s.dieClocked d = true) fun s =>
    match s.get .SLOT_STATE_STATE d x with
    | 1 => s1.slotMove d c k slotDisabled
    | 2 =>
      match s.queue.find? fun e => e.die == d && e.clutch == c && e.slot == k with
      | some e => (s1.unqueue e).slotMove d c k slotDisabled
      | none => s1.abandonClaims fun q => q.entry.die == d && q.entry.clutch == c && q.entry.slot == k
    | _ => s1

/-- SLOT_CLR_FLAGS (R156). -/
def execSlotClrFlags (d c k : Nat) (s : State) : Result :=
  .next <| s.when (s.dieClocked d = true ∧ s.get .SLOT_CTRL_EN d (slotIx c k) = 0) fun t => t.put .SLOT_FLAGS d (slotIx c k) 0

/-- SLOT_CLR_PEND (R156). -/
def execSlotClrPend (d c k : Nat) (s : State) : Result :=
  .next <| s.when (s.dieClocked d = true ∧ s.get .SLOT_CTRL_EN d (slotIx c k) = 0) fun t => t.put .SLOT_PEND d (slotIx c k) 0

/-- SLOT_CLR_AFF (R156). -/
def execSlotClrAff (d c k : Nat) (s : State) : Result :=
  .next <| s.when (s.dieClocked d = true ∧ s.get .SLOT_CTRL_EN d (slotIx c k) = 0) fun t => t.put .SLOT_STATE_AFFV d (slotIx c k) 0

/-- TONGUE_CLR_CNT (R155). -/
def execTongueClrCnt (d c : Nat) (s : State) : Result :=
  .next <| s.when (s.dieClocked d = true) fun s =>
    ((s.each (List.range 8) fun i t => (t.put .NAFF_HIT d (c * 8 + i) 0).put .NAFF_MISS d (c * 8 + i) 0).each
      (List.range 32) fun q t => (t.put .Q_WAIT_SUM d (c * 32 + q) 0).put .Q_DISP d (c * 32 + q) 0).each [0, 1, 2]
        fun D t => t.put .DOM_LATE d (c * 3 + D) 0

/-- The log of a tongue begins to freeze (R154). -/
def State.freezeCroak (s : State) (d c : Nat) : State :=
  s.when (s.get .CROAK_CFG_FROZEN d c = 0) fun t => t.put .CROAK_FREEZING d c 1

/-- LATE_MARKER_RECEIPT (R151, R154). -/
def execLateMarkerReceipt (d D : Nat) (s : State) : Result :=
  .next <| s.receive (fun m => m == .lateMarker d D) fun _ s => s.each (if d < 6 then [0, 1, 2, 3] else []) fun c t =>
    (t.when (t.idleIn d c D = false) fun u => u.inc .DOM_LATE d (c * 3 + D) 1).when
      (t.get .CROAK_CFG_FREEZE_LATE d c = 1) fun u => u.freezeCroak d c

/-- CROAK_FREEZE (R154). -/
def execCroakFreeze (d c : Nat) (s : State) : Result := .next <| s.when (s.dieClocked d = true) fun s => s.freezeCroak d c

/-- CROAK_FROZEN (R154): the buffer has been written out. -/
def execCroakFrozen (d c : Nat) (s : State) : Result :=
  .next <| s.when (s.dieClocked d = true ∧ s.get .CROAK_FREEZING d c = 1 ∧ s.croakOf d c = []) fun t =>
    (t.put .CROAK_CFG_FROZEN d c 1).put .CROAK_FREEZING d c 0

/-- CROAK_RESUME (R154). -/
def execCroakResume (d c : Nat) (s : State) : Result := .next <| s.when (s.dieClocked d = true) fun s => s.put .CROAK_CFG_FROZEN d c 0

/-- A tongue at an epoch start of a domain (R140, R155): flags, deferred posts, drain time, lateness counters. Slots that become
ready at once enter their queues in ascending slot number: DESIGN CHOICE (log entry 103). -/
def State.tongueEpochStart (s : State) (d c D : Nat) : State :=
  let y := c * 3 + D
  let mine := (List.range 256).filter fun k =>
    s.get .SLOT_CTRL_EN d (slotIx c k) == 1 && s.get .SLOT_CTRL_DOMAIN d (slotIx c k) == D
  let merged := mine.any fun k => s.get .SLOT_PEND d (slotIx c k) != 0
  let s1 := ((s.put .DOM_T0 d y (s.capture d)).put .DOM_DRAIN_LAST d y 0).when (merged = true) fun t =>
    t.inc .DOM_MERGED d y 1
  s1.each mine fun k t =>
    let x := slotIx c k
    ((t.put .SLOT_FLAGS d x (2 ^ 31 ||| t.get .SLOT_PEND d x)).put .SLOT_PEND d x 0).evalSlot d c k

end Sys2Proof.Machine
end

