-- ==== Sys2Proof/Machine/BankRead.lean ====
section
/-! DEFINITION. SRAM banks, reads (R185 to R188, R192, R193, R195, R198, R204, R205): check bits, what a check leaves, the locks of alias
operations. `mem` holds the data as stored; `errs` holds, for a 64-bit check word whose stored bits are no valid code word, which of its
72 bits differ from the corrected word. -/

namespace Sys2Proof.Machine

/-! ### Check words -/

/-- The error mask of the check word at an 8-aligned address. -/
def Errs.find (k : Nat) : List (Nat × Nat) → Nat
  | [] => 0
  | (a, m) :: t => if a = k then m else Errs.find k t

/-- The list without a check word. -/
def Errs.erase (k : Nat) : List (Nat × Nat) → List (Nat × Nat)
  | [] => []
  | (a, m) :: t => if a = k then Errs.erase k t else (a, m) :: Errs.erase k t

/-- The list with a check word's mask set, in the order of addresses. -/
def Errs.insert (k m : Nat) : List (Nat × Nat) → List (Nat × Nat)
  | [] => [(k, m)]
  | (a, x) :: t => if a = k then (k, m) :: t else if k < a then (k, m) :: (a, x) :: t else (a, x) :: Errs.insert k m t

/-- Error mask of the check word that holds an address. -/
def State.errMask (s : State) (d a : Nat) : Nat := Errs.find (memKey d (a / 8 * 8)) s.errs

/-- Valid check bits are written with the word. -/
def State.clearErr (s : State) (d a : Nat) : State := { s with errs := Errs.erase (memKey d (a / 8 * 8)) s.errs }

/-- The error mask of a check word is set. -/
def State.setErr (s : State) (d a m : Nat) : State :=
  if m = 0 then s.clearErr d a else { s with errs := Errs.insert (memKey d (a / 8 * 8)) m s.errs }

/-- Number of set bits among the low `n`. -/
def weight : Nat → Nat → Nat
  | 0, _ => 0
  | n + 1, v => v % 2 + weight n (v / 2)

/-- Position of the lowest set bit among the low `n`. -/
def lowestBit : Nat → Nat → Nat
  | 0, _ => 0
  | n + 1, v => if v % 2 = 1 then 0 else 1 + lowestBit n (v / 2)

/-- What a check answers: the data, 0 no error, 1 corrected, 2 uncorrectable, and the bit corrected (127 for 2). -/
structure Check where
  data : Nat
  kind : Nat
  bit : Nat
deriving DecidableEq, Repr

/-- The code of R186 on stored data and an error mask: single errors corrected, double errors detected; three or more
bits are open. -/
def decodeCheck (stored mask : Nat) : Check :=
  match weight 72 mask with
  | 0 => ⟨stored, 0, 0⟩
  | 1 => ⟨stored ^^^ mask % 2 ^ 64, 1, lowestBit 72 mask⟩
  | 2 => ⟨stored, 2, 127⟩
  | _ =>
    match Config.multiBit stored mask % 3 with
    | 0 => ⟨stored, 2, 127⟩
    | 1 => ⟨Config.multiBit mask stored % 2 ^ 64, 1, Config.multiBit stored mask / 3 % 72⟩
    | _ => ⟨stored, 0, 0⟩

/-- Bank index of a die-local SRAM address (R185). -/
def bankOf (a : Nat) : Nat := a / 0x20000

/-- WADDR: bits [24:4] of the address of the word (R205). -/
def waddr (a : Nat) : Nat := bitsAt a 4 21

/-- The fault register set of the bank controller. -/
abbrev bankSet : Nat := 256

/-- A check of the half at `a` uses inverted check bits (R204). -/
def State.bankInjects (s : State) (d a : Nat) : Bool :=
  s.get .FLT_INJ_COUNT d bankSet != 0 && s.get .BANK_INJ_SEL_BANK d 0 == bankOf a &&
    bitAt (s.get .BANK_INJ_SEL_HALF d 0) (a / 8 % 2) == 1

/-- Write BANK_ECCLOG under its rules: the first error, or an uncorrectable one over a corrected one (R205). -/
def State.eccLog (s : State) (d a port merge inj : Nat) (c : Check) : State :=
  s.when (s.get .BANK_ECCLOG_VALID d 0 = 0 ∨ (c.kind = 2 ∧ s.get .BANK_ECCLOG_UE d 0 = 0)) fun t =>
    (((((((t.put .BANK_ECCLOG_WADDR d 0 (waddr a)).put .BANK_ECCLOG_HALF d 0 (a / 8)).put .BANK_ECCLOG_VALID d 0 1).put
      .BANK_ECCLOG_BIT d 0 c.bit).put .BANK_ECCLOG_UE d 0 (flag (c.kind == 2))).put .BANK_ECCLOG_PORT d 0 port).put
        .BANK_ECCLOG_MERGE d 0 merge).put .BANK_ECCLOG_INJ d 0 inj

/-- Count and log what a check found (R187, R188); the fault is raised with the access. -/
def State.countCheck (s : State) (d a port merge inj : Nat) (c : Check) : State :=
  match c.kind with
  | 0 => s
  | 1 => (s.incSat .BANK_CE_CE_CNT d (bankOf a) 1).eccLog d a port merge inj c
  | _ => ((s.incSat .BANK_CE_UE_CNT d (bankOf a) 1).put .BANK_STAT_UE d (bankOf a) 1).eccLog d a port merge inj c

/-- The raise of a check. -/
def Check.raises (c : Check) (bank : Nat) : List Raise :=
  match c.kind with
  | 0 => []
  | 1 => [⟨.BANK_CE, bank⟩]
  | _ => [⟨.BANK_UE, bank⟩]

/-- The check of the half at `a` as it stands. -/
def State.bankCheck (s : State) (d a : Nat) : Check :=
  decodeCheck (s.load d a 8)
    (s.errMask d a ^^^ if s.bankInjects d a then s.get .BANK_INJ_SEL_MASK d 0 * 2 ^ 64 else 0)

/-- What a check leaves: an injection counted, the error counted and logged. -/
def State.afterCheck (s : State) (d a port merge : Nat) : State :=
  let inj := s.bankInjects d a
  (s.when (inj = true) fun t => t.dec .FLT_INJ_COUNT d bankSet 1).countCheck d a port merge (flag inj) (s.bankCheck d a)

/-! ### One access to a word -/

/-- A read answers its 128 bits, whether any half was uncorrectable, and the raises it makes. -/
structure WordRead where
  st : State
  data : Nat
  ue : Bool
  faults : List Raise
deriving DecidableEq, Repr

/-- Read halves of the word at `w`: bit 0 of `halves` the low one, bit 1 the high one. -/
def State.readHalves (s : State) (d w port halves merge : Nat) : WordRead :=
  let lo := halves % 2 == 1
  let hi := halves / 2 % 2 == 1
  let c0 := if lo then s.bankCheck d w else ⟨0, 0, 0⟩
  let s1 := if lo then s.afterCheck d w port merge else s
  let c1 := if hi then s1.bankCheck d (w + 8) else ⟨0, 0, 0⟩
  let s2 := if hi then s1.afterCheck d (w + 8) port merge else s1
  ⟨s2, c0.data + c1.data * 2 ^ 64, c0.kind == 2 || c1.kind == 2, c0.raises (bankOf w) ++ c1.raises (bankOf w)⟩

/-- A bank is offline (R198). -/
def State.offline (s : State) (d a : Nat) : Bool := s.on .BANK_STAT_OFFLINE d (bankOf a)

/-- A read of a word by a port, its raises not yet made (R187, R198): an offline bank answers 0 and an error. -/
def State.bankReadRaw (s : State) (d w port halves : Nat) : WordRead :=
  if s.offline d w then ⟨s, 0, true, [⟨.BANK_OFFLINE_ACC, bankOf w⟩]⟩ else s.readHalves d w port halves 0

/-- A read of a word by a port: the state after, the data, and whether the beat gets an error response. -/
def State.bankRead (s : State) (d w port halves : Nat) : State × Nat × Bool :=
  let r := s.bankReadRaw d w port halves
  (r.st.raises d 0 r.faults, r.data, r.ue)

/-- Halves of a word that byte enables cover. -/
def halvesOf (en : Nat) : Nat := (if en % 256 = 0 then 0 else 1) + (if en / 256 % 256 = 0 then 0 else 2)

/-! ### Locks (R192, R193, R195, R196) -/

/-- Record a collision (R193). -/
def State.collide (s : State) (d w kind am bm : Nat) : State :=
  if s.get .BANK_COLL_VALID d 0 = 0 then
    ((((s.put .BANK_COLL_WADDR d 0 (waddr w)).put .BANK_COLL_KIND d 0 kind).put .BANK_COLL_VALID d 0 1).put
      .BANK_COLL_AMASTER d 0 am).put .BANK_COLL_BMASTER d 0 bm
  else s.incSat .BANK_COLL_OVF d 0 1

/-- The lock of a word in this cycle (R195, R196). -/
def State.lockOf (s : State) (d w : Nat) : Option WordLock :=
  s.locks.find? fun k => k.die == d && k.word == w / 16 * 16 && k.cyc == s.capture d

/-- The word is locked in this cycle by an alias operation. -/
def State.wordLocked (s : State) (d w : Nat) : Bool := (s.lockOf d w).isSome

/-- The port, and the master, whose alias operation locks the word. -/
def State.lockPort (s : State) (d w : Nat) : Nat := ((s.lockOf d w).map fun k => k.port).getD 0
def State.lockMaster (s : State) (d w : Nat) : Nat := ((s.lockOf d w).map fun k => k.master).getD 0

/-- A collision in which port `port` meets the lock or the reservation of the other port: KIND 3 (R192, R196). -/
def State.collideLock (s : State) (d w port mine other : Nat) : State :=
  s.collide d w 3 (if port = 0 then mine else other) (if port = 0 then other else mine)

/-- The other port's alias operation locks the word against a port; an offline bank is not locked (R198). -/
def State.lockedFor (s : State) (d w port : Nat) : Bool :=
  s.wordLocked d w && s.lockPort d w != port && !s.offline d w

/-- The lock of the word of an alias operation that begins `later` cycles after this one, in its second cycle; locks that are past go. -/
def State.setLock (s : State) (d w port master later : Nat) : State :=
  { s with locks := (s.locks.filter fun k => s.capture k.die ≤ k.cyc) ++ [⟨d, w / 16 * 16, port, master, s.capture d + later + 1⟩] }

/-- An access that meets a lock is recorded, KIND 3, and retried once the word is free (R192). -/
def State.passLock (s : State) (d w port master : Nat) : State :=
  s.when (s.lockedFor d w port = true) fun t => t.collideLock d w port master (s.lockMaster d w)

/-- A master's read of a word. -/
def State.wordRead (s : State) (d w port master halves : Nat) : State × Nat × Bool :=
  (s.passLock d w port master).bankRead d w port halves

end Sys2Proof.Machine
end

