-- ==== Sys2Proof/Machine/Kick.lean ====
section
/-! DEFINITION. Kicks of chorus groups (R168, R169) and of DMA engines (R224), which a bank write can cause. -/

namespace Sys2Proof.Machine

/-- A group becomes ready to run, once (R168, R170). -/
def State.groupReady (s : State) (d g : Nat) : State :=
  if (d, g) ∈ s.ready then s else { s with ready := s.ready ++ [(d, g)] }

/-- A kick of the group is ignored: disabled, kicked enough, run or abandoned in this epoch (R169). -/
def State.kickIgnored (s : State) (d g : Nat) : Bool :=
  s.get .GRP_EN_EFF d g == 0 || s.get .GRP_CFG_NKICK d g ≤ s.get .GRP_STAT_KICKS d g || s.on .GRP_STAT_RAN d g ||
    s.on .GRP_ABAND d g

/-- A kick to a group (R169). -/
def State.chorusKick (s : State) (d g : Nat) : State :=
  if s.kickIgnored d g then (s.incSat .CHORUS_XKICK_CNT d 0 1).fault .CHORUS_XKICK d 0 g
  else
    let s1 := s.incSat .GRP_STAT_KICKS d g 1
    s1.when (s1.get .GRP_STAT_KICKS d g = s.get .GRP_CFG_NKICK d g) fun t => t.groupReady d g

/-- An engine starts a chain (R224), outstanding in the domain of its first descriptor (R225). -/
def State.dmaBegin (s : State) (k : Kick) : State :=
  (((((s.put .DMA_STATUS_BUSY k.die k.engine 1).put .DMA_CUR k.die k.engine (k.desc / 32)).put .DMA_PHASE k.die k.engine 1).put
    .DMA_CLASS k.die k.engine k.cls).put .DMA_DOM k.die k.engine (if k.dom < 3 then 2 ^ k.dom else 0)).put .DMA_BYREG k.die
      k.engine (flag k.reg)

/-- The kicks that wait at an engine. -/
def State.kicksOf (s : State) (d e : Nat) : List Kick := s.kicks.filter fun k => k.die == d && k.engine == e

/-- Master port of an engine (R207). -/
def dmaPort (d e : Nat) : Nat := if d < 6 then 9 + e else e

/-- An accepted kick through a kick word: the engine reads word 2 of the first descriptor ahead, a bank read of its own (R187, R198), and
keeps the DOMAIN found, bits [17:16] (R225). A read that gets an error leaves the DOMAIN of the data it returned: DESIGN CHOICE (log
entry 136). -/
def State.readAhead (s : State) (k : Kick) : State × Kick :=
  if k.reg then (s, k)
  else
    let r := s.wordRead k.die (k.desc / 16 * 16) 1 (dmaPort k.die k.engine) 2
    (r.1, { k with dom := bitsAt r.2.1 80 2 })

/-- A kick of an engine: starts at once, waits, or is dropped as the ninth (R224). -/
def State.dmaKick (s : State) (k : Kick) : State :=
  if s.get .DMA_PHASE k.die k.engine = 0 ∧ s.kicksOf k.die k.engine = [] then
    let q := s.readAhead k
    q.1.dmaBegin q.2
  else if (s.kicksOf k.die k.engine).length < 8 then
    let q := s.readAhead k
    { q.1.inc .DMA_STATUS_QDEPTH k.die k.engine 1 with kicks := q.1.kicks ++ [q.2] }
  else (s.put .DMA_STATUS_KOVF k.die k.engine 1).fault .DMA_KICK_OVF k.die 0 k.engine

/-- The kick a write to a DMA kick word makes: class 3 (R215, R224). -/
def kickOfWord (d e v : Nat) : Kick := ⟨d, e, bitsAt v 5 20 * 32, 3, 3, false⟩

/-- A bank write that covers the 32-bit word at `a` kicks what is watched there, with the word's value (R169, R224). -/
def State.kickWord (s : State) (d a v : Nat) : State :=
  let o := if d < 6 then a % 0x800000 else a
  let cb := s.get .CHORUS_KICKOFS d 0 * 0x400
  let db := s.get .DMA_KICKOFS_OFS d 0 * 0x400
  let s1 := s.when (d < 6 ∧ s.get .CHORUS_CFG_EN d 0 = 1 ∧ cb ≤ o ∧ o < cb + 1024) fun t => t.chorusKick d ((o - cb) / 4)
  s1.when (s.get .DMA_KICKOFS_EN d 0 = 1 ∧ db ≤ o ∧ o < db + 32) fun t => t.dmaKick (kickOfWord d ((o - db) / 4) v)

end Sys2Proof.Machine
end

