-- ==== Sys2Proof/Machine/Bank.lean ====
section
/-! DEFINITION. SRAM banks (R188 to R203): writes, the two ports, collisions, aliases, torn bursts, leapfrog and repair. -/

namespace Sys2Proof.Machine

/-! ### Writes of a word -/

/-- Bytes of a half after a write: kind 0 plain, 1 bit-set, 2 bit-clear (R188, R194). -/
def mergeBytes (kind en old new : Nat) : Nat → Nat
  | 0 => 0
  | n + 1 =>
    let o := old % 256
    let x := new % 256
    let y := if kind = 0 then x else if kind = 1 then o ||| x else o - (o &&& x)
    (if en % 2 = 1 then y else o) + 256 * mergeBytes kind (en / 2) (old / 256) (new / 256) n

/-- Halves of a word whose old content a write reads: those partly written, or the whole word for an alias operation (R188, R195). -/
def halvesRead (kind en : Nat) : Nat :=
  let f := fun e => if e = 0 ∨ e = 255 then 0 else 1
  if kind = 0 then f (en % 256) + 2 * f (en / 256 % 256) else 3

/-- Store one half. -/
def State.writeHalf (s : State) (d a kind en old new : Nat) : State :=
  if en % 256 = 0 then s else (s.store d a 8 (mergeBytes kind (en % 256) old new 8)).clearErr d a

/-- Words of the access that are written, in ascending order, kick what watches them. -/
def State.kickWords (s : State) (d w en : Nat) : State :=
  s.each [0, 1, 2, 3] fun i t => t.when (bitsAt en (4 * i) 4 ≠ 0) fun u => u.kickWord d (w + 4 * i) (u.word d (w + 4 * i))

/-- A write of the enabled bytes of a word by a port, its raises and kicks not yet made (R188, R194, R198); `ue` says that an offline
bank refused it. -/
def State.bankWriteRaw (s : State) (d w port kind en data : Nat) : WordRead :=
  if s.offline d w then ⟨s, 0, true, [⟨.BANK_OFFLINE_ACC, bankOf w⟩]⟩
  else
    let r := s.readHalves d w port (halvesRead kind en) (flag (kind == 0))
    let s1 := (r.st.writeHalf d w kind en (r.data % 2 ^ 64) (data % 2 ^ 64)).writeHalf d (w + 8) kind (en / 256)
      (r.data / 2 ^ 64) (data / 2 ^ 64)
    ⟨s1, 0, false, r.faults⟩

/-- A write of the enabled bytes of a word by a port: the state after and whether it was refused. -/
def State.bankWrite (s : State) (d w port kind en data : Nat) : State × Bool :=
  let r := s.bankWriteRaw d w port kind en data
  let t := r.st.raises d 0 r.faults
  (if r.ue then t else t.kickWords d w en, r.ue)

/-- A master's write of a word, plain or through an alias, `later` cycles after its first, which locks the word in the next cycle; on
stepping A1 a plain port-B write against a port-A alias is acknowledged and lost (R502). -/
def State.wordWrite (s : State) (d w port master later kind en data : Nat) : State × Bool :=
  if s.lockedFor d w port = true ∧ kind = 0 ∧ port = 1 then (s, false)
  else
    let r := (s.passLock d w port master).bankWrite d w port kind en data
    (if kind = 0 ∨ r.2 = true then r.1 else r.1.setLock d w port master later, r.2)

/-! ### Bursts and 32-bit accesses over a range -/

/-- Read `n` bytes from `a` as a burst of word reads of a master on a port: the state, the bytes as a number, an error. -/
def State.bankReadBytes (s : State) (d port master a : Nat) : Nat → Nat → State × Nat × Bool
  | 0, _ => (s, 0, false)
  | fuel + 1, n =>
    if n = 0 then (s, 0, false)
    else
      let w := a / 16 * 16
      let o := a % 16
      let k := min n (16 - o)
      let r := s.wordRead d w port master (halvesOf ((2 ^ k - 1) * 2 ^ o))
      let q := r.1.bankReadBytes d port master (w + 16) fuel (n - k)
      (q.1, r.2.1 / 256 ^ o % 256 ^ k + q.2.1 * 256 ^ k, r.2.2 || q.2.2)

/-- Write `n` bytes from `a` as a burst of word writes of a master on a port, an alias operation a beat in turn (R195): the state, an
error. -/
def State.bankWriteBytes (s : State) (d port master later kind a : Nat) : Nat → Nat → Nat → State × Bool
  | 0, _, _ => (s, false)
  | fuel + 1, n, v =>
    if n = 0 then (s, false)
    else
      let w := a / 16 * 16
      let o := a % 16
      let k := min n (16 - o)
      let r := s.wordWrite d w port master later kind ((2 ^ k - 1) * 2 ^ o) (v % 256 ^ k * 256 ^ o)
      let q := r.1.bankWriteBytes d port master (later + 2) kind (w + 16) fuel (n - k) (v / 256 ^ k)
      (q.1, r.2 || q.2)

/-! ### Collisions (R190 to R193) -/

/-- How an access writes: 0 plainly, 1 through the bit-set and 2 through the bit-clear alias. -/
def PortKind.alias_ : PortKind → Nat
  | .set => 1
  | .clear => 2
  | .none | .read | .write => 0

/-- The access writes. -/
def PortKind.writes : PortKind → Bool
  | .write | .set | .clear => true
  | .none | .read => false

/-- A port's access is refused with BUSY and waits for its retry (R192): a newt stalls for a cycle. -/
def State.busy (s : State) (d w port : Nat) (p : PortAccess) : State :=
  let s1 := { s with
    busyAcc := s.busyAcc ++ [BusyAccess.mk d w port (PortKind.alias_ p.kind) p]
    resp := { s.resp with busy := s.resp.busy ||| 2 ^ port } }
  s1.when (d < 6 ∧ port = 0) fun t => t.inc .NEWT_STALL_MEM d p.master 1

/-- A port's answer to a write: whether it was refused. -/
def State.writeResp (s : State) (port : Nat) (err : Bool) : State :=
  { s with resp := if port = 0 then { s.resp with errA := err } else { s.resp with errB := err } }

/-- One port's access, its raises not yet made: the answer goes to the port's response. An alias operation locks the word in the next
cycle (R195); one that is refused locks nothing (R198). -/
def State.perform (s : State) (d w port : Nat) (p : PortAccess) : State × List Raise :=
  match p.kind with
  | .none => (s, [])
  | .read =>
    let r := s.bankReadRaw d w port (halvesOf p.en)
    (if port = 0 then { r.st with resp := { r.st.resp with dataA := r.data, errA := r.ue } }
     else { r.st with resp := { r.st.resp with dataB := r.data, errB := r.ue } }, r.faults)
  | .write =>
    let r := s.bankWriteRaw d w port 0 p.en p.data
    ((if r.ue then r.st else r.st.kickWords d w p.en).writeResp port r.ue, r.faults)
  | .set | .clear =>
    let r := s.bankWriteRaw d w port (PortKind.alias_ p.kind) p.en p.data
    ((if r.ue then r.st else (r.st.kickWords d w p.en).setLock d w port p.master 0).writeResp port r.ue, r.faults)

/-- One port's access. -/
def State.performOne (s : State) (d w port : Nat) (p : PortAccess) : State :=
  let q := s.perform d w port p
  q.1.raises d 0 q.2

/-- Both ports' accesses, port A's first: their raises are those of one cycle (R438, R441). -/
def State.performBoth (s : State) (d w : Nat) (a b : PortAccess) : State :=
  let q := s.perform d w 0 a
  let r := q.1.perform d w 1 b
  r.1.raises d 0 (q.2 ++ r.2)

/-- A read that meets a port-B write answers undefined data (R191). -/
def State.undefRead (s : State) : State :=
  { s.drawn with resp := { s.resp with dataA := s.free % 2 ^ 128, errA := false } }

/-- The answers of the accesses start empty. -/
def State.clearResp (s : State) : State := { s with resp := ⟨0, false, 0, false, 0⟩ }

/-- An access of the port that does not hold the lock, in the cycle in which an alias operation locks the word: BUSY, KIND 3; on
stepping A1 a plain port-B write against a port-A alias is acknowledged and lost (R196, R502). -/
def State.lockedAccess (s : State) (d w port : Nat) (p : PortAccess) : State :=
  if p.kind = .none ∨ (p.kind = .write ∧ port = 1 ∧ s.lockPort d w = 0) then s
  else (s.collideLock d w port p.master (s.lockMaster d w)).busy d w port p

/-- The accesses of the two ports in one cycle to a word that is not locked (R191, R196); an offline bank answers both with an error
(R198). -/
def State.twoPorts (s : State) (d w : Nat) (a b : PortAccess) : State :=
  if s.offline d w then s.performBoth d w a b
  else if PortKind.writes a.kind ∧ b.kind = .read then ((s.performOne d w 0 a).collide d w 1 a.master b.master).busy d w 1 b
  else if PortKind.writes a.kind ∧ PortKind.writes b.kind then ((s.performOne d w 0 a).collide d w 2 a.master b.master).busy d w 1 b
  else if a.kind = .read ∧ b.kind = .write then ((s.performOne d w 1 b).collide d w 0 a.master b.master).undefRead
  else s.performBoth d w a b

/-- The accesses of the two ports in one cycle: the port that locks the word is busy with its alias operation. -/
def State.portsMeet (s : State) (d w : Nat) (a b : PortAccess) : State :=
  if s.wordLocked d w then
    (if s.lockPort d w = 0 then s.clearResp.lockedAccess d w 1 b else s.clearResp.lockedAccess d w 0 a)
  else s.clearResp.twoPorts d w a b

/-- BANK_ACCESS (R190, R191, R196). -/
def execBankAccess (d w : Nat) (a b : PortAccess) (s : State) : Result :=
  .next <| s.when (s.dieClocked d = true) fun t => t.portsMeet d (w / 16 * 16) a b

/-- ALIAS_WRITE (R194 to R196). -/
def execAliasWrite (d w port : Nat) (clear : Bool) (p o : PortAccess) (s : State) : Result :=
  let q := { p with kind := if clear then .clear else .set }
  .next <| s.when (s.dieClocked d = true) fun t =>
    if port = 0 then t.portsMeet d (w / 16 * 16) q o else t.portsMeet d (w / 16 * 16) o q

/-- The refused access of a port to a word. -/
def State.busyOf (s : State) (d w port : Nat) : Option BusyAccess :=
  s.busyAcc.find? fun b => b.die == d && b.word == w && b.port == port

/-- BUSY_RETRY (R192): the retry is served; the other port's access in the reserved cycle receives BUSY, KIND 3, and a newt so refused by
an alias operation of port B waits its second cycle too. -/
def execBusyRetry (d w port : Nat) (o : PortAccess) (s : State) : Result :=
  let v := w / 16 * 16
  .next <|
    match s.busyOf d v port with
    | none => s
    | some b => s.when (s.wordLocked d v = false ∧ s.dieClocked d = true) fun s =>
      let t := { s.clearResp with busyAcc := s.busyAcc.erase b }.performOne d v port b.access
      t.when (o.kind ≠ .none) fun x =>
        ((x.collideLock d v (1 - port) o.master b.access.master).busy d v (1 - port) o).when
          (d < 6 ∧ port = 1 ∧ PortKind.alias_ b.access.kind ≠ 0) fun y => y.inc .NEWT_STALL_MEM d o.master 1

/-! ### Torn bursts (R197) -/

/-- A write burst cut by a reset of its master: the first is recorded, the bank marked, the fault raised. -/
def State.tornBurst (s : State) (d a master len written : Nat) : State :=
  let s1 := s.when (s.get .BANK_TORN_VALID d 0 = 0) fun t =>
    ((((t.put .BANK_TORN_WADDR d 0 (waddr a)).put .BANK_TORN_VALID d 0 1).put .BANK_TORN_MASTER d 0 master).put
      .BANK_TORN_WRITTEN d 0 written).put .BANK_TORN_LEN d 0 len
  (s1.put .BANK_STAT_TORN d (bankOf a) 1).fault .BANK_TORN d 0 (bankOf a)

/-! ### Repair entries (R202, R203) -/

/-- Row, FUSED and VALID of repair entry `e` of a bank. -/
def State.repRow (s : State) (d b e : Nat) : Nat :=
  if e % 2 = 0 then s.get .BANK_REPAIR_ROW_LO d (b * 2 + e / 2) else s.get .BANK_REPAIR_ROW_HI d (b * 2 + e / 2)
def State.repFused (s : State) (d b e : Nat) : Nat :=
  if e % 2 = 0 then s.get .BANK_REPAIR_FUSED_LO d (b * 2 + e / 2) else s.get .BANK_REPAIR_FUSED_HI d (b * 2 + e / 2)
def State.repValid (s : State) (d b e : Nat) : Nat :=
  if e % 2 = 0 then s.get .BANK_REPAIR_VALID_LO d (b * 2 + e / 2) else s.get .BANK_REPAIR_VALID_HI d (b * 2 + e / 2)

/-- Write repair entry `e` of a bank. -/
def State.repPut (s : State) (d b e row fused valid : Nat) : State :=
  let x := b * 2 + e / 2
  if e % 2 = 0 then
    ((s.put .BANK_REPAIR_ROW_LO d x row).put .BANK_REPAIR_FUSED_LO d x fused).put .BANK_REPAIR_VALID_LO d x valid
  else ((s.put .BANK_REPAIR_ROW_HI d x row).put .BANK_REPAIR_FUSED_HI d x fused).put .BANK_REPAIR_VALID_HI d x valid

/-- Entries not burned are cleared before a DESTRUCTIVE test. -/
def State.repClear (s : State) (d b : Nat) : State :=
  s.each [0, 1, 2, 3] fun e t => if t.repFused d b e = 1 then t else t.repPut d b e 0 0 0

/-- The lowest free entry whose spare row passed. -/
def State.freeEntry (s : State) (d b spareBad : Nat) : Option Nat :=
  [0, 1, 2, 3].find? fun e => s.repValid d b e == 0 && bitAt spareBad e == 0

/-- A row is already mapped by an entry. -/
def State.rowMapped (s : State) (d b row : Nat) : Bool :=
  [0, 1, 2, 3].any fun e => s.repValid d b e == 1 && s.repRow d b e == row

/-- Give each failing row an entry: the state, the entries taken, the rows left unrepaired. -/
def State.repairRows (s : State) (d b spareBad : Nat) : List Nat → State × Nat × Nat
  | [] => (s, 0, 0)
  | r :: t =>
    if s.rowMapped d b r then s.repairRows d b spareBad t
    else
      match s.freeEntry d b spareBad with
      | none => let q := s.repairRows d b spareBad t; (q.1, q.2.1, q.2.2 + 1)
      | some e => let q := (s.repPut d b e r 0 1).repairRows d b spareBad t; (q.1, q.2.1 + 1, q.2.2)

/-! ### Leapfrog (R199 to R202) -/

/-- Banks of a die. -/
def bankCount (d : Nat) : Nat := if d < 6 then 256 else 128

/-- Banks of the run in progress. -/
def State.lfBanks (s : State) (d : Nat) : List Nat :=
  if s.get .LF_RUNALL d 0 = 1 then List.range (bankCount d) else [s.get .LF_STATUS_BANK d 0]

/-- The newts of a die that are PARKED, as a mask. -/
def State.parkedMask (s : State) (d : Nat) : Nat :=
  ((List.range 32).map fun n => if s.get .NEWT_STATUS_STATE d n = newtParked then 2 ^ n else 0).sum

/-- Forget the contents of a range of memory: every byte 0, valid check bits. -/
def State.zeroRange (s : State) (d a n : Nat) : State :=
  { s with
    mem := s.mem.filter fun c => !(memKey d a ≤ c.1 && c.1 < memKey d a + n)
    errs := s.errs.filter fun c => !(memKey d a ≤ c.1 && c.1 < memKey d a + n) }

/-- A range of memory takes contents the spec leaves open; `check` says the check bits are open too. -/
def State.openRange (s : State) (d a n : Nat) (check : Bool) : State :=
  let k := s.freeCtr
  let s1 := (s.zeroRange d a n).each (List.range n) fun i t =>
    t.setByte d (a + i) (BitVec.ofNat 8 (Config.freeValue k / 256 ^ i))
  let s2 := s1.when (check = true) fun u => u.each (List.range (n / 8)) fun i t =>
    t.setErr d (a + 8 * i) (Config.freeValue (k + 1) / 2 ^ (72 * i) % 2 ^ 72)
  s2.drawn.drawn

/-- LF_START (R201). -/
def execLfStart (d mode all newts bank : Nat) (s : State) : Result :=
  let s0 := (((s.put .LF_CTL_MODE d 0 mode).put .LF_CTL_ALL d 0 all).put .LF_CTL_NEWTS d 0 newts).put .LF_CTL_BANK d 0 bank
  .next <| s.when (s.dieClocked d = true) fun s =>
    if s.get .LF_STATUS_BUSY d 0 = 1 ∨ (mode = 1 ∧ all = 1) then s0.put .LF_STATUS_REFUSED d 0 1
    else
      let b := if all = 1 then s.free else bank
      let s1 := ((((s0.put .LF_STATUS_BUSY d 0 1).put .LF_STATUS_OFFLINE d 0 1).put .LF_STATUS_BANK d 0 b).put .LF_RUNMODE d 0
        mode).put .LF_RUNALL d 0 all
      let s2 := (s1.put .LF_RUNNEWTS d 0 (if newts = 1 ∧ d < 6 ∧ mode = 0 ∧ all = 1 then s.parkedMask d else 0)).when
        (all = 1) State.drawn
      s2.each (s2.lfBanks d) fun k t => t.put .BANK_STAT_OFFLINE d k 1

/-- The run ends: its banks are online again. -/
def State.lfEnd (s : State) (d : Nat) : State :=
  ((s.put .LF_STATUS_BUSY d 0 0).put .LF_STATUS_OFFLINE d 0 0).each (s.lfBanks d) fun k t => t.put .BANK_STAT_OFFLINE d k 0

/-- LF_ABORT (R201): a DESTRUCTIVE run stops, its banks with RESULT 0 and undefined contents and check bits. -/
def execLfAbort (d : Nat) (s : State) : Result :=
  .next <| s.when (s.dieClocked d = true ∧ s.get .LF_STATUS_BUSY d 0 = 1 ∧ s.get .LF_RUNMODE d 0 = 0) fun s =>
    ((s.each (s.lfBanks d) fun k t =>
      (((t.put .BANK_STAT_RESULT d k 0).put .BANK_STAT_NEWROWS d k 0)).openRange d (k * 0x20000) 0x20000 true).lfEnd d).put
        .LF_STATUS_ABORTED d 0 1

/-- A bank of a DESTRUCTIVE run finishes (R200, R202): contents 0, entries taken for its failing rows, RESULT. -/
def State.lfDestructive (s : State) (d : Nat) (o : BankTest) : State × List Raise :=
  let b := o.bank
  let s1 := (s.zeroRange d (b * 0x20000) 0x20000).repClear d b
  let fusedBad := [0, 1, 2, 3].any fun e => s1.repFused d b e == 1 && s1.repValid d b e == 1 && bitAt o.spareBad e == 1
  let r := s1.repairRows d b o.spareBad o.rows
  let fail := fusedBad || r.2.2 != 0
  let res := if fail then 3 else if r.2.1 = 0 then 1 else 2
  ((r.1.put .BANK_STAT_RESULT d b res).put .BANK_STAT_NEWROWS d b r.2.1,
    (if fail then [⟨.BANK_LF_FAIL, b⟩] else []) ++ (if r.2.1 = 0 then [] else [⟨.BANK_LF_REPAIR, b⟩]))

/-- The first pass of a PRESERVING test (R200): single errors corrected, words with a double error logged as stored;
the last pass writes fresh check bits. -/
def State.lfScrub (s : State) (d b : Nat) : State :=
  let mine := s.errs.filter fun c => memKey d (b * 0x20000) ≤ c.1 && c.1 < memKey d (b * 0x20000) + 0x20000
  s.each mine fun c t =>
    let a := c.1 % 2 ^ 32
    let k := decodeCheck (t.load d a 8) c.2
    ((t.when (k.kind = 2) fun u => u.eccLog d a 0 0 0 k).store d a 8 k.data).clearErr d a

/-- A bank of a PRESERVING run finishes (R200): contents kept but in failing rows; no repair. -/
def State.lfPreserving (s : State) (d : Nat) (o : BankTest) : State × List Raise :=
  let b := o.bank
  let s1 := (s.lfScrub d b).each o.rows fun r t => t.openRange d (b * 0x20000 + r % 512 * 0x100) 0x100 false
  ((s1.put .BANK_STAT_RESULT d b (if o.rows = [] then 1 else 3)).put .BANK_STAT_NEWROWS d b 0,
    if o.rows = [] then [] else [⟨.BANK_LF_FAIL, b⟩])

/-- The banks of a run finish in order. -/
def State.lfBanksDone (s : State) (d : Nat) : List BankTest → State × List Raise
  | [] => (s, [])
  | o :: t =>
    let r := if s.get .LF_RUNMODE d 0 = 0 then s.lfDestructive d o else s.lfPreserving d o
    let q := r.1.lfBanksDone d t
    (q.1, r.2 ++ q.2)

/-- What the tests found for the banks of the run: a bank the outcome list does not name passed. -/
def lfOutcome (l : List BankTest) (b : Nat) : BankTest := (l.find? fun o => o.bank == b).getD ⟨b, [], 0, 0, 0, 0⟩

/-- The newts of the run whose memories failed. -/
def State.lfBadNewts (s : State) (d fail : Nat) : List Nat :=
  (List.range 32).filter fun n => bitAt (s.get .LF_RUNNEWTS d 0 &&& fail) n == 1

/-- LF_FAIL takes a place while it holds none (R205). -/
def State.lfPlace (s : State) (d waddr bit : Nat) : State :=
  s.when (s.get .LF_FAIL_VALID d 0 = 0) fun t =>
    ((t.put .LF_FAIL_WADDR d 0 waddr).put .LF_FAIL_BIT d 0 bit).put .LF_FAIL_VALID d 0 1

/-- The rows of a bank that a run found bad: the spare rows, numbered from 512, which a PRESERVING run does not test (R200), then the
main rows. -/
def BankTest.bad (o : BankTest) (mode : Nat) : List Nat :=
  (if mode = 0 then ((List.range 4).filter fun e => bitAt o.spareBad e == 1).map fun e => 512 + e else []) ++ o.rows

/-- LF_FAIL takes the first failing bit of the run (R201, R205): of the lowest bank with a failing row, in the row that the outcome names
first; a word of a spare row has no WADDR, which is a free value then; else of the newt memories, at `waddr` and `bit`. Which of several
banks or memories under test at once fails first the spec leaves open: DESIGN CHOICE (log entry 109). -/
def State.lfRecord (s : State) (d : Nat) (l : List BankTest) (fail waddr bit : Nat) : State :=
  match l.find? fun o => BankTest.bad o (s.get .LF_RUNMODE d 0) != [] with
  | some o =>
    let bad := BankTest.bad o (s.get .LF_RUNMODE d 0)
    let row := bad.getD (o.first % bad.length) 0
    if 512 ≤ row then (s.lfPlace d s.free o.bit).drawn else s.lfPlace d (o.bank * 8192 + row * 16 + o.word) o.bit
  | none => if s.lfBadNewts d fail = [] then s else s.lfPlace d waddr bit

/-- The newt memories of a run finish: each left at 0, failures marked. -/
def State.lfNewts (s : State) (d fail : Nat) : State :=
  let m := s.get .LF_RUNNEWTS d 0
  let s1 := s.each ((List.range 32).filter fun n => bitAt m n == 1) fun n t => t.zeroRange d (0x10000000 + n * 0x40000) 0x28000
  s1.put .LF_NEWT_FAIL d 0 (s1.get .LF_NEWT_FAIL d 0 ||| (m &&& fail))

/-- FUSE_BURN (R203). -/
def execFuseBurn (d bank : Nat) (s : State) : Result :=
  .next <| s.when (s.dieClocked d = true ∧ s.get .LF_FUSE_BUSY d 0 = 0) fun t =>
    ((t.put .LF_FUSE_BANK d 0 bank).put .LF_FUSEB d 0 bank).put .LF_FUSE_BUSY d 0 1

/-- The entries a burn writes. -/
def State.burnable (s : State) (d b : Nat) : List Nat :=
  [0, 1, 2, 3].filter fun e => s.repValid d b e == 1 && s.repFused d b e == 0

/-- FUSE_BURN_DONE (R203): each entry verified gets FUSED; one that fails sets ERR and leaves a bad parity. -/
def execFuseBurnDone (d verified : Nat) (s : State) : Result :=
  .next <| s.when (s.get .LF_FUSE_BUSY d 0 = 1 ∧ s.dieClocked d = true) fun s =>
    let b := s.get .LF_FUSEB d 0
    let l := s.burnable d b
    let s1 := s.each l fun e t =>
      if bitAt verified e = 1 then
        (t.repPut d b e (t.repRow d b e) 1 1).put .EFUSE_REP d (b * 4 + e) (t.repRow d b e + 2 ^ 14 + 2 ^ 15)
      else t.put .EFUSE_BAD d (b * 4 + e) 1
    let s2 := s1.when (l.any (fun e => bitAt verified e == 0) = true) fun t =>
      (t.put .LF_FUSE_ERR d 0 1).fault .BANK_FUSE_ERR d 0 b
    (s2.put .LF_FUSE_BUSY d 0 0).put .LF_FUSE_DONE d 0 1

end Sys2Proof.Machine
end

