-- ==== Sys2Proof/Machine/NewtMem.lean ====
section
/-! DEFINITION. The newt's two memories (R68 to R71, R511, R512): check words, injection, reads and writes by the fabric.
Offsets are those of the newt window: DMEM from 0, PMEM from 0x2_0000. -/

namespace Sys2Proof.Machine

/-- Die-local address of an offset in a newt's window (R28). -/
def newtLocal (n off : Nat) : Nat := 0x10000000 + n * 0x40000 + off

/-- Block ID of a newt's fault register set. -/
abbrev newtSet (n : Nat) : Nat := 64 + n

/-- The raises of one cycle at a newt: reported at once, or after the last repetition of a REPT (R88). -/
def State.newtRaise (s : State) (d n : Nat) (l : List Raise) : State :=
  if l = [] then s
  else if s.get .NEWT_STATUS_INREPT d n = 1 then
    { s with deferred := s.deferred ++ [⟨d, n, s.capture d, l.map fun r => (r.name.code, r.inst)⟩] }
  else s.raises d n l

/-- A check of the memory that holds `off` uses inverted check bits (R453): SEL 0 DMEM, 1 PMEM. -/
def State.newtInjects (s : State) (d n off : Nat) : Bool :=
  s.get .FLT_INJ_COUNT d (newtSet n) != 0 &&
    s.get .FLT_INJ_SEL d (newtSet n) == (if off < 0x20000 then 0 else 1)

/-- The check of the 64-bit word at an 8-aligned offset. -/
def State.newtCheck (s : State) (d n off : Nat) : Check :=
  decodeCheck (s.load d (newtLocal n off) 8)
    (s.errMask d (newtLocal n off) ^^^
      if s.newtInjects d n off then s.get .FLT_INJ_MASK d (newtSet n) * 2 ^ 64 else 0)

/-- What a check leaves (R71, R511): an injection counted, a corrected error counted, the UE bit of the memory. -/
def State.afterNewtCheck (s : State) (d n off : Nat) : State :=
  let k := (s.newtCheck d n off).kind
  let s1 := s.when (s.newtInjects d n off = true) fun t => t.dec .FLT_INJ_COUNT d (newtSet n) 1
  if k = 0 then s1
  else if k = 1 then s1.incSat .NEWT_ECC_CE_CNT d n 1
  else if off < 0x20000 then s1.put .NEWT_ECC_DMEM_UE d n 1
  else s1.put .NEWT_ECC_PMEM_UE d n 1

/-- The raise of a check; `inst` is the INSTANCE of an uncorrectable one. -/
def newtRaisesOf (c : Check) (off inst : Nat) : List Raise :=
  match c.kind with
  | 0 => []
  | 1 => [⟨.NEWT_ECC_CE, if off < 0x20000 then 0 else 1⟩]
  | _ => [⟨.NEWT_DMEM_UE, inst⟩]

/-- Read the 64-bit words at the given offsets, in order: the state, their data, the raises, an uncorrectable one. -/
def State.newtReadWords (s : State) (d n inst : Nat) : List Nat → State × List Nat × List Raise × Bool
  | [] => (s, [], [], false)
  | o :: t =>
    let c := s.newtCheck d n o
    let q := (s.afterNewtCheck d n o).newtReadWords d n inst t
    (q.1, c.data :: q.2.1, newtRaisesOf c o inst ++ q.2.2.1, c.kind == 2 || q.2.2.2)

/-- The 64-bit words that `len` bytes from `off` touch. -/
def wordsOf (off len : Nat) : List Nat :=
  if len = 0 then [] else (List.range ((off + len - 1) / 8 - off / 8 + 1)).map fun i => (off / 8 + i) * 8

/-- A list of 64-bit words as one number, the first the least significant. -/
def joinWords : List Nat → Nat
  | [] => 0
  | w :: t => w % 2 ^ 64 + 2 ^ 64 * joinWords t

/-- A fabric read of DMEM or PMEM (R69, R511): the state, the bytes as a number, an error response. -/
def State.newtFabRead (s : State) (d n off len : Nat) : State × Nat × Bool :=
  let r := s.newtReadWords d n 0xFFFF (wordsOf off len)
  (r.1.newtRaise d n r.2.2.1, joinWords r.2.1 / 256 ^ (off % 8) % 256 ^ len, r.2.2.2)

/-- Write bytes `en` of the 64-bit word at `off`, merging a partial write with the corrected old word (R512). -/
def State.newtWriteWord (s : State) (d n off en data inst : Nat) : State × List Raise :=
  let a := newtLocal n off
  if en % 256 = 0 then (s, [])
  else if en % 256 = 255 then ((s.store d a 8 data).clearErr d a, [])
  else
    let c := s.newtCheck d n off
    (((s.afterNewtCheck d n off).store d a 8 (mergeBytes 0 (en % 256) c.data data 8)).clearErr d a, newtRaisesOf c off inst)

/-- Write the 64-bit words at the given offsets with the enables and data of the whole range. -/
def State.newtWriteWords (s : State) (d n inst : Nat) : List Nat → Nat → Nat → State × List Raise
  | [], _, _ => (s, [])
  | o :: t, en, data =>
    let r := s.newtWriteWord d n o (en % 256) (data % 2 ^ 64) inst
    let q := r.1.newtWriteWords d n inst t (en / 256) (data / 2 ^ 64)
    (q.1, r.2 ++ q.2)

/-- A fabric write of DMEM or PMEM (R69, R70, R512): the state, an error response. -/
def State.newtFabWrite (s : State) (d n off len data : Nat) : State × Bool :=
  let st := s.get .NEWT_STATUS_STATE d n
  if 0x20000 ≤ off ∧ st ≠ newtParked ∧ st ≠ newtHalted then (s.newtRaise d n [⟨.NEWT_PMEM_WERR, 0xFFFF⟩], true)
  else
    let o := off % 8
    let r := s.newtWriteWords d n 0xFFFF (wordsOf off len) ((2 ^ len - 1) * 2 ^ o) (data % 256 ^ len * 256 ^ o)
    (r.1.newtRaise d n r.2, false)

end Sys2Proof.Machine
end

