-- ==== Sys2Proof/Machine/Regs.lean ====
section
/-! DEFINITION. Finding a register at an offset of a block's window (R28 to R30 and the register tables), and its value. -/

namespace Sys2Proof.Machine

/-- Type of a block's fault register set (R456). -/
def Block.type : Block → Nat
  | .newt => 1
  | .tongue => 2
  | .chorus => 3
  | .bank => 4
  | .fab => 5
  | .mdll => 6
  | .therm => 7
  | .sap => 8
  | .rate => 9
  | .refsel => 10
  | .mac => 11
  | .pkt => 12
  | .ptp => 13
  | .biray => 14
  | .hp => 15
  | .axo => 16
  | .gpio => 17
  | .flt => 0

/-- Offset of a block's fault register set within its window (R456, R98). -/
def fltOffset : Block → Nat
  | .newt => 0x800
  | .sap => 0x3C00
  | _ => 0xC00

/-- A register found at an offset: its row, the instance of its cells, whether the offset is that of its high word. -/
structure RegHit where
  row : RegRow
  inst : Nat
  high : Bool
deriving DecidableEq, Repr

/-- Instances of a register in its block. -/
def RegRow.count (r : RegRow) : Nat := (r.strides.map fun (q : Nat × Nat) => q.2).foldl (fun a b => a * b) 1

/-- The place within a register: 0 its only or low word, 4 the high word of a 64-bit one. -/
def RegRow.word (r : RegRow) (i x : Nat) : Option (Nat × Bool) :=
  if x = 0 then some (i, false) else if r.wide ∧ x = 4 then some (i, true) else none

/-- The instance of the register, within its block, that an offset names. -/
def RegRow.find (r : RegRow) (off : Nat) : Option (Nat × Bool) :=
  if off < r.off then none
  else
    let o := off - r.off
    match r.strides with
    | [] => r.word 0 o
    | [(a, n)] => if o / a < n then r.word (o / a) (o % a) else none
    | (a, n) :: (b, m) :: _ => if o / a < n ∧ o % a / b < m then r.word (o / a * m + o % a / b) (o % a % b) else none

/-- The first row that an offset names. -/
def findRow (off : Nat) : List RegRow → Option (RegRow × Nat × Bool)
  | [] => none
  | r :: t =>
    match r.find off with
    | some q => some (r, q)
    | none => findRow off t

/-- Instance `i` of a register at an offset exists on a die: counts that differ between dies, and blocks whose registers
stand on one die alone (R64, R226, R205, R274, R334, R350, R383, R452). -/
def regOnDie (d : Nat) (b : Block) (bi off i : Nat) : Bool :=
  match b with
  | .fab =>
    if 0x100 ≤ off ∧ off < 0x200 then i < (if d < 6 then 11 else 8)
    else if 0x200 ≤ off ∧ off < 0x400 then i < (if d < 6 then 21 else 19)
    else if 0x500 ≤ off ∧ off < 0x600 then i < linkCount d
    else true
  | .bank => if off = 0x38 then d < 6 else off < 0x1000 || off < (if d < 6 then 0x2000 else 0x1800)
  | .therm => if 0x10 ≤ off ∧ off < 0x30 then i < (if d < 6 then 8 else 4) else true
  | .rate => d == 6 || (0x1000 ≤ off && off < 0x20000)
  | .mac => off < 0x300 || (d == 6 && bi == 0)
  | .ptp => d == 6 || off < 0x20
  | .biray => d == 6 || off < 0x100
  | _ => true

/-- The register that an offset of instance `bi` of a block names on a die, if any. -/
def regFind (d : Nat) (b : Block) (bi off : Nat) : Option RegHit :=
  if fltOffset b ≤ off ∧ off < fltOffset b + 0x30 then
    (findRow (off - fltOffset b) fltRegs).map fun q => RegHit.mk q.1 (b.type * 64 + bi) q.2.2
  else
    match findRow off b.regs with
    | none => none
    | some q => if regOnDie d b bi off q.2.1 then some (RegHit.mk q.1 (bi * q.1.count + q.2.1) q.2.2) else none

/-- The field that heads a register. -/
def RegHit.head (h : RegHit) : Fld := (h.row.fields.headD ⟨.TB_SYSCNT, 0, .RO⟩).fld

/-- The value of a field as a read shows it. A loop level that is not active reads 0 (R99), TONGUE_POST shows SLOT_FLAGS, and
the four tongues of a die show one flow map (R156). -/
def State.fieldValue (s : State) (d i : Nat) (f : FieldRow) : Nat :=
  match f.fld with
  | .TONGUE_POST_FLAGS => s.get .SLOT_FLAGS d i % 2 ^ 31
  | .TONGUE_FLOWMAP => s.get .TONGUE_FLOWMAP d (i % 32)
  | .TONGUE_POST_EPOCH => bitAt (s.get .SLOT_FLAGS d i) 31
  | .DBG_A | .DBG_B | .DBG_L =>
    if i % 12 < 8 ∨ s.on .NEWT_CFG_LOOPSEL d (i / 12) = true ∨ i % 12 - 8 < s.get .NEWT_STATUS_LOOPDEPTH d (i / 12) then
      s.get f.fld d i
    else 0
  | _ => if f.acc = .WO then 0 else s.get f.fld d i

/-- The value of a register, all 64 bits of a 64-bit one (R3, R7). -/
def State.regValue (s : State) (d : Nat) (h : RegHit) : Nat :=
  h.row.fields.foldl (fun v f => v + s.fieldValue d h.inst f * 2 ^ f.lo) 0

/-- The register at an offset of a block of a die, as CSF reads it. -/
def State.regAt (s : State) (d : Nat) (b : Block) (bi off : Nat) : Nat :=
  match regFind d b bi off with
  | none => 0
  | some h => s.regValue d h

end Sys2Proof.Machine
end

