-- ==== Sys2Proof/Machine/Fabric.lean ====
section
/-! DEFINITION. The fabric (R23 to R30, R207 to R222): the places of the die-local maps, permissions, the error
logs, access to memory over the crossbar, posts, parking and the die links. Registers are served in Access.lean. -/

namespace Sys2Proof.Machine

/-! ### The die-local maps (R28 to R30) -/

/-- The ingress master port at which a route ends. -/
def ingressPort (a b : Nat) : Nat :=
  match (route a b).getLast? with
  | none => 0
  | some (c, l) =>
    match linkPeer c l with
    | none => 0
    | some (_, k) => if b < 6 then 17 + k else 13 + k

/-- What a die-local address reaches: a byte of SRAM (`kind` 0 plain, 1 bit-set alias, 2 bit-clear alias), an offset of a
newt's DMEM or PMEM, an offset of a register block's window, a byte of mailbox ring memory, or nothing. -/
inductive Place where
  | sram (kind a : Nat)
  | newtMem (n off : Nat)
  | reg (b : Block) (inst off : Nat)
  | ring (off : Nat)
  | nothing
deriving DecidableEq, Repr

/-- Register windows of a gecko die. -/
def geckoReg (w off : Nat) : Place :=
  match w with
  | 0 => if off < 0x40000 then .reg .tongue (off / 0x10000) (off % 0x10000) else .nothing
  | 1 => .reg .chorus 0 off
  | 2 => .reg .bank 0 off
  | 3 => .reg .fab 0 off
  | 4 => .reg .mdll 0 off
  | 5 => .reg .therm 0 off
  | _ => .nothing

/-- Register windows of an iguana die; the blocks of die 6 alone reach the default target on die 7 (R19). -/
def iguanaReg (d w off : Nat) : Place :=
  match w with
  | 0 => .reg .sap 0 off
  | 1 => .reg .rate 0 off
  | 2 => if d = 6 then .reg .refsel 0 off else .nothing
  | 3 => if off / 0x10000 = 1 then .reg .therm 0 (off % 0x10000) else .reg .mdll 0 off
  | 4 => if off < 0x40000 then .reg .mac (off / 0x10000) (off % 0x10000) else .nothing
  | 8 => .reg .pkt 0 off
  | 10 => .reg .ptp 0 off
  | 11 => .reg .biray 0 off
  | 12 => if d = 6 then .reg .hp 0 off else .nothing
  | 13 => if d = 6 then .reg .axo 0 off else .nothing
  | 14 => .reg .bank 0 off
  | 15 => .reg .fab 0 off
  | 16 => .reg .gpio 0 off
  | _ => .nothing

/-- Bytes of SRAM on a die (R20). -/
def sramSize (d : Nat) : Nat := if d < 6 then 0x2000000 else 0x1000000

/-- The place of a die-local address. -/
def place (d a : Nat) : Place :=
  let z := sramSize d
  if a < z then .sram 0 a
  else if 0x8000000 ≤ a ∧ a < 0x8000000 + z then .sram 1 (a - 0x8000000)
  else if 0xC000000 ≤ a ∧ a < 0xC000000 + z then .sram 2 (a - 0xC000000)
  else if d < 6 then
    if 0x10000000 ≤ a ∧ a < 0x10800000 then
      let n := (a - 0x10000000) / 0x40000
      let o := a % 0x40000
      if o < 0x28000 then .newtMem n o else if o < 0x30000 then .nothing else .reg .newt n (o - 0x30000)
    else if 0x40000000 ≤ a ∧ a < 0x40600000 then geckoReg ((a - 0x40000000) / 0x100000) (a % 0x100000)
    else .nothing
  else if d < 8 then
    if 0x40000000 ≤ a ∧ a < 0x41100000 then iguanaReg d ((a - 0x40000000) / 0x100000) (a % 0x100000)
    else if d = 6 ∧ 0x50000000 ≤ a ∧ a < 0x50080000 then .ring (a - 0x50000000)
    else .nothing
  else .nothing

/-- The target class of a place (R216). -/
def Place.cls (p : Place) (d : Nat) : Nat :=
  if d < 6 then
    match p with
    | .sram k _ => k
    | .newtMem _ _ => 3
    | .reg .newt _ _ => 4
    | .reg .tongue _ _ => 5
    | .reg .chorus _ _ => 6
    | .reg .bank _ _ => 7
    | .reg .fab _ _ => 8
    | .reg .mdll _ _ => 9
    | _ => 10
  else
    match p with
    | .sram k a => if d = 6 ∧ 0xC00000 ≤ a then 3 else k
    | .reg .sap _ _ => 4
    | .reg .rate _ _ => 5
    | .reg .refsel _ _ => 6
    | .reg .mdll _ _ => 7
    | .reg .therm _ _ => 7
    | .reg .mac _ _ => 8
    | .reg .pkt _ _ => 9
    | .reg .ptp _ _ => 10
    | .reg .biray _ _ => 11
    | .reg .hp _ _ => 12
    | .reg .axo _ _ => 13
    | .reg .bank _ _ => 14
    | .reg .fab _ _ => 15
    | .reg .gpio _ _ => 16
    | _ => 17

/-- A resource only the gill may reach (R217); FAB_PERM may be read by others. -/
def gillOnly (p : Place) (write : Bool) : Bool :=
  match p with
  | .reg b _ off =>
    (b == .fab && 0x400 ≤ off && off < 0x480 && write) ||
    (b == .bank && (off == 0x34)) ||
    (b == .axo && 0x20000 ≤ off && off < 0x40000) ||
    (b == .hp && 0x10000 ≤ off && off < 0x10400) ||
    (b == .newt && off / 4 == 0x48 / 4) ||
    (fltOffset b + 0x28 ≤ off && off < fltOffset b + 0x30)
  | _ => false

/-! ### Requests -/

/-- A request: issuing die, its master port, the master class, the address, write, its bytes; `tie` is what hardware has set in the
fields of the register it names in the cycle of the access, `before` what its saturated counts and maxima held before it (R8). -/
structure FabReq where
  die : Nat
  port : Nat
  cls : Nat
  unit : Nat
  tdie : Nat
  loc : Nat
  write : Bool
  len : Nat
  data : Nat
  tie : Nat
  before : Nat
deriving DecidableEq, Repr

/-- The class a master port carries (R207, R215). -/
def State.masterClass (s : State) (d p : Nat) : Nat :=
  if d < 6 then
    if p < 4 then 0 else if p < 8 then 1 else if p = 8 then 2 else if p < 17 then s.get .DMA_CLASS d (p - 9) else 15
  else
    if p < 8 then s.get .DMA_CLASS d p
    else if p = 8 then 4
    else if p < 13 then 5
    else if p = 15 then 6
    else if d = 7 then 15
    else if p = 16 then 7
    else if p = 17 then 8
    else if p = 18 then 9
    else 15

/-- A request of a master port at a 40-bit address. -/
def State.request (s : State) (d p addr : Nat) (write : Bool) (len data : Nat) : FabReq :=
  ⟨d, p, s.masterClass d p, bitsAt addr 36 4, bitsAt addr 32 4, bitsAt addr 0 32, write, len, data, 0, 0⟩

/-- Master `p` of a die exists and may issue: the axolotl and the host bridge stand on die 6 alone, and ingress ports pass on what
others issued (R19, R207). -/
def canIssue (d p : Nat) : Bool := if d < 6 then p < 17 else if d = 6 then p < 13 || (16 ≤ p && p < 19) else p < 13

/-- A master may issue now: the tail while it is not in reset (R388), the gill while it writes no snapshot (R470), neither of them nor
the host port after a thermal trip of die 6 (R451); none in power-on reset (R461). -/
def State.mayIssue (s : State) (d p : Nat) : Bool :=
  canIssue d p && !s.on .IN_PORST 6 0 && !(d == 6 && ((p == 17 && s.get .AXO_STATUS_TAIL 6 0 != 2) || (p == 16 && s.on .SNAP_BUSY 6 0) ||
    (16 ≤ p && s.on .THERM_STATUS_TRIPPED 6 0)))

/-- A unit field names this package (R24). -/
def State.ownUnit (s : State) (u : Nat) : Bool := u == 15 || u == s.get .RING_STATUS_ADDR 6 0

/-- A remote unit can be reached: this package has an address, which is not 15, and the unit is enumerated (R24, R25; log
entry 90). -/
def State.unitPresent (s : State) (u : Nat) : Bool :=
  s.get .RING_STATUS_ADDR 6 0 != 15 && bitAt (s.get .RING_PRESENT 6 0) u == 1

/-- The answer of an access is set. -/
def State.reply (s : State) (data : Nat) (err : Bool) : State := { s with answer := ⟨data, err⟩ }

/-- Master port at the logging die. -/
def FabReq.portAt (r : FabReq) (d : Nat) : Nat := if d = r.die then r.port else ingressPort r.die d

/-- A record of FAB_DERR: the first while VALID = 0, else the overflow counter; FAB_DECODE for every one (R213, R227). -/
def State.logDecode (s : State) (r : FabReq) (d cause : Nat) : State :=
  let s1 := if s.get .FAB_DERR_VALID d 0 = 0 then
      ((((((((s.put .FAB_DERR_ADDR d 0 r.loc).put .FAB_DERR_DIE d 0 r.tdie).put .FAB_DERR_UNIT d 0 r.unit).put .FAB_DERR_PORT d 0
        (r.portAt d)).put .FAB_DERR_ORIGIN d 0 r.die).put .FAB_DERR_CLASS d 0 r.cls).put .FAB_DERR_WRITE d 0 (flag r.write)).put
          .FAB_DERR_CAUSE d 0 cause).put .FAB_DERR_VALID d 0 1
    else s.incSat .FAB_DERR_OVF d 0 1
  (s1.fault .FAB_DECODE d 0 (r.portAt d)).reply 0 true

/-- The target port of a place, the INSTANCE of FAB_PERM_DENY (R208). -/
def targetPort (d : Nat) (p : Place) (portA : Bool) : Nat :=
  if d < 6 then
    match p with
    | .sram _ a => a / 0x800000
    | .newtMem _ _ => 4
    | .reg .newt _ _ => 4
    | .reg _ _ _ => 5
    | _ => 10
  else
    match p with
    | .sram _ _ => if portA then 0 else 1
    | .ring _ => 2
    | .reg _ _ _ => 3
    | _ => 7

/-- The SRAM port a request is served on: 0 A, 1 B (R189, R208). -/
def FabReq.bankPort (r : FabReq) : Nat :=
  if r.tdie < 6 ∨ r.die ≠ r.tdie then 1 else if r.port < 8 ∨ 16 ≤ r.port then 0 else 1

/-- A record of FAB_PERR and its fault (R213, R217). -/
def State.logPerm (s : State) (r : FabReq) (p : Place) (cause : Nat) : State :=
  let d := r.tdie
  let s1 := if s.get .FAB_PERR_VALID d 0 = 0 then
      ((((((((s.put .FAB_PERR_ADDR d 0 r.loc).put .FAB_PERR_DIE d 0 r.tdie).put .FAB_PERR_UNIT d 0 r.unit).put .FAB_PERR_PORT d 0
        (r.portAt d)).put .FAB_PERR_ORIGIN d 0 r.die).put .FAB_PERR_CLASS d 0 r.cls).put .FAB_PERR_WRITE d 0 (flag r.write)).put
          .FAB_PERR_CAUSE d 0 cause).put .FAB_PERR_VALID d 0 1
    else s.incSat .FAB_PERR_OVF d 0 1
  (s1.fault .FAB_PERM_DENY d 0 (targetPort d p (r.bankPort == 0))).reply 0 true

/-- FAB_PERM permits the access (R216). -/
def State.permits (s : State) (d cls tc : Nat) (write : Bool) : Bool :=
  bitAt (s.get .FAB_PERM d cls) (2 * tc + if write then 1 else 0) == 1

/-- An aligned 32-bit access, as register space takes it (R4). -/
def FabReq.isWord (r : FabReq) : Bool := r.len == 4 && r.loc % 4 == 0

/-- A burst within R209. -/
def FabReq.isBurst (r : FabReq) : Bool :=
  0 < r.len && (r.loc % 16 + r.len + 15) / 16 ≤ 16 && r.loc / 4096 == (r.loc + r.len - 1) / 4096

/-- A place takes an access of this shape (R4, R209). -/
def Place.takes (p : Place) (r : FabReq) : Bool :=
  match p with
  | .reg _ _ _ => r.isWord
  | _ => r.isBurst

/-- Where a request ends up: refused (the answer and the logs are set), a place of a die of this package, another unit. -/
inductive Route where
  | refused
  | here (p : Place)
  | remote
deriving DecidableEq, Repr

/-- No register stands at a place of register space (R30); a page of the tail memory window above 27 is none (R411). -/
def State.missing (s : State) (d : Nat) (p : Place) : Bool :=
  match p with
  | .reg b bi off =>
    if b = .axo ∧ 0x10000 ≤ off ∧ off < 0x20000 then 28 ≤ s.get .AXO_TWIN 6 0 else (regFind d b bi off).isNone
  | _ => false

/-- An access that the issuing die's stopped clock lets through: the MDLL block of die 6, from the axolotl and the host
bridge (R309). -/
def FabReq.sidePath (r : FabReq) : Bool :=
  r.die == 6 && 16 ≤ r.port && r.tdie == 6 &&
    match place 6 r.loc with
    | .reg .mdll _ _ => true
    | _ => false

/-- The target die's checks: gill-only resources, the maps, the shape, permission (R213, R217, R218). -/
def State.fabTarget (s : State) (r : FabReq) : State × Route :=
  let p := place r.tdie r.loc
  if gillOnly p r.write ∧ r.cls ≠ 7 then (s.logPerm r p 1, .refused)
  else if p = .nothing ∨ s.missing r.tdie p = true then (s.logDecode r r.tdie 0, .refused)
  else if p.takes r = false then (s.logDecode r r.tdie 0, .refused)
  else if s.permits r.tdie r.cls (p.cls r.tdie) r.write = false then (s.logPerm r p 0, .refused)
  else (s, .here p)

/-- The links whose flits carry an access's data, each as the die that receives and its own number of the link: of the request for
a write, of the response for a read. An access to another unit leaves by die 6. -/
def State.dataLinks (s : State) (r : FabReq) : List (Nat × Nat) :=
  let far := if s.ownUnit r.unit then r.tdie else 6
  (if r.write then route r.die far else route far r.die).filterMap fun q => linkPeer q.1 q.2

/-- The flits of an access received with wrong bits. -/
def State.flitsOf (s : State) (r : FabReq) : List BadFlit :=
  s.badFlits.filter fun f => (s.dataLinks r).contains (f.die, f.link)

/-- The access takes its flits: the next one's count from 0. -/
def State.takeFlits (s : State) (r : FabReq) : State :=
  { s with badFlits := s.badFlits.filter fun f => !(s.dataLinks r).contains (f.die, f.link) }.each (s.dataLinks r) fun q t =>
    t.put .LINK_FLITS q.1 q.2 0

/-- The target die's checks of a request that came over links: where it refuses it, the flits it brought are taken (R222). -/
def State.fabFar (s : State) (r : FabReq) : State × Route :=
  let q := s.fabTarget r
  if q.2 = .refused then (q.1.takeFlits r, .refused) else q

/-- All checks of a request (R24, R26, R213, R218, R309). -/
def State.fabCheck (s : State) (r : FabReq) : State × Route :=
  if s.dieClocked r.die = false then
    if r.sidePath ∧ s.ownUnit r.unit = true then s.fabTarget r else (s.reply 0 true, .refused)
  else if 8 ≤ r.tdie then (s.logDecode r r.die 1, .refused)
  else if s.ownUnit r.unit = false then
    if s.unitPresent r.unit = false then (s.logDecode r r.die 3, .refused)
    else if s.routeUp r.die 6 && s.dieClocked 6 then (s, .remote)
    else (s.logDecode r r.die 2, .refused)
  else if (s.routeUp r.die r.tdie && s.dieClocked r.tdie) = false then (s.logDecode r r.die 2, .refused)
  else s.fabFar r

/-! ### The crossbars a request passes (R208, R211, R220) -/

/-- The default target's port. -/
def defaultPort (d : Nat) : Nat := if d < 6 then 10 else 7

/-- The target port a request asks for on its target die: an offset that holds no register is the default target's (R30). -/
def State.targetAt (s : State) (r : FabReq) : Nat :=
  let p := place r.tdie r.loc
  if s.missing r.tdie p then defaultPort r.tdie else targetPort r.tdie p (r.bankPort == 0)

/-- The port of the issuing die's crossbar that a request asks for: a target, a link's egress, the Biray egress of an iguana die
(R357), or the default target, which answers what the issuing die refuses (R213). -/
def State.egress (s : State) (r : FabReq) : Nat :=
  if 8 ≤ r.tdie then defaultPort r.die
  else if s.ownUnit r.unit = false then
    if s.unitPresent r.unit = false ∨ s.routeUp r.die 6 = false then defaultPort r.die
    else if 6 ≤ r.die then 6 else linkEgress r.die 6
  else if r.tdie = r.die then s.targetAt r
  else if s.routeUp r.die r.tdie = false then defaultPort r.die
  else linkEgress r.die r.tdie

/-- The grants a request takes: crossbar, target port, master. A die it passes on its way has no part (R220). -/
def State.crossings (s : State) (r : FabReq) : List (Nat × Nat × Nat) :=
  let near := (r.die, s.egress r, r.port)
  if s.egress r = defaultPort r.die then [near]
  else if s.ownUnit r.unit = false then
    if r.die = 6 then [near] else [near, (6, 6, ingressPort r.die 6)]
  else if r.tdie = r.die then [near]
  else [near, (r.tdie, s.targetAt r, ingressPort r.die r.tdie)]

/-- A request has been granted at every crossbar it enters: each round moves on (R211). -/
def State.granted (s : State) (r : FabReq) : State :=
  s.when (s.dieClocked r.die = true) fun s0 => s0.each (s0.crossings r) fun q t => t.put .FAB_RR q.1 q.2.1 (q.2.2 + 1)

/-- A request enters the fabric: its grants, then its checks. -/
def State.fabEnter (s : State) (r : FabReq) : State × Route := (s.granted r).fabCheck r

/-- An access to memory that passed its checks (R187, R188, R194, R511, R512). -/
def State.memAccess (s : State) (r : FabReq) (p : Place) : State :=
  match p with
  | .sram k a =>
    if r.write then
      let q := s.bankWriteBytes r.tdie r.bankPort (r.portAt r.tdie) 0 k a 17 r.len r.data
      q.1.reply 0 q.2
    else
      let q := s.bankReadBytes r.tdie r.bankPort (r.portAt r.tdie) a 17 r.len
      q.1.reply q.2.1 q.2.2
  | .newtMem n off =>
    if r.write then
      let q := s.newtFabWrite r.tdie n off r.len r.data
      q.1.reply 0 q.2
    else
      let q := s.newtFabRead r.tdie n off r.len
      q.1.reply q.2.1 q.2.2
  | .ring off =>
    if r.write then (s.store r.tdie (0x50000000 + off) r.len r.data).reply 0 false
    else s.reply (s.load r.tdie (0x50000000 + off) r.len) false
  | _ => s.reply 0 true

/-! ### Data flits with wrong bits (R222) -/

/-- The wrong bits of a beat: a flit carries two (R219). -/
def beatWrong (l : List BadFlit) (i : Nat) : Nat :=
  l.foldl (fun x f => x ^^^ if f.index = i / 2 then f.wrong / 2 ^ (128 * (i % 2)) % 2 ^ 128 else 0) 0

/-- A beat gets an error response: an uncorrectable error was found in its flit. -/
def beatLost (l : List BadFlit) (i : Nat) : Bool := l.any fun f => f.found && f.index == i / 2

/-- Beats of a request. -/
def FabReq.beats (r : FabReq) : Nat := (r.loc % 16 + r.len + 15) / 16

/-- The wrong bits of an access's bytes. -/
def FabReq.wrong (r : FabReq) (l : List BadFlit) : Nat :=
  ((List.range r.beats).foldl (fun x i => x ||| beatWrong l i * 2 ^ (128 * i)) 0) / 256 ^ (r.loc % 16) % 256 ^ r.len

/-- An access with the data its links deliver (R222): with the wrong bits of bad flits, and an error response on their beats. -/
def State.overLinks (s : State) (r : FabReq) (f : FabReq → State → State) : State :=
  let l := s.flitsOf r
  if l = [] then f r (s.takeFlits r)
  else
    let w := r.wrong l
    let t := f (if r.write then { r with data := r.data ^^^ w } else r) (s.takeFlits r)
    t.reply (if r.write then t.answer.data else t.answer.data ^^^ w)
      (t.answer.err || (List.range r.beats).any fun i => beatLost l i)

/-- Bytes an engine reads over a port of a die's SRAM, with the checks of R187. -/
def State.sramEngineRead (s : State) (d port master a n : Nat) : State × List Nat :=
  if a + n ≤ sramSize d then
    let r := s.bankReadBytes d port master a (n / 16 + 2) n
    (r.1, natBytes n r.2.1)
  else (s, s.loadBytes d a n)

/-- A master's access to memory: an access elsewhere in the package gets an error response. -/
def State.fabMem (s : State) (r : FabReq) : State :=
  match s.fabEnter r with
  | (t, .here p) => t.overLinks r fun q u => u.memAccess q p
  | (t, .refused) => t
  | (t, .remote) => t.reply 0 true

/-! ### Posts (R130, R141) -/

/-- The request of a post to a slot (R130): a fabric write, marked as a post, to TONGUE_POST. -/
def State.postReq (s : State) (d p unit die clutch slot flags : Nat) : FabReq :=
  ⟨d, p, s.masterClass d p, unit, die, 0x40000000 + clutch * 0x10000 + slot * 4, true, 4, flags % 2 ^ 31, 0, 0⟩

/-- Flags posted to a target word by a master of a die (R130); `also` are the domains of the DMA chain the post ends (R225). A post
that no tongue takes is answered by a default target. -/
def State.post (s0 : State) (d p target flags dom also : Nat) : State :=
  let r := s0.postReq d p (bitsAt target 14 4) (bitsAt target 10 4) (bitsAt target 8 2) (bitsAt target 0 8) flags
  let s := s0.granted r
  if 8 ≤ r.tdie then s.logDecode r d 1
  else if s.ownUnit r.unit = false then
    if s.unitPresent r.unit then
      if s.routeUp d 6 && s.dieClocked 6 then s.remoteReq d p r.unit r.tdie r.loc true 4 r.data dom else s.logDecode r d 2
    else s.logDecode r d 3
  else if (s.routeUp d r.tdie && s.dieClocked r.tdie) = false then s.logDecode r d 2
  else if 6 ≤ r.tdie then s.logDecode r r.tdie 0
  else if s.permits r.tdie r.cls 5 true = false then s.logPerm r (.reg .tongue (bitsAt target 8 2) 0) 0
  else s.send (.post d p r.tdie (bitsAt target 8 2) (bitsAt target 0 8) r.data dom also)

/-! ### Parking (R212) -/

/-- FAB_PARK_APPLY: the target is idle, and the FAB_PARK value written takes effect. -/
def execFabParkApply (d target : Nat) (s : State) : Result :=
  .next <| s.when (s.dieClocked d = true ∧ s.get .FAB_PARKPEND d target = 1) fun t =>
    (t.put .FAB_PARKED d target (t.get .FAB_PARK_EN d target * 32 + t.get .FAB_PARK_MASTER d target)).put .FAB_PARKPEND d
      target 0

/-! ### Die links (R219 to R222) -/

/-- FAB_STAT.UP follows the state of a link. -/
def State.linkState (s : State) (d l v : Nat) : State :=
  (s.put .LINK_STATUS_STATE d l v).put .FAB_STAT_UP d 0 (setBits (s.get .FAB_STAT_UP d 0) l 1 (flag (v == 2)))

/-- Both ends of a link take a state. -/
def State.linkBoth (s : State) (d l v : Nat) : State :=
  match linkPeer d l with
  | none => s
  | some (c, k) => (s.linkState d l v).linkState c k v

/-- FAB_LINK_FAIL holds at both ends of a link or at neither. -/
def State.linkFail (s : State) (d l : Nat) (holds : Bool) : State :=
  match linkPeer d l with
  | none => s
  | some (c, k) => (s.condSet .FAB_LINK_FAIL d 0 l holds).condSet .FAB_LINK_FAIL c 0 k holds

/-- A message goes on VC 0 (R219). -/
def msgVc0 : Msg → Bool
  | .post _ _ _ _ _ _ _ _ | .partialSum _ _ _ _ _ _ _ _ _ | .biray _ _ _ => false
  | _ => true

/-- A post in flight that is lost is a request and gets an error response (R213, R221). -/
def State.loseMsg (s : State) (m : Msg) : State :=
  match m with
  | .post src p die c k flags _ _ => s.logDecode (s.postReq src p 15 die c k flags) src 2
  | _ => s

/-- Traffic in flight on a link that goes DOWN is lost (R221): VC 0 messages raise FAB_LINK_FAIL, in one cycle and so once (R438). -/
def State.loseMsgs (s : State) (d l : Nat) (lost : List Msg) : State :=
  let gone := lost.filter fun m => s.sent.contains m
  (s.each gone fun m t => (t.arrived m).loseMsg m).raises d 0 ((gone.filter msgVc0).map fun _ => ⟨.FAB_LINK_FAIL, l⟩)

/-- Both dies of a link run on their MDLLs; otherwise the link stays DOWN (R221, R307). -/
def State.linkClocked (s : State) (d c : Nat) : Bool := s.get .MDLL_STATUS_OUT d 0 == 1 && s.get .MDLL_STATUS_OUT c 0 == 1

/-- A training begins on a link (R221), with what was in flight on it. -/
def State.trainLink (s : State) (d l : Nat) (lost : List Msg) : State :=
  match linkPeer d l with
  | none => s
  | some (c, k) => s.when (s.linkClocked d c = true) fun s =>
    let s1 := ((s.loseMsgs d l lost).linkFail d l false).linkBoth d l 1
    (((s1.put .LINK_TRIES d l 0).put .LINK_TRIES c k 0).put .LINK_STATUS_TRIES d l 0).put .LINK_STATUS_TRIES c k 0

/-- LINK_RETRAIN (R221). -/
def execLinkRetrain (d l : Nat) (lost : List Msg) (s : State) : Result :=
  .next <| s.when (s.dieClocked d = true) fun s =>
    s.trainLink d l lost

/-- LINK_TRAINING_DONE (R221): an attempt ends with the latency it measured. -/
def execLinkTrainingDone (d l cyc : Nat) (s : State) : Result :=
  .next <|
    match linkPeer d l with
    | none => s
    | some (c, k) => s.when (s.get .LINK_STATUS_STATE d l = 1 ∧ s.linkClocked d c = true) fun s =>
        let n := s.get .LINK_TRIES d l + 1
        let s1 := ((((((s.put .LINK_TRIES d l n).put .LINK_TRIES c k n).put .LINK_STATUS_TRIES d l n).put .LINK_STATUS_TRIES c k
          n).put .LINK_LAT d l cyc).put .LINK_LAT c k cyc)
        if cyc = 24 then s1.linkBoth d l 2
        else if n < 3 then s1
        else (s1.linkBoth d l 3).linkFail d l true

/-- What the check of one 64-bit quarter of a flit finds (R222): 0 good, 1 corrected, 2 uncorrectable. -/
def quarterKind (mask : Nat) : Nat := (decodeCheck 0 mask).kind

/-- The quarters of a flit as received, with an injection in the first (R453). -/
def State.flitMasks (s : State) (d l : Nat) (masks : List Nat) : List Nat :=
  if s.get .FLT_INJ_COUNT d 320 ≠ 0 ∧ s.get .FLT_INJ_SEL d 320 = l then
    (masks.headD 0 ^^^ s.get .FLT_INJ_MASK d 320 * 2 ^ 64) :: masks.tail
  else masks

/-- The wrong bits that the check of a quarter leaves in its data (R186, R222): three or more wrong bits are open. -/
def quarterWrong (mask : Nat) : Nat :=
  if weight 72 mask ≤ 1 then 0 else if weight 72 mask = 2 then mask % 2 ^ 64 else Config.multiBit mask mask % 2 ^ 64

/-- The wrong bits of a data flit of four quarters. -/
def flitWrong (masks : List Nat) : Nat := (masks.take 4).foldr (fun m x => quarterWrong m + 2 ^ 64 * x) 0

/-- A message whose data flit has wrong bits is delivered with them (R222): a post with those of its flags; the sums of a partial, whose
places in its flits the spec does not give, are free values then. -/
def State.spoil (s : State) (m : Msg) (wrong : Nat) : State :=
  let put := fun (n : Msg) (t : State) => { t with sent := t.sent.map fun q => if q = m then n else q }
  match m with
  | .post a b c d e flags f g => put (.post a b c d e (flags ^^^ wrong % 2 ^ 31) f g) s
  | .partialSum a b c d e sums f g h =>
    (put (.partialSum a b c d e (sums.zipIdx.map fun x => s.free / 2 ^ (96 * x.2) % 2 ^ 96) f g h) s).drawn
  | _ => s

/-- FLIT_RECEIPT (R222): a flit on link `l` of a die; `isData` a data flit, else a header or VC 0 flit; `msg` the message it belongs to;
`masks` the wrong bits of its four quarters. The data flits of an access come before the command that is the access, in their order:
DESIGN CHOICE (log entry 104). -/
def execFlitReceipt (d l : Nat) (isData : Bool) (masks : List Nat) (msg : List Msg) (s : State) : Result :=
  let ms := s.flitMasks d l masks
  let ks := ms.map quarterKind
  let s1 := s.when (s.get .FLT_INJ_COUNT d 320 ≠ 0 ∧ s.get .FLT_INJ_SEL d 320 = l) fun t => t.dec .FLT_INJ_COUNT d 320 1
  let ce := (ks.filter fun k => k == 1).length
  let ue := ks.any fun k => k == 2
  let s2 := (s1.when (0 < ce) fun t => t.incSat .LINK_CE_CE_CNT d l ce).when (ue = true) fun t =>
    t.incSat .LINK_CE_UE_CNT d l 1
  let s3 := s2.raises d 0 ((if ue then [⟨.FAB_LINK_UE, l⟩] else []) ++ if 0 < ce then [⟨.FAB_LINK_CE, l⟩] else [])
  .next <| s.when (s.dieClocked d = true) fun _ =>
    if isData = false then (if ue then s3.each msg fun m t => t.arrived m else s3)
    else if msg ≠ [] then s3.when (flitWrong ms ≠ 0) fun t => t.each msg fun m u => u.spoil m (flitWrong ms)
    else
      (s3.when (flitWrong ms ≠ 0 ∨ ue = true) fun t =>
        { t with badFlits := t.badFlits ++ [⟨d, l, t.get .LINK_FLITS d l, flitWrong ms, ue⟩] }).inc .LINK_FLITS d l 1

end Sys2Proof.Machine
end

