-- ==== Sys2Proof/Machine/Dma.lean ====
section
/-! DEFINITION. The DMA engines (R214, R223 to R225) and the writer of the croak log (R152, R506). -/

namespace Sys2Proof.Machine

/-! ### Bursts beat by beat -/

/-- What a burst answers: its beats, and the index of the first beat that got an error. -/
structure Burst where
  st : State
  beats : List Nat
  bad : Option Nat

/-- Beats of a read from a place, from beat `i`. -/
def State.readBeats (s : State) (r : FabReq) (i : Nat) : Nat → Burst
  | 0 => ⟨s, [], none⟩
  | n + 1 =>
    let q := { r with loc := r.loc + 16 * i, len := 16, write := false }
    let t := s.memAccess q (place q.tdie q.loc)
    let u := t.readBeats r (i + 1) n
    ⟨u.st, t.answer.data :: u.beats, if t.answer.err then some i else u.bad⟩

/-- Beats of a write to a place, from beat `i`. -/
def State.writeBeats (s : State) (r : FabReq) (i : Nat) : List Nat → Burst
  | [] => ⟨s, [], none⟩
  | x :: t =>
    let q := { r with loc := r.loc + 16 * i, len := 16, write := true, data := x }
    let a := s.memAccess q (place q.tdie q.loc)
    let u := a.writeBeats r (i + 1) t
    ⟨u.st, [], if a.answer.err then some i else u.bad⟩

/-- A number as `n` beats of 16 bytes. -/
def beatsOf : Nat → Nat → List Nat
  | 0, _ => []
  | n + 1, v => v % 2 ^ 128 :: beatsOf n (v / 2 ^ 128)

/-- Beats as one number. -/
def joinBeats : List Nat → Nat
  | [] => 0
  | x :: t => x % 2 ^ 128 + 2 ^ 128 * joinBeats t

/-- A burst with the beats its links deliver: those of bad flits have wrong bits and an error (R222). -/
def Burst.marked (b : Burst) (l : List BadFlit) (n : Nat) : Burst :=
  let lost := (List.range n).find? fun i => beatLost l i
  ⟨b.st, b.beats.zipIdx.map fun x => x.1 ^^^ beatWrong l x.2,
    match b.bad, lost with
    | some i, some j => some (min i j)
    | some i, none => some i
    | none, j => j⟩

/-- A read burst of an engine; `far` are the responses of another unit that have not been used yet (data, error). -/
def State.burstRead (s : State) (r : FabReq) (far : List (Nat × Bool)) : Burst × List (Nat × Bool) :=
  match s.fabEnter r with
  | (t, .refused) => (⟨t, [], some 0⟩, far)
  | (t, .here _) => (((t.takeFlits r).readBeats r 0 (r.len / 16)).marked (t.flitsOf r) (r.len / 16), far)
  | (t, .remote) =>
    let f := far.headD (0, true)
    (⟨t.remoteReq r.die r.port r.unit r.tdie r.loc false r.len 0 3, beatsOf (r.len / 16) f.1, if f.2 then some 0 else none⟩, far.tail)

/-- A write burst of an engine. -/
def State.burstWrite (s : State) (r : FabReq) (beats : List Nat) (far : List (Nat × Bool)) : Burst × List (Nat × Bool) :=
  match s.fabEnter r with
  | (t, .refused) => (⟨t, [], some 0⟩, far)
  | (t, .here _) =>
    (((t.takeFlits r).writeBeats r 0 (beats.zipIdx.map fun x => x.1 ^^^ beatWrong (t.flitsOf r) x.2)).marked (t.flitsOf r) beats.length,
      far)
  | (t, .remote) =>
    (⟨t.remoteReq r.die r.port r.unit r.tdie r.loc true r.len (joinBeats beats) 3, [],
      if (far.headD (0, true)).2 then some 0 else none⟩, far.tail)

/-! ### Engines -/

/-- Word `i` of the descriptor the engine has read. -/
def State.descWord (s : State) (d e i : Nat) : Nat := s.get .DMA_DESC d (e * 8 + i)

/-- Source and destination global addresses of the descriptor (R223). -/
def State.descSrc (s : State) (d e : Nat) : Nat := s.descWord d e 0 + bitsAt (s.descWord d e 2) 0 8 * 2 ^ 32
def State.descDst (s : State) (d e : Nat) : Nat := s.descWord d e 1 + bitsAt (s.descWord d e 2) 8 8 * 2 ^ 32
def State.descLen (s : State) (d e : Nat) : Nat := bitsAt (s.descWord d e 3) 0 24

/-- DOMAIN of the descriptor; an engine started through DMA_START has none (R223). -/
def State.descDom (s : State) (d e : Nat) : Nat :=
  if s.on .DMA_BYREG d e then 3 else bitsAt (s.descWord d e 2) 16 2

/-- The chain is outstanding in the descriptor's domain too, and no longer in every domain (R225). -/
def State.chainDom (s : State) (d e : Nat) : Nat :=
  let D := s.descDom d e
  if D < 3 then setBit (s.get .DMA_DOM d e % 8) D else s.get .DMA_DOM d e % 8

/-- A descriptor that the engine refuses (R223): bits [3:0] of LEN, SRC or DST, or a bit of no field. -/
def State.descBad (s : State) (d e : Nat) : Bool :=
  let w := s.descWord d e
  w 0 % 16 != 0 || w 1 % 16 != 0 || w 3 % 16 != 0 || w 2 / 2 ^ 20 != 0 || w 3 / 2 ^ 24 != 0 || w 4 / 2 ^ 18 != 0 ||
    w 5 / 2 ^ 31 != 0 || w 6 % 32 != 0 || w 6 / 2 ^ 25 != 0 || w 7 != 0

/-- An engine meets an error at a global address (R225). -/
def State.dmaFail (s : State) (d e addr : Nat) : State := (s.put .DMA_PHASE d e 3).put .DMA_EADDR d e addr

/-- The chain ends; the next waiting kick starts (R224, R225). -/
def State.dmaNext (s : State) (d e : Nat) : State :=
  match s.kicksOf d e with
  | [] => (s.put .DMA_STATUS_BUSY d e 0).put .DMA_PHASE d e 0
  | k :: _ => ({ s.dec .DMA_STATUS_QDEPTH d e 1 with kicks := s.kicks.erase k }).dmaBegin k

/-- DMA_START with ABORT = 0 (R224): the class of the writer goes with the kick (R215). -/
def execDmaStart (d e desc cls : Nat) (s : State) : Result :=
  .next <| s.when (s.dieClocked d = true) fun s =>
    s.dmaKick ⟨d, e, desc * 32, cls, 3, true⟩

/-- DMA_DESCRIPTOR_READ (R223, R225). -/
def execDmaDescriptorRead (d e : Nat) (s : State) : Result :=
  .next <| s.when (s.dieClocked d = true ∧ s.get .DMA_PHASE d e = 1) fun s =>
    let a := s.get .DMA_CUR d e * 32
    let g := 15 * 2 ^ 36 + d * 2 ^ 32 + a
    let r := s.request d (dmaPort d e) g false 32 0
    let q := (s.burstRead r []).1
    match q.bad with
    | some i => q.st.dmaFail d e (g + 16 * i)
    | none =>
      let v := joinBeats q.beats
      let t := q.st.each (List.range 8) fun i u => u.put .DMA_DESC d (e * 8 + i) (v / 2 ^ (32 * i))
      if t.descBad d e then t.dmaFail d e g
      else
        (t.put .DMA_PHASE d e 2).put .DMA_DOM d e (t.chainDom d e)

/-- The engine moves bytes `[p, n)` of the transfer, in bursts within R209; an error stops it. -/
def State.dmaMove (s : State) (d e : Nat) (far : List (Nat × Bool)) : Nat → Nat → Nat → State
  | 0, _, _ => s
  | fuel + 1, p, n =>
    if n ≤ p then s
    else
      let a := s.descSrc d e + p
      let b := s.descDst d e + p
      let c := min (min 256 (n - p)) (min (4096 - a % 4096) (4096 - b % 4096))
      let x := s.burstRead (s.request d (dmaPort d e) a false c 0) far
      match x.1.bad with
      | some i => x.1.st.dmaFail d e (a + 16 * i)
      | none =>
        let y := x.1.st.burstWrite (x.1.st.request d (dmaPort d e) b true c 0) x.1.beats x.2
        match y.1.bad with
        | some i => y.1.st.dmaFail d e (b + 16 * i)
        | none => y.1.st.dmaMove d e y.2 fuel (p + c) n

/-- Every write of the descriptor has been acknowledged: the post, then NEXT, which is outstanding in every domain while it is read,
or the end of the chain (R223, R225). -/
def State.dmaFinish (s : State) (d e : Nat) : State :=
  let w2 := s.descWord d e 2
  let s1 := s.when (bitAt w2 18 = 1) fun t =>
    t.post d (dmaPort d e) (bitsAt (s.descWord d e 4) 0 18) (bitsAt (s.descWord d e 5) 0 31) (s.descDom d e) (s.get .DMA_DOM d e)
  if bitAt w2 19 = 1 then
    ((s1.put .DMA_CUR d e (bitsAt (s.descWord d e 6) 5 20)).put .DMA_PHASE d e 1).put .DMA_DOM d e
      (if s1.on .DMA_BYREG d e then 0 else 8 + s1.get .DMA_DOM d e % 8)
  else s1.dmaNext d e

/-- DMA_DESCRIPTOR_COMPLETE (R223, R225): the transfer runs; `far` answers its bursts to other units. With an error the
chain is not continued; DMA_ERROR follows. -/
def execDmaDescriptorComplete (d e : Nat) (far : List (Nat × Bool)) (s : State) : Result :=
  .next <| s.when (s.dieClocked d = true ∧ s.get .DMA_PHASE d e = 2) fun s =>
    let n := s.descLen d e
    let t := s.dmaMove d e far (n / 16 + 1) 0 n
    if t.get .DMA_PHASE d e = 3 then t else t.dmaFinish d e

/-- DMA_ERROR (R225): the record, the fault, the chain dropped without posting, the next kick. -/
def execDmaError (d e : Nat) (s : State) : Result :=
  .next <| s.when (s.dieClocked d = true ∧ s.get .DMA_PHASE d e = 3) fun s =>
    let s1 := (s.when (s.get .DMA_ERRADDR_VALID d e = 0) fun t =>
      (t.put .DMA_ERRADDR_ADDR d e (t.get .DMA_EADDR d e)).put .DMA_ERRADDR_VALID d e 1).put .DMA_STATUS_ERR d e 1
    (s1.fault .DMA_ERR d 0 e).dmaNext d e

/-! ### A master reset in mid-burst (R214, R197) -/

/-- A target notes a truncated write burst. -/
def State.tornAt (s : State) (r : FabReq) (d : Nat) : State :=
  (s.incSat .FAB_STAT_TORN_CNT d 0 1).fault .FAB_TORN d 0 (r.portAt d)

/-- The truncation flit of a write burst of `len` beats, of which `written` were accepted, at the target that the burst reached: a bank, a
place of the addressed die, the Biray egress of die 6 for another unit; of a refused burst the default target or the crossbar that
answers it (R210, R213). -/
def State.torn (s : State) (r : FabReq) (len written : Nat) : State :=
  match (s.fabCheck { r with write := true }).2 with
  | .here (.sram _ a) => (s.tornAt r r.tdie).tornBurst r.tdie (a / 16 * 16 + 16 * written) (r.portAt r.tdie) len written
  | .here _ => s.tornAt r r.tdie
  | .remote => s.tornAt r 6
  | .refused =>
    if 8 ≤ r.tdie ∨ s.ownUnit r.unit = false ∨ (s.routeUp r.die r.tdie && s.dieClocked r.tdie) = false then s.tornAt r r.die
    else s.tornAt r r.tdie

/-- A master is reset in a write burst of `len` beats at a request's address (0 for none): the beats accepted are written, the first
from the address on, and the rest is truncated. -/
def State.truncate (s : State) (r : FabReq) (len : Nat) (beats : List Nat) : State :=
  s.when (beats.length < len) fun s =>
    let n := beats.length
    let o := r.loc % 16
    (if n = 0 then s else s.fabMem { r with write := true, len := 16 * n - o, data := joinBeats beats / 256 ^ o }).torn
      { r with len := 16 * n - o } len n

/-- The engine's chain and queue are abandoned. -/
def State.dmaDrop (s : State) (d e : Nat) : State :=
  { (((s.put .DMA_STATUS_BUSY d e 0).put .DMA_PHASE d e 0).put .DMA_STATUS_QDEPTH d e 0) with
    kicks := s.kicks.filter fun k => !(k.die == d && k.engine == e) }

/-- DMA_ABORT (R214, R224): `moved` bytes of the descriptor had been written by whole beats; `len` is the length of the
write burst in progress, 0 for none, and `written` how many of its beats are among those; `far` answers the bursts to other units. -/
def execDmaAbort (d e moved len written : Nat) (far : List (Nat × Bool)) (s : State) : Result :=
  .next <| s.when (s.dieClocked d = true) fun s =>
    if s.get .DMA_PHASE d e = 2 then
      let t := s.dmaMove d e far (moved / 16 + 1) 0 (min moved (s.descLen d e))
      let b := s.descDst d e + moved - 16 * written
      (t.when (0 < len ∧ written < len) fun u => u.torn (u.request d (dmaPort d e) b true 16 0) len written).dmaDrop d e
    else s.dmaDrop d e

/-! ### The croak writer -/

/-- The request of a croak entry's write (R152): its index is SEQ mod 4,096. -/
def State.croakReq (s : State) (e : CroakEntry) : FabReq :=
  s.request e.die (4 + e.clutch)
    (15 * 2 ^ 36 + e.die * 2 ^ 32 + e.clutch * 0x800000 + s.get .CROAK_BASE e.die e.clutch * 0x10000 + e.seq % 4096 * 16) true
      16 (e.w0 + e.w1 * 2 ^ 32 + e.w2 * 2 ^ 64 + e.seq * 2 ^ 96)

/-- CROAK_ENTRY_WRITE (R152, R506): the oldest entry of the buffer is written; `readout` says that a DMA read burst over the
ring has been granted and has not returned its last beat. -/
def execCroakEntryWrite (d c : Nat) (readout : Bool) (s : State) : Result :=
  .next <| s.when (s.dieClocked d = true) fun s =>
    match s.croakOf d c with
    | [] => s
    | e :: _ =>
      if e.seq % 4096 = 4095 ∧ readout = true then
        { s with croak := s.croak.filter fun q => !(q.die == d && q.clutch == c) }
      else
        let t := { s with croak := s.croak.erase e }.fabMem (s.croakReq e)
        t.when (t.answer.err = true) fun u =>
          (u.incSat .CROAK_DROP d c 1).raises d c
            [⟨.TONGUE_CROAK_ERR, Config.noInstance⟩, ⟨.TONGUE_CROAK_DROP, Config.noInstance⟩]

end Sys2Proof.Machine
end

