-- ==== Sys2Proof/Machine/Fp.lean ====
section
/-! DEFINITION. The arithmetic of the lanes (R79 to R81, R111 to R120): values, the one rounding rule, fp32 and
accumulator formats. Every operation is computed exactly and rounded once. -/

namespace Sys2Proof.Machine

/-- A value a lane computes with: a finite non-zero value is (−1)^neg × sig × 2^exp with `sig` not zero. -/
inductive FpVal where
  | nan
  | inf (neg : Bool)
  | zero (neg : Bool)
  | fin (neg : Bool) (sig : Nat) (exp : Int)
deriving DecidableEq, Repr

/-- A lane's result with its flags invalid, overflow and underflow (R82). -/
structure FpRes where
  bits : Nat
  v : Bool
  o : Bool
  u : Bool
deriving DecidableEq, Repr

/-- A result that sets no flag. -/
def FpRes.plain (b : Nat) : FpRes := ⟨b, false, false, false⟩

/-- The canonical NaN, with the invalid flag (R80). -/
def FpRes.invalid : FpRes := ⟨0x7FC00000, true, false, false⟩

/-- Number of bits of a natural number. -/
def bitLen (n : Nat) : Nat := if n = 0 then 0 else Nat.log2 n + 1

/-- A fp32 word as a value; a subnormal reads as zero of its sign (R80). -/
def fpOf (b : Nat) : FpVal :=
  let neg := bitAt b 31 == 1
  let e := bitsAt b 23 8
  let f := bitsAt b 0 23
  if e = 255 then (if f = 0 then .inf neg else .nan)
  else if e = 0 then .zero neg
  else .fin neg (f + 2 ^ 23) ((e : Int) - 150)

/-- Sign bit of a fp32 word. -/
def fpNeg (b : Nat) : Bool := bitAt b 31 == 1

/-- The zero of a sign. -/
def fpZero (neg : Bool) : Nat := if neg then 0x80000000 else 0

/-- The infinity of a sign. -/
def fpInf (neg : Bool) : Nat := if neg then 0xFF800000 else 0x7F800000

/-- A signed integer N × 2^e as a value; exact zero is +0. -/
def fpOfInt (n : Int) (e : Int) : FpVal := if n = 0 then .zero false else .fin (n < 0) n.natAbs e

/-- Round to nearest, a tie toward +∞ (R81), keeping `p` significant bits, with an unbounded exponent. -/
def roundSig (p : Nat) (neg : Bool) (sig : Nat) (e : Int) : Nat × Int :=
  let l := bitLen sig
  if l ≤ p then (sig * 2 ^ (p - l), e - (p - l : Nat))
  else
    let k := l - p
    let n : Int := if neg then -(sig : Int) else sig
    let r := ((n + (2 ^ (k - 1) : Nat)) / ((2 ^ k : Nat) : Int)).natAbs
    if r = 2 ^ p then (2 ^ (p - 1), e + k + 1) else (r, e + k)

/-- A value delivered as fp32 (R80, R81). -/
def fpOut : FpVal → FpRes
  | .nan => FpRes.invalid
  | .inf n => FpRes.plain (fpInf n)
  | .zero n => FpRes.plain (fpZero n)
  | .fin n sig e =>
    let (m, x) := roundSig 24 n sig e
    let ex := x + 23
    if 127 < ex then ⟨fpInf n, false, true, false⟩
    else if ex < -126 then ⟨fpZero n, false, false, true⟩
    else FpRes.plain ((if n then 2 ^ 31 else 0) + (ex + 127).toNat * 2 ^ 23 + (m - 2 ^ 23))

/-- Sign inverted. -/
def FpVal.neg : FpVal → FpVal
  | .nan => .nan
  | .inf n => .inf !n
  | .zero n => .zero !n
  | .fin n s e => .fin (!n) s e

/-- Exact product (R80). -/
def FpVal.mul : FpVal → FpVal → FpVal
  | .nan, _ => .nan
  | _, .nan => .nan
  | .inf _, .zero _ => .nan
  | .zero _, .inf _ => .nan
  | .inf a, .inf b => .inf (a != b)
  | .inf a, .fin b _ _ => .inf (a != b)
  | .fin a _ _, .inf b => .inf (a != b)
  | .zero a, .zero b => .zero (a != b)
  | .zero a, .fin b _ _ => .zero (a != b)
  | .fin a _ _, .zero b => .zero (a != b)
  | .fin a s e, .fin b t f => .fin (a != b) (s * t) (e + f)

/-- Signed significand. -/
def sigInt (neg : Bool) (s : Nat) : Int := if neg then -(s : Int) else s

/-- Exact sum; an exact zero is +0 (R80). -/
def FpVal.add : FpVal → FpVal → FpVal
  | .nan, _ => .nan
  | _, .nan => .nan
  | .inf a, .inf b => if a = b then .inf a else .nan
  | .inf a, _ => .inf a
  | _, .inf b => .inf b
  | .zero _, .zero _ => .zero false
  | .zero _, .fin b t f => .fin b t f
  | .fin a s e, .zero _ => .fin a s e
  | .fin a s e, .fin b t f =>
    let m := min e f
    fpOfInt (sigInt a s * (2 ^ (e - m).toNat : Nat) + sigInt b t * (2 ^ (f - m).toNat : Nat)) m

/-- VMUL, VADD, VSUB and VFMA of one lane (R111). -/
def laneMul (a b : Nat) : FpRes := fpOut ((fpOf a).mul (fpOf b))
def laneAdd (a b : Nat) : FpRes := fpOut ((fpOf a).add (fpOf b))
def laneSub (a b : Nat) : FpRes := fpOut ((fpOf a).add (fpOf b).neg)
def laneFma (d a b : Nat) : FpRes := fpOut ((fpOf d).add ((fpOf a).mul (fpOf b)))

/-- A value as a comparable pair: a finite or infinite value is less than another when its key is. -/
def FpVal.lt : FpVal → FpVal → Bool
  | .nan, _ => false
  | _, .nan => false
  | .inf a, .inf b => a && !b
  | .inf a, _ => a
  | _, .inf b => !b
  | .zero _, .zero _ => false
  | .zero _, .fin b _ _ => !b
  | .fin a _ _, .zero _ => a
  | .fin a s e, .fin b t f =>
    let m := min e f
    sigInt a s * (2 ^ (e - m).toNat : Nat) < sigInt b t * (2 ^ (f - m).toNat : Nat)

/-- A fp32 word as delivered by an operation that moves a value: a subnormal is zero, a NaN the canonical one. -/
def fpPass (b : Nat) : FpRes :=
  match fpOf b with
  | .nan => FpRes.invalid
  | .zero n => FpRes.plain (fpZero n)
  | _ => FpRes.plain (b % 2 ^ 32)

/-- The lesser, with −0 less than +0 (R111). -/
def laneMin (a b : Nat) : FpRes :=
  match fpOf a, fpOf b with
  | .nan, _ => FpRes.invalid
  | _, .nan => FpRes.invalid
  | .zero m, .zero n => FpRes.plain (fpZero (m || n))
  | x, y => if x.lt y then fpPass a else fpPass b

/-- The greater, with +0 greater than −0 (R111). -/
def laneMax (a b : Nat) : FpRes :=
  match fpOf a, fpOf b with
  | .nan, _ => FpRes.invalid
  | _, .nan => FpRes.invalid
  | .zero m, .zero n => FpRes.plain (fpZero (m && n))
  | x, y => if y.lt x then fpPass a else fpPass b

/-- VABS: sign 0. -/
def laneAbs (a : Nat) : FpRes :=
  match fpOf a with
  | .nan => FpRes.invalid
  | _ => FpRes.plain (clearBit (fpPass a).bits 31)

/-- VNEG: sign inverted. -/
def laneNeg (a : Nat) : FpRes :=
  match fpOf a with
  | .nan => FpRes.invalid
  | _ => FpRes.plain ((fpPass a).bits ^^^ 2 ^ 31)

/-- The condition of VCMP (R113). -/
def laneCmp (cond a b : Nat) : Bool :=
  let x := fpOf a
  let y := fpOf b
  let un := x == .nan || y == .nan
  match cond with
  | 0 => !un && !x.lt y && !y.lt x
  | 1 => un || x.lt y || y.lt x
  | 2 => x.lt y
  | 3 => !un && !y.lt x
  | 4 => y.lt x
  | 5 => !un && !x.lt y
  | _ => un

/-- Whether a fp32 word is a NaN. -/
def fpNan (b : Nat) : Bool := fpOf b == .nan

/-! ### Accumulators (R79) -/

/-- An accumulator lane in the DBG_ACC layout as a value. -/
def accOf (b : Nat) : FpVal :=
  let e := bitsAt b 48 10
  let f := bitsAt b 0 48
  let neg := bitAt b 63 == 1
  if e = 1023 then (if f = 0 then .inf neg else .nan)
  else if e = 0 then .zero false
  else .fin neg f ((e : Int) - 558)

/-- The NaN of an accumulator: R79 fixes the exponent and a non-zero significand; sign and significand are free. -/
def accNan (acc a b : Nat) : Nat :=
  let x := Config.accNan acc a b
  x % 2 * 2 ^ 63 + 1023 * 2 ^ 48 + (1 + x / 2 % (2 ^ 48 - 1))

/-- A value stored in an accumulator, rounded to 48 bits (R79). `nan` is the pattern a NaN takes. -/
def accOut (nan : Nat) : FpVal → FpRes
  | .nan => ⟨nan, true, false, false⟩
  | .inf n => FpRes.plain ((if n then 2 ^ 63 else 0) + 1023 * 2 ^ 48)
  | .zero _ => FpRes.plain 0
  | .fin n sig e =>
    let (m, x) := roundSig 48 n sig e
    let ex := x + 558
    if 1022 < ex then ⟨(if n then 2 ^ 63 else 0) + 1023 * 2 ^ 48, false, true, false⟩
    else if ex < 1 then ⟨0, false, false, true⟩
    else FpRes.plain ((if n then 2 ^ 63 else 0) + ex.toNat * 2 ^ 48 + m)

/-- VMAC of one lane (R112): Z loads the product, N negates it. -/
def laneMac (z n : Bool) (acc a b : Nat) : FpRes :=
  let p := (fpOf a).mul (fpOf b)
  let q := if n then p.neg else p
  accOut (accNan acc a b) (if z then q else (accOf acc).add q)

/-- VRND of one lane (R115). -/
def laneRnd (acc : Nat) : FpRes := fpOut (accOf acc)

/-- An accumulator encoding R79 allows. Bits [62:58] count: a DBG_ACC write that sets one is an encoding R79 excludes and
stores +0 (R99; DESIGN CHOICE, log entry 117). -/
def accLegal (b : Nat) : Bool :=
  let e := bitsAt b 48 10
  let f := bitsAt b 0 48
  bitsAt b 58 5 == 0 && (e == 1023 || (e == 0 && f == 0 && bitAt b 63 == 0) || (1 ≤ e && e ≤ 1022 && bitAt b 47 == 1))

/-! ### Conversion, glide, reciprocal, division -/

/-- fp32 to fixed point with a shift (R116, DIR = 0). -/
def laneToFix (sh a : Nat) : FpRes :=
  match fpOf a with
  | .nan => ⟨0, true, false, false⟩
  | .inf n => ⟨if n then 0x80000000 else 0x7FFFFFFF, false, true, false⟩
  | .zero _ => FpRes.plain 0
  | .fin n sig e =>
    let x := e + (sh : Int)
    let m := sigInt n sig
    let r : Int := if 0 ≤ x then m * (2 ^ x.toNat : Nat)
      else (m + (2 ^ ((-x).toNat - 1) : Nat)) / ((2 ^ (-x).toNat : Nat) : Int)
    if r < -(2 ^ 31 : Nat) then ⟨0x80000000, false, true, false⟩
    else if ((2 ^ 31 - 1 : Nat) : Int) < r then ⟨0x7FFFFFFF, false, true, false⟩
    else FpRes.plain (unsigned 32 r)

/-- Fixed point to fp32 with a shift (R116, DIR = 1). -/
def laneFromFix (sh a : Nat) : FpRes := fpOut (fpOfInt (signed 32 a) (-(sh : Int)))

/-- VGLIDE of one lane (R117): the gain word and the state word after the step. -/
def laneGlide (gain target x st : Nat) : Nat × Nat :=
  let e := bitsAt x 23 8
  let zero := e == 0
  let sx := bitAt x 31
  let remain := bitsAt st 0 16
  let cross := zero || (bitAt st 17 == 1 && sx != bitAt st 16)
  let pend := bitAt st 18 == 1
  let fire := pend && (cross || remain == 0)
  let remain2 := if pend && !fire then remain - 1 else remain
  let pend2 := if fire then 0 else bitAt st 18
  let psign := if zero then bitAt st 16 else sx
  let pvalid := if zero then bitAt st 17 else 1
  (if fire then target else gain, remain2 + psign * 2 ^ 16 + pvalid * 2 ^ 17 + pend2 * 2 ^ 18)

/-- RCPS of one lane (R118). -/
def laneRcps (a : Nat) : FpRes :=
  match fpOf a with
  | .nan => FpRes.invalid
  | .inf n => FpRes.plain (fpZero n)
  | .zero n => ⟨fpInf n, false, true, false⟩
  | .fin n sig e =>
    let i := bitsAt sig 13 10
    let dv := 2049 + 2 * i
    let q := (2 ^ 25 + dv) / (2 * dv)
    fpOut (.fin n q (-13 - (e + 23)))

/-- The significand a division step takes of an operand (R119). -/
def divSig (b : Nat) : Nat :=
  match fpOf b with
  | .fin _ sig _ => sig
  | _ => 2 ^ 23

/-- DIVI of one lane: the words of D and D + 1 (R119). -/
def laneDivi (a : Nat) : Nat × Nat := (divSig a, 0)

/-- DIVS of one lane: the words of D and D + 1 (R119). -/
def laneDivs (d0 d1 b : Nat) : Nat × Nat :=
  let rem := bitsAt d0 0 25
  let steps := bitsAt d0 28 4
  let quo := bitsAt d1 0 26
  if 13 ≤ steps then (d0, d1)
  else
    let mb := divSig b
    let q := 2 * rem / mb
    ((4 * rem - 2 * q * mb) % 2 ^ 25 + (steps + 1) * 2 ^ 28, (quo * 4 ||| q) % 2 ^ 26)

/-- DIVF of one lane (R120). -/
def laneDivf (d0 d1 a b : Nat) : FpRes :=
  let n := fpNeg a != fpNeg b
  match fpOf a, fpOf b with
  | .nan, _ => FpRes.invalid
  | _, .nan => FpRes.invalid
  | .zero _, .zero _ => FpRes.invalid
  | .inf _, .inf _ => FpRes.invalid
  | .fin _ _ _, .zero _ => ⟨fpInf n, false, true, false⟩
  | .inf _, _ => FpRes.plain (fpInf n)
  | .zero _, _ => FpRes.plain (fpZero n)
  | _, .inf _ => FpRes.plain (fpZero n)
  | .fin _ _ ea, .fin _ _ eb =>
    let st := min (bitsAt d0 28 4) 13
    let q := bitsAt d1 0 26 * 2 ^ (2 * (13 - st))
    let big := 2 ^ 25 ≤ q
    let sig0 := if big then q / 4 else q / 2
    let g := if big then q / 2 % 2 else q % 2
    let e := if big then ea - eb else ea - eb - 1
    let sig1 := sig0 + g
    let sig := if sig1 = 2 ^ 24 then 2 ^ 23 else sig1
    let e2 := if sig1 = 2 ^ 24 then e + 1 else e
    if sig = 0 then FpRes.plain (fpZero n) else fpOut (.fin n sig (e2 - 23))

end Sys2Proof.Machine
end

