-- ==== Sys2Proof/Machine/Chorus.lean ====
section
/-! DEFINITION. The chorus (R158 to R184): crosspoint records, terms and 96-bit sums, changes of gain and route, group runs,
partials and bus homes. Group cells use the group as their instance, bus cells the bus, sums bus × 64 + offset, accumulation
sets bus × 4 + set. -/

namespace Sys2Proof.Machine

/-! ### Terms (R165 to R167) -/

/-- A term in units of 2⁻⁶⁴, and what it met: 0 nothing, 1 clamped, 2 NaN. -/
def term96 (x g : Nat) : Int × Nat :=
  match (fpOf x).mul (fpOf g) with
  | .nan => (0, 2)
  | .zero _ => (0, 0)
  | .inf n => (sigInt n (2 ^ 72 - 1), 1)
  | .fin n sig e =>
    let m := if 0 ≤ e + 64 then sig * 2 ^ (e + 64).toNat else sig / 2 ^ (-(e + 64)).toNat
    if 2 ^ 72 ≤ m then (sigInt n (2 ^ 72 - 1), 1) else (sigInt n m, 0)

/-- Addition of the 96-bit format (R166). -/
def add96 (a b : Nat) : Nat := (a + b) % 2 ^ 96

/-- The one rounding of a bus sample (R167). -/
def round96 (v : Nat) : Nat := (fpOut (fpOfInt (signed 96 v) (-64))).bits

/-! ### Gains of ramps and fades (R180) -/

/-- A gain is finite. -/
def gainFinite (g : Nat) : Bool :=
  match fpOf g with
  | .nan => false
  | .inf _ => false
  | _ => true

/-- A gain times `k`, over 2^`r`, exact. -/
def gainScale (g k r : Nat) : FpVal :=
  match fpOf g with
  | .fin n sig e => if k = 0 then .zero false else .fin n (sig * k) (e - r)
  | v => v

/-- The old route's gain at sample `j` of a fade over 2^`r`. -/
def fadeOld (gfrom j r : Nat) : Nat := if gainFinite gfrom then (fpOut ((gainScale gfrom (2 ^ r - 1 - j) r).add (.zero false))).bits else 0

/-- The new route's gain at sample `j` of a fade. -/
def fadeNew (g j r : Nat) : Nat := if gainFinite g then (fpOut ((gainScale g (j + 1) r).add (.zero false))).bits else g

/-- The gain at sample `j` of a ramp over 2^`r`. -/
def rampGain (gfrom g j r : Nat) : Nat :=
  if 2 ^ r ≤ j + 1 then g else (fpOut ((gainScale gfrom (2 ^ r - 1 - j) r).add (gainScale g (j + 1) r))).bits

/-! ### Records (R160, R161) -/

/-- A parameter record. `zeros` says that every field marked 0 is 0. -/
structure XpParam where
  src : Nat
  bus : Nat
  en : Bool
  mode : Nat
  evt : Bool
  tpar : Nat
  gain : Nat
  evtAt : Nat
  zeros : Bool
deriving DecidableEq, Repr

/-- The parameter record of a 128-bit number. -/
def XpParam.ofNat (v : Nat) : XpParam where
  src := bitsAt v 5 20
  bus := bitsAt v 32 9
  en := bitAt v 41 == 1
  mode := bitsAt v 42 2
  evt := bitAt v 44 == 1
  tpar := bitsAt v 48 16
  gain := bitsAt v 64 32
  evtAt := bitsAt v 96 32
  zeros := bitsAt v 0 5 == 0 && bitsAt v 25 7 == 0 && bitsAt v 45 3 == 0 && (bitsAt v 42 2 != 2 || bitsAt v 53 11 == 0)

/-- A state record. -/
structure XpState where
  gcur : Nat
  gfrom : Nat
  stgt : Nat
  cnt : Nat
  srlen : Nat
  psign : Nat
  pvalid : Nat
  pend : Bool
  ramp : Bool
  xf : Bool
  cen : Bool
  csrc : Nat
  cbus : Nat
  nsrc : Nat
  nbus : Nat
  nen : Bool
deriving DecidableEq, Repr

/-- The state record of a 256-bit number. -/
def XpState.ofNat (v : Nat) : XpState where
  gcur := bitsAt v 0 32
  gfrom := bitsAt v 32 32
  stgt := bitsAt v 64 32
  cnt := bitsAt v 96 21
  srlen := bitsAt v 117 5
  psign := bitAt v 122
  pvalid := bitAt v 123
  pend := bitAt v 124 == 1
  ramp := bitAt v 125 == 1
  xf := bitAt v 126 == 1
  cen := bitAt v 127 == 1
  csrc := bitsAt v 128 20
  cbus := bitsAt v 148 9
  nsrc := bitsAt v 160 20
  nbus := bitsAt v 180 9
  nen := bitAt v 189 == 1

/-- A state record as the chorus writes it. -/
def XpState.toNat (t : XpState) : Nat :=
  t.gcur % 2 ^ 32 + t.gfrom % 2 ^ 32 * 2 ^ 32 + t.stgt % 2 ^ 32 * 2 ^ 64 + t.cnt % 2 ^ 21 * 2 ^ 96 + t.srlen % 32 * 2 ^ 117 +
    t.psign % 2 * 2 ^ 122 + t.pvalid % 2 * 2 ^ 123 + flag t.pend * 2 ^ 124 + flag t.ramp * 2 ^ 125 + flag t.xf * 2 ^ 126 +
    flag t.cen * 2 ^ 127 + t.csrc % 2 ^ 20 * 2 ^ 128 + t.cbus % 512 * 2 ^ 148 + t.nsrc % 2 ^ 20 * 2 ^ 160 +
    t.nbus % 512 * 2 ^ 180 + flag t.nen * 2 ^ 189

/-! ### Changes (R178 to R181) -/

/-- Offset of the change sample C within the run's epoch at boundary `E`, where C lies in it (R179). -/
def changeAt (p : XpParam) (t : XpState) (E B : Nat) : Option Nat :=
  let d := signed 32 (unsigned 32 ((p.evtAt : Int) - (E : Int)))
  let c0 := if p.evt = false ∨ d < 0 then 0 else d.toNat
  let c := if t.xf then max c0 (2 ^ t.srlen - t.cnt) else c0
  if (p.evt = true ∧ (B : Int) ≤ d) ∨ B ≤ c then none else some c

/-- A route change (R178), the fade in progress having ended. -/
def routeChange (p : XpParam) (t : XpState) : Bool := p.en != t.cen || (p.en && (p.src != t.csrc || p.bus != t.cbus))

/-- At C, what differs takes effect (R180, R181). CNT is 0 while no ramp, fade or step is in progress, from C and from its end: DESIGN
CHOICE (log entry 140). -/
def applyChange (p : XpParam) (t : XpState) (xflen : Nat) : XpState :=
  let t1 := { t with stgt := p.gain, pend := false, ramp := false, cnt := 0 }
  if routeChange p t then
    { t1 with xf := true, gfrom := t.gcur, srlen := xflen, pvalid := 0, nen := p.en, nsrc := p.src, nbus := p.bus }
  else if p.gain = t.stgt then t
  else if p.mode = 0 then { t1 with gcur := p.gain }
  else if p.mode = 1 then { t1 with pend := true, cnt := p.tpar }
  else if gainFinite t.gcur && gainFinite p.gain then
    { t1 with gfrom := t.gcur, ramp := true, srlen := p.tpar % 32 }
  else { t1 with gcur := p.gain }

/-! ### Samples -/

/-- PSIGN and PVALID follow an input sample of the tracked route; a pending step is judged (R117, R180). -/
def track (t : XpState) (x : Nat) : XpState :=
  let r := laneGlide t.gcur t.stgt x (t.cnt % 2 ^ 16 + t.psign * 2 ^ 16 + t.pvalid * 2 ^ 17 + flag t.pend * 2 ^ 18)
  let t1 := { t with psign := bitAt r.2 16, pvalid := bitAt r.2 17 }
  if t.pend = false then t1
  else if bitAt r.2 18 = 1 then { t1 with cnt := bitsAt r.2 0 16 }
  else { t1 with gcur := r.1, pend := false, cnt := 0 }

/-- A term for a bus at a sample. -/
structure Term where
  bus : Nat
  value : Int
  kind : Nat
deriving DecidableEq, Repr

/-- The term a route adds at a sample; a bus that is not legal here takes none (R164). -/
def routeTerm (ok : Nat → Bool) (bus x g : Nat) : List Term :=
  if ok bus then [⟨bus, (term96 x g).1, (term96 x g).2⟩] else []

/-- One sample of a crosspoint that is in no fade. -/
def plainSample (ok : Nat → Bool) (input : Nat → Nat) (t : XpState) : XpState × List Term :=
  if t.cen = false then (t, [])
  else
    let x := input t.csrc
    let t1 := track t x
    let t2 :=
      if t1.ramp = false then t1
      else
        let g := rampGain t1.gfrom t1.stgt t1.cnt t1.srlen
        if 2 ^ t1.srlen ≤ t1.cnt + 1 then { t1 with gcur := g, ramp := false, cnt := 0 }
        else { t1 with gcur := g, cnt := t1.cnt + 1 }
    (t2, routeTerm ok t2.cbus x t2.gcur)

/-- One sample of a fade (R180): the old route, the new route, and the end of the fade. -/
def fadeSample (ok : Nat → Bool) (input : Nat → Nat) (t : XpState) : XpState × List Term :=
  let g := fadeOld t.gfrom t.cnt t.srlen
  let t1 := if t.cen then { t with gcur := g } else t
  let old := if t.cen then routeTerm ok t.cbus (input t.csrc) g else []
  let t2 := if t.nen then track t1 (input t.nsrc) else t1
  let new := if t.nen then routeTerm ok t.nbus (input t.nsrc) (fadeNew t.stgt t.cnt t.srlen) else []
  let t3 :=
    if 2 ^ t.srlen ≤ t.cnt + 1 then
      { t2 with xf := false, cnt := 0, cen := t.nen, csrc := t.nsrc, cbus := t.nbus, gcur := t.stgt }
    else { t2 with cnt := t.cnt + 1 }
  (t3, old ++ new)

/-- The samples of a run, from offset `k`: the record after them, and the terms of each sample. -/
def runSamples (p : XpParam) (xflen : Nat) (c : Option Nat) (ok : Nat → Bool) (input : Nat → Nat → Nat) :
    Nat → Nat → XpState → XpState × List (List Term)
  | 0, _, t => (t, [])
  | n + 1, k, t =>
    let t1 := if c = some k then applyChange p t xflen else t
    let r := if t1.xf then fadeSample ok (fun a => input a k) t1 else plainSample ok (fun a => input a k) t1
    let q := runSamples p xflen c ok input n (k + 1) r.1
    (q.1, r.2 :: q.2)

/-- The terms a crosspoint adds to a bus at its busiest sample (R166). -/
def busiest (b : Nat) (l : List (List Term)) : Nat :=
  l.foldl (fun m x => max m (x.filter fun q => q.bus == b).length) 0

/-! ### Runs (R159, R162, R164, R170) -/

/-- A bus may take terms of a group of domain `D` on this die (R164). -/
def State.busOk (s : State) (d D b : Nat) : Bool :=
  s.on .BUS_EN_EFF d b && s.get .BUS_CFG_DOMAIN d b == D && s.on .BUS_CFG_TX d b

/-- A record with EN = 1 that R164 allows. SRC always names an address of the clutch SRAM: that it lies outside is read of the block's
last byte, DEDUCED (log entry 108). -/
def State.xpLegal (s : State) (d D B : Nat) (p : XpParam) : Bool :=
  p.src * 32 + 4 * B ≤ 0x2000000 && p.zeros && p.mode != 3 && (p.mode != 2 || p.tpar % 32 ≤ 20) && s.busOk d D p.bus

/-- Die-local address of a crosspoint. -/
def State.xpAddr (s : State) (d x : Nat) : Nat := s.get .CHORUS_XP_BASE d 0 * 0x10000 + x * 64

/-- The chorus reads a range over its path to port B of the banks (R208). -/
def State.chorusRead (s : State) (d a n : Nat) : State × Nat :=
  let r := s.bankReadBytes d 1 8 a (n / 16 + 2) n
  (r.1, r.2.1)

/-- Read the source blocks at the given addresses (bits [24:5]). -/
def State.chorusBlocks (s : State) (d B : Nat) : List Nat → State × List (Nat × Nat)
  | [] => (s, [])
  | a :: t =>
    let r := s.chorusRead d (a * 32) (4 * B)
    let q := r.1.chorusBlocks d B t
    (q.1, (a, r.2) :: q.2)

/-- Sample `k` of a source block that was read. -/
def sampleOf (l : List (Nat × Nat)) (a k : Nat) : Nat :=
  match l.find? fun x => x.1 == a with
  | some x => bitsAt x.2 (32 * k) 32
  | none => 0

/-- The source blocks a run of a crosspoint may need. -/
def sourcesOf (p : XpParam) (t : XpState) : List Nat :=
  ((if t.cen then [t.csrc] else []) ++ (if t.xf && t.nen then [t.nsrc] else []) ++ (if p.en then [p.src] else [])).eraseDups

/-- Terms join the die's partials; a partial already released takes none. -/
def State.addTerms (s : State) (d k : Nat) (l : List Term) : State :=
  s.each l fun q t => t.when (t.get .BUS_RELD d q.bus = 0) fun u =>
    u.put .XSUM d (q.bus * 64 + k) (add96 (u.get .XSUM d (q.bus * 64 + k)) (unsigned 96 q.value))

/-- Terms of all samples, from offset `k`. -/
def State.addSamples (s : State) (d : Nat) : Nat → List (List Term) → State
  | _, [] => s
  | k, l :: t => (s.addTerms d k l).addSamples d (k + 1) t

/-- A run has the crosspoint in a fade at one sample or more (R170). -/
def inFade (p : XpParam) (t : XpState) (E B : Nat) : Bool := t.xf || ((changeAt p t E B).isSome && routeChange p t)

/-- What a run found: the buses of its clamped and NaN terms; crosspoints processed, those in a fade, the illegal ones. -/
structure RunLog where
  sat : List Nat
  nan : List Nat
  xps : Nat
  fades : Nat
  bad : Nat
deriving DecidableEq, Repr

/-- One crosspoint of a run of group domain `D`, epoch boundary `E` (R164, R178 to R181). A record with EN = 0 and CEN = 0 whose fade is in
progress is processed, and the fade goes on: DESIGN CHOICE (log entry 144). -/
def State.runXp (s : State) (d D E B copy x : Nat) (l : RunLog) : State × RunLog :=
  let a := s.xpAddr d x
  if s.get .CHORUS_XP_CNT d 0 ≤ x then (s, { l with bad := l.bad + 1 })
  else
    let r := s.chorusRead d (a + 16 * copy) 16
    let q := r.1.chorusRead d (a + 32) 32
    let p := XpParam.ofNat r.2
    let t := XpState.ofNat q.2
    if p.en = false ∧ t.cen = false ∧ t.xf = false then (q.1, l)
    else if p.en = true ∧ q.1.xpLegal d D B p = false then (q.1, { l with bad := l.bad + 1 })
    else
      let b := q.1.chorusBlocks d B (sourcesOf p t)
      let o := runSamples p (s.get .CHORUS_CFG_XFLEN d 0) (changeAt p t E B) (fun n => b.1.busOk d D n) (sampleOf b.2) B 0 t
      let terms := o.2.flatten
      let s1 := b.1.addSamples d 0 o.2
      let s2 := s1.each (terms.map fun y => y.bus).eraseDups fun n u =>
        u.when (u.get .BUS_RELD d n = 0) fun v => v.inc .BUS_TERMS d n (busiest n o.2)
      let s3 := s2.each terms fun y u =>
        (u.when (y.kind = 1 ∧ u.get .BUS_RELD d y.bus = 0) fun v => v.put .BUS_PSAT d y.bus 1).when
          (y.kind = 2 ∧ u.get .BUS_RELD d y.bus = 0) fun v => v.put .BUS_PNAN d y.bus 1
      ((s3.bankWriteBytes d 1 8 0 0 (a + 32) 4 32 o.1.toNat).1,
        { l with
          sat := l.sat ++ (terms.filter fun y => y.kind == 1).map fun y => y.bus
          nan := l.nan ++ (terms.filter fun y => y.kind == 2).map fun y => y.bus
          xps := l.xps + 1
          fades := l.fades + flag (inFade p t E B) })

/-- Crosspoints `x … x+n-1` of a run. -/
def State.runXps (s : State) (d D E B copy : Nat) : Nat → Nat → RunLog → State × RunLog
  | 0, _, l => (s, l)
  | n + 1, x, l =>
    let r := s.runXp d D E B copy x l
    r.1.runXps d D E B copy n (x + 1) r.2

/-- The counters of a run, and its raises: one for each illegal crosspoint and each term that was clamped or NaN, in cycles of their
own, in the order illegal, clamped, NaN: DESIGN CHOICE (log entry 138) (R164, R165, R184). -/
def State.runFaults (s : State) (d g : Nat) (l : RunLog) : State :=
  let s1 := ((s.incSat .CHORUS_SAT_CNT d 0 l.sat.length).incSat .CHORUS_NAN_CNT d 0 l.nan.length).incSat .CHORUS_BADXP_CNT d 0 l.bad
  ((s1.each (List.range l.bad) fun _ t => t.fault .CHORUS_BADXP d 0 g).each l.sat fun b t => t.fault .CHORUS_SAT d 0 b).each l.nan
    fun b t => t.fault .CHORUS_NAN d 0 b

/-! ### Homes (R174 to R177) -/

/-- This die is the home of a bus (R174). -/
def State.isHome (s : State) (d b : Nat) : Bool := s.ownUnit (s.get .BUS_HOME_UNIT d b) && s.get .BUS_HOME_DIE d b == d

/-- The boundary of the epoch in progress on a die, plus 1; 0 before the first. -/
def State.epochOf (s : State) (d D : Nat) : Nat := s.get .EP_SEEN d D

/-- Accumulation set of a bus for a boundary. -/
def State.setIx (s : State) (D b k : Nat) : Nat := b * 4 + k / s.bsize D % 4

/-- The home reduces a set: the samples are rounded, and the block goes to be written (R167, R174, R176). -/
def State.reduceSet (s : State) (d D b x : Nat) (incomplete : Bool) : State :=
  let k := s.get .ASET_B d x - 1
  let wide : Bool := 2 ^ 23 < s.get .ASET_TERMS d x
  let data := (List.range (s.bsize D)).map fun i => round96 (s.get .ASET_SUM d (x * 64 + i))
  let s1 := s.put .ASET_RED d x 1
  let s2 := s1.when (incomplete = true) fun t => (t.put .BUS_STAT_INCOMP d b 1).incSat .CHORUS_INCOMP_CNT d 0 1
  let s3 : State := s2.when (wide = true) fun t => (t.put .BUS_STAT_RANGE d b 1).incSat .CHORUS_SAT_CNT d 0 1
  let s4 := { s3 with blocks := s3.blocks ++ [BusBlock.mk d b k data] }
  s4.raises d 0 ((if incomplete then [Raise.mk FaultName.CHORUS_INCOMP b] else []) ++ if wide then [Raise.mk FaultName.CHORUS_SAT b] else [])

/-- Partials of a bus are discarded (R175), each with a raise of its own, in cycles of their own: DESIGN CHOICE (log entry 139). -/
def State.discardParts (s : State) (d b n : Nat) : State :=
  (s.incSat .CHORUS_BADPART_CNT d 0 n).each (List.range n) fun _ t => t.fault .CHORUS_PART_DISC d 0 b

/-- A set starts to hold a boundary, with no partial; those it held of another boundary that was not reduced are discarded (R175). -/
def State.takeSet (s : State) (d D b x k : Nat) : State :=
  let s0 := s.when (s.get .ASET_B d x ≠ 0 ∧ s.get .ASET_B d x ≠ k + 1 ∧ s.get .ASET_RED d x = 0) fun t =>
    t.discardParts d b (t.get .ASET_RCVD d x)
  let s1 := (((s0.put .ASET_B d x (k + 1)).put .ASET_RCVD d x 0).put .ASET_TERMS d x 0).put .ASET_RED d x 0
  s1.each (List.range (s.bsize D)) fun i t => t.put .ASET_SUM d (x * 64 + i) 0

/-- A discarded partial (R175). -/
def State.dropPartial (s : State) (d b : Nat) (late : Bool) : State :=
  (s.when (late = true) fun t => t.put .BUS_STAT_LATE d b 1).discardParts d b 1

/-- The sums of a partial join those of a set, from offset `i`. -/
def State.addSums (s : State) (d x : Nat) : Nat → List Nat → State
  | _, [] => s
  | i, v :: t => (s.put .ASET_SUM d (x * 64 + i) (add96 (s.get .ASET_SUM d (x * 64 + i)) v)).addSums d x (i + 1) t

/-- A partial joins the set that holds its boundary; the last expected one of the epoch in progress reduces it. -/
def State.joinSet (s : State) (d D b k : Nat) (sums : List Nat) (terms : Nat) (sat nan : Bool) : State :=
  let x := s.setIx D b k
  let s1 := ((s.addSums d x 0 sums).inc .ASET_TERMS d x terms).incSat .ASET_RCVD d x 1
  let s2 := (s1.when (sat = true) fun t => t.put .BUS_STAT_SAT d b 1).when (nan = true) fun t => t.put .BUS_STAT_NAN d b 1
  let now := s2.epochOf d D == k + 1
  let s3 := s2.when (now = true) fun t => t.put .BUS_STAT_RCVD d b (t.get .ASET_RCVD d x)
  s3.when (now = true ∧ s3.get .BUS_HOME_EXPECT d b ≤ s3.get .ASET_RCVD d x) fun t => t.reduceSet d D b x false

/-- A partial reaches a die (R175). One for a boundary older than the one its set holds, neither reduced nor older than the home's
current epoch, is discarded as late: DESIGN CHOICE (log entry 141). -/
def State.partialIn (s : State) (d D b k : Nat) (sums : List Nat) (terms : Nat) (sat nan : Bool) : State :=
  let x := s.setIx D b k
  let h := s.get .ASET_B d x
  if s.isHome d b = false ∨ s.get .BUS_EN_EFF d b = 0 then s.dropPartial d b false
  else if k + 1 < s.epochOf d D ∨ k + 1 < h ∨ (h = k + 1 ∧ s.get .ASET_RED d x = 1) then s.dropPartial d b true
  else if h = k + 1 then s.joinSet d D b k sums terms sat nan
  else
    let s1 := s.when (h ≠ 0 ∧ s.get .ASET_RED d x = 0 ∧ h = s.epochOf d D) fun t => t.reduceSet d D b x true
    (s1.takeSet d D b x k).joinSet d D b k sums terms sat nan

/-- Write a bus block to the home's clutch SRAM as bursts of the chorus' master port (R174, R207, R209). -/
def State.writeBlock (s : State) (d : Nat) : Nat → Nat → List Nat → State
  | 0, _, _ => s
  | fuel + 1, a, data =>
    if data = [] then s
    else
      let c := min 64 ((4096 - a % 4096) / 4)
      let now := data.take c
      let v := now.foldr (fun x y => x % 2 ^ 32 + 2 ^ 32 * y) 0
      (s.fabMem (s.request d 8 (15 * 2 ^ 36 + d * 2 ^ 32 + a) true (4 * now.length) v)).writeBlock d fuel (a + 4 * now.length)
        (data.drop c)

/-- The block is written; the consumer's post and kick are issued (R174). -/
def State.finishBlock (s : State) (d b k : Nat) (data : List Nat) : State :=
  let D := s.get .BUS_CFG_DOMAIN d b
  let s1 := (s.writeBlock d 3 (s.get .BUS_DEST d b * 32) data).put .BUS_WRITTEN d b (k + 1)
  let s2 := s1.when (s1.get .BUS_CONS_CEN d b = 1) fun t =>
    t.post d 8 (t.get .BUS_CONS_TARGET d b) (t.get .BUS_CFLAGS d b) D 0
  s2.when (s2.get .BUS_CONS_KEN d b = 1) fun t => t.chorusKick d (t.get .BUS_CONS_KGRP d b)

/-! ### Release (R171 to R173) -/

/-- The buses of a domain that a predicate picks. -/
def State.busesOf (s : State) (d D : Nat) : List Nat :=
  (List.range 512).filter fun b => s.on .BUS_EN_EFF d b && s.get .BUS_CFG_DOMAIN d b == D

/-- A partial is released toward its home (R171, R173); to another unit only in a ring-wide domain that the unit takes part in (R264). -/
def State.releaseBus (s : State) (d D b : Nat) : State :=
  let k := s.epochOf d D - 1
  let sums := (List.range (s.bsize D)).map fun i => s.get .XSUM d (b * 64 + i)
  let n := s.get .BUS_TERMS d b
  let sat := s.on .BUS_PSAT d b
  let nan := s.on .BUS_PNAN d b
  let u := s.get .BUS_HOME_UNIT d b
  let h := s.get .BUS_HOME_DIE d b
  let s1 := s.put .BUS_RELD d b 1
  if s.ownUnit u then
    if h = d then s1.partialIn d D b k sums n sat nan else (s1.msgGranted d 8 h).send (.partialSum d h b D k sums n sat nan)
  else s1.when (s1.addressed = true ∧ s1.ringPart D = true) fun t =>
    ((t.msgGranted d 8 6).put .FAB_RR 6 6 (ingressPort d 6 + 1)).birayFrom d frPartial u ([b + D * 512 + flag sat * 2048 + flag nan * 4096 + h * 8192] ++ words64 k ++ [n])
      ((sums.map fun x => natBytes 12 x).flatten)

/-- Release the partials of a domain not yet released, of one stage or of all. -/
def State.releaseAll (s : State) (d D : Nat) (stage : Option Nat) : State :=
  s.each ((s.busesOf d D).filter fun b => s.on .BUS_CFG_TX d b && (stage.isNone || stage == some (s.get .BUS_CFG_STAGE d b)))
    fun b t => t.when (t.get .BUS_RELD d b = 0) fun u => u.releaseBus d D b

/-- The enabled groups of a domain on a die. -/
def State.groupsOf (s : State) (d D : Nat) : List Nat :=
  (List.range 256).filter fun g => s.on .GRP_EN_EFF d g && s.get .GRP_CFG_DOMAIN d g == D

/-- Every enabled group of the domain with this stage or less has run or been abandoned (R171). -/
def State.stageDone (s : State) (d D stage : Nat) : Bool :=
  (s.groupsOf d D).all fun g => stage < s.get .GRP_CFG_STAGE d g || s.on .GRP_STAT_RAN d g || s.on .GRP_ABAND d g

/-- The release order's work once no run is in progress (R172). -/
def State.orderGo (s : State) (d D : Nat) : State :=
  let k := s.epochOf d D - 1
  let s1 := s.releaseAll d D none
  s1.each ((s1.busesOf d D).filter fun b => s1.isHome d b) fun b t =>
    let x := t.setIx D b k
    let u := if t.get .ASET_B d x = k + 1 then t else t.takeSet d D b x k
    u.when (u.get .ASET_RED d x = 0) fun v => v.reduceSet d D b x true

/-! ### Commands -/

/-- CHORUS_KICK (R169). -/
def execChorusKick (d g : Nat) (s : State) : Result := .next <| s.when (s.dieClocked d = true) fun s => s.chorusKick d g

/-- The next ready group of a die (R170), enabled and not yet run in its epoch (R168). -/
def State.nextReady (s : State) (d : Nat) : Option Nat :=
  (s.ready.find? fun x => x.1 == d && s.on .GRP_EN_EFF d x.2 && !s.on .GRP_STAT_RAN d x.2 && !s.on .GRP_ABAND d x.2).map fun x => x.2

/-- GROUP_RUN_START (R159, R170): the copy is selected for the whole run. -/
def execGroupRunStart (d : Nat) (s : State) : Result :=
  .next <| s.when (s.dieClocked d = true ∧ s.get .CHORUS_STATUS_BUSY d 0 = 0 ∧ s.get .CHORUS_CFG_EN d 0 = 1) fun s =>
    match s.nextReady d with
    | none => s
    | some g =>
      (({ s with ready := s.ready.erase (d, g) }.put .GRP_COPY d g (s.get .TB_GEN d (s.get .GRP_CFG_DOMAIN d g))).put .CHORUS_STATUS_BUSY d 0 1).put .CHORUS_STATUS_GROUP d 0 g

/-- GROUP_RUN_END (R162, R164 to R166, R170, R178 to R181): CHORUS_XSAMP counts a crosspoint in a fade twice (R170, R182). A run still in
progress at its domain's next epoch start ends with the boundary of the new epoch, as that epoch's run: DESIGN CHOICE (log entry 142). -/
def execGroupRunEnd (d : Nat) (s : State) : Result :=
  .next <| s.when (s.dieClocked d = true ∧ s.get .CHORUS_STATUS_BUSY d 0 = 1) fun s =>
    let g := s.get .CHORUS_STATUS_GROUP d 0
    let D := s.get .GRP_CFG_DOMAIN d g
    let B := s.bsize D
    let r := s.runXps d D (s.epochOf d D - 1) B (s.get .GRP_COPY d g) (s.get .GRP_RANGE_COUNT d g) (s.get .GRP_RANGE_FIRST d g)
      ⟨[], [], 0, 0, 0⟩
    let s1 := ((r.1.runFaults d g r.2).inc .CHORUS_XSAMP d 0 ((r.2.xps + r.2.fades) * B)).put .GRP_STAT_RAN d g 1
    (s1.put .CHORUS_STATUS_BUSY d 0 0).each [0, 1, 2] fun X t =>
      (t.when (t.get .REL_ORDER d X ≠ 0 ∧ t.get .REL_ORDER d X = t.epochOf d X) fun u => u.orderGo d X).put .REL_ORDER d X 0

/-- PARTIAL_RELEASE (R171, R173). -/
def execPartialRelease (d D stage : Nat) (s : State) : Result :=
  .next <| s.when (s.dieClocked d = true ∧ s.epochOf d D ≠ 0 ∧ s.stageDone d D stage = true) fun t => t.releaseAll d D (some stage)

/-- A message is a partial of these fields. -/
def Msg.isPartial (m : Msg) (d b D k : Nat) (sums : List Nat) (terms : Nat) (sat nan : Bool) : Bool :=
  match m with
  | .partialSum u _ _ _ _ _ _ _ _ => m == .partialSum u d b D k sums terms sat nan
  | _ => false

/-- PARTIAL_ARRIVAL (R175). -/
def execPartialArrival (d b D k : Nat) (sums : List Nat) (terms : Nat) (sat nan : Bool) (s : State) : Result :=
  .next <| s.receive (fun m => Msg.isPartial m d b D k sums terms sat nan) fun _ t => t.partialIn d D b k sums terms sat nan

/-- BUS_BLOCK_COMPLETE (R174). -/
def execBusBlockComplete (d b k : Nat) (s : State) : Result :=
  .next <| s.when (s.dieClocked d = true) fun s =>
    match s.blocks.find? fun x => x.die == d && x.bus == b && x.boundary == k with
    | none => s
    | some x => { s with blocks := s.blocks.erase x }.finishBlock d b k x.data

/-- RELEASE_ORDER_RECEIPT (R172). -/
def execReleaseOrderReceipt (d D k : Nat) (s : State) : Result :=
  .next <| s.receive (fun m => m == .releaseOrder d D k) fun _ s0 => s0.when (d < 6 ∧ s0.epochOf d D = k + 1) fun s =>
    let running := fun g => s.get .CHORUS_STATUS_BUSY d 0 == 1 && s.get .CHORUS_STATUS_GROUP d 0 == g
    let miss := (s.groupsOf d D).filter fun g => !s.on .GRP_STAT_RAN d g && !s.on .GRP_ABAND d g && !running g
    let s1 := s.each miss fun g t => (t.put .GRP_STAT_MISS d g 1).put .GRP_ABAND d g 1
    let s2 := { s1 with ready := s1.ready.filter fun x => !(x.1 == d && miss.contains x.2) }
    let s3 := (s2.incSat .CHORUS_GRPMISS_CNT d 0 miss.length).raises d 0 (miss.map fun g => ⟨.CHORUS_GRPMISS, g⟩)
    if s3.get .CHORUS_STATUS_BUSY d 0 = 1 then s3.put .REL_ORDER d D (k + 1) else s3.orderGo d D

/-! ### Epoch start -/

/-- The chorus of a die at an epoch start (R168, R169, R174, R182). A home with EXPECT = 0 also kicks KGRP: DESIGN CHOICE (log entry
143). -/
def State.chorusEpochStart (s : State) (d D k : Nat) : State :=
  let groups := (List.range 256).filter fun g =>
    s.get .GRP_CFG_DOMAIN d g == D && (s.on .GRP_CFG_EN d g || s.on .GRP_EN_EFF d g)
  let s0 := { s with ready := s.ready.filter fun x => !(x.1 == d && groups.contains x.2) }
  let s1 := s0.each groups fun g t =>
    (((t.put .GRP_EN_EFF d g (t.get .GRP_CFG_EN d g)).put .GRP_STAT_KICKS d g 0).put .GRP_STAT_RAN d g 0).put .GRP_ABAND d g 0
  let s2 := s1.each groups fun g t => t.when (t.get .GRP_EN_EFF d g = 1 ∧ t.get .GRP_CFG_NKICK d g = 0) fun u => u.groupReady d g
  let buses := (List.range 512).filter fun b =>
    s.get .BUS_CFG_DOMAIN d b == D && (s.on .BUS_CFG_EN d b || s.on .BUS_EN_EFF d b)
  let s3 := { s2 with cells := s2.cells.filter fun c =>
    !(c.1.fld == Fld.XSUM && c.1.die == d && buses.contains (c.1.inst / 64)) }
  let s4 := s3.each buses fun b t =>
    ((((t.put .BUS_EN_EFF d b (t.get .BUS_CFG_EN d b)).put .BUS_TERMS d b 0).put .BUS_PSAT d b 0).put .BUS_PNAN d b 0).put
      .BUS_RELD d b 0
  s4.each (buses.filter fun b => s4.on .BUS_EN_EFF d b && s4.isHome d b) fun b t =>
    let x := t.setIx D b k
    let held := t.get .ASET_B d x == k + 1
    let t1 := t.put .BUS_STAT_RCVD d b (if held then t.get .ASET_RCVD d x else 0)
    if t1.get .BUS_HOME_EXPECT d b = 0 then
      ((t1.takeSet d D b x k).put .ASET_RED d x 1).finishBlock d b k (List.replicate (t1.bsize D) 0)
    else t1.when (held = true ∧ t1.get .ASET_RED d x = 0 ∧ t1.get .BUS_HOME_EXPECT d b ≤ t1.get .ASET_RCVD d x) fun u =>
      u.reduceSet d D b x false

end Sys2Proof.Machine
end

