-- ==== Sys2Proof/Machine/Mdll.lean ====
section
/-! DEFINITION. The multiplying delay-line loops that make the dies' clocks. -/

namespace Sys2Proof.Machine

/-- MDLL_STATUS.STATE (R310). -/
abbrev mdllNoref : Nat := 0
abbrev mdllSearch : Nat := 1
abbrev mdllAlign : Nat := 2
abbrev mdllLocked : Nat := 3

/-- MDLL_STATUS.OUT (R310). -/
abbrev outGated : Nat := 0
abbrev outMdll : Nat := 1
abbrev outBypass : Nat := 2

/-- A condition of a die's MDLL begins or ends. -/
def State.mdllEnd (s : State) (n : FaultName) (d : Nat) : State :=
  s.when (s.live d 0 n = true) fun t => t.condEnd n d 0 Config.noInstance

/-- The output of a die changes; a thermal trip keeps it gated (R451). -/
def State.mdllOut (s : State) (d v : Nat) : State :=
  s.put .MDLL_STATUS_OUT d 0 (if s.on .THERM_STATUS_TRIPPED d 0 then outGated else v)

/-- The output leaves bypass. -/
def State.mdllUnbypass (s : State) (d v : Nat) : State := (s.mdllOut d v).mdllEnd .MDLL_BYPASS d

/-- The output switches to bypass (R305). -/
def State.mdllBypass (s : State) (d : Nat) : State :=
  if s.on .THERM_STATUS_TRIPPED d 0 then s
  else ((s.mdllOut d outBypass).put .MDLL_HIST_BYPASSED d 0 1).condBegin .MDLL_BYPASS d 0 Config.noInstance

/-- The output during a lock, under a LOLACT (R305). -/
def State.mdllAct (s : State) (d lolact : Nat) : State :=
  if lolact = 1 then s.mdllBypass d else s.mdllUnbypass d outGated

/-- A lock starts (R302). -/
def State.mdllStart (s : State) (d after : Nat) : State :=
  (((s.put .MDLL_STATUS_STATE d 0 mdllSearch).put .MDLL_STATUS_SEARCHES d 0 0).put .MDLL_T0 d 0 (s.capture d)).put
    .MDLL_AFTERLOSS d 0 after

/-- The links of a die go DOWN; `lost` is what was in flight on them, by link (R221). -/
def State.linksDown (s : State) (d : Nat) (lost : List (Nat × Msg)) : State :=
  s.each (List.range (linkCount d)) fun l t =>
    ((t.loseMsgs d l ((lost.filter fun (q : Nat × Msg) => q.1 == l).map fun (q : Nat × Msg) => q.2)).linkFail d l false).linkBoth d l 0

/-- Links of a die whose other end runs from its MDLL train (R221, R305), once the boot sequence has trained them for the first time (R462). -/
def State.linksTrain (s : State) (d : Nat) : State :=
  s.when (5 ≤ s.get .BOOT_STEP 6 0) fun s => s.each (List.range (linkCount d)) fun l t =>
    match linkPeer d l with
    | none => t
    | some (c, _) => t.when (t.get .MDLL_STATUS_OUT d 0 = outMdll ∧ t.get .MDLL_STATUS_OUT c 0 = outMdll) fun u =>
      u.trainLink d l []

/-- MDLL_RELOCK (R302, R305): MDLL_CTL.RELOCK. Ignored during a lock, and without a reference. -/
def execMdllRelock (d : Nat) (lost : List (Nat × Msg)) (s : State) : Result :=
  .next <| s.when (s.get .MDLL_STATUS_STATE d 0 = mdllLocked) fun t =>
    ((t.mdllAct d (t.get .MDLL_CFG d 0)).linksDown d lost).mdllStart d 0

/-- MDLL_SEARCH_END (R302, R503): a band search ends; `limit` says that the control word sits at a limit of the band. -/
def execMdllSearchEnd (d band limit : Nat) (s : State) : Result :=
  .next <| s.when (s.get .MDLL_STATUS_STATE d 0 = mdllSearch) fun t =>
    let u := (t.put .MDLL_STATUS_BAND d 0 band).incSat .MDLL_STATUS_SEARCHES d 0 1
    let v := u.when (t.get .MDLL_STATUS_SEARCHES d 0 ≠ 0) fun x =>
      (x.put .MDLL_HIST_MULTI d 0 1).fault .MDLL_MULTISEARCH d 0 Config.noInstance
    v.when (limit = 0) fun x => x.put .MDLL_STATUS_STATE d 0 mdllAlign

/-- MDLL_LOL (R304, R305): the phase error has exceeded ±100 ps on 8 cycles. -/
def execMdllLol (d : Nat) (lost : List (Nat × Msg)) (s : State) : Result :=
  .next <| s.when (s.get .MDLL_STATUS_STATE d 0 = mdllLocked) fun t =>
    let c := t.get .MDLL_CFG d 0
    let conds : List Raise := if c = 1 ∧ t.get .THERM_STATUS_TRIPPED d 0 = 0 then [⟨.MDLL_LOL, Config.noInstance⟩, ⟨.MDLL_BYPASS, Config.noInstance⟩]
      else [⟨.MDLL_LOL, Config.noInstance⟩]
    let u := ((t.put .MDLL_HIST_LOL d 0 1).put .MDLL_COMPAT d 0 c).signal d 0 [] conds
    ((u.mdllAct d c).linksDown d lost).mdllStart d 1

/-- MDLL_REFLOSS (R304, R305): no REFCLK100 edge for 25 ns; it counts as loss of lock too, and abandons a lock. -/
def execMdllRefloss (d : Nat) (lost : List (Nat × Msg)) (s : State) : Result :=
  .next <| s.when (s.get .MDLL_STATUS_STATE d 0 ≠ mdllNoref) fun t =>
    let u := (((t.put .MDLL_HIST_LOL d 0 1).put .MDLL_HIST_REFLOSS d 0 1).put .MDLL_COMPAT d 0 (t.get .MDLL_CFG d 0)).signal
      d 0 [] [⟨.MDLL_LOL, Config.noInstance⟩, ⟨.MDLL_REFLOSS, Config.noInstance⟩]
    (((u.mdllUnbypass d outGated).linksDown d lost).put .MDLL_STATUS_STATE d 0 mdllNoref).put .REFCLK_OK d 0 0

/-- REFCLK_RETURN (R302, R304, R305): REFCLK100 counts as returned, and a lock starts. -/
def execRefclkReturn (d : Nat) (s : State) : Result :=
  .next <| s.when (s.get .REFCLK_OK d 0 = 0) fun t =>
    let u := ((t.put .REFCLK_OK d 0 1).mdllEnd .MDLL_REFLOSS d).mdllStart d 1
    u.when (u.on .MDLL_COMPAT d 0 = true) fun v => v.mdllBypass d

/-- A cycle of a die's clock passes in this nanosecond: at 1 GHz from the MDLL, at 100 MHz in bypass (R305, R307). -/
def State.clockRuns (s : State) (d : Nat) : Bool :=
  s.get .MDLL_STATUS_OUT d 0 == outMdll || (s.get .MDLL_STATUS_OUT d 0 == outBypass && s.get .SUBNS d 0 == 9)

/-- MDLL_STALL counts the time gated or in bypass (R310), LOST_CYC the nanoseconds without a cycle of the clock, on which a
counter of cycles stands (R305, R307). -/
def State.stallTick (s : State) (d : Nat) : State :=
  s.when (s.get .MDLL_STATUS_OUT d 0 ≠ outMdll) fun t =>
    (t.incSat .MDLL_STALL d 0 1).when (s.get .REFCLK_OK d 0 ≠ 0 ∧ s.clockRuns d = false) fun u => u.inc .LOST_CYC d 0 1

end Sys2Proof.Machine
end

