-- ==== Sys2Proof/Machine/FaultCmd.lean ====
section
/-! DEFINITION. Escalation commands, the thermal and voltage monitors (R444 to R452). A fault register set is named by its die
and its block ID (R443). -/

namespace Sys2Proof.Machine

/-- A fault register set takes a write (R307, R309): its die's clock runs; die 6's own MDLL block is reached always. -/
def State.setTakes (s : State) (d set : Nat) : Bool := (d == 6 && set / 64 == 6) || s.dieClocked d

/-- Registers of a die answer the gill and CSF on die 6 (R307, R309): the die's clock runs and its route is UP; die 6's own
MDLL block is reached always. -/
def State.regsReach (s : State) (d set : Nat) : Bool :=
  (d == 6 && set / 64 == 6) || (s.dieClocked 6 && s.dieClocked d && s.routeUp 6 d)

/-- FLT_STATUS_ACK (R445, R446). -/
def execFltStatusAck (d set : Nat) (raise expiry : Bool) (s : State) : Result :=
  .next <| s.when (s.setTakes d set = true) fun t => t.ackStatus d set raise expiry

/-- ACK2 (R445, R446): a write of the gill. -/
def execAck2 (d set : Nat) (raise : Bool) (s : State) : Result :=
  .next <| s.when (s.gillFree = true ∧ s.regsReach d set = true) fun t => t.ackL2 d set raise

/-- CLR3 (R445): a write of the gill. A thermal trip holds L3 (R451). -/
def execClr3 (d set : Nat) (s : State) : Result :=
  .next <| s.when (s.gillFree = true ∧ s.regsReach d set = true ∧ ¬ (set / 64 = 7 ∧ s.on .THERM_STATUS_TRIPPED d 0 = true)) fun t => t.clearL3 d set

/-- The time a set has spent at its level. -/
def State.levelTime (s : State) (d set : Nat) : Nat := s.capture d - s.get .FLT_T0 d set

/-- GRACE_T1_EXPIRY (R444): T1 has passed at L1. -/
def execGraceT1Expiry (d set : Nat) (s : State) : Result :=
  .next <| s.when (s.get .FLT_STATUS_LEVEL d set = 1 ∧ s.grace1 d set ≤ s.levelTime d set) fun t => t.enterL2 d set

/-- GRACE_T2_EXPIRY (R444): T2 has passed at L2. -/
def execGraceT2Expiry (d set : Nat) (s : State) : Result :=
  .next <| s.when (s.get .FLT_STATUS_LEVEL d set = 2 ∧ s.grace2 d set ≤ s.levelTime d set) fun t => t.put .FLT_STATUS_LEVEL d set 3

/-- The gill finds the tail alive (R449). -/
def State.tailAlive (s : State) (d set : Nat) : Bool :=
  let t := s.get .AXO_STATUS_TAIL 6 0
  t == 0 || t == 1 || (t == 2 && s.on .FLT_STATUS_LATEACK d set)

/-- GILL_L2_CHECK (R449): the gill examines a set at L2. -/
def execGillL2Check (d set : Nat) (s : State) : Result :=
  .next <| s.when (s.get .FLT_STATUS_LEVEL d set = 2 ∧ s.gillFree = true ∧ s.tailAlive d set = true ∧ s.regsReach d set = true) fun t => t.ackL2 d set false

/-! ### The monitors -/

/-- Sensors of a die (R451). -/
def sensorCount (d : Nat) : Nat := if d < 6 then 8 else 4

/-- Signed 1/8 °C. -/
def tempOf (tj : Nat) : Int := signed 12 tj

/-- A reading of a sensor: THERM_TEMP, THERM_MAX, and THERM_SENSOR ends (R452). -/
def State.thermRead (s : State) (d sensor tj : Nat) : State :=
  let t := ((s.put .THERM_TEMP_TJ d sensor tj).put .THERM_TEMP_VALID d sensor 1).condEnd .THERM_SENSOR d 0 sensor
  t.when (tempOf (t.get .THERM_MAX d 0) < tempOf tj) fun u => u.put .THERM_MAX d 0 tj

/-- A reading reaches a threshold in °C. -/
def tempHigh (tj limit : Nat) : Bool := (8 * limit : Int) ≤ tempOf tj

/-- A threshold that a reading is below by more than the hysteresis of 3 °C ends its condition (R452). -/
def State.thermLow (s : State) (n : FaultName) (d sensor tj limit : Nat) : State :=
  if tempOf tj < 8 * (limit : Int) - 24 then s.condEnd n d 0 sensor else s

/-- The thresholds that a reading reaches, as the conditions that hold. -/
def State.thermConds (s : State) (d sensor tj : Nat) : List Raise :=
  (if tempHigh tj (s.get .THERM_CFG_HOT d 0) then [⟨.THERM_HOT, sensor⟩] else []) ++
    if tempHigh tj (s.get .THERM_CFG_WARN d 0) then [⟨.THERM_WARN, sensor⟩] else []

/-- The conditions that a reading ends. -/
def State.thermEnds (s : State) (d sensor tj : Nat) : State :=
  (s.thermLow .THERM_WARN d sensor tj (s.get .THERM_CFG_WARN d 0)).thermLow .THERM_HOT d sensor tj (s.get .THERM_CFG_HOT d 0)

/-- What a reading makes of THERM_WARN and THERM_HOT, with the conditions `more` that begin in the same cycle (R441, R452). -/
def State.thermLevels (s : State) (d sensor tj : Nat) (more : List Raise) : State :=
  (s.thermEnds d sensor tj).signal d 0 [] (more ++ s.thermConds d sensor tj)

/-- New thresholds judge the temperatures held (R452). -/
def State.thermJudge (s : State) (d : Nat) : State :=
  let valid := (List.range (sensorCount d)).filter fun k => s.on .THERM_TEMP_VALID d k
  (s.each valid fun k t => t.thermEnds d k (t.get .THERM_TEMP_TJ d k)).signal d 0 []
    (valid.map fun k => s.thermConds d k (s.get .THERM_TEMP_TJ d k)).flatten

/-- A sensor reads 125 °C or more on a die that has not tripped (R451). -/
def State.trips (s : State) (d tj : Nat) : Bool := 125 * 8 ≤ tempOf tj && !s.on .THERM_STATUS_TRIPPED d 0

/-- The thermal trip of a die (R451); `lost` is what was in flight on its links. -/
def State.thermTrip (s : State) (d sensor tj : Nat) (lost : List (Nat × Msg)) : State :=
  let u := ((s.thermRead d sensor tj).put .THERM_STATUS_TRIPPED d 0 1).put .THERM_STATUS_SENSOR d 0 sensor
  let v := ((u.mdllUnbypass d outGated).linksDown d lost).thermLevels d sensor tj [⟨.THERM_TRIP, sensor⟩]
  v.put .FLT_STATUS_LEVEL d (7 * 64) 3

/-- THERMAL_THRESHOLD (R452): a sensor reads `tj`; a reading that trips the die does so (R451), with `lost` in flight on its links. -/
def execThermalThreshold (d sensor tj : Nat) (lost : List (Nat × Msg)) (s : State) : Result :=
  .next <| s.when (s.get .IN_PORST 6 0 = 0 ∧ sensor < sensorCount d) fun s =>
    if s.trips d tj then s.thermTrip d sensor tj lost else (s.thermRead d sensor tj).thermLevels d sensor tj []

/-- THERM_TRIP (R451): a sensor reads 125 °C or more; `lost` is what was in flight on the die's links. -/
def execThermTrip (d sensor tj : Nat) (lost : List (Nat × Msg)) (s : State) : Result :=
  .next <| s.when (s.get .IN_PORST 6 0 = 0 ∧ sensor < sensorCount d ∧ s.trips d tj = true) fun t => t.thermTrip d sensor tj lost

/-- THERMTRIP_N is asserted (R451). -/
def State.thermtripN (s : State) : Bool := !s.pinsFloat && allDies.any fun d => s.on .THERM_STATUS_TRIPPED d 0

/-- Nominal voltage of a die's rail in mV, in the order of VMON (R452). -/
def railNominal (d rail : Nat) : Nat :=
  if d < 6 then (match rail with | 0 => 750 | 1 => 800 | 2 => 1800 | _ => 800)
  else (match rail with | 0 => 800 | 1 => 900 | 2 => 1200 | _ => 800)

/-- SENSOR_SELF_CHECK_FAILURE (R452). -/
def execSensorSelfCheckFailure (d sensor : Nat) (s : State) : Result :=
  .next <| s.when (s.get .IN_PORST 6 0 = 0 ∧ sensor < sensorCount d) fun t =>
    (t.put .THERM_TEMP_VALID d sensor 0).condBegin .THERM_SENSOR d 0 sensor

end Sys2Proof.Machine
end

