-- ==== Sys2Proof/Machine/Mailbox.lean ====
section
/-! DEFINITION. The mailboxes and the interrupts of the host ports (R401 to R409). -/

namespace Sys2Proof.Machine

/-! ### Interrupts to the host (R406 to R408) -/

/-- The MSI-X message of vector `v`: sent, or held in the PBA while masked (R407). -/
def State.msixSend (s : State) (v : Nat) : State :=
  if s.get .PCIE_MSIXEN 6 0 = 0 then s
  else if s.on .PCIE_FMASK 6 0 ∨ s.on .MSIX_CTRL 6 v then s.put .MSIX_PBA 6 0 (setBit (s.get .MSIX_PBA 6 0) v)
  else s.send (.msix (s.get .MSIX_ADDR 6 v + s.get .MSIX_UADDR 6 v * 2 ^ 32) (s.get .MSIX_DATA 6 v))

/-- An event of source `v` of HOST_IPEND (R406, R407). -/
def State.hostEvent (s : State) (v : Nat) : State :=
  (s.when (bitAt (s.get .HOST_IPEND 6 0) v = 0) fun t => t.msixSend v).put .HOST_IPEND 6 0 (setBit (s.get .HOST_IPEND 6 0) v)

/-- INT_N is asserted (R408). -/
def State.intN (s : State) : Bool := !s.pinsFloat && s.get .HOST_IPEND 6 0 &&& s.get .HOST_IMASK 6 0 != 0

/-- HOST_EVT_WRITE (R406): each 1 is an event of source 18 + k. -/
def execHostEvtWrite (evt : Nat) (s : State) : Result :=
  .next <| s.when (s.get .IN_PORST 6 0 = 0) fun s =>
    s.each ((List.range 14).filter fun k => bitAt evt k == 1) fun k t => t.hostEvent (18 + k)

/-- HOST_IPEND_CLEAR (R407): the bits of `mask` clear; `events` are the sources whose events fall in the same cycle. A bit
whose event coincides with its clear stays set, and its vector is sent again. -/
def execHostIpendClear (mask events : Nat) (s : State) : Result :=
  .next <| s.when (s.get .IN_PORST 6 0 = 0) fun s =>
    let t := s.put .HOST_IPEND 6 0 (s.get .HOST_IPEND 6 0 &&& ((2 ^ 32 - 1) ^^^ mask))
    t.each ((List.range 32).filter fun v => bitAt events v == 1) fun v u => u.hostEvent v

/-- A pending message goes at unmask if its HOST_IPEND bit is still 1 (R407). -/
def State.msixRelease (s : State) (v : Nat) : State :=
  s.when (bitAt (s.get .MSIX_PBA 6 0) v = 1 ∧ s.get .PCIE_FMASK 6 0 = 0 ∧ s.get .MSIX_CTRL 6 v = 0) fun t =>
    (t.put .MSIX_PBA 6 0 (clearBit (t.get .MSIX_PBA 6 0) v)).when (bitAt (t.get .HOST_IPEND 6 0) v = 1) fun u => u.msixSend v

/-- MSIX_UNMASK (R407): a vector's mask bit is cleared; 32 is the function mask. -/
def execMsixUnmask (vector : Nat) (s : State) : Result :=
  .next <| s.when (s.get .IN_PORST 6 0 = 0) fun s =>
    if vector = 32 then (s.put .PCIE_FMASK 6 0 0).each (List.range 32) fun v t => t.msixRelease v
    else (s.put .MSIX_CTRL 6 vector 0).msixRelease vector

/-- The interrupt line of the mailboxes to the tail, apart from the block's fault line (R409). -/
def State.mailboxLine (s : State) : Bool := s.get .HP_TPEND_CMD 6 0 != 0 || s.on .HP_TPEND_FLR 6 0

/-- HP_GILLREQ interrupts the gill while a request awaits it (R409, R410). -/
def State.gillLine (s : State) : Bool := s.on .HP_GILLREQ_PEND 6 0

/-! ### The rings (R403, R404, R409) -/

/-- The fill of a ring (R403). -/
def State.mbxFill (s : State) (r : Nat) : Nat := (s.get .MBX_PI 6 r + 128 - s.get .MBX_CI 6 r) % 128

/-- MBX_STAT.FILL follows the indices. -/
def State.mbxStat (s : State) (r : Nat) : State := s.put .MBX_STAT_FILL 6 r (s.mbxFill r)

/-- The side an index belongs to (R404): the host port writes PI of command rings and CI of response rings, the tail and the
gill the others. -/
def mbxSide (r cls : Nat) (pi : Bool) : Bool := if (r % 2 == 0) == pi then cls == 9 else cls == 7 || cls == 8

/-- A write from the wrong side (R404). -/
def State.mbxWrong (s : State) (r : Nat) : State :=
  ((s.put .MBX_STAT_WRONGSIDE 6 r 1).fault .MBX_WRONGSIDE 6 0 r).reply 0 true

/-- A write that fails its check (R403). -/
def State.mbxBad (s : State) (r : Nat) : State :=
  ((s.put .MBX_STAT_BADIDX 6 r 1).fault .MBX_BADIDX 6 0 r).reply 0 false

/-- An accepted doorbell that advances its ring interrupts the consumer (R406, R409). -/
def State.mbxBell (s : State) (r : Nat) : State :=
  if r % 2 = 0 then s.put .HP_TPEND_CMD 6 0 (setBit (s.get .HP_TPEND_CMD 6 0) (r / 2)) else s.hostEvent (r / 2)

/-- MBX_PI of a ring is written by a master of a class (R403 to R406, R409); with `tie` the command before wrote MBX_CI in the same cycle,
and the check uses its value from before (R404). -/
def State.mbxPiWrite (s : State) (r idx cls : Nat) (tie : Bool) : State :=
  if mbxSide r cls true = false then s.mbxWrong r
  else
    let a := (idx % 128 + 128 - s.get .MBX_PI 6 r) % 128
    let fill := if tie then (s.get .MBX_PI 6 r + 128 - s.get .MBX_CIOLD 6 r) % 128 else s.mbxFill r
    if 64 < a + fill then s.mbxBad r
    else ((((s.put .MBX_PIOLD 6 r (s.get .MBX_PI 6 r)).put .MBX_PI 6 r idx).mbxStat r).reply 0 false).when (0 < a) fun t => t.mbxBell r

/-- MBX_CI of a ring is written (R403, R404); `tie` as for MBX_PI. -/
def State.mbxCiWrite (s : State) (r idx cls : Nat) (tie : Bool) : State :=
  if mbxSide r cls false = false then s.mbxWrong r
  else
    let c := (idx % 128 + 128 - s.get .MBX_CI 6 r) % 128
    let fill := if tie then (s.get .MBX_PIOLD 6 r + 128 - s.get .MBX_CI 6 r) % 128 else s.mbxFill r
    if fill < c then s.mbxBad r
    else (((s.put .MBX_CIOLD 6 r (s.get .MBX_CI 6 r)).put .MBX_CI 6 r idx).mbxStat r).reply 0 false

/-- MBX_PI_WRITE (R403, R404). -/
def execMbxPiWrite (ring idx cls : Nat) (tie : Bool) (s : State) : Result :=
  .next <| s.when (s.get .IN_PORST 6 0 = 0) fun s =>
    s.mbxPiWrite ring idx cls tie

end Sys2Proof.Machine
end

