-- ==== Sys2Proof/Machine/CsfRing.lean ====
section
/-! DEFINITION. CSF at the mailboxes (R402, R413 to R416, R426): how it takes a command, answers it, and delivers events. -/

namespace Sys2Proof.Machine

/-! ### Status codes (R435) -/

abbrev stOk : Nat := 0
abbrev eOpcode : Nat := 1
abbrev eBadhdr : Nat := 2
abbrev ePayload : Nat := 3
abbrev eState : Nat := 4
abbrev eNotx : Nat := 5
abbrev eHandle : Nat := 6
abbrev eRange : Nat := 7
abbrev eToolate : Nat := 8
abbrev eBadalign : Nat := 9
abbrev eOrder : Nat := 10
abbrev eNothead : Nat := 11
abbrev eFull : Nat := 12
abbrev eCrc : Nat := 13
abbrev eImage : Nat := 14
abbrev eRemote : Nat := 15
abbrev eRefused : Nat := 16
abbrev eShed : Nat := 17

/-! ### Entries (R401, R402) -/

/-- Die-local address of the entry of an index in a ring. -/
def ringEntry (r i : Nat) : Nat := 0x50000000 + r * 0x4000 + i % 64 * 0x100

/-- A command as its entry holds it. -/
structure CsfMsg where
  opcode : Nat
  seq : Nat
  txid : Nat
  len : Nat
  flags : Nat
  status : Nat
  payload : List Nat
deriving DecidableEq, Repr

/-- The entry of a ring at an index. -/
def State.entryAt (s : State) (r i : Nat) : CsfMsg :=
  let a := ringEntry r i
  ⟨s.load 6 a 2, s.load 6 (a + 2) 2, s.load 6 (a + 4) 4, s.load 6 (a + 8) 2, s.load 6 (a + 10) 2, s.load 6 (a + 12) 4,
    s.loadBytes 6 (a + 16) (min (s.load 6 (a + 8) 2) 240)⟩

/-- The command at the front of a pair's command ring. -/
def State.cmdMsg (s : State) (p : Nat) : CsfMsg := s.entryAt (2 * p) (s.get .MBX_CI 6 (2 * p))

/-- Little-endian fields of a payload (R413). -/
def CsfMsg.u8 (m : CsfMsg) (i : Nat) : Nat := m.payload.getD i 0
def CsfMsg.u16 (m : CsfMsg) (i : Nat) : Nat := bytesNat (slice m.payload i 2)
def CsfMsg.u32 (m : CsfMsg) (i : Nat) : Nat := bytesNat (slice m.payload i 4)
def CsfMsg.u64 (m : CsfMsg) (i : Nat) : Nat := bytesNat (slice m.payload i 8)

/-- Write an entry at the producer's place of a response ring and ring its doorbell. -/
def State.publish (s : State) (p op seq txid status : Nat) (payload : List Nat) : State :=
  let r := 2 * p + 1
  let i := s.get .MBX_PI 6 r
  let head := natBytes 2 op ++ natBytes 2 seq ++ natBytes 4 txid ++ natBytes 2 payload.length ++ natBytes 2 0 ++ natBytes 4 status
  (s.storeBytes 6 (ringEntry r i) (head ++ payload)).mbxPiWrite r (i + 1) 8 false

/-! ### Commands (R414, R415, R426) -/

/-- The tail runs, its clock too (R451), and it reaches die 6 (R309). -/
def State.tailRuns (s : State) : Bool :=
  s.get .AXO_STATUS_TAIL 6 0 == 2 && !s.on .THERM_STATUS_TRIPPED 6 0 && s.dieClocked 6

/-- A pair has a command that can be served: one waits, its response has room (R415), and no earlier command of the pair is still at work
(R433). -/
def State.servable (s : State) (p : Nat) : Bool :=
  1 ≤ s.mbxFill (2 * p) && s.mbxFill (2 * p + 1) < 64 && s.starts.all fun q => q.pair != p

/-- How far a pair is from its turn in the round of the 16 (R415). -/
def State.turnOf (s : State) (p : Nat) : Nat := (p + 16 - s.get .CSF_TURN 6 0) % 16

/-- CSF may serve a command of a pair: after READY, and no pair with a command it could serve has its turn before (R415). -/
def State.canServe (s : State) (p : Nat) : Bool :=
  s.tailRuns && s.on .CSF_READY 6 0 && s.servable p && (List.range 16).all fun q => !(s.servable q && s.turnOf q < s.turnOf p)

/-- A pair has had its turn: one command a pair a turn (R415). -/
def State.turned (s : State) (p : Nat) : State := s.put .CSF_TURN 6 0 ((p + 1) % 16)

/-- The response to the front command of a pair is written, and the command is retired (R413, R415). -/
def State.respond (s : State) (p status txid : Nat) (payload : List Nat) : State :=
  let m := s.cmdMsg p
  let t := s.publish p (m.opcode + 0x8000) m.seq txid status payload
  t.mbxCiWrite (2 * p) (t.get .MBX_CI 6 (2 * p) + 1) 8 false

/-- What a command comes to: the state, its status, TXID and payload; `wait` while its response is still to come. -/
structure CsfReply where
  st : State
  status : Nat
  txid : Nat
  payload : List Nat
  wait : Bool

/-- A refusal. -/
def CsfMsg.refuse (m : CsfMsg) (s : State) (status : Nat) : CsfReply := ⟨s, status, m.txid, [], false⟩

/-- Success. -/
def CsfMsg.ok (m : CsfMsg) (s : State) (payload : List Nat) : CsfReply := ⟨s, stOk, m.txid, payload, false⟩

/-- The header fails its check (R414). -/
def CsfMsg.badHeader (m : CsfMsg) : Bool := 240 < m.len || m.flags != 0 || m.status != 0

/-- CSF takes the front command of a pair if it has opcode `op`; `layout` is the payload check (R414, R415, R426). -/
def State.serve (s : State) (p op : Nat) (layout : CsfMsg → Bool) (act : CsfMsg → State → CsfReply) : State :=
  let m := s.cmdMsg p
  if s.canServe p = false ∨ m.opcode ≠ op then s
  else if m.badHeader then (s.turned p).respond p eBadhdr m.txid []
  else if layout m = false then (s.turned p).respond p ePayload m.txid []
  else
    let r := act m ((s.turned p).store 6 (ringEntry (2 * p) (s.get .MBX_CI 6 (2 * p)) + 12) 4 0xFFFF)
    if r.wait then r.st else r.st.respond p r.status r.txid r.payload

/-- A payload of exactly `n` bytes. -/
def ofLen (n : Nat) (m : CsfMsg) : Bool := m.len == n

/-! ### Events (R413, R416) -/

/-- The events a pair waits for. -/
def State.eventsOf (s : State) (p : Nat) : List CsfEvent := s.events.filter fun e => e.pair == p

/-- One event goes to its pair's response ring. -/
def State.eventSend (s : State) (p code txid : Nat) (payload : List Nat) : State :=
  (s.publish p code (s.get .CSF_EVSEQ 6 p) txid 0 payload).inc .CSF_EVSEQ 6 p 1

/-- A command of the pair has still to be answered: a start that waits, or the front one, whose STATUS is marked (R415, R426, R433). -/
def State.atWork (s : State) (p : Nat) : Bool :=
  (s.starts.any fun q => q.pair == p) || (1 ≤ s.mbxFill (2 * p) && (s.cmdMsg p).status == 0xFFFF)

/-- Deliver what waits while the response ring has room, a place kept for the response of a command at work (R415); a loss is told
first. -/
def State.eventFlush (s : State) (p : Nat) : Nat → State
  | 0 => s
  | n + 1 =>
    match s.eventsOf p with
    | [] => s
    | e :: _ =>
      if 64 ≤ s.mbxFill (2 * p + 1) + flag (s.atWork p) then s
      else if s.get .CSF_EVLOST 6 p ≠ 0 then
        ((s.eventSend p 0x4102 0 (natBytes 4 (s.get .CSF_EVLOST 6 p))).put .CSF_EVLOST 6 p 0).eventFlush p n
      else ({ s with events := s.events.erase e }.eventSend p e.code e.txid e.payload).eventFlush p n

/-- Deliver what a pair waits for. -/
def State.deliver (s : State) (p : Nat) : State := s.when (s.tailRuns = true) fun t => t.eventFlush p 257

/-- An event joins a pair's queue; the 257th pushes out the oldest. -/
def State.eventQueue (s : State) (p code txid : Nat) (payload : List Nat) : State :=
  let t :=
    match s.eventsOf p with
    | [] => s
    | e :: l => if 255 ≤ l.length then { s.inc .CSF_EVLOST 6 p 1 with events := s.events.erase e } else s
  { t with events := t.events ++ [CsfEvent.mk p code txid payload] }.deliver p

/-- CSF delivers an event to every pair that subscribes to its group. -/
def State.csfEvent (s : State) (code txid : Nat) (payload : List Nat) : State :=
  s.when (s.tailRuns = true) fun t =>
    t.each ((List.range 16).filter fun p => bitAt (t.get .CSF_EVMASK 6 p) (code / 256 % 64) == 1) fun p u =>
      u.eventQueue p code txid payload

/-- MBX_CI_WRITE (R403): a host that retires responses makes room for events. -/
def execMbxCiWrite (ring idx cls : Nat) (tie : Bool) (s : State) : Result :=
  .next <| s.when (s.get .IN_PORST 6 0 = 0) fun s => (s.mbxCiWrite ring idx cls tie).when (ring % 2 = 1) fun t => t.deliver (ring / 2)

/-! ### Starts that wait (R433) -/

/-- The first-epoch boundaries in the response of GRAPH_START: one per domain of the mask. -/
def startReply (mask b : Nat) (next : Nat → Nat) : List Nat :=
  (((List.range 3).filter fun D => bitAt mask D == 1).map fun D => natBytes 8 (if b = 2 ^ 64 - 1 then next D else b)).flatten

/-- DOMCNT of a domain lies in the window of a START_AT: 0 before, 1 in, 2 after. -/
def State.startWindow (s : State) (D start : Nat) : Nat :=
  let c := s.domcnt D
  let B := s.bsize D
  if c + B < start then 0 else if c + B / 2 ≤ start then 1 else 2

/-- A waiting start goes on: domain by domain EN is written in its window; the response comes with the last, or with the
first that is too late. -/
def State.startGo (s : State) (q : CsfStart) : State :=
  let doms := (List.range 3).filter fun D => bitAt q.left D == 1
  if doms.any fun D => s.startWindow D q.start == 2 then { s with starts := s.starts.erase q }.respond q.pair eToolate (s.cmdMsg q.pair).txid []
  else
    let due := doms.filter fun D => s.startWindow D q.start == 1
    let t := s.each due fun D u => (u.enableEpochs D)
    let left := due.foldl (fun v D => clearBit v D) q.left
    if left = 0 then
      { t with starts := t.starts.erase q }.respond q.pair stOk (s.cmdMsg q.pair).txid (startReply q.mask q.start fun _ => 0)
    else { t with starts := t.starts.map fun x => if x = q then { q with left := left } else x }

/-- DOMCNT has moved: waiting starts are looked at. -/
def State.startsGo (s : State) : State := s.when (s.tailRuns = true) fun t => t.each t.starts fun q u => u.startGo q

end Sys2Proof.Machine
end

