-- ==== Sys2Proof/Machine/Nor.lean ====
section
/-! DEFINITION. The snapshot pages of the boot NOR (R466, R471, R472). The model keeps their bytes under the die number 10,
256 for each page. -/

namespace Sys2Proof.Machine

/-- The die number under which memory keys of the snapshot pages lie. -/
abbrev norKeys : Nat := 10

/-- The bytes of a snapshot page. -/
def State.pageBytes (s : State) (p : Nat) : List Nat := s.loadBytes norKeys (p * 256) 256

/-- A page is valid: its CRC is correct (R471, R472). -/
def State.pageValid (s : State) (p : Nat) : Bool :=
  crc32 ((s.pageBytes p).take 252) == bytesNat ((s.pageBytes p).drop 252)

/-- SEQ of a page. -/
def State.pageSeq (s : State) (p : Nat) : Nat := bytesNat (slice (s.pageBytes p) 0 4)

/-- The page that holds the newest snapshot: valid, with the larger SEQ by signed difference (R472). -/
def State.newestPage (s : State) : Option Nat :=
  if s.pageValid 0 then
    if s.pageValid 1 ∧ 0 < signed 32 (unsigned 32 ((s.pageSeq 1 : Int) - s.pageSeq 0)) then some 1 else some 0
  else if s.pageValid 1 then some 1
  else none

/-- A field of the newest snapshot, or 0 where no page is valid (R474). -/
def State.snapField (s : State) (at_ n : Nat) : Nat :=
  match s.newestPage with
  | none => 0
  | some p => bytesNat (slice (s.pageBytes p) at_ n)

end Sys2Proof.Machine
end

