-- ==== Sys2Proof/Machine/CsfFault.lean ====
section
/-! DEFINITION. Fault records and CSF's fault log and fault commands (R448, R454, R455), and the events that follow a block's
interrupt (R418, R474). -/

namespace Sys2Proof.Machine

/-! ### Records (R455) -/

/-- The record of code `c` of a set, as CSF reads it now. -/
def State.faultRec (s : State) (d x c : Nat) : FaultRec :=
  let first := s.on .FLT_FIRST_VALID d x && s.get .FLT_FIRST_CODE d x == c
  let live := bitAt (s.get .FLT_LIVE d x) c
  let cnt := s.get .FLT_CNT d x
  let level := s.get .FLT_STATUS_LEVEL d x
  if first then
    ⟨s.get .FLT_FIRST_STAMP d x, s.ringAddr, d, x, c, s.get .FLT_FIRST_SEV d x,
      s.get .FLT_FIRST_CONCURRENT d x + 2 * s.get .FLT_FIRST_CLEARED_BEFORE_READ d x + 4 * live, level,
      s.get .FLT_FIRST_INSTANCE d x, cnt⟩
  else
    ⟨s.get .TB_SYSCNT 6 0, s.ringAddr, d, x, c, ((faultOf (x / 64) c).map FaultName.severity).getD 0, 4 * live + 8, level,
      0xFFFF, cnt⟩

/-- The records of a set: one for each STICKY bit. -/
def State.faultRecs (s : State) (d x : Nat) : List FaultRec :=
  ((List.range 32).filter fun c => bitAt (s.get .FLT_STICKY d x) c == 1).map fun c => s.faultRec d x c

/-- The 24 bytes of a record. -/
def FaultRec.bytes (r : FaultRec) : List Nat :=
  natBytes 8 r.stamp ++ [r.unit, r.die] ++ natBytes 2 r.block ++ [r.code, r.sev, r.flags, r.level] ++ natBytes 2 r.inst ++
    [0, 0] ++ natBytes 4 r.cnt

/-- A record out of its 24 bytes. -/
def FaultRec.ofBytes (l : List Nat) : FaultRec :=
  ⟨bytesNat (slice l 0 8), l.getD 8 0, l.getD 9 0, bytesNat (slice l 10 2), l.getD 12 0, l.getD 13 0, l.getD 14 0, l.getD 15 0,
    bytesNat (slice l 16 2), bytesNat (slice l 20 4)⟩

/-- The order across blocks (R443): stamp, severity with the highest first, die, block ID. -/
def FaultRec.before (a b : FaultRec) : Bool :=
  if a.stamp ≠ b.stamp then a.stamp < b.stamp
  else if a.sev ≠ b.sev then b.sev < a.sev
  else if a.die ≠ b.die then a.die < b.die
  else a.block < b.block

/-- Insertion into a list in an order, after its equals. -/
def insertBy {α : Type} (lt : α → α → Bool) (x : α) : List α → List α
  | [] => [x]
  | y :: t => if lt x y then x :: y :: t else y :: insertBy lt x t

/-- A list put in order. -/
def sortBy {α : Type} (lt : α → α → Bool) (l : List α) : List α := l.foldl (fun t x => insertBy lt x t) []

/-- The log takes records; the latest 4,096 stay (R454). -/
def State.faultLogged (s : State) (l : List FaultRec) : State :=
  { s with faultLog := (s.faultLog ++ l).drop ((s.faultLog ++ l).length - 4096) }

/-- A block with a fault register set stands on a die (R456). -/
def setOnDie (d x : Nat) : Bool :=
  let i := x % 64
  match x / 64 with
  | 1 => d < 6 && i < 32
  | 2 => d < 6 && i < 4
  | 3 => d < 6 && i == 0
  | 4 | 5 | 6 | 7 => d < 8 && i == 0
  | 8 | 9 | 12 | 13 | 14 | 17 => 6 ≤ d && d < 8 && i == 0
  | 10 | 15 | 16 => d == 6 && i == 0
  | 11 => 6 ≤ d && d < 8 && i < 4
  | _ => false

/-- Every set of the package, as (die, block ID), in the order of die and block ID. -/
def allSets : List (Nat × Nat) :=
  (allDies.map fun d => ((List.range 1152).filter fun x => setOnDie d x).map fun x => (d, x)).flatten

/-! ### Service of an interrupt line (R448) -/

/-- CLK_EVENT (R418): the history of each reference and of the DPLL. -/
def State.clkEvent (s : State) : State :=
  s.csfEvent 0x4701 0 (((List.range 10).map fun r => natBytes 4 (s.regAt 6 .refsel 0 (0x1018 + r * 64))).flatten ++
    natBytes 4 (s.regAt 6 .refsel 0 0x10))

/-- Some pair subscribes to the group of an event (R416). -/
def State.subscribed (s : State) (code : Nat) : Bool := (List.range 16).any fun p => bitAt (s.get .CSF_EVMASK 6 p) (code / 256 % 64) == 1

/-- PAIR_EVENT (R418); the first after the READY of a power-on carries the values of the snapshot that READY reported (R474). -/
def State.pairEvent (s : State) : State :=
  if s.on .CSF_SNAPEV 6 0 then
    (s.when (s.subscribed 0x4901 = true) fun t => t.put .CSF_SNAPEV 6 0 0).csfEvent 0x4901 0
      ([s.get .CSF_SNAPROLE 6 0, s.get .CSF_SNAPSYNC 6 0] ++ natBytes 8 (s.get .CSF_SNAPSINCE 6 0))
  else
    s.csfEvent 0x4901 0 ([s.get .PAIR_STATUS_ROLE 6 0, s.get .PAIR_STATUS_SYNC 6 0] ++ natBytes 8 (s.get .PAIR_ACTSINCE 6 0))

/-- The codes of role and resync faults of the Biray block (R384). -/
def pairCodes : List Nat :=
  [FaultName.PAIR_TAKEOVER.code, FaultName.PAIR_SNAPFAIL.code, FaultName.PAIR_CONFLICT.code, FaultName.PAIR_DIVERGE.code,
    FaultName.PAIR_HMISS.code]

/-- A master has read a set's registers: FLT_FIRST is noted as read (R442), FLT_CNT clears (R7). -/
def State.setRead (s : State) (d x : Nat) : State := (s.firstRead d x).put .FLT_CNT d x 0

/-- CSF has read a set: STICKY, FLT_FIRST.VALID and NOTE clear; the acknowledgement is its own unless a CRITICAL code is among them, and
then the host's until the set is back at L0 (R448). -/
def State.serviceSet (s : State) (d x : Nat) : State :=
  let recs := s.faultRecs d x
  let held := recs.any (fun r => 3 ≤ r.sev) || s.on .CSF_HOLDACK d x
  let s1 := (((s.setRead d x).faultLogged recs).put .FLT_STICKY d x 0).put .FLT_FIRST_VALID d x 0
  let s2 := s1.put .FLT_STATUS_NOTE d x 0
  if held then s2.put .CSF_HOLDACK d x (if s.get .FLT_STATUS_LEVEL d x = 0 then 0 else 1) else s2.ackStatus d x false false

/-- FAULT_SERVICE (R448): CSF serves an interrupt line. -/
def execFaultService (d set : Nat) (s : State) : Result :=
  .next <| s.when (s.tailRuns = true ∧ s.regsReach d set = true ∧ s.tailLine d set = true) fun s =>
    let recs := s.faultRecs d set
    let s1 := (s.serviceSet d set).each recs fun r t => t.csfEvent 0x4A01 0 r.bytes
    let s2 := s1.when (set = 10 * 64 ∧ recs.any (fun r => r.code == FaultName.REFSEL_EVENT.code) = true) State.clkEvent
    s2.when (d = 6 ∧ set = 14 * 64 ∧ recs.any (fun r => pairCodes.contains r.code) = true) State.pairEvent

/-! ### The commands (R454) -/

/-- FAULT_LIST: up to 10 records with STAMP at or after a SYSCNT, in the order of R443. -/
def execFaultList (pair : Nat) (s : State) : Result :=
  .next <| s.serve pair 0x0A01 (ofLen 9) fun m t =>
    let l := (sortBy FaultRec.before t.faultLog).filter fun r => m.u64 0 ≤ r.stamp
    m.ok t (((l.take (min (m.u8 8) 10)).map FaultRec.bytes).flatten)

/-- A fault command names a set that exists and answers. Where its die does not answer the unit's state does not allow the
command. DESIGN CHOICE (log entry 70). -/
def State.setCheck (s : State) (m : CsfMsg) (act : State → CsfReply) : CsfReply :=
  if setOnDie (m.u8 0) (m.u16 1) = false then m.refuse s eRange
  else if s.regsReach (m.u8 0) (m.u16 1) = false then m.refuse s eState
  else act s

/-- FAULT_ACK. -/
def execFaultAck (pair : Nat) (s : State) : Result :=
  .next <| s.serve pair 0x0A02 (ofLen 3) fun m t => t.setCheck m fun u => m.ok (u.ackStatus (m.u8 0) (m.u16 1) false false) []

/-- FAULT_INJECT: a set without a checker (R453) gives E_RANGE. -/
def execFaultInject (pair : Nat) (s : State) : Result :=
  .next <| s.serve pair 0x0A03 (ofLen 5) fun m t => t.setCheck m fun u =>
    if [1, 4, 5].contains (m.u16 1 / 64) then m.ok (u.put .FLT_INJ_COUNT (m.u8 0) (m.u16 1) (m.u16 3)) []
    else m.refuse u eRange

/-- A code of a set at or above MINSEV is LIVE: the gill does not write CLR3 (R449). -/
def State.clr3Barred (s : State) (d x : Nat) : Bool :=
  (List.range 32).any fun c => bitAt (s.get .FLT_LIVE d x) c == 1 &&
    s.get .FLT_ESC_MINSEV d x ≤ ((faultOf (x / 64) c).map FaultName.severity).getD 0

/-- FAULT_CLEAR: it waits for a gill that writes a snapshot (R470). -/
def execFaultClear (pair : Nat) (s : State) : Result :=
  .next <| s.when (s.get .SNAP_BUSY 6 0 = 0) fun s => s.serve pair 0x0A04 (ofLen 3) fun m t => t.setCheck m fun u =>
    let d := m.u8 0
    let x := m.u16 1
    let l3 := u.get .FLT_STATUS_LEVEL d x == 3
    if l3 ∧ u.clr3Barred d x = true then m.refuse u eState
    else m.ok ((((u.put .FLT_STICKY d x 0).put .FLT_FIRST_VALID d x 0)).when (l3 = true) fun v => v.clearL3 d x) []

end Sys2Proof.Machine
end

