-- ==== Sys2Proof/Machine/Axo.lean ====
section
/-! DEFINITION. The axolotl (R385 to R390): shedding the tail, loading and releasing it, and what CSF does when it starts
(R418, R425, R426, R458, R474). -/

namespace Sys2Proof.Machine

/-- The die numbers under which memory keys of the tail's private memory and of a graph image being loaded lie. -/
abbrev tailKeys : Nat := 8
abbrev imageKeys : Nat := 9

/-- AXO_STATUS.TAIL (R411). -/
abbrev tailReset : Nat := 0
abbrev tailLoading : Nat := 1
abbrev tailRunning : Nat := 2
abbrev tailFailed : Nat := 3

/-- Memory of one key range takes zeros. -/
def State.zeroKeys (s : State) (lo n : Nat) : State :=
  { s with mem := s.mem.filter fun c => !(lo ≤ c.1 && c.1 < lo + n), errs := s.errs.filter fun c => !(lo ≤ c.1 && c.1 < lo + n) }

/-! ### What CSF holds (R389, R425, R429) -/

/-- CSF's state is lost: transactions, scenes, events, the partial load, its log. The image stays in place and its
description with it. DEDUCED (log entry 71). -/
def State.csfLost (s : State) : State :=
  let t := { s with txs := [], scenes := [], events := [], starts := [], faultLog := [] }
  let u := (((((t.put .CSF_READY 6 0 0).put .CSF_SNAPEV 6 0 0).put .CSF_PTPDOM 6 0 0).put .CSF_PTPSYNC 6 0 0).put .CSF_TURN 6 0 0).zeroKeys (imageKeys * 2 ^ 32) (2 ^ 32)
  (u.when (u.get .IMG_STATE 6 0 = 1) fun v => v.put .IMG_STATE 6 0 0).each (List.range 16) fun p v =>
    ((v.put .CSF_EVMASK 6 p 0).put .CSF_EVSEQ 6 p 0).put .CSF_EVLOST 6 p 0

/-- The gill zeroes the carve-out (R388); an offline bank refuses it (R198). -/
def State.zeroCarve (s : State) : State :=
  let banks := (List.range 32).map fun k => 96 + k
  (s.each (banks.filter fun b => !s.on .BANK_STAT_OFFLINE 6 b) fun b t => t.zeroRange 6 (b * 0x20000) 0x20000).raises 6 0
    ((banks.filter fun b => s.on .BANK_STAT_OFFLINE 6 b).map fun b => ⟨.BANK_OFFLINE_ACC, b⟩)

/-- The gill writes bytes into die 6's SRAM, a word at a time (R188, R198). -/
def State.gillStore (s : State) (a : Nat) (l : List Nat) : State :=
  s.each (List.range ((l.length + 15) / 16)) fun i t =>
    let b := slice l (16 * i) 16
    let q := t.request 6 16 (15 * 2 ^ 36 + 6 * 2 ^ 32 + a + 16 * i) true b.length (bytesNat b)
    t.memAccess q (.sram 0 (a + 16 * i))

/-- The tail is in reset with nothing of its state left (R388): steps 1 and 2. -/
def State.shed (s : State) : State :=
  let s1 := (((s.put .AXO_TAIL_CTL 6 0 1).put .AXO_STATUS_TAIL 6 0 tailReset).inc .AXO_SHEDCNT 6 0 1).hostEvent 16
  let s2 := (s1.condEnd .AXO_TAIL_FAIL 6 0 Config.noInstance).condBegin .AXO_TAIL_DOWN 6 0 Config.noInstance
  let s3 := ((s2.put .HP_GILLREQ_PEND 6 0 0).put .TAIL_SHEDDING 6 0 1).put .TAIL_SHED 6 0 1
  ((s3.zeroKeys (tailKeys * 2 ^ 32) (2 ^ 32)).zeroCarve).csfLost

/-- The gill may write AXO_TAIL_CTL (R387). -/
def State.gillWrites (s : State) : Bool := s.gillFree && s.dieClocked 6

/-- TAIL_SHED (R388, R214): the gill writes RESET = 1. A write burst of the tail in progress at `addr`, of `len` beats (0 none)
is truncated: the beats accepted are written. -/
def execTailShed (addr len : Nat) (beats : List Nat) (s : State) : Result :=
  .next <| s.when (s.gillWrites = true ∧ 2 ≤ s.get .AXO_STATUS_TAIL 6 0) fun t =>
    (t.truncate (t.request 6 17 addr true 16 0) len beats).shed

/-- What a tail file places: bytes in private memory at most 1.75 MiB, in the carve-out at most its lowest megabyte (R466). -/
def tailFits (priv carve : List Nat) : Bool := priv.length ≤ 0x1C0000 && carve.length ≤ 0x100000

/-- TAIL_IMAGE_LOADED (R388, R462, R466, R467): after the links have trained, and at every shed, the tail image has been read and measured: its SHA-384 (word 0 first), whether its
signature verifies, and the bytes it places. -/
def execTailImageLoaded (hash : List Nat) (good : Bool) (priv carve : List Nat) (s : State) : Result :=
  .next <| s.when (s.gillWrites = true ∧ 5 ≤ s.get .BOOT_STEP 6 0 ∧ s.get .AXO_STATUS_TAIL 6 0 = tailReset) fun s =>
    let s1 := s.each (List.range 12) fun i t => t.put .AXO_MEAS 6 i (hash.getD i 0)
    let s2 := s1.when (tailFits priv carve = true) fun t =>
      (t.storeBytes tailKeys 0 priv).gillStore 0xC00000 carve
    if tailFits priv carve = false ∨ (s.on .AXO_STATUS_TAILSIGN 6 0 = true ∧ good = false) then
      (((s2.put .AXO_STATUS_TAIL 6 0 tailFailed).put .TAIL_SHEDDING 6 0 0).condEnd .AXO_TAIL_DOWN 6 0 Config.noInstance).condBegin
        .AXO_TAIL_FAIL 6 0 Config.noInstance
    else s2.put .AXO_STATUS_TAIL 6 0 tailLoading

/-! ### CSF starts -/

/-- CSF's accesses are those of master 17 of die 6. -/
def State.csfReq (s : State) (d a : Nat) (write : Bool) (len data : Nat) : FabReq :=
  s.request 6 17 (15 * 2 ^ 36 + d * 2 ^ 32 + a) write len data

/-- CSF reads a word of memory. -/
def State.csfRead (s : State) (d a : Nat) : State × Nat :=
  let t := s.fabMem (s.csfReq d a false 4 0)
  (t, t.answer.data)

/-- CSF writes a word of memory. -/
def State.csfWrite (s : State) (d a v : Nat) : State := s.fabMem (s.csfReq d a true 4 v)

/-- The elements of a parameter: their addresses in copies 0 and 1. -/
def ParamDef.elems (p : ParamDef) : List (Nat × Nat) :=
  (List.range p.init.length).map fun i => (p.a0 + 4 * i, p.a1 + 4 * i)

/-- The four words of a route's record in copies 0 and 1 (R159, R160). -/
def State.routeElems (s : State) (r : RouteDef) : List (Nat × Nat) :=
  let a := s.xpAddr r.die r.xp
  (List.range 4).map fun i => (a + 4 * i, a + 16 + 4 * i)

/-- Every element of the loaded image, as (die, domain, address in copy 0, in copy 1). -/
def State.imageElems (s : State) : List (Nat × Nat × Nat × Nat) :=
  match s.image with
  | none => []
  | some g =>
    (g.params.map fun p => (ParamDef.elems p).map fun (q : Nat × Nat) => (p.die, p.dom, q.1, q.2)).flatten ++
      (g.routes.map fun r => (s.routeElems r).map fun (q : Nat × Nat) => (r.die, r.dom, q.1, q.2)).flatten

/-- A live element is copied over its staged one (R57, R425). -/
def State.restoreElem (s : State) (d D a0 a1 : Nat) : State :=
  let live := s.get .TB_GEN d D % 2
  let r := s.csfRead d (if live = 0 then a0 else a1)
  r.1.csfWrite d (if live = 0 then a1 else a0) r.2

/-- Commands that were being served at a shed are answered with E_SHED (R426). -/
def State.shedReplies (s : State) (p : Nat) : Nat → State
  | 0 => s
  | n + 1 =>
    let m := s.cmdMsg p
    if s.mbxFill (2 * p) = 0 ∨ m.status ≠ 0xFFFF ∨ 64 ≤ s.mbxFill (2 * p + 1) then s
    else (s.respond p eShed m.txid []).shedReplies p n

/-- IEN bits that CSF sets (R458). -/
def State.csfIen (s : State) : State :=
  let ien (d x c : Nat) (t : State) : State := t.put .FLT_IEN d x (setBit (t.get .FLT_IEN d x) c)
  ien 6 (16 * 64) FaultName.AXO_TAIL_UP.code (ien 6 (10 * 64) FaultName.REFSEL_EVENT.code
    (ien 7 (17 * 64) FaultName.GPIO_CHANGE.code (ien 6 (17 * 64) FaultName.GPIO_CHANGE.code s)))

/-- The records of the newest snapshot as FAULT_LIST returns them: STAMP 0, APPROX (R474). -/
def State.snapRecs (s : State) : List FaultRec :=
  match s.newestPage with
  | none => []
  | some p => (List.range (min 8 (s.snapField 36 1))).map fun i =>
      let r := FaultRec.ofBytes (slice (s.pageBytes p) (40 + 24 * i) 24)
      { r with stamp := 0, flags := r.flags ||| 8 }

/-- After a shed CSF rebuilds its log from the registers, with what reading them does (R442, R454). -/
def State.logRebuilt (s : State) : State :=
  s.each (allSets.filter fun (q : Nat × Nat) => s.regsReach q.1 q.2) fun q t => (t.faultLogged (t.faultRecs q.1 q.2)).setRead q.1 q.2

/-- CSF keeps what the first PAIR_EVENT is to carry: the newest snapshot's, where there is one (R474). -/
def State.snapKept (s : State) : State :=
  (((s.put .CSF_SNAPEV 6 0 (flag s.newestPage.isSome)).put .CSF_SNAPROLE 6 0 (s.snapField 26 1)).put .CSF_SNAPSYNC 6 0
    (s.snapField 27 1)).put .CSF_SNAPSINCE 6 0 (s.snapField 28 8)

/-- CSF starts and comes to READY: staged copies, interrupted commands, subscriptions, the event (R416, R418, R425, R426). -/
def State.csfStart (s : State) : State :=
  let shed := s.on .TAIL_SHED 6 0
  let s1 := (s.csfIen.each s.imageElems fun (q : Nat × Nat × Nat × Nat) t => t.restoreElem q.1 q.2.1 q.2.2.1 q.2.2.2).each
    (List.range 16) fun p t => t.shedReplies p 64
  let s2 := if shed then s1.logRebuilt else (s1.faultLogged s1.snapRecs).snapKept
  let gens := ([0, 1, 2].map fun D => natBytes 4 (if shed then s2.get .TB_GEN 6 D else s2.snapField (12 + 4 * D) 4)).flatten
  ((s2.put .CSF_READY 6 0 1).put .CSF_EVMASK 6 0 0xFFFFFFFF).csfEvent 0x4101 0
    ([flag shed] ++ gens ++ natBytes 4 (s2.get .AXO_SHEDCNT 6 0))

/-- Stage 2 grants the tail every class on every die it reaches, and the host read of the carve-out (R218). -/
def State.tailGrants (s : State) : State :=
  let t := s.each (allDies.filter fun d => s.dieClocked d && s.routeUp 6 d) fun d t =>
    t.put .FAB_PERM d 8 (if d < 6 then 2 ^ 22 - 1 else 2 ^ 36 - 1)
  t.put .FAB_PERM 6 9 (setBit (t.get .FAB_PERM 6 9) 6)

/-- READY follows the later of the tail's release and the ring step (R462). -/
def State.readyDue (s : State) : State :=
  s.when (s.get .AXO_STATUS_TAIL 6 0 = tailRunning ∧ s.get .RING_STEPPED 6 0 = 1 ∧ s.get .CSF_READY 6 0 = 0) State.csfStart

/-- The tail is released (R388): step 4, and CSF starts. A shed changes no FAB_PERM entry: the grants of the first release stand. -/
def State.release (s : State) : State :=
  let s1 := ((s.put .AXO_TAIL_CTL 6 0 0).put .AXO_STATUS_TAIL 6 0 tailRunning).put .AXO_TAILSTAMP 6 0 (s.capture 6)
  let s2 := ((s1.condEnd .AXO_TAIL_DOWN 6 0 Config.noInstance).fault .AXO_TAIL_UP 6 0 Config.noInstance).hostEvent 17
  ((s2.when (s.on .TAIL_SHED 6 0 = false) State.tailGrants).put .TAIL_SHEDDING 6 0 0).readyDue

/-- TAIL_RESET_RELEASE (R388): the gill writes RESET = 0 after an image that passed. -/
def execTailResetRelease (s : State) : Result :=
  .next <| s.when (s.gillWrites = true ∧ s.get .AXO_STATUS_TAIL 6 0 = tailLoading) State.release

/-- HP_GILLREQ.RESTART_TAIL (R390): ignored while a shed is in progress. -/
def State.restartTail (s : State) : State := s.when (s.on .TAIL_SHEDDING 6 0 = false) fun t => t.put .HP_GILLREQ_PEND 6 0 1

/-- RESTART_TAIL (R390). -/
def execRestartTail (s : State) : Result := .next <| s.when (s.get .IN_PORST 6 0 = 0) State.restartTail

end Sys2Proof.Machine
end

