-- ==== Sys2Proof/Machine/Refsel.lean ====
section
/-! DEFINITION. Reference selection, the reference DPLL, frame outputs and GPIO inputs. -/

namespace Sys2Proof.Machine

/-- Block ID of the reference-selection block's fault register set. -/
abbrev refBlock : Nat := 0

/-- SEL when nothing is selected (R298). -/
abbrev refNone : Nat := 15

/-- DPLL states (R285). -/
abbrev dpllFree : Nat := 0
abbrev dpllAcquire : Nat := 1
abbrev dpllLocked : Nat := 2
abbrev dpllHold : Nat := 3

/-- A signed register of 32 bits. -/
def State.sget (s : State) (f : Fld) (d i : Nat) : Int := signed 32 (s.get f d i)

/-- Write a signed value to a register of 32 bits. -/
def State.sput (s : State) (f : Fld) (d i : Nat) (x : Int) : State := s.put f d i (unsigned 32 x)

/-! ### History (R300) -/

/-- A history bit sets; REFSEL_EVENT if its IEN bit is 1. What the block raises in one command it signals together (R441). -/
def State.refHist (s : State) (h ie : Fld) (r inst : Nat) : State :=
  if s.on h 6 r then s
  else (s.put h 6 r 1).when (s.on ie 6 r = true) fun t => t.owe .REFSEL_EVENT 6 refBlock inst

/-- What the block has met in this command is signalled. -/
def State.refSettle (s : State) : State := s.settle .REFSEL_EVENT 6 refBlock

/-- A history bit of a reference. -/
def State.refHist1 (s : State) (h ie : Fld) (r : Nat) : State := s.refHist h ie r r

/-- A history bit of the DPLL; its INSTANCE is 0xFF (R457). -/
def State.dpllHist (s : State) (h ie : Fld) : State := s.refHist h ie 0 0xff

/-- The condition REFSEL_HOLDOVER ends when the DPLL leaves HOLDOVER. -/
def State.dpllLeave (s : State) : State :=
  s.when (s.live 6 refBlock .REFSEL_HOLDOVER = true) fun t => t.condEnd .REFSEL_HOLDOVER 6 refBlock Config.noInstance

/-- The DPLL enters a state (R285). -/
def State.dpllEnter (s : State) (st : Nat) : State :=
  if s.get .DPLL_STATUS_STATE 6 0 = st then s
  else
    let t := s.dpllLeave.put .DPLL_STATUS_STATE 6 0 st
    match st with
    | 0 => t.dpllHist .DPLL_HIST_FREE_RUN .DPLL_IEN_FREE_RUN
    | 1 => t.dpllHist .DPLL_HIST_ACQUIRE .DPLL_IEN_ACQUIRE
    | 2 => t.dpllHist .DPLL_HIST_LOCKED .DPLL_IEN_LOCKED
    | _ => t.dpllHist .DPLL_HIST_HOLDOVER .DPLL_IEN_HOLDOVER

/-! ### References -/

/-- A reference is clean (R282). -/
def State.refClean (s : State) (r : Nat) : Bool :=
  s.on .REF_CFG_EN 6 r && s.get .REF_CFG_RANK 6 r < 15 && !s.on .REF_LIVE_LOS 6 r && !s.on .REF_LIVE_STUCK 6 r &&
    !s.on .REF_LIVE_OVERRATE 6 r && !s.on .REF_LIVE_FREQ_OOR 6 r && !s.on .REF_LIVE_SUSPECT 6 r

/-- A reference is qualified (R282). -/
def State.refQual (s : State) (r : Nat) : Bool := s.on .REF_LIVE_QUAL 6 r

/-- The PTP reference is LOS while the servo reports no lock; the ring reference at the head and at a unit without an
address (R278). -/
def State.refAlive (s : State) (r : Nat) : Bool :=
  if r = 8 then s.on .SERVO_STATUS_LOCK 6 0
  else if r = 9 then s.on .RING_HASADDR 6 0 && !s.on .RING_STATUS_HEAD 6 0
  else true

/-- A nominal rate `n / d` lies in 1 Hz to 25 MHz, neither of the two 0 (R295, R298). -/
def rateOk (n d : Nat) : Bool := n != 0 && d != 0 && d ≤ n && n ≤ 25000000 * d

/-- Bandwidths of R288, in mHz. -/
def bandwidth : Nat → Nat
  | 0 => 1
  | 1 => 3
  | 2 => 10
  | 3 => 30
  | 4 => 100
  | 5 => 300
  | 6 => 1000
  | 7 => 3000
  | 8 => 10000
  | 9 => 100000
  | 10 => 1000000
  | _ => 4000000

/-- The highest code up to `c` whose bandwidth is at most a tenth of the rate `n / d` (R288). -/
def bwCode (n d : Nat) : Nat → Nat
  | 0 => 0
  | c + 1 => if bandwidth (c + 1) * 10 * d ≤ 1000 * n then c + 1 else bwCode n d c

/-- BWEFF follows the selected reference (R288). -/
def State.bwRefresh (s : State) : State :=
  let r := s.get .REFSEL_STATUS_SEL 6 0
  s.when (r ≠ refNone ∧ s.get .REFSEL_STATUS_SWITCHING 6 0 = 0) fun t =>
    t.put .DPLL_STATUS_BWEFF 6 0 (bwCode (t.get .REF_NOM_NUM 6 r) (t.get .REF_NOM_DEN 6 r) (min (t.get .DPLL_CFG_BW 6 0) 11))

/-! ### Selection (R284 to R286) -/

/-- Whether reference `a` is the better of two qualified ones: lower rank, then the current one, then the lower index. -/
def State.refBetter (s : State) (cur a b : Nat) : Bool :=
  let ra := s.get .REF_CFG_RANK 6 a
  let rb := s.get .REF_CFG_RANK 6 b
  ra < rb || (ra == rb && (a == cur || (b != cur && a < b)))

/-- The best of some qualified references. -/
def State.refBest (s : State) (cur : Nat) : List Nat → Nat
  | [] => refNone
  | r :: t =>
    let b := s.refBest cur t
    if s.refQual r && (b == refNone || s.refBetter cur r b) then r else b

/-- What the selector chooses (R284); 15 is none. -/
def State.refChoice (s : State) : Nat :=
  let cur := s.get .REFSEL_STATUS_SEL 6 0
  let best := s.refBest cur (List.range 10)
  match s.get .REFSEL_CFG_MODE 6 0 with
  | 0 =>
    if cur < 10 ∧ s.refQual cur = true ∧
        (s.get .REFSEL_CFG_REVERT 6 0 = 0 ∨ s.get .REF_CFG_RANK 6 cur ≤ s.get .REF_CFG_RANK 6 best) then cur
    else best
  | 1 =>
    let f := s.get .REFSEL_CFG_FORCEIDX 6 0
    if f < 10 ∧ s.refQual f = true then f else refNone
  | _ => refNone

/-- The output frequency of a switch or of holdover: the memory if it is valid, else the word held (R285, R286). -/
def State.dpllCoast (s : State) : State :=
  s.when (s.get .DPLL_STATUS_HOVALID 6 0 = 1) fun t => t.put .DPLL_FREQ 6 0 (t.get .DPLL_HOFREQ 6 0)

/-- A switch to a reference starts (R286). -/
def State.switchStart (s : State) (r : Nat) : State :=
  let old := s.get .DPLL_STATUS_STATE 6 0
  let s1 := (s.put .REFSEL_STATUS_SEL 6 0 r).put .REFSEL_STATUS_SWITCHING 6 0 1
  let s2 := s1.when (old ≠ dpllAcquire) fun t => t.put .SW_FREERUN 6 0 (flag (old == dpllFree))
  let s3 := (s2.dpllEnter dpllAcquire).incSat .REFSEL_SWCNT 6 0 1
  ((s3.put .SW_EDGES 6 0 0).dpllCoast).owe .REFSEL_SWITCH 6 refBlock r

/-- The selection becomes none (R285). -/
def State.selectNone (s : State) : State :=
  let t := s.put .REFSEL_STATUS_SEL 6 0 refNone
  let st := t.get .DPLL_STATUS_STATE 6 0
  match t.get .REFSEL_CFG_MODE 6 0 with
  | 3 => (t.dpllEnter dpllFree).put .DPLL_FREQ 6 0 0
  | 2 => t.when (st ≠ dpllHold) fun u => (u.dpllEnter dpllHold).dpllCoast
  | _ => t.when (st = dpllAcquire ∨ st = dpllLocked) fun u =>
      ((u.dpllEnter dpllHold).dpllCoast).oweCond .REFSEL_HOLDOVER 6 refBlock Config.noInstance

/-- An evaluation of the selector; none takes place during a switch (R284). -/
def State.evaluate (s : State) : State :=
  if s.get .REFSEL_STATUS_SWITCHING 6 0 = 1 then s
  else
    let c := s.refChoice
    if c = refNone then s.selectNone
    else s.when (c ≠ s.get .REFSEL_STATUS_SEL 6 0) fun t => t.switchStart c

/-- A switch completes, with the new reference or with none, and the evaluation follows (R284, R286). -/
def State.switchEnd (s : State) (none : Bool) : State :=
  let t := s.put .REFSEL_STATUS_SWITCHING 6 0 0
  if none then (t.put .REFSEL_STATUS_SEL 6 0 refNone).evaluate else t.bwRefresh.evaluate

/-- References that have stopped being clean: their hold-off starts again from zero, and those qualified are disqualified in one cycle,
with one evaluation (R282, R284). -/
def State.refUpdates (s : State) (l : List Nat) : State :=
  let bad := l.filter fun r => !s.refClean r
  let gone := bad.filter fun r => s.refQual r
  let s1 := s.each bad fun r t => ((t.put .REF_GDIRTY 6 r 1).put .REF_GCLEAN 6 r 0).put .REF_HOLD 6 r 0
  let s2 := s1.each gone fun r t => t.put .REF_LIVE_QUAL 6 r 0
  let sel := s.get .REFSEL_STATUS_SEL 6 0
  if gone = [] then s2
  else if gone.contains sel then
    let u := s2.owe .REFSEL_SEL_LOST 6 refBlock sel
    if u.get .REFSEL_STATUS_SWITCHING 6 0 = 1 then u.switchEnd true else u.evaluate
  else s2.evaluate

/-- A reference that may have stopped being clean. -/
def State.refUpdate (s : State) (r : Nat) : State := s.refUpdates [r]

/-- The memory freezes when the selected reference shows a condition of R281 other than PHASE_HIT (R292). -/
def State.refFreeze (s : State) (r : Nat) : State :=
  s.when (s.get .REFSEL_STATUS_SEL 6 0 = r) fun t => t.put .HO_FROZEN 6 0 1

/-- REF_HOLD shows the seconds of hold-off that remain (R282). -/
def State.refHoldTick (s : State) (r : Nat) : State :=
  s.when (s.get .REF_GCLEAN 6 r = 1 ∧ s.get .REF_LIVE_QUAL 6 r = 0) fun t =>
    t.put .REF_HOLD 6 r
      (max 1 (t.get .REF_QUAL_HOLDOFF 6 r) - (t.get .TB_SYSCNT 6 0 - t.get .REF_HOLDT 6 r) / 1000000000)

/-- The frame outputs with a source. -/
def State.foOf (s : State) (r : Nat) : List Nat := (List.range 4).filter fun o => s.get .FO_CFG_SRC 6 o == r

/-- Frame-output states (R298). -/
abbrev foOff : Nat := 0
abbrev foWait : Nat := 1
abbrev foRun : Nat := 2
abbrev foFly : Nat := 3

/-- Frame outputs in RUN whose source is LOS show FLYWHEEL (R296). -/
def State.foFlywheel (s : State) (r : Nat) : State :=
  s.each (s.foOf r) fun o t => t.when (t.get .FO_STATUS_STATE 6 o = foRun) fun u => u.put .FO_STATUS_STATE 6 o foFly

/-- A reference is disabled: LIVE reads LOS and nothing else (R296, R298). -/
def State.refDisable (s : State) (r : Nat) : State :=
  let s1 := s.put .REF_CFG_EN 6 r 0
  let s2 := s1.when (s1.on .REF_LIVE_SUSPECT 6 r = true) fun t => t.condEnd .REFSEL_SUSPECT 6 refBlock r
  let s3 := (((s2.put .REF_LIVE_LOS 6 r 1).put .REF_LIVE_FREQ_OOR 6 r 0).put .REF_LIVE_PHASE_HIT 6 r 0).put .REF_LIVE_DISCREPANT 6 r 0
  let s4 := ((s3.put .REF_LIVE_STUCK 6 r 0).put .REF_LIVE_OVERRATE 6 r 0).put .REF_LIVE_SUSPECT 6 r 0
  ((((s4.put .REF_RAWP 6 r 0).put .REF_NE 6 r 0).foFlywheel r).refUpdate r).refSettle

/-- REFSEL_CONFIG_WRITE (R284): the RANK of reference `target` 0 to 9, or REFSEL_CFG (`target` 10) is written. -/
def execRefselConfigWrite (target value : Nat) (s : State) : Result :=
  .next <| s.when (s.dieClocked 6 = true) fun s =>
    if target < 10 then (((s.put .REF_CFG_RANK 6 target value).refUpdate target).evaluate).refSettle
    else (((s.put .REFSEL_CFG_MODE 6 0 value).put .REFSEL_CFG_REVERT 6 0 (bitAt value 2)).put .REFSEL_CFG_FORCEIDX 6 0
      (bitsAt value 3 4)).evaluate.refSettle

/-- A reference's nominal rate is one it can be enabled with (R298). -/
def State.refRateOk (s : State) (r : Nat) : Bool := rateOk (s.get .REF_NOM_NUM 6 r) (s.get .REF_NOM_DEN 6 r)

/-- REF_ENABLE (R298): REF_CFG of a reference is written with EN = 1, this POL and this RANK. -/
def execRefEnable (r pol rank : Nat) (s : State) : Result :=
  .next <| s.when (s.dieClocked 6 = true) fun s =>
    if s.refRateOk r = false then (s.refHist1 .REF_HIST_BADCFG .REF_IEN_BADCFG r).refSettle
    else if s.on .REF_CFG_EN 6 r then ((s.put .REF_CFG_RANK 6 r rank).refUpdate r).evaluate.refSettle
    else
      let s1 := ((s.put .REF_CFG_EN 6 r 1).put .REF_CFG_RANK 6 r rank).put .REF_CFG_POL 6 r (if r < 8 then pol else 0)
      let s2 := (s1.put .REF_LEVEL 6 r ((s1.get .REF_RAW 6 r + s1.get .REF_CFG_POL 6 r) % 2)).put .REF_GDIRTY 6 r 1
      (((s2.put .REF_NE 6 r 0).put .REF_GEDGES 6 r 0).put .REF_GREJ 6 r 0).evaluate.refSettle

/-- REF_QUALIFY (R282): the reference has been clean for its hold-off. -/
def execRefQualify (r : Nat) (s : State) : Result :=
  .next <| s.when (s.refClean r = true ∧ s.get .REF_GCLEAN 6 r = 1 ∧ s.refQual r = false) fun t =>
    ((t.put .REF_LIVE_QUAL 6 r 1).put .REF_HOLD 6 r 0).evaluate.refSettle

/-! ### Input monitors (R280, R281, R297) -/

/-- Global number of a GPIO input. -/
def gpioNumber (d i : Nat) : Nat := (d - 6) * 16 + i

/-- REF_RAW_CHANGE (R280, R281): the raw level of an input changes; one that reverts before GFLT is rejected, and while OVERRATE is live
every change counts in the overrun counter. -/
def State.rawChange (s : State) (en live ovr grej rawp rawt raw : Fld) (d i level : Nat) : State :=
  if s.get raw d i = level then s
  else
    let t := s.put raw d i level
    if !s.on en d i then t
    else
      let u := t.when (s.on live d i = true ∨ s.on rawp d i = true) fun v => v.incSat ovr d i 1
      if s.on rawp d i then (u.inc grej d i 1).put rawp d i 0
      else (u.put rawp d i 1).put rawt d i (u.capture d)

/-- REF_RAW_CHANGE (R280): a reference pin (`gpio` 0) or a GPIO input (`gpio` 1) changes its raw level. -/
def execRefRawChange (gpio d i level : Nat) (s : State) : Result :=
  .next <|
    if gpio = 0 then s.rawChange .REF_CFG_EN .REF_LIVE_OVERRATE .REF_OVR .REF_GREJ .REF_RAWP .REF_RAWT .REF_RAW 6 i level
    else s.rawChange .GPIO_CFG_EN .GPIO_STATUS_OVERRATE .GPIO_OVR .GPIO_GREJ .GPIO_RAWP .GPIO_RAWT .GPIO_RAW d i level

/-! ### Frame outputs (R295, R296) -/

/-- Period and pulse length of a frame output, in 0.5 ns / FO_NUM. -/
def State.foPeriod (s : State) (o : Nat) : Nat := 2000000000 * s.get .FO_DEN 6 o
def State.foWidth (s : State) (o : Nat) : Nat :=
  if s.on .FO_CFG_SQUARE 6 o then 1000000000 * s.get .FO_DEN 6 o else s.get .FO_WIDTH 6 o * s.get .FO_NUM 6 o

/-- The first position of the grid through `base` at or after `least`. -/
def gridFrom (base least : Int) (period : Nat) : Int := least + (base - least) % (period : Int)

/-- The grid a source edge with stamp `e` gives: `e` + FO_OFFSET (R295). -/
def State.foBase (s : State) (o e : Nat) : Int := (2 * (e : Int) + s.sget .FO_OFFSET 6 o) * (s.get .FO_NUM 6 o : Int)

/-- A moment of SYSCNT as a position of a frame output. -/
def State.foAt (s : State) (o t : Nat) : Int := 2 * (t : Int) * (s.get .FO_NUM 6 o : Int)

/-- FRAME_OUT_START (R295): a waiting output places its edges; a realignment asked for while it waited is served with it. -/
def State.foStart (s : State) (o e : Nat) : State :=
  ((s.put .FO_NEXT 6 o (unsigned 128 (gridFrom (s.foBase o e) (s.foAt o (s.capture 6 + 1000)) (s.foPeriod o)))).put
    .FO_STATUS_STATE 6 o foRun).put .FO_REALIGN 6 o 0

/-- A realignment takes effect: the next edge goes to the first aligned position at least one pulse width after the last
deasserting edge, and not in the past (R296). DEDUCED (log entry 30). -/
def State.foRealign (s : State) (o e : Nat) : State :=
  let least := max (signed 128 (s.get .FO_FALL 6 o) + (s.foWidth o : Int)) (s.foAt o (s.capture 6))
  (s.put .FO_NEXT 6 o (unsigned 128 (gridFrom (s.foBase o e) least (s.foPeriod o)))).put .FO_REALIGN 6 o 0

/-- The difference at a source edge that falls on an edge position (R296): FO_ERR, MISALIGN beyond LOCKWIN. -/
def State.foMeasure (s : State) (o err : Nat) : State :=
  (s.put .FO_ERR 6 o err).when ((signed 32 err).natAbs > 2 * s.get .DPLL_LOCK_LOCKWIN 6 0) fun t =>
    (t.put .FO_STATUS_MISALIGN 6 o 1).owe .REFSEL_FO_MISALIGN 6 refBlock o

/-- What an accepted edge of its source does to a frame output; `errs` holds the differences measured, by output. -/
def State.foSource (s : State) (o e : Nat) (errs : List (Nat × Nat)) : State :=
  match s.get .FO_STATUS_STATE 6 o with
  | 0 => s
  | 1 => s.foStart o e
  | _ =>
    let s1 := s.put .FO_STATUS_STATE 6 o foRun
    let s2 := match errs.find? fun (q : Nat × Nat) => q.1 == o with
      | some q => s1.foMeasure o q.2
      | none => s1
    s2.when (s2.on .FO_REALIGN 6 o = true) fun t => t.foRealign o e

/-- FRAME_OUT_ENABLE (R295): FO_CFG is written with EN = 1 and these fields. -/
def execFrameOutEnable (o pol square src : Nat) (s : State) : Result :=
  .next <| s.when (s.dieClocked 6 = true) fun s =>
    if rateOk (s.get .FO_NUM 6 o) (s.get .FO_DEN 6 o) = false ∨ 10 ≤ src ∨ s.get .REF_CFG_EN 6 src = 0 then
      s.put .FO_STATUS_BADCFG 6 o 1
    else if s.on .FO_CFG_EN 6 o then s
    else
      (((((s.put .FO_CFG_EN 6 o 1).put .FO_CFG_POL 6 o pol).put .FO_CFG_SQUARE 6 o square).put .FO_CFG_SRC 6 o src).put
        .FO_STATUS_STATE 6 o foWait).put .FO_REALIGN 6 o 0

/-- FRAME_OUT_DISABLE (R295): a pulse in progress runs to its end. -/
def execFrameOutDisable (o : Nat) (s : State) : Result :=
  .next <| s.when (s.dieClocked 6 = true) fun s => (s.put .FO_CFG_EN 6 o 0).put .FO_STATUS_STATE 6 o foOff

/-- FRAME_OUT_REALIGN (R296): FO_CTL.REALIGN, or with `write` a write of FO_OFFSET. -/
def execFrameOutRealign (o write offset : Nat) (s : State) : Result :=
  .next <| s.when (s.dieClocked 6 = true) fun s =>
    (s.when (write = 1) fun t => t.put .FO_OFFSET 6 o offset).when (s.on .FO_CFG_EN 6 o = true) fun t =>
    t.put .FO_REALIGN 6 o 1

/-- Where an edge of a frame output lies that comes now: at the position planned for it if that is in this nanosecond, else where SYSCNT
stands, to which slews and build-outs of the DPLL output have moved it (R296). -/
def State.foPlace (s : State) (o : Nat) : Int :=
  let p := signed 128 (s.get .FO_NEXT 6 o)
  let now := s.foAt o (s.capture 6)
  if now ≤ p ∧ p < now + 2 * (s.get .FO_NUM 6 o : Int) then p else now

/-- FRAME_OUT_EDGE (R295, R296): a pulse ends, or the next one begins. -/
def execFrameOutEdge (o : Nat) (s : State) : Result :=
  .next <|
    if s.on .FO_HIGH 6 o then s.put .FO_HIGH 6 o 0
    else
      s.when (s.get .FO_STATUS_STATE 6 o = foRun ∨ s.get .FO_STATUS_STATE 6 o = foFly) fun t =>
        let p := t.foPlace o
        ((t.put .FO_HIGH 6 o 1).put .FO_FALL 6 o (unsigned 128 (p + (t.foWidth o : Int)))).put .FO_NEXT 6 o
          (unsigned 128 (p + (t.foPeriod o : Int)))

/-- Level of a FRAME_OUT pin (R295), or none where it is high-impedance. -/
def State.foPin (s : State) (o : Nat) : Option Nat :=
  if s.pinsFloat then none else some ((s.get .FO_HIGH 6 o + s.get .FO_CFG_POL 6 o) % 2)

/-! ### Accepted edges (R280, R281, R286, R289) -/

/-- The time extrapolated from the two edges before (R281). -/
def State.refExpected (s : State) (r : Nat) : Int := 2 * (s.get .REF_E1 6 r : Int) - (s.get .REF_E2 6 r : Int)

/-- The jump of an edge against the extrapolation, in ns; 0 with fewer than two edges before. After a step of the PHC reference 8 misses
edges, and its extrapolation goes on by whole periods (R345; DEDUCED, log entry 122). -/
def State.refJump (s : State) (r e : Nat) : Int :=
  let x := (e : Int) - s.refExpected r
  let p := (s.get .REF_E1 6 r : Int) - (s.get .REF_E2 6 r : Int)
  if s.get .REF_NE 6 r < 2 then 0
  else if r = 8 ∧ s.on .PTP_JUMP 6 0 = true then (x + p / 2) % p - p / 2
  else x

/-- The stamps of the last edges. A phase hit begins them anew: the edges before it say nothing of those after it (R281; DEDUCED, log
entry 146). After a step of the PHC the edge before is a period back (R345). -/
def State.refEdges (s : State) (r e : Nat) (hit : Bool) : State :=
  if hit then (s.put .REF_E1 6 r e).put .REF_NE 6 r 1
  else
    let prev : Nat := if r = 8 ∧ s.on .PTP_JUMP 6 0 = true ∧ s.get .REF_NE 6 r = 2 then
        ((e : Int) - ((s.get .REF_E1 6 r : Int) - (s.get .REF_E2 6 r : Int))).toNat
      else s.get .REF_E1 6 r
    ((s.put .REF_E2 6 r prev).put .REF_E1 6 r e).put .REF_NE 6 r (min 2 (s.get .REF_NE 6 r + 1))

/-- A phase hit (R281, R289); at a switch's first edge the offset latched there holds the jump already (R286). -/
def State.refHit (s : State) (r : Nat) (jump : Int) : State :=
  let t := ((s.put .REF_LIVE_PHASE_HIT 6 r 1).put .REF_GHIT 6 r 0).refHist1 .REF_HIST_PHASE_HIT .REF_IEN_PHASE_HIT r
  t.when (t.get .REFSEL_STATUS_SEL 6 0 = r ∧ (t.get .REFSEL_STATUS_SWITCHING 6 0 = 0 ∨ t.get .SW_EDGES 6 0 = 1) ∧
      t.get .DPLL_CFG_PBO_HIT 6 0 = 1) fun u =>
    u.sput .DPLL_PBO 6 0 (u.sget .DPLL_PBO 6 0 + jump)

/-- An edge of the reference a switch goes to (R286). -/
def State.switchEdge (s : State) (r : Nat) (phase : Int) : State :=
  s.when (s.get .REFSEL_STATUS_SEL 6 0 = r ∧ s.get .REFSEL_STATUS_SWITCHING 6 0 = 1) fun t =>
    if t.get .SW_EDGES 6 0 = 0 then (t.sput .DPLL_PBO 6 0 phase).put .SW_EDGES 6 0 1 else t.switchEnd false

/-- The loop steers: its frequency word is free (log entry 31). -/
def State.dpllSteer (s : State) (r : Nat) : State :=
  s.when (s.get .REFSEL_STATUS_SEL 6 0 = r ∧ s.get .REFSEL_STATUS_SWITCHING 6 0 = 0) fun t =>
    (t.put .DPLL_FREQ 6 0 t.free).drawn

/-- An accepted asserting edge of a reference with stamp `e`; `phase` is its phase against the DPLL output. -/
def State.refEdge (s : State) (r e : Nat) (phase : Int) (errs : List (Nat × Nat)) : State :=
  let jump := s.refJump r e
  let hit := jump.natAbs > s.get .DPLL_LOCK_HITTH 6 0 * 10
  let s1 := ((s.put .REF_LIVE_LOS 6 r 0).inc .REF_GEDGES 6 r 1).refEdges r e hit
  let s2 := s1.when (hit = true) fun t => t.refHit r jump
  let s3 := s2.switchEdge r phase
  let s4 := ((s3.sput .REF_PHASE 6 r (phase - s3.sget .DPLL_PBO 6 0)).dpllSteer r).when (r = 8) fun t => t.put .PTP_JUMP 6 0 0
  s4.each (s4.foOf r) fun o t => t.foSource o e errs

/-- An internal reference has an edge with stamp `e`, which waits to be accepted: a second boundary of the PHC (8), the head's tick (9)
(R277, R367). -/
def State.refInternal (s : State) (r e : Nat) : State := (s.put .REF_RAWP 6 r 1).put .REF_RAWT 6 r e

/-- A reference's level is accepted (R280), or an internal reference's edge (R277); while OVERRATE is live no change is (R281). -/
def State.refAccept (s : State) (r : Nat) (phase : Int) (errs : List (Nat × Nat)) : State :=
  s.when (s.on .REF_CFG_EN 6 r = true ∧ s.on .REF_RAWP 6 r = true) fun t =>
    let e := t.get .REF_RAWT 6 r
    let t := t.put .REF_RAWP 6 r 0
    if 8 ≤ r then t.when (t.refAlive r = true) fun u => u.refEdge r e phase errs
    else if t.on .REF_LIVE_OVERRATE 6 r then t
    else
      let level := (t.get .REF_RAW 6 r + t.get .REF_CFG_POL 6 r) % 2
      let u := t.put .REF_LEVEL 6 r level
      if level = 1 then u.refEdge r e phase errs else u.put .REF_LIVE_STUCK 6 r 0

/-- A GPIO input's level is accepted (R297). -/
def State.gpioAccept (s : State) (d i : Nat) : State :=
  s.when (s.on .GPIO_CFG_EN d i = true ∧ s.on .GPIO_RAWP d i = true) fun t =>
    if t.on .GPIO_STATUS_OVERRATE d i then t.put .GPIO_RAWP d i 0
    else
    let level := (t.get .GPIO_RAW d i + t.get .GPIO_CFG_POL d i) % 2
    let bits := t.get .GPIO_LEVELS d 0
    let u := ((t.put .GPIO_RAWP d i 0).put .GPIO_STATUS_LEVEL d i level).put .GPIO_LEVELS d 0
      (if level = 1 then setBit bits i else clearBit bits i)
    let v := (u.put .GPIO_STAMP d i (t.get .GPIO_RAWT d i)).put .GPIO_STATUS_CHG d i 1
    let w := if level = 1 then v.inc .GPIO_GEDGES d i 1
      else v.when (v.on .GPIO_STATUS_STUCK d i = true) fun x =>
        (x.put .GPIO_STATUS_STUCK d i 0).condEnd .GPIO_STUCK d 0 (gpioNumber d i)
    w.when (w.on .GPIO_CFG_IEN d i = true) fun x => x.fault .GPIO_CHANGE d 0 (gpioNumber d i)

/-- INPUT_EDGE_ACCEPT (R280): a level has held for GFLT. For references 8 and 9 the event is the internal edge (R277). -/
def execInputEdgeAccept (gpio d i phase : Nat) (errs : List (Nat × Nat)) (s : State) : Result :=
  .next <| if gpio = 0 then (s.refAccept i (signed 32 phase) errs).refSettle else s.gpioAccept d i

/-! ### Conditions (R281) -/

/-- A reference is lost; reference 8 keeps its edges until the servo locks again, for the hit a step of the PHC makes (R345). -/
def State.refLos (s : State) (r : Nat) : State :=
  let s1 := ((s.put .REF_LIVE_LOS 6 r 1).when (r ≠ 8) fun t => t.put .REF_NE 6 r 0).refHist1 .REF_HIST_LOS .REF_IEN_LOS r
  ((s1.foFlywheel r).refFreeze r).refUpdate r

/-- An internal reference that has lost what it needs is LOS (R278). -/
def State.refDead (s : State) (r : Nat) : State :=
  s.when (s.on .REF_CFG_EN 6 r = true ∧ s.on .REF_LIVE_LOS 6 r = false ∧ s.refAlive r = false) fun t => (t.refLos r).refSettle

/-- REF_LOS (R281): no accepted asserting edge for two nominal periods. -/
def execRefLos (r : Nat) (s : State) : Result :=
  .next <| s.when (s.on .REF_CFG_EN 6 r = true ∧ s.on .REF_LIVE_LOS 6 r = false) fun t => (t.refLos r).refSettle

/-- REF_STUCK (R281): the accepted level has stayed asserted for longer than STUCKTO. -/
def execRefStuck (gpio d i : Nat) (s : State) : Result :=
  .next <|
    if gpio = 0 then
      s.when (i < 8 ∧ s.on .REF_CFG_EN 6 i = true ∧ s.on .REF_LEVEL 6 i = true ∧ s.get .REF_MON_STUCKTO 6 i ≠ 0 ∧
          s.on .REF_LIVE_STUCK 6 i = false) fun t =>
        ((((t.put .REF_LIVE_STUCK 6 i 1).refHist1 .REF_HIST_STUCK .REF_IEN_STUCK i).refFreeze i).refUpdate i).refSettle
    else
      s.when (s.on .GPIO_CFG_EN d i = true ∧ s.on .GPIO_STATUS_LEVEL d i = true ∧ s.get .GPIO_MON_STUCKTO d i ≠ 0 ∧
          s.on .GPIO_STATUS_STUCK d i = false) fun t =>
        ((t.put .GPIO_STATUS_STUCK d i 1).put .GPIO_STATUS_STUCK_H d i 1).condBegin .GPIO_STUCK d 0 (gpioNumber d i)

/-- The gate of a reference had too many edges or rejected changes; never for references 8 and 9 (R278, R281). -/
def State.refOver (s : State) (r : Nat) : Bool :=
  let n := s.get .REF_GEDGES 6 r
  r < 8 && ((8 < n && 4 * s.get .REF_NOM_NUM 6 r < n * 10 * s.get .REF_NOM_DEN 6 r) || 16 ≤ s.get .REF_GREJ 6 r)

/-- The gate of a GPIO input had too many. -/
def State.gpioOver (s : State) (d i : Nat) : Bool :=
  4 * s.get .GPIO_RATE d i < s.get .GPIO_GEDGES d i || 16 ≤ s.get .GPIO_GREJ d i

/-- OVERRATE at the end of a reference's gate. -/
def State.refJudgeRate (s : State) (r : Nat) : State :=
  if s.refOver r then
    (((s.put .REF_LIVE_OVERRATE 6 r 1).put .REF_RAWP 6 r 0).refHist1 .REF_HIST_OVERRATE .REF_IEN_OVERRATE r).refFreeze r
  else s.put .REF_LIVE_OVERRATE 6 r 0

/-- REF_FREQ and FREQ_OOR at the end of a gate: the window is in ppm, the measurement in ppt. -/
def State.refJudgeFreq (s : State) (r freq : Nat) : State :=
  let t := s.put .REF_FREQ 6 r freq
  if (signed 32 freq).natAbs > t.get .REF_QUAL_WINDOW 6 r * 1000000 then
    ((t.put .REF_LIVE_FREQ_OOR 6 r 1).refHist1 .REF_HIST_FREQ_OOR .REF_IEN_FREQ_OOR r).refFreeze r
  else t.put .REF_LIVE_FREQ_OOR 6 r 0

/-- PHASE_HIT clears when the gate that follows the hit ends. -/
def State.refJudgeHit (s : State) (r : Nat) : State :=
  if s.on .REF_LIVE_PHASE_HIT 6 r then
    if s.on .REF_GHIT 6 r then (s.put .REF_LIVE_PHASE_HIT 6 r 0).put .REF_GHIT 6 r 0 else s.put .REF_GHIT 6 r 1
  else s

/-- The first clean gate starts the hold-off; a new gate begins. -/
def State.refGateStart (s : State) (r : Nat) : State :=
  let s1 := s.refUpdate r
  let s2 := s1.when (s1.refClean r = true ∧ s1.get .REF_GDIRTY 6 r = 0 ∧ s1.get .REF_GCLEAN 6 r = 0) fun t =>
    ((t.put .REF_GCLEAN 6 r 1).put .REF_HOLDT 6 r (t.capture 6)).put .REF_HOLD 6 r (max 1 (t.get .REF_QUAL_HOLDOFF 6 r))
  ((s2.put .REF_GDIRTY 6 r (flag (!s2.refClean r))).put .REF_GEDGES 6 r 0).put .REF_GREJ 6 r 0

/-! ### Discrepancy (R283) -/

/-- Enabled and clean apart from SUSPECT. -/
def State.refComparable (s : State) (r : Nat) : Bool := (s.put .REF_LIVE_SUSPECT 6 r 0).refClean r

/-- The partners a reference disagrees with. -/
def State.refDisagree (s : State) (r : Nat) : List Nat :=
  (List.range 10).filter fun q =>
    q != r && s.refComparable r && s.refComparable q && s.get .REF_CFG_RANK 6 q == s.get .REF_CFG_RANK 6 r &&
      (s.sget .REF_FREQ 6 q - s.sget .REF_FREQ 6 r).natAbs > s.get .REFSEL_DISC 6 0

/-- Distance of a reference's frequency from the estimate. -/
def State.refFar (s : State) (r : Nat) : Nat :=
  (s.sget .REF_FREQ 6 r - (if s.get .DPLL_STATUS_HOVALID 6 0 = 1 then s.sget .DPLL_HOFREQ 6 0 else 0)).natAbs

/-- Of a pair that disagrees, whether `r` is the one to mark. -/
def State.refWorse (s : State) (r q : Nat) : Bool := s.refFar q < s.refFar r || (s.refFar q == s.refFar r && q < r)

/-- The outcome of the comparison for one reference, as `base` held the measurements. -/
def State.refDiscrepancy (s base : State) (r : Nat) : State :=
  if base.refComparable r = false then s
  else
    let l := base.refDisagree r
    if l = [] then
      (((s.put .REF_LIVE_DISCREPANT 6 r 0).when (s.on .REF_LIVE_SUSPECT 6 r = true) fun t =>
        (t.put .REF_LIVE_SUSPECT 6 r 0).condEnd .REFSEL_SUSPECT 6 refBlock r))
    else
      let t := (s.put .REF_LIVE_DISCREPANT 6 r 1).refHist1 .REF_HIST_DISCREPANT .REF_IEN_DISCREPANT r
      t.when (l.any (base.refWorse r) = true ∧ t.on .REF_LIVE_SUSPECT 6 r = false) fun u =>
        ((u.put .REF_LIVE_SUSPECT 6 r 1).refHist1 .REF_HIST_SUSPECT .REF_IEN_SUSPECT r).oweCond .REFSEL_SUSPECT 6 refBlock r

/-- The comparison of every pair at the end of a gate. -/
def State.refCompare (s : State) : State := s.each (List.range 10) fun r t => t.refDiscrepancy s r

/-- The end of a reference's gate: all that it marks is disqualified in one cycle (R282, R283). -/
def State.refGateEnd (s : State) (r freq : Nat) : State :=
  s.when (s.on .REF_CFG_EN 6 r = true) fun t =>
    let u := (((t.refJudgeRate r).refJudgeFreq r freq).refJudgeHit r).refCompare
    (u.refUpdates ((List.range 10).filter fun q => u.on .REF_CFG_EN 6 q)).refGateStart r

/-- The end of a GPIO input's gate. -/
def State.gpioGateEnd (s : State) (d i : Nat) : State :=
  s.when (s.on .GPIO_CFG_EN d i = true) fun t =>
    let u := if t.gpioOver d i then
        ((((t.put .GPIO_STATUS_OVERRATE d i 1).put .GPIO_STATUS_OVERRATE_H d i 1).put .GPIO_RAWP d i 0).condBegin
          .GPIO_OVERRATE d 0 (gpioNumber d i))
      else t.when (t.on .GPIO_STATUS_OVERRATE d i = true) fun v =>
        (v.put .GPIO_STATUS_OVERRATE d i 0).condEnd .GPIO_OVERRATE d 0 (gpioNumber d i)
    (u.put .GPIO_GEDGES d i 0).put .GPIO_GREJ d i 0

/-- MONITOR_GATE_END (R281, R282, R283): a gate ends; `freq` is the frequency measured in it, in ppt. -/
def execMonitorGateEnd (gpio d i freq : Nat) (s : State) : Result :=
  .next <| if gpio = 0 then (s.refGateEnd i freq).refSettle else s.gpioGateEnd d i

/-! ### The loop (R285, R290 to R293) -/

/-- Magnitude of the selected reference's phase. -/
def State.dpllPhase (s : State) : Nat := (s.sget .REF_PHASE 6 (s.get .REFSEL_STATUS_SEL 6 0)).natAbs

/-- The loop is closed on a reference. -/
def State.dpllClosed (s : State) : Bool :=
  (s.get .DPLL_STATUS_STATE 6 0 == dpllAcquire || s.get .DPLL_STATUS_STATE 6 0 == dpllLocked) &&
    s.get .REFSEL_STATUS_SWITCHING 6 0 == 0

/-- A new interval of the average begins. -/
def State.hoClear (s : State) : State := (s.put .HO_ACC 6 0 0).put .HO_ACCN 6 0 0

/-- DPLL_LOCK (R285): the phase has held within LOCKWIN for LOCKTIME. -/
def execDpllLock (s : State) : Result :=
  .next <| s.when (s.get .DPLL_STATUS_STATE 6 0 = dpllAcquire ∧ s.get .REFSEL_STATUS_SWITCHING 6 0 = 0 ∧
      s.dpllPhase ≤ s.get .DPLL_LOCK_LOCKWIN 6 0) fun t =>
    (((t.dpllEnter dpllLocked).put .HO_LOCKT 6 0 0).put .HO_FROZEN 6 0 0).hoClear.refSettle

/-- DPLL_UNLOCK (R285): the phase has been beyond LOCKWIN for 1 s. -/
def execDpllUnlock (s : State) : Result :=
  .next <| s.when (s.get .DPLL_STATUS_STATE 6 0 = dpllLocked ∧ s.get .DPLL_LOCK_LOCKWIN 6 0 < s.dpllPhase) fun t =>
    ((t.dpllEnter dpllAcquire).put .SW_FREERUN 6 0 0).refSettle

/-- A mean in whole ppt; its rounding is open (log entry 123). -/
def meanPpt (sum : Int) (n : Nat) : Int := if sum % n ≠ 0 ∧ Config.meanUp sum n = true then sum / n + 1 else sum / n

/-- The average of the frequency word since the last update (R292). -/
def State.hoMean (s : State) : Int :=
  if s.get .HO_ACCN 6 0 = 0 then s.sget .DPLL_FREQ 6 0 else meanPpt (signed 96 (s.get .HO_ACC 6 0)) (s.get .HO_ACCN 6 0)

/-- The average over the last `n` updates, 100 at most. -/
def State.hoAverage (s : State) (n : Nat) : Int :=
  let k := s.get .HO_UPD 6 0 + 100
  meanPpt ((List.range n).foldl (fun a i => a + s.sget .HO_AVG 6 ((k - 1 - i) % 100)) 0) n

/-- HOLDOVER_UPDATE (R292): 100 ms more of lock; the memory takes the average of the frequency word over the lock up to 10 s. -/
def execHoldoverUpdate (s : State) : Result :=
  .next <| s.when (s.get .DPLL_STATUS_STATE 6 0 = dpllLocked ∧ s.get .HO_FROZEN 6 0 = 0) fun t =>
    let n := min 100 (t.get .HO_LOCKT 6 0 + 1)
    let i := t.get .HO_UPD 6 0
    let u := (((t.put .HO_LOCKT 6 0 n).sput .HO_AVG 6 i t.hoMean).put .HO_UPD 6 0 ((i + 1) % 100)).hoClear
    u.when (10 ≤ n) fun v => (v.sput .DPLL_HOFREQ 6 0 (v.hoAverage n)).put .DPLL_STATUS_HOVALID 6 0 1

/-- A nanosecond of lock joins the average (R292). -/
def State.hoTick (s : State) : State :=
  s.when (s.get .DPLL_STATUS_STATE 6 0 = dpllLocked ∧ s.get .HO_FROZEN 6 0 = 0) fun t =>
    (t.put .HO_ACC 6 0 (unsigned 96 (signed 96 (t.get .HO_ACC 6 0) + t.sget .DPLL_FREQ 6 0))).inc .HO_ACCN 6 0 1

/-- XO_LOST (R293): the source moves to REFCLK100. -/
def execXoLost (s : State) : Result :=
  .next <| s.when (s.get .IN_PORST 6 0 = 0 ∧ s.get .DPLL_STATUS_XOSRC 6 0 = 0) fun t =>
    (((t.put .DPLL_STATUS_XOSRC 6 0 1).dpllHist .DPLL_HIST_XO_LOST .DPLL_IEN_XO_LOST).oweCond .REFSEL_XO_LOST 6 refBlock
      Config.noInstance).refSettle

/-- XO_RESTORE (R293): the source returns; the phase difference of the two is built out. -/
def execXoRestore (phase : Nat) (s : State) : Result :=
  .next <| s.when (s.get .DPLL_STATUS_XOSRC 6 0 = 1) fun t =>
    ((t.put .DPLL_STATUS_XOSRC 6 0 0).sput .DPLL_PBO 6 0 (t.sget .DPLL_PBO 6 0 + signed 32 phase)).condEnd .REFSEL_XO_LOST 6
      refBlock Config.noInstance

/-- The rate at which DPLL_PBO moves, in ns per second (R290, R291). -/
def State.slewRate (s : State) : Nat :=
  if s.dpllClosed = false ∨ s.get .DPLL_PBO 6 0 = 0 then 0
  else if s.get .DPLL_STATUS_STATE 6 0 = dpllAcquire ∧ s.get .SW_FREERUN 6 0 = 1 ∧ s.get .DPLL_CFG_INITALIGN 6 0 = 1 ∧
      s.get .EPOCH_STATUS_RUN 6 0 = 0 ∧ s.get .EPOCH_STATUS_RUN 6 1 = 0 ∧ s.get .EPOCH_STATUS_RUN 6 2 = 0 then 100000
  else if s.get .DPLL_CFG_REALIGN 6 0 = 1 then max 1 (s.get .DPLL_CFG_SLEW 6 0)
  else 0

/-- The slew of one nanosecond, at the full rate (log entry 32). -/
def State.slewTick (s : State) : State :=
  let k := s.slewRate
  let a := s.get .PBO_ACC 6 0 + k
  if k = 0 then s.put .DPLL_STATUS_REALIGNING 6 0 0
  else
    let t := s.put .DPLL_STATUS_REALIGNING 6 0 1
    if a < 1000000000 then t.put .PBO_ACC 6 0 a
    else
      let p := t.sget .DPLL_PBO 6 0
      (t.put .PBO_ACC 6 0 (a - 1000000000)).sput .DPLL_PBO 6 0 (if 0 < p then p - 1 else p + 1)

end Sys2Proof.Machine
end

