-- ==== Sys2Proof/Machine/Ptp.lean ====
section
/-! DEFINITION. The PTP hardware clock, its servo, the TSYNC outputs and the mapping to DOMCNT. -/

namespace Sys2Proof.Machine

/-- Nanoseconds of a second. -/
abbrev giga : Nat := 1000000000

/-! ### The clock (R337 to R340) -/

/-- The addend of one REFCLK100 edge in 2⁻⁴⁰ ns, for a signed frequency word; its last place is open (log entry 33). -/
def phcAddend (f : Int) : Nat :=
  let num := 10 * (10 ^ 12 + f) * 2 ^ 40
  let q := num / 10 ^ 12
  (if num % 10 ^ 12 ≠ 0 ∧ Config.phcUp f then q + 1 else q).toNat

/-- The PHC of a die advances at a REFCLK100 edge (R337); a second boundary of die 6's is an edge of reference 8, stamped to 1 ns
(R277). -/
def State.phcAdvance (s : State) (d : Nat) : State :=
  let x := s.get .PHC_RFRAC d 0 + phcAddend (s.sget .PHC_F d 0)
  let ns := s.get .PHC_RNS d 0 + x / 2 ^ 40
  let t := s.put .PHC_RFRAC d 0 (x % 2 ^ 40)
  if ns < giga then t.put .PHC_RNS d 0 ns
  else ((t.put .PHC_RNS d 0 (ns - giga)).inc .PHC_RSEC d 0 1).when (d = 6) fun u => u.refInternal 8 (u.capture 6 - (ns - giga))

/-- The PHC of a die now, interpolated to 1 ns, in ns (R349). -/
def State.phcNs (s : State) (d : Nat) : Nat :=
  s.get .PHC_RSEC d 0 * giga + s.get .PHC_RNS d 0 + s.get .SUBNS d 0

/-- The PHC of a die takes a value. -/
def State.phcLoad (s : State) (d sec ns frac : Nat) : State :=
  ((s.put .PHC_RSEC d 0 sec).put .PHC_RNS d 0 ns).put .PHC_RFRAC d 0 frac

/-- How far PHC time `a` lies past time `b` in ns, both as seconds and nanoseconds (R346). -/
def phcPast (a b : Nat × Nat) : Int :=
  signed 32 (unsigned 32 ((a.1 : Int) - (b.1 : Int))) * 1000000000 + ((a.2 : Int) - (b.2 : Int))

/-- Whether PHC time `a` has reached time `b` (R346). -/
def phcReached (a b : Nat × Nat) : Bool := 0 ≤ phcPast a b

/-- The PHC of a die as seconds and nanoseconds. -/
def State.phcNow (s : State) (d : Nat) : Nat × Nat := (s.phcNs d / giga, s.phcNs d % giga)

/-- PHC_SNAP (R340): PTP_CTL.SNAP on a die. -/
def execPhcSnap (d : Nat) (s : State) : Result :=
  .next <| s.when (s.dieClocked d = true) fun s =>
    ((((s.put .PHC_SEC d 0 (s.get .PHC_RSEC d 0)).put .PHC_NS d 0 (s.get .PHC_RNS d 0)).put .PHC_FRAC d 0
    (s.get .PHC_RFRAC d 0 / 2 ^ 24)).put .PHC_SYS d 0 (s.get .TB_SYSCNT d 0))

/-! ### Scheduled changes (R339, R344) -/

/-- Dies that learn of a change: die 7 over the die links. -/
def State.phcDies (s : State) : List Nat := if s.routeUp 6 7 then [6, 7] else [6]

/-- PEND follows the changes that wait. -/
def State.phcPend (s : State) (d : Nat) : State := s.put .PTP_STATUS_PEND d 0 (flag (s.phc.any fun c => c.die == d))

/-- A change is scheduled for the edge 100 ns ahead, on each die that learns of it (R339). -/
def State.phcSchedule (s : State) (c : PhcChange) : State :=
  s.each s.phcDies fun d t =>
    State.phcPend { t with phc := t.phc ++ [{ c with die := d, due := s.get .TB_SYSCNT 6 0 + 100 }] } d

/-- A change of F is scheduled; one an offset makes replaces one that an earlier offset made and that still waits (R344). -/
def State.setFreq (s : State) (offset : Bool) (f : Int) : State :=
  let t := s.sput .SERVO_FREQ 6 0 f
  State.phcSchedule { t with phc := t.phc.filter fun c => !(offset && c.offset && s.phcDies.contains c.die) }
    ⟨6, 0, 0, offset, unsigned 32 f, 0, 0⟩

/-- A step is scheduled: kind 1 by an offset, kind 2 to a time. -/
def State.setStep (s : State) (kind val sec ns : Nat) : State := s.phcSchedule ⟨6, 0, kind, false, val, sec, ns⟩

/-- The PHC of a change's die takes a step: back by a signed offset in 2⁻¹⁶ ns, or to a time with fraction 0 (R343). -/
def State.phcStep (s : State) (c : PhcChange) : State :=
  let d := c.die
  if c.kind = 2 then s.phcLoad d c.sec c.ns 0
  else
    let v : Int := ((s.get .PHC_RSEC d 0 * giga + s.get .PHC_RNS d 0) * 2 ^ 40 + s.get .PHC_RFRAC d 0 : Nat) -
      signed 64 c.val * 2 ^ 24
    let u := (v % ((2 ^ 48 * giga * 2 ^ 40 : Nat) : Int)).toNat
    s.phcLoad d (u / 2 ^ 40 / giga) (u / 2 ^ 40 % giga) (u % 2 ^ 40)

/-! ### The servo (R341 to R343) -/

/-- PTP_STEP_REQ holds while STEP_REQ = 1. -/
def State.stepReqEnd (s : State) : State :=
  (s.put .SERVO_STATUS_STEP_REQ 6 0 0).when (s.live 6 0 .PTP_STEP_REQ = true) fun t =>
    t.condEnd .PTP_STEP_REQ 6 0 Config.noInstance

/-- LOCK falls: reference 8 loses its servo (R278, R342). -/
def State.servoUnlock (s : State) : State :=
  ((s.put .SERVO_STATUS_LOCK 6 0 0).put .SERVO_GOODN 6 0 0).refDead 8

/-- LOCK rises: reference 8 begins without edges, but after a step it keeps those from before (R345). -/
def State.servoLock (s : State) : State :=
  (s.put .SERVO_STATUS_LOCK 6 0 1).when (s.on .SERVO_STATUS_LOCK 6 0 = false ∧ s.on .PTP_JUMP 6 0 = false) fun t =>
    t.put .REF_NE 6 8 0

/-- FBASE takes F, and I becomes 0 (R343). -/
def State.servoLoad (s : State) : State := (s.put .SERVO_FBASE 6 0 (s.get .SERVO_FREQ 6 0)).put .SERVO_INT 6 0 0

/-- A product of a gain (16.8 ppt per ns) and an offset (2⁻¹⁶ ns) in whole ppt; the rounding is open (log entry 34). -/
def servoPpt (gain : Nat) (theta : Int) : Int :=
  let num := (gain : Int) * theta
  let q := num / 2 ^ 24
  if num % 2 ^ 24 ≠ 0 ∧ Config.servoUp num then q + 1 else q

/-- A value clamped to ±SERVO_FMAX and to the register. -/
def State.servoClamp (s : State) (x : Int) : Int :=
  let m : Int := (min (s.get .SERVO_FMAX 6 0) (2 ^ 31 - 1) : Nat)
  max (-m) (min x m)

/-- FSAT (R341). -/
def State.servoSat (s : State) : State := (s.put .SERVO_STATUS_FSAT 6 0 1).owe .PTP_FSAT 6 0 Config.noInstance

/-- LOCK after a processed offset (R342). -/
def State.servoJudge (s : State) (theta : Int) : State :=
  if theta.natAbs ≤ s.get .SERVO_LOCK_LOCKTH 6 0 * 2 ^ 16 then
    let n := min 255 (s.get .SERVO_GOODN 6 0 + 1)
    (s.put .SERVO_GOODN 6 0 n).when (max 1 (s.get .SERVO_LOCK_LOCKN 6 0) ≤ n) fun t => t.servoLock
  else s.servoUnlock

/-- An offset within STEP_THRESH moves I and F (R341). -/
def State.servoMove (s : State) (theta : Int) : State :=
  let i0 := s.sget .SERVO_INT 6 0 + servoPpt (s.get .SERVO_KI 6 0) theta
  let i := s.servoClamp i0
  let f0 := s.sget .SERVO_FBASE 6 0 - servoPpt (s.get .SERVO_KP 6 0) theta - i
  let f := s.servoClamp f0
  let t := ((s.sput .SERVO_INT 6 0 i).setFreq true f).when (i ≠ i0 ∨ f ≠ f0) fun t => t.servoSat
  t.servoJudge theta

/-- A pending request is cancelled (R343); on stepping A1 FBASE and I stay (R508). -/
def State.stepCancel (s : State) : State :=
  (s.stepReqEnd.put .SERVO_STATUS_STEP_CANC 6 0 1).owe .PTP_STEP_CANC 6 0 Config.noInstance

/-- HOLD ends at the next offset (R342). -/
def State.servoUnhold (s : State) : State :=
  s.when (s.on .SERVO_STATUS_HOLD 6 0 = true) fun t =>
    (t.put .SERVO_STATUS_HOLD 6 0 0).condEnd .PTP_HOLD 6 0 Config.noInstance

/-- STEP_ACK (R343): the step is scheduled; without a request it is ignored. The effects on FBASE, I, STEP_CNT and STEPPED
follow at the edge, as the worked example has them (log entry 35). -/
def State.stepAck (s : State) : State :=
  s.when (s.on .SERVO_STATUS_STEP_REQ 6 0 = true) fun t => (t.setStep 1 (t.get .STEP_VAL 6 0) 0 0).stepReqEnd

/-- SERVO_OFFSET_WRITE (R341): an offset takes effect at the write of its high word; a STEP_ACK of the same cycle is judged first
(R344). -/
def execServoOffsetWrite (theta : Nat) (ack : Bool) (s : State) : Result :=
  let th := signed 64 theta
  .next <| s.when (s.dieClocked 6 = true) fun s =>
    let s := (s.when (ack = true) fun t => t.stepAck).put .SERVO_OFFT 6 0 (s.capture 6)
    if s.get .SERVO_CFG 6 0 = 0 then s
    else
      let t := s.servoUnhold
      let req := t.on .SERVO_STATUS_STEP_REQ 6 0
      if th.natAbs ≤ t.get .STEP_THRESH 6 0 * 2 ^ 16 then ((t.when (req = true) fun u => u.stepCancel).servoMove th).settle .PTP_FSAT 6 0
      else if req then t.put .STEP_VAL 6 0 theta
      else
        ((((t.put .SERVO_STATUS_STEP_REQ 6 0 1).put .STEP_VAL 6 0 theta).servoUnlock).condBegin .PTP_STEP_REQ 6 0
          Config.noInstance)

/-- STEP_ACK (R343). -/
def execStepAck (s : State) : Result := .next <| s.when (s.dieClocked 6 = true) State.stepAck

/-- SERVO_CLR (R343). -/
def execServoClr (s : State) : Result := .next <| s.when (s.dieClocked 6 = true) State.servoLoad

/-- PHC_SET (R343, R350): PTP_CTL.SET on a die; ignored on die 7 and with PHC_SETNS ≥ 10⁹. -/
def execPhcSet (d : Nat) (s : State) : Result :=
  .next <| s.when (s.dieClocked d = true ∧ d = 6 ∧ s.get .PHC_SETNS 6 0 < giga) fun t =>
    ((t.setStep 2 0 (t.get .PHC_SETSEC 6 0) (t.get .PHC_SETNS 6 0)).stepReqEnd).servoUnlock

/-- No offset has been written for TIMEOUT × 100 ms (R342), nor the servo enabled: DEDUCED (log entry 148). -/
def State.servoQuiet (s : State) : Bool :=
  s.get .SERVO_OFFT 6 0 + max 1 (s.get .SERVO_LOCK_TIMEOUT 6 0) * 100000000 ≤ s.capture 6

/-- SERVO_HOLD (R342): no offset for TIMEOUT. -/
def execServoHold (s : State) : Result :=
  .next <| s.when (s.get .SERVO_CFG 6 0 = 1 ∧ s.on .SERVO_STATUS_HOLD 6 0 = false ∧ s.servoQuiet = true) fun t =>
    ((t.put .SERVO_STATUS_HOLD 6 0 1).servoUnlock).condBegin .PTP_HOLD 6 0 Config.noInstance

/-- A write of SERVO_CFG.EN, or of SERVO_FBASE while it is 0: with EN = 0, F is FBASE, which the servo clamps (R341; log
entry 88). -/
def State.servoCfgWrite (s : State) (en : Nat) : State :=
  ((s.put .SERVO_CFG 6 0 en).when (en = 1 ∧ s.get .SERVO_CFG 6 0 = 0) fun t => t.put .SERVO_OFFT 6 0 (t.capture 6)).when (en = 0) fun t =>
    t.setFreq false (t.sget .SERVO_FBASE 6 0)
def State.servoFbaseWrite (s : State) (v : Nat) : State :=
  s.when (s.get .SERVO_CFG 6 0 = 0) fun t =>
    (t.sput .SERVO_FBASE 6 0 (t.servoClamp (signed 32 v))).setFreq false (t.servoClamp (signed 32 v))

/-! ### TSYNC outputs (R347, R348) -/

/-- TS_STATUS.STATE (R350). -/
abbrev tsOff : Nat := 0
abbrev tsArmed : Nat := 1
abbrev tsRun : Nat := 2
abbrev tsDone : Nat := 3

/-- START of an output as seconds and nanoseconds. -/
def State.tsStart (s : State) (o : Nat) : Nat × Nat := (s.get .TS_START_SEC 6 o, s.get .TS_START_NS 6 o)

/-- Whether the PHC has reached START of an output. -/
def State.tsReached (s : State) (o : Nat) : Bool := phcReached (s.phcNow 6) (s.tsStart o)

/-- The first boundary START + k × PERIOD at least 1 µs ahead, START taken from the PHC as R346 compares them. -/
def State.tsNext (s : State) (o : Nat) : Nat :=
  let a := s.tsStart o
  let least := s.phcNs 6 + 1000
  let past := phcPast (least / giga, least % giga) a
  if past ≤ 0 then a.1 * giga + a.2 else least + (-past % (s.get .TS_PERIOD 6 o : Int)).toNat

/-- The next edge of a periodic output. -/
def State.tsPlan (s : State) (o t : Nat) : State := (s.put .TS_NSEC 6 o (t / giga)).put .TS_NNS 6 o (t % giga)

/-- The output asserts for TS_WIDTH of REFCLK100 time (R347). DESIGN CHOICE (log entry 124): while a pulse is in progress an edge that
comes due makes it longer and is no asserting edge. -/
def State.tsPulse (s : State) (o : Nat) : State :=
  ((s.when (s.on .TS_ACT 6 o = false) fun t => t.inc .TS_EDGES 6 o 1).put .TS_ACT 6 o 1).put .TS_OFFT 6 o
    (s.capture 6 + s.get .TS_WIDTH 6 o)

/-- A one-shot fires late (R347, R348). -/
def State.tsLate (s : State) (o : Nat) : State :=
  ((((s.tsPulse o).put .TS_STATUS_STATE 6 o tsDone).put .TS_JUMP 6 o 0).put .TS_STATUS_LATE 6 o 1).fault .TSYNC_LATE 6 0 o

/-- A write of TS_CFG.EN = 1 is refused (R347). -/
def State.tsRefused (s : State) (o periodic : Nat) : Bool :=
  giga ≤ s.get .TS_START_NS 6 o || s.get .TS_WIDTH 6 o < 10 ||
    (periodic == 1 && (s.get .TS_PERIOD 6 o < 40 || s.get .TS_PERIOD 6 o ≤ s.get .TS_WIDTH 6 o))

/-- TSYNC_ARM (R347): TS_CFG is written with EN = 1 and these fields. -/
def execTsyncArm (o periodic pol : Nat) (s : State) : Result :=
  .next <| s.when (s.dieClocked 6 = true) fun s =>
    if s.on .TS_CFG_EN 6 o then s
    else if s.tsRefused o periodic then (s.put .TS_STATUS_BADCFG 6 o 1).fault .TSYNC_BADCFG 6 0 o
    else
      let t := ((s.put .TS_CFG_EN 6 o 1).put .TS_CFG_PERIODIC 6 o periodic).put .TS_CFG_POL 6 o pol
      if periodic = 1 then (t.put .TS_STATUS_STATE 6 o tsRun).tsPlan o (t.tsNext o)
      else if t.tsReached o then t.tsLate o
      else (t.put .TS_STATUS_STATE 6 o tsArmed).put .TS_JUMP 6 o 0

/-- TSYNC_FIRE (R347): an edge at which the PHC has reached the programmed time; late where a step carried the PHC past it (R348). -/
def execTsyncFire (o : Nat) (s : State) : Result :=
  .next <|
    match s.get .TS_STATUS_STATE 6 o with
    | 1 => s.when (s.tsReached o = true) fun t =>
        if t.on .TS_JUMP 6 o then t.tsLate o else (t.tsPulse o).put .TS_STATUS_STATE 6 o tsDone
    | 2 => s.when (phcReached (s.phcNow 6) (s.get .TS_NSEC 6 o, s.get .TS_NNS 6 o) = true) fun t =>
        (t.tsPulse o).tsPlan o (t.get .TS_NSEC 6 o * giga + t.get .TS_NNS 6 o + t.get .TS_PERIOD 6 o)
    | _ => s

/-- TSYNC_PULSE_END (R347): the pulse has lasted TS_WIDTH. -/
def execTsyncPulseEnd (o : Nat) (s : State) : Result :=
  .next <| s.when (s.get .TS_OFFT 6 o ≤ s.capture 6) fun t => t.put .TS_ACT 6 o 0

/-- TSYNC_DISABLE (R347): a pulse in progress completes. -/
def execTsyncDisable (o : Nat) (s : State) : Result :=
  .next <| s.when (s.dieClocked 6 = true) fun s =>
    (s.put .TS_CFG_EN 6 o 0).put .TS_STATUS_STATE 6 o tsOff

/-- Level of a TSYNC_OUT pin (R347), or none where it is high-impedance. -/
def State.tsPin (s : State) (o : Nat) : Option Nat :=
  if s.pinsFloat then none else some ((s.get .TS_ACT 6 o + s.get .TS_CFG_POL 6 o) % 2)

/-- What a step does to an output (R348): an armed one-shot whose START the step has passed fires at the first edge after it; one whose
START `before` had reached is no concern of the step (R344). -/
def State.tsAdjust (s before : State) (o : Nat) : State :=
  match s.get .TS_STATUS_STATE 6 o with
  | 1 => s.put .TS_JUMP 6 o (flag (s.tsReached o && (!before.tsReached o || s.on .TS_JUMP 6 o)))
  | 2 => s.tsPlan o (s.tsNext o)
  | _ => s

/-! ### Changes take effect -/

/-- A step has taken effect on die 6, `before` it: the servo, the counts, the mappings, reference 8 and the outputs follow (R343,
R345). -/
def State.stepEffects (s before : State) (acked : Bool) : State :=
  let s1 := ((s.servoLoad.incSat .STEP_CNT 6 0 1).put .SERVO_STATUS_STEPPED 6 0 1).putAll .MAP_STEPD 6 3 1
  let s2 := s1.when (acked = true) fun t => t.fault .PTP_STEPPED 6 0 Config.noInstance
  (s2.when (s2.get .REF_NE 6 8 = 2) fun t => t.put .PTP_JUMP 6 0 1).each (List.range 4) fun o t => t.tsAdjust before o

/-- A change takes effect on its die. -/
def State.phcChange (s : State) (c : PhcChange) : State :=
  if c.kind = 0 then s.put .PHC_F c.die 0 c.val
  else (s.phcStep c).when (c.die = 6) fun t => t.stepEffects s (c.kind == 1)

/-- A waiting change is one that `what` names (bit 0 of F, bit 1 a step) and its edge has come on its die. -/
def State.phcDue (s : State) (what : Nat) (c : PhcChange) : Bool :=
  bitAt what (if c.kind = 0 then 0 else 1) == 1 && decide (c.due ≤ s.get .TB_SYSCNT c.die 0)

/-- PHC_CHANGE_APPLY (R339): the changes `what` names whose scheduled edge has come take effect in the order they were caused. -/
def execPhcChangeApply (what : Nat) (s : State) : Result :=
  let t : State := { s with phc := s.phc.filter fun c => !s.phcDue what c }
  .next <| ((t.each (s.phc.filter (s.phcDue what)) fun c u => u.phcChange c).phcPend 6).phcPend 7

/-- PHC_SLAVE_CHECK (R339): die 7 compares its copy with die 6's; after a difference it takes die 6's value at the next scheduled edge
(DEDUCED: that of the next check; log entry 125). -/
def execPhcSlaveCheck (s : State) : Result :=
  let v := (s.get .PHC_RSEC 6 0, s.get .PHC_RNS 6 0, s.get .PHC_RFRAC 6 0)
  .next <| s.when (s.routeUp 6 7 = true) fun t =>
    if t.on .PHC_SLVBAD 7 0 then (t.phcLoad 7 v.1 v.2.1 v.2.2).put .PHC_SLVBAD 7 0 0
    else t.when (v ≠ (t.get .PHC_RSEC 7 0, t.get .PHC_RNS 7 0, t.get .PHC_RFRAC 7 0)) fun u =>
      ((u.put .PHC_SLVBAD 7 0 1).put .PTP_STATUS_SLVERR 7 0 1).fault .PTP_SLVERR 7 0 Config.noInstance

/-! ### The mapping (R349) -/

/-- The capture at a boundary of a domain whose media clock is locked. -/
def State.mapCapture (s : State) (D n : Nat) : State :=
  s.when (s.get .DOM_STATUS_MLOCK 6 D = 1) fun t =>
    ((((((t.put .MAP_DOMCNT 6 D n).put .MAP_SEC 6 D (t.phcNow 6).1).put .MAP_NS 6 D (t.phcNow 6).2).put .MAP_FRAC 6 D
      (t.get .PHC_RFRAC 6 0 / 2 ^ 24)).put .MAP_STAT 6 D (t.get .MAP_STEPD 6 D)).put .MAP_STEPD 6 D 0).inc .MAP_SEQ 6 D 1

end Sys2Proof.Machine
end

