-- ==== Sys2Proof/Machine/Sap.lean ====
section
/-! DEFINITION. Serial audio ports (R228 to R259). A section's cells use 2 × local port + section as their instance, section
0 receive and 1 transmit. -/

namespace Sys2Proof.Machine

/-! ### Settings -/

/-- Block ID of the serial ports' fault register set. -/
abbrev sapBlock : Nat := 0

/-- A section transmits. -/
def isTx (x : Nat) : Bool := x % 2 == 1

/-- INSTANCE of a section's fault: 2 × port + section, with the port's number 0–63. DEDUCED (log entry 20). -/
def sapInst (d x : Nat) : Nat := (d - 6) * 64 + x

/-- A slot in which TD is high-impedance. -/
def hiZ : Nat := 2 ^ 32

/-- STATE of a section. -/
abbrev sapOff : Nat := 0
abbrev sapAcquire : Nat := 1
abbrev sapRun : Nat := 2
abbrev sapLost : Nat := 3

/-- The section is in a state. -/
def State.sapIs (s : State) (d x st : Nat) : Bool := s.get .SAP_STATUS_STATE d x == st

/-- The last frame of a section whose EN was written 0 is in progress (R257): its settings are those of that frame. -/
def State.sapStopping (s : State) (d x : Nat) : Bool := s.on .SAP_STOPPING d x

/-- Domain of a section. -/
def State.sapDom (s : State) (d x : Nat) : Nat :=
  if s.sapStopping d x then bitsAt (s.get .SAP_WAS d x) 1 2 else s.get .SAP_CFG_DOMAIN d x

/-- A master section. -/
def State.sapMaster (s : State) (d x : Nat) : Bool :=
  if s.sapStopping d x then bitAt (s.get .SAP_WAS d x) 0 == 1 else s.on .SAP_CFG_MASTER d x

/-- A section that feeds a bridge (R231). -/
def State.sapBren (s : State) (d x : Nat) : Bool :=
  if s.sapStopping d x then bitAt (s.get .SAP_WAS d x) 3 == 1 else s.on .SAP_CFG_BREN d x

/-- Slot width of a SWIDTH code, data width of a DWIDTH code. -/
def slotWidth (c : Nat) : Nat := 16 + 8 * c
def dataWidth (c : Nat) : Nat := if c = 3 then 32 else 16 + 4 * c

/-- Slots of a frame. -/
def State.sapSlots (s : State) (d x : Nat) : Nat := s.get .SAP_FMT_SLOTS d x + 1

/-- Data width of a section. -/
def State.sapWidth (s : State) (d x : Nat) : Nat := dataWidth (s.get .SAP_FMT_DWIDTH d x)

/-- The data word in the first DWIDTH bits of a slot of W bits; receive ignores the rest (R233). -/
def State.dataWord (s : State) (d x v : Nat) : Nat :=
  v / 2 ^ (slotWidth (s.get .SAP_FMT_SWIDTH d x) - s.sapWidth d x) % 2 ^ s.sapWidth d x

/-- The level FS changes to at a frame start: deasserted in I²S, else asserted (R232). -/
def State.fsStart (s : State) (d x : Nat) : Nat :=
  if s.get .SAP_FMT_MODE d x = 0 then s.get .SAP_FMT_FSPOL d x else 1 - s.get .SAP_FMT_FSPOL d x

/-- BCLKs of a frame (R235). -/
def State.sapBclks (s : State) (d x : Nat) : Nat := s.sapSlots d x * slotWidth (s.get .SAP_FMT_SWIDTH d x)

/-- Sampling rate of a RATE code as a fraction (R260). -/
def rateFs (r : Nat) : Nat × Nat :=
  match r with
  | 0 => (44100, 1)
  | 1 => (48000, 1)
  | 2 => (88200, 1)
  | 3 => (96000, 1)
  | 4 => (176400, 1)
  | 5 => (192000, 1)
  | 6 => (48000000, 1001)
  | _ => (48048, 1)

/-- Sampling rate of a domain. -/
def State.domFs (s : State) (D : Nat) : Nat × Nat := rateFs (s.get .DOM_CFG_RATE 6 D)

/-- Enabled slots of a mask, ascending: the compacted channels (R244). -/
def channels (mask slots : Nat) : List Nat := (List.range slots).filter fun k => bitAt mask k == 1

/-- The unit is the standby of a pair (R254, R370): ROLE = 2. -/
def State.standby (s : State) : Bool := s.get .PAIR_STATUS_ROLE 6 0 == 2

/-- A standby unit becomes ACTIVE at the count of domain A reached now, or has become so at an earlier one (R370, R374): its
boundary is judged after the edge. -/
def State.takesOver (s : State) : Bool :=
  let n := s.domcnt 0
  (s.on .PAIR_STATUS_TAKEPEND 6 0 && s.get .PAIR_ACTSINCE 6 0 ≤ n) ||
    (s.on .PAIR_ACTREQ 6 0 && n % s.bsize 0 == 0 && s.get .EP_PASSED 6 0 != n)

/-- Frames that start now drive the pins (R254, R374, R375). The frame of sample `n` is the one that starts at count `n` of domain
A, as in the worked example of R375: those before the count y − 1 are driven by the unit that yields at y, the one that starts there by
neither unit, and those from the boundary of the takeover on by the other. -/
def State.sapDrives (s : State) : Bool :=
  (!s.standby || s.takesOver) && !(s.on .PAIR_YIELD 6 0 && s.get .PAIR_YIELDAT 6 0 ≤ s.domcnt 0 + 1)

/-! ### The sections' records -/

/-- An enabled section's record. -/
def State.sapPort (s : State) (d x : Nat) : Option SapPort := s.ports.find? fun p => p.die == d && p.sec == x

/-- Change a section's record. -/
def State.sapMod (s : State) (d x : Nat) (f : SapPort → SapPort) : State :=
  { s with ports := s.ports.map fun p => if p.die = d ∧ p.sec = x then f p else p }

/-- LEVEL follows the slip buffer; a master section holds 1 (R246). -/
def State.sapLevel (s : State) (d x : Nat) : State :=
  s.put .SAP_STATUS_LEVEL d x (if s.sapMaster d x then 1 else ((s.sapPort d x).map fun p => p.fifo.length).getD 0)

/-- No frame. -/
def noFrame : SapFrame := ⟨0, 0, [], false⟩

/-- Level of a section's slip buffer. -/
def State.fifoLen (s : State) (d x : Nat) : Nat := ((s.sapPort d x).map fun p => p.fifo.length).getD 0

/-- Bring a slip buffer to a level: the oldest frames go, missing ones are empty (R249). -/
def recentre (n : Nat) (l : List SapFrame) : List SapFrame :=
  List.replicate (n - l.length) noFrame ++ l.drop (l.length - n)

/-- The block in progress that starts at sample `n0`. -/
def State.blkOf (s : State) (d x n0 : Nat) : Option SapBlk :=
  s.sapBlks.find? fun b => b.die == d && b.sec == x && b.n0 == n0

/-- Change a block in progress. -/
def State.blkMod (s : State) (d x n0 : Nat) (f : SapBlk → SapBlk) : State :=
  { s with sapBlks := s.sapBlks.map fun b => if b.die = d ∧ b.sec = x ∧ b.n0 = n0 then f b else b }

/-- Open a block; blocks whose buffer it takes over are gone. -/
def State.blkOpen (s : State) (b : SapBlk) (B : Nat) : State :=
  { s with sapBlks := (s.sapBlks.filter fun c => !(c.die == b.die && c.sec == b.sec && c.n0 + 4 * B ≤ b.n0)) ++ [b] }

/-- Close a block. -/
def State.blkClose (s : State) (d x n0 : Nat) : State :=
  { s with sapBlks := s.sapBlks.filter fun b => !(b.die == d && b.sec == x && b.n0 == n0) }

/-- Flags and counts of a block. -/
def SapBlk.mark (b : SapBlk) (flags drop rep : Nat) : SapBlk :=
  { b with flags := b.flags ||| flags, ndrop := b.ndrop + drop, nrep := b.nrep + rep }

/-- Flag bits of header word 4 (R240). -/
abbrev fSlipd : Nat := 1
abbrev fSlipr : Nat := 2
abbrev fGslip : Nat := 4
abbrev fUndr : Nat := 8
abbrev fFerr : Nat := 16
abbrev fLost : Nat := 32
abbrev fFill : Nat := 64
abbrev fRep0 : Nat := 128

/-! ### The stream engine's accesses -/

/-- The stream engine writes its die's stream SRAM through the crossbar (R207, R218): master port 8. -/
def State.engineWrite (s : State) (d a len data : Nat) : State :=
  { s.fabMem (s.request d 8 ((15 * 16 + d) * 2 ^ 32 + a) true len data) with answer := s.answer }

/-- The stream engine reads; a refused read gives 0. -/
def State.engineRead (s : State) (d a len : Nat) : State × Nat :=
  let t := s.fabMem (s.request d 8 ((15 * 16 + d) * 2 ^ 32 + a) false len 0)
  ({ t with answer := s.answer }, t.answer.data)

/-- A block header as a number (R240). -/
def headerWord (stamp n0 flags slot nblk ndrop nrep : Nat) : Nat :=
  stamp + n0 * 2 ^ 64 + flags * 2 ^ 128 + (slot + nblk * 2 ^ 8) * 2 ^ 160 +
    (min ndrop 0xFFFF + min nrep 0xFFFF * 2 ^ 16) * 2 ^ 192

/-- The headers of a block's channels are written (R241). -/
def State.writeHeaders (s : State) (b : SapBlk) (base B : Nat) : State :=
  let ch := channels b.mask (s.sapSlots b.die b.sec)
  s.each (ch.zip (List.range ch.length)) fun q t =>
    t.engineWrite b.die (base + q.2 * (32 + 4 * B)) 32 (headerWord b.stamp b.n0 b.flags q.1 ch.length b.ndrop b.nrep)

/-- The buffer of the block that starts at sample `n0` (R42, R44, R239). -/
def State.sapBuffer (s : State) (d x n0 : Nat) : Nat :=
  let B := s.bsize (s.sapDom d x)
  let j := if isTx x then n0 / B + 2 else n0 / B + 1
  s.get .SAP_BUF d x * 0x400 + j % 4 * (32 * (32 + 4 * B))

/-! ### Conversion (R236 to R238) -/

/-- A received data word of width `w` as fp32 (R236). -/
def rxConvert (w q : Nat) : Nat := (fpOut (fpOfInt (signed w q) (1 - (w : Int)))).bits

/-- A fp32 sample as a data word of width `w` (R237); `r` is the dither (r1 + r2 − 65535), 0 without dither. -/
def txConvert (w x : Nat) (r : Int) : Nat :=
  let top : Int := (2 ^ (w - 1) : Nat)
  match fpOf x with
  | .nan => 0
  | .inf n => unsigned w (if n then -top else top - 1)
  | .zero _ => unsigned w (max (min ((r + 2 ^ 15) / 2 ^ 16) (top - 1)) (-top))
  | .fin n sig e =>
    -- floor (x · 2^(w−1) + r · 2^−16 + 1/2), over a common power of two 2^m, m ≤ −17
    let m : Int := min (e + w - 1) (-17)
    let v : Int := sigInt n sig * (2 ^ (e + w - 1 - m).toNat : Nat) + r * (2 ^ (-16 - m).toNat : Nat) +
      (2 ^ (-1 - m).toNat : Nat)
    let q := v / ((2 ^ (-m).toNat : Nat) : Int)
    unsigned w (max (min q (top - 1)) (-top))

/-- One step of the Galois LFSR with tap mask 0x8020_0003 (R238). -/
def lfsrStep (v : Nat) : Nat := if v % 2 = 1 then v / 2 ^^^ 0x80200003 else v / 2

/-- `n` steps. -/
def lfsrSteps : Nat → Nat → Nat
  | 0, v => v
  | n + 1, v => lfsrSteps n (lfsrStep v)

/-- The dither of a state: r1 + r2 − 65535. -/
def ditherOf (v : Nat) : Int := (v % 65536 + v / 65536 % 65536 : Nat) - 65535

/-! ### Slips (R246, R250 to R253) -/

/-- The reference section of a group as this die's PG_CFG names it: die and section. -/
def State.pgRef (s : State) (d g : Nat) : Nat × Nat :=
  let p := s.get .PG_CFG_REFPORT d g
  (6 + p / 32, p % 32 * 2 + s.get .PG_CFG_REFDIR d g)

/-- The section is a member of the group: enabled, PGEN, its PGRP (R250). -/
def State.isMember (s : State) (d x g : Nat) : Bool :=
  (s.sapPort d x).isSome && s.on .SAP_CFG_PGEN d x && s.get .SAP_CFG_PGRP d x == g && !s.on .SAP_CFG_BREN d x

/-- The group has an enabled reference: a slave member section (R250, R252). -/
def State.pgLive (s : State) (d g : Nat) : Bool :=
  let r := s.pgRef d g
  s.on .PG_CFG_EN d g && s.isMember r.1 r.2 g && !s.sapMaster r.1 r.2

/-- A member that slips with its group: a slave, direction and domain the reference's (R230, R252). -/
def State.slipsWith (s : State) (d x g : Nat) : Bool :=
  let r := s.pgRef d g
  s.pgLive d g && s.isMember d x g && !s.sapMaster d x && x % 2 == r.2 % 2 && s.sapDom d x == s.sapDom r.1 r.2

/-- Members of a die that slip with the group. -/
def State.pgMembers (s : State) (d g : Nat) : List Nat := (s.ports.filter fun p => p.die == d && s.slipsWith d p.sec g).map (·.sec)

/-- A group slip of a direction acts on frames of the pins: receive drops, transmit repeats (R251). -/
def slipOnFrame (tx drop : Bool) : Bool := tx != drop

/-- A group slip is applied to the members of a die that run, at their `n`-th next frame, or next sample (R251): counted once on
the die. -/
def State.pgApply (s : State) (d g : Nat) (drop : Bool) (n : SapPort → Nat) : State :=
  let m := s.pgMembers d g
  if m = [] then s
  else
    let s1 := s.each (m.filter fun x => s.sapIs d x sapRun) fun x t => t.sapMod d x fun p =>
      if slipOnFrame (isTx x) drop then { p with gframe := n p } else { p with gsample := 1 }
    (if drop then s1.incSat .PG_DROP d g 1 else s1.incSat .PG_REP d g 1).fault .SAP_SLIP d sapBlock (0x100 + g)

/-- The reference's slip buffer drives a slip of its group (R251, R253). -/
def State.groupSlip (s : State) (d g : Nat) (drop : Bool) : State :=
  (s.pgApply d g drop fun _ => 1).send (.groupSlip (13 - d) g drop (s.capture d))

/-- The section is the live reference of its group on this die. -/
def State.isPgRef (s : State) (d x : Nat) : Bool :=
  let g := s.get .SAP_CFG_PGRP d x
  s.on .SAP_CFG_PGEN d x && s.pgLive d g && s.pgRef d g == (d, x)

/-- A solo slip (R246); of a group's member it is a split (R252). -/
def State.soloSlip (s : State) (d x : Nat) (drop : Bool) : State :=
  let s1 := if drop then s.incSat .SAP_SLIP_DROP d x 1 else s.incSat .SAP_SLIP_REP d x 1
  if s.on .SAP_CFG_PGEN d x then
    ((s1.put .SAP_STATUS_GSPLIT d x 1).put .PG_STAT_SPLIT d (s.get .SAP_CFG_PGRP d x) 1).raises d sapBlock
      [⟨.SAP_SLIP, sapInst d x⟩, ⟨.SAP_GRP_SPLIT, sapInst d x⟩]
  else s1.fault .SAP_SLIP d sapBlock (sapInst d x)

/-- ANCHOR and MEMBERS of a group follow (R253). -/
def State.pgRefresh (s : State) (d g : Nat) : State :=
  (s.put .PG_STAT_ANCHOR d g (flag (s.on .PG_CFG_EN d g && (s.pgRef d g).1 == d))).put .PG_STAT_MEMBERS d g
    (s.ports.filter fun p => p.die == d && s.isMember d p.sec g).length

/-- A message is a slip of these fields; the time at which the reference's buffer drove it. -/
def Msg.isSlip (m : Msg) (d g : Nat) (drop : Bool) : Bool :=
  match m with
  | .groupSlip d' g' drop' _ => d' == d && g' == g && drop' == drop
  | _ => false
def Msg.slipTime (m : Msg) : Nat :=
  match m with
  | .groupSlip _ _ _ time => time
  | _ => 0

/-- The frame at which a member of the other die slips (R507): one after the frame it decides at or next after the reference's
time. -/
def SapPort.slipsAt (p : SapPort) (time : Nat) : Nat := if time < p.decided then 1 else 2

/-- GROUP_SLIP_MESSAGE (R253, R507): on stepping A1 the other die slips one frame later. -/
def execGroupSlipMessage (d g : Nat) (drop : Bool) (s : State) : Result :=
  .next <| s.receive (fun m => Msg.isSlip m d g drop) fun m s1 => s1.pgApply d g drop fun p => p.slipsAt (Msg.slipTime m)

/-! ### Enable and stop (R234, R238, R249, R257) -/

/-- A SAP_CFG word with EN = 1 is refused (R234). -/
def State.sapRefused (s : State) (d x w : Nat) : Bool :=
  let mode := s.get .SAP_FMT_MODE d x
  let sw := s.get .SAP_FMT_SWIDTH d x
  let D := bitsAt w 2 2
  let f := s.domFs D
  mode == 3 || sw == 3 || D == 3 || slotWidth sw < s.sapWidth d x || (mode < 2 && s.sapSlots d x != 2) ||
    (mode == 2 && s.get .SAP_FMT_SLOTS d x == 0) || (bitAt w 4 == 1 && (isTx x || bitAt w 1 == 1)) ||
      (bitAt w 1 == 1 && 49152000 * f.2 < f.1 * s.sapBclks d x)

/-- The fields of SAP_CFG but EN. -/
def State.sapCfgFields (s : State) (d x w : Nat) : State :=
  (((((((s.put .SAP_CFG_MASTER d x (bitAt w 1)).put .SAP_CFG_DOMAIN d x (bitsAt w 2 2)).put .SAP_CFG_BREN d x (bitAt w 4)).put
    .SAP_CFG_BRIDGE d x (bitsAt w 5 7)).put .SAP_CFG_PGEN d x (bitAt w 12)).put .SAP_CFG_PGRP d x (bitsAt w 13 4)).put
      .SAP_CFG_HIZ d x (bitAt w 17)).put .SAP_CFG_DITHEN d x (bitAt w 18)

/-- The section reads OFF (R257); a latched mask goes live, as a write to a disabled section would. DEDUCED (log entry 21). -/
def State.sapEnd (s : State) (d x : Nat) : State :=
  let mask := match s.sapPort d x with
    | none => s.get .SAP_SLOTMASK d x
    | some p => ((p.masks.getLast?).map fun q => q.1).getD (s.get .SAP_SLOTMASK d x)
  let s1 := s.condEnd .SAP_LOST d sapBlock (sapInst d x)
  let s2 := { s1 with ports := s1.ports.filter fun p => !(p.die == d && p.sec == x),
                      sapBlks := s1.sapBlks.filter fun b => !(b.die == d && b.sec == x) }
  let s3 := ((((((s2.put .SAP_STATUS_STATE d x sapOff).put .SAP_STATUS_DRIVE d x 0).put .SAP_STATUS_LEVEL d x 0).put
    .SAP_STATUS_MASKPEND d x 0).put .SAP_STOPPING d x 0).put .SAP_GOOD d x 0).put .SAP_SLOTMASK d x mask
  s3.pgRefresh d (s.get .SAP_CFG_PGRP d x)

/-- The section is enabled: ACQUIRE for a slave; a master starts at its next frame start and reads OFF until then, its outputs not
driven (R230, R246, R249). DEDUCED (log entry 118). -/
def State.sapStart (s : State) (d x : Nat) : State :=
  let m := s.sapMaster d x
  let p : SapPort := ⟨d, x, if m then [noFrame] else [], noFrame, noFrame, noFrame, 0, 0, 0, 0, [], 0, 0, 0, 0, [], [], 0, 0⟩
  let seed := s.get .SAP_DITHER d x
  let s1 := { s with ports := s.ports ++ [p] }
  let s2 := (((s1.put .SAP_STATUS_STATE d x (if m then sapOff else sapAcquire)).put .SAP_GOOD d x 0).put .SAP_STOPPING d x 0).put
    .SAP_STATUS_DRIVE d x (flag (!m && isTx x && s.sapDrives))
  ((s2.when (isTx x = true) fun t => t.put .SAP_LFSR d x (if seed = 0 then 1 else seed)).sapLevel d x).pgRefresh d
    (s.get .SAP_CFG_PGRP d x)

/-- SAP_ENABLE (R230, R234, R238, R249, R257): SAP_CFG is written with EN = 1; a section whose last frame is still in progress starts
anew at that frame's end. -/
def execSapEnable (d p sec cfg : Nat) (s : State) : Result :=
  let x := 2 * p + sec
  .next <| s.when (s.dieClocked d = true) fun s =>
    if s.on .SAP_CFG_EN d x then s
    else if s.sapRefused d x cfg then (s.put .SAP_STATUS_BADCFG d x 1).fault .SAP_BADCFG d sapBlock (sapInst d x)
    else
      ((s.sapCfgFields d x cfg).put .SAP_CFG_EN d x 1).when (s.sapStopping d x = false) fun t => t.sapStart d x

/-- SAP_DISABLE (R257): a section in RUN stops at the end of its current frame; in ACQUIRE or LOST there is no frame to
finish. DEDUCED (log entry 21). -/
def execSapDisable (d p sec : Nat) (s : State) : Result :=
  let x := 2 * p + sec
  .next <| s.when (s.dieClocked d = true ∧ s.get .SAP_CFG_EN d x = 1) fun s =>
    let s1 := s.put .SAP_CFG_EN d x 0
    if s.sapStopping d x then s1
    else if s.sapIs d x sapRun then
      (s1.put .SAP_STOPPING d x 1).put .SAP_WAS d x (s.get .SAP_CFG_MASTER d x + s.get .SAP_CFG_DOMAIN d x * 2 +
        s.get .SAP_CFG_BREN d x * 8)
    else s1.sapEnd d x

/-! ### Slot masks (R244, R245) -/

/-- SLOTMASK_STAGE (R245). -/
def execSlotmaskStage (d p sec mask : Nat) (s : State) : Result :=
  let x := 2 * p + sec
  let s1 := s.put .SAP_SLOTMASK_NEXT d x mask
  .next <| s.when (s.dieClocked d = true) fun s =>
    if s.sapPort d x = none ∨ s.get .EPOCH_STATUS_RUN 6 (s.sapDom d x) = 0 then
      (s1.put .SAP_SLOTMASK d x mask).put .SAP_DIRTY d x 0
    else s1.put .SAP_DIRTY d x 1

/-- The sections of a domain. -/
def State.domPorts (s : State) (D : Nat) : List (Nat × Nat) :=
  (s.ports.filter fun p => s.sapDom p.die p.sec == D).map fun p => (p.die, p.sec)

/-- Sections of a domain with a staged mask that no commit has latched. -/
def State.dirtyPorts (s : State) (D : Nat) : List (Nat × Nat) :=
  (s.cells.filter fun c => c.1.fld == .SAP_DIRTY && s.sapDom c.1.die c.1.inst == D).map fun c => (c.1.die, c.1.inst)

/-- A commit of the domain with target `T` has been armed and accepted: sections latch (R245). A mask staged before the section was
disabled goes live at once, as a write to a disabled section would. DEDUCED (log entry 21). -/
def State.latchMasks (s : State) (D T : Nat) : State :=
  let B := s.bsize D
  s.each (s.dirtyPorts D) fun q t =>
    let m := t.get .SAP_SLOTMASK_NEXT q.1 q.2
    let u := t.put .SAP_DIRTY q.1 q.2 0
    if u.sapPort q.1 q.2 = none then u.put .SAP_SLOTMASK q.1 q.2 m
    else (u.sapMod q.1 q.2 fun p => { p with masks := p.masks ++ [(m, if isTx q.2 then T + 2 * B else T - B, T)] }).put
      .SAP_STATUS_MASKPEND q.1 q.2 1

/-- The commit is cancelled: what it latched is discarded (R245). -/
def State.unlatchMasks (s : State) (D T : Nat) : State :=
  s.each (s.domPorts D) fun q t =>
    let u := t.sapMod q.1 q.2 fun p => { p with masks := p.masks.filter fun m => m.2.2 != T }
    u.put .SAP_STATUS_MASKPEND q.1 q.2 (flag (((u.sapPort q.1 q.2).map fun p => !p.masks.isEmpty).getD false))

/-- Latched masks whose sample has come go live, oldest first. -/
def State.masksLive (s : State) (d x n : Nat) : State :=
  match s.sapPort d x with
  | none => s
  | some p =>
    let due := p.masks.takeWhile fun m => m.2.1 ≤ n
    match due.getLast? with
    | none => s
    | some m =>
      let rest := p.masks.drop due.length
      ((s.sapMod d x fun q => { q with masks := rest }).put .SAP_SLOTMASK d x m.1).put .SAP_STATUS_MASKPEND d x
        (flag (!rest.isEmpty))

/-! ### The domain side (R248, R249) -/

/-- Epoch decision of the output slot that holds sample `n0`, a block's first (R42, R45, R50): 0 no epoch, 1 ready,
2 missed. -/
def State.slotDecision (s : State) (D n0 : Nat) : Nat :=
  let b := n0 - 2 * s.bsize D
  if n0 < 2 * s.bsize D ∨ s.get .EP_ASGN 6 (s.slotOf D b) ≠ b + 1 then 0
  else if s.get .TX_MISS 6 D = b + 1 then 2
  else 1

/-- Take the frame at the front of the slip buffer; a master section keeps its one frame. -/
def State.fifoPop (s : State) (d x : Nat) : Option SapFrame × State :=
  match s.sapPort d x with
  | none => (none, s)
  | some p =>
    match p.fifo with
    | [] => (none, s)
    | f :: t =>
      if t = [] ∧ s.sapMaster d x then (some f, s)
      else (some f, (s.sapMod d x fun q => { q with fifo := t }).sapLevel d x)

/-- Put a frame in the slip buffer; a master section keeps its two newest. -/
def State.fifoPut (s : State) (d x : Nat) (f : SapFrame) : State :=
  (s.sapMod d x fun q =>
    { q with fifo := if s.sapMaster d x then recentre (min 2 (q.fifo.length + 1)) (q.fifo ++ [f]) else q.fifo ++ [f] }).sapLevel
      d x

/-- A group slip that waits for the next domain sample is due. -/
def State.takeGsample (s : State) (d x : Nat) : Bool × State :=
  match s.sapPort d x with
  | none => (false, s)
  | some p => (p.gsample == 1, s.sapMod d x fun q => { q with gsample := q.gsample - 1 })

/-- A group slip that waits for the next frame is due. -/
def State.takeGframe (s : State) (d x : Nat) : Bool × State :=
  match s.sapPort d x with
  | none => (false, s)
  | some p => (p.gframe == 1, s.sapMod d x fun q => { q with gframe := q.gframe - 1 })

/-- The frame a receive section takes for a domain sample in RUN, with what a slip leaves (R246, R251). -/
def State.rxFrameFor (s : State) (d x n0 n : Nat) : SapFrame × State :=
  let g := s.takeGsample d x
  let last := ((g.2.sapPort d x).map fun p => p.last).getD noFrame
  let rep0 := if n = n0 then fRep0 else 0
  if g.1 then (last, g.2.blkMod d x n0 fun b => b.mark (fGslip ||| rep0) 0 1)
  else
    match g.2.fifoPop d x with
    | (some f, t) => (f, t.sapMod d x fun q => { q with last := f })
    | (none, t) => (last, (t.soloSlip d x false).blkMod d x n0 fun b => b.mark (fSlipr ||| rep0) 0 1)

/-- A section enabled during a block writes +0 for the block's earlier samples, and FILL is set (R240, R241, R249). -/
def State.rxEarlier (s : State) (d x n0 n : Nat) : State :=
  let B := s.bsize (s.sapDom d x)
  let ch := channels (s.get .SAP_SLOTMASK d x) (s.sapSlots d x)
  let base := s.sapBuffer d x n0
  (s.blkMod d x n0 fun b => b.mark fFill 0 0).each (List.range ch.length) fun c t =>
    t.engineWrite d (base + c * (32 + 4 * B) + 32) (4 * (n - n0)) 0

/-- A receive section takes sample `n` (R236, R241, R248, R249). -/
def State.sapRxTake (s : State) (d x n : Nat) : State :=
  let B := s.bsize (s.sapDom d x)
  let n0 := n - n % B
  let s1 := s.masksLive d x n
  let s2 := match s1.blkOf d x n0, s1.sapPort d x with
    | none, some p =>
      ((s1.blkOpen ⟨d, x, n0, s1.get .SAP_SLOTMASK d x, p.pflags, 0, false, p.pdrop, 0⟩ B).sapMod d x fun q =>
        { q with pflags := 0, pdrop := 0 }).when (n ≠ n0) fun t => t.rxEarlier d x n0 n
    | _, _ => s1
  let q : SapFrame × State := match s.get .SAP_STATUS_STATE d x with
    | 2 => s2.rxFrameFor d x n0 n
    | 3 => (noFrame, (s2.incSat .SAP_LOST d x 1).blkMod d x n0 fun b => b.mark fLost 0 0)
    | _ => (noFrame, s2.blkMod d x n0 fun b => b.mark fFill 0 0)
  let s3 := q.2.when (n = n0) fun t => t.blkMod d x n0 fun b => { b with stamp := q.1.stamp }
  let s4 := s3.blkMod d x n0 fun b => { b with mask := s3.get .SAP_SLOTMASK d x }
  let ch := channels (s4.get .SAP_SLOTMASK d x) (s4.sapSlots d x)
  let base := s4.sapBuffer d x n0
  let w := s4.sapWidth d x
  let s5 := s4.each (ch.zip (List.range ch.length)) fun c t =>
    t.engineWrite d (base + c.2 * (32 + 4 * B) + 32 + 4 * (n - n0)) 4 (rxConvert w (q.1.words.getD c.1 0))
  if n % B = B - 1 then
    (match s5.blkOf d x n0 with
      | none => s5
      | some b => s5.writeHeaders b base B).blkClose d x n0
  else s5

/-- Frames of the samples before `n` have left the pins or never reach them: the headers of the blocks that end there are written
(R241). -/
def State.txDone (s : State) (d x n : Nat) : State :=
  let B := s.bsize (s.sapDom d x)
  s.each (s.sapBlks.filter fun b => b.die == d && b.sec == x && b.n0 + B ≤ n) fun b t =>
    (t.writeHeaders b (t.sapBuffer d x b.n0) B).blkClose d x b.n0

/-- The first sample a transmit section has made whose frame has not left the pins when a frame `f` starts: that of the frame, else
the next in the slip buffer, else the next it makes. -/
def SapPort.unsent (p : SapPort) (f : SapFrame) : Nat :=
  if f.num ≠ 0 then f.num - 1
  else match p.fifo with
    | q :: _ => q.num - 1
    | [] => p.made

/-- The last frame of a stopping section ends (R241, R257): the blocks whose frames have left get their headers, and the section reads
OFF, or starts anew where EN was written 1 again. -/
def State.sapFrameEnd (s : State) (d x : Nat) : State :=
  let s1 := match s.sapPort d x with
    | none => s
    | some p => s.when (isTx x = true) fun t => t.txDone d x (p.unsent noFrame)
  (s1.sapEnd d x).when (s.get .SAP_CFG_EN d x = 1) fun t => t.sapStart d x

/-- SAP_STOP (R257): the current frame of a disabled section ends. -/
def execSapStop (d p sec : Nat) (s : State) : Result :=
  let x := 2 * p + sec
  .next <| s.when (s.sapStopping d x = true) fun t => t.sapFrameEnd d x

/-- The data words of a transmit sample, with the fp32 samples taken; the LFSR advances for each enabled slot (R237, R238). -/
def State.txWords (s : State) (d x n0 n : Nat) (play : Bool) : State × List Nat × List Nat :=
  let B := s.bsize (s.sapDom d x)
  let slots := s.sapSlots d x
  let ch := channels (s.get .SAP_SLOTMASK d x) slots
  let base := s.sapBuffer d x n0
  let w := s.sapWidth d x
  let blank := List.replicate slots (if s.on .SAP_CFG_HIZ d x then hiZ else 0)
  (ch.zip (List.range ch.length)).foldl (fun (acc : State × List Nat × List Nat) c =>
    let t := acc.1
    let v := lfsrSteps 32 (t.get .SAP_LFSR d x)
    let t1 := t.put .SAP_LFSR d x v
    if play then
      let r := t1.engineRead d (base + c.2 * (32 + 4 * B) + 32 + 4 * (n - n0)) 4
      (r.1, acc.2.1.set c.1 (txConvert w r.2 (if s.on .SAP_CFG_DITHEN d x then ditherOf v else 0)), acc.2.2 ++ [r.2])
    else (t1, acc.2.1.set c.1 0, acc.2.2 ++ [0])) (s, blank, [])

/-- The CRC of each channel after one more sample; at a slot's first sample from the initial values of R373. -/
def digestStep (kind num : Nat) (first : Bool) (crcs vals : List Nat) : List Nat :=
  (vals.zip (List.range vals.length)).map fun (q : Nat × Nat) =>
    let c := if first then kind * 65536 + num * 64 + q.2 else crcs.getD q.2 (kind * 65536 + num * 64 + q.2)
    (natBytes 4 q.1).foldl crcByte c

/-- At a slot's end its CRCs join the domain's digest (R373). -/
def State.digestAdd (s : State) (D : Nat) (crcs : List Nat) : State :=
  s.inc .DIG_ACC 6 D (crcs.map fun c => c ^^^ 0xFFFFFFFF).sum

/-- A transmit section takes the samples of a frame into its digest. -/
def State.sapDigest (s : State) (d x n0 n : Nat) (vals : List Nat) : State :=
  let D := s.sapDom d x
  let old := ((s.sapPort d x).map fun p => p.crcs).getD []
  let crcs := digestStep 0 ((d - 6) * 32 + x / 2) (n == n0) old vals
  (s.sapMod d x fun p => { p with vals := vals, crcs := crcs }).when (n % s.bsize D = s.bsize D - 1) fun t => t.digestAdd D crcs

/-- The domain side of a transmit section makes the frame of sample `n` (R45, R247, R248); in LOST its repeats are no slips
(R249). -/
def State.txMake (s : State) (d x n0 n : Nat) : State × SapFrame :=
  let dec := s.slotDecision (s.sapDom d x) n0
  let q := s.txWords d x n0 n (dec == 1)
  let prev := ((s.sapPort d x).map fun p => p.prev).getD noFrame
  let vals := if dec = 2 then ((s.sapPort d x).map fun p => p.vals).getD [] else q.2.2
  let q1 := q.1.sapDigest d x n0 n (if vals = [] then q.2.2 else vals)
  if dec = 2 then
    let lost := s.sapIs d x sapLost
    let s1 := ((q1.when (lost = false) fun t => t.incSat .SAP_SLIP_REP d x 1).incSat .SAP_SLIP_UNDR d x 1).blkMod d x n0 fun b =>
      b.mark (fUndr ||| if n = n0 then fRep0 else 0) 0 (if lost then 0 else 1)
    (s1.when (n = n0) fun t => t.fault .SAP_UNDR d sapBlock (sapInst d x),
     ⟨n + 1, 0, if prev.num = 0 then q.2.1 else prev.words, true⟩)
  else (q1, ⟨n + 1, 0, q.2.1, false⟩)

/-- A frame the domain side made goes to the slip buffer in RUN (R246, R251). -/
def State.txPut (s : State) (d x n0 : Nat) (f : SapFrame) : State :=
  let g := s.takeGsample d x
  if g.1 then g.2.blkMod d x n0 fun b => b.mark fGslip 1 0
  else if g.2.fifoLen d x < 6 then (g.2.sapMod d x fun q => { q with prev := f }).fifoPut d x f
  else (g.2.soloSlip d x true).blkMod d x n0 fun b => b.mark fSlipd 1 0

/-- In LOST and ACQUIRE frames are discarded: the headers of blocks that end before sample `n` are written, but for those with frames
still in the slip buffer, which wait until these have left, at most until the epoch that next uses the buffer can start. DESIGN
CHOICE (log entry 119). -/
def State.txDiscarded (s : State) (d x n : Nat) : State :=
  match s.sapPort d x with
  | none => s
  | some p =>
    s.txDone d x (match p.fifo with
      | [] => n
      | f :: _ => max (f.num - 1) (n - s.bsize (s.sapDom d x)))

/-- A transmit section takes sample `n` (R247 to R249). The header of a block whose last frame is discarded outside RUN is written
then: DESIGN CHOICE (log entry 119). -/
def State.sapTxTake (s : State) (d x n : Nat) : State :=
  let B := s.bsize (s.sapDom d x)
  let n0 := n - n % B
  let s1 := s.masksLive d x n
  let s2 := s1.when (s1.slotDecision (s1.sapDom d x) n0 ≠ 0 ∧ s1.blkOf d x n0 = none) fun t =>
    t.blkOpen ⟨d, x, n0, t.get .SAP_SLOTMASK d x, 0, 0, false, 0, 0⟩ B
  let s3 := s2.blkMod d x n0 fun b => { b with mask := s2.get .SAP_SLOTMASK d x }
  let q0 := s3.txMake d x n0 n
  let q : State × SapFrame := (q0.1.sapMod d x fun p => { p with made := n + 1 }, q0.2)
  match s.get .SAP_STATUS_STATE d x with
  | 3 => ((q.1.incSat .SAP_LOST d x 1).blkMod d x n0 fun b => b.mark fLost 0 0).txDiscarded d x (n + 1)
  | 2 => q.1.txPut d x n0 q.2
  | _ =>
    if 2 ≤ s.get .SAP_GOOD d x then
      let u := (q.1.sapMod d x fun p => { p with prev := q.2 }).fifoPut d x q.2
      u.when (3 ≤ u.fifoLen d x) fun v => v.put .SAP_STATUS_STATE d x sapRun
    else q.1.txDiscarded d x (n + 1)

/-- References whose slip buffers drive their groups at this domain sample (R251). -/
def State.groupsAtSample (s : State) (D : Nat) : State :=
  s.each (s.domPorts D) fun q t =>
    let lim := if isTx q.2 then 5 else 1
    t.when (t.dieClocked q.1 = true ∧ t.sapIs q.1 q.2 sapRun = true ∧ t.isPgRef q.1 q.2 = true ∧ t.fifoLen q.1 q.2 = lim) fun u =>
      u.groupSlip q.1 (u.get .SAP_CFG_PGRP q.1 q.2) (isTx q.2)


/-! ### The port side (R235, R246, R249) -/

/-- Port-side events of a receive section count in the block of the sample they affect (R240, R251): `lag` frames wait before it in the
slip buffer. That block is the one the domain side fills, or the next. DEDUCED (log entry 22). -/
def State.rxMark (s : State) (d x flags drop lag : Nat) : State :=
  let D := s.sapDom d x
  let n := s.domcnt D + lag
  let n0 := n - n % s.bsize D
  if (s.blkOf d x n0).isSome then s.blkMod d x n0 fun b => b.mark flags drop 0
  else s.sapMod d x fun p => { p with pflags := p.pflags ||| flags, pdrop := p.pdrop + drop }

/-- Port-side events of a transmit section count in the block of the last frame sent from the buffer. DEDUCED (log
entry 22). -/
def State.txMark (s : State) (d x flags rep : Nat) : State :=
  match s.sapPort d x with
  | none => s
  | some p =>
    if p.outn = 0 then s
    else
      let n := p.outn - 1
      s.blkMod d x (n - n % s.bsize (s.sapDom d x)) fun b => b.mark flags 0 rep

/-- A receive frame goes to the slip buffer in RUN; at level 6 it is dropped (R246). Answers whether it was put. -/
def State.rxPut (s : State) (d x : Nat) (f : SapFrame) : Bool × State :=
  if s.fifoLen d x < 6 then
    (true, (s.sapMod d x fun p => { p with prior := p.prev, prev := f }).fifoPut d x f)
  else (false, (s.soloSlip d x true).rxMark d x fSlipd 1 (s.fifoLen d x))

/-- A frame of the pins is decided now: taken, dropped or repeated. -/
def State.slipDecide (s : State) (d x : Nat) : State := s.sapMod d x fun p => { p with decided := s.capture d + 1 }

/-- A receive frame completes in RUN: a group slip drops it, or it is put (R246, R251). -/
def State.rxComplete (s : State) (d x : Nat) (f : SapFrame) : Bool × State :=
  let s0 := s.when (s.isPgRef d x = true ∧ s.fifoLen d x = 5) fun t => t.groupSlip d (t.get .SAP_CFG_PGRP d x) true
  let g := (s0.slipDecide d x).takeGframe d x
  if g.1 then (false, g.2.rxMark d x fGslip 1 (s.fifoLen d x)) else g.2.rxPut d x f

/-- A receive frame completes outside RUN: in LOST the newest are kept for the recentred buffer; in ACQUIRE, once two good frames
have been seen, the buffer fills to its starting level, and RUN begins (R249). -/
def State.rxFill (s : State) (d x : Nat) (f : SapFrame) : State :=
  let s1 := s.sapMod d x fun p => { p with prior := p.prev, prev := f, fresh := 1 }
  if s.sapIs d x sapLost then
    (s1.sapMod d x fun p => { p with fifo := recentre (min 6 (p.fifo.length + 1)) (p.fifo ++ [f]) }).sapLevel d x
  else s1.when (2 ≤ s.get .SAP_GOOD d x) fun t =>
    let u := t.fifoPut d x f
    u.when (3 ≤ u.fifoLen d x) fun v => v.put .SAP_STATUS_STATE d x sapRun

/-- SAP_RX_FRAME of a section that feeds no bridge (R243, R246). -/
def State.sapRxFrame (s : State) (d x : Nat) (words : List Nat) : State :=
  match s.sapPort d x with
  | none => s
  | some p =>
    if p.start = 0 ∨ p.fresh ≠ 0 then s
    else
      let f : SapFrame := ⟨1, p.start - 1, words.map (s.dataWord d x), false⟩
      if s.sapMaster d x then (s.sapMod d x fun q => { q with fresh := 1 }).fifoPut d x f
      else if s.sapIs d x sapRun then
        let q := s.rxComplete d x f
        q.2.sapMod d x fun p => { p with fresh := if q.1 then 1 else 2 }
      else s.rxFill d x f

/-- A framing error (R235): counted; a receive frame cut or stretched is replaced by the previous one, without a slip. -/
def State.framingError (s : State) (d x : Nat) : State :=
  let s1 := (s.incSat .SAP_FERR d x 1).fault .SAP_FRAME d sapBlock (sapInst d x)
  if s.sapBren d x then s1
  else if isTx x then s1.txMark d x fFerr 0
  else
    let s2 := s1.rxMark d x fFerr 0 (s.fifoLen d x - ((s.sapPort d x).map fun p => flag (p.fresh == 1)).getD 0)
    match s2.sapPort d x with
    | none => s2
    | some p =>
      match p.fresh with
      | 0 =>
        if p.prev.num = 0 ∨ p.fifo = [] ∧ s2.sapIs d x sapRun = false ∨ 6 ≤ p.fifo.length then s2
        else (s2.sapMod d x fun q => { q with prior := q.prev }).fifoPut d x p.prev
      | 1 =>
        if p.prior.num = 0 then s2
        else s2.sapMod d x fun q => { q with fifo := q.fifo.dropLast ++ if q.fifo = [] then [] else [q.prior], prev := q.prior }
      | _ => s2

/-- Two good frames in succession after LOST (R249): RUN with a recentred buffer, which a section that feeds a bridge does not use
(R231). -/
def State.sapResync (s : State) (d x : Nat) : State :=
  (((s.condEnd .SAP_LOST d sapBlock (sapInst d x)).put .SAP_STATUS_RESYNC d x 1).put .SAP_STATUS_STATE d x sapRun).when
    (s.sapBren d x = false) fun t => (t.sapMod d x fun p => { p with fifo := recentre 3 p.fifo }).sapLevel d x

/-- State progress of a slave section at a frame start, outside RUN (R249). -/
def State.sapProgress (s : State) (d x : Nat) (good : Nat) : State :=
  let s1 := s.put .SAP_GOOD d x good
  if s.sapIs d x sapLost then s1.when (2 ≤ good) fun t => t.sapResync d x
  else s1.when (s.sapBren d x = true ∧ 2 ≤ good) fun t => t.put .SAP_STATUS_STATE d x sapRun

/-- Good frames in succession after a frame start: the first start ends no frame; filling goes on once two have been seen (R249). -/
def State.goodAfter (s : State) (d x : Nat) (first ok : Bool) : Nat :=
  let g := s.get .SAP_GOOD d x
  if ok && !first then min 3 (g + 1) else if s.sapIs d x sapAcquire && 2 ≤ g then g else 0

/-- SAP_FRAME_START of a slave section, `bclks` BCLKs after the previous one, by the level FS changes to (R232, R235, R243,
R249); it ends the last frame of a section that stops (R257). -/
def State.sapFrameStart (s : State) (d x bclks fs : Nat) : State :=
  let s := s.when (s.sapStopping d x = true ∧ s.sapMaster d x = false ∧ fs = s.fsStart d x) fun t => t.sapFrameEnd d x
  match s.sapPort d x with
  | none => s
  | some p =>
    if s.sapMaster d x ∨ fs ≠ s.fsStart d x then s
    else
      let first := p.start == 0
      let ok := bclks == s.sapBclks d x
      let s1 := s.when (ok = false ∧ first = false) fun t => t.framingError d x
      let s2 := s1.when (s.sapIs d x sapRun = false) fun t => t.sapProgress d x (s.goodAfter d x first ok)
      s2.sapMod d x fun q => { q with start := s.capture d + 1, fresh := 0 }

/-- The frame a transmit section sends next, with what a slip leaves (R246, R251). -/
def State.txNext (s : State) (d x : Nat) : SapFrame × State :=
  let s0 := s.when (s.isPgRef d x = true ∧ s.fifoLen d x = 1) fun t => t.groupSlip d (t.get .SAP_CFG_PGRP d x) false
  let g := (s0.slipDecide d x).takeGframe d x
  let last := ((s.sapPort d x).map fun p => p.last).getD noFrame
  let again : SapFrame := ⟨0, 0, last.words, true⟩
  if g.1 then (again, g.2.txMark d x fGslip 1)
  else
    match g.2.fifoPop d x with
    | (some f, t) => (f, t)
    | (none, t) => (again, (t.soloSlip d x false).txMark d x fSlipr 1)

/-- A frame taken from the buffer starts on the pins: its STAMP goes to its block if it carries sample 0 (R240, R243). -/
def State.txStamp (s : State) (d x : Nat) (f : SapFrame) : State :=
  if f.num = 0 then s
  else
    let n := f.num - 1
    let s1 := s.sapMod d x fun p =>
      { p with outn := f.num, tstamp := if f.rep then p.tstamp else s.capture d }
    let st := ((s1.sapPort d x).map fun p => p.tstamp).getD 0
    s1.when (n % s.bsize (s.sapDom d x) = 0) fun t =>
      t.blkMod d x n fun b => if b.stamped then b else { b with stamp := st, stamped := true }

/-- SAP_TX_FRAME_START (R241, R246, R254). -/
def State.sapTxFrame (s : State) (d x : Nat) : State :=
  match s.sapPort d x with
  | none => s
  | some p =>
    if s.sapIs d x sapRun then
      let q := s.txNext d x
      let s1 := q.2.txDone d x (((q.2.sapPort d x).getD p).unsent q.1)
      let s2 := (s1.txStamp d x q.1).sapMod d x fun r => { r with last := q.1 }
      s2.put .SAP_STATUS_DRIVE d x (flag s2.sapDrives)
    else
      (s.sapMod d x fun r => { r with last := noFrame }).put .SAP_STATUS_DRIVE d x (flag s.sapDrives)

/-- SAP_TX_FRAME_START of a slave section, which ends the last frame of one that stops (R257); a master's frames start at the edges of
its media clock. -/
def execSapTxFrameStart (d p : Nat) (s : State) : Result :=
  let x := 2 * p + 1
  .next <| s.when (s.sapMaster d x = false) fun s =>
    let t := s.when (s.sapStopping d x = true) fun t => t.sapFrameEnd d x
    t.when (t.sapMaster d x = false) fun u => u.sapTxFrame d x

/-! ### Frames of a master and the samples of a domain (R230, R248) -/

/-- A frame of a master section starts at the edge of its media clock (R230): the section starts or stops there, and its pins are
driven or not (R254). -/
def State.masterFrame (s : State) (d x : Nat) : State :=
  let D := s.sapDom d x
  let s := s.when (s.sapStopping d x = true) fun t => t.sapFrameEnd d x
  if s.sapPort d x = none ∨ s.sapMaster d x = false ∨ s.sapDom d x ≠ D then s
  else
    let s1 := s.put .SAP_STATUS_STATE d x sapRun
    if isTx x then s1.sapTxFrame d x
    else (s1.sapMod d x fun q => { q with start := s.capture d + 1, fresh := 0 }).put .SAP_STATUS_DRIVE d x
      (flag s1.sapDrives)

/-- A section of a domain takes sample `n` (R231, R248, R249): one that feeds a bridge writes no blocks; a master's frame starts with
the edge. -/
def State.sectionSample (s : State) (d x n : Nat) : State :=
  if s.sapBren d x then
    (s.masksLive d x n).when (s.sapIs d x sapLost = true) fun t => t.incSat .SAP_LOST d x 1
  else if s.sapMaster d x then
    if s.sapIs d x sapOff then s.masterFrame d x
    else if isTx x then (s.sapTxTake d x n).masterFrame d x
    else (s.sapRxTake d x n).masterFrame d x
  else if isTx x then s.sapTxTake d x n
  else s.sapRxTake d x n

/-- Every section of a domain takes sample `n` (R248); on a die without a clock the domain side stands still (R307). -/
def State.sapSample (s : State) (D n : Nat) : State :=
  let s1 := s.groupsAtSample D
  s1.each (s1.domPorts D) fun q t => t.when (t.dieClocked q.1 = true) fun u => u.sectionSample q.1 q.2 n

/-! ### The pins (R228, R232, R233, R244, R254) -/

/-- What a section does with a pin. -/
inductive PinUse where
  | drives
  | takes
  | floats
deriving DecidableEq, Repr

/-- An output of a section: high-impedance while the section does not drive. -/
def State.outPin (s : State) (d x : Nat) : PinUse := if s.on .SAP_STATUS_DRIVE d x && !s.pinsFloat then .drives else .floats

/-- BCLK or FS of a section (R228). -/
def State.clockPin (s : State) (d x : Nat) : PinUse := if s.sapMaster d x then s.outPin d x else .takes

/-- TBCK, TFS, TD, RBCK, RFS and RD of a port (R228). -/
def State.sapPins (s : State) (d p : Nat) : List PinUse :=
  [s.clockPin d (2 * p + 1), s.clockPin d (2 * p + 1), s.outPin d (2 * p + 1), s.clockPin d (2 * p), s.clockPin d (2 * p), .takes]

/-- The level of FS in BCLK `b` after the FS change of a frame of a master (R232). -/
def State.fsLevel (s : State) (d x b : Nat) : Nat :=
  let first := b < slotWidth (s.get .SAP_FMT_SWIDTH d x)
  let asserted := match s.get .SAP_FMT_MODE d x with
    | 0 => !first
    | 1 => first
    | _ => b == 0
  if asserted then 1 - s.get .SAP_FMT_FSPOL d x else s.get .SAP_FMT_FSPOL d x

/-- BCLKs from the FS change to the first bit of slot 0 (R232). -/
def State.firstBit (s : State) (d x : Nat) : Nat :=
  match s.get .SAP_FMT_MODE d x with
  | 0 => 1
  | 1 => 0
  | _ => s.get .SAP_FMT_FSDLY d x

/-- Data and FS are driven on the rising BCLK edge and sampled on the falling one (R233). -/
def State.drivesRising (s : State) (d x : Nat) : Bool := s.on .SAP_FMT_BCKPOL d x

/-- The slots of the frame now on TD, W bits each: the data word in the first DWIDTH bits and 0 in the rest (R233); in none the section
drives 0, or leaves TD high-impedance in disabled slots (R244). -/
def State.tdFrame (s : State) (d p : Nat) : List Nat :=
  let x := 2 * p + 1
  match s.sapPort d x with
  | none => []
  | some q =>
    (List.range (s.sapSlots d x)).map fun k =>
      let v := q.last.words.getD k (if s.on .SAP_CFG_HIZ d x && bitAt (s.get .SAP_SLOTMASK d x) k == 0 then hiZ else 0)
      if v = hiZ ∨ s.on .SAP_STATUS_DRIVE d x = false ∨ s.pinsFloat = true then hiZ
      else v * 2 ^ (slotWidth (s.get .SAP_FMT_SWIDTH d x) - s.sapWidth d x)

/-- TD in BCLK `b` of the frame, counted from the first bit of slot 0: the slots in order, MSB first (R233); none where TD is
high-impedance. -/
def State.tdBit (s : State) (d p b : Nat) : Option Nat :=
  let w := slotWidth (s.get .SAP_FMT_SWIDTH d (2 * p + 1))
  match (s.tdFrame d p)[b / w]? with
  | none => none
  | some v => if v = hiZ then none else some (bitAt v (w - 1 - b % w))

end Sys2Proof.Machine
end

