-- ==== Sys2Proof/Machine/Rate.lean ====
section
/-! DEFINITION. Rate domains and bridges (R260 to R276). A bridge's cells use its local number 0–127 as their instance. The
coefficients of the conversion are not in the spec: they are free, and so is where the delay of a TRACK bridge lies within its
range (log entry 25). -/

namespace Sys2Proof.Machine

/-- Block ID of the rate-domain block's fault register set. -/
abbrev rateBlock : Nat := 0

/-- Global bridge number (R267). -/
def bridgeNumber (d b : Nat) : Nat := (d - 6) * 128 + b

/-- Bridge states (R273). -/
abbrev brOff : Nat := 0
abbrev brAcquire : Nat := 1
abbrev brLocked : Nat := 2
abbrev brLost : Nat := 3

/-- A bridge's state. -/
def State.brState (s : State) (d b : Nat) : Nat := s.get .BR_STATUS_STATE d b

/-- Bridges that are not OFF, as (die, bridge). -/
def State.liveBridges (s : State) : List (Nat × Nat) :=
  (s.cells.filter fun c => c.1.fld == .BR_STATUS_STATE).map fun c => (c.1.die, c.1.inst)

/-- A bridge finishes its last block (R275): its domains are those of that block. -/
def State.brStopping (s : State) (d b : Nat) : Bool := s.on .BR_STOPPING d b

/-- SRCDOM and DSTDOM of a bridge. -/
def State.brSrc (s : State) (d b : Nat) : Nat :=
  if s.brStopping d b then bitsAt (s.get .BR_WAS d b) 0 2 else s.get .BR_CFG_SRCDOM d b
def State.brDst (s : State) (d b : Nat) : Nat :=
  if s.brStopping d b then bitsAt (s.get .BR_WAS d b) 2 2 else s.get .BR_CFG_DSTDOM d b

/-- A TRACK bridge: its source is a serial port section (R267). -/
def State.brTrack (s : State) (d b : Nat) : Bool := s.brSrc d b == 3

/-- Source rate of a bridge: nominal in TRACK. -/
def State.brSrcFs (s : State) (d b : Nat) : Nat × Nat :=
  if s.brTrack d b then rateFs (s.get .BR_CFG_SRCRATE d b) else s.domFs (s.brSrc d b)

/-- Target rate of a bridge. -/
def State.brDstFs (s : State) (d b : Nat) : Nat × Nat := s.domFs (s.brDst d b)

/-- The lower of two rates. -/
def fsMin (a b : Nat × Nat) : Nat × Nat := if a.1 * b.2 ≤ b.1 * a.2 then a else b

/-- The nominal delay in target samples, unsigned 16.16, rounded down (R272). -/
def State.brNominal (s : State) (d b : Nat) : Nat :=
  let t := s.brDstFs d b
  let l := fsMin (s.brSrcFs d b) t
  32 * t.1 * l.2 * 65536 / (t.2 * l.1) + 8 * 65536

/-- The nominal delay in source samples, rounded up (R272). -/
def State.brNominalSrc (s : State) (d b : Nat) : Nat :=
  let f := s.brSrcFs d b
  let t := s.brDstFs d b
  let l := fsMin f t
  let den := f.2 * l.1 * t.1
  (32 * f.1 * l.2 * t.1 + 8 * f.1 * t.2 * l.1 + den - 1) / den

/-- RATE codes of a bridge's source and target. -/
def State.brRates (s : State) (d b : Nat) : Nat × Nat :=
  (if s.brTrack d b then s.get .BR_CFG_SRCRATE d b else s.get .DOM_CFG_RATE 6 (s.brSrc d b),
    s.get .DOM_CFG_RATE 6 (s.brDst d b))

/-- BR_RATIO in EXACT mode, 4.28: exact where it can be written; the last place is free otherwise (log entry 25). -/
def State.setRatio (s : State) (d b : Nat) : State :=
  let f := s.brSrcFs d b
  let t := s.brDstFs d b
  let n := f.1 * t.2 * 2 ^ 28
  let q := n / (f.2 * t.1)
  let r := s.brRates d b
  s.put .BR_RATIO d b (if n % (f.2 * t.1) = 0 then q else q + Config.brRatioUp r.1 r.2 % 2)

/-- The count near `near` whose low 32 bits are `v`. -/
def nearest32 (v near : Nat) : Int := near + signed 32 (unsigned 32 ((v : Int) - near))

/-- An EXACT bridge locks (R270, R272, R273): the alignment pair is latched unless it is written, and of a written pair the counts nearest
to those of now have its low 32 bits; the delay is within one source sample above the nominal, and the pair fixes it: how is free (log
entry 25). -/
def State.brLockExact (s : State) (d b : Nat) : State :=
  let s1 := s.when (s.get .BR_CFG_ALIGNSET d b = 0) fun t =>
    (t.put .BR_ALIGN_N d b (t.domcnt (t.brDst d b))).put .BR_ALIGN_S d b
      (unsigned 32 ((t.domcnt (t.brSrc d b) : Int) - t.brNominalSrc d b))
  let f := s.brSrcFs d b
  let t := s.brDstFs d b
  let span := t.1 * f.2 * 65536 / (t.2 * f.1)
  let r := s1.brRates d b
  let x := Config.brPhase (s1.get .BR_ALIGN_N d b) (s1.get .BR_ALIGN_S d b) r.1 r.2
  let s2 := (s1.put .BR_N0 d b (unsigned 65 (nearest32 (s1.get .BR_ALIGN_N d b) (s.domcnt (s.brDst d b))))).put .BR_S0 d b
    (unsigned 65 (nearest32 (s1.get .BR_ALIGN_S d b) (s.domcnt (s.brSrc d b))))
  ((s2.put .BR_STATUS_STATE d b brLocked).put .BR_DELAY d b (s1.brNominal d b + x % (span + 1))).setRatio d b

/-- A measured ratio, 4.28, lies within ±1,000 ppm of SRCRATE against the target domain (R271). -/
def State.brInRange (s : State) (d b ratio : Nat) : Bool :=
  let f := s.brSrcFs d b
  let t := s.brDstFs d b
  let n := f.1 * t.2 * 2 ^ 28
  let m := ratio * f.2 * t.1
  1000 * (max m n - min m n) ≤ n

/-! ### The source samples a bridge has taken -/

/-- The samples a bridge holds. -/
def State.brHist (s : State) (d b : Nat) : BrHist := (s.hists.find? fun h => h.die == d && h.bridge == b).getD ⟨d, b, 0, 0, []⟩

/-- A bridge takes source sample `m`; the newest 512 are held, and only those without a gap before them. -/
def State.brPush (s : State) (d b m v : Nat) (missed : Bool) : State :=
  let h := s.brHist d b
  let old := if h.newest + 1 = m then h.samples else []
  { s with hists := (s.hists.filter fun q => !(q.die == d && q.bridge == b)) ++
      [⟨d, b, m, s.capture d, (⟨v, missed⟩ :: old).take 512⟩] }

/-- The sample taken last: its value; +0 if none has been taken. -/
def BrHist.last (h : BrHist) : Nat := (h.samples.head?.map fun q => q.value).getD 0

/-- Source sample `i`; one that is not held counts as +0. -/
def BrHist.at_ (h : BrHist) (i : Int) : BrSample :=
  let k := (h.newest : Int) - i
  if k < 0 then ⟨0, false⟩ else h.samples.getD k.toNat ⟨0, false⟩

/-- The source position of output sample `n`, in units of 2^−24 of a source sample (R270), truncated. EXACT: from the alignment pair. TRACK:
the delay in force, BR_DELAY, lies between the position and the output's time, at the measured ratio BR_RATIO from the source sample
taken last and its time. -/
def State.brPosition (s : State) (d b n : Nat) : Int :=
  let t := s.brDstFs d b
  if s.brTrack d b then
    let h := s.brHist d b
    let ago : Int := ((s.capture d : Int) - h.time) * (t.1 * 65536 : Nat) - (s.get .BR_DELAY d b * t.2 * 1000000000 : Nat)
    (h.newest : Int) * 2 ^ 24 + ago * (s.get .BR_RATIO d b : Int) / ((t.2 * 1000000000 * 65536 * 16 : Nat) : Int)
  else
    let f := s.brSrcFs d b
    let k : Int := (n : Int) - signed 65 (s.get .BR_N0 d b)
    signed 65 (s.get .BR_S0 d b) * 2 ^ 24 + k * ((f.1 * t.2 * 2 ^ 24 : Nat) : Int) / ((f.2 * t.1 : Nat) : Int)

/-- Half the source samples of the filter: its group delay is 32 samples at the lower rate (R272; DEDUCED, log entry 25). -/
def State.brHalf (s : State) (d b : Nat) : Nat :=
  let f := s.brSrcFs d b
  let l := fsMin f (s.brDstFs d b)
  (32 * f.1 * l.2 + f.2 * l.1 - 1) / (f.2 * l.1)

/-- The source samples around a position, first to last. -/
def State.brTaps (s : State) (d b : Nat) (p : Int) : List BrSample :=
  let h := s.brHist d b
  let half := s.brHalf d b
  (List.range (2 * half)).map fun k => h.at_ (p / 2 ^ 24 + 1 - half + k)

/-- An output of a bridge: one sum of exact products of samples and coefficients, rounded once (R81, R270). -/
def State.brSum (s : State) (d b : Nat) (p : Int) (taps : List BrSample) : Nat :=
  let r := s.brRates d b
  let q := (p % 2 ^ 24).toNat
  (fpOut ((taps.zip (List.range taps.length)).foldl (fun acc x =>
    acc.add ((fpOf x.1.value).mul (fpOf (Config.brCoeff r.1 r.2 q x.2 % 2 ^ 32)))) (.zero false))).bits
/-- Both domains of an EXACT bridge have their media clocks. -/
def State.brClocks (s : State) (d b : Nat) : Bool :=
  s.on .DOM_STATUS_MLOCK 6 (s.brSrc d b) && s.on .DOM_STATUS_MLOCK 6 (s.brDst d b)

/-- A bridge enters ACQUIRE (R273); an EXACT one leaves it at once. -/
def State.brToAcquire (s : State) (d b : Nat) : State :=
  let s1 := (s.condEnd .BRIDGE_LOST d rateBlock (bridgeNumber d b)).put .BR_STATUS_STATE d b brAcquire
  if !s.brTrack d b && s.brClocks d b then s1.brLockExact d b else s1

/-- A locked TRACK bridge enters LOST (R273). -/
def State.brToLost (s : State) (d b : Nat) : State :=
  s.when (s.brState d b = brLocked) fun t =>
    (t.put .BR_STATUS_STATE d b brLost).condBegin .BRIDGE_LOST d rateBlock (bridgeNumber d b)

/-! ### Enable (R268, R275) -/

/-- A BR_CFG word with EN = 1 is refused (R268). -/
def brRefused (w : Nat) : Bool :=
  bitsAt w 3 2 == 3 || bitsAt w 1 2 == bitsAt w 3 2 || (bitsAt w 1 2 == 3 && 8 ≤ bitsAt w 5 4)

/-- The fields of BR_CFG but EN. -/
def State.brCfgFields (s : State) (d b w : Nat) : State :=
  (((s.put .BR_CFG_SRCDOM d b (bitsAt w 1 2)).put .BR_CFG_DSTDOM d b (bitsAt w 3 2)).put .BR_CFG_SRCRATE d b (bitsAt w 5 4)).put
    .BR_CFG_ALIGNSET d b (bitAt w 9)

/-- A bridge enters ACQUIRE from OFF (R273), with no source sample taken and no block in progress. -/
def State.brStart (s : State) (d b : Nat) : State :=
  { s.put .BR_BOPEN d b 0 with hists := s.hists.filter fun h => !(h.die == d && h.bridge == b) }.brToAcquire d b

/-- BRIDGE_ENABLE (R268, R273): BR_CFG is written with EN = 1; a bridge that still finishes a block starts from OFF (R275). -/
def execBridgeEnable (d b cfg : Nat) (s : State) : Result :=
  .next <| s.when (s.dieClocked d = true) fun s =>
    if s.on .BR_CFG_EN d b then s
    else if brRefused cfg then (s.put .BR_STATUS_BADCFG d b 1).fault .BRIDGE_BADCFG d rateBlock (bridgeNumber d b)
    else ((s.brCfgFields d b cfg).put .BR_CFG_EN d b 1).when (s.brStopping d b = false) fun t => t.brStart d b

/-- BRIDGE_DISABLE (R275): the bridge finishes the output block in progress. -/
def execBridgeDisable (d b : Nat) (s : State) : Result :=
  .next <| s.when (s.dieClocked d = true ∧ s.get .BR_CFG_EN d b = 1) fun s =>
    (s.put .BR_CFG_EN d b 0).when (s.brStopping d b = false) fun t =>
      (t.put .BR_STOPPING d b 1).put .BR_WAS d b (s.get .BR_CFG_SRCDOM d b + s.get .BR_CFG_DSTDOM d b * 4)

/-- BRIDGE_OFF (R275): the output block that was in progress is finished, and the bridge enters OFF. -/
def execBridgeOff (d b : Nat) (s : State) : Result :=
  .next <| s.when (s.get .BR_STOPPING d b = 1 ∧ s.get .BR_BOPEN d b = 0) fun t =>
    (((t.condEnd .BRIDGE_LOST d rateBlock (bridgeNumber d b)).put .BR_STATUS_STATE d b brOff).put .BR_STOPPING d b 0).when
      (t.get .BR_CFG_EN d b = 1) fun u => u.brStart d b

/-- BRIDGE_TRACK_LOCK (R271 to R273): the delay has held for 1 s, within 1/64 of a target sample of the nominal; the measured
ratio is the event's operand. -/
def execBridgeTrackLock (d b ratio : Nat) (s : State) : Result :=
  .next <| s.when (s.brState d b = brAcquire ∧ s.brTrack d b = true ∧ s.brInRange d b ratio = true) fun t =>
    (((t.put .BR_STATUS_STATE d b brLocked).put .BR_RATIO d b ratio).put .BR_DELAY d b
      (t.brNominal d b - 1024 + t.free % 2049)).drawn

/-! ### Feeding bridges from a section (R231, R267, R268) -/

/-- Bridges a section's channels name: the first, and how many. -/
def State.brRange (s : State) (d x : Nat) : Nat × Nat :=
  (s.get .SAP_CFG_BRIDGE d x, (channels (s.get .SAP_SLOTMASK d x) (s.sapSlots d x)).length)

/-- Enabled sections of a die that name a bridge. -/
def State.brNamers (s : State) (d b : Nat) : List Nat :=
  (s.ports.filter fun p => p.die == d && s.on .SAP_CFG_BREN d p.sec && (s.brRange d p.sec).1 ≤ b &&
    b < (s.brRange d p.sec).1 + (s.brRange d p.sec).2).map (·.sec)

/-- The section that feeds a bridge: the one with the lowest port number. -/
def State.brFeeder (s : State) (d b : Nat) : Option Nat :=
  match s.brNamers d b with
  | [] => none
  | x :: t => some (t.foldl min x)

/-- A channel's data word of a section is delivered to a bridge, or discarded (R268); a bridge takes it while the media clock of its
target runs (R262). -/
def State.brFeed (s : State) (d x b word : Nat) : State :=
  if 127 < b ∨ s.brTrack d b = false then s.fault .BRIDGE_CONFLICT d rateBlock (bridgeNumber d b)
  else if s.brFeeder d b ≠ some x then (s.put .BR_STATUS_CONFLICT d b 1).fault .BRIDGE_CONFLICT d rateBlock (bridgeNumber d b)
  else s.when (s.on .DOM_STATUS_MLOCK 6 (s.brDst d b) = true ∧ s.brState d b ≠ brOff) fun t =>
    t.brPush d b ((t.brHist d b).newest + 1) (rxConvert (t.sapWidth d x) word) false

/-- A frame of a section with BREN = 1 goes to its bridges (R231). -/
def State.brDeliver (s : State) (d x : Nat) (words : List Nat) : State :=
  let ch := channels (s.get .SAP_SLOTMASK d x) (s.sapSlots d x)
  s.each (ch.zip (List.range ch.length)) fun c t => t.brFeed d x (s.get .SAP_CFG_BRIDGE d x + c.2) (words.getD c.1 0)

/-- TRACK bridges a section feeds. -/
def State.brFed (s : State) (d x : Nat) : List Nat :=
  (s.liveBridges.filter fun q => q.1 == d && s.brTrack d q.2 && s.brFeeder d q.2 == some x).map (·.2)

/-- A section in RUN whose domain has its media clock delivers the data words of a frame to its bridges (R231, R262). -/
def State.brFrame (s : State) (d x : Nat) (words : List Nat) : State :=
  s.when (s.sapIs d x sapRun = true ∧ s.on .DOM_STATUS_MLOCK 6 (s.sapDom d x) = true) fun t => t.brDeliver d x words

/-- A frame of a section with BREN = 1 completes. -/
def State.brenFrame (s : State) (d x : Nat) (words : List Nat) : State :=
  match s.sapPort d x with
  | none => s
  | some p =>
    s.when (p.start ≠ 0 ∧ p.fresh = 0) fun t =>
      let f : SapFrame := ⟨1, p.start - 1, words.map (t.dataWord d x), false⟩
      (t.sapMod d x fun q => { q with prior := q.prev, prev := f, fresh := 1 }).brFrame d x f.words

/-- SAP_RX_FRAME (R231, R233, R246): a receive frame with these slots completes. -/
def execSapRxFrame (d p : Nat) (words : List Nat) (s : State) : Result :=
  .next <| if s.sapBren d (2 * p) then s.brenFrame d (2 * p) words else s.sapRxFrame d (2 * p) words

/-- A bridge's section cuts a frame: the previous one takes its place (R235). -/
def State.brCut (s : State) (d x bclks fs : Nat) : State :=
  match s.sapPort d x with
  | none => s
  | some p =>
    s.when (fs = s.fsStart d x ∧ p.start ≠ 0 ∧ p.fresh = 0 ∧ p.prev.num ≠ 0 ∧ bclks ≠ s.sapBclks d x) fun t =>
      t.brFrame d x p.prev.words

/-- SAP_FRAME_START (R235, R243, R249, R273): a source that is back from LOST and in range takes its bridges to ACQUIRE. -/
def execSapFrameStart (d p sec bclks fs : Nat) (s : State) : Result :=
  let x := 2 * p + sec
  let s1 := (s.when (s.sapBren d x = true) fun t => t.brCut d x bclks fs).sapFrameStart d x bclks fs
  .next <| s1.when (s.sapIs d x sapLost = true ∧ s1.sapIs d x sapRun = true ∧ s1.sapBren d x = true) fun t =>
    t.each ((t.brFed d x).filter fun b => t.brState d b == brLost && t.brInRange d b (t.get .BR_RATIO d b)) fun b u =>
      u.brToAcquire d b

/-- SAP_LOST_TIMEOUT (R249, R273): no frame start for two frame periods. LOST is entered from RUN. DEDUCED (log entry 23). -/
def execSapLostTimeout (d p sec : Nat) (s : State) : Result :=
  let x := 2 * p + sec
  .next <|
    if s.sapMaster d x then s
    else if s.sapStopping d x then s.sapFrameEnd d x
    else s.when (s.sapIs d x sapRun = true) fun t =>
      let s1 := (((t.put .SAP_STATUS_STATE d x sapLost).put .SAP_GOOD d x 0).condBegin .SAP_LOST d sapBlock (sapInst d x)).sapMod
        d x fun p => { p with start := 0, fresh := 0, gframe := 0, gsample := 0 }
      s1.when (t.sapBren d x = true) fun u => u.each (u.brFed d x) fun b v => v.brToLost d b

/-! ### Samples of a bridge (R269, R270, R273) -/

/-- The header of a bridge's block (R269): SLOT 0, NBLK 1. -/
def brHeader (stamp n0 flags nrep : Nat) : Nat := headerWord stamp n0 flags 0 1 0 nrep

/-- A bridge takes source sample `m` in EXACT mode (R241, R269). -/
def State.brInput (s : State) (d b m : Nat) : State :=
  let D := s.brSrc d b
  let B := s.bsize D
  let m0 := m - m % B
  let base := s.get .BR_IBUF d b * 0x400 + (m0 / B + 2) % 4 * (32 + 4 * B)
  let s1 := s.when (m = m0) fun t => (t.put .BR_IFLAGS d b 0).put .BR_ISTAMP d b (t.capture d)
  match s.slotDecision D m0 with
  | 0 => s1.brPush d b m 0 false
  | dec =>
    let s2 :=
      if dec = 1 then
        let q := s1.engineRead d (base + 32 + 4 * (m - m0)) 4
        q.1.brPush d b m q.2 false
      else
        let t := (s1.put .BR_IFLAGS d b fUndr).brPush d b m (s1.brHist d b).last true
        t.when (m = m0) fun u => (u.incSat .BR_UNDR d b 1).fault .BRIDGE_UNDR d rateBlock (bridgeNumber d b)
    s2.when (m % B = B - 1) fun t =>
      t.engineWrite d base 32 (brHeader (t.get .BR_ISTAMP d b) m0 (t.get .BR_IFLAGS d b) (if dec = 1 then 0 else B))

/-- The value of output sample `n` and the flags its block gets (R269, R270, R273). -/
def State.brValue (s : State) (d b n : Nat) : Nat × Nat :=
  match s.brState d b with
  | 2 =>
    let p := s.brPosition d b n
    let taps := s.brTaps d b p
    (s.brSum d b p taps, if taps.any fun q => q.missed then fUndr else 0)
  | 3 => (0, fLost)
  | _ => (0, fFill)

/-- The output block of sample `n` is opened (R241, R269): where the bridge enters it after its first sample, the earlier ones are +0 and
FILL is set. -/
def State.brOpen (s : State) (d b base n0 n : Nat) : State :=
  (((s.put .BR_BOPEN d b (n0 + 1)).put .BR_BFLAGS d b (if n = n0 then 0 else fFill)).put .BR_BSTAMP d b
    (if n = n0 then s.capture d else 0)).when (n ≠ n0) fun t => t.engineWrite d (base + 32) (4 * (n - n0)) 0

/-- A locked TRACK bridge holds the delay within 1/64 of a target sample of the nominal (R270, R272): where is free (log entry 25). -/
def State.brTrackDelay (s : State) (d b : Nat) : State :=
  s.when (s.brState d b = brLocked ∧ s.brTrack d b = true) fun t =>
    (t.put .BR_DELAY d b (t.brNominal d b - 1024 + t.free % 2049)).drawn

/-- A bridge produces output sample `n` (R269, R270, R273); one that stops starts no further block (R275). -/
def State.brOutput (s : State) (d b n : Nat) : State :=
  let B := s.bsize (s.brDst d b)
  let n0 := n - n % B
  let base := s.get .BR_OBUF d b * 0x400 + (n0 / B + 1) % 4 * (32 + 4 * B)
  let opens := s.get .BR_BOPEN d b != n0 + 1
  if s.brStopping d b && opens then s.put .BR_BOPEN d b 0
  else
    let s1 := (s.when (opens = true) fun t => t.brOpen d b base n0 n).brTrackDelay d b
    let v := s1.brValue d b n
    let s2 := (s1.put .BR_BFLAGS d b (s1.get .BR_BFLAGS d b ||| v.2)).when (s1.brState d b = brLost) fun t =>
      t.incSat .BR_LOST d b 1
    (s2.engineWrite d (base + 32 + 4 * (n - n0)) 4 v.1).when (n % B = B - 1) fun t =>
      (t.engineWrite d base 32 (brHeader (t.get .BR_BSTAMP d b) n0 (t.get .BR_BFLAGS d b) 0)).put .BR_BOPEN d b 0

/-- The ratio a TRACK bridge has measured, if a new one is there. -/
def State.brMeasure (s : State) (d b : Nat) (meas : List BridgeRatio) : State :=
  match meas.find? fun q => q.bridge == bridgeNumber d b with
  | none => s
  | some q => s.put .BR_RATIO d b q.ratio

/-- A TRACK bridge whose measured ratio leaves or re-enters the lock range (R271, R273). -/
def State.brRange1 (s : State) (d b : Nat) : State :=
  if s.brInRange d b (s.get .BR_RATIO d b) = false then s.when (s.brState d b = brLocked) fun t => (t.put .BR_STATUS_RANGE d b 1).brToLost d b
  else
    s.when (s.brState d b = brLost ∧ ((s.brFeeder d b).map fun x => s.sapIs d x sapRun).getD false = true) fun t =>
      t.brToAcquire d b

/-- Every bridge takes its part in sample `n` of domain `D`, a source sample only while the media clock of its target runs (R262); `meas` lists ratios that TRACK bridges have measured anew. -/
def State.brSample (s : State) (D n : Nat) (meas : List BridgeRatio) : State :=
  s.each (s.liveBridges.filter fun q => s.dieClocked q.1) fun q t =>
    let d := q.1
    let b := q.2
    if t.brDst d b = D then
      (t.when (t.brTrack d b = true) fun u => (u.brMeasure d b meas).brRange1 d b).brOutput d b n
    else t.when (t.brSrc d b = D ∧ t.on .DOM_STATUS_MLOCK 6 (t.brDst d b) = true) fun u => u.brInput d b n

/-! ### Media clocks (R260 to R262) -/

/-- Bridges of a domain whose media clock relocks (R273). -/
def State.brRelock (s : State) (D : Nat) : State :=
  s.each (s.liveBridges.filter fun q => s.brDst q.1 q.2 == D || s.brSrc q.1 q.2 == D) fun q t =>
    t.brToAcquire q.1 q.2

/-! ### The load of streams (R328) -/

/-- Channels and samples per packet of a stream. -/
def State.stxChans (s : State) (d i : Nat) : Nat := s.get .STX_FMT_CHANS d i + 1
def State.srxChans (s : State) (d i : Nat) : Nat := s.get .SRX_FMT_CHANS d i + 1

/-- The load of a stream of `ch` channels of a domain, in 100 samples/s (R328). -/
def State.streamLoad (s : State) (ch D : Nat) : Nat :=
  let f := s.domFs D
  ch * ((f.1 + 100 * f.2 - 1) / (100 * f.2))

/-- The load of the enabled streams of a die. -/
def State.stxLoad (s : State) (d : Nat) : Nat :=
  (((List.range 128).filter fun i => s.on .STX_CFG_EN d i).map fun i =>
    s.streamLoad (s.stxChans d i) (s.get .STX_CFG_DOMAIN d i)).sum
def State.srxLoad (s : State) (d : Nat) : Nat :=
  (((List.range 128).filter fun i => s.on .SRX_CFG_EN d i).map fun i =>
    s.streamLoad (s.srxChans d i) (s.get .SRX_CFG_DOMAIN d i)).sum

/-- The loads in force on both iguana dies show in PKT_TXLOAD and PKT_RXLOAD (R328). -/
def State.pktLoads (s : State) : State :=
  s.each [6, 7] fun d t => (t.put .PKT_TXLOAD d 0 (s.stxLoad d)).put .PKT_RXLOAD d 0 (s.srxLoad d)

/-- A domain becomes local (R264, R265): it has no phase against the head, and its conditions of the ring end (R276). -/
def State.domLocal (s : State) (D : Nat) : State :=
  ((((s.put .DOM_RPHASE 6 D 0).put .RING_MIS 6 D 0).put .RING_AHEAD 6 D 0).condEnd .DOM_RINGERR 6 rateBlock D).condEnd .DOM_RINGMIS 6
    rateBlock D

/-- A write of DOM_CFG (R262, R264): RATE, RING and MCEN. Domain A's RING is 1. -/
def State.domCfgWrite (s : State) (D rate ring mcen : Nat) : State :=
  if 8 ≤ rate then (s.put .DOM_STATUS_BADRATE 6 D 1).fault .DOM_BADRATE 6 rateBlock D
  else if s.get .EPOCH_STATUS_RUN 6 D = 1 then s
  else
    let starts := mcen == 1 && (s.get .DOM_CFG_MCEN 6 D == 0 || s.get .DOM_CFG_RATE 6 D != rate)
    let s1 := (((s.put .DOM_CFG_RATE 6 D rate).put .DOM_CFG_RING 6 D (if D = 0 then 1 else ring)).put .DOM_CFG_MCEN 6 D mcen).when
      (D ≠ 0 ∧ ring = 0) fun t => t.domLocal D
    let s1 := s1.when (rate ≠ s.get .DOM_CFG_RATE 6 D) fun t => t.pktLoads
    if mcen = 0 then s1.put .DOM_STATUS_MLOCK 6 D 0
    else if starts then (s1.put .DOM_STATUS_MLOCK 6 D 0).brRelock D
    else s1

/-- MEDIA_CLOCK_LOCK_START (R262): DOM_CFG is written with MCEN = 1. -/
def execMediaClockLockStart (D rate ring : Nat) (s : State) : Result :=
  .next <| s.when (s.dieClocked 6 = true) fun s =>
    s.domCfgWrite D rate ring 1

/-- MEDIA_CLOCK_STOP (R262): DOM_CFG is written with MCEN = 0. -/
def execMediaClockStop (D rate ring : Nat) (s : State) : Result :=
  .next <| s.when (s.dieClocked 6 = true) fun s =>
    s.domCfgWrite D rate ring 0

/-- MEDIA_CLOCK_LOCKED (R262). -/
def execMediaClockLocked (D : Nat) (s : State) : Result :=
  .next <| s.when (s.get .DOM_CFG_MCEN 6 D = 1 ∧ s.get .DOM_STATUS_MLOCK 6 D = 0) fun t =>
    (t.put .DOM_STATUS_MLOCK 6 D 1).brRelock D

end Sys2Proof.Machine
end

