-- ==== Sys2Proof/Machine/Biray.lean ====
section
/-! DEFINITION. The Biray ports, the ring and redundant pairs. A frame's receipt commands say by which port it came: `dir` 0
the west port (primary direction, die 7), 1 the east port (reverse direction, die 6). -/

namespace Sys2Proof.Machine

/-! ### A frame's way (R358, R363, R364) -/

/-- The die whose port takes a frame of a direction. -/
def birayDie (dir : Nat) : Nat := if dir = 0 then 7 else 6

/-- FRAME_FORWARD (R358): HOPS advances; at 63 the frame is discarded. -/
def State.birayForward (s : State) (dir ty : Nat) (f : BFrame) : State :=
  if 63 ≤ f.hops + 1 then s.incSat .BIRAY_DISC (birayDie dir) 0 1 else s.birayEast ty { f with hops := f.hops + 1 }

/-- A frame arrives for processing, is passed through on the reverse direction, or is lost or discarded (R358, R363, R364).
`act` handles it as primary ingress. -/
def State.birayIn (s : State) (dir ty : Nat) (f : BFrame) (act : State → State) : State :=
  let west := s.on .BIRAY_STATUS_WRAP 7 0
  if s.portLive (birayDie dir) = false then s
  else if f.wrap = 1 ∧ west = false ∧ s.on .BIRAY_DISCW 7 0 = true then s
  else if dir = 1 ∧ west = false then s.when (s.routeUp 6 7 = true) fun t => t.portSend 7 ty f
  else if dir = 0 ∧ s.routeUp 7 6 = false then s
  else act s

/-- A unicast frame: processed and removed at its destination, forwarded elsewhere (R358). -/
def State.birayUnicast (s : State) (dir ty : Nat) (f : BFrame) (act : State → State) : State :=
  s.birayIn dir ty f fun t =>
    if t.addressed = true ∧ f.dst = t.ringAddr then act t else t.birayForward dir ty f

/-- A broadcast frame: removed at its source, else processed and forwarded as `g`, which also goes on in the reverse direction (R366);
a unit without an address processes it only where `noaddr` says so (R358). -/
def State.birayBroadcast (s : State) (dir ty : Nat) (f g : BFrame) (noaddr : Bool) (act : State → State) : State :=
  s.birayIn dir ty g fun t =>
    if t.addressed = false then (if noaddr then act t else t).birayForward dir ty g
    else if f.src = t.ringAddr then t
    else (act t).birayForward dir ty g

/-! ### Links (R354, R355, R363, R364) -/

/-- INSTANCE of a port's faults: 0 primary direction (received on die 7), 1 reverse direction (die 6). -/
def birayInst (d : Nat) : Nat := if d = 7 then 0 else 1

/-- STATE of a port changes. -/
def State.portState (s : State) (d v : Nat) : State :=
  s.when (s.get .BIRAY_STATUS_STATE d 0 ≠ v) fun t => (t.put .BIRAY_STATUS_STATE d 0 v).put .BIRAY_STATUS_LINKCHG d 0 1

/-- WRAPPED and RING_WRAP follow the ports (R363). -/
def State.wrapFollow (s : State) : State :=
  let w := s.on .BIRAY_STATUS_WRAP 6 0 || s.on .BIRAY_STATUS_WRAP 7 0
  let t := s.put .RING_STATUS_WRAPPED 6 0 (flag w)
  if w then t.condBegin .RING_WRAP 6 0 Config.noInstance
  else t.when (t.live 6 0 .RING_WRAP = true) fun u => u.condEnd .RING_WRAP 6 0 Config.noInstance

/-- A direction goes DOWN (R354): the port wraps (R363). -/
def State.portDown (s : State) (d lanes st : Nat) : State :=
  let up := s.portUp d
  let s1 := (s.portState d st).put .BIRAY_STATUS_LANES d 0 lanes
  if up then
    let s2 := (s1.condBegin .BIRAY_LINK_DOWN d 0 (birayInst d)).put .BIRAY_STATUS_WRAP d 0 1
    let s3 := ((s2.inc .BIRAY_WRAPCNT d 0 1).when (d = 7) fun t => t.put .BIRAY_DISCW 7 0 0).wrapFollow
    s3.when (s3.portUp 6 = false ∧ s3.portUp 7 = false) fun t => t.put .PORT_DOWNT 6 0 (t.domcnt 0 + 1)
  else s1

/-- The ENUM token of the head, with its own DOMCNTs where EN = 0 (R360). -/
def State.enumToken (s : State) (next announce : Nat) : State :=
  let dc (D : Nat) := if s.get .EPOCH_CFG_EN 6 D = 0 then s.domcnt D else 0
  s.birayOwn frEnum 15 ([next + announce * 32] ++ words64 (dc 0) ++ words64 (dc 1) ++ words64 (dc 2))
    (natBytes 8 (s.get .RING_DEVID 6 0))

/-- The head enumerates (R360): it handles its own token first, taking address 0. -/
def State.enumStart (s : State) : State :=
  (((s.takeAddr 0).put .RING_TRIES 6 0 1).put .RING_TOKEN 6 0 1).enumToken 1 0

/-- BIRAY_LINK_UP (R301, R354, R463): all four lanes lock, which takes their reference clock; the ends exchange DELAY frames. A head whose ports were both DOWN at the
ring step enumerates. -/
def execBirayLinkUp (d : Nat) (s : State) : Result :=
  .next <| s.when (s.portUp d = false ∧ s.serdesRuns d = true) fun t =>
    let s1 := (t.portState d 2).put .BIRAY_STATUS_LANES d 0 15
    let s2 := s1.when (s1.live d 0 .BIRAY_LINK_DOWN = true) fun u => u.condEnd .BIRAY_LINK_DOWN d 0 (birayInst d)
    let s3 := ((s2.put .BIRAY_DLY d 0 1).put .PORT_DOWNT 6 0 0).portSend d frDelay ⟨s.ringAddr, 15, 0, 0, [0], []⟩
    s3.when (s3.on .RING_STEPPED 6 0 = true ∧ s3.on .RING_STATUS_HEAD 6 0 = true ∧ s3.addressed = false ∧
      s3.get .RING_STATUS_MULTIHEAD 6 0 = 0) fun u => u.enumStart

/-- BIRAY_LINK_DOWN (R354, R363): `lanes` are those still locked. -/
def execBirayLinkDown (d lanes : Nat) (s : State) : Result :=
  .next <| s.when (s.portUp d = true) fun t => t.portDown d lanes 0

/-- BIRAY_RETRAIN (R354): BIRAY_CTL.RETRAIN. -/
def execBirayRetrain (d : Nat) (s : State) : Result := .next <| s.when (s.dieClocked d = true) fun s => s.portDown d 0 1

/-- RING_UNWRAP (R364): the link has been UP without a break for 100 ms. -/
def execRingUnwrap (d : Nat) (s : State) : Result :=
  .next <| s.when (s.portUp d = true ∧ s.on .BIRAY_STATUS_WRAP d 0 = true) fun t =>
    ((t.put .BIRAY_STATUS_WRAP d 0 0).when (d = 7) fun u => u.put .BIRAY_DISCW 7 0 1).wrapFollow

/-- KEEPALIVE_SEND (R354). -/
def execKeepaliveSend (d : Nat) (s : State) : Result :=
  .next <| s.portSend d frKeepalive ⟨s.ringAddr, 15, 0, 0, [], []⟩

/-- FRAME_CRC_FAIL (R355). -/
def execFrameCrcFail (d : Nat) (s : State) : Result :=
  .next <| s.when (s.portLive d = true) fun t => (t.incSat .BIRAY_CRCERR d 0 1).fault .BIRAY_CRC d 0 (birayInst d)

/-- KEEPALIVE (R356): it keeps the direction UP, and changes nothing else. -/
def execKeepalive (_dir : Nat) (s : State) : Result := .next s

/-- DELAY (R354): a request is answered; a reply completes the measurement, `trip` being the round trip in ns. The turnaround
is taken from the round trip before it is halved. DEDUCED (log entry 40). -/
def execDelay (dir reply trip : Nat) (s : State) : Result :=
  let d := birayDie dir
  .next <| s.when (s.portLive d = true) fun s =>
    if reply = 0 then s.portSend d frDelay ⟨s.ringAddr, 15, 0, 0, [1], []⟩
    else s.when (s.on .BIRAY_DLY d 0 = true) fun t => (t.put .BIRAY_DELAY d 0 ((trip - 200) / 2)).put .BIRAY_DLY d 0 0

/-- UNDEFINED_FRAME_TYPE (R356): types 12 to 15. -/
def execUndefinedFrameType (dir type : Nat) (f : BFrame) (s : State) : Result :=
  .next <| s.birayIn dir type f fun t => t.incSat .BIRAY_DISC (birayDie dir) 0 1

/-! ### Addresses (R360 to R362, R463) -/

/-- A bit of RING_STATUS sets and RING_ENUM is raised (R384). -/
def State.ringTrouble (s : State) (f : Fld) : State := (s.put f 6 0 1).fault .RING_ENUM 6 0 Config.noInstance

/-- The MAXDOM fields of a token after this unit (R360). -/
def State.maxDoms (s : State) (f : BFrame) : List Nat :=
  ([0, 1, 2].map fun D =>
    let v := frLong f (2 * D + 2)
    words64 (if s.get .EPOCH_CFG_EN 6 D = 0 then max v (s.domcnt D) else v)).flatten

/-- The head's token has returned (R360). For R362 the addresses it gave are assigned now. DEDUCED (log entry 149). -/
def State.enumReturn (s : State) (f : BFrame) : State :=
  let n := frWord f 1 % 32
  let s := s.each (List.range n) fun a t => t.put .RING_ASGNT 6 a (t.capture 6 + 1)
  let s1 := s.each [0, 1, 2] fun D t =>
    t.when (t.get .EPOCH_CFG_EN 6 D = 0) fun u =>
      let v := max (u.domcnt D) (frLong f (2 * D + 2))
      (u.put .TB_DOMCNT 6 D v).put .TB_DOMCNT 7 D v
  (((s1.put .RING_TOKEN 6 0 0).put .RING_STATUS_N 6 0 n).put .RING_STATUS_UP 6 0 1).enumToken n 1

/-- A unit finds no address (R360, R362): it is passive. -/
def State.oversize (s : State) : State :=
  (((s.put .RING_STATUS_ADDR 6 0 15).put .RING_HASADDR 6 0 0).put .RING_OVER 6 0 1).ringTrouble .RING_STATUS_OVERSIZE

/-- A token reaches a unit that is not its head (R360). -/
def State.enumTake (s : State) (dir : Nat) (f : BFrame) : State :=
  let n := frWord f 1 % 32
  if n ≤ 15 then (s.takeAddr n).birayForward dir frEnum { f with w := [n + 1] ++ s.maxDoms f }
  else (s.oversize.refDead 9).birayForward dir frEnum f

/-- ENUM (R360, R361): a token, or the announcement. -/
def execEnum (dir : Nat) (f : BFrame) (s : State) : Result :=
  .next <| s.birayIn dir frEnum f fun t =>
    let announce := bitAt (frWord f 1) 5
    if t.on .RING_STATUS_HEAD 6 0 then
      if bytesNat (f.payload.take 8) ≠ t.get .RING_DEVID 6 0 then t.ringTrouble .RING_STATUS_MULTIHEAD
      else t.when (announce = 0 ∧ t.on .RING_TOKEN 6 0 = true) fun u => u.enumReturn f
    else if announce = 1 then
      ((t.put .RING_STATUS_UP 6 0 1).put .RING_STATUS_N 6 0 (frWord f 1 % 32)).birayForward dir frEnum f
    else t.enumTake dir f

/-- ENUM_TIMEOUT (R360): the token has not returned within 1 ms; it is sent up to three times. -/
def execEnumTimeout (s : State) : Result :=
  .next <| s.when (s.on .RING_TOKEN 6 0 = true) fun t =>
    if t.get .RING_TRIES 6 0 < 3 then (t.inc .RING_TRIES 6 0 1).enumToken 1 0
    else (t.put .RING_TOKEN 6 0 0).ringTrouble .RING_STATUS_ENUMFAIL

/-- ENUM_WAIT_TIMEOUT (R361, R463): a unit that had a port UP at the ring step has seen no ENUM within 100 ms of it. -/
def execEnumWaitTimeout (s : State) : Result :=
  .next <| s.when (s.on .RING_STATUS_HEAD 6 0 = false ∧ s.addressed = false ∧ s.get .RING_STATUS_UP 6 0 = 0 ∧
      s.get .RING_STATUS_OVERSIZE 6 0 = 0 ∧ s.get .RING_STEPPED 6 0 = 1 ∧ s.get .RING_UPSTEP 6 0 = 1 ∧
      s.get .RING_STEPT 6 0 + 100000000 ≤ s.capture 6) fun t =>
    t.ringTrouble .RING_STATUS_NOHEAD

/-- RING_REENUMERATE (R362): RING_CTL.ENUM; ignored off the head. -/
def execRingReenumerate (s : State) : Result :=
  .next <| s.when (s.dieClocked 6 = true ∧ s.on .RING_STATUS_HEAD 6 0 = true) fun t => t.enumStart

/-- The lowest address free for a joining unit; 15 if there is none (R362). -/
def State.freeAddr (s : State) : Nat :=
  ((List.range 15).find? fun a =>
    a != s.ringAddr && bitAt (s.get .RING_PRESENT 6 0) a == 0 &&
      (s.get .RING_ASGNT 6 a == 0 || s.get .RING_ASGNT 6 a + 10000000 ≤ s.capture 6)).getD 15

/-- JOIN (R362): unit 0 answers with an ASSIGN. -/
def execJoin (dir : Nat) (f : BFrame) (s : State) : Result :=
  .next <| s.birayUnicast dir frJoin f fun t =>
    let a := t.freeAddr
    (t.when (a ≠ 15) fun u => u.put .RING_ASGNT 6 a (u.capture 6 + 1)).birayOwn frAssign 15 ([a] ++ words64 (frLong f 2)) []

/-- ASSIGN (R362): the unit it names takes the address. -/
def execAssign (dir : Nat) (f : BFrame) (s : State) : Result :=
  .next <| s.birayBroadcast dir frAssign f f true fun t =>
    t.when (t.addressed = false ∧ frLong f 2 = t.get .RING_DEVID 6 0) fun u =>
      if frWord f 1 % 16 = 15 then u.oversize
      else u.takeAddr (frWord f 1 % 16)

/-- RING_PRESENT_EXPIRY (R362): no HEALTH frame from an address for 10 ms. -/
def execRingPresentExpiry (addr : Nat) (s : State) : Result :=
  .next <| s.put .RING_PRESENT 6 0 (clearBit (s.get .RING_PRESENT 6 0) addr)

/-! ### Time frames (R265, R278, R366, R367) -/

/-- A domain's 16 bytes of a TIME frame. -/
def State.timeDom (s : State) (D phase : Nat) : List Nat :=
  natBytes 8 (s.domcnt D) ++ natBytes 4 phase ++
    natBytes 4 (s.get .DOM_CFG_RATE 6 D + s.get .EPOCH_CFG_BSIZE 6 D * 16 + s.get .DOM_CFG_RING 6 D * 64 +
      s.get .EPOCH_STATUS_RUN 6 D * 128)

/-- The fraction of a sample of a domain elapsed since its last count, in 2⁻³² sample (R366): to the nanosecond, and `x` of the sample's
units into it. -/
def State.samplePhase (s : State) (D x : Nat) : Nat :=
  let fs := s.domFs D
  let n := fs.1 * 2 ^ 32
  let m := fs.2 * 1000000000
  min ((s.capture 6 - s.get .DOM_EDGET 6 D) * n / m + x % (n / m + 1)) (2 ^ 32 - 1)

/-- TIME_FRAME_SEND (R366): a 1 ms tick of the head's DPLL output; the operands place the tick within its nanosecond. -/
def execTimeFrameSend (pa pb pc : Nat) (s : State) : Result :=
  .next <| s.when (s.on .RING_STATUS_HEAD 6 0 = true ∧ s.addressed = true) fun t =>
    t.birayOwn frTime 15 [0, 0, 0]
      (t.timeDom 0 (t.samplePhase 0 pa) ++ t.timeDom 1 (t.samplePhase 1 pb) ++ t.timeDom 2 (t.samplePhase 2 pc))

/-- DOM_RPHASE (R265, R367): the local phase at t_h minus the head's, `p` of 2⁻³² sample, within half a sample; in ns, rounded down:
DEDUCED (log entry 121). -/
def State.ringPhase (s : State) (D p : Nat) : Int :=
  let fs := s.domFs D
  let per : Int := (fs.2 * 1000000000 * 2 ^ 32 : Nat)
  let own : Int := ((s.get .RING_TH 6 0 : Int) - s.get .DOM_EDGET 6 D) * (fs.1 * 2 ^ 32 : Nat)
  let x := (own - (p * fs.2 * 1000000000 : Nat)) % per
  (if per ≤ 2 * x then x - per else x) / ((fs.1 * 2 ^ 32 : Nat) : Int)

/-- What a TIME frame tells of a ring-wide domain: `x` its 16 bytes. -/
def State.timeTake (s : State) (D : Nat) (x : List Nat) : State :=
  let ph := unsigned 32 (s.ringPhase D (bytesNat (slice x 8 4)))
  let m := bytesNat (slice x 12 4)
  let same := m % 16 == s.get .DOM_CFG_RATE 6 D && bitsAt m 4 2 == s.get .EPOCH_CFG_BSIZE 6 D
  let fs := s.domFs D
  let far := 1000000000 * fs.2 < (signed 32 ph).natAbs * 4 * fs.1
  let s1 := ((s.put .RING_MIS 6 D (flag (!same))).put .DOM_RPHASE 6 D ph).condSet .DOM_RINGERR 6 rateBlock D far
  let s2 := (s1.when far fun t => t.put .DOM_STATUS_RINGERR 6 D 1).condSet .DOM_RINGMIS 6 rateBlock D (!same)
  let s3 := s2.when (same = false) fun t => t.put .DOM_STATUS_RINGMIS 6 D 1
  s3.when (same = true ∧ s3.get .EPOCH_CFG_EN 6 D = 0 ∧ s3.get .DOM_STATUS_MLOCK 6 D = 1) fun t =>
    ((t.put .RING_HDOM 6 D (bytesNat (x.take 8))).put .RING_HPH 6 D (bytesNat (slice x 8 4))).put .RING_ALIGN 6 D 1

/-- The CORR of a TIME frame at its receipt, in 2⁻¹⁶ ns: the link's delay joins it (R366). -/
def State.timeCorr (s : State) (dir : Nat) (f : BFrame) : Int :=
  signed 64 (frLong f 2) + (s.get .BIRAY_DELAY (birayDie dir) 0 * 2 ^ 16 : Nat)

/-- TIME (R366, R367, R278): `stamp` is the arrival in SYSCNT, `resid` the residence time in 2⁻¹⁶ ns. t_h is an edge of reference
9 (R277). A unit without an address does the same, and asks for one (R358, R362); an oversize one takes no part in ring-wide domains. -/
def execTime (dir : Nat) (f : BFrame) (stamp resid : Nat) (s : State) : Result :=
  let corr := s.timeCorr dir f
  let g := { f with w := [frWord f 1] ++ words64 (unsigned 64 (corr + resid)) ++ f.w.drop 3 }
  .next <| s.birayBroadcast dir frTime g g true fun t =>
    let th := ((stamp : Int) - corr / 2 ^ 16).toNat
    let u := ((t.put .RING_TH 6 0 th).refInternal 9 th).each [0, 1, 2] fun D v =>
      v.when (v.ringWide D = true ∧ v.on .RING_OVER 6 0 = false) fun x => x.timeTake D (slice f.payload (16 * D) 16)
    u.when (t.addressed = false) fun u => u.birayOwn frJoin 0 ([0] ++ words64 (u.get .RING_DEVID 6 0)) []

/-- The count an alignment gives at an edge now (R367): own count + 1, or the head's count if that is larger. -/
def State.alignCount (s : State) (D : Nat) : Nat × Nat :=
  let fs := s.domFs D
  let dt : Int := (s.capture 6 : Int) - (s.get .RING_TH 6 0 : Int)
  let den : Int := (2 ^ 32 * fs.2 * 1000000000 : Nat)
  let num : Int := ((s.get .RING_HPH 6 D * fs.2 * 1000000000 : Nat) : Int) + dt * ((fs.1 * 2 ^ 32 : Nat) : Int)
  (s.domcnt D + 1, ((s.get .RING_HDOM 6 D : Int) + num / den).toNat)

/-! ### Commits on the ring (R58, R368) -/

/-- A COMMIT frame of this unit for a ring-wide domain it takes part in (R264). -/
def State.commitFrame (s : State) (D cancel snap T : Nat) : State :=
  s.when (s.ringPart D = true ∧ s.addressed = true) fun t =>
    t.birayOwn frCommit 15 ([D + cancel * 4 + snap * 8] ++ words64 T) []

/-- A commit, cancel or snapshot of another unit is judged here (R55, R56, R368); `true` where it is accepted. -/
def State.commitTake (s : State) (D cancel snap T : Nat) : State × Bool :=
  if snap = 0 ∧ cancel = 0 then
    if s.commitRefused D T then (s.refuseCommit D T, false) else ((s.commitPend D T 0).latchMasks D T, true)
  else if snap = 0 then
    if s.get .EPOCH_CSTAT_COMMIT_PEND 6 D = 0 then (s, false)
    else if s.cancelInTime D (s.get .COMMIT_T 6 D) then ((s.put .EPOCH_CSTAT_COMMIT_PEND 6 D 0).unlatchMasks D (s.get .COMMIT_T 6 D), true)
    else (s.put .EPOCH_CSTAT_REFUSED 6 D 1, false)
  else if cancel = 0 then
    if s.snapRefused D T then (s.refuseSnap D, false) else (s.snapPend D T, true)
  else if s.get .EPOCH_CSTAT_SNAP_PEND 6 D = 0 then (s, false)
  else if s.cancelInTime D (s.get .SNAP_T 6 D) then (s.put .EPOCH_CSTAT_SNAP_PEND 6 D 0, true)
  else (s.put .EPOCH_CSTAT_REFUSED 6 D 1, false)

/-- COMMIT (R368): a frame of another unit, acknowledged if accepted; or an acknowledgement. -/
def execCommitFrame (dir : Nat) (f : BFrame) (s : State) : Result :=
  let w := frWord f 1
  let D := w % 4
  .next <|
    if bitAt w 4 = 1 then
      s.birayUnicast dir frCommit f fun t =>
        t.when (t.get .EPOCH_CSTAT_COMMIT_PEND 6 D = 1 ∧ bitsAt w 2 2 = 0 ∧ frLong f 2 = t.get .COMMIT_T 6 D) fun u =>
          u.put .COMMIT_ACKS 6 D (setBit (u.get .COMMIT_ACKS 6 D) f.src)
    else
      s.birayBroadcast dir frCommit f f false fun t =>
        t.when (D < 3 ∧ t.ringPart D = true) fun u =>
          let q := u.commitTake D (bitAt w 2) (bitAt w 3) (frLong f 2)
          q.1.when (q.2 = true) fun v => v.birayOwn frCommit f.src ([w % 16 + 16] ++ words64 (frLong f 2)) []

/-- PARTIAL (R369): a partial for this unit is passed to its home die. -/
def execPartialFrame (dir : Nat) (f : BFrame) (s : State) : Result :=
  let w := frWord f 1
  .next <| s.birayUnicast dir frPartial f fun t =>
    t.when (t.ringPart (bitsAt w 9 2) = true) fun t => t.send (.partialSum (8 + f.src) (bitsAt w 13 3) (bitsAt w 0 9) (bitsAt w 9 2) (frLong f 2)
      ((List.range (f.payload.length / 12)).map fun i => bytesNat (slice f.payload (12 * i) 12)) (frWord f 4)
      (bitAt w 11 == 1) (bitAt w 12 == 1))

/-! ### Roles (R370, R374 to R378) -/

/-- SYNC values. -/
abbrev syncNone : Nat := 0
abbrev syncSyncing : Nat := 1
abbrev syncSynced : Nat := 2
abbrev syncDiverged : Nat := 3

/-- The role of the unit; TXGATE follows (R370). -/
def State.setRole (s : State) (r : Nat) : State :=
  (((s.put .PAIR_STATUS_ROLE 6 0 r).put .PKT_CFG_TXGATE 6 0 (flag (r == 2))).put .PKT_CFG_TXGATE 7 0 (flag (r == 2)))

/-- The unit has one of the roles of a pair. -/
def State.roleIs (s : State) (r : Nat) : Bool := s.get .PAIR_STATUS_ROLE 6 0 == r

/-- PAIRID_WRITE (R254, R370, R383): PAIR_CFG is written; PAIRID is locked while ACTIVE. A STANDBY unit's serial outputs float. -/
def execPairidWrite (pairid auto isoyield : Nat) (s : State) : Result :=
  let t := (s.put .PAIR_CFG_AUTO 6 0 auto).put .PAIR_CFG_ISOYIELD 6 0 isoyield
  .next <| s.when (s.dieClocked 6 = true) fun _ =>
    if t.roleIs 1 then t
    else
      let v := (((t.put .PAIR_CFG_PAIRID 6 0 pairid).put .PAIR_STATUS_SYNC 6 0 syncNone).put .PAIR_YIELDB 6 0 0).setRole
        (if pairid = 0 then 0 else 2)
      let u := v.when (pairid ≠ 0) fun x => x.each x.ports fun p y => y.put .SAP_STATUS_DRIVE p.die p.sec 0
      ((u.put .PAIR_STATUS_TAKEPEND 6 0 0).put .PAIR_TRIG 6 0 0).put .PAIR_ACTREQ 6 0 0

/-- ACTIVATE (R370): PAIR_CTL.ACTIVATE. -/
def execActivate (s : State) : Result :=
  .next <| s.when (s.dieClocked 6 = true ∧ s.roleIs 2 = true) fun t =>
    if t.get .PAIR_ACTQ 6 0 < 3 then t.put .PAIR_STATUS_REFUSED 6 0 1 else t.put .PAIR_ACTREQ 6 0 1

/-- TAKEOVER (R374): PAIR_CTL.TAKEOVER; ignored unless STANDBY. -/
def execTakeover (s : State) : Result := .next <| s.when (s.dieClocked 6 = true ∧ s.roleIs 2 = true) fun t => t.put .PAIR_TRIG 6 0 1

/-- The unit becomes ACTIVE at boundary `b`. -/
def State.becomeActive (s : State) (b : Nat) : State :=
  ((((s.setRole 1).put .PAIR_ACTSINCE 6 0 b).put .PAIR_ACTREQ 6 0 0).put .PAIR_STATUS_TAKEPEND 6 0 0).put .PAIR_YIELD 6 0 0

/-- An ACTIVE unit gives way at boundary `b` (R370, R375). -/
def State.becomeStandby (s : State) (b : Nat) : State :=
  ((((s.setRole 2).put .PAIR_STATUS_SYNC 6 0 syncNone).put .PAIR_YIELD 6 0 0).put .PAIR_YIELDB 6 0 (b + 1)).fault
    .PAIR_TAKEOVER 6 0 Config.noInstance

/-- The next boundary of domain A. -/
def State.nextBoundary (s : State) : Nat := (s.domcnt 0 / s.bsize 0 + 1) * s.bsize 0

/-- A yield is due (R375): at the partner's ACTSINCE if that lies ahead, else at the own next boundary. -/
def State.yieldFor (s : State) (since : Nat) : State :=
  s.when (s.get .PAIR_YIELD 6 0 = 0) fun t =>
    (t.put .PAIR_YIELD 6 0 1).put .PAIR_YIELDAT 6 0 (if t.domcnt 0 < since then since else t.nextBoundary)

/-- Both ports have been DOWN without a break since before a count of domain A (R378). -/
def State.isolatedSince (s : State) (n : Nat) : Bool :=
  !s.portUp 6 && !s.portUp 7 && s.get .PORT_DOWNT 6 0 ≤ n

/-! ### Digests (R373, R380) -/

/-- The ring-wide domains. -/
def State.ringDoms (s : State) : List Nat := [0, 1, 2].filter fun D => s.ringWide D

/-- Equal digests are counted while SYNCING, from the slot of epoch T_d on, which is reported at T_d + 3B (R380). -/
def State.digestEqual (s : State) (D b : Nat) : State :=
  let t := s.when (s.get .PAIR_STATUS_SYNC 6 0 = syncSyncing ∧ s.get .PAIR_TD 6 D + 3 * s.bsize D ≤ b) fun t =>
    t.put .PAIR_EQ 6 D (min 16 (t.get .PAIR_EQ 6 D + 1))
  t.when (t.get .PAIR_STATUS_SYNC 6 0 = syncSyncing ∧ (t.ringDoms.all fun E => t.get .PAIR_EQ 6 E == 16) = true) fun u =>
    u.put .PAIR_STATUS_SYNC 6 0 syncSynced

/-- Different digests (R373). -/
def State.digestDiffers (s : State) (D : Nat) : State :=
  let t := (s.incSat .PAIR_MISMATCH 6 0 1).put .PAIR_EQ 6 D 0
  t.when (t.get .PAIR_STATUS_SYNC 6 0 = syncSyncing ∨ t.get .PAIR_STATUS_SYNC 6 0 = syncSynced) fun u =>
    (u.put .PAIR_STATUS_SYNC 6 0 syncDiverged).fault .PAIR_DIVERGE 6 0 D

/-- The place that keeps the digests of the slot reported at a boundary with low 32 bits `k`. -/
def State.digestAt (s : State) (D k : Nat) : Nat := D * 64 + k / s.bsize D % 64

/-- DIGEST_COMPARE (R373): own and partner digests of the slot with `k` of a ring-wide domain, once each, whichever comes first. Each unit
keeps those of the last 64 slots: DEDUCED (log entry 150). -/
def State.digestCompare (s : State) (D k : Nat) : State :=
  let x := s.digestAt D k
  let b := s.get .DIG_RINGB 6 x
  if b = 0 ∨ (b - 1) % 2 ^ 32 ≠ k ∨ s.get .DIG_PARTB 6 x ≠ k + 1 ∨ s.get .DIG_CMP 6 x = k + 1 ∨ s.ringWide D = false then s
  else
    let own := s.get .DIG_RING 6 x
    let part := s.get .DIG_PART 6 x
    let t := (((s.put .DIG_CMP 6 x (k + 1)).put .PAIR_DIG_BND 6 D k).put .PAIR_DIG_OWN 6 D own).put .PAIR_DIG_PART 6 D part
    if own = part then t.digestEqual D (b - 1) else t.digestDiffers D

/-- A slot of a domain ends at boundary `k`: its digest is complete (R373). -/
def State.digestClose (s : State) (D k : Nat) : State :=
  let v := s.get .DIG_ACC 6 D
  let x := s.digestAt D (k % 2 ^ 32)
  let t := (((s.put .PAIR_DIG 6 D v).put .PAIR_DIGB 6 D (k + 1)).put .DIG_RING 6 x v).put .DIG_RINGB 6 x (k + 1)
  (t.put .DIG_ACC 6 D 0).digestCompare D (k % 2 ^ 32)

/-- The partner's digest of the slot with `k` arrives (R372, R373). -/
def State.digestTake (s : State) (D k v : Nat) : State :=
  let x := s.digestAt D k
  ((s.put .DIG_PART 6 x v).put .DIG_PARTB 6 x (k + 1)).digestCompare D k

/-! ### Health frames (R372) -/

/-- The words and payload of the HEALTH frame for boundary `b`. -/
def State.healthWords (s : State) (b : Nat) : List Nat :=
  [s.get .PAIR_CFG_PAIRID 6 0 + s.get .PAIR_STATUS_ROLE 6 0 * 2 ^ 8 + s.get .PAIR_STATUS_SYNC 6 0 * 2 ^ 10 +
    s.highestLevel * 2 ^ 12 + s.get .PAIR_STATUS_TAKEPEND 6 0 * 2 ^ 14] ++ words64 b ++ words64 (s.get .PAIR_ACTSINCE 6 0)

/-- The payload: digest and the low bits of its boundary for each domain. -/
def State.healthDigests (s : State) : List Nat :=
  ([0, 1, 2].map fun D => natBytes 4 (s.get .PAIR_DIG 6 D) ++ natBytes 4 (s.get .PAIR_DIGB 6 D - 1)).flatten

/-- A HEALTH frame is broadcast by an addressed unit. -/
def State.healthSend (s : State) (b : Nat) : State :=
  s.when (s.addressed = true) fun t => t.birayOwn frHealth 15 (t.healthWords b) t.healthDigests

/-- HEALTH_TIMER (R372): 1 ms while domain A's epochs are stopped. -/
def execHealthTimer (s : State) : Result :=
  .next <| s.when (s.get .EPOCH_STATUS_RUN 6 0 = 0) fun t => t.healthSend 0

/-- HEALTH_COPY_SEND (R374): the copy of the frame that carried TAKEOVER. -/
def execHealthCopySend (s : State) : Result :=
  .next <| s.when (s.on .PAIR_STATUS_TAKEPEND 6 0 = true) fun t => t.healthSend (t.get .PAIR_ACTSINCE 6 0 - t.bsize 0)

/-- A resync fails (R381): SNAPFAIL, SYNC = NONE, and what was held is dropped. -/
def State.resyncDrop (s : State) : State :=
  let t := ((s.put .PAIR_STATUS_SNAPFAIL 6 0 1).put .PAIR_STATUS_SYNC 6 0 syncNone).put .PAIR_STATUS_SNAPPEND 6 0 0
  let u := ((t.putAll .PAIR_TDV 6 3 0).putAll .MIRROR_ENDV 6 3 0).putAll .PAIR_APPL 6 3 0
  { u with mirror := [] }.fault .PAIR_SNAPFAIL 6 0 Config.noInstance

/-- The regions of a resync table of `n` entries (R379): die, address, domain, bytes. -/
def regionsIn (b : List Nat) (n : Nat) : List (Nat × Nat × Nat × Nat) :=
  (List.range n).map fun i =>
    let w := fun k => bytesNat (slice b (16 * i + 4 * k) 4)
    (bitsAt (w 1) 0 3, w 0, bitsAt (w 1) 3 2, bitsAt (w 2) 0 24)

/-- The regions as the table stands. -/
def State.regions (s : State) : List (Nat × Nat × Nat × Nat) :=
  regionsIn (s.loadBytes 6 (s.get .PAIR_RGN_BASE 6 0 * 0x400) (16 * s.get .PAIR_RGN_CNT 6 0)) (s.get .PAIR_RGN_CNT 6 0)

/-- The standby's state memories are undefined after a failure (R381): every word of its regions takes a free value. -/
def State.scramble (s : State) : State :=
  s.each s.regions fun r t =>
    t.each (List.range (r.2.2.2 / 16)) fun i u => (u.store r.1 (r.2.1 + 16 * i) 16 u.free).drawn

/-- A failure on this unit (R381). -/
def State.resyncFail (s : State) : State :=
  let sb := s.roleIs 2
  s.resyncDrop.when (sb = true) fun t => t.scramble

/-- What a partner's HEALTH frame does to the roles (R375, R377). -/
def State.healthRoles (s : State) (f : BFrame) : State :=
  let w := frWord f 1
  let since := frLong f 4
  let own := s.get .PAIR_ACTSINCE 6 0
  if s.roleIs 1 = false then s
  else if bitAt w 14 = 1 then s.yieldFor since
  else if s.get .PAIR_YIELD 6 0 = 0 ∧ bitsAt w 8 2 = 1 ∧ (own < since ∨ (own = since ∧ f.src < s.ringAddr)) then
    ((s.yieldFor since).put .PAIR_STATUS_CONFLICT 6 0 1).fault .PAIR_CONFLICT 6 0 Config.noInstance
  else s

/-- A partner's HEALTH frame (R372 to R377). -/
def State.healthPartner (s : State) (f : BFrame) : State :=
  let w := frWord f 1
  let s1 := ((((s.put .PAIR_PBND2 6 0 (s.get .PAIR_PBND 6 0)).put .PAIR_PBND 6 0 (frLong f 2 + 1)).put .PAIR_PROLE 6 0
    (bitsAt w 8 2)).put .PAIR_PSYNC 6 0 (bitsAt w 10 2)).put .PAIR_PESC 6 0 (bitsAt w 12 2)
  let s2 := ((s1.put .PAIR_PADDR 6 0 f.src).put .PAIR_QUIET 6 0 0).put .PAIR_STATUS_PARTNER 6 0 1
  let s3 := s2.when (bitsAt w 8 2 = 1) fun t => t.put .PAIR_ACTQ 6 0 0
  let s4 := s3.each [0, 1, 2] fun D t =>
    t.digestTake D (bytesNat (slice f.payload (8 * D + 4) 4)) (bytesNat (slice f.payload (8 * D) 4))
  -- a partner that has dropped out of SYNCING has failed (log entry 41)
  let s5 := s4.when (s4.get .PAIR_STATUS_SYNC 6 0 = syncSyncing ∧ bitsAt w 10 2 = syncNone ∧
    s4.get .PAIR_TD 6 0 < frLong f 2) fun t => t.resyncFail
  s5.healthRoles f

/-- HEALTH (R362, R372). -/
def execHealth (dir : Nat) (f : BFrame) (s : State) : Result :=
  .next <| s.birayBroadcast dir frHealth f f false fun t =>
    let id := frWord f 1 % 256
    let u := (t.put .RING_PRESENT 6 0 (setBit (t.get .RING_PRESENT 6 0) (f.src % 16))).put .CSF_UPAIR 6 (f.src % 16) id
    u.when (id ≠ 0 ∧ id = u.get .PAIR_CFG_PAIRID 6 0) fun v => v.healthPartner f

/-! ### Resync (R379 to R381) -/

/-- PAIR_SNAP_ARM (R380): PAIR_CTL.SNAP_ARM; ignored unless ACTIVE. The conditions of R55 set their bits. -/
def execPairSnapArm (s : State) : Result :=
  .next <| s.when (s.dieClocked 6 = true ∧ s.roleIs 1 = true) fun t =>
    let T := t.get .PAIR_SNAP_AT 6 0
    if t.badAlign 0 T ∨ t.tooLate 0 T ∨ t.on .PAIR_STATUS_SNAPPEND 6 0 then
      ((t.when (t.badAlign 0 T = true) fun u => u.put .PAIR_STATUS_BADALIGN 6 0 1).when (t.tooLate 0 T = true) fun u =>
        u.put .PAIR_STATUS_TOOLATE 6 0 1).when (t.on .PAIR_STATUS_SNAPPEND 6 0 = true) fun u =>
          u.put .PAIR_STATUS_REFUSED 6 0 1
    else
      let u := (((t.put .PAIR_STATUS_SNAPPEND 6 0 1).put .PAIR_SNAPACK 6 0 0).putAll .PAIR_TDV 6 3 0).put .PAIR_TD 6 0 T
      (u.put .PAIR_TDV 6 0 1).birayOwn frMirror (u.get .PAIR_PADDR 6 0) ([4] ++ words64 T) []

/-- PAIR_SNAP_CANCEL (R380, R56). -/
def execPairSnapCancel (s : State) : Result :=
  .next <| s.when (s.dieClocked 6 = true ∧ s.on .PAIR_STATUS_SNAPPEND 6 0 = true) fun t =>
    if t.cancelInTime 0 (t.get .PAIR_TD 6 0) then (t.put .PAIR_STATUS_SNAPPEND 6 0 0).putAll .PAIR_TDV 6 3 0
    else t.put .PAIR_STATUS_REFUSED 6 0 1

/-- RESYNC_ACK_DEADLINE (R380): DOMCNT A has reached T_A − B without the partner's acknowledgement. -/
def execResyncAckDeadline (s : State) : Result :=
  .next <| s.when (s.roleIs 1 = true ∧ s.on .PAIR_STATUS_SNAPPEND 6 0 = true ∧ s.on .PAIR_SNAPACK 6 0 = false ∧
      s.get .PAIR_TD 6 0 ≤ s.domcnt 0 + s.bsize 0) fun t =>
    ((t.put .PAIR_STATUS_SNAPFAIL 6 0 1).put .PAIR_STATUS_SNAPPEND 6 0 0).putAll .PAIR_TDV 6 3 0

/-- The resync engine reads SRAM of a die as the Biray port's ingress does (R187, R379, R380). DEDUCED (log entry 111). -/
def State.mirrorRead (s : State) (die a n : Nat) : State × List Nat :=
  s.sramEngineRead die 1 (if die = 7 then 15 else ingressPort 7 die) a n

/-- The MIRROR frames of one region: die, address, bytes from `a` on (R380, R355); the state and the bytes read. -/
def State.mirrorRegion (s : State) (D die a : Nat) : Nat → Nat → State × List Nat
  | 0, _ => (s, [])
  | k + 1, n =>
    if n = 0 then (s, [])
    else
      let m := min n 1024
      let q := s.mirrorRead die a m
      let r := (q.1.birayOwn frMirror (s.get .PAIR_PADDR 6 0) ([D] ++ words64 (s.get .PAIR_TD 6 D) ++ [die, a]) q.2).mirrorRegion
        D die (a + m) k (n - m)
      (r.1, q.2 ++ r.2)

/-- The regions in turn; the state and all their bytes. -/
def State.mirrorRegions (s : State) (D : Nat) : List (Nat × Nat × Nat × Nat) → State × List Nat
  | [] => (s, [])
  | r :: t =>
    let q := s.mirrorRegion D r.1 r.2.1 (r.2.2.2 / 1024 + 1) r.2.2.2
    let x := q.1.mirrorRegions D t
    (x.1, q.2 ++ x.2)

/-- The active reads the table and a domain's regions and sends them, then END (R380). -/
def State.mirrorSend (s : State) (D : Nat) : State :=
  let b := s.mirrorRead 6 (s.get .PAIR_RGN_BASE 6 0 * 0x400) (16 * s.get .PAIR_RGN_CNT 6 0)
  let q := b.1.mirrorRegions D ((regionsIn b.2 (s.get .PAIR_RGN_CNT 6 0)).filter fun r => r.2.2.1 == D)
  q.1.birayOwn frMirror (q.1.get .PAIR_PADDR 6 0) ([D + 8] ++ words64 (q.1.get .PAIR_TD 6 D) ++ [0, 0, q.1.get .TB_GEN 6 D, crc32 q.2]) []

/-- On the active, the drained epoch T_d − B starts the reading (R380): at its drain, or once T_d is known. -/
def State.pairDrained (s : State) (D : Nat) : State :=
  s.when (s.roleIs 1 = true ∧ s.on .PAIR_SNAPACK 6 0 = true ∧ s.on .PAIR_TDV 6 D = true ∧ s.on .EPOCH_STATUS_DRAINED 6 D = true ∧
      s.get .EPOCH_CUR 6 D + s.bsize D = s.get .PAIR_TD 6 D) fun t => t.mirrorSend D

/-- The first boundary of a domain at or after now: the count itself where its edge is now (R380). -/
def State.boundaryFrom (s : State) (D : Nat) : Nat :=
  let n := s.domcnt D
  let B := s.bsize D
  if n % B = 0 ∧ s.get .DOM_EDGET 6 D = s.capture 6 then n else (n / B + 1) * B

/-- DOMCNT A reaches `n`: at T_A − B, T_d of B and C is fixed (R380), on the standby by its own count of the ring-wide domains that run,
which what the active sends replaces: DEDUCED (log entry 151). -/
def State.resyncMoment (s : State) (n : Nat) : State :=
  if s.on .PAIR_TDV 6 0 = false ∨ s.on .PAIR_STATUS_SNAPPEND 6 0 = false ∨ n + s.bsize 0 ≠ s.get .PAIR_TD 6 0 then s
  else
    s.each [1, 2] fun D t =>
      if t.roleIs 1 then ((t.put .PAIR_TD 6 D (t.boundaryFrom D)).put .PAIR_TDV 6 D 1).pairDrained D
      else t.when (t.roleIs 2 = true ∧ t.ringWide D = true ∧ t.on .EPOCH_STATUS_RUN 6 D = true ∧ t.on .PAIR_TDV 6 D = false) fun u =>
        (u.put .PAIR_TD 6 D (u.boundaryFrom D)).put .PAIR_TDV 6 D 1

/-- The bytes a standby holds. -/
def State.mirrorUsed (s : State) : Nat := (s.mirror.map fun x => x.bytes.length).sum

/-- END has arrived: the CRC of what is held decides (R380, R381). -/
def State.mirrorEnd (s : State) (D T gen crc : Nat) : State :=
  let data := ((s.mirror.filter fun x => x.dom == D).map fun x => x.bytes).flatten
  if crc32 data = crc then
    (((s.put .PAIR_TD 6 D T).put .PAIR_TDV 6 D 1).put .MIRROR_ENDV 6 D 1).put .MIRROR_GEN 6 D gen
  else s.resyncFail

/-- MIRROR (R380): START, its acknowledgement, data, END. -/
def execMirror (dir : Nat) (f : BFrame) (s : State) : Result :=
  let w := frWord f 1
  let D := w % 4
  .next <| s.birayUnicast dir frMirror f fun t =>
    if bitAt w 4 = 1 then t.when (t.on .PAIR_STATUS_SNAPPEND 6 0 = true) fun u => u.put .PAIR_SNAPACK 6 0 1
    else if t.roleIs 2 = false then t
    else if bitAt w 2 = 1 then
      let y := t.get .PAIR_STATUS_SYNC 6 0
      if y = syncNone ∨ y = syncDiverged then
        let u := { (((t.putAll .PAIR_TDV 6 3 0).putAll .MIRROR_ENDV 6 3 0).putAll .PAIR_APPL 6 3 0) with mirror := [] }
        (((u.put .PAIR_STATUS_SNAPPEND 6 0 1).put .PAIR_TD 6 0 (frLong f 2)).put .PAIR_TDV 6 0 1).birayOwn frMirror f.src
          ([w % 4 + 4 + 16] ++ words64 (frLong f 2)) []
      else t
    else if t.on .PAIR_TDV 6 0 = false then t
    else if bitAt w 3 = 1 then t.mirrorEnd D (frLong f 2) (frWord f 6) (frWord f 7)
    else if 524288 < t.mirrorUsed + f.payload.length then t.resyncFail
    else
      let u := (t.put .PAIR_TD 6 D (frLong f 2)).put .PAIR_TDV 6 D 1
      { u with mirror := u.mirror ++ [MirrorBlk.mk D (frWord f 4 % 8) (frWord f 5) f.payload] }

/-- Bytes are written to SRAM a word at a time. -/
def State.mirrorWrite (s : State) (die a : Nat) : Nat → List Nat → State
  | 0, _ => s
  | k + 1, l =>
    if l = [] then s
    else (s.bankWriteBytes die 1 (if die = 7 then 15 else ingressPort 7 die) 0 0 a 2 (min l.length 16)
      (bytesNat (l.take 16))).1.mirrorWrite die (a + 16) k (l.drop 16)

/-- MIRROR_APPLY (R380): the standby's epoch T_d − B has drained and END has arrived. -/
def execMirrorApply (D : Nat) (s : State) : Result :=
  .next <| s.when (s.roleIs 2 = true ∧ s.on .PAIR_TDV 6 D = true ∧ s.on .MIRROR_ENDV 6 D = true ∧
      s.on .PAIR_APPL 6 D = false ∧ s.on .EPOCH_STATUS_DRAINED 6 D = true ∧
      s.get .EPOCH_CUR 6 D + s.bsize D = s.get .PAIR_TD 6 D) fun t =>
    let s1 := t.each (t.mirror.filter fun x => x.dom == D) fun x u => u.mirrorWrite x.die x.addr (x.bytes.length / 16 + 1) x.bytes
    let s2 := { s1 with mirror := s1.mirror.filter fun x => x.dom != D }
    s2.put .PAIR_APPL 6 D 1

/-- On the standby, epoch T_d waits for END and every write (R380). -/
def State.resyncHolds (s : State) (D : Nat) : Bool :=
  s.roleIs 2 && s.on .PAIR_TDV 6 D && !s.on .PAIR_APPL 6 D && s.get .PAIR_TD 6 D ≤ s.get .EP_PASSED 6 D

/-- The generation a die takes at an epoch start of the standby's resync: the carried value at T_d (R380). -/
def State.genAt (s : State) (d D b : Nat) : Nat :=
  if s.roleIs 2 ∧ s.on .PAIR_APPL 6 D = true ∧ s.get .PAIR_TD 6 D = b then s.get .MIRROR_GEN 6 D else s.get .TB_GEN d D

/-- Skipping boundaries of a domain between T_d − B and T_d fails a resync on the standby (R381): the epoch of `b` starts
after `n` skipped ones. -/
def State.resyncSkip (s : State) (D b n : Nat) : State :=
  let B := s.bsize D
  let T := s.get .PAIR_TD 6 D
  s.when (s.roleIs 2 = true ∧ s.on .PAIR_TDV 6 D = true ∧
      ((List.range n).any fun i => b - (i + 1) * B == T || b - (i + 1) * B + B == T) = true) fun t => t.resyncFail

/-- A boundary of any domain (R380, R381): END is due on the standby by T_d + B. -/
def State.resyncBoundary (s : State) (D b : Nat) : State :=
  s.when (s.roleIs 2 = true ∧ s.on .PAIR_TDV 6 D = true ∧ s.on .MIRROR_ENDV 6 D = false ∧
      s.get .PAIR_TD 6 D + s.bsize D ≤ b) fun t => t.resyncFail

/-! ### A boundary of domain A (R372, R374, R375, R378, R380) -/

/-- The partner's frame for `b` − B is judged (R372). -/
def State.healthJudge (s : State) (b : Nat) : State :=
  let k := b - s.bsize 0
  if s.get .PAIR_CFG_PAIRID 6 0 = 0 ∨ s.get .EPOCH_STATUS_RUN 6 0 = 0 ∨ b < s.bsize 0 then s
  else if s.get .PAIR_PBND 6 0 = k + 1 ∨ s.get .PAIR_PBND2 6 0 = k + 1 then s.put .PAIR_MISSN 6 0 0
  else ((s.put .PAIR_MISSN 6 0 (min 3 (s.get .PAIR_MISSN 6 0 + 1))).incSat .PAIR_HMISS 6 0 1).fault .PAIR_HMISS 6 0 Config.noInstance

/-- The partner has been silent for one boundary more (R370, R383). -/
def State.quietMore (s : State) : State :=
  let t := (s.put .PAIR_QUIET 6 0 (min 3 (s.get .PAIR_QUIET 6 0 + 1))).put .PAIR_ACTQ 6 0 (min 3 (s.get .PAIR_ACTQ 6 0 + 1))
  t.put .PAIR_STATUS_PARTNER 6 0 (flag (t.get .PAIR_QUIET 6 0 < 3))

/-- Role changes due at boundary `b` (R370, R374, R375, R378). -/
def State.rolesAt (s : State) (b : Nat) : State :=
  if s.roleIs 2 then
    if s.on .PAIR_STATUS_TAKEPEND 6 0 ∧ s.get .PAIR_ACTSINCE 6 0 ≤ b then
      (s.becomeActive (s.get .PAIR_ACTSINCE 6 0)).fault .PAIR_TAKEOVER 6 0 Config.noInstance
    else s.when (s.on .PAIR_ACTREQ 6 0 = true) fun t => t.becomeActive b
  else if s.roleIs 1 then
    if s.on .PAIR_YIELD 6 0 ∧ s.get .PAIR_YIELDAT 6 0 ≤ b then s.becomeStandby (s.get .PAIR_YIELDAT 6 0)
    else s.when (s.on .PAIR_CFG_ISOYIELD 6 0 = true ∧ s.isolatedSince (b - s.bsize 0) = true) fun t => t.becomeStandby b
  else s

/-- An automatic trigger holds (R374). -/
def State.autoTrigger (s : State) : Bool :=
  s.on .PAIR_CFG_AUTO 6 0 && s.get .PAIR_STATUS_SYNC 6 0 == syncSynced && s.on .EPOCH_STATUS_RUN 6 0 &&
    (s.get .PAIR_PESC 6 0 == 3 || s.get .PAIR_MISSN 6 0 == 3)

/-- A STANDBY unit evaluates the triggers at boundary `b` (R374). -/
def State.triggersAt (s : State) (b : Nat) : State :=
  let hit := s.roleIs 2 && !s.on .PAIR_STATUS_TAKEPEND 6 0 && (s.autoTrigger || s.on .PAIR_TRIG 6 0)
  (s.put .PAIR_TRIG 6 0 0).when (hit = true) fun t =>
    (t.put .PAIR_STATUS_TAKEPEND 6 0 1).put .PAIR_ACTSINCE 6 0 (b + t.bsize 0)

/-- At boundary T_A SYNC becomes SYNCING (R380). -/
def State.resyncAt (s : State) (b : Nat) : State :=
  s.when (s.get .PAIR_STATUS_SNAPPEND 6 0 = 1 ∧ b = s.get .PAIR_TD 6 0) fun t =>
    ((t.put .PAIR_STATUS_SYNC 6 0 syncSyncing).put .PAIR_STATUS_SNAPPEND 6 0 0).putAll .PAIR_EQ 6 3 0

/-- What a boundary `b` of domain A does to the pair. -/
def State.pairBoundary (s : State) (b : Nat) : State :=
  ((((s.healthJudge b).quietMore).rolesAt b).triggersAt b).resyncAt b

end Sys2Proof.Machine
end

