-- ==== Sys2Proof/Machine/Mac.lean ====
section
/-! DEFINITION. The Ethernet MACs: modes, transmit queues, stamps and the host receive ring. -/

namespace Sys2Proof.Machine

/-! ### A MAC's memory (R207, R314) -/

/-- MAC DMA writes up to 16 bytes within a 16-byte word of its die. -/
def State.macWrite (s : State) (d m a len data : Nat) : State :=
  { s.fabMem (s.request d (9 + m) ((15 * 16 + d) * 2 ^ 32 + a) true len data) with answer := s.answer }

/-- MAC DMA reads up to 16 bytes within a 16-byte word. -/
def State.macRead (s : State) (d m a len : Nat) : State × Nat :=
  let t := s.fabMem (s.request d (9 + m) ((15 * 16 + d) * 2 ^ 32 + a) false len 0)
  ({ t with answer := s.answer }, t.answer.data)

/-- MAC DMA reads bytes from an aligned address, a word a beat. -/
def State.macReadBytes (s : State) (d m a : Nat) : Nat → Nat → State × List Nat
  | 0, _ => (s, [])
  | k + 1, n =>
    let q := s.macRead d m a (min n 16)
    if n ≤ 16 then (q.1, natBytes n q.2)
    else
      let r := q.1.macReadBytes d m (a + 16) k (n - 16)
      (r.1, natBytes 16 q.2 ++ r.2)

/-- MAC DMA writes bytes at an aligned address. -/
def State.macWriteBytes (s : State) (d m a : Nat) : Nat → List Nat → State
  | 0, _ => s
  | k + 1, l =>
    if l = [] then s
    else (s.macWrite d m a (min l.length 16) (bytesNat (l.take 16))).macWriteBytes d m (a + 16) k (l.drop 16)

/-! ### The lane (R301, R305, R326) -/

/-- A MAC's lane works: its clocks run, and the package is not in the wake-only state, in which MAC 0's receive lane alone has power. -/
def State.macRuns (s : State) (d : Nat) : Bool := s.serdesRuns d && !s.on .WAKE_ONLY 6 0

/-- Time on the line of a byte, in 0.01 ns (R312). -/
def byteTime : Nat → Nat
  | 3 => 80
  | 4 => 32
  | _ => 800

/-- The stamp `bytes` byte times from now on a MAC's line: the PHC of its die, `dev` − 5 ns off (R324). DESIGN CHOICE (log entry 129). -/
def State.macStamp (s : State) (d m : Nat) (bytes : Int) (dev : Nat) : Nat × Nat :=
  let t := ((s.phcNs d : Int) + bytes * byteTime (s.get .MAC_CFG_MODE d m) / 100 + (dev : Int) - 5) % ((2 ^ 48 * giga : Nat) : Int)
  (t.toNat / giga, t.toNat % giga)

/-- A frame padded with zeros to 60 bytes, and the FCS appended (R318). -/
def pad60 (l : List Nat) : List Nat := l ++ List.replicate (60 - l.length) 0
def withFcs (l : List Nat) : List Nat := l ++ natBytes 4 (crc32 l)

/-! ### Configuration (R312, R313, R323) -/

/-- Instance of a queue's cells. -/
def macQueue (m q : Nat) : Nat := m * 8 + q

/-- Descriptors of a ring (R323). -/
def ringSize (log : Nat) : Nat := 2 ^ (min log 9 + 3)

/-- The FEC a MODE allows (R312). -/
def fecOk : Nat → Nat → Bool
  | 0, _ => true
  | 1, f => f == 0
  | 2, f => f == 0
  | 3, f => f < 2
  | 4, f => f < 3
  | _, _ => false

/-- MAXLEN in effect (R334). -/
def State.maxLen (s : State) (d m : Nat) : Nat :=
  let v := s.get .MAC_CFG_MAXLEN d m
  if 64 ≤ v ∧ v ≤ 9600 then v else 9600

/-- The link of a MAC takes a level (R313). -/
def State.linkLevel (s : State) (d m up : Nat) : State :=
  if s.get .MAC_STATUS_LINK d m = up then s
  else
    let t := (s.put .MAC_STATUS_LINK d m up).put .MAC_STATUS_LINKCHG d m 1
    if up = 0 then t.condBegin .MAC_LINK_DOWN d m Config.noInstance
    else t.when (t.live d m .MAC_LINK_DOWN = true) fun u => u.condEnd .MAC_LINK_DOWN d m Config.noInstance

/-- Frames of one MAC are dropped from the buffer and the line. -/
def State.macEmpty (s : State) (d m : Nat) : State :=
  { s with macTx := s.macTx.filter fun f => !(f.die == d && f.mac == m),
           macLine := s.macLine.filter fun f => !(f.die == d && f.mac == m) }

/-- A pause ends. -/
def State.macUnpause (s : State) (d m : Nat) : State := (s.put .MAC_STATUS_PAUSED d m 0).put .MAC_PAUSET d m 0

/-- MODE becomes 0: the lane powers down, queues and buffers are empty (R312). -/
def State.macOff (s : State) (d m : Nat) : State :=
  let t := (((s.macEmpty d m).linkLevel d m 0).macUnpause d m).put .MAC_PAUSEQ d m 0
  ((t.put .MAC_STATUS_ANDONE d m 0).put .MAC_AN d m 0).each (List.range 8) fun q u =>
    u.put .TXQ_FETCH d (macQueue m q) (u.get .TXQ_CI d (macQueue m q))

/-- MAC_MODE_WRITE (R312): MAC_CFG is written. -/
def execMacModeWrite (d m cfg : Nat) (s : State) : Result :=
  let mode := bitsAt cfg 0 3
  let fec := bitsAt cfg 3 2
  let old := s.get .MAC_CFG_MODE d m
  .next <| s.when (s.dieClocked d = true) fun s =>
    if fecOk mode fec = false ∨ (old ≠ 0 ∧ mode ≠ 0 ∧ (mode ≠ old ∨ fec ≠ s.get .MAC_CFG_FEC d m)) then
      s.put .MAC_STATUS_BADCFG d m 1
    else
      let t := (((((s.put .MAC_CFG_MODE d m mode).put .MAC_CFG_FEC d m fec).put .MAC_CFG_RXPAUSE d m (bitAt cfg 5)).put
        .MAC_CFG_GUARD d m (bitAt cfg 6)).put .MAC_CFG_PROMISC d m (bitAt cfg 7)).put .MAC_CFG_MAXLEN d m (bitsAt cfg 8 14)
      if mode = 0 then t.when (old ≠ 0) fun u => u.macOff d m
      else t.when (old = 0 ∧ (mode = 1 ∨ mode = 2)) fun u => u.put .MAC_AN d m 1

/-- ANRESTART (R312): MAC_CTL.ANRESTART, in MODE 1 or 2. -/
def execAnrestart (d m : Nat) (s : State) : Result :=
  .next <| s.when (s.dieClocked d = true ∧ (s.get .MAC_CFG_MODE d m = 1 ∨ s.get .MAC_CFG_MODE d m = 2)) fun t =>
    (t.put .MAC_STATUS_ANDONE d m 0).put .MAC_AN d m 1

/-! ### Transmit (R314 to R319) -/

/-- The frame on a MAC's line. -/
def State.onLine (s : State) (d m : Nat) : Option MacFrame := s.macLine.find? fun f => f.die == d && f.mac == m

/-- The admitted frames of a MAC. -/
def State.admitted (s : State) (d m : Nat) : List MacFrame := s.macTx.filter fun f => f.die == d && f.mac == m

/-- Bytes a MAC's transmit buffer holds: frames with their padding, without the FCS (DESIGN CHOICE, log entry 127). -/
def State.txBytes (s : State) (d m : Nat) : Nat :=
  ((s.admitted d m).map fun f => f.bytes.length).sum +
    ((s.macLine.filter fun f => f.die == d && f.mac == m).map fun f => f.bytes.length - 4).sum

/-- A descriptor completes: word 4 is written, TXQ_CI advances (R318). A TSSEQ no frame was given is free (log entry 37). -/
def State.txComplete (s : State) (f : MacFrame) (status : Nat) : State :=
  if f.host = 0 then s
  else
    let x := macQueue f.mac f.queue
    let n := ringSize (s.get .TXQ_SIZE f.die x)
    let seq := if f.seq = 0 then s.free % 2 ^ 16 else f.seq - 1
    let t := s.macWrite f.die f.mac (s.get .TXQ_BASE f.die x * 32 + f.idx * 32 + 16) 4 (seq + status * 2 ^ 16)
    (t.when (f.seq = 0) fun u => u.drawn).put .TXQ_CI f.die x ((s.get .TXQ_CI f.die x + 1) % n)

/-- A frame may leave the buffer unsent: a refused descriptor, the first of its ring; or the head of its queue with the
link down (R313, R318). An earlier frame of its ring on the line completes first. -/
def State.mayDrop (s : State) (d m : Nat) (f : MacFrame) : Bool :=
  let busy := match s.onLine d m with
    | some g => g.queue == f.queue && g.host == 1
    | none => false
  let head := (s.admitted d m).find? fun g => g.queue == f.queue
  let first := (s.admitted d m).find? fun g => g.queue == f.queue && g.host == 1
  (f.host == 0 || !busy) && ((f.bad && first == some f) || (s.get .MAC_STATUS_LINK d m == 0 && head == some f))

/-- Frames that leave the buffer unsent do so. -/
def State.macSettle (s : State) (d m : Nat) : Nat → State
  | 0 => s
  | k + 1 =>
    match (s.admitted d m).find? (s.mayDrop d m) with
    | none => s
    | some f =>
      let t := { s with macTx := s.macTx.erase f }
      let u := if f.bad then t.txComplete f 4 else (t.incSat .TX_ABORT d m 1).txComplete f 2
      u.macSettle d m k

/-- Every frame that must leave does. -/
def State.macSettled (s : State) (d m : Nat) : State := s.macSettle d m (s.admitted d m).length

/-- MAC_LINK_CHANGE (R313): LINK changes; in MODE 1 and 2 a link that comes up ends negotiation. -/
def execMacLinkChange (d m up : Nat) (s : State) : Result :=
  .next <| s.when (s.get .MAC_CFG_MODE d m ≠ 0 ∧ (up = 0 ∨ s.macRuns d = true)) fun t =>
    let u := (t.linkLevel d m up).when (up = 1) fun u =>
      (u.put .MAC_STATUS_ANDONE d m (flag (u.get .MAC_CFG_MODE d m ≤ 2))).put .MAC_AN d m 0
    u.macSettled d m

/-- TXQ_PI_WRITE (R323): the producer index of a transmit ring is written. -/
def execTxqPiWrite (d m q idx : Nat) (s : State) : Result :=
  let x := macQueue m q
  .next <| s.when (s.dieClocked d = true) fun s => s.put .TXQ_PI d x (idx % ringSize (s.get .TXQ_SIZE d x))

/-- A descriptor is refused (R318): a LEN outside its range, or a bit the layout gives as 0. Bits it does not list are no fields: DEDUCED
(log entry 147). -/
def State.txDescBad (s : State) (d m : Nat) (l : List Nat) : Bool :=
  let w (i : Nat) := bytesNat (slice l (4 * i) 4)
  let len := bitsAt (w 1) 0 14
  len < 60 || s.maxLen d m < len + 4 || bitsAt (w 1) 16 16 != 0 || bitsAt (w 4) 19 13 != 0 ||
    w 5 != 0 || w 6 != 0 || w 7 != 0

/-- The frame of a host descriptor, its bytes read. -/
def State.txFrame (s : State) (d m q idx : Nat) (l : List Nat) : State × MacFrame :=
  let w (i : Nat) := bytesNat (slice l (4 * i) 4)
  let len := bitsAt (w 1) 0 14
  let bad := s.txDescBad d m l
  let r := if bad then (s, []) else s.macReadBytes d m (bitsAt (w 0) 4 20 * 16) (len / 16 + 1) len
  (r.1, ⟨d, m, q, 1, idx, r.2, bitAt (w 1) 14 == 1, 0, bitAt (w 1) 15 == 1, w 3, bitsAt (w 2) 0 30, 0, bad⟩)

/-- The next host descriptor of a queue is taken, and its frame admitted if it fits (R314, R318). -/
def State.admitHost (s : State) (d m q : Nat) : State :=
  let x := macQueue m q
  let i := s.get .TXQ_FETCH d x
  if s.get .MAC_CFG_MODE d m = 0 ∨ i = s.get .TXQ_PI d x then s
  else
    let r := s.macReadBytes d m (s.get .TXQ_BASE d x * 32 + i * 32) 2 32
    let f := r.1.txFrame d m q i r.2
    if f.1.txBytes d m + f.2.bytes.length ≤ 262144 then
      ({ f.1 with macTx := f.1.macTx ++ [f.2] }.put .TXQ_FETCH d x ((i + 1) % ringSize (s.get .TXQ_SIZE d x))).macSettled d m
    else s

/-- Global number of a stream. -/
def streamNumber (d i : Nat) : Nat := (d - 6) * 128 + i

/-- The oldest packet of a stream on offer is admitted, gated or dropped (R314, R331). -/
def State.admitStream (s : State) (d m q i : Nat) : State :=
  match s.built.find? fun p => p.die == d && p.stream == i && p.mac == m && p.queue == q with
  | none => s
  | some p =>
    let t := { s with built := s.built.erase p }
    if p.gated then t.incSat .STX_GATED d i 1
    else if t.txBytes d m + (pad60 p.bytes).length ≤ 262144 ∧ t.get .MAC_CFG_MODE d m ≠ 0 then
      { t with macTx := t.macTx ++ [MacFrame.mk d m q 0 0 (pad60 p.bytes) false 0 false 0 0 0 false] }.macSettled d m
    else (t.incSat .STX_DROP d i 1).fault .STREAM_TX_DROP d 0 (streamNumber d i)

/-- MAC_FRAME_ADMIT (R314, R331): the next frame of a host ring (`stream` 0), or the packet of stream `stream` − 1 on offer. -/
def execMacFrameAdmit (d m q stream : Nat) (s : State) : Result :=
  .next <| s.when (s.macRuns d = true) fun s => if stream = 0 then s.admitHost d m q else s.admitStream d m q (stream - 1)

/-- The head frame of a queue: refused descriptors are never sent. -/
def State.queueHead (s : State) (d m q : Nat) : Option MacFrame :=
  (s.admitted d m).find? fun f => f.queue == q && !f.bad

/-- LAUNCH_TIME_REACHED (R317, R346): the PHC of the die has reached the launch time of a queue's head frame; late if the line is busy
or paused. -/
def execLaunchTimeReached (d m q : Nat) (s : State) : Result :=
  .next <|
    match s.queueHead d m q with
    | none => s
    | some f =>
      if f.timed = true ∧ f.launch = 0 ∧ phcReached (s.phcNow d) (f.lsec, f.lns) = true then
        let late := (s.onLine d m).isSome || s.on .MAC_STATUS_PAUSED d m
        { s with macTx := s.macTx.map fun g => if g = f then { f with launch := if late then 2 else 1 } else g }
      else s

/-- The guard (R317): a frame of `len` bytes would end after the launch time of a timed frame that heads a queue, within the
next 100 µs. -/
def State.guarded (s : State) (d m len : Nat) : Bool :=
  s.on .MAC_CFG_GUARD d m && (List.range 8).any fun q =>
    match s.queueHead d m q with
    | none => false
    | some f =>
      let ahead := phcPast (f.lsec, f.lns) (s.phcNow d)
      f.timed && f.launch == 0 && 0 < ahead && ahead ≤ 100000 &&
        ahead * 100 < ((max len 60 + 24) * byteTime (s.get .MAC_CFG_MODE d m) : Nat)

/-- The frame a MAC starts next (R315): the head of the highest eligible queue. -/
def State.nextFrame (s : State) (d m : Nat) : Option MacFrame :=
  if s.on .MAC_STATUS_PAUSED d m then none
  else
    (([7, 6, 5, 4, 3, 2, 1, 0].filterMap (s.queueHead d m)).find? fun f => !f.timed || f.launch != 0)

/-- TX_STAMP (R324, R325, R504): the stamp enters the FIFO, or is dropped; on stepping A1 the count of lost stamps saturates. -/
def State.stampFrame (s : State) (f : MacFrame) (sec ns : Nat) : State :=
  if f.tsreq then
    let t := s.inc .MAC_TSEQ f.die f.mac 1
    if (t.tsf.filter fun e => e.die == f.die && e.mac == f.mac).length < 64 then
      { t with tsf := t.tsf ++ [⟨f.die, f.mac, s.get .MAC_TSEQ f.die f.mac, f.queue, sec, ns⟩] }
    else
      ((t.incSat .MAC_TSF_OVF f.die f.mac 1).put .MAC_STATUS_TSOVF f.die f.mac 1).fault .MAC_TSF_OVF f.die f.mac
        Config.noInstance
  else s

/-- MAC_TX_START (R315, R317, R318, R324): the first byte of the preamble on an idle line; `dev` − 5 is the error of the stamp in ns, taken
as the frame's first bit follows the 8 bytes of preamble. -/
def execMacTxStart (d m dev : Nat) (s : State) : Result :=
  .next <| s.when (s.macRuns d = true) fun s =>
    match s.onLine d m, s.nextFrame d m with
    | none, some f =>
      if s.guarded d m f.bytes.length then s
      else
        let g := { f with seq := if f.tsreq then s.get .MAC_TSEQ d m + 1 else 0, bytes := withFcs f.bytes }
        let x := s.macStamp d m 8 dev
        let t := { s with macTx := s.macTx.erase f, macLine := s.macLine ++ [g] }.stampFrame f x.1 x.2
        t.when (f.launch = 2) fun u => (u.incSat .TX_LAUNCH_LATE d m 1).fault .MAC_LAUNCH_LATE d m f.queue
    | _, _ => s

/-- A pause time takes effect (R316). -/
def State.macPause (s : State) (d m quanta : Nat) : State :=
  (s.put .MAC_STATUS_PAUSED d m (flag (quanta != 0))).put .MAC_PAUSET d m quanta

/-- A pause that came while a frame was sent takes effect as the frame ends (R316). -/
def State.pauseWaiting (s : State) (d m : Nat) : State :=
  let p := s.get .MAC_PAUSEQ d m
  s.when (p ≠ 0) fun u => (u.macPause d m (p - 1)).put .MAC_PAUSEQ d m 0

/-- MAC_TX_COMPLETE (R316, R318): the frame has left the line. -/
def execMacTxComplete (d m : Nat) (s : State) : Result :=
  .next <| s.when (s.macRuns d = true) fun s =>
    match s.onLine d m with
    | none => s
    | some f =>
      ((({ s with macLine := s.macLine.erase f }.inc .TX_FRAMES d m 1).txComplete f 1).pauseWaiting d m).macSettled d m

/-- PAUSE_EXPIRY (R316). -/
def execPauseExpiry (d m : Nat) (s : State) : Result := .next <| s.when (s.macRuns d = true) fun t => t.macUnpause d m

/-- MAC_RESET (R319, R214): MAC_CTL.RESET. A write burst of MAC DMA in progress at `addr`, of `len` beats (0 none) with
the beats given accepted and written, is truncated. -/
def execMacReset (d m addr len : Nat) (beats : List Nat) (s : State) : Result :=
  .next <| s.when (s.dieClocked d = true) fun s =>
    let s1 := s.truncate (s.request d (9 + m) ((15 * 16 + d) * 2 ^ 32 + addr) true 16 0) len beats
    let frames := (s1.macLine.filter fun f => f.die == d && f.mac == m) ++ s1.admitted d m
    let s2 := (frames.foldl (fun t f => (t.incSat .TX_ABORT d m 1).txComplete f 3) (s1.macEmpty d m)).pauseWaiting d m
    s2.each (List.range 8) fun q t =>
      let x := macQueue m q
      (t.put .TXQ_CI d x (t.get .TXQ_PI d x)).put .TXQ_FETCH d x (t.get .TXQ_PI d x)

/-- CLR_TSOVF (R325). -/
def execClrTsovf (d m : Nat) (s : State) : Result := .next <| s.when (s.dieClocked d = true) fun s => s.put .MAC_TSF_OVF d m 0

/-- TSF_POP (R325): a read of MAC_TSF_INFO; the cells hold what it returned. -/
def execTsfPop (d m : Nat) (s : State) : Result :=
  .next <| s.when (s.dieClocked d = true) fun s =>
    match s.tsf.find? fun e => e.die == d && e.mac == m with
    | none => ((s.put .MAC_TSF_INFO_VALID d m 0).put .MAC_TSF_INFO_SEQ d m 0).put .MAC_TSF_INFO_DEPTH d m 0
    | some e =>
      let t := { s with tsf := s.tsf.erase e }
      (((((t.put .MAC_TSF_INFO_SEQ d m e.seq).put .MAC_TSF_INFO_QUEUE d m e.queue).put .MAC_TSF_INFO_VALID d m 1).put
        .MAC_TSF_INFO_DEPTH d m (t.tsf.filter fun g => g.die == d && g.mac == m).length).put .MAC_TSF_NS d m e.ns).put
          .MAC_TSF_S d m e.sec

/-! ### Receive (R320 to R322, R326) -/

/-- The EtherType of a frame and where its contents begin, past an 802.1Q tag. -/
def etherType (l : List Nat) : Nat × Nat :=
  if netNat (slice l 12 2) = 0x8100 then (netNat (slice l 16 2), 18) else (netNat (slice l 12 2), 14)

/-- The station address as a number with byte 0 lowest (R334) accepts a destination (R321). -/
def State.macAccepts (s : State) (d m : Nat) (l : List Nat) : Bool :=
  let dst := slice l 0 6
  let h := crc32 dst / 2 ^ 26
  s.on .MAC_CFG_PROMISC d m || bytesNat dst == s.get .MAC_ADDR d m || bytesNat dst == 2 ^ 48 - 1 ||
    (dst.headD 0 % 2 == 1 && bitAt (s.get .MAC_MHASH d m) h == 1)

/-- HOST_RING_DELIVERY (R322, R323). -/
def State.hostDeliver (s : State) (d m : Nat) (l : List Nat) (sec ns : Nat) : State :=
  let n := ringSize (s.get .RXR_SIZE d m)
  let i := s.get .RXR_PI d m
  if (i + 1) % n = s.get .RXR_CI d m then s.incSat .RX_NOBUF d m 1
  else
    let a := s.get .RXR_BASE d m * 32 + i * 32
    let cut := min l.length (s.get .RXR_BUFLEN d m)
    let vlan := flag (netNat (slice l 12 2) == 0x8100)
    let r := s.macRead d m a 4
    let t := r.1.macWriteBytes d m (bitsAt r.2 4 20 * 16) (cut / 16 + 1) (l.take cut)
    let w1 := cut + vlan * 2 ^ 14 + flag (cut < l.length) * 2 ^ 15
    (t.macWrite d m (a + 4) 12 (w1 + ns * 2 ^ 32 + sec % 2 ^ 32 * 2 ^ 64)).put .RXR_PI d m ((i + 1) % n)

/-- A PAUSE frame is one for this MAC: to 01-80-C2-00-00-01 or to the station address. PRESUMED, from IEEE 802.3 Annex 31B (log entry
126). -/
def State.pauseForMe (s : State) (d m : Nat) (l : List Nat) : Bool :=
  l.take 6 == [0x01, 0x80, 0xC2, 0x00, 0x00, 0x01] || bytesNat (slice l 0 6) == s.get .MAC_ADDR d m

/-- PAUSE_FRAME (R316): a MAC control frame, tagged or not, is consumed. -/
def State.macControl (s : State) (d m : Nat) (l : List Nat) : State :=
  let o := (etherType l).2
  if netNat (slice l o 2) = 1 then
    let t := s.incSat .RX_PAUSE d m 1
    let q := netNat (slice l (o + 2) 2)
    if t.on .MAC_CFG_RXPAUSE d m && t.pauseForMe d m l then
      if (t.onLine d m).isSome then t.put .MAC_PAUSEQ d m (q + 1) else t.macPause d m q
    else t
  else s.incSat .RX_CTRL d m 1

/-- The magic packet stands at some place of a byte list (R326). -/
def magicAt (addr : List Nat) : List Nat → Bool
  | [] => false
  | b :: t =>
    ((b :: t).take 102 == List.replicate 6 0xFF ++ (List.replicate 16 addr).flatten) || magicAt addr t

/-- Pattern `p` matches a frame (R326). -/
def State.patternHit (s : State) (d p : Nat) (l : List Nat) : Bool :=
  (List.range 128).all fun i =>
    bitAt (s.get .WAKE_MASK d (p * 4 + i / 32)) (i % 32) == 0 ||
      (i < l.length && l.getD i 0 == bitsAt (s.get .WAKE_PAT d (p * 32 + i / 4)) (8 * (i % 4)) 8)

/-- WAKE_MATCH (R326): the wake detector of die 6's MAC 0. -/
def State.wakeMatch (s : State) (l : List Nat) : State :=
  let hits := (List.range 8).filter fun p => bitAt (s.get .MAC_WAKE_CFG_PEN 6 0) p == 1 && s.patternHit 6 p l
  let magic := s.on .MAC_WAKE_CFG_MAGIC 6 0 && magicAt (natBytes 6 (s.get .MAC_ADDR 6 0)) (l.drop 14)
  let t := s.put .MAC_WAKE_STAT_PHIT 6 0 (hits.foldl setBit (s.get .MAC_WAKE_STAT_PHIT 6 0))
  let u := t.when (magic = true) fun u => u.put .MAC_WAKE_STAT_MHIT 6 0 1
  u.when (hits ≠ [] ∨ magic = true) fun v => v.put .WAKE_N_PIN 6 0 1

end Sys2Proof.Machine
end

