-- ==== Sys2Proof/Machine/Streams.lean ====
section
/-! DEFINITION. The stream packetizer: audio blocks to RTP packets and back. -/

namespace Sys2Proof.Machine

/-! ### Enable and stop (R328, R335) -/

/-- Bytes a sample takes in a payload (R328). -/
def encBytes : Nat → Nat
  | 0 => 2
  | 1 => 3
  | _ => 4

/-- Width of a sample (R330). -/
def encWidth (enc : Nat) : Nat := if enc = 0 then 16 else 24

/-- The checks of R328 common to both directions. -/
def streamFormatBad (D enc ptime ch : Nat) : Bool := D == 3 || enc == 3 || ptime == 0 || 1440 < ch * ptime * encBytes enc

/-- A write of STX_CFG with EN = 1 is refused (R328). -/
def State.stxRefused (s : State) (d i D m : Nat) : Bool :=
  streamFormatBad D (s.get .STX_FMT_ENC d i) (s.get .STX_FMT_PTIME d i) (s.stxChans d i) ||
    s.get .MAC_CFG_MODE d m == 0 || 983040 < s.stxLoad d + s.streamLoad (s.stxChans d i) D

/-- A write of SRX_CFG with EN = 1 is refused (R328, R335). -/
def State.srxRefused (s : State) (d i D mask : Nat) : Bool :=
  let j := s.get .SRX_JBUF_JLOG d i
  streamFormatBad D (s.get .SRX_FMT_ENC d i) (s.get .SRX_FMT_PTIME d i) (s.srxChans d i) || j < 6 || 13 < j ||
    ((List.range 4).any fun m => bitAt mask m == 1 && s.get .MAC_CFG_MODE d m == 0) ||
      983040 < s.srxLoad d + s.streamLoad (s.srxChans d i) D

/-- The run of a transmit stream. -/
def State.stxRun (s : State) (d i : Nat) : Option StxRun := s.stx.find? fun r => r.die == d && r.stream == i

/-- The run is replaced. -/
def State.stxPut (s : State) (r : StxRun) : State :=
  { s with stx := s.stx.map fun q => if q.die == r.die && q.stream == r.stream then r else q }

/-- The run is dropped. -/
def State.stxDrop (s : State) (d i : Nat) : State := { s with stx := s.stx.filter fun r => !(r.die == d && r.stream == i) }

/-- STREAM_TX_ENABLE (R328): STX_CFG is written with EN = 1, this domain, MAC and queue. -/
def execStreamTxEnable (d i D m q : Nat) (s : State) : Result :=
  .next <| s.when (s.dieClocked d = true) fun s =>
    if s.on .STX_CFG_EN d i then s
    else if s.stxRefused d i D m then
      (s.put .STX_STAT_BADCFG d i 1).fault .STREAM_BADCFG d 0 (streamNumber d i)
    else
      let t := (((s.put .STX_CFG_EN d i 1).put .STX_CFG_DOMAIN d i D).put .STX_CFG_MAC d i m).put .STX_CFG_QUEUE d i q
      let u := t.stxDrop d i
      ((({ u with stx := u.stx ++ [StxRun.mk d i [] (List.replicate (u.stxChans d i) 0) 0 0 0 []] }.put .STX_STAT_RUN d i
        1).put .STX_STOPPING d i 0).put .PKT_TXLOAD d 0 (t.stxLoad d))

/-- The valid bits of a receive stream's jitter buffer clear. -/
def State.srxForget (s : State) (d i : Nat) : State :=
  { s with cells := s.cells.filter fun c => !(c.1.fld == .SRX_VALID && c.1.die == d && c.1.inst / 8192 == i) }

/-- STREAM_RX_ENABLE (R328): SRX_CFG is written with EN = 1, this domain, MACMASK and SRCCHK. The valid bits of an earlier
run are gone. DEDUCED (log entry 38). -/
def execStreamRxEnable (d i D mask srcchk : Nat) (s : State) : Result :=
  .next <| s.when (s.dieClocked d = true) fun s =>
    if s.on .SRX_CFG_EN d i then s
    else if s.srxRefused d i D mask then
      (s.put .SRX_STAT_BADCFG d i 1).fault .STREAM_BADCFG d 0 (0x100 + streamNumber d i)
    else
      let t := (((s.put .SRX_CFG_EN d i 1).put .SRX_CFG_DOMAIN d i D).put .SRX_CFG_MACMASK d i mask).put .SRX_CFG_SRCCHK d i srcchk
      let u := ((((t.srxForget d i).put .SRX_STAT_RUN d i 1).put .SRX_STAT_RCVD d i 0).put .SRX_SEQV d i 0).put .SRX_BN0 d i 0
      u.put .PKT_RXLOAD d 0 (t.srxLoad d)

/-- STREAM_DISABLE (R335): EN of a transmit (`rx` 0) or receive stream is written 0. -/
def execStreamDisable (d rx i : Nat) (s : State) : Result :=
  .next <| s.when (s.dieClocked d = true) fun s =>
    if rx = 0 then
      s.when (s.on .STX_CFG_EN d i = true) fun t =>
        let u := (t.put .STX_CFG_EN d i 0).put .STX_STOPPING d i 1
        u.put .PKT_TXLOAD d 0 (u.stxLoad d)
    else
      let u := s.put .SRX_CFG_EN d i 0
      u.put .PKT_RXLOAD d 0 (u.srxLoad d)

/-- STREAM_STOP (R335): the packet in progress of a disabled stream is finished. -/
def execStreamStop (d rx i : Nat) (s : State) : Result :=
  .next <|
    if rx = 0 then
      let idle := match s.stxRun d i with
        | none => true
        | some r => r.words == []
      s.when (s.on .STX_STOPPING d i = true ∧ idle = true) fun t =>
        ((t.stxDrop d i).put .STX_STAT_RUN d i 0).put .STX_STOPPING d i 0
    else s.when (s.on .SRX_CFG_EN d i = false) fun t => t.put .SRX_STAT_RUN d i 0

/-! ### Transmit (R329 to R331) -/

/-- The buffer of an epoch ring: ring base, channels, block index, block size (R329). -/
def streamBuffer (base ch B j : Nat) : Nat := base * 0x400 + j % 4 * (ch * (32 + 4 * B))

/-- An AM824 word of ST 2110-31: block start, first subframe of a pair, parity, channel status, then the 24-bit sample.
PRESUMED from that standard (log entry 39). -/
def am824 (c n status q : Nat) : Nat :=
  let c1 := bitAt status (n % 192)
  let par := ((List.range 24).map (bitAt q)).sum % 2
  flag (n % 192 == 0) * 2 ^ 29 + flag (c % 2 == 0) * 2 ^ 28 + (par + c1) % 2 * 2 ^ 27 + c1 * 2 ^ 26 + q % 2 ^ 24

/-- The stream engine reads `n` bytes in words of 16. -/
def State.engineBytes (s : State) (d a : Nat) : Nat → Nat → State × List Nat
  | 0, _ => (s, [])
  | k + 1, n =>
    let q := s.engineRead d a (min n 16)
    if n ≤ 16 then (q.1, natBytes n q.2)
    else
      let r := q.1.engineBytes d (a + 16) k (n - 16)
      (r.1, natBytes 16 q.2 ++ r.2)

/-- The ones' complement sum of 16-bit words in network order. -/
def onesSum : List Nat → Nat
  | a :: b :: t => a * 256 + b + onesSum t
  | _ => 0

/-- The IPv4 header checksum of 20 bytes whose checksum field is 0. -/
def ipChecksum (l : List Nat) : Nat :=
  let v := onesSum l
  let f := v % 65536 + v / 65536
  65535 - (f % 65536 + f / 65536)

/-- The packet: the template with its fields overwritten, then the payload (R331). `n` is the packet's first sample. -/
def State.stxPacket (s : State) (d i n : Nat) (template payload : List Nat) : List Nat :=
  let o := 14 + 4 * s.get .STX_HDR_VLAN d i
  let seq := (s.get .STX_SEQOFS d i + n / s.get .STX_FMT_PTIME d i) % 2 ^ 16
  let t1 := patch (patch (patch template (o + 2) (netBytes 2 (40 + payload.length))) (o + 4) (netBytes 2 seq)) (o + 10) [0, 0]
  let t2 := patch t1 (o + 10) (netBytes 2 (ipChecksum (slice t1 o 20)))
  let t3 := patch (patch t2 (o + 24) (netBytes 2 (20 + payload.length))) (o + 26) [0, 0]
  let t4 := patch t3 (o + 29) [(slice t3 (o + 29) 1).headD 0 % 128]
  patch (patch t4 (o + 30) (netBytes 2 seq)) (o + 32) (netBytes 4 ((n + s.get .STX_TSOFS d i) % 2 ^ 32)) ++ payload

/-- The bytes of a payload: words frame by frame, channels ascending. `stat` holds the channel-status blocks. -/
def payloadBytes (enc ch n : Nat) (stat : List Nat) (words : List Nat) : List Nat :=
  ((words.zip (List.range words.length)).map fun (q : Nat × Nat) =>
    if enc = 2 then
      netBytes 4 (am824 (q.2 % ch) (n + q.2 / ch) (bytesNat (slice stat (q.2 % ch * 24) 24)) q.1)
    else netBytes (encBytes enc) q.1).flatten

/-- A packet whose first sample is `n` is gated (R331, R370, R374, R375): domain A by the boundary at which the unit took or
gave up its role, another domain by the role in force. -/
def State.txGated (s : State) (D n : Nat) : Bool :=
  match s.get .PAIR_STATUS_ROLE 6 0 with
  | 0 => false
  | 1 => D == 0 && n < s.get .PAIR_ACTSINCE 6 0
  | _ => D != 0 || s.get .PAIR_YIELDB 6 0 ≤ n + 1

/-- The packet in progress is complete: it is built and offered to its MAC (R330, R331). -/
def State.stxBuild (s : State) (d i n : Nat) (words : List Nat) : State :=
  let enc := s.get .STX_FMT_ENC d i
  let ch := s.stxChans d i
  let a := s.get .STX_HDR_BASE d i * 0x40
  let r := s.engineBytes d a 4 (54 + 4 * s.get .STX_HDR_VLAN d i)
  let q := if enc = 2 then r.1.engineBytes d (a + 0x40) 100 (ch * 24) else (r.1, [])
  let p := q.1.stxPacket d i n r.2 (payloadBytes enc ch n q.2 words)
  let t := q.1.inc .STX_PKTS d i 1
  { t with built := t.built ++ [StxPacket.mk d i (t.get .STX_CFG_MAC d i) (t.get .STX_CFG_QUEUE d i) p (t.txGated (t.get .STX_CFG_DOMAIN d i) n)] }

/-- The samples of every channel for sample `n`, by the decision of its slot (R329, R330). -/
def State.stxTake (s : State) (r : StxRun) (D n dec : Nat) : State × List Nat :=
  let B := s.bsize D
  let ch := s.stxChans r.die r.stream
  let base := streamBuffer (s.get .STX_BUF r.die r.stream) ch B (n / B + 2)
  if dec = 2 then (s, r.lasts)
  else if dec = 0 then (s, List.replicate ch 0)
  else (List.range ch).foldl (fun (acc : State × List Nat) c =>
    let q := acc.1.engineRead r.die (base + c * (32 + 4 * B) + 32 + 4 * (n % B)) 4
    (q.1, acc.2 ++ [q.2])) (s, [])

/-- The headers of a block's channels (R240, R329): a missed transmit block holds B repeats. -/
def State.streamHeaders (s : State) (d base ch B stamp n0 flags nrep : Nat) : State :=
  s.each (List.range ch) fun c t => t.engineWrite d (base + c * (32 + 4 * B)) 32 (headerWord stamp n0 flags c ch 0 nrep)

/-- The packet part of a sample: the words join the packet, which is built when it is whole. -/
def State.stxJoin (s : State) (r : StxRun) (n : Nat) (samples : List Nat) : State :=
  let d := r.die
  let i := r.stream
  let p := s.get .STX_FMT_PTIME d i
  if r.words = [] ∧ (s.on .STX_STOPPING d i = true ∨ n % p ≠ 0) then s.stxPut r
  else
    let words := r.words ++ samples.map fun x => txConvert (encWidth (s.get .STX_FMT_ENC d i)) x 0
    if words.length < s.stxChans d i * p then s.stxPut { r with words := words }
    else (s.stxPut { r with words := [] }).stxBuild d i (n + 1 - p) words

/-- A transmit stream takes sample `n` (R329, R330). -/
def State.stxSample (s : State) (r : StxRun) (D n : Nat) : State :=
  let d := r.die
  let i := r.stream
  let B := s.bsize D
  let n0 := n - n % B
  let dec := s.slotDecision D n0
  let fresh := r.bn0 ≠ n0 + 1
  let s1 := s.when (fresh ∧ dec = 2) fun t => t.incSat .STX_LATE d i 1
  let r1 := if fresh then { r with bn0 := n0 + 1, bflags := if dec = 2 then fUndr else 0, bstamp := s.capture d } else r
  let q := s1.stxTake r1 D n dec
  let crcs := digestStep 1 (streamNumber d i) (n == n0) r1.crcs q.2
  let s2 := (q.1.stxJoin { r1 with lasts := q.2, crcs := crcs } n q.2).when (n % B = B - 1) fun t => t.digestAdd D crcs
  s2.when (n % B = B - 1 ∧ dec ≠ 0) fun t =>
    t.streamHeaders d (streamBuffer (t.get .STX_BUF d i) (t.stxChans d i) B (n / B + 2)) (t.stxChans d i) B r1.bstamp n0 r1.bflags
      (if dec = 2 then B else 0)

/-! ### Receive (R332, R333) -/

/-- The IPv4 packet of a frame, if it holds one with UDP and without options. -/
def ipOf (l : List Nat) : Option (List Nat) :=
  let e := etherType l
  let ip := l.drop e.2
  if e.1 = 0x0800 ∧ ip.headD 0 = 0x45 ∧ ip.getD 9 0 = 17 ∧ 28 ≤ ip.length then some ip else none

/-- A frame of a MAC matches a receive stream (R332). -/
def State.srxMatches (s : State) (d m i : Nat) (ip : List Nat) : Bool :=
  s.on .SRX_CFG_EN d i && bitAt (s.get .SRX_CFG_MACMASK d i) m == 1 &&
    netNat (slice ip 16 4) == s.get .SRX_MATCH_IP d i && netNat (slice ip 22 2) == s.get .SRX_MATCH_PORT d i &&
      (!s.on .SRX_CFG_SRCCHK d i || netNat (slice ip 12 4) == s.get .SRX_MATCH_SRC d i)

/-- A matched frame is discarded for its header (R332). -/
def State.srxBad (s : State) (d i : Nat) (ip : List Nat) : Bool :=
  let want := s.srxChans d i * s.get .SRX_FMT_PTIME d i * encBytes (s.get .SRX_FMT_ENC d i)
  let sum := onesSum (slice ip 0 20)
  let fold := sum % 65536 + sum / 65536
  fold % 65536 + fold / 65536 != 65535 || netNat (slice ip 6 2) % 2 ^ 14 != 0 || ip.getD 28 0 / 64 != 2 ||
    ip.getD 29 0 % 128 != s.get .SRX_FMT_PT d i || netNat (slice ip 24 2) != 20 + want || ip.length < 40 + want

/-- The 64-bit sample number with these low 32 bits nearest to `c0` (R333). -/
def nearestSample (c0 v : Nat) : Nat :=
  let x := (c0 : Int) + signed 32 (unsigned 32 ((v : Int) - (c0 : Int)))
  if x < 0 then (x + 2 ^ 32).toNat else x.toNat

/-- A sample's bytes as fp32 (R236, R333). -/
def streamValue (enc : Nat) (b : List Nat) : Nat := rxConvert (encWidth enc) (netNat b % 2 ^ encWidth enc)

/-- The samples of one position are written to the jitter buffer. -/
def State.srxStore (s : State) (d i n : Nat) (frame : List Nat) : State :=
  let j := 2 ^ s.get .SRX_JBUF_JLOG d i
  let ch := s.srxChans d i
  let enc := s.get .SRX_FMT_ENC d i
  let t := s.each (List.range ch) fun c t =>
    t.engineWrite d (s.get .SRX_JBUF_BASE d i * 0x400 + (c * j + n % j) * 4) 4
      (streamValue enc (slice frame (c * encBytes enc) (encBytes enc)))
  t.put .SRX_VALID d (i * 8192 + n % j) 1

/-- JITTER_PLACEMENT (R333): what became of a packet's samples: late, early, written. -/
def State.srxPlace (s : State) (d i n0 : Nat) (payload : List Nat) : State :=
  let c0 := s.domcnt (s.get .SRX_CFG_DOMAIN d i)
  let j := 2 ^ s.get .SRX_JBUF_JLOG d i
  let p := s.get .SRX_FMT_PTIME d i
  let size := s.srxChans d i * encBytes (s.get .SRX_FMT_ENC d i)
  let late := n0 < c0
  let early := c0 + j < n0 + p
  let put := (List.range p).filter fun k =>
    c0 ≤ n0 + k && n0 + k < c0 + j && !s.on .SRX_VALID d (i * 8192 + (n0 + k) % j)
  let s1 := s.each put fun k t => t.srxStore d i (n0 + k) (slice payload (k * size) size)
  let s2 := s1.when (put ≠ []) fun t => (t.inc .SRX_PKTS d i 1).put .SRX_STAT_RCVD d i 1
  let s3 := s2.when early fun t => t.incSat .SRX_EARLY d i 1
  s3.when late fun t => (t.incSat .SRX_LATE d i 1).fault .STREAM_RX_LATE d 0 (streamNumber d i)

/-- A receive stream takes a matched frame (R332, R333). -/
def State.srxTake (s : State) (d i : Nat) (ip : List Nat) : State :=
  if s.srxBad d i ip then s.incSat .SRX_BADHDR d i 1
  else
    let seq := netNat (slice ip 30 2)
    let last := s.get .SRX_SEQ d i
    let t := (s.when (s.on .SRX_SEQV d i = true ∧ seq ≠ last ∧ seq ≠ (last + 1) % 2 ^ 16) fun t =>
      t.incSat .SRX_SEQGAP d i 1)
    let u := (t.put .SRX_SEQ d i seq).put .SRX_SEQV d i 1
    let v := (netNat (slice ip 32 4) + u.get .SRX_OFS d i) % 2 ^ 32
    u.srxPlace d i (nearestSample (u.domcnt (u.get .SRX_CFG_DOMAIN d i)) v) (ip.drop 40)

/-- STREAM_MATCH (R332): the stream that takes a frame, the lowest number first. -/
def State.streamFor (s : State) (d m : Nat) (l : List Nat) : Option (Nat × List Nat) :=
  if s.on .PKT_CFG_EN d 0 then
    match ipOf l with
    | none => none
    | some ip => ((List.range 128).find? fun i => s.srxMatches d m i ip).map fun i => (i, ip)
  else none

/-- A receive stream opens a block (R241, R329); enabled during it, it writes +0 for the earlier samples, with FILL. -/
def State.srxOpen (s : State) (d i base n0 n : Nat) : State :=
  let B := s.bsize (s.get .SRX_CFG_DOMAIN d i)
  let t := (((s.put .SRX_BN0 d i (n0 + 1)).put .SRX_BFLAGS d i (if n = n0 then 0 else fFill)).put .SRX_BSTAMP d i
    (if n = n0 then s.capture d else 0)).put .SRX_MISSD d i 0
  t.when (n ≠ n0) fun t => t.each (List.range (t.srxChans d i)) fun c u =>
    u.engineWrite d (base + c * (32 + 4 * B) + 32) (4 * (n - n0)) 0

/-- A receive stream takes sample `n` into its epoch ring (R329, R333). -/
def State.srxSample (s : State) (d i D n : Nat) : State :=
  let B := s.bsize D
  let n0 := n - n % B
  let ch := s.srxChans d i
  let j := 2 ^ s.get .SRX_JBUF_JLOG d i
  let base := streamBuffer (s.get .SRX_BUF d i) ch B (n / B + 1)
  let s1 := s.when (s.get .SRX_BN0 d i ≠ n0 + 1) fun t => t.srxOpen d i base n0 n
  let x := i * 8192 + n % j
  let s2 :=
    if s1.on .SRX_VALID d x then
      (s1.each (List.range ch) fun c t =>
        let q := t.engineRead d (t.get .SRX_JBUF_BASE d i * 0x400 + (c * j + n % j) * 4) 4
        q.1.engineWrite d (base + c * (32 + 4 * B) + 32 + 4 * (n % B)) 4 q.2).put .SRX_VALID d x 0
    else
      let z := s1.each (List.range ch) fun c t => t.engineWrite d (base + c * (32 + 4 * B) + 32 + 4 * (n % B)) 4 0
      if z.on .SRX_STAT_RCVD d i then
        let u := (z.incSat .SRX_MISS d i 1).put .SRX_BFLAGS d i (z.get .SRX_BFLAGS d i ||| fLost)
        u.when (u.on .SRX_MISSD d i = false) fun v =>
          (v.put .SRX_MISSD d i 1).fault .STREAM_RX_MISS d 0 (streamNumber d i)
      else z.put .SRX_BFLAGS d i (z.get .SRX_BFLAGS d i ||| fFill)
  s2.when (n % B = B - 1) fun t => t.streamHeaders d base ch B (t.get .SRX_BSTAMP d i) n0 (t.get .SRX_BFLAGS d i) 0

/-- Every stream takes its part in sample `n` of domain `D`. -/
def State.streamSample (s : State) (D n : Nat) : State :=
  let s1 := s.each (s.stx.filter fun r => s.on .PKT_CFG_EN r.die 0 && s.dieClocked r.die && s.get .STX_CFG_DOMAIN r.die r.stream == D) fun r t =>
    t.stxSample r D n
  let rx := (s1.cells.filter fun c => c.1.fld == .SRX_STAT_RUN && c.2 == 1 && s1.on .PKT_CFG_EN c.1.die 0 &&
    s1.dieClocked c.1.die && s1.get .SRX_CFG_DOMAIN c.1.die c.1.inst == D).map fun c => (c.1.die, c.1.inst)
  s1.each rx fun q t => t.srxSample q.1 q.2 D n

/-! ### A received frame (R320, R321, R326) -/

/-- A frame that passed its checks (R321): one that no stream takes and no address accepts is counted nowhere; RX_FRAMES counts the
others. DEDUCED (log entry 49). -/
def State.macDeliver (s : State) (d m : Nat) (l : List Nat) (sec ns : Nat) : State :=
  let t := s.inc .RX_FRAMES d m 1
  if (etherType l).1 = 0x8808 then t.macControl d m l
  else
    match s.streamFor d m l with
    | some q => t.srxTake d q.1 q.2
    | none => if s.macAccepts d m l then t.hostDeliver d m l sec ns else s

/-- MAC_RX_FRAME (R320, R324): the last byte of a frame with its FCS has come; `err` says that it had an alignment or line error, `full`
that the receive buffer was full at its start; `dev` − 5 is the error of its stamp in ns (log entry 129). In the wake-only state the wake
detector alone sees it (R326). -/
def execMacRxFrame (d m : Nat) (frame : List Nat) (err full dev : Nat) (s : State) : Result :=
  let n := frame.length
  let body := frame.take (n - 4)
  let good := bytesNat (frame.drop (n - 4)) == crc32 body
  .next <|
    if s.on .WAKE_ONLY 6 0 then
      s.when (d = 6 ∧ m = 0 ∧ s.get .AON_LANE 6 0 = 1 ∧ 4 ≤ n ∧ good = true) fun t => t.wakeMatch body
    else if s.get .MAC_CFG_MODE d m = 0 ∨ s.serdesRuns d = false then s
    else if n < 64 then s.incSat .RX_RUNT d m 1
    else if s.maxLen d m < n then s.incSat .RX_OVSZ d m 1
    else if err = 1 then s.incSat .RX_ALIGN d m 1
    else if good = false then s.incSat .RX_FCS d m 1
    else if full = 1 then (s.incSat .RX_OVF d m 1).fault .MAC_RX_OVF d m Config.noInstance
    else
      let x := s.macStamp d m (-(n : Int)) dev
      s.macDeliver d m body x.1 x.2

end Sys2Proof.Machine
end

