-- ==== Sys2Proof/Machine/Media.lean ====
section
/-! DEFINITION. Media time and the epoch controller at work (R39 to R61): the edges of the media clocks, boundaries, epoch
starts, drains, commits and snapshots, with all that happens at them. -/

namespace Sys2Proof.Machine

/-! ### The edges of a media clock (R248, R261, R270, R330, R333, R349, R367) -/

/-- The decision for the slot that starts at boundary `n` (R50): missed unless its epoch was drained before the crossing. -/
def State.judgeSlot (s : State) (D n : Nat) : State :=
  let B := s.bsize D
  let j := n - 2 * B
  s.when (2 * B ≤ n ∧ s.get .EP_ASGN 6 (s.slotOf D j) = j + 1 ∧ s.get .EP_RDY 6 (s.slotOf D j) ≠ j + 1) fun t =>
    t.put .TX_MISS 6 D (j + 1)

/-- Ports, bridges and streams take sample `n` of a domain (R248, R270, R330, R333). -/
def State.domSample (s : State) (D n : Nat) (meas : List BridgeRatio) : State := ((s.sapSample D n).brSample D n meas).streamSample D n

/-- DOMCNT of a domain becomes `n` on both iguana dies (R39): ports, bridges and streams take sample `n` − 1; at a multiple of B the
slot that starts is decided, the digest of the slot before closes and the PHC is captured; starts of CSF that wait are looked at
(R433), and the moment of a resync (R380). At an alignment, too, the sample before the new count is taken: DESIGN CHOICE (log entry 106). -/
def State.mediaEdge (s : State) (D n : Nat) (meas : List BridgeRatio) : State :=
  let s1 := (((s.put .TB_DOMCNT 6 D n).put .TB_DOMCNT 7 D n).put .DOM_EDGET 6 D (s.capture 6)).domSample D (n - 1) meas
  let s2 := s1.when (n % s.bsize D = 0) fun t => ((t.judgeSlot D n).digestClose D n).mapCapture D n
  (s2.when (D = 0) fun t => t.resyncMoment n).startsGo

/-- An alignment waits that the domain may still take (R367). -/
def State.mayAlign (s : State) (D : Nat) : Bool :=
  s.on .RING_ALIGN 6 D && s.get .EPOCH_CFG_EN 6 D == 0 && s.ringWide D && s.get .RING_STATUS_HEAD 6 0 == 0

/-- The next edge of a media clock: one sample on, or the alignment that waits (R261, R367). -/
def State.mediaTick (s : State) (D : Nat) (meas : List BridgeRatio) : State :=
  if s.mayAlign D then
    let q := s.alignCount D
    let t := ((s.put .RING_ALIGN 6 D 0).put .DOM_STATUS_AHEAD 6 D (flag (q.2 < q.1))).put .RING_AHEAD 6 D (flag (q.2 < q.1))
    t.mediaEdge D (max q.1 q.2) meas
  else s.mediaEdge D (s.domcnt D + 1) meas

/-- DOMCNT_INCREMENT (R261, R262): the domain's media clock is locked; `meas` lists the ratios that TRACK bridges
have measured anew. -/
def execDomcntIncrement (D : Nat) (meas : List BridgeRatio) (s : State) : Result :=
  .next <| s.when (s.get .DOM_STATUS_MLOCK 6 D = 1) fun t => t.mediaTick D meas

/-- DOMCNT_ALIGN (R367): the edge at which an alignment lands. -/
def execDomcntAlign (D : Nat) (meas : List BridgeRatio) (s : State) : Result :=
  .next <| s.when (s.get .DOM_STATUS_MLOCK 6 D = 1 ∧ s.mayAlign D = true) fun t => t.mediaTick D meas

/-! ### Snapshots and drains (R47, R51, R61) -/

/-- The values of a meter's accumulators now, a word each, read with the checks of R187. -/
def State.meterRead (s : State) (m : MeterDef) : State × List Nat :=
  let q := s.sramEngineRead m.die 1 8 m.addr (4 * m.count)
  (q.1, (List.range m.count).map fun i => bytesNat (slice q.2 (4 * i) 4))

/-- A meter's values go into the snapshot. -/
def State.meterCopy (s : State) (m : MeterDef) : State :=
  let q := s.meterRead m
  { q.1 with snaps := (q.1.snaps.filter fun x => m.index != x.1) ++ [(m.index, q.2)] }

/-- A domain-D snapshot takes effect at the drain of the epoch just drained (R61): every die copies its accumulators. -/
def State.takeSnapshot (s : State) (D : Nat) : State :=
  let b := s.get .EPOCH_CUR 6 D
  let t := (((s.put .EPOCH_SNAP_SRC 6 D b).put .EPOCH_CSTAT_SNAP_PEND 6 D 0).put .EPOCH_CSTAT_SNAP_DONE 6 D 1).each allDies
    fun d t => t.put .SNAPBUF d D b
  t.each (((s.image.map fun g => g.meters).getD []).filter fun m => m.dom == D) fun m u => u.meterCopy m

/-- The snapshot of a domain is due at this drain: T − B or later (R61). -/
def State.snapDue (s : State) (D : Nat) : Bool :=
  s.on .EPOCH_CSTAT_SNAP_PEND 6 D && s.get .SNAP_T 6 D ≤ s.get .EPOCH_CUR 6 D + s.bsize D

/-- The epoch in EPOCH_CUR is drained (R47, R51): the drain time, the transmit slot, the snapshot, the pending stop. -/
def State.drainEpoch (s : State) (D : Nat) : State :=
  let x := min (s.capture 6 - s.get .EP_T0 6 D) 0xFFFFFFFF
  let b := s.get .EPOCH_CUR 6 D
  let s1 := (((s.put .EPOCH_STATUS_DRAINED 6 D 1).put .EPOCH_DRAIN_LAST 6 D x).raiseTo .EPOCH_DRAIN_MAX 6 D x).put .EP_RDY 6
    (s.slotOf D b) (b + 1)
  let s2 := s1.when (s1.snapDue D = true) fun t => t.takeSnapshot D
  s2.when (s2.get .EPOCH_CFG_EN 6 D = 0) fun t => t.haltEpochs D

/-! ### Boundaries (R45, R49 to R52, R151, R172) -/

/-- Boundary `m` passes while epoch `c` is undrained. -/
def State.lateAt (s : State) (D c m : Nat) : State :=
  let B := s.bsize D
  let t := s.each allDies fun d t => t.send (.lateMarker d D)
  if m = c + B then (t.put .EPOCH_STATUS_LATE 6 D 1).inc .EPOCH_LATE_CNT 6 D 1
  else if m = c + 2 * B then t.each allDies fun d u => u.send (.releaseOrder d D c)
  else t.when (m = c + 3 * B) fun u => (u.put .EPOCH_STATUS_OVERRUN 6 D 1).fault .EPOCH_OVERRUN 6 0 D

/-- EPOCH_BOUNDARY (R41): DOMCNT of the domain on die 6 has reached a multiple of B, which is judged once. The decision of
R50 has fallen at the edge itself. While a stop is pending and the last epoch is late, the slots that begin count as assigned, so they are
repeated and not zeros: DESIGN CHOICE (log entry 132). -/
def execEpochBoundary (D : Nat) (s : State) : Result :=
  let m := s.domcnt D
  .next <| s.when (m % s.bsize D = 0 ∧ m ≠ s.get .EP_PASSED 6 D) fun s =>
    let s1 := (s.put .EP_PASSED 6 D m).put .EP_PASST 6 D (s.capture 6)
    let s2 := s1.when (s1.get .EPOCH_STATUS_RUN 6 D = 1) fun t => t.put .EP_ASGN 6 (t.slotOf D m) (m + 1)
    let s3 := s2.when (s2.get .EPOCH_STATUS_RUN 6 D = 1 ∨ s2.get .EPOCH_CFG_EN 6 D = 1) fun t => t.put .EP_OWED 6 D 1
    let s4 := s3.when (s3.get .EPOCH_STATUS_RUN 6 D = 1 ∧ s3.get .EP_CURV 6 D = 1 ∧ s3.get .EPOCH_STATUS_DRAINED 6 D = 0) fun t =>
      t.lateAt D (t.get .EPOCH_CUR 6 D) m
    (s4.when (D = 0) fun t => t.pairBoundary m).resyncBoundary D m

/-! ### Epoch starts (R43, R45, R49, R54, R140, R308) -/

/-- EPOCH_DISPATCH (R49): the epoch of the latest passed boundary starts; those passed over are skipped. RUN rises with the first
epoch, until when BSIZE may be written: DESIGN CHOICE (log entry 107). -/
def execEpochDispatch (D : Nat) (s : State) : Result :=
  .next <| s.when (s.mayDispatch D = true ∧ s.resyncHolds D = false) fun s =>
    let b := s.get .EP_PASSED 6 D
    let n := s.skippedBy D b
    let s1 := (s.countSkips D n).resyncSkip D b n
    let s2 := ((((s1.put .EPOCH_CUR 6 D b).put .EPOCH_STATUS_DRAINED 6 D 0).put .EPOCH_STATUS_DIE_DRAINED 6 D 0).put
      .EPOCH_STATUS_LATE 6 D 0).put .EP_T0 6 D (s1.get .EP_PASST 6 D)
    let s3 := (((s2.put .EP_OWED 6 D 0).put .EP_CURV 6 D 1).put .EP_ASGN 6 (s2.slotOf D b) (b + 1)).setRun D 1
    s3.broadcastStart D b (s3.commitDue D b)

/-- The ARMED transaction of a domain is COMMITTED at boundary `b` (R420). -/
def State.txCommitted (s : State) (D b : Nat) : State :=
  { s with txs := (s.txs.filter fun x => !(x.dom == D && x.state == 3)) ++
      (s.txs.filter fun x => x.dom == D && x.state == 3).map fun x => { x with state := 4, bnd := b + 1 } }

/-- The commit due at the epoch start of boundary `b` takes effect on a die (R54); die 6 holds its status. -/
def State.commitApply (s : State) (d D b : Nat) : State :=
  (s.inc .TB_GEN d D 1).when (d = 6) fun t =>
    ((t.put .EPOCH_CSTAT_COMMIT_PEND 6 D 0).put .EPOCH_CSTAT_COMMIT_DONE 6 D 1).txCommitted D b

/-- EPOCH_START_RECEIPT (R43). -/
def execEpochStartReceipt (d D b : Nat) (commit : Bool) (s : State) : Result :=
  .next <| s.receive (fun m => m == .epochStart d D b commit) fun _ s0 =>
  let s1 := (s0.when (d < 6) fun t => t.put .TB_DOMCNT d D b).put .TB_STATUS_SYNC d 0 1
  let s2 := (s1.put .TB_GEN d D (s1.genAt d D b)).when (commit = true) fun t => t.commitApply d D b
  let s3 := (s2.put .EP_SEEN d D (b + 1)).put .DRAIN_SENT d D 0
  let s4 := s3.when (d < 6) fun t =>
    (t.each [0, 1, 2, 3] fun c u => u.tongueEpochStart d c D).chorusEpochStart d D b
  s4.when (d = 6 ∧ D = 0) fun t => t.healthSend b

/-! ### Drains (R46, R47, R149, R150) -/

/-- The chorus has done its part of an epoch (R46, condition 3). -/
def State.chorusDrained (s : State) (d D : Nat) : Bool :=
  (s.busesOf d D).all fun b =>
    (!s.isHome d b || s.get .BUS_WRITTEN d b == s.get .EP_SEEN d D) && (!s.on .BUS_CFG_TX d b || s.on .BUS_RELD d b)

/-- No post or transfer of the domain issued on the die is on its way, to this package or another unit, and the acceptance of every
post is back (R46, condition 4; R150, R225). A partial counts at its hand-off (condition 3, R173), not again as a transfer: DEDUCED
(log entry 133). -/
def State.deliveredAll (s : State) (d D : Nat) : Bool :=
  (s.sent.all fun m =>
    match m with
    | .post src _ _ _ _ _ dom also => !(src == d && (dom == D || bitAt also D == 1))
    | _ => true) &&
  ((List.range 8).all fun e => s.get .DMA_PHASE d e == 0 || (bitAt (s.get .DMA_DOM d e) D == 0 && bitAt (s.get .DMA_DOM d e) 3 == 0)) &&
  (s.kicks.all fun k => !(k.die == d && k.dom == D)) && (s.remote.all fun r => !(r.die == d && r.dom == D)) &&
  s.get .POST_ACC d D ≤ s.capture d

/-- A die is drained of the domain (R46). -/
def State.dieDrained (s : State) (d D : Nat) : Bool :=
  (6 ≤ d || ([0, 1, 2, 3].all fun c => s.idleIn d c D) && s.chorusDrained d D) && s.deliveredAll d D

/-- DIE_DRAIN_REPORT (R46, R47). -/
def execDieDrainReport (d D : Nat) (s : State) : Result :=
  .next <| s.when (s.get .EP_SEEN d D ≠ 0 ∧ s.get .DRAIN_SENT d D = 0 ∧ s.dieClocked d = true ∧ s.dieDrained d D = true) fun t =>
    (t.put .DRAIN_SENT d D 1).send (.drainReport d D (t.get .EP_SEEN d D - 1) false 8)

/-- A snapshot has been taken at the drain: CSF delivers METER_READY (R431). -/
def State.meterReady (s : State) (D : Nat) : State := s.csfEvent 0x4601 0 (D :: natBytes 8 (s.get .EPOCH_SNAP_SRC 6 D))

/-- A message is a drain report, or a withdrawal, of these fields. -/
def Msg.isReport (m : Msg) (d D b : Nat) (withdrawn : Bool) : Bool :=
  match m with
  | .drainReport d' D' b' w _ => d' == d && D' == D && b' == b && w == withdrawn
  | _ => false

/-- DRAIN_REPORT_RECEIPT (R47, R150): with reports from all eight dies the epoch is drained. -/
def execDrainReportReceipt (d D b : Nat) (withdrawn : Bool) (s : State) : Result :=
  .next <| s.receive (fun m => Msg.isReport m d D b withdrawn) fun _ s0 => s0.when (s0.get .EP_CURV 6 D = 1 ∧ s0.get .EPOCH_CUR 6 D = b ∧ s0.get .EPOCH_STATUS_DRAINED 6 D = 0) fun t =>
    let v := setBits (t.get .EPOCH_STATUS_DIE_DRAINED 6 D) d 1 (flag (!withdrawn))
    let u := t.put .EPOCH_STATUS_DIE_DRAINED 6 D v
    u.when (v = 255) fun x => ((x.drainEpoch D).pairDrained D).when (x.snapDue D = true) fun y => y.meterReady D

/-! ### Commits and snapshots (R54 to R56, R61, R245, R368) -/

/-- COMMIT_ARM (R55): sections latch their masks, and a ring-wide commit is broadcast. -/
def execCommitArm (D : Nat) (s : State) : Result :=
  let T := s.get .EPOCH_COMMIT_AT 6 D
  .next <| s.when (s.dieClocked 6 = true) fun s =>
    if s.commitRefused D T then s.refuseCommit D T else ((s.commitPend D T 1).latchMasks D T).commitFrame D 0 0 T

/-- COMMIT_CANCEL (R56); with nothing pending it does nothing. -/
def execCommitCancel (D : Nat) (s : State) : Result :=
  let T := s.get .COMMIT_T 6 D
  .next <| s.when (s.dieClocked 6 = true ∧ s.get .EPOCH_CSTAT_COMMIT_PEND 6 D = 1) fun s =>
    if s.cancelInTime D T then ((s.put .EPOCH_CSTAT_COMMIT_PEND 6 D 0).unlatchMasks D T).commitFrame D 1 0 T
    else s.put .EPOCH_CSTAT_REFUSED 6 D 1

/-- SNAP_ARM (R61). -/
def execSnapArm (D : Nat) (s : State) : Result :=
  let T := s.get .EPOCH_SNAP_AT 6 D
  .next <| s.when (s.dieClocked 6 = true) fun s => if s.snapRefused D T then s.refuseSnap D else (s.snapPend D T).commitFrame D 0 1 T

/-- SNAP_CANCEL (R56, R64). -/
def execSnapCancel (D : Nat) (s : State) : Result :=
  let T := s.get .SNAP_T 6 D
  .next <| s.when (s.dieClocked 6 = true ∧ s.get .EPOCH_CSTAT_SNAP_PEND 6 D = 1) fun s =>
    if s.cancelInTime D T then (s.put .EPOCH_CSTAT_SNAP_PEND 6 D 0).commitFrame D 1 1 T
    else s.put .EPOCH_CSTAT_REFUSED 6 D 1

end Sys2Proof.Machine
end

