-- ==== Sys2Proof/Machine/NewtDecode.lean ====
section
/-! DEFINITION. Newt instruction words (R102 to R130): the fields of the formats, the opcodes, what must be 0. A word that names no
instruction decodes to none; the values of fields that an instruction forbids are left to its legality rules (R131). -/

namespace Sys2Proof.Machine

/-- The two-source lane operations by OP (R111). -/
def laneOps : List LaneOp := [.fma, .mul, .add, .sub, .min, .max]

/-- The functions of the SALU group by FN (R123). -/
def saluFns : List SaluFn := [.add, .sub, .and, .or, .xor, .shl, .shr, .sra, .mul, .min, .max, .slt, .sltu]

/-- An instruction, where the fields it does not use are 0. -/
def whereZero {α : Type} (unused : List Nat) (i : α) : Option α := if unused.all (fun x => x == 0) then some i else none

/-- The M class (R106, R111 to R120). -/
def decodeM (w : Nat) : Option MIns :=
  let D := bitsAt w 19 5
  let A := bitsAt w 14 5
  let B := bitsAt w 9 5
  let P := bitsAt w 7 2
  let BS := bitAt w 6
  let bs := BS == 1
  let X := bitsAt w 0 6
  match bitsAt w 24 5 with
  | 0 => whereZero [D / 8, X % 16] (.vmac D A B P bs (X / 32 == 1) (X / 16 % 2 == 1))
  | 7 => whereZero [B, BS, X] (.unary .abs D A P)
  | 8 => whereZero [B, BS, X] (.unary .neg D A P)
  | 9 => whereZero [D / 4, X % 8] (.vcmp D A B P bs (X / 8))
  | 10 => whereZero [BS, X] (.vsel D A B P)
  | 11 => whereZero [A / 8, B, BS, X % 32] (.vrnd D A P (X / 32 == 1))
  | 12 => whereZero [BS, X] (.vglide D A B P)
  | 13 => whereZero [B, BS, X] (.unary .rcps D A P)
  | 14 => whereZero [BS, X] (.divi D A B P)
  | 15 => whereZero [A, BS, X] (.divs D B P)
  | 16 => whereZero [BS, X] (.divf D A B P)
  | 17 => whereZero [B, BS] (.vcvt D A P (X / 32 == 1) (X % 32))
  | op =>
    if op = 0 ∨ 6 < op then none
    else
      match laneOps[op - 1]? with
      | none => none
      | some f => whereZero [X] (.lane f D A B P bs)

/-- The L class (R107, R121). -/
def decodeL (w : Nat) : Option LIns :=
  let R := bitsAt w 19 5
  let AR := bitsAt w 15 4
  let P := bitsAt w 13 2
  let SM := bitsAt w 11 2
  let SMI := bitsAt w 9 2
  let UM := bitsAt w 7 2
  let U := bitsAt w 0 7
  match bitsAt w 24 5 with
  | 0 => some (.vld R AR P SM SMI UM U)
  | 1 => some (.vst R AR P SM SMI UM U)
  | 2 => whereZero [R / 16, P, SM, SMI] (.lds R AR UM U)
  | 3 => whereZero [R / 16, P, SM, SMI] (.sts R AR UM U)
  | 4 => whereZero [R, P, SM, SMI] (.adda AR UM U)
  | _ => none

/-- The C class (R108, R123, R124, R126, R127, R129, R130). -/
def decodeC (w : Nat) : Option CIns :=
  let D := bitsAt w 20 4
  let A := bitsAt w 16 4
  let B := bitsAt w 12 4
  let imm := bitsAt w 0 16
  let tgt := bitsAt w 0 13
  let all := bitsAt w 0 24
  match bitsAt w 24 5 with
  | 0 => whereZero [all] .nop
  | 1 =>
    match saluFns[bitsAt w 0 4]? with
    | none => none
    | some f => whereZero [bitsAt w 4 8] (.salu f D A B)
  | 2 => some (.saddi D A imm)
  | 3 => whereZero [A] (.ldil D imm)
  | 4 => whereZero [A] (.ldih D imm)
  | 5 => whereZero [bitsAt w 0 10] (.movr (bitsAt w 21 3) (bitsAt w 17 4) (bitsAt w 14 3) (bitsAt w 10 4))
  | 6 => whereZero [bitsAt w 0 12] (.vext (bitsAt w 19 5) (bitsAt w 15 4) (bitsAt w 12 3))
  | 7 => whereZero [bitsAt w 0 12] (.vins (bitsAt w 19 5) (bitsAt w 15 4) (bitsAt w 12 3))
  | 8 => whereZero [bitsAt w 13 11] (.br tgt)
  | 9 => whereZero [bitsAt w 13 4] (.brc (bitsAt w 17 3) D tgt)
  | 10 => whereZero [bitsAt w 13 11] (.call tgt)
  | 11 => whereZero [all] .ret
  | 12 => whereZero [bitsAt w 20 3] (.rept (bitAt w 23 == 1) A imm)
  | 13 => some (.loopTop (bitAt w 23 == 1) (bitsAt w 13 10) tgt)
  | 14 => whereZero [all] .endl
  | 15 => whereZero [D, bitsAt w 0 12] (.sig A B)
  | 16 => whereZero [all] .done
  | 17 => whereZero [all] .halt
  | _ => none

/-- A word by its CLASS (R105). -/
def decodeNewt (w : Nat) : Option NewtOp :=
  match bitsAt w 29 2 with
  | 0 => (decodeM w).map .m
  | 1 => (decodeL w).map .l
  | 2 => (decodeC w).map .c
  | _ => none

/-- The PMEM word at a word index as fetched: with a single-bit error corrected (R71). -/
def State.pmemWord (s : State) (d n i : Nat) : Nat :=
  let a := newtLocal n (0x20000 + i / 2 * 8)
  bitsAt (decodeCheck (s.load d a 8) (s.errMask d a)).data (i % 2 * 32) 32

/-- An access that meets nothing. -/
def AccessMeets.free : AccessMeets := ⟨0, 0, [], 0⟩

/-- An instruction joins a bundle: classes in the order M, L, C, one of each at most (R102). -/
def Bundle.join (b : Bundle) : NewtOp → Option Bundle
  | .m i => if b.m = none ∧ b.l = none ∧ b.c = none then some { b with m := some i } else none
  | .l i => if b.l = none ∧ b.c = none then some { b with l := some i } else none
  | .c i => if b.c = none then some { b with c := some i } else none

/-- The bundle whose next word lies at word index `i`, with at most `fuel` words to come; none where the words form no bundle. -/
def State.bundleFrom (s : State) (d n i : Nat) (b : Bundle) : Nat → Option Bundle
  | 0 => none
  | fuel + 1 =>
    if 8192 ≤ i then none
    else
      let w := s.pmemWord d n i
      match (decodeNewt w).bind fun op => Bundle.join b op with
      | none => none
      | some b1 => if bitAt w 31 = 1 then some b1 else s.bundleFrom d n (i + 1) b1 fuel

/-- The bundle at a word index (R102, R103). -/
def State.bundleAt (s : State) (d n i : Nat) : Option Bundle := s.bundleFrom d n i ⟨d, n, none, none, none, AccessMeets.free⟩ 3

/-- The word at a word index is this instruction, with this E. -/
def State.holds (s : State) (d n i : Nat) (e : Bool) (op : NewtOp) : Bool :=
  let w := s.pmemWord d n i
  bitAt w 31 == flag e && decodeNewt w == some op

end Sys2Proof.Machine
end

