-- ==== Sys2Proof/Machine/Scoreboard.lean ====
section
/-! DEFINITION. The scoreboard of a newt (R74 to R76, R109, R110, R125): what a bundle reads and writes, the latencies, the cycle in
which it may issue. The cycles are the newt's own, counted from its bundles alone: DESIGN CHOICE (log entry 110). -/

namespace Sys2Proof.Machine

/-! ### Registers written and read -/

/-- Registers an M instruction writes, as (file, index): 0 v, 1 acc, 2 p, 3 s, 4 a, 5 b, 6 l, 7 m. -/
def MIns.dests : MIns → List (Nat × Nat)
  | .vmac x _ _ _ _ _ _ => [(1, x)]
  | .lane _ x _ _ _ _ | .unary _ x _ _ | .vsel x _ _ _ | .divf x _ _ _ | .vcvt x _ _ _ _ => [(0, x)]
  | .vcmp x _ _ _ _ _ => [(2, x)]
  | .vrnd x a _ c => (0, x) :: if c then [(1, a)] else []
  | .vglide x _ b _ => [(0, x), (0, b)]
  | .divi x _ _ _ | .divs x _ _ => [(0, x), (0, x + 1)]

/-- Registers an L instruction writes. -/
def LIns.dests : LIns → List (Nat × Nat)
  | .vld r ar _ _ _ um _ => (0, r) :: if um = 0 then [] else [(4, ar)]
  | .lds r ar um _ => (3, r) :: if um = 0 then [] else [(4, ar)]
  | .vst _ ar _ _ _ um _ | .sts _ ar um _ | .adda ar um _ => if um = 0 then [] else [(4, ar)]

/-- The file of a MOVR destination. -/
def movrFile (df : Nat) : Nat := if df = 0 then 3 else if df = 5 then 2 else df + 3

/-- Registers a C instruction writes. -/
def CIns.dests : CIns → List (Nat × Nat)
  | .salu _ x _ _ | .saddi x _ _ | .ldil x _ | .ldih x _ | .vext _ x _ => [(3, x)]
  | .movr df di _ _ => if 6 ≤ df then [] else [(movrFile df, di)]
  | .vins v _ _ => [(0, v)]
  | .call _ => [(3, 12)]
  | .nop | .br _ | .brc _ _ _ | .ret | .rept _ _ _ | .loopTop _ _ _ | .endl | .sig _ _ | .done | .halt => []

/-- Registers the bundle writes. -/
def Bundle.dests (b : Bundle) : List (Nat × Nat) :=
  (b.m.map MIns.dests).getD [] ++ (b.l.map LIns.dests).getD [] ++ (b.c.map CIns.dests).getD []

/-- Words of a bundle. -/
def Bundle.words (b : Bundle) : Nat := flag b.m.isSome + flag b.l.isSome + flag b.c.isSome

/-- Source B as a register. -/
def srcReg (b : Nat) (bs : Bool) : Nat × Nat := if bs then (3, b) else (0, b)

/-- Registers an M instruction reads, but the accumulator a VMAC adds to. -/
def MIns.reads : MIns → List (Nat × Nat)
  | .vmac _ a b p bs _ _ => [(0, a), srcReg b bs, (2, p)]
  | .lane .fma x a b p bs => [(0, x), (0, a), srcReg b bs, (2, p)]
  | .lane _ _ a b p bs => [(0, a), srcReg b bs, (2, p)]
  | .unary _ _ a p | .vcvt _ a p _ _ => [(0, a), (2, p)]
  | .vcmp _ a b p bs _ => [(0, a), srcReg b bs, (2, p)]
  | .vsel _ a b p | .divi _ a b p => [(0, a), (0, b), (2, p)]
  | .vrnd _ a p _ => [(1, a), (2, p)]
  | .vglide x a b p => [(0, x), (0, x + 1), (0, a), (0, b), (2, p)]
  | .divs x b p => [(0, x), (0, x + 1), (0, b), (2, p)]
  | .divf x a b p => [(0, x), (0, x + 1), (0, a), (0, b), (2, p)]

/-- The accumulator a VMAC adds to: another VMAC may follow it in the next cycle (R75). -/
def MIns.sums : MIns → List Nat
  | .vmac x _ _ _ _ false _ => [x]
  | _ => []

/-- Registers an address takes part in. -/
def addrRegs (ar um u : Nat) : List (Nat × Nat) := [(4, ar), (5, ar), (6, ar)] ++ if um = 1 then [(7, u % 4)] else []

/-- Registers an L instruction reads. -/
def LIns.reads : LIns → List (Nat × Nat)
  | .vld _ ar p sm smi um u => addrRegs ar um u ++ (2, p) :: if sm = 1 then [(7, smi)] else []
  | .vst r ar p sm smi um u => addrRegs ar um u ++ (0, r) :: (2, p) :: if sm = 1 then [(7, smi)] else []
  | .lds _ ar um u | .adda ar um u => addrRegs ar um u
  | .sts r ar um u => addrRegs ar um u ++ [(3, r)]

/-- The register a MOVR file code and index name; the sticky flags count as file 8. -/
def movrReg (f i : Nat) : Nat × Nat := if 6 ≤ f then (8, 0) else (movrFile f, i)

/-- Registers a C instruction reads; a MOVR of FPFLAGS either way waits for the flags (R125). -/
def CIns.reads : CIns → List (Nat × Nat)
  | .salu _ _ a b | .sig a b => [(3, a), (3, b)]
  | .saddi _ a _ | .ldih a _ | .vins _ a _ => [(3, a)]
  | .movr df _ sf si => movrReg sf si :: if 6 ≤ df then [(8, 0)] else []
  | .vext v _ _ => [(0, v)]
  | .brc cond a _ => [if cond < 6 then (3, a) else (2, a % 4)]
  | .ret => [(3, 12)]
  | .rept rs a _ => if rs then [(3, a)] else []
  | .loopTop byReg n _ => if byReg then [(3, n)] else []
  | .nop | .ldil _ _ | .br _ | .call _ | .endl | .done | .halt => []

/-! ### Latencies (R75, R109) -/

/-- Cycles from the issue of an M instruction to a bundle that uses its result. -/
def MIns.latency : MIns → Nat
  | .vmac _ _ _ _ _ _ _ | .vrnd _ _ _ _ | .divf _ _ _ _ | .vcvt _ _ _ _ _ | .unary .rcps _ _ _ => 4
  | .lane .min _ _ _ _ _ | .lane .max _ _ _ _ _ => 2
  | .lane _ _ _ _ _ _ => 4
  | .unary _ _ _ _ | .vcmp _ _ _ _ _ _ | .vsel _ _ _ _ | .vglide _ _ _ _ | .divi _ _ _ _ => 2
  | .divs _ _ _ => 1

/-- The latency of a C instruction. -/
def CIns.latency : CIns → Nat
  | .vins _ _ _ => 2
  | _ => 1

/-- A VMAC. -/
def MIns.isMac : MIns → Bool
  | .vmac _ _ _ _ _ _ _ => true
  | _ => false

/-- The registers of a bundle with the latency of each; `load` is that of its load. -/
def Bundle.results (b : Bundle) (load : Nat) : List ((Nat × Nat) × Nat) :=
  let m := (b.m.map fun i => ((MIns.dests i).map fun r => (r, MIns.latency i)) ++ [((8, 0), MIns.latency i)]).getD []
  let l := (b.l.map fun i => (LIns.dests i).map fun r => (r, if r.1 = 4 then 1 else load)).getD []
  let c := (b.c.map fun i => (CIns.dests i).map fun r => (r, CIns.latency i)).getD []
  (m ++ l ++ c).filter fun q => q.1 != (2, 0)

/-- Registers a bundle reads. -/
def Bundle.reads (b : Bundle) : List (Nat × Nat) :=
  (b.m.map MIns.reads).getD [] ++ (b.l.map LIns.reads).getD [] ++ (b.c.map CIns.reads).getD []

/-! ### The board -/

/-- A register's number on the board. -/
def boardKey (r : Nat × Nat) : Nat := r.1 * 32 + r.2

/-- The scoreboard of a newt; a new one at the start of a task. -/
def State.boardOf (s : State) (d n : Nat) : Board := (s.boards.find? fun b => b.die == d && b.newt == n).getD ⟨d, n, 0, []⟩

/-- The newt's scoreboard is replaced. -/
def State.setBoard (s : State) (b : Board) : State :=
  { s with boards := (s.boards.filter fun c => !(c.die == b.die && c.newt == b.newt)) ++ [b] }

/-- The cycles from which a register may be read, and by a VMAC into the same accumulator. -/
def Board.ready (b : Board) (r : Nat × Nat) : Nat × Nat := ((b.regs.find? fun q => q.1 == boardKey r).map fun q => q.2).getD (0, 0)

/-- The first cycle in which the dependencies let a bundle issue (R76): a read waits for the result; a write only until its result
would come after the earlier one. -/
def Board.need (b : Board) (x : Bundle) (load : Nat) : Nat :=
  let reads := (Bundle.reads x).map fun r => (b.ready r).1
  let sums := ((x.m.map MIns.sums).getD []).map fun r => (b.ready (1, r)).2
  let writes := (Bundle.results x load).map fun q => if q.1.1 = 8 then 0 else (b.ready q.1).1 + 1 - q.2
  (reads ++ sums ++ writes).foldl max b.cyc

/-- The board after a bundle has issued in cycle `t` and held the slots `hold` cycles (R75, R76). -/
def Board.issued (b : Board) (x : Bundle) (load t hold : Nat) : Board :=
  let new := (Bundle.results x load).map fun q =>
    (boardKey q.1, max (b.ready q.1).1 (t + q.2), if q.1.1 = 1 ∧ x.m.any MIns.isMac = true then t + 1 else t + q.2)
  let old := b.regs.filter fun q => new.all fun p => p.1 != q.1
  { b with cyc := t + hold, regs := (new ++ old).filter fun q => t + hold < q.2.1 }

/-- Cycles pass in which the newt issues nothing. -/
def State.boardWait (s : State) (d n k : Nat) : State :=
  let b := s.boardOf d n
  s.setBoard { b with cyc := b.cyc + k }

end Sys2Proof.Machine
end

