-- ==== Sys2Proof/Machine/Newt.lean ====
section
/-! DEFINITION. The life of a newt outside its instructions (R89 to R101, R469): halting, faulting, the completion report,
the NEWT_CTL writes, reset, the fetch. -/

namespace Sys2Proof.Machine

/-! ### States -/

/-- The newt is in a state. -/
def State.newtIs (s : State) (d n st : Nat) : Bool := s.get .NEWT_STATUS_STATE d n == st

/-- A newt changes state; CFGLOCK is 1 in every state except PARKED. -/
def State.newtGo (s : State) (d n st : Nat) : State :=
  (s.put .NEWT_STATUS_STATE d n st).put .NEWT_STATUS_CFGLOCK d n (flag (st != newtParked))

/-- The task slot of the task in service: the INSTANCE of a newt fault. -/
def State.newtSlot (s : State) (d n : Nat) : Nat := s.get .NEWT_TASK_SLOT d n

/-- The newt's debug halt is enabled. -/
def State.dbgEn (s : State) (d n : Nat) : Bool := s.on .NEWT_CFG_DBGEN d n

/-- The reports a REPT deferred become visible, each with the stamp of its detection (R88). -/
def State.newtFlush (s : State) (d n : Nat) : State :=
  let mine := s.deferred.filter fun q => q.die == d && q.newt == n
  ({ s with deferred := s.deferred.filter fun q => !(q.die == d && q.newt == n) }).each mine fun q t =>
    t.raisesAt q.stamp d n (q.codes.filterMap fun (c : Nat × Nat) => (faultOf 1 c.1).map fun f => Raise.mk f c.2)

/-- The repeat ends. -/
def State.reptEnd (s : State) (d n : Nat) : State :=
  ((s.put .NEWT_REPT d n 0).put .NEWT_STATUS_INREPT d n 0).newtFlush d n

/-- The bundle being decoded is dropped. -/
def State.dropBundle (s : State) (d n : Nat) : State :=
  { s with bundles := s.bundles.filter fun b => !(b.die == d && b.newt == n) }

/-- The bundle being decoded. -/
def State.bundleOf (s : State) (d n : Nat) : Option Bundle := s.bundles.find? fun b => b.die == d && b.newt == n

/-- The newt halts before its next bundle (R93); a STEP not yet taken is over (R94). -/
def State.newtHalts (s : State) (d n : Nat) : State :=
  (((((s.newtGo d n newtHalted).put .NEWT_STATUS_HALT_PEND d n 0).put .NEWT_PC d n (s.get .NEWT_NEXT d n)).put .NEWT_STEP d n
    0).put .NEWT_HALTT d n (s.cycles d)).dropBundle d n

/-- The newt enters FAULTED before its next bundle issues (R71, R132), with the other raises of that cycle (R441). -/
def State.newtFaults (s : State) (f : FaultName) (others : List Raise) (d n : Nat) : State :=
  ((((s.dropBundle d n).reptEnd d n).newtGo d n newtFaulted).put .NEWT_PC d n (s.get .NEWT_NEXT d n)).signal d n others
    [⟨f, s.newtSlot d n⟩]

/-- The newt leaves FAULTED: its condition faults cease. -/
def State.newtFaultEnds (s : State) (d n : Nat) : State :=
  (s.condEnd .NEWT_PMEM_UE d n (s.newtSlot d n)).condEnd .NEWT_ILLEGAL d n (s.newtSlot d n)

/-- An enabled breakpoint matches the next bundle (R93). -/
def State.bkptHit (s : State) (d n : Nat) : Bool :=
  [0, 1].any fun i => s.on .NEWT_BKPT_EN d (n * 2 + i) && s.get .NEWT_BKPT_ADDR d (n * 2 + i) == s.get .NEWT_NEXT d n

/-! ### The end of a task -/

/-- The task's slot leaves service (R134, R137): to its queue, to WAIT, or DISABLED. -/
def State.slotLeaves (s : State) (d c k : Nat) : State :=
  if s.get .SLOT_CTRL_EN d (slotIx c k) = 0 then s.slotMove d c k slotDisabled
  else if s.slotReady d (slotIx c k) then s.enqueue d c k 0
  else s.slotMove d c k slotWait

/-- The task leaves service and its flow ceases to be busy (R91, R148). -/
def State.taskEnds (s : State) (d n : Nat) : State :=
  (s.giveFlow d (n / 8) (s.get .NEWT_TASK_FLOW d n)).slotLeaves d (n / 8) (s.newtSlot d n)

/-- The newt has a task in service. -/
def State.inService (s : State) (d n : Nat) : Bool := !(s.newtIs d n newtIdle || s.newtIs d n newtParked)

/-- COMPLETION_REPORT (R91, R92). -/
def execCompletionReport (d n : Nat) (s : State) : Result :=
  .next <| s.when (s.newtIs d n newtDraining = true ∧ s.dieClocked d = true) fun s =>
    ((s.inc .NEWT_TASKS d n 1).newtGo d n (if s.on .NEWT_STATUS_PARK_PEND d n then newtParked else newtIdle)
      |>.put .NEWT_STATUS_PARK_PEND d n 0).taskEnds d n

/-- The newt leaves HALTED or FAULTED: NEWT_PC shows the last bundle issued again (R98). -/
def State.newtLeaves (s : State) (d n st : Nat) : State := (s.newtGo d n st).put .NEWT_PC d n (s.get .NEWT_LAST d n)

/-- The newt enters DRAINING (R91, R94). -/
def State.newtDrains (s : State) (d n : Nat) : State :=
  ((s.newtGo d n newtDraining).put .NEWT_DONET d n (s.capture d)).put .NEWT_STEP d n 0

/-- The newt runs on from HALTED, in which what it had issued went on (R93): its next bundle issues 3 cycles later, past a breakpoint
(R94). -/
def State.newtGoesOn (s : State) (d n : Nat) : State :=
  ((s.newtLeaves d n newtRun).put .NEWT_SKIPBP d n 1).boardWait d n (s.cycles d - s.get .NEWT_HALTT d n + 3)

/-! ### NEWT_CTL (R92 to R95, R101) -/

/-- PARK_REQ (R92, R513). -/
def execParkReq (d n : Nat) (s : State) : Result :=
  .next <| s.when (s.dieClocked d = true) fun s =>
    if s.newtIs d n newtIdle then (s.newtGo d n newtParked).newtLeavesIdle d n
    else s.when (s.newtIs d n newtParked = false) fun t => t.put .NEWT_STATUS_PARK_PEND d n 1

/-- UNPARK (R92). -/
def execUnpark (d n : Nat) (s : State) : Result :=
  .next <| s.when (s.dieClocked d = true ∧ s.newtIs d n newtParked = true) fun t => t.newtGo d n newtIdle

/-- HALT_REQ (R93, R95): at once between two bundles of a task, otherwise pending. -/
def execHaltReq (d n : Nat) (s : State) : Result :=
  .next <| s.when (s.dieClocked d = true) fun s =>
    if s.dbgEn d n = false ∨ s.newtIs d n newtHalted ∨ s.newtIs d n newtFaulted then s
    else if s.newtIs d n newtRun ∧ s.on .NEWT_STATUS_INREPT d n = false ∧ s.bundleOf d n = none then s.newtHalts d n
    else s.put .NEWT_STATUS_HALT_PEND d n 1

/-- RESUME (R94). -/
def execResume (d n : Nat) (s : State) : Result :=
  .next <| s.when (s.dieClocked d = true ∧ s.newtIs d n newtHalted = true) fun t => (t.newtGoesOn d n).put .NEWT_STEP d n 0

/-- STEP (R94, R95). -/
def execStep (d n : Nat) (s : State) : Result :=
  .next <| s.when (s.dieClocked d = true ∧ s.newtIs d n newtHalted = true ∧ s.dbgEn d n = true) fun t =>
    (t.newtGoesOn d n).put .NEWT_STEP d n 1

/-- ABORT (R94). -/
def execAbort (d n : Nat) (s : State) : Result :=
  .next <| s.when (s.dieClocked d = true ∧ (s.newtIs d n newtHalted = true ∨ s.newtIs d n newtFaulted = true)) fun t =>
    (((t.newtFaultEnds d n).newtLeaves d n newtDraining).newtDrains d n).put .NEWT_STATUS_ABORTED d n 1

/-- NEWT_CLR_CNT (R98, R101). -/
def execNewtClrCnt (d n : Nat) (s : State) : Result :=
  .next <| s.when (s.dieClocked d = true) fun s =>
    ((((((s.put .NEWT_BUSY d n 0).put .NEWT_TASKS d n 0).put .NEWT_STALL_SB d n 0).put .NEWT_STALL_MEM d n 0).put
    .NEWT_STALL_FAB d n 0).put .NEWT_STALL_DONE d n 0).put .NEWT_CLRT d n (s.capture d + 1)

/-! ### Newt reset (R469) -/

/-- The NEWT_ register cells of a newt, and the machine's own cells beside them. -/
def isNewtCell (n : Nat) (l : Loc) : Bool :=
  match l.fld with
  | .NEWT_BKPT_EN | .NEWT_BKPT_ADDR => l.inst / 2 == n
  | .NEWT_CFG_LOOPSEL | .NEWT_CFG_DBGEN | .NEWT_STATUS_STATE | .NEWT_STATUS_CFGLOCK | .NEWT_STATUS_INREPT
  | .NEWT_STATUS_HALT_PEND | .NEWT_STATUS_PARK_PEND | .NEWT_STATUS_ABORTED | .NEWT_STATUS_MISALIGN
  | .NEWT_STATUS_HALT_IGN | .NEWT_STATUS_LOOPDEPTH | .NEWT_TASK_SLOT | .NEWT_TASK_DOMAIN | .NEWT_TASK_COPY
  | .NEWT_TASK_NEWT | .NEWT_TASK_FLOW | .NEWT_TASK_PRIO | .NEWT_PC | .NEWT_FPFLAGS_V | .NEWT_FPFLAGS_O
  | .NEWT_FPFLAGS_U | .NEWT_BUSY | .NEWT_TASKS | .NEWT_STALL_SB | .NEWT_STALL_MEM | .NEWT_STALL_FAB
  | .NEWT_STALL_DONE | .NEWT_ECC_CE_CNT | .NEWT_ECC_DMEM_UE | .NEWT_ECC_PMEM_UE | .NEWT_BADADDR | .NEWT_NEXT
  | .NEWT_REPT | .NEWT_STEP | .NEWT_SKIPBP | .NEWT_DONET | .NEWT_LAST | .NEWT_CLRT | .NEWT_HALTT => l.inst == n
  | _ => false

/-- Every NEWT_ register of a newt takes its reset value. -/
def State.resetNewtCells (s : State) (d n : Nat) : State :=
  { s with cells := s.cells.filter fun c => !(c.1.die == d && isNewtCell n c.1) }

/-- The reset of a newt (R469, R513). -/
def State.newtReset (s : State) (d n : Nat) : State :=
  let s1 := ((s.dropBundle d n).newtFlush d n).newtFaultEnds d n
  let s2 := s1.when (s1.inService d n = true) fun t => t.taskEnds d n
  ((s2.resetNewtCells d n).clearRegs d n).newtLeavesIdle d n

/-- NEWT_RESET (R469): a write of the gill. -/
def execNewtReset (d n : Nat) (s : State) : Result := .next <| s.when (s.gillFree = true ∧ s.dieClocked d = true) fun t => t.newtReset d n

/-! ### Fetch, breakpoints, illegal encodings -/

/-- Words of the bundle at a PMEM word index, by the E bits as fetched: at most 3 (R102). -/
def State.bundleLen (s : State) (d n pc : Nat) : Nat :=
  let e := fun i => bitAt (s.pmemWord d n (pc + i)) 31
  if e 0 = 1 then 1 else if e 1 = 1 then 2 else 3

/-- INSTRUCTION_FETCH (R70, R71): both halves of each 128-bit fetch line that holds words of the bundle are checked (R74, R453): DEDUCED
(log entry 113); or the fetch unit has lost its read to the fabric. -/
def execInstructionFetch (d n : Nat) (stalled : Bool) (s : State) : Result :=
  .next <| s.when (s.newtIs d n newtRun = true ∧ s.dieClocked d = true) fun s =>
    if stalled then (s.inc .NEWT_STALL_FAB d n 1).boardWait d n 1
    else
      let pc := s.get .NEWT_NEXT d n
      let l := min (s.bundleLen d n pc) (8192 - pc)
      let r := s.newtReadWords d n 0xFFFF (wordsOf (0x20000 + pc / 4 * 16) (((pc + l - 1) / 4 - pc / 4 + 1) * 16))
      let ce := r.2.2.1.filter fun q => q.name == .NEWT_ECC_CE
      if r.2.2.2 then r.1.newtFaults .NEWT_PMEM_UE ce d n else r.1.newtRaise d n ce

/-- BREAKPOINT_MATCH (R93, R94, R88). -/
def execBreakpointMatch (d n : Nat) (s : State) : Result :=
  .next <| s.when (s.newtIs d n newtRun = true ∧ s.dieClocked d = true ∧ s.dbgEn d n = true ∧ s.bundleOf d n = none ∧ s.bkptHit d n = true) fun t =>
    if t.on .NEWT_STATUS_INREPT d n then t.put .NEWT_STATUS_HALT_PEND d n 1
    else t.when (t.on .NEWT_SKIPBP d n = false) fun u => u.newtHalts d n

end Sys2Proof.Machine
end

