-- ==== Sys2Proof/Machine/Access.lean ====
section
/-! DEFINITION. Register reads and writes (R4, R5, R7), accesses over the fabric (R210, R211), and accesses from and to other
units (R365). A register write whose effect has a row of its own has the effect of that row. -/

namespace Sys2Proof.Machine

/-! ### Access codes (R7) -/

/-- The RWL fields of a register are locked. Each register chapter names the lock. -/
def State.regLocked (s : State) (d : Nat) (h : RegHit) : Bool :=
  let i := h.inst
  match h.head with
  | .DMA_KICKOFS_EN => s.on .DMA_KICKOFS_EN d i
  | .NEWT_CFG_LOOPSEL => s.on .NEWT_STATUS_CFGLOCK d i
  | .CROAK_BASE => s.on .CROAK_CFG_EN d i
  | .SLOT_CTRL_EN | .SLOT_MASK | .SLOT_ENTRY | .SLOT_ARG =>
    s.on .SLOT_CTRL_EN d i || s.get .SLOT_STATE_STATE d i != slotDisabled
  | .CHORUS_XP_BASE | .CHORUS_XP_CNT | .CHORUS_KICKOFS => s.on .CHORUS_CFG_EN d i
  | .GRP_RANGE_FIRST | .GRP_CFG_EN => s.on .GRP_CFG_EN d i || s.on .GRP_EN_EFF d i
  | .BUS_CFG_EN | .BUS_HOME_UNIT | .BUS_DEST | .BUS_CONS_TARGET | .BUS_CFLAGS => s.on .BUS_CFG_EN d i || s.on .BUS_EN_EFF d i
  | .SAP_FMT_MODE | .SAP_BUF => s.on .SAP_CFG_EN d i
  | .SAP_DITHER => s.on .SAP_CFG_EN d i || !isTx i
  | .PG_CFG_EN => s.on .PG_CFG_EN d i
  | .BR_ALIGN_N | .BR_ALIGN_S | .BR_IBUF | .BR_OBUF => s.on .BR_CFG_EN d i
  | .REF_NOM_NUM | .REF_NOM_DEN => s.on .REF_CFG_EN d i || 8 ≤ i
  | .REF_MON_GFLT => s.on .REF_CFG_EN d i
  | .FO_CFG_EN | .FO_NUM | .FO_DEN | .FO_WIDTH => s.on .FO_CFG_EN d i
  | .GPIO_CFG_EN | .GPIO_MON_GFLT | .GPIO_RATE => s.on .GPIO_CFG_EN d i
  | .TXQ_BASE | .TXQ_SIZE => s.get .MAC_CFG_MODE d (i / 8) != 0
  | .RXR_BASE | .RXR_SIZE | .RXR_BUFLEN => s.get .MAC_CFG_MODE d i != 0
  | .STX_CFG_EN | .STX_FMT_ENC | .STX_BUF | .STX_HDR_VLAN | .STX_SEQOFS | .STX_TSOFS => s.on .STX_CFG_EN d i
  | .SRX_CFG_EN | .SRX_FMT_ENC | .SRX_BUF | .SRX_JBUF_BASE | .SRX_MATCH_IP | .SRX_MATCH_PORT | .SRX_MATCH_SRC | .SRX_OFS =>
    s.on .SRX_CFG_EN d i
  | .TS_CFG_EN | .TS_START_SEC | .TS_START_NS | .TS_WIDTH | .TS_PERIOD => s.on .TS_CFG_EN d i
  | .PAIR_RGN_BASE | .PAIR_RGN_CNT => s.on .PAIR_STATUS_SNAPPEND 6 0
  | _ => false

/-- One field of a register written with the bits of `v`. -/
def State.fieldStore (s : State) (d i v : Nat) (locked : Bool) (f : FieldRow) : State :=
  let w := f.fld.width
  let x := bitsAt v f.lo w
  match f.acc with
  | .RW => s.put f.fld d i x
  | .RWL => s.when (locked = false) fun t => t.put f.fld d i x
  | .W1C => s.put f.fld d i (s.get f.fld d i &&& (2 ^ w - 1 - x))
  | .W1S => s.put f.fld d i (s.get f.fld d i ||| x)
  | .RO | .WO | .RC => s

/-- Every field of a register written by its access code. -/
def State.regPlain (s : State) (d : Nat) (h : RegHit) (v : Nat) : State :=
  let locked := s.regLocked d h
  h.row.fields.foldl (fun t f => t.fieldStore d h.inst v locked f) s

/-! ### Registers whose writes act -/

/-- The updates of a write-only register, one for each of its bits that is 1, lowest first. -/
def State.bitActs (s : State) (v k : Nat) : List (State → State) → State
  | [] => s
  | f :: t => (if bitAt v k = 1 then f s else s).bitActs v (k + 1) t

/-- NEWT_CTL: a write with more than one of bits [6:0] set has no effect (R100). -/
def State.newtCtl (s : State) (d n v : Nat) : State :=
  match v % 128 with
  | 1 => s.run (execParkReq d n)
  | 2 => s.run (execUnpark d n)
  | 4 => s.run (execHaltReq d n)
  | 8 => s.run (execResume d n)
  | 16 => s.run (execStep d n)
  | 32 => s.run (execAbort d n)
  | 64 => s.run (execNewtClrCnt d n)
  | _ => s

/-- A place of the loop stack is shown, not a register: level `k` (R86, R99). -/
def State.loopLevel (s : State) (d i : Nat) : Option Nat :=
  if i % 12 < 8 ∨ s.on .NEWT_CFG_LOOPSEL d (i / 12) = true then none else some (i % 12 - 8)

/-- DBG_A, DBG_B and DBG_L (R99): a PC keeps bits [14:2]; a level that is not active takes no write. -/
def State.dbgLoop (s : State) (d i v : Nat) (f : Fld) (isPc : Bool) : State :=
  match s.loopLevel d i with
  | none => s.put f d i v
  | some k => s.when (k < s.get .NEWT_STATUS_LOOPDEPTH d (i / 12)) fun t => t.put f d i (if isPc then bitsAt v 2 13 * 4 else v)

/-- SLOT_CTRL (R134, R135). -/
def State.slotCtrl (s : State) (d : Nat) (h : RegHit) (v : Nat) : State :=
  let c := h.inst / 256
  let k := h.inst % 256
  if bitAt v 0 = 1 then s.run (execSlotEnable d c k (bitAt v 1) (bitsAt v 2 5) (bitsAt v 7 2) (bitsAt v 9 10))
  else if s.on .SLOT_CTRL_EN d h.inst then s.run (execSlotDisable d c k)
  else s.regPlain d h v

/-- LF_CTL (R201). -/
def State.lfCtl (s : State) (d : Nat) (h : RegHit) (v : Nat) : State :=
  let t := if bitAt v 0 = 1 then s.run (execLfStart d (bitAt v 2) (bitAt v 3) (bitAt v 4) (bitsAt v 8 8)) else s.regPlain d h v
  t.when (bitAt v 1 = 1) fun u => u.run (execLfAbort d)

/-- An enable register whose EN, bit 0, starts and stops its block: a write of EN = 1 while enabled changes nothing. -/
def State.enReg (s : State) (d : Nat) (h : RegHit) (v : Nat) (start stop : State → State) : State :=
  if s.on h.head d h.inst then (if bitAt v 0 = 1 then s else stop s)
  else if bitAt v 0 = 1 then start s
  else s.regPlain d h v

/-- REF_CFG (R277, R284, R298). -/
def State.refCfg (s : State) (r v : Nat) : State :=
  if bitAt v 0 = 1 then s.run (execRefEnable r (bitAt v 1) (bitsAt v 2 (Fld.width .REF_CFG_RANK)))
  else
    let t := s.put .REF_CFG_RANK 6 r (bitsAt v 2 (Fld.width .REF_CFG_RANK))
    if s.on .REF_CFG_EN 6 r then t.refDisable r
    else t.when (r < 8) fun u => u.put .REF_CFG_POL 6 r (bitAt v 1)

/-- GPIO_CFG (R297): at enable the level is that of the pin; a disabled input holds no condition. DEDUCED (log entry 72). -/
def State.gpioCfg (s : State) (d : Nat) (h : RegHit) (v : Nat) : State :=
  let i := h.inst
  let t := s.regPlain d h v
  if s.on .GPIO_CFG_EN d i = t.on .GPIO_CFG_EN d i then t
  else if t.on .GPIO_CFG_EN d i then
    let level := (t.get .GPIO_RAW d i + t.get .GPIO_CFG_POL d i) % 2
    let bits := t.get .GPIO_LEVELS d 0
    ((((t.put .GPIO_STATUS_LEVEL d i level).put .GPIO_LEVELS d 0 (if level = 1 then setBit bits i else clearBit bits i)).put
      .GPIO_RAWP d i 0).put .GPIO_GEDGES d i 0).put .GPIO_GREJ d i 0
  else
    (((t.put .GPIO_STATUS_STUCK d i 0).put .GPIO_STATUS_OVERRATE d i 0).condEnd .GPIO_STUCK d 0 (gpioNumber d i)).condEnd
      .GPIO_OVERRATE d 0 (gpioNumber d i)

/-- The codes a type of block has, as a mask (R437). -/
def codeMask (ty : Nat) : Nat := (FaultName.all.filter fun n => n.type == ty).foldl (fun m n => setBit m n.code) 0

/-- A write of a register of the host ports, the axolotl, or a fault register set. -/
def State.ctlStore (s : State) (d cls : Nat) (h : RegHit) (v : Nat) : State :=
  let i := h.inst
  match h.head with
  | .HOST_IPEND => s.run (execHostIpendClear v 0)
  | .HOST_EVT => s.run (execHostEvtWrite v)
  | .HP_GILLREQ_RESTART_TAIL => s.bitActs v 0 [State.restartTail]
  | .MBX_PI => s.run (execMbxPiWrite i v cls false)
  | .MBX_CI => s.run (execMbxCiWrite i v cls false)
  | .MSIX_CTRL => if bitAt v 0 = 1 then s.put .MSIX_CTRL 6 i 1 else s.run (execMsixUnmask i)
  | .AXO_TAIL_CTL => if bitAt v 0 = 1 then s.run (execTailShed 0 0 []) else s.run execTailResetRelease
  | .FLT_INJ_COUNT => s.when ([1, 4, 5].contains (i / 64) = true) fun t => t.regPlain d h v
  | .FLT_IEN => s.put .FLT_IEN d i (v &&& codeMask (i / 64))
  | .FLT_STATUS_LEVEL => (s.regPlain d h v).bitActs v 4 [fun t => t.run (execFltStatusAck d i false false)]
  | .FLT_ESC_MINSEV => (s.regPlain d h v).bitActs v 3 [fun t => t.run (execAck2 d i false), fun t => t.run (execClr3 d i)]
  | .THERM_CFG_WARN => (s.regPlain d h v).thermJudge d
  | _ => s.regPlain d h v

/-- A write of a register of the network, ring and clock blocks. A ring's indices lose the bits above a size that is written (R323; DESIGN
CHOICE, log entry 128: they do not come back with a larger size). -/
def State.netStore (s : State) (d cls : Nat) (h : RegHit) (v : Nat) : State :=
  let i := h.inst
  match h.head with
  | .REFSEL_CFG_MODE => s.run (execRefselConfigWrite 10 v)
  | .REF_CFG_EN => s.refCfg i v
  | .DPLL_CFG_BW => (s.regPlain d h v).bwRefresh
  | .FO_CFG_EN =>
    if bitAt v 0 = 1 then s.run (execFrameOutEnable i (bitAt v 1) (bitAt v 2) (bitsAt v 3 4))
    else s.enReg d h v id fun t => t.run (execFrameOutDisable i)
  | .FO_OFFSET => s.run (execFrameOutRealign i 1 v)
  | .FO_CTL => s.bitActs v 0 [fun t => t.run (execFrameOutRealign i 0 0)]
  | .GPIO_CFG_EN => s.gpioCfg d h v
  | .MDLL_CTL => s.bitActs v 0 [fun t => t.run (execMdllRelock d [])]
  | .MAC_CFG_MODE => s.run (execMacModeWrite d i v)
  | .MAC_CTL_RESET => s.bitActs v 0 [fun t => t.run (execMacReset d i 0 0 []), fun t => t.run (execClrTsovf d i), fun t =>
      t.run (execAnrestart d i)]
  | .TXQ_PI => s.run (execTxqPiWrite d (i / 8) (i % 8) v)
  | .TXQ_SIZE =>
    let t := s.regPlain d h v
    let n := ringSize (t.get .TXQ_SIZE d i)
    ((t.put .TXQ_PI d i (t.get .TXQ_PI d i % n)).put .TXQ_CI d i (t.get .TXQ_CI d i % n)).put .TXQ_FETCH d i (t.get .TXQ_FETCH d i % n)
  | .RXR_SIZE =>
    let t := s.regPlain d h v
    let n := ringSize (t.get .RXR_SIZE d i)
    (t.put .RXR_PI d i (t.get .RXR_PI d i % n)).put .RXR_CI d i (t.get .RXR_CI d i % n)
  | .RXR_CI => s.put .RXR_CI d i (v % ringSize (s.get .RXR_SIZE d i))
  | .STX_CFG_EN => s.enReg d h v (fun t => t.run (execStreamTxEnable d i (bitsAt v 1 2) (bitsAt v 3 2) (bitsAt v 5 3))) fun t =>
      t.run (execStreamDisable d 0 i)
  | .SRX_CFG_EN => s.enReg d h v (fun t => t.run (execStreamRxEnable d i (bitsAt v 1 2) (bitsAt v 3 4) (bitAt v 7))) fun t =>
      t.run (execStreamDisable d 1 i)
  | .PTP_CTL_SNAP => s.bitActs v 0 [fun t => t.run (execPhcSnap d), fun t => t.run (execPhcSet d)]
  | .SERVO_CFG => s.servoCfgWrite (bitAt v 0)
  | .SERVO_CTL_STEP_ACK => s.bitActs v 0 [fun t => t.run execStepAck, fun t => t.run execServoClr]
  | .SERVO_OFFSET => s.run (execServoOffsetWrite v false)
  | .SERVO_FBASE => s.servoFbaseWrite v
  | .TS_CFG_EN => s.enReg d h v (fun t => t.run (execTsyncArm i (bitAt v 1) (bitAt v 2))) fun t => t.run (execTsyncDisable i)
  | .BIRAY_CTL => s.bitActs v 0 [fun t => t.run (execBirayRetrain d)]
  | .RING_CTL => s.bitActs v 0 [fun t => t.run execRingReenumerate]
  | .PAIR_CFG_PAIRID => s.run (execPairidWrite (bitsAt v 0 8) (bitAt v 8) (bitAt v 9))
  | .PAIR_CTL_ACTIVATE => s.bitActs v 0 [fun t => t.run execActivate, fun t => t.run execTakeover, fun t => t.run execPairSnapArm,
      fun t => t.run execPairSnapCancel]
  | _ => s.ctlStore d cls h v

/-- A write of all bits of a register by a master of a class, with the effect of its fields. -/
def State.regStore (s : State) (d cls : Nat) (h : RegHit) (v : Nat) : State :=
  let i := h.inst
  match h.head with
  | .EPOCH_CFG_EN =>
    let t := s.when (s.get .EPOCH_STATUS_RUN 6 i = 0) fun u => u.put .EPOCH_CFG_BSIZE 6 i (bitsAt v 1 (Fld.width .EPOCH_CFG_BSIZE))
    if bitAt v 0 = 1 then t.enableEpochs i else t.stopEpochs i
  | .EPOCH_CTL_COMMIT_ARM => s.bitActs v 0 [fun t => t.run (execCommitArm i), fun t => t.run (execCommitCancel i), fun t =>
      t.run (execSnapArm i), fun t => t.run (execSnapCancel i)]
  | .DOM_CFG_RATE => s.domCfgWrite i (bitsAt v 0 4) (bitAt v 4) (bitAt v 5)
  | .BR_CFG_EN =>
    if s.on .BR_CFG_EN d i then s.when (bitAt v 0 = 0) fun t => t.run (execBridgeDisable d i)
    else if bitAt v 0 = 1 then s.run (execBridgeEnable d i v)
    else s.brCfgFields d i v
  | .NEWT_CTL_PARK_REQ => s.newtCtl d i v
  | .NEWT_ECC_CE_CNT => (s.regPlain d h v).when (bitAt v 18 = 1) fun t => t.put .NEWT_ECC_CE_CNT d i 0
  | .NEWT_RST => s.bitActs v 0 [fun t => t.run (execNewtReset d i)]
  | .DBG_ACC => s.put .DBG_ACC d i (if accLegal v then v else 0)
  | .DBG_A => s.dbgLoop d i v .DBG_A true
  | .DBG_B => s.dbgLoop d i v .DBG_B true
  | .DBG_L => s.dbgLoop d i v .DBG_L false
  | .DBG_P => s.when (i % 4 ≠ 0) fun t => t.put .DBG_P d i v
  | .TONGUE_POST_FLAGS => s.acceptPost d d (i / 256) (i % 256) (v % 2 ^ 31) 3
  | .TONGUE_CFG_AFFWIN => (s.regPlain d h v).bitActs v 16 [fun t => t.run (execTongueClrCnt d i)]
  | .CROAK_CFG_EN => (s.regPlain d h v).bitActs v 4 [fun t => t.freezeCroak d i]
  | .SLOT_CTRL_EN => s.slotCtrl d h v
  | .SLOT_CLR_FLAGS => s.bitActs v 0 [fun t => t.run (execSlotClrFlags d (i / 256) (i % 256)), fun t =>
      t.run (execSlotClrPend d (i / 256) (i % 256)), fun t => t.run (execSlotClrAff d (i / 256) (i % 256))]
  | .CHORUS_CFG_EN => s.when (bitsAt v 4 5 ≤ 20) fun t => t.regPlain d h v
  | .CHORUS_XP_CNT => s.when (v % 2 ^ 17 ≤ 32768) fun t => t.regPlain d h v
  | .CHORUS_KICK => s.chorusKick d (v % 256)
  | .GRP_CFG_EN | .BUS_CFG_EN => s.when (¬ (bitAt v 0 = 1 ∧ bitsAt v 1 2 = 3)) fun t => t.regPlain d h v
  | .BUS_HOME_UNIT => s.when (bitsAt v 4 3 < 6) fun t => t.regPlain d h v
  | .LF_CTL_START => s.lfCtl d h v
  | .LF_FUSE_BANK => (s.regPlain d h v).bitActs v 8 [fun t => t.run (execFuseBurn d (bitsAt v 0 8))]
  | .SAP_CFG_EN => s.enReg d h v (fun t => t.run (execSapEnable d (i / 2) (i % 2) v)) fun t => t.run (execSapDisable d (i / 2) (i % 2))
  | .SAP_SLOTMASK_NEXT => s.run (execSlotmaskStage d (i / 2) (i % 2) v)
  | .PG_CFG_EN => (s.regPlain d h v).pgRefresh d i
  | .LINK_CTL => s.bitActs v 0 [fun t => t.trainLink d i []]
  | .DMA_START_ABORT => if bitAt v 0 = 1 then s.run (execDmaAbort d i 0 0 0 []) else s.run (execDmaStart d i (bitsAt v 5 20) cls)
  | .FAB_PARK_MASTER => (s.regPlain d h v).put .FAB_PARKPEND d i 1
  | .FAB_PERM => s.when (i ≠ 7 ∧ i < 10) fun t => t.put .FAB_PERM d i (if d < 6 then v % 2 ^ 22 else v)
  | _ => s.netStore d cls h v

/-! ### Events of the cycle of an access (R8) -/

/-- A counter that no read clears. -/
def Fld.roCounter (f : Fld) : Bool :=
  [.TB_SYSCNT, .TB_DOMCNT, .GRP_STAT_KICKS, .CROAK_SEQ, .AXO_SHEDCNT, .BIRAY_WRAPCNT, .CHORUS_XSAMP, .DOM_LATE, .DOM_MERGED, .EPOCH_LATE_CNT, .EPOCH_SKIP_CNT, .MAC_TSF_OVF, .MAP_SEQ,
    .MDLL_LOCKCNT, .NAFF_HIT, .NAFF_MISS, .NEWT_BUSY, .NEWT_ECC_CE_CNT, .NEWT_STALL_DONE, .NEWT_STALL_FAB, .NEWT_STALL_MEM,
    .NEWT_STALL_SB, .NEWT_TASKS, .Q_DISP, .Q_WAIT_SUM, .RX_FRAMES, .SRX_PKTS, .STX_PKTS, .TX_FRAMES, .TS_EDGES].contains f

/-- A field that holds the largest value since its last read. -/
def Fld.maximum (f : Fld) : Bool := [.EPOCH_DRAIN_MAX, .Q_HWM, .Q_WAIT_MAX, .DOM_DRAIN_MAX, .THERM_MAX].contains f

/-- A counter field that stops at its largest value; the others wrap. -/
def FieldRow.saturates (f : FieldRow) : Bool := f.acc == .RC || [.MAC_TSF_OVF, .NEWT_ECC_CE_CNT, .GRP_STAT_KICKS].contains f.fld

/-- What of a field hardware has set in the cycle of the access: set bits of a W1C field, an amount counted, a value a maximum has
taken in. A counter at its limit may have counted more than it shows. -/
def State.tied (s : State) (d i tie : Nat) (f : FieldRow) : Nat :=
  let v := s.get f.fld d i
  let x := bitsAt tie f.lo f.fld.width
  if f.acc = .W1C then v &&& x
  else if f.acc = .RC ∨ f.fld.roCounter = true then (if f.saturates = true ∧ v + 1 < 2 ^ f.fld.width then min v x else x)
  else 0

/-- The value of a counter, an RC bit or a maximum before the cycle of the access (R8): less what the cycle counted; where the field
stands at its limit, or the cycle's value is the maximum, as `before` tells it. -/
def State.earlier (s : State) (d i tie before : Nat) (f : FieldRow) : Nat :=
  let v := s.get f.fld d i
  let x := s.tied d i tie f
  let z := 2 ^ f.fld.width
  let b := bitsAt before f.lo f.fld.width
  if f.fld.maximum then (if x = v then b else v)
  else if f.saturates = false then (v + z - x) % z
  else if v + 1 < z then v - x
  else max (v - x) b

/-- The value a read shows: the counts and RC bits of its own cycle are not in it (R8). -/
def State.shown (s : State) (d tie before : Nat) (h : RegHit) : Nat :=
  h.row.fields.foldl (fun v f => v + (if f.acc = .W1C ∨ s.tied d h.inst tie f = 0 then s.fieldValue d h.inst f
    else s.earlier d h.inst tie before f) * 2 ^ f.lo) 0

/-- What hardware set in the cycle of a write stays (R8): W1C bits, a first-fault record of that cycle's raises (R440), and the corrected errors counted in the cycle that clears their
count (R101); `s0` is the state before the write. -/
def State.keepTied (s s0 : State) (d tie : Nat) (h : RegHit) : State :=
  s.each h.row.fields fun f t =>
    let x := s0.tied d h.inst tie f
    if tie = 0 then t
    else if f.fld = .FLT_FIRST_VALID then t.when (x = 1) fun u => u.recordLast d h.inst
    else if f.acc = .W1C then t.put f.fld d h.inst (t.get f.fld d h.inst ||| x)
    else t.when (f.fld = .NEWT_ECC_CE_CNT ∧ t.get f.fld d h.inst = 0) fun u => u.put f.fld d h.inst x

/-! ### Reads and writes at a register's place (R5, R7) -/

/-- The DBG_ registers answer in HALTED and FAULTED alone (R99). -/
def State.dbgBarred (s : State) (d : Nat) (h : RegHit) : Bool :=
  h.row.blk == .newt && 0x1000 ≤ h.row.off && 0 < h.row.count &&
    !(s.newtIs d (h.inst / h.row.count) newtHalted || s.newtIs d (h.inst / h.row.count) newtFaulted)

/-- What a read does to its register: RC fields clear to what their own cycle added, a read of FLT_FIRST is noted (R7, R8, R442). -/
def State.readClears (s : State) (d tie : Nat) (h : RegHit) : State :=
  match h.head with
  | .FLT_FIRST_CODE => s.firstRead d h.inst
  | .MAC_TSF_INFO_SEQ => s
  | _ => h.row.fields.foldl (fun t f => t.when (f.acc = .RC) fun u => u.put f.fld d h.inst (s.tied d h.inst tie f)) s

/-- The register a request names, as a holding register's tag: the place of its low word. -/
def FabReq.regKey (r : FabReq) (h : RegHit) : Nat := r.tdie * 2 ^ 32 + (r.loc - if h.high then 4 else 0)

/-- The holding register of a master takes a word: 1 a capture, 2 a held low word, 0 it empties. -/
def State.hold (s : State) (r : FabReq) (kind key v : Nat) : State :=
  ((s.put .HOLD_KIND r.die r.port kind).put .HOLD_REG r.die r.port key).put .HOLD_VAL r.die r.port v

/-- A master's holding register holds this for a register. -/
def State.held (s : State) (r : FabReq) (kind key : Nat) : Bool :=
  s.get .HOLD_KIND r.die r.port == kind && s.get .HOLD_REG r.die r.port == key

/-- A read of a register (R5, R7, R8); a read of MAC_TSF_INFO takes the next entry first (R325). -/
def State.regRead (s : State) (r : FabReq) (h : RegHit) : State :=
  let d := r.tdie
  let key := r.regKey h
  if s.dbgBarred d h then s.reply 0 true
  else
    let t := s.when (h.head = .MAC_TSF_INFO_SEQ) fun u => u.run (execTsfPop d h.inst)
    let v := t.shown d r.tie r.before h
    if h.row.wide = false then (t.readClears d r.tie h).reply v false
    else if h.high = false then (t.hold r 1 key (v / 2 ^ 32)).reply (v % 2 ^ 32) false
    else if t.held r 1 key then (t.hold r 0 0 0).reply (t.get .HOLD_VAL r.die r.port) false
    else t.reply (v / 2 ^ 32) false

/-- The low word of a 64-bit register that a write of its high word alone leaves as it is. -/
def State.lowKept (s : State) (d : Nat) (h : RegHit) : Nat :=
  (h.row.fields.foldl (fun v f => v + if f.acc = .RW ∨ f.acc = .RWL then s.get f.fld d h.inst * 2 ^ f.lo else 0) 0) % 2 ^ 32

/-- A write of a register takes effect, and what hardware set in its cycle stays (R8). -/
def State.regTake (s : State) (r : FabReq) (h : RegHit) (v : Nat) : State :=
  if h.head = .HOST_IPEND then s.run (execHostIpendClear v (s.get .HOST_IPEND 6 0 &&& r.tie))
  else (s.regStore r.tdie r.cls h v).keepTied s r.tdie r.tie h

/-- A write of a register (R5, R7). -/
def State.regWrite (s : State) (r : FabReq) (h : RegHit) : State :=
  let d := r.tdie
  let v := r.data % 2 ^ 32
  let key := r.regKey h
  if s.dbgBarred d h then s.reply 0 true
  else
    let t := s.reply 0 false
    if h.row.wide = false then t.regTake r h v
    else if h.high = false then t.hold r 2 key v
    else if t.held r 2 key then (t.hold r 0 0 0).regTake r h (t.get .HOLD_VAL r.die r.port + v * 2 ^ 32)
    else t.regTake r h (t.lowKept d h + v * 2 ^ 32)

/-- An access to a register's place; the tail memory window shows a page of the tail's private memory (R411). -/
def State.regAccess (s : State) (r : FabReq) (b : Block) (bi off : Nat) : State :=
  if b = .axo ∧ 0x10000 ≤ off ∧ off < 0x20000 then
    let a := s.get .AXO_TWIN 6 0 * 0x10000 + (off - 0x10000)
    if r.write then (s.store tailKeys a 4 r.data).reply 0 false else s.reply (s.load tailKeys a 4) false
  else
    match regFind r.tdie b bi off with
    | none => s.reply 0 true
    | some h => if r.write then s.regWrite r h else s.regRead r h

/-- An access that passed its checks. -/
def State.serveAt (s : State) (r : FabReq) (p : Place) : State :=
  match p with
  | .reg b bi off => s.regAccess r b bi off
  | _ => s.memAccess r p

/-- A master's access, checked and served (R210, R213); one to another unit leaves (R365). -/
def State.access (s : State) (r : FabReq) : State :=
  match s.fabEnter r with
  | (t, .here p) => t.overLinks r fun q u => u.serveAt q p
  | (t, .refused) => t
  | (t, .remote) => t.overLinks r fun q u => u.remoteReq q.die q.port q.unit q.tdie q.loc q.write q.len q.data 3

/-- An access to another unit that no answer came for within 100 µs (R365): an error response with cause 3. -/
def State.remoteLost (s : State) (q : RemoteAcc) : State :=
  let t := { s with remote := s.remote.erase q }
  ((t.logDecode (t.request q.die q.port q.addr q.write 4 0) q.die 3).incSat .RING_TIMEOUT 6 0 1).fault .RING_TIMEOUT 6 0 q.unit

/-- The register that a request of this package names. -/
def FabReq.register (r : FabReq) : Option RegHit :=
  match place r.tdie r.loc with
  | .reg b bi off => regFind r.tdie b bi off
  | _ => none

/-- A 64-bit register, and which of its words. -/
def FabReq.wideWord (r : FabReq) (high : Bool) : Bool :=
  match r.register with
  | some h => h.row.wide && h.high == high
  | none => false

/-- An access of 32 bits by master `p` of die `d`, where the master exists and the address names a register that `test` takes. -/
def State.regCommand (s : State) (d p addr : Nat) (write : Bool) (data tie before : Nat) (test : FabReq → Bool) : State :=
  let r := { s.request d p addr write 4 data with tie, before }
  s.when (s.mayIssue d p = true ∧ test r = true) fun t => t.access r

/-! ### The commands of chapter 0 -/

/-- A 32-bit register. -/
def FabReq.narrow (r : FabReq) : Bool :=
  match r.register with
  | some h => !h.row.wide
  | none => false

/-- A register with a field that a read clears. -/
def FabReq.readClear (r : FabReq) : Bool :=
  match r.register with
  | some h => h.row.fields.any fun f => f.acc == .RC
  | none => false

/-- REGISTER_WRITE (R7, R8): a write of a 32-bit register by master `port` of a die; `tie` is what hardware has set in its W1C and
counter fields in the same cycle. -/
def execRegisterWrite (mdie port addr data tie : Nat) (s : State) : Result :=
  .next <| s.regCommand mdie port addr true data tie 0 FabReq.narrow

/-- RC_REGISTER_READ (R7, R8). -/
def execRcRegisterRead (mdie port addr tie before : Nat) (s : State) : Result :=
  .next <| s.regCommand mdie port addr false 0 tie before FabReq.readClear

/-- REG64_LOW_READ (R5, R8). -/
def execReg64LowRead (mdie port addr tie : Nat) (s : State) : Result :=
  .next <| s.regCommand mdie port addr false 0 tie 0 fun r => r.wideWord false

/-- REG64_LOW_WRITE (R5). -/
def execReg64LowWrite (mdie port addr data : Nat) (s : State) : Result :=
  .next <| s.regCommand mdie port addr true data 0 0 fun r => r.wideWord false

/-- REG64_HIGH_WRITE (R5, R8). -/
def execReg64HighWrite (mdie port addr data tie : Nat) (s : State) : Result :=
  .next <| s.regCommand mdie port addr true data tie 0 fun r => r.wideWord true

/-- DBG_REGISTER_ACCESS (R99). -/
def execDbgRegisterAccess (mdie port addr : Nat) (write : Bool) (data : Nat) (s : State) : Result :=
  .next <| s.regCommand mdie port addr write data 0 0 fun r =>
    match r.register with
    | some h => h.row.blk == .newt && 0x1000 ≤ h.row.off
    | none => false

/-! ### Arbitration (R211) -/

/-- FAB_PRIO's field of a target port. -/
def prioField : Nat → Fld
  | 0 => .FAB_PRIO_T0
  | 1 => .FAB_PRIO_T1
  | 2 => .FAB_PRIO_T2
  | 3 => .FAB_PRIO_T3
  | 4 => .FAB_PRIO_T4
  | 5 => .FAB_PRIO_T5
  | 6 => .FAB_PRIO_T6
  | 7 => .FAB_PRIO_T7
  | 8 => .FAB_PRIO_T8
  | 9 => .FAB_PRIO_T9
  | _ => .FAB_PRIO_T10

/-- How far after the master granted last a master stands in the round. -/
def State.turn (s : State) (d t p : Nat) : Nat := (p + 32 - s.get .FAB_RR d t) % 32

/-- Master `p` is granted target port `t` before master `q`. -/
def State.winsOver (s : State) (d t p q : Nat) : Bool :=
  let a := s.get (prioField t) d p
  let b := s.get (prioField t) d q
  b < a || (a == b && s.turn d t p ≤ s.turn d t q)

/-- A master is granted a crossing against its rivals there. -/
def State.beats (s : State) (q : Nat × Nat × Nat) (rivals : List Nat) : Bool := rivals.all fun p => s.winsOver q.1 q.2.1 q.2.2 p

/-- A request wins at the crossbar of its die against `rivals`, and at the one it reaches over the links against `far`. -/
def State.wins (s : State) (r : FabReq) (rivals far : List Nat) : Bool :=
  match s.crossings r with
  | [] => true
  | [q] => s.beats q rivals
  | q :: p :: _ => s.beats q rivals && s.beats p far

/-- FABRIC_ACCESS (R210, R211, R213): master `port` of die `mdie` presents an access; `rivals` are the masters that ask for the same
target of its crossbar in the same cycle, `far` those at the target die, `tie` and `before` as for a register's read or write. A master that is
not granted waits: nothing happens. -/
def execFabricAccess (mdie port addr : Nat) (write : Bool) (len data : Nat) (rivals far : List Nat) (tie before : Nat) (s : State) : Result :=
  .next <|
    let r := { s.request mdie port addr write len data with tie, before }
    s.when (s.mayIssue mdie port = true ∧ s.wins r rivals far = true) fun t => t.access r

end Sys2Proof.Machine
end

