-- ==== Sys2Proof/Machine/BootStep.lean ====
section
/-! DEFINITION. Steps 3 to 5 of the boot sequence, which the gill drives on every die (R462, R464): leapfrog, the second lock, the
training of the die links. Each step follows the one before on every die. DEDUCED (log entry 152). -/

namespace Sys2Proof.Machine

/-- A boot step begins on some dies. -/
def State.bootStep (s : State) (k : Nat) (dies : List Nat) : State :=
  (s.put .BOOT_STEP 6 0 k).put .BOOT_WAIT 6 0 ((dies.map fun d => 2 ^ d).sum)

/-- Step 5: every die link trains. -/
def State.bootLinks (s : State) : State := (s.bootStep 5 []).each allDies fun d t => t.linksTrain d

/-- Step 4: RELOCK to every MDLL. -/
def State.bootRelock (s : State) : State := (s.each allDies fun d t => t.run (execMdllRelock d [])).bootStep 4 allDies

/-- Step 3: leapfrog DESTRUCTIVE of all banks, and of the newts on gecko dies, on every die that has its clock. -/
def State.bootLeapfrog (s : State) : State :=
  let dies := allDies.filter fun d => s.dieClocked d
  if dies = [] then s.bootRelock else (s.each dies fun d t => t.run (execLfStart d 0 1 (flag (d < 6)) 0)).bootStep 3 dies

/-- The step after the one that is done. -/
def State.bootNext (s : State) : State :=
  match s.get .BOOT_STEP 6 0 with
  | 2 => s.bootLeapfrog
  | 3 => s.bootRelock
  | _ => s.bootLinks

/-- A die has done its part of the boot step, where that is one of `steps`. -/
def State.bootPass (s : State) (d : Nat) (steps : List Nat) : State :=
  s.when (steps.contains (s.get .BOOT_STEP 6 0) = true ∧ bitAt (s.get .BOOT_WAIT 6 0) d = 1) fun t =>
    let u := t.put .BOOT_WAIT 6 0 (clearBit (t.get .BOOT_WAIT 6 0) d)
    u.when (u.get .BOOT_WAIT 6 0 = 0) State.bootNext

/-- MDLL_LOCK_COMPLETE (R302, R303, R305): the die returns to its MDLL output; `pherr` is the phase error, within ±10 ps after every
lock. -/
def execMdllLockComplete (d pherr : Nat) (s : State) : Result :=
  .next <| s.when (s.get .MDLL_STATUS_STATE d 0 = mdllAlign ∧ (signed 16 pherr).natAbs ≤ 10) fun t =>
    let s1 := ((t.put .MDLL_STATUS_STATE d 0 mdllLocked).inc .MDLL_LOCKCNT d 0 1).put .MDLL_LOCKTIME d 0
      (t.capture d - t.get .MDLL_T0 d 0)
    let s2 := ((s1.put .MDLL_PHERR d 0 pherr).mdllUnbypass d outMdll).mdllEnd .MDLL_LOL d
    let s3 := s2.when (s2.on .MDLL_AFTERLOSS d 0 = true) fun u => u.fault .MDLL_RELOCKED d 0 Config.noInstance
    ((s3.put .MDLL_AFTERLOSS d 0 0).linksTrain d).bootPass d [2, 4]

/-- MDLL_LOCK_TIMEOUT (R464): at boot the MDLL has not locked 1 ms after RELOCK; its die stays gated, and boot goes on. The same of the first
lock, and of a die that fails during leapfrog: DESIGN CHOICE (log entry 152). -/
def execMdllLockTimeout (d : Nat) (s : State) : Result :=
  .next <| s.when (s.get .IN_PORST 6 0 = 0 ∧ s.get .MDLL_STATUS_STATE d 0 ≠ mdllLocked) fun t =>
    ((t.mdllUnbypass d outGated).condBegin (if t.get .REFCLK_OK d 0 = 0 then .MDLL_REFLOSS else .MDLL_LOL) d 0
      Config.noInstance).bootPass d [2, 3, 4]

/-- LF_DONE (R200 to R202). -/
def execLfDone (d : Nat) (outcomes : List BankTest) (newtFail newtWaddr newtBit : Nat) (s : State) : Result :=
  .next <| s.when (s.get .LF_STATUS_BUSY d 0 = 1 ∧ s.dieClocked d = true) fun s =>
    let l := (s.lfBanks d).map (lfOutcome outcomes)
    let r := (s.lfRecord d l newtFail newtWaddr newtBit).lfBanksDone d l
    ((((r.1.lfNewts d newtFail).raises d 0 (r.2 ++ (s.lfBadNewts d newtFail).map fun n => ⟨.BANK_LF_FAIL, 0x100 + n⟩)).lfEnd d).put .LF_STATUS_DONE
      d 0 1).bootPass d [3]

end Sys2Proof.Machine
end

