-- ==== Sys2Proof/Machine/HostPort.lean ====
section
/-! DEFINITION. The host ports (R31 to R34, R391 to R399, R505): the two BARs, the PCIe endpoint and its resets, the QSPI slave. -/

namespace Sys2Proof.Machine

/-! ### The BARs (R31 to R33) -/

/-- A global address of this package. -/
def ownAddr (d loc : Nat) : Nat := 15 * 2 ^ 36 + d * 2 ^ 32 + loc

/-- A die's register window at a window offset (R32); `n` slots are valid. -/
def slotAddr (d n o : Nat) : Option Nat :=
  if o / 0x40000 < n then some (ownAddr d (0x40000000 + o / 0x40000 * 0x100000 + o % 0x40000)) else none

/-- The ring memory in BAR0. -/
def barRing (o : Nat) : Bool := 0x2000000 ≤ o && o < 0x2080000

/-- The global address of a BAR0 offset (R31); none: the default target of die 6. -/
def bar0Addr (o : Nat) : Option Nat :=
  if o < 0xC00000 then slotAddr (o / 0x200000) 6 (o % 0x200000)
  else if 0x1000000 ≤ o ∧ o < 0x1800000 then slotAddr 6 17 (o - 0x1000000)
  else if 0x1800000 ≤ o ∧ o < 0x2000000 then slotAddr 7 17 (o - 0x1800000)
  else if barRing o then some (ownAddr 6 (0x50000000 + (o - 0x2000000)))
  else if 0x3000000 ≤ o ∧ o < 0x3C00000 then
    let g := (o - 0x3000000) / 0x10000
    some (ownAddr (g / 32) (0x10000000 + g % 32 * 0x40000 + 0x30000 + o % 0x10000))
  else none

/-- The global address of a BAR2 offset (R33, R410); none: a page the gill has not enabled. -/
def State.bar2Addr (s : State) (o : Nat) : Option Nat :=
  let p := o / 0x100000
  if p < 256 ∧ s.on .BAR2_XLAT_EN 6 p = true then some (15 * 2 ^ 36 + s.get .BAR2_XLAT_TARGET 6 p * 2 ^ 20 + o % 0x100000)
  else none

/-- The global address of an offset of a BAR, 0 or 2. -/
def State.barAddr (s : State) (bar o : Nat) : Option Nat := if bar = 0 then bar0Addr o else s.bar2Addr o

/-- One fabric access of the host bridge; the global address it had. Offsets without an address reach the default target of
die 6, which logs a die-local address the spec does not give: a free value (log entry 73). -/
def State.hostAccess (s : State) (bar o : Nat) (write : Bool) (len data : Nat) : State × Nat :=
  match s.barAddr bar o with
  | none =>
    let a := ownAddr 6 (s.free % 2 ^ 32)
    (if s.dieClocked 6 then (s.drawn.logDecode (s.request 6 18 a write len data) 6 0, a) else (s.drawn.reply 0 true, a))
  | some a =>
    if bar = 2 ∧ write = true ∧ s.on .BAR2_XLAT_RO 6 (o / 0x100000) = true then (s.reply 0 true, a)
    else (s.access (s.request 6 18 a write len data), a)

/-- HP_ERRADDR keeps the first error; HP_ERR is raised (R393, R399). -/
def State.hostErr (s : State) (a : Nat) : State :=
  (s.when (s.get .HP_ERRADDR_VALID 6 0 = 0) fun t => (t.put .HP_ERRADDR_ADDR 6 0 a).put .HP_ERRADDR_VALID 6 0 1).fault
    .HP_ERR 6 0 Config.noInstance

/-! ### Memory requests (R393) -/

/-- Maximal runs of enabled bytes, as (byte, length). -/
def byteRuns (en i : Nat) : Nat → List (Nat × Nat)
  | 0 => []
  | k + 1 =>
    if bitAt en i = 0 then byteRuns en (i + 1) k
    else match byteRuns en (i + 1) k with
      | (j, n) :: t => if j = i + 1 then (i, n + 1) :: t else (i, 1) :: (j, n) :: t
      | [] => [(i, 1)]

/-- A run at BAR offset `o` in bursts within R209, as (byte, length). -/
def splitRun (o : Nat) : Nat → Nat × Nat → List (Nat × Nat)
  | 0, _ => []
  | k + 1, (i, n) =>
    if n = 0 then []
    else
      let a := o + i
      let c := min n (min (256 - a % 16) (4096 - a % 4096))
      (i, c) :: splitRun o k (i + c, n - c)

/-- The accesses of a request of `n` dwords at BAR offset `o` with byte enables `en`: one for each dword at register offsets,
bursts at memory. A dword at register offsets with a byte not enabled is no access of R4. -/
def hostParts (bar o n en : Nat) : List (Nat × Nat) :=
  if bar = 0 ∧ barRing o = false then
    ((List.range n).filter fun k => bitsAt en (4 * k) 4 != 0).map fun k =>
      if bitsAt en (4 * k) 4 = 15 then (4 * k, 4) else (4 * k + lowestBit (bitsAt en (4 * k) 4) 4, 1)
  else ((byteRuns en 0 (4 * n)).map fun q => splitRun o 64 q).flatten

/-- The host ports are out of reset, not disabled by TESTMODE_N (R460, R461), and their clocks are not stopped by a thermal trip of die 6
(R451). -/
def State.hostAlive (s : State) : Bool :=
  s.get .IN_PORST 6 0 == 0 && s.get .STRAP_TESTMODE 6 0 == 0 && !s.on .THERM_STATUS_TRIPPED 6 0

/-- The endpoint is there: PCIe is selected, not in reset, its link in L0 (R391, R395, R412). -/
def State.pcieUp (s : State) : Bool :=
  s.get .HP_CFG 6 0 == 0 && s.get .PCIE_PERST 6 0 == 0 && s.on .HP_STATUS_LINKUP 6 0 && s.hostAlive

/-- The BAR and the offset that a bus address hits, in D0 with memory space enabled (R392). -/
def State.barHit (s : State) (addr : Nat) : Option (Nat × Nat) :=
  let b0 := s.get .PCIE_BAR0 6 0
  let b2 := s.get .PCIE_BAR2 6 0
  if s.on .PCIE_D3 6 0 ∨ s.get .PCIE_MSE 6 0 = 0 then none
  else if b0 ≤ addr ∧ addr < b0 + 2 ^ 26 then some (0, addr - b0)
  else if b2 ≤ addr ∧ addr < b2 + 2 ^ 28 then some (2, addr - b2)
  else none

/-! ### Requests in progress (R365, R393, R397) -/

/-- The tag of the access to another unit that a state has made more than `s`. -/
def State.newTag (s t : State) : Option Nat := if t.remote.length = s.remote.length then none else t.remote.getLast?.map fun q => q.tag

/-- A completion goes to the PCIe host. -/
def State.complete (s : State) (status data : Nat) : State := s.send (.completion status data)

/-- The endpoint logs an error among its uncorrectable ones: 15 Completer Abort, 20 Unsupported Request (log entry 74). -/
def State.aerLog (s : State) (bit : Nat) : State := s.put .PCIE_UESTA 6 0 (setBit (s.get .PCIE_UESTA 6 0) bit)

/-- No BAR answers a request (R392): one that expects a completion gets Unsupported Request. -/
def State.unsupported (s : State) (posted : Bool) : State :=
  ((s.aerLog 20).put .PCIE_URD 6 0 1).when (posted = false) fun t => t.complete 1 0

/-- An access of a request is answered, at place `i` and address `a`: the bytes it read join the others; an error of a QSPI access is told
in QSPI_STATUS (R399). -/
def State.hostTook (s : State) (k : HostTask) (i a : Nat) : State × HostTask :=
  let e := s.answer.err
  (s.when (e = true ∧ k.qspi = true) fun t => (t.put .QSPI_STATUS_ERR 6 0 1).hostErr a,
    { k with
      tag := none
      val := k.val + (if e then 0 else s.answer.data) * 2 ^ (8 * i)
      bad := if e = true ∧ k.bad = none then some a else k.bad })

/-- A word whose nibbles come one place late (R505): the first is no valid data, the last is lost. In order of transfer the
high nibble of each byte goes first. -/
def lateWord (w junk : Nat) : Nat :=
  let nib (k : Nat) : Nat := bitsAt w (8 * (k / 2) + (if k % 2 = 0 then 4 else 0)) 4
  (List.range 8).foldl (fun v k => v + (if k = 0 then junk % 16 else nib (k - 1)) * 2 ^ (8 * (k / 2) + if k % 2 = 0 then 4 else 0)) 0

/-- The words the host takes, those of `late` with their nibbles shifted; a free nibble each (R505). -/
def State.qspiLate (s : State) (v : Nat) : List Nat → State × Nat
  | [] => (s, v)
  | k :: t =>
    let w := bitsAt v (32 * k) 32
    s.drawn.qspiLate (v - w * 2 ^ (32 * k) + lateWord w s.free * 2 ^ (32 * k)) t

/-- A request whose accesses are all answered (R393): a PCIe read completes, with Completer Abort if one got an error; a write, which is
posted, has no completion and is only recorded. The words of a QSPI read have gone to the host. -/
def State.hostEnd (s : State) (k : HostTask) : State :=
  if k.qspi then
    s.when (k.write = false) fun t =>
      let q := t.qspiLate (k.val % 2 ^ (32 * k.words)) k.late
      q.1.reply q.2 false
  else
    match k.bad with
    | some a => (s.hostErr a).when (k.write = false) fun t => (t.aerLog 15).complete 4 0
    | none => s.when (k.write = false) fun t => t.complete 0 k.val

/-- The accesses of a request, in order, until one goes to another unit: its answer is awaited. -/
def State.hostServe (s : State) (k : HostTask) : List (Nat × Nat) → State
  | [] => s.hostEnd k
  | (i, n) :: t =>
    let q := s.hostAccess k.bar (k.off + i) k.write n (bitsAt k.data (8 * i) (8 * n))
    match s.newTag q.1 with
    | some g => { q.1 with hostQ := { k with tag := some g, part := (i, n), addr := q.2, rest := t } :: q.1.hostQ }
    | none =>
      let r := q.1.hostTook k i q.2
      r.1.hostServe r.2 t

/-- A request comes to the host bridge, which serves them one after another. -/
def State.hostTake (s : State) (k : HostTask) : State :=
  if s.hostQ = [] then s.hostServe k k.rest else { s with hostQ := s.hostQ ++ [k] }

/-- The requests that wait are served until one awaits another unit. -/
def State.hostNext (s : State) : Nat → State
  | 0 => s
  | n + 1 =>
    match s.hostQ with
    | [] => s
    | k :: t => if k.tag.isSome then s else ({ s with hostQ := t }.hostServe k k.rest).hostNext n

/-- The access to another unit with a tag is answered: the request that awaits it goes on. -/
def State.hostResume (s : State) (tag : Nat) : State :=
  match s.hostQ with
  | [] => s
  | k :: t =>
    if k.tag = some tag then
      let r := { s with hostQ := t }.hostTook k k.part.1 k.addr
      (r.1.hostServe r.2 k.rest).hostNext (t.length + 1)
    else s

/-- PCIE_MEMORY_REQUEST (R393): a read or write of `n` dwords at a bus address, with byte enables and data. -/
def execPcieMemoryRequest (addr : Nat) (write : Bool) (n en data : Nat) (s : State) : Result :=
  .next <| s.when (s.pcieUp = true) fun s =>
    match s.barHit addr with
    | none => s.unsupported write
    | some (bar, o) => s.hostTake ⟨false, bar, o, write, data, none, (0, 0), 0, hostParts bar o n en, 0, none, 0, []⟩

/-! ### Configuration and the link (R392, R412) -/

/-- What a word of the configuration space shows: a type 0 header; power management at 0x40, MSI-X at 0x50, its table and PBA in BAR0, PCI
Express at 0x60, AER at 0x100. The layouts are those of the PCIe standard, their places the model's: PRESUMED (log entry 74). -/
def State.configRead (s : State) : Nat → Nat
  | 0 => Config.vendorId % 2 ^ 16 + 0xC801 * 2 ^ 16
  | 1 => 2 * s.get .PCIE_MSE 6 0 + 2 ^ 20
  | 2 => 0xA1 + 0x040100 * 2 ^ 8
  | 4 => s.get .PCIE_BAR0 6 0 % 2 ^ 32 + 4
  | 5 => s.get .PCIE_BAR0 6 0 / 2 ^ 32
  | 6 => s.get .PCIE_BAR2 6 0 % 2 ^ 32 + 4
  | 7 => s.get .PCIE_BAR2 6 0 / 2 ^ 32
  | 13 => 0x40
  | 16 => 1 + 0x50 * 2 ^ 8 + 3 * 2 ^ 16
  | 17 => 3 * s.get .PCIE_D3 6 0 + 2 ^ 3
  | 20 => 0x11 + 0x60 * 2 ^ 8 + 31 * 2 ^ 16 + s.get .PCIE_FMASK 6 0 * 2 ^ 30 + s.get .PCIE_MSIXEN 6 0 * 2 ^ 31
  | 21 => 0x1320000
  | 22 => 0x1321000
  | 24 => 0x10 + 2 * 2 ^ 16
  | 25 => 1 + 2 ^ 15 + 2 ^ 28
  | 26 => s.get .PCIE_MPS 6 0 * 2 ^ 5 + s.get .PCIE_URD 6 0 * 2 ^ 19
  | 27 => 4 + 4 * 2 ^ 4
  | 28 => (s.get .HP_STATUS_SPEED 6 0 + s.get .HP_STATUS_LINKUP 6 0) * 2 ^ 16 + s.get .HP_STATUS_WIDTH 6 0 * 2 ^ 20
  | 64 => 1 + 2 * 2 ^ 16
  | 65 => s.get .PCIE_UESTA 6 0
  | 66 => s.get .PCIE_UEMASK 6 0
  | 67 => s.get .PCIE_UESEV 6 0
  | _ => 0

/-- Configuration space, MSI-X table and PBA, HOST_IPEND and HOST_IMASK reset; the tail is told (R395). -/
def State.endpointReset (s : State) : State :=
  let s0 := s.each [.PCIE_MSE, .PCIE_D3, .PCIE_MSIXEN, .PCIE_FMASK, .PCIE_BAR0, .PCIE_BAR2, .PCIE_MPS, .PCIE_URD, .PCIE_UESTA, .PCIE_UEMASK,
    .PCIE_UESEV] fun (f : Fld) t => t.put f 6 0 (f.reset 6 0)
  let s2 := s0.each (List.range 32) fun v t =>
    (((t.put .MSIX_ADDR 6 v 0).put .MSIX_UADDR 6 v 0).put .MSIX_DATA 6 v 0).put .MSIX_CTRL 6 v 1
  let s3 := ((s2.put .MSIX_PBA 6 0 0).put .HOST_IPEND 6 0 0).put .HOST_IMASK 6 0 0
  (s3.put .HP_TPEND_FLR 6 0 1).fault .HP_FLR 6 0 Config.noInstance

/-- The requests of the PCIe host in progress end, and a write burst at `addr`, of `len` beats (0 none), with them: the beats accepted are
written (R214). -/
def State.hostEnds (s : State) (addr len : Nat) (beats : List Nat) : State :=
  { s with hostQ := [] }.truncate (s.request 6 18 addr true 16 0) len beats

/-- A write of a word of the configuration space. Of a BAR the bits above its size are kept; only D0 and D3hot are power states; bit 15
of device control asks for a function-level reset (R395). -/
def State.configWrite (s : State) (v : Nat) : Nat → State
  | 1 => s.put .PCIE_MSE 6 0 (bitAt v 1)
  | 4 => s.put .PCIE_BAR0 6 0 (s.get .PCIE_BAR0 6 0 / 2 ^ 32 * 2 ^ 32 + v % 2 ^ 32 / 2 ^ 26 * 2 ^ 26)
  | 5 => s.put .PCIE_BAR0 6 0 (s.get .PCIE_BAR0 6 0 % 2 ^ 32 + v % 2 ^ 32 * 2 ^ 32)
  | 6 => s.put .PCIE_BAR2 6 0 (s.get .PCIE_BAR2 6 0 / 2 ^ 32 * 2 ^ 32 + v % 2 ^ 32 / 2 ^ 28 * 2 ^ 28)
  | 7 => s.put .PCIE_BAR2 6 0 (s.get .PCIE_BAR2 6 0 % 2 ^ 32 + v % 2 ^ 32 * 2 ^ 32)
  | 17 => if v % 4 = 3 then s.put .PCIE_D3 6 0 1 else s.when (v % 4 = 0) fun t => t.put .PCIE_D3 6 0 0
  | 20 =>
    let t := s.put .PCIE_MSIXEN 6 0 (bitAt v 31)
    if bitAt v 30 = 1 then t.put .PCIE_FMASK 6 0 1 else t.run (execMsixUnmask 32)
  | 26 =>
    let t := s.put .PCIE_MPS 6 0 (bitsAt v 5 3)
    let u := t.when (bitAt v 19 = 1) fun u => u.put .PCIE_URD 6 0 0
    u.when (bitAt v 15 = 1) fun w => (w.hostEnds 0 0 []).endpointReset
  | 65 => s.put .PCIE_UESTA 6 0 (s.get .PCIE_UESTA 6 0 &&& (2 ^ 32 - 1 ^^^ v))
  | 66 => s.put .PCIE_UEMASK 6 0 v
  | 67 => s.put .PCIE_UESEV 6 0 v
  | _ => s

/-- PCIE_CONFIG_REQUEST (R392, R501). -/
def execPcieConfigRequest (reg : Nat) (write : Bool) (data : Nat) (s : State) : Result :=
  .next <| s.when (s.pcieUp = true) fun t =>
    if write then (t.configWrite data reg).complete 0 0 else t.complete 0 (t.configRead reg)

/-- PCIE_LINK_CHANGE (R412): the link enters L0 with a speed and width, or leaves it; by a reset of R395 without a fault. -/
def execPcieLinkChange (up speed width : Nat) (byReset : Bool) (s : State) : Result :=
  .next <| s.when (s.get .IN_PORST 6 0 = 0 ∧ s.get .HP_CFG 6 0 = 0 ∧ s.get .PCIE_PERST 6 0 = 0) fun s =>
    let t := ((s.put .HP_STATUS_LINKUP 6 0 up).put .HP_STATUS_SPEED 6 0 (if up = 1 then speed else 0)).put .HP_STATUS_WIDTH 6 0
      (if up = 1 then width else 0)
    if up = 1 then t.condEnd .HP_LINK_DOWN 6 0 Config.noInstance
    else t.when (s.on .HP_STATUS_LINKUP 6 0 = true ∧ byReset = false) fun u => u.condBegin .HP_LINK_DOWN 6 0 Config.noInstance

/-! ### Resets of the endpoint (R395) -/

/-- FLR (R395): a function-level or hot reset. -/
def execFlr (addr len : Nat) (beats : List Nat) (s : State) : Result :=
  .next <| s.when (s.pcieUp = true) fun t => (t.hostEnds addr len beats).endpointReset

/-- PCIE_PERST (R395): PCIE_PERST_N is asserted (`level` 0) or deasserted. -/
def execPciePerst (level addr len : Nat) (beats : List Nat) (s : State) : Result :=
  .next <|
    if level = 1 then s.put .PCIE_PERST 6 0 0
    else (s.when (s.get .IN_PORST 6 0 = 0 ∧ s.get .PCIE_PERST 6 0 = 0 ∧ s.get .HP_CFG 6 0 = 0) fun t =>
      (((t.hostEnds addr len beats).endpointReset.put .HP_STATUS_LINKUP 6 0 0).put .HP_STATUS_SPEED 6 0 0).put .HP_STATUS_WIDTH 6 0
        0).put .PCIE_PERST 6 0 1

/-! ### The QSPI slave (R396 to R399, R505) -/

/-- Command bytes. -/
abbrev qRd0 : Nat := 1
abbrev qWr0 : Nat := 2
abbrev qRd2 : Nat := 3
abbrev qWr2 : Nat := 4
abbrev qStat : Nat := 5

/-- The QSPI port is selected and no transaction is in progress. -/
def State.qspiIdle (s : State) : Bool := s.get .HP_CFG 6 0 == 1 && s.get .QSPI_CMD 6 0 == 0 && s.hostAlive

/-- A transaction of a command is in progress, `nibbles` of a further word transferred. -/
def State.qspiBegin (s : State) (cmd nibbles : Nat) : State := (s.put .QSPI_CMD 6 0 (256 + cmd)).put .QSPI_NIB 6 0 nibbles

/-- A bad command (R396): IO stays high-impedance until CS_N rises. -/
def State.qspiBad (s : State) (cmd : Nat) : State :=
  (((s.qspiBegin cmd 0).put .QSPI_BAD 6 0 1).put .QSPI_STATUS_BADCMD 6 0 1).fault .QSPI_BADCMD 6 0 Config.noInstance

/-- An address that makes its command a bad one. -/
def qspiRefuses (bar o : Nat) : Bool := o % 4 != 0 || (if bar = 0 then 2 ^ 26 ≤ o else 2 ^ 28 ≤ o)

/-- The words of a transaction, as the accesses of a request. -/
def qspiParts (n : Nat) : List (Nat × Nat) := (List.range n).map fun k => (4 * k, 4)

/-- A read (R396, R397): `n` whole words and `nibbles` of the next are transferred; the slave asks for the first word after the
address and for word k + 1 at the first nibble of word k. `late` are the words hit by A1-04. -/
def State.qspiRead (s : State) (cmd bar o n nibbles : Nat) (late : List Nat) : State :=
  s.when (s.qspiIdle = true) fun s =>
    if qspiRefuses bar o then s.qspiBad cmd
    else (s.qspiBegin cmd nibbles).hostTake ⟨true, bar, o, false, 0, none, (0, 0), 0, qspiParts (n + if nibbles = 0 then 1 else 2), 0, none, n, late⟩

/-- A write: whole words, and `nibbles` of one more. -/
def State.qspiWrite (s : State) (cmd bar o : Nat) (words : List Nat) (nibbles : Nat) : State :=
  s.when (s.qspiIdle = true) fun s =>
    if qspiRefuses bar o then s.qspiBad cmd
    else (s.qspiBegin cmd nibbles).hostTake ⟨true, bar, o, true, words.foldr (fun w v => w % 2 ^ 32 + 2 ^ 32 * v) 0, none, (0, 0), 0,
      qspiParts words.length, 0, none, 0, []⟩

/-- RD0 (R396). -/
def execRd0 (offset words nibbles : Nat) (late : List Nat) (s : State) : Result :=
  .next <| s.qspiRead qRd0 0 offset words nibbles late

/-- RD2 (R396). -/
def execRd2 (offset words nibbles : Nat) (late : List Nat) (s : State) : Result :=
  .next <| s.qspiRead qRd2 2 offset words nibbles late

/-- WR0 (R396, R398). -/
def execWr0 (offset : Nat) (data : List Nat) (nibbles : Nat) (s : State) : Result :=
  .next <| s.qspiWrite qWr0 0 offset data nibbles

/-- WR2 (R396, R398). -/
def execWr2 (offset : Nat) (data : List Nat) (nibbles : Nat) (s : State) : Result :=
  .next <| s.qspiWrite qWr2 2 offset data nibbles

/-- STAT (R396): QSPI_STATUS is read again and again. -/
def execStat (nibbles : Nat) (s : State) : Result :=
  .next <| s.when (s.qspiIdle = true) fun t => (t.qspiBegin qStat nibbles).reply (t.regAt 6 .hp 0 0x1C) false

/-- BAD_COMMAND (R396): a command byte that is not listed. -/
def execBadCommand (cmd : Nat) (s : State) : Result :=
  .next <| s.when (s.qspiIdle = true ∧ (cmd < 1 ∨ 5 < cmd)) fun t => t.qspiBad cmd

/-- QSPI_CS_RISE (R398): the transaction ends; within a word that word is discarded. Words of a write still held are performed; a read
that awaits another unit ends with it. -/
def execQspiCsRise (s : State) : Result :=
  .next <|
    let cut := s.get .QSPI_NIB 6 0 != 0
    let t := ((s.put .QSPI_CMD 6 0 0).put .QSPI_NIB 6 0 0).put .QSPI_BAD 6 0 0
    let u := { t with hostQ := t.hostQ.filter fun k => k.write }
    (u.hostNext u.hostQ.length).when (cut = true) fun v => (v.put .QSPI_STATUS_ABORT 6 0 1).fault .QSPI_ABORT 6 0 Config.noInstance

/-! ### The pins of the QSPI slave (R192, R391, R397, R486) -/

/-- Words the slave holds that the fabric has not accepted: at most three. -/
def State.qspiHeld (s : State) : Nat :=
  min 3 ((s.hostQ.filter fun k => k.qspi && k.write).map fun k => k.rest.length + flag k.tag.isSome).sum

/-- The word of the next nibble has not returned: a read awaits it, and it is not the one read ahead of a word in transfer. -/
def State.qspiAwaits (s : State) : Bool :=
  s.hostQ.any fun k => k.qspi && !k.write && !(k.rest == [] && s.get .QSPI_NIB 6 0 != 0)

/-- An access of the host port waits on a bank (R192). -/
def State.hostBusy (s : State) : Bool := s.busyAcc.any fun b => b.access.host

/-- The level of HBUSY: none with PCIe selected and while every output is high-impedance (R391, R486); low while CS_N is high. -/
def State.hbusy (s : State) : Option Bool :=
  if s.get .HP_CFG 6 0 = 0 ∨ s.pinsFloat = true then none
  else some (s.get .QSPI_CMD 6 0 != 0 && (s.hostBusy || s.qspiAwaits || 2 ≤ s.qspiHeld))

/-- The slave drives the QSPI IO pins: in a read that is no bad command, with QSPI selected (R391, R396). -/
def State.qspiDrives (s : State) : Bool :=
  !s.pinsFloat && s.get .HP_CFG 6 0 == 1 && s.get .QSPI_BAD 6 0 == 0 &&
    [256 + qRd0, 256 + qRd2, 256 + qStat].contains (s.get .QSPI_CMD 6 0)

end Sys2Proof.Machine
end

