-- ==== Sys2Proof/Machine/Boot.lean ====
section
/-! DEFINITION. Power-on reset and the straps (R459 to R467), the power-fail snapshot (R470 to R472), the wake-only state (R475,
R476). -/

namespace Sys2Proof.Machine

/-! ### Power-on reset (R461, R468, R476) -/

/-- The die number under which memory keys of the page being programmed lie. -/
abbrev pageKeys : Nat := 11

/-- Cells a power-on reset leaves: eFuse, which snapshot pages are erased, the always-on domain, the levels of input pins, and until its
release the straps as sampled (R459). -/
def keptCell (l : Loc) : Bool :=
  match l.fld with
  | .EFUSE_REP | .EFUSE_BAD | .SNAP_PGE | .WAKE_N_PIN | .SLEEP_ACK_PIN | .WAKE_ONLY | .AON_LANE | .REF_RAW | .GPIO_RAW
  | .PCIE_PERST | .REFCLK_OK | .STRAP_BOOTSRC | .STRAP_TESTMODE | .HP_CFG | .RING_STATUS_HEAD => true
  | .MAC_ADDR => l.die == 6 && l.inst == 0
  | .MAC_WAKE_CFG_PEN | .MAC_WAKE_CFG_MAGIC | .MAC_WAKE_STAT_PHIT | .MAC_WAKE_STAT_MHIT | .WAKE_PAT | .WAKE_MASK =>
    l.die == 6
  | _ => false

/-- Bytes the NOR holds. -/
def norByte (k : Nat) : Bool := norKeys * 2 ^ 32 ≤ k && k < (norKeys + 1) * 2 ^ 32

/-- A burn that is interrupted leaves a parity that fails in the entries it was to write (R203). -/
def State.burnsCut (s : State) : State :=
  s.each (allDies.filter fun d => s.on .LF_FUSE_BUSY d 0) fun d t =>
    let b := s.get .LF_FUSEB d 0
    t.each (s.burnable d b) fun e u => u.put .EFUSE_BAD d (b * 4 + e) 1

/-- Everything but what the reset leaves takes its reset value. -/
def State.powerOn (s : State) : State :=
  { State.reset with
    cells := s.burnsCut.cells.filter fun c => keptCell c.1, mem := s.mem.filter fun c => norByte c.1,
    freeCtr := s.freeCtr, pending := s.pending }

/-- The bytes of a snapshot page take free values. -/
def State.openPage (s : State) (p : Nat) : State := (s.storeBytes norKeys (p * 256) (natBytes 256 s.free)).drawn

/-- A page whose program was cut fails its CRC (R472): free bytes under a CRC that is not theirs. A page whose erase has begun
is taken to be like it. DEDUCED (log entry 75). -/
def State.cutPage (s : State) (p : Nat) : State :=
  let t := (s.openPage p).put .SNAP_PGE 6 p 0
  let bytes := (t.pageBytes p).take 252
  (t.store norKeys (p * 256 + 252) 4 (crc32 bytes ^^^ (t.free % (2 ^ 32 - 1) + 1))).drawn

/-- PORST_ASSERT (R461): power-on reset; a program in progress is cut. -/
def execPorstAssert (s : State) : Result :=
  .next <|
    let t := s.when (s.on .SNAP_BUSY 6 0 = true) fun u => u.cutPage (u.get .SNAP_PAGE 6 0)
    t.powerOn.put .IN_PORST 6 0 1

/-- The banks of a die with an entry whose parity fails, each once. -/
def State.fuseBad (s : State) (d : Nat) : List Nat :=
  ((s.cells.filter fun c => c.1.fld == .EFUSE_BAD && c.1.die == d && c.2 == 1).map fun c => c.1.inst / 4).eraseDups

/-- The soft-repair entries come from eFuse; an entry whose parity fails is not loaded and raises BANK_FUSE_ERR (R202, R206, R461). -/
def State.loadRepair (s : State) : State :=
  let t := s.each (s.cells.filter fun c => c.1.fld == .EFUSE_REP) fun c t =>
    t.when (bitAt c.2 15 = 1 ∧ t.get .EFUSE_BAD c.1.die c.1.inst = 0) fun u =>
      u.repPut c.1.die (c.1.inst / 4) (c.1.inst % 4) (bitsAt c.2 0 9) 1 1
  t.each allDies fun d u => u.raises d 0 ((s.fuseBad d).map fun b => ⟨.BANK_FUSE_ERR, b⟩)

/-- The die number under which memory keys of gill memory lie (R20, R387): only the gill reaches it (R217), and the spec gives no
address in it. -/
abbrev gillKeys : Nat := 12

/-- The image set whose stage 2 the ROM accepts (R459, R467); 0 none. -/
def bootSet (bootsrc : Nat) (good1 good2 : Bool) : Nat :=
  if bootsrc = 0 then (if good1 then 1 else 0)
  else if bootsrc = 1 then (if good1 then 1 else if good2 then 2 else 0)
  else 0

/-- Boot steps 1 and 2 (R462): the eFuse repairs, and stage 2 of the set accepted, which waits for the first lock of every die. With none the
ROM stops (R464). -/
def State.bootBegin (s : State) (set : Nat) (stage2 : List Nat) : State :=
  let t := s.loadRepair.put .BOOT_SET 6 0 set
  t.when (set ≠ 0) fun u => (u.storeBytes gillKeys 0 stage2).bootStep 2 allDies

/-- PORST_RELEASE (R459, R460, R462): the straps as sampled (`head` 1 for RING_HEAD_N low, `test` 1 for TESTMODE_N low), and
whether stage 2 of each image set verifies, and the bytes of the one accepted, which go into gill memory. PORST_N was low until then, so the reset has been in force (log entry 92). -/
def execPorstRelease (bootsrc head hostsel test : Nat) (good1 good2 : Bool) (stage2 : List Nat) (s : State) : Result :=
  .next <|
    let s1 := (((s.powerOn.put .WAKE_N_PIN 6 0 0).put .SLEEP_ACK_PIN 6 0 0).put .AON_LANE 6 0 0).put .WAKE_ONLY 6 0 0
    let s2 := (((s1.put .STRAP_BOOTSRC 6 0 bootsrc).put .STRAP_TESTMODE 6 0 test).put .HP_CFG 6 0 hostsel).put
      .RING_STATUS_HEAD 6 0 head
    let s3 := s2.each (allDies.filter fun d => s2.on .REFCLK_OK d 0) fun d t => t.mdllStart d 0
    s3.when (test = 0) fun t => (t.bootBegin (bootSet bootsrc good1 good2) stage2).condBegin .AXO_TAIL_DOWN 6 0 Config.noInstance

/-- RING_STEP (R462, R463): when both ports are UP, or 0.6 s after the release; a unit with both DOWN completes start-up without an
address. -/
def execRingStep (s : State) : Result :=
  .next <| s.when (5 ≤ s.get .BOOT_STEP 6 0 ∧ s.get .RING_STEPPED 6 0 = 0 ∧
      ((s.portUp 6 = true ∧ s.portUp 7 = true) ∨ 600000000 ≤ s.capture 6)) fun s =>
    let up := s.portUp 6 || s.portUp 7
    let t := ((s.put .RING_STEPPED 6 0 1).put .RING_UPSTEP 6 0 (flag up)).put .RING_STEPT 6 0 (s.capture 6)
    (t.when (t.on .RING_STATUS_HEAD 6 0 = true ∧ up = true) State.enumStart).readyDue

/-! ### The snapshot (R470 to R472) -/

/-- The records of a snapshot: by severity, then in the order of R443, the first 8. -/
def State.snapshotRecs (s : State) : List FaultRec :=
  let recs := (allSets.filter fun (q : Nat × Nat) => s.regsReach q.1 q.2 && s.on .FLT_FIRST_VALID q.1 q.2).map fun q =>
    s.faultRec q.1 q.2 (s.get .FLT_FIRST_CODE q.1 q.2)
  (sortBy (fun a b => b.sev < a.sev || (a.sev == b.sev && a.before b)) recs).take 8

/-- SEQ of the next snapshot; with no valid page the spec gives none, a free value. -/
def State.nextSeq (s : State) : Nat :=
  match s.newestPage with
  | none => s.free % 2 ^ 32
  | some p => (s.pageSeq p + 1) % 2 ^ 32

/-- Bytes 0 to 251 of a snapshot (R471); the places of records it does not have are free. -/
def State.snapshotBytes (s : State) : List Nat :=
  let recs := s.snapshotRecs
  natBytes 4 s.nextSeq ++ natBytes 8 (s.capture 6) ++ ([0, 1, 2].map fun D => natBytes 4 (s.get .TB_GEN 6 D)).flatten ++
    [s.ringAddr, s.get .PAIR_CFG_PAIRID 6 0, s.get .PAIR_STATUS_ROLE 6 0, s.get .PAIR_STATUS_SYNC 6 0] ++
      natBytes 8 (s.get .PAIR_ACTSINCE 6 0) ++ [recs.length, 0, 0, 0] ++ (recs.map FaultRec.bytes).flatten ++
        natBytes (24 * (8 - recs.length)) s.drawn.free ++ List.replicate 20 0

/-- The erased page a snapshot may go to: never the one that holds the newest. -/
def State.erasedPage (s : State) : Option Nat :=
  [0, 1].find? fun p => s.on .SNAP_PGE 6 p && s.newestPage != some p

/-- The gill's scan reads every set it reaches (R442, R470), and FLT_CNT of those with a record (R7, R455). -/
def State.scanned (s : State) : State :=
  s.each (allSets.filter fun (q : Nat × Nat) => s.regsReach q.1 q.2 && s.on .FLT_FIRST_VALID q.1 q.2) fun q t => t.setRead q.1 q.2

/-- The gill writes a snapshot if it can (R470, R472): with an erase in progress it abandons the erase and writes none. -/
def State.snapshot (s : State) : State :=
  if s.on .SNAP_BUSY 6 0 then s
  else if s.on .SNAP_ERASING 6 0 then s.put .SNAP_ERASING 6 0 0
  else
    match s.erasedPage with
    | none => s
    | some p =>
      let bytes := s.snapshotBytes
      let t := s.scanned.storeBytes pageKeys 0 (bytes ++ natBytes 4 (crc32 bytes))
      ((t.drawn.drawn.put .SNAP_BUSY 6 0 1).put .SNAP_PAGE 6 0 p)

/-- PFAIL_ACCEPT (R470): before stage 2 runs there is no snapshot. -/
def execPfailAccept (s : State) : Result :=
  .next <| s.when (s.get .IN_PORST 6 0 = 0) fun s =>
    (s.put .PFAIL_PIN 6 0 1).when (s.stage2 = true) State.snapshot

/-- The lane is handed over, SLEEP_ACK is asserted (R475). -/
def State.sleepAck (s : State) : State :=
  let mode := s.get .MAC_CFG_MODE 6 0
  (((s.when (mode = 1 ∨ mode = 2) fun t => t.put .AON_LANE 6 0 1).put .SLEEP_ACK_PIN 6 0 1).put .WAKE_ONLY 6 0 1).put .SNAP_SLEEP 6 0
    0

/-- SNAPSHOT_PROGRAM_DONE (R472, R475). -/
def execSnapshotProgramDone (s : State) : Result :=
  .next <| s.when (s.on .SNAP_BUSY 6 0 = true) fun s =>
    let p := s.get .SNAP_PAGE 6 0
    let t := ((s.storeBytes norKeys (p * 256) (s.loadBytes pageKeys 0 256)).put .SNAP_PGE 6 p 0).put .SNAP_BUSY 6 0 0
    t.when (t.on .SNAP_SLEEP 6 0 = true) State.sleepAck

/-- SNAPSHOT_ERASE (R472): PFAIL_N being high, stage 2 erases a page that is not erased and does not hold the newest snapshot. -/
def execSnapshotErase (s : State) : Result :=
  .next <| s.when (s.get .IN_PORST 6 0 = 0) fun s =>
    (s.put .PFAIL_PIN 6 0 0).when (s.stage2 = true ∧ s.get .SNAP_BUSY 6 0 = 0 ∧ s.get .SNAP_ERASING 6 0 = 0) fun s =>
    match [0, 1].find? fun p => s.get .SNAP_PGE 6 p == 0 && s.newestPage != some p with
    | none => s
    | some p => ((s.cutPage p).put .SNAP_ERASING 6 0 1).put .SNAP_PAGE 6 0 p

/-- SNAPSHOT_ERASE_DONE (R472). -/
def execSnapshotEraseDone (s : State) : Result :=
  .next <| s.when (s.on .SNAP_ERASING 6 0 = true) fun s =>
    let p := s.get .SNAP_PAGE 6 0
    ((s.storeBytes norKeys (p * 256) (List.replicate 256 0xFF)).put .SNAP_PGE 6 p 1).put .SNAP_ERASING 6 0 0

/-- SLEEP_ENTRY (R475): edges of PFAIL_N and SLEEP_N during entry share one snapshot; without one the gill goes on at once. -/
def execSleepEntry (s : State) : Result :=
  .next <| s.when (s.stage2 = true ∧ s.get .WAKE_ONLY 6 0 = 0) fun s =>
    let t := s.snapshot
    if t.on .SNAP_BUSY 6 0 then t.put .SNAP_SLEEP 6 0 1 else t.sleepAck

end Sys2Proof.Machine
end

