-- ==== Sys2Proof/Machine/Csf.lean ====
section
/-! DEFINITION. CSF's commands on the unit, its graph, its parameters and its meters (R414 to R418, R427, R431 to R434). A payload
is its fields in the order R418 lists them, without gaps; a field without a width is one byte. DEDUCED (log entry 76). -/

namespace Sys2Proof.Machine

/-! ### What CSF reaches -/

/-- The tail reaches a die. -/
def State.csfReaches (s : State) (d : Nat) : Bool := s.dieClocked d && s.routeUp 6 d

/-- CSF reads a register: its value; RC fields clear (R7). -/
def State.csfReg (s : State) (d : Nat) (b : Block) (bi off : Nat) : State × Nat :=
  match regFind d b bi off with
  | none => (s, 0)
  | some h => (s.readClears d 0 h, s.regValue d h)

/-- CSF reads registers of a block, `w` bytes each: the state, the bytes. -/
def State.csfRegs (s : State) (d : Nat) (b : Block) (bi w : Nat) : List Nat → State × List Nat
  | [] => (s, [])
  | o :: t =>
    let q := s.csfReg d b bi o
    let r := q.1.csfRegs d b bi w t
    (r.1, natBytes w q.2 ++ r.2)

/-- CSF reads words of memory: the state, the values, whether all were answered. -/
def State.csfWords (s : State) (d : Nat) : List Nat → State × List Nat × Bool
  | [] => (s, [], true)
  | a :: t =>
    let q := s.csfRead d a
    let r := q.1.csfWords d t
    (r.1, q.2 :: r.2.1, !q.1.answer.err && r.2.2)

/-- The unit is head of its ring, or acts as head (R423). -/
def State.isHead (s : State) : Bool := s.get .RING_STATUS_UP 6 0 == 0 || s.on .RING_STATUS_HEAD 6 0

/-- A ring-wide domain's command belongs to the head (R423). -/
def State.notHead (s : State) (D : Nat) : Bool := s.ringWide D && !s.isHead

/-- Live generation of a domain, on the die that holds the element (R427). -/
def State.genOn (s : State) (d D : Nat) : Nat := s.get .TB_GEN d D

/-- The value that stands for NEXT (R421). -/
abbrev nextT : Nat := 2 ^ 64 - 1

/-- The earliest target that R55 accepts now. -/
def State.earliest (s : State) (D : Nat) : Nat := (s.domcnt D / s.bsize D + 2) * s.bsize D

/-! ### Handles (R417) -/

abbrev kindParam : Nat := 1
abbrev kindRoute : Nat := 2
abbrev kindMeter : Nat := 3
abbrev kindPath : Nat := 4
abbrev kindSource : Nat := 5

/-- INDEX, KIND and UNIT. -/
def handleIndex (h : Nat) : Nat := bitsAt h 0 24
def handleKind (h : Nat) : Nat := bitsAt h 24 4
def handleUnit (h : Nat) : Nat := bitsAt h 28 4

/-- The handle of a kind and an index, of this unit. -/
def handleOf (kind index : Nat) : Nat := 15 * 2 ^ 28 + kind * 2 ^ 24 + index

/-- What the loaded image defines under a handle of a kind. -/
def State.lookup {α : Type} (s : State) (kind h : Nat) (list : GraphImage → List α) (index : α → Nat) : Option α :=
  if handleKind h = kind then (s.image.map list).getD [] |>.find? fun x => index x == handleIndex h else none

/-- A handle of this unit. -/
def State.ownHandle {α : Type} (s : State) (kind h : Nat) (list : GraphImage → List α) (index : α → Nat) : Option α :=
  if s.ownUnit (handleUnit h) then s.lookup kind h list index else none

/-! ### Unknown opcodes (R414) -/

/-- The opcodes of R418. -/
def csfOpcodes : List Nat :=
  [0x0101, 0x0102, 0x0103, 0x0104, 0x0105, 0x0201, 0x0202, 0x0203, 0x0204, 0x0205, 0x0206, 0x0207, 0x0301, 0x0302, 0x0303,
    0x0304, 0x0305, 0x0306, 0x0401, 0x0402, 0x0403, 0x0404, 0x0501, 0x0502, 0x0503, 0x0601, 0x0602, 0x0701, 0x0702, 0x0703,
    0x0704, 0x0801, 0x0802, 0x0803, 0x0804, 0x0805, 0x0901, 0x0902, 0x0903, 0x0904, 0x0905, 0x0A01, 0x0A02, 0x0A03, 0x0A04]

/-- UNKNOWN_OPCODE (R414). -/
def execUnknownOpcode (pair : Nat) (s : State) : Result :=
  let m := s.cmdMsg pair
  .next <| s.when (s.canServe pair = true ∧ csfOpcodes.contains m.opcode = false) fun t =>
    (t.turned pair).respond pair (if m.badHeader then eBadhdr else eOpcode) m.txid []

/-! ### The unit (R418) -/

/-- The ordering code, "LQC8-A1-FB4096" (R501). -/
def orderingCode : List Nat := [0x4C, 0x51, 0x43, 0x38, 0x2D, 0x41, 0x31, 0x2D, 0x46, 0x42, 0x34, 0x30, 0x39, 0x36]

/-- SYS_INFO (R418, R501). The two bytes after the 14 of the text are free (log entry 77). -/
def execSysInfo (pair : Nat) (s : State) : Result :=
  .next <| s.serve pair 0x0101 (ofLen 0) fun m t =>
    m.ok t.drawn (orderingCode ++ natBytes 2 t.free ++ natBytes 2 0x0104 ++ natBytes 8 (t.get .RING_DEVID 6 0) ++
      [t.ringAddr, t.get .PAIR_STATUS_ROLE 6 0, t.get .HP_CFG 6 0] ++ packBytes 4 ((List.range 12).map fun i => t.get .AXO_MEAS 6 i))

/-- SYS_STATUS. -/
def execSysStatus (pair : Nat) (s : State) : Result :=
  .next <| s.serve pair 0x0102 (ofLen 0) fun m t =>
    m.ok t (packBytes 4 ([0, 1, 2].map fun D => t.get .TB_GEN 6 D) ++ ([0, 1, 2].map fun D => t.get .EPOCH_STATUS_RUN 6 D) ++
      natBytes 4 (t.get .AXO_SHEDCNT 6 0) ++ natBytes 8 (t.get .AXO_TAILSTAMP 6 0))

/-- SYS_EVENTS (R416). -/
def execSysEvents (pair : Nat) (s : State) : Result :=
  .next <| s.serve pair 0x0103 (ofLen 4) fun m t => m.ok (t.put .CSF_EVMASK 6 pair (m.u32 0)) []

/-- SYS_RESTART_TAIL: the gill is asked for the shed (R388, R390). -/
def execSysRestartTail (pair : Nat) (s : State) : Result :=
  .next <| s.serve pair 0x0104 (ofLen 0) fun m t => m.ok t.restartTail []

/-- SYS_ECHO. -/
def execSysEcho (pair : Nat) (s : State) : Result := .next <| s.serve pair 0x0105 (fun _ => true) fun m t => m.ok t m.payload

/-! ### Graphs (R432, R433) -/

/-- Every domain is stopped. -/
def State.allStopped (s : State) : Bool := [0, 1, 2].all fun D => s.get .EPOCH_CFG_EN 6 D == 0 && s.get .EPOCH_STATUS_RUN 6 D == 0

/-- Newts that are HALTED or FAULTED, on dies the gill reaches (R469). -/
def State.stoppedNewts (s : State) : List (Nat × Nat) :=
  ((geckoDies.filter fun d => s.csfReaches d).map fun d =>
    ((List.range 32).filter fun n => s.newtIs d n newtHalted || s.newtIs d n newtFaulted).map fun n => (d, n)).flatten

/-- GRAPH_LOAD_BEGIN (R432, R469): the newts are reset by the gill, for which it waits (R470). -/
def execGraphLoadBegin (pair : Nat) (s : State) : Result :=
  .next <| s.when (s.get .SNAP_BUSY 6 0 = 0) fun s => s.serve pair 0x0201 (ofLen 8) fun m t =>
    if t.allStopped = false then m.refuse t eState
    else if 0x4000000 < m.u32 0 then m.refuse t eRange
    else
      let u := t.each t.stoppedNewts fun (q : Nat × Nat) v => v.run (execNewtReset q.1 q.2)
      let w := ({ u with image := none, snaps := [] }.zeroKeys (imageKeys * 2 ^ 32) (2 ^ 32)).put .IMG_STATE 6 0 1
      m.ok ((w.put .IMG_SIZE 6 0 (m.u32 0)).put .IMG_CRC 6 0 (m.u32 4)) []

/-- GRAPH_LOAD_DATA (R432). -/
def execGraphLoadData (pair : Nat) (s : State) : Result :=
  .next <| s.serve pair 0x0202 (fun m => 8 ≤ m.len && m.len % 4 == 0) fun m t =>
    let o := m.u32 0
    if t.get .IMG_STATE 6 0 ≠ 1 then m.refuse t eState
    else if o % 4 ≠ 0 ∨ t.get .IMG_SIZE 6 0 < o + (m.len - 4) then m.refuse t eRange
    else m.ok (t.storeBytes imageKeys o (m.payload.drop 4)) []

/-- CSF writes what an image places, a word at a time. -/
def State.placeBytes (s : State) (p : PlaceDef) : State :=
  s.each (List.range ((p.bytes.length + 3) / 4)) fun i t =>
    let b := slice p.bytes (4 * i) 4
    t.access (t.csfReq p.die (p.addr + 4 * i) true b.length (bytesNat b))

/-- Initial values go into both copies. -/
def State.placeElems (s : State) (d : Nat) (l : List (Nat × Nat)) (init : List Nat) : State :=
  s.each (l.zip init) fun (q : (Nat × Nat) × Nat) t => (t.csfWrite d q.1.1 q.2).csfWrite d q.1.2 q.2

/-- Stage 2 grants Biray ingress reads (`w` 0) or writes (1) of an SRAM class of a die (R218). -/
def State.grantSram (s : State) (d cls w : Nat) : State :=
  s.when (cls < 3) fun t => t.put .FAB_PERM d 6 (setBit (t.get .FAB_PERM d 6) (2 * cls + w))

/-- Biray ingress may write the target classes of the image's parameters and crosspoints (R423), and reach the classes that the image
declares (R218). Reads that the head asks for later come to the same classes: granted with the load, DESIGN CHOICE (log entry 112). -/
def State.grantElems (s : State) (g : GraphImage) : State :=
  let t := s.each s.imageElems fun (q : Nat × Nat × Nat × Nat) t =>
    t.each [q.2.2.1, q.2.2.2] fun a u => u.grantSram q.1 ((place q.1 a).cls q.1) 1
  t.each g.grants fun x u =>
    (u.when (x.read = true) fun v => v.grantSram x.die x.cls 0).when (x.write = true) fun v => v.grantSram x.die x.cls 1

/-- The image is placed: code and tables, then the crosspoints and the parameters in both copies. -/
def State.placeImage (s : State) (g : GraphImage) : State :=
  let t := { s.each g.places fun p u => u.placeBytes p with image := some g }
  let u := t.each g.params fun p v => v.placeElems p.die (ParamDef.elems p) p.init
  ((u.each g.routes fun r v => v.placeElems r.die (v.routeElems r) r.init).grantElems g).put .IMG_STATE 6 0 2

/-- GRAPH_LOAD_END (R432): the gill grants what the image declares, and is waited for (R470); the image a file holds is the operand `image`, since the file's layout is the compiler's. -/
def execGraphLoadEnd (pair : Nat) (image : GraphImage) (fits partnerOk : Bool) (s : State) : Result :=
  .next <| s.when (s.get .SNAP_BUSY 6 0 = 0) fun s => s.serve pair 0x0203 (ofLen 0) fun m t =>
    if t.get .IMG_STATE 6 0 ≠ 1 then m.refuse t eState
    else if crc32 (t.loadBytes imageKeys 0 (t.get .IMG_SIZE 6 0)) ≠ t.get .IMG_CRC 6 0 then m.refuse t eCrc
    else if fits = false then m.refuse t eImage
    else if t.get .PAIR_CFG_PAIRID 6 0 ≠ 0 ∧ partnerOk = false then m.refuse t eRemote
    else m.ok (t.placeImage image) []

/-- The domains of a mask. -/
def maskDoms (mask : Nat) : List Nat := (List.range 3).filter fun D => bitAt mask D == 1

/-- GRAPH_START (R433). -/
def execGraphStart (pair : Nat) (s : State) : Result :=
  .next <| s.serve pair 0x0204 (ofLen 9) fun m t =>
    let mask := m.u8 0
    let b := m.u64 1
    if 8 ≤ mask then m.refuse t eRange
    else if b = nextT then
      m.ok (t.each (maskDoms mask) fun D u => u.enableEpochs D) (startReply mask b fun D => (t.domcnt D / t.bsize D + 1) * t.bsize D)
    else if (maskDoms mask).any fun D => b % t.bsize D != 0 then m.refuse t eRange
    else if (maskDoms mask).any fun D => t.startWindow D b == 2 then m.refuse t eToolate
    else
      let q : CsfStart := ⟨pair, mask, mask, b⟩
      ⟨{ t with starts := t.starts ++ [q] }.startGo q, stOk, m.txid, [], true⟩

/-- GRAPH_STOP (R433). -/
def execGraphStop (pair : Nat) (s : State) : Result :=
  .next <| s.serve pair 0x0205 (ofLen 1) fun m t =>
    if 8 ≤ m.u8 0 then m.refuse t eRange else m.ok (t.each (maskDoms (m.u8 0)) fun D u => u.stopEpochs D) []

/-! ### Latency and bridges (R434, R418) -/

/-- `v` 2⁻¹⁶ samples of a rate `r` in 2⁻¹⁶ samples of a domain (R434); where that is no whole number the last place is open, and one for each
value (log entry 78). -/
def State.atRate (s : State) (D : Nat) (r : Nat × Nat) (v : Nat) : Nat :=
  let f := s.domFs D
  let n := v * f.1 * r.2
  let k := f.2 * r.1
  if n % k = 0 then n / k else n / k + Config.delayUp n k % 2

/-- The same of samples of another domain; a rate that is no domain's is taken to be this one's. -/
def State.fromDom (s : State) (D E v : Nat) : Nat := if E < 3 then s.atRate D (s.domFs E) (v * 65536) else v * 65536

/-- The delay of a bridge that a latency counts (R434), in 2⁻¹⁶ samples of a domain: BR_DELAY, the nominal value for a TRACK bridge. -/
def State.delayIn (s : State) (D b : Nat) : Nat :=
  let d := 6 + b / 128
  s.atRate D (s.brDstFs d (b % 128)) (if s.get .BR_CFG_SRCDOM d (b % 128) = 3 then s.brNominal d (b % 128) else s.get .BR_DELAY d (b % 128))

/-- The fixed format delay of a section (R246) in 2⁻¹⁶ samples of a domain: the level it starts at, 3 for a slave and 1 for a master, and one
frame of shifting. -/
def State.sectionIn (s : State) (D x : Nat) : Nat :=
  let d := 6 + x / 128
  s.fromDom D (s.get .SAP_CFG_DOMAIN d (x % 128)) (if s.on .SAP_CFG_MASTER d (x % 128) then 2 else 4)

/-- SRX_OFS of a receive stream in 2⁻¹⁶ samples of a domain (R333, R434). -/
def State.streamIn (s : State) (D i : Nat) : Nat :=
  let d := 6 + i / 128
  s.fromDom D (s.get .SRX_CFG_DOMAIN d (i % 128)) (s.get .SRX_OFS d (i % 128))

/-- The latency of a path in samples of its domain, 48.16 (R434). -/
def State.pathLatency (s : State) (p : PathDef) : Nat :=
  p.own + (p.sections.map fun x => s.sectionIn p.dom x).sum + (p.streams.map fun i => s.streamIn p.dom i).sum +
    (p.bridges.map fun b => s.delayIn p.dom b).sum

/-- GRAPH_QUERY_LATENCY (R434). -/
def execGraphQueryLatency (pair : Nat) (s : State) : Result :=
  .next <| s.serve pair 0x0206 (ofLen 4) fun m t =>
    match t.ownHandle kindPath (m.u32 0) (fun g => g.paths) (fun p => p.index) with
    | none => m.refuse t eHandle
    | some p => m.ok t ([p.dom] ++ List.replicate 7 0 ++ natBytes 8 (t.pathLatency p))

/-- GRAPH_QUERY_BRIDGE. -/
def execGraphQueryBridge (pair : Nat) (s : State) : Result :=
  .next <| s.serve pair 0x0207 (ofLen 2) fun m t =>
    let d := 6 + m.u16 0 / 128
    let b := m.u16 0 % 128
    if 256 ≤ m.u16 0 then m.refuse t eRange
    else if t.csfReaches d = false then m.refuse t eState
    else m.ok t ([t.brState d b] ++ natBytes 4 (t.get .BR_DELAY d b) ++ natBytes 4 (t.get .BR_RATIO d b))

/-! ### Parameters (R427) -/

/-- Elements FIRST to FIRST + COUNT − 1 of a vector, within it. -/
def inVector (first count len : Nat) : Bool := 1 ≤ count && count ≤ 58 && first + count ≤ len

/-- PARAM_GET (R427): live values. -/
def execParamGet (pair : Nat) (s : State) : Result :=
  .next <| s.serve pair 0x0306 (ofLen 8) fun m t =>
    match t.ownHandle kindParam (m.u32 0) (fun g => g.params) (fun p => p.index) with
    | none => m.refuse t eHandle
    | some p =>
      let es := ((ParamDef.elems p).drop (m.u16 4)).take (m.u16 6)
      let gen := t.genOn p.die p.dom
      let q := t.csfWords p.die (es.map fun (e : Nat × Nat) => if gen % 2 = 0 then e.1 else e.2)
      if inVector (m.u16 4) (m.u16 6) p.init.length = false then m.refuse t eRange
      else if q.2.2 = false then m.refuse q.1 eState
      else m.ok q.1 (natBytes 4 gen ++ natBytes 4 0 ++ packBytes 4 q.2.1)

/-! ### Meters (R431) -/

/-- METER_SNAPSHOT (R431): EPOCH_SNAP_AT is armed. -/
def execMeterSnapshot (pair : Nat) (s : State) : Result :=
  .next <| s.serve pair 0x0601 (ofLen 9) fun m t =>
    let D := m.u8 0
    let T := if m.u64 1 = nextT then t.earliest D else m.u64 1
    if 3 ≤ D then m.refuse t eRange
    else if t.notHead D then m.refuse t eNothead
    else if t.on .EPOCH_CSTAT_SNAP_PEND 6 D then m.refuse t eFull
    else if t.badAlign D T then m.refuse t eBadalign
    else if t.tooLate D T then m.refuse t eToolate
    else m.ok ((t.put .EPOCH_SNAP_AT 6 D T).run (execSnapArm D)) (natBytes 8 T)

/-- METER_READ (R431); what a meter reads before any snapshot is free (log entry 79). -/
def execMeterRead (pair : Nat) (s : State) : Result :=
  .next <| s.serve pair 0x0602 (ofLen 8) fun m t =>
    match t.ownHandle kindMeter (m.u32 0) (fun g => g.meters) (fun x => x.index) with
    | none => m.refuse t eHandle
    | some x =>
      let n := m.u16 6
      let src := natBytes 8 (t.get .EPOCH_SNAP_SRC 6 x.dom)
      if inVector (m.u16 4) n x.count = false then m.refuse t eRange
      else
        match t.snaps.find? fun (q : Nat × List Nat) => q.1 == x.index with
        | none => m.ok t.drawn (src ++ natBytes (4 * n) t.free)
        | some q => m.ok t (src ++ packBytes 4 (slice q.2 (m.u16 4) n))

end Sys2Proof.Machine
end

