-- ==== Sys2Proof/Machine/CsfTx.lean ====
section
/-! DEFINITION. CSF's transactions, routes and scenes (R419 to R430). -/

namespace Sys2Proof.Machine

/-! ### Transactions held (R419, R420) -/

/-- STATE of a transaction. -/
abbrev txOpen : Nat := 1
abbrev txQueued : Nat := 2
abbrev txArmed : Nat := 3
abbrev txCommit : Nat := 4
abbrev txAborted : Nat := 5
abbrev txFailed : Nat := 6

/-- A transaction that has ended, its catch-up with it. -/
def CsfTx.ended (x : CsfTx) : Bool := txCommit < x.state || (x.state == txCommit && x.caught)

/-- A transaction that is QUEUED or ARMED. -/
def CsfTx.waits (x : CsfTx) : Bool := x.state == txQueued || x.state == txArmed

/-- The transaction of a TXID. -/
def State.txFind (s : State) (id : Nat) : Option CsfTx := s.txs.find? fun x => x.id == id

/-- The records of the 1,024 transactions ended last stay (R420). -/
def State.txPrune (s : State) : State :=
  let old := s.txs.filter CsfTx.ended
  let gone := (old.take (old.length - 1024)).map fun x => x.id
  { s with txs := s.txs.filter fun x => !gone.contains x.id }

/-- A transaction comes to a new state. -/
def State.txMove (s : State) (x : CsfTx) : State :=
  State.txPrune { s with txs := (s.txs.filter fun (y : CsfTx) => y.id != x.id) ++ [x] }

/-- A transaction changes where it is. -/
def State.txKeep (s : State) (x : CsfTx) : State := { s with txs := s.txs.map fun y => if y.id = x.id then x else y }

/-- Transactions of a domain that are QUEUED or ARMED. -/
def State.txWaiting (s : State) (D : Nat) : List CsfTx := s.txs.filter fun x => x.dom == D && x.waits

/-- Transactions neither committed nor ended. -/
def State.txHeld (s : State) : Nat := (s.txs.filter fun x => x.state ≤ txArmed).length

/-- The TXID assigned next: 0 is none. -/
def State.nextTxid (s : State) : Nat := if s.get .CSF_TXID 6 0 = 2 ^ 32 - 1 then 1 else s.get .CSF_TXID 6 0 + 1

/-- A new transaction of a domain. -/
def State.txNew (s : State) (D : Nat) (elems : List TxElem) : State × CsfTx :=
  let x : CsfTx := ⟨s.nextTxid, D, txOpen, 0, 0, 0, elems, [], false, 0⟩
  ({ s.put .CSF_TXID 6 0 s.nextTxid with txs := s.txs ++ [x] }, x)

/-- The place of an element. -/
def TxElem.sameAs (a b : TxElem) : Bool := a.unit == b.unit && a.die == b.die && a.a0 == b.a0

/-- Elements buffered: a later write replaces an earlier one (R419). -/
def bufferElems (old new : List TxElem) : List TxElem := (old.filter fun a => new.all fun b => !a.sameAs b) ++ new

/-- The unit of a handle as elements hold it: 15 for this one. -/
def State.unitOf (s : State) (h : Nat) : Nat := if s.ownUnit (handleUnit h) then 15 else handleUnit h

/-! ### Other units (R423) -/

/-- PAIRID of a unit, as its HEALTH frames carry it. -/
def State.pairOf (s : State) (u : Nat) : Nat := if s.ownUnit u then s.get .PAIR_CFG_PAIRID 6 0 else s.get .CSF_UPAIR 6 u

/-- The partner of a unit: 15 stands for this one. -/
def State.partnerOf (s : State) (u : Nat) : List Nat :=
  if s.pairOf u = 0 then []
  else if s.ownUnit u then ((List.range 15).filter fun v => !s.ownUnit v && s.pairOf v == s.pairOf u).take 1
  else if s.pairOf 15 = s.pairOf u then [15]
  else ((List.range 15).filter fun v => v != u && !s.ownUnit v && s.pairOf v == s.pairOf u).take 1

/-- The units an element is written to: the one named, and its partner in a ring-wide domain. -/
def State.elemUnits (s : State) (D u : Nat) : List Nat := u :: if s.ringWide D then s.partnerOf u else []

/-- CSF makes an access to another unit and has its answer, the first of `far` (R24, R25, R365): the data (0 of a write), none where it fails;
the answers left. Where the fabric itself refuses the access none is used up. With no answer left, none comes within 100 µs. -/
def State.csfRemote (s : State) (u d a : Nat) (write : Bool) (v : Nat) (far : List FarAnswer) : State × Option Nat × List FarAnswer :=
  match s.fabEnter (s.request 6 17 (u * 2 ^ 36 + d * 2 ^ 32 + a) write 4 v) with
  | (t, .remote) =>
    let n := t.remoteReq 6 17 u d a write 4 v 3
    match n.remote.getLast?, far.headD .timeout with
    | some q, .data x => ({ n with remote := n.remote.erase q }.reply x false, some x, far.drop 1)
    | some q, .refused => ({ n with remote := n.remote.erase q }.reply 0 true, none, far.drop 1)
    | some q, .timeout => (n.remoteLost q, none, far.drop 1)
    | none, _ => (n, none, far)
  | (t, _) => (t, none, far)

/-- A word of a unit is written; whether another unit took it. -/
def State.wordPut (s : State) (u d a v : Nat) (far : List FarAnswer) : State × Bool × List FarAnswer :=
  if s.ownUnit u then (s.csfWrite d a v, true, far)
  else
    let q := s.csfRemote u d a true v far
    (q.1, q.2.1.isSome, q.2.2)

/-- A word of a unit is read; none where it fails. -/
def State.wordGet (s : State) (u d a : Nat) (far : List FarAnswer) : State × Option Nat × List FarAnswer :=
  if s.ownUnit u then
    let q := s.csfRead d a
    (q.1, (if q.1.answer.err then none else some q.2), far)
  else s.csfRemote u d a false 0 far

/-- Words of another unit are written, in order, until one fails. -/
def State.farPuts (s : State) (u : Nat) (far : List FarAnswer) : List (Nat × Nat × Nat) → State × Bool × List FarAnswer
  | [] => (s, true, far)
  | (d, a, v) :: t =>
    let q := s.wordPut u d a v far
    if q.2.1 then q.1.farPuts u q.2.2 t else q

/-- Die-local address of TB_GEN of a domain (R63). -/
def genAddr (d D : Nat) : Nat := (if d < 6 then 0x40300000 else 0x40F00000) + 0x3F030 + 4 * D

/-- TB_GEN of a domain on a die of a unit (R427): its live copy is the one of its lowest bit. -/
def State.genGet (s : State) (u d D : Nat) (far : List FarAnswer) : State × Option Nat × List FarAnswer :=
  if s.ownUnit u then (s, some (s.get .TB_GEN d D), far) else s.csfRemote u d (genAddr d D) false 0 far

/-- Address of an element in copy `n` mod 2. -/
def TxElem.copy (e : TxElem) (n : Nat) : Nat := if n % 2 = 0 then e.a0 else e.a1

/-- The copies that elements have: each on the units it is written to. -/
def State.elemCopies (s : State) (D : Nat) (l : List TxElem) : List (TxElem × Nat) :=
  (l.map fun e => (s.elemUnits D e.unit).map fun u => (e, u)).flatten

/-- How far the writing of staged copies has come: whether all were written, and those that were. -/
structure Staging where
  st : State
  far : List FarAnswer
  ok : Bool
  done : List (TxElem × Nat)

/-- Values go into the staged copies, each by the TB_GEN of its unit, until a write to another unit fails (R421, R423). -/
def State.stageCopies (s : State) (D : Nat) (far : List FarAnswer) : List (TxElem × Nat) → Staging
  | [] => ⟨s, far, true, []⟩
  | (e, u) :: t =>
    let g := s.genGet u e.die D far
    match g.2.1 with
    | none => ⟨g.1, g.2.2, false, []⟩
    | some n =>
      let w := g.1.wordPut u e.die (TxElem.copy e (n + 1)) e.val g.2.2
      if w.2.1 = false then ⟨w.1, w.2.2, false, []⟩
      else
        let r := w.1.stageCopies D w.2.2 t
        { r with done := (e, u) :: r.done }

/-- The catch-up writes every copy, whatever becomes of the others (R422). -/
def State.catchCopies (s : State) (D : Nat) (far : List FarAnswer) : List (TxElem × Nat) → State
  | [] => s
  | x :: t =>
    let r := s.stageCopies D far [x]
    r.st.catchCopies D r.far t

/-- Staged copies are restored from the live ones (R423, R424). -/
def State.restoreCopies (s : State) (D : Nat) (far : List FarAnswer) : List (TxElem × Nat) → State
  | [] => s
  | (e, u) :: t =>
    let g := s.genGet u e.die D far
    match g.2.1 with
    | none => g.1.restoreCopies D g.2.2 t
    | some n =>
      let q := g.1.wordGet u e.die (TxElem.copy e n) g.2.2
      match q.2.1 with
      | none => q.1.restoreCopies D q.2.2 t
      | some v =>
        let w := q.1.wordPut u e.die (TxElem.copy e (n + 1)) v q.2.2
        w.1.restoreCopies D w.2.2 t

/-! ### Arming (R421) -/

/-- The transaction has FAILED; TX_FAILED tells the status. -/
def State.txFail (s : State) (x : CsfTx) (status : Nat) : State :=
  (s.txMove { x with state := txFailed }).csfEvent 0x4302 x.id (natBytes 4 status ++ [x.dom])

/-- An EVT_AT of a route lies outside T to T + 2³¹ − 1 (R59, R421). -/
def CsfTx.evtBad (x : CsfTx) (T : Nat) : Bool := x.evts.any fun e => e.val < T || T + 2 ^ 31 ≤ e.val

/-- Status of a commit the controller refuses now (R55); 0 accepted. -/
def State.armStatus (s : State) (D T : Nat) : Nat :=
  if s.badAlign D T then eBadalign
  else if s.tooLate D T then eToolate
  else 0

/-- CSF stages a transaction and arms its commit: the state and a status (R421, R423). -/
def State.txArm (s : State) (x : CsfTx) (far : List FarAnswer) : State × Nat :=
  let D := x.dom
  let r := s.stageCopies D far (s.elemCopies D x.elems)
  let T := if x.want = nextT then r.st.earliest D else x.want
  if r.ok = false then ((r.st.restoreCopies D r.far r.done).txFail x eRemote, eRemote)
  else if x.evtBad T then ((r.st.restoreCopies D r.far r.done).txFail x eRange, eRange)
  else
    let st := r.st.armStatus D T
    let t := (r.st.put .EPOCH_COMMIT_AT 6 D T).run (execCommitArm D)
    if st ≠ 0 then ((t.restoreCopies D r.far r.done).txFail x st, st)
    else (t.txMove { x with state := txArmed, armed := T, gen := (t.get .TB_GEN 6 D + 1) % 2 ^ 32 }, 0)

/-- Nothing of the domain stands before a transaction (R421): no commit pending, be it of a transaction that a shed lost (R425), none QUEUED
or ARMED, every catch-up done. -/
def State.mayArm (s : State) (D : Nat) : Bool :=
  s.get .EPOCH_CSTAT_COMMIT_PEND 6 D == 0 && s.txs.all fun x => x.dom != D || !(x.waits || (x.state == txCommit && !x.caught))

/-- The T of a transaction that is QUEUED or ARMED. -/
def CsfTx.target (x : CsfTx) : Nat := if x.state = txArmed then x.armed else x.want

/-- The judgement of TX_COMMIT_AT (R421); 0 passes. The EVT_AT of a transaction that is to be queued for NEXT are judged when
it is armed. -/
def State.commitJudge (s : State) (x : CsfTx) (T : Nat) : Nat :=
  let D := x.dom
  if T ≠ nextT ∧ s.badAlign D T = true then eBadalign
  else if T ≠ nextT ∧ (s.txWaiting D).any (fun y => T ≤ y.target) = true then eOrder
  else if T ≠ nextT ∧ x.evtBad T = true then eRange
  else if T = nextT ∧ s.mayArm D = true ∧ x.evtBad (s.earliest D) = true then eRange
  else if 4 ≤ (s.txWaiting D).length then eFull
  else 0

/-- TX_COMMIT_AT and SCENE_RECALL from the judgement on: the response carries STATE, T and GEN (R421). -/
def State.commitAt (s : State) (x : CsfTx) (T : Nat) (far : List FarAnswer) : CsfReply :=
  let D := x.dom
  let st := s.commitJudge x T
  let y := { x with want := T }
  if st ≠ 0 then ⟨s, st, x.id, [], false⟩
  else if s.mayArm D = false then
    let gen := (s.get .TB_GEN 6 D + (s.txWaiting D).length + 1) % 2 ^ 32
    ⟨s.txMove { y with state := txQueued, gen := gen }, stOk, x.id, [txQueued] ++ natBytes 8 0 ++ natBytes 4 gen, false⟩
  else
    let q := s.txArm y far
    if q.2 ≠ 0 then ⟨q.1, q.2, x.id, [], false⟩
    else
      let z := (q.1.txFind x.id).getD y
      ⟨q.1, stOk, x.id, [txArmed] ++ natBytes 8 z.armed ++ natBytes 4 z.gen, false⟩

/-! ### The transaction commands (R418 to R424) -/

/-- The transaction a command belongs to. -/
def CsfMsg.withTx (m : CsfMsg) (s : State) (act : CsfTx → CsfReply) : CsfReply :=
  match s.txFind m.txid with
  | none => m.refuse s eNotx
  | some x => act x

/-- TX_BEGIN (R419, R420, R423). -/
def execTxBegin (pair : Nat) (s : State) : Result :=
  .next <| s.serve pair 0x0301 (ofLen 1) fun m t =>
    let D := m.u8 0
    if 3 ≤ D then m.refuse t eRange
    else if t.notHead D then m.refuse t eNothead
    else if 64 ≤ t.txHeld then m.refuse t eFull
    else
      let q := t.txNew D []
      ⟨q.1, stOk, q.2.id, natBytes 4 (t.get .TB_GEN 6 D), false⟩

/-- Elements, and EVT_ATs, join an OPEN transaction. -/
def State.txBuffer (s : State) (m : CsfMsg) (x : CsfTx) (new evts : List TxElem) : CsfReply :=
  let y := { x with elems := bufferElems x.elems new, evts := bufferElems (x.evts.filter fun a => new.all fun b => !a.sameAs b) evts }
  if 65536 < y.elems.length then m.refuse s eFull else m.ok (s.txKeep y) []

/-- The definition under a handle in a transaction: another unit's handle stands in a ring-wide one of the head alone (R417, R423). -/
def State.txHandle {α : Type} (s : State) (D kind h : Nat) (list : GraphImage → List α) (index : α → Nat) : Option α :=
  if s.ownUnit (handleUnit h) ∨ (s.ringWide D = true ∧ s.isHead = true) then s.lookup kind h list index else none

/-- TX_SET. -/
def execTxSet (pair : Nat) (s : State) : Result :=
  .next <| s.serve pair 0x0302 (fun m => 8 ≤ m.len && m.len == 8 + 4 * m.u16 6) fun m t =>
    m.withTx t fun x =>
      if x.state ≠ txOpen then m.refuse t eState
      else
        match t.txHandle x.dom kindParam (m.u32 0) (fun g => g.params) (fun p => p.index) with
        | none => m.refuse t eHandle
        | some p =>
          let es := ((ParamDef.elems p).drop (m.u16 4)).take (m.u16 6)
          let new := es.mapIdx fun i (e : Nat × Nat) => TxElem.mk (t.unitOf (m.u32 0)) p.die e.1 e.2 (m.u32 (8 + 4 * i))
          if inVector (m.u16 4) (m.u16 6) p.init.length = false ∨ p.dom ≠ x.dom then m.refuse t eRange
          else t.txBuffer m x new []

/-- TX_COMMIT_AT (R421). -/
def execTxCommitAt (pair : Nat) (far : List FarAnswer) (s : State) : Result :=
  .next <| s.serve pair 0x0303 (ofLen 8) fun m t =>
    m.withTx t fun x => if x.state ≠ txOpen then m.refuse t eState else t.commitAt x (m.u64 0) far

/-- TX_ARM (R421): the next QUEUED transaction of a domain, once the previous commit and its catch-up are complete. -/
def execTxArm (D : Nat) (far : List FarAnswer) (s : State) : Result :=
  .next <| s.when (s.tailRuns = true ∧ s.on .CSF_READY 6 0 = true ∧ s.get .EPOCH_CSTAT_COMMIT_PEND 6 D = 0 ∧
      s.txs.all (fun x => x.dom != D || (x.state != txArmed && (x.state != txCommit || x.caught))) = true) fun t =>
    match t.txs.find? fun x => x.dom == D && x.state == txQueued with
    | none => t
    | some x => (t.txArm x far).1

/-- CATCH_UP (R422): the values go into the copy that has become staged; TX_COMMITTED. CSF clears what COMMIT_DONE and SPLIT
told it. DEDUCED (log entry 80). -/
def execCatchUp (D : Nat) (far : List FarAnswer) (s : State) : Result :=
  .next <| s.when (s.tailRuns = true ∧ s.on .CSF_READY 6 0 = true) fun t =>
    match t.txs.find? fun x => x.dom == D && x.state == txCommit && !x.caught with
    | none => t
    | some x =>
      let b := x.bnd - 1
      let u := t.catchCopies D far (t.elemCopies D x.elems)
      let flags := u.get .EPOCH_CSTAT_SPLIT 6 D + 2 * flag (x.armed < b)
      let v := ((u.put .EPOCH_CSTAT_COMMIT_DONE 6 D 0).put .EPOCH_CSTAT_SPLIT 6 D 0).txMove { x with caught := true }
      v.csfEvent 0x4301 x.id ([D, flags] ++ List.replicate 6 0 ++ natBytes 8 b ++ natBytes 4 x.gen)

/-- TX_ABORT (R424). -/
def execTxAbort (pair : Nat) (far : List FarAnswer) (s : State) : Result :=
  .next <| s.serve pair 0x0304 (ofLen 0) fun m t =>
    m.withTx t fun x =>
      if x.state = txOpen ∨ x.state = txQueued then m.ok (t.txMove { x with state := txAborted }) [txAborted]
      else if x.state = txArmed then
        let inTime := t.cancelInTime x.dom (t.get .COMMIT_T 6 x.dom)
        let u := t.run (execCommitCancel x.dom)
        if inTime = false then m.refuse u eToolate
        else m.ok ((u.restoreCopies x.dom far (u.elemCopies x.dom x.elems)).txMove { x with state := txAborted }) [txAborted]
      else m.refuse t eState

/-- TX_STATUS. -/
def execTxStatus (pair : Nat) (s : State) : Result :=
  .next <| s.serve pair 0x0305 (ofLen 0) fun m t =>
    m.withTx t fun x => m.ok t ([x.state] ++ natBytes 8 x.armed ++ natBytes 4 x.gen ++ natBytes 4 x.elems.length)

/-! ### Routes (R428, R427) -/

/-- 10 ms of a domain, to the nearest sample (R160). -/
def State.tenMs (s : State) (D : Nat) : Nat := ((s.domFs D).1 + 50 * (s.domFs D).2) / (100 * (s.domFs D).2)

/-- TPAR of a mode: ZCTO of STEP_ZC, RLEN of RAMP. IMMEDIATE ignores it. -/
def tparOf (mode rlen zcto : Nat) : Nat := if mode = 1 then zcto else if mode = 2 then rlen else 0

/-- A bus is enabled in a domain on a die. -/
def State.busIn (s : State) (d b D : Nat) : Bool := s.on .BUS_CFG_EN d b && s.get .BUS_CFG_DOMAIN d b == D

/-- The bus of a route is enabled in the domain on the route's die (R428), as BUS_CFG there tells it; none where another unit does not. -/
def State.busCheck (s : State) (u d b D : Nat) (far : List FarAnswer) : State × Option Bool :=
  if s.ownUnit u then (s, some (s.busIn d b D))
  else
    let q := s.csfRemote u d (0x40102000 + 0x20 * b) false 0 far
    (q.1, q.2.1.map fun v => bitAt v 0 == 1 && bitsAt v 1 2 == D)

/-- Words of a route's elements. -/
def State.routeWords (s : State) (u : Nat) (r : RouteDef) (l : List Nat) : List TxElem :=
  ((s.routeElems r).zip l).map fun (q : (Nat × Nat) × Nat) => TxElem.mk u r.die q.1.1 q.1.2 q.2

/-- ROUTE_SET (R428). -/
def execRouteSet (pair : Nat) (far : List FarAnswer) (s : State) : Result :=
  .next <| s.serve pair 0x0501 (fun m => m.len == 28 && bitsAt (m.u8 10) 5 3 == 0 && m.u16 14 == 0) fun m t =>
    m.withTx t fun x =>
      if x.state ≠ txOpen then m.refuse t eState
      else
        match t.txHandle x.dom kindRoute (m.u32 0) (fun g => g.routes) (fun r => r.index),
            t.txHandle x.dom kindSource (m.u32 4) (fun g => g.sources) (fun r => r.index) with
        | some r, some c =>
          let f := m.u8 10
          let mode := bitsAt f 1 2
          let u := t.unitOf (m.u32 0)
          let zcto := if bitAt f 4 = 1 then t.tenMs x.dom else m.u16 12
          let w1 := m.u16 8 + bitAt f 0 * 2 ^ 9 + mode * 2 ^ 10 + bitAt f 3 * 2 ^ 12 + tparOf mode (m.u8 11) zcto * 2 ^ 16
          let new := t.routeWords u r [bitsAt c.addr 5 20 * 32, w1, m.u32 16, m.u64 20 % 2 ^ 32]
          let evts := (new.take 1).map fun e => { e with val := m.u64 20 }
          if t.unitOf (m.u32 4) ≠ u ∨ c.die ≠ r.die ∨ r.dom ≠ x.dom ∨ 512 ≤ m.u16 8 ∨ mode = 3 ∨ 20 < m.u8 11 then m.refuse t eRange
          else
            let q := t.busCheck u r.die (m.u16 8) x.dom far
            match q.2 with
            | none => m.refuse q.1 eRemote
            | some false => m.refuse q.1 eRange
            | some true => q.1.txBuffer m x new (if bitAt f 3 = 1 then evts else [])
        | _, _ => m.refuse t eHandle

/-- The handle of the source block at an address of a die; where the image names none, a free one (log entry 81). -/
def State.sourceHandle (s : State) (d a : Nat) : State × Nat :=
  match ((s.image.map fun g => g.sources).getD []).find? fun c => c.die == d && bitsAt c.addr 5 20 == bitsAt a 5 20 with
  | none => (s.drawn, s.free % 2 ^ 32)
  | some c => (s, handleOf kindSource c.index)

/-- The live record of a route in the layout of ROUTE_SET; the upper half of EVT_AT, which the record does not hold, is free
(log entry 81). -/
def State.routeRecord (s : State) (h d : Nat) (w : List Nat) : State × List Nat :=
  let w1 := w.getD 1 0
  let mode := bitsAt w1 10 2
  let q := s.sourceHandle d (w.getD 0 0)
  let flags := bitAt w1 9 + 2 * mode + 8 * bitAt w1 12
  (q.1.drawn, natBytes 4 h ++ natBytes 4 q.2 ++ natBytes 2 (bitsAt w1 0 9) ++ [flags, if mode = 2 then bitsAt w1 16 5 else 0] ++
    natBytes 2 (if mode = 1 then bitsAt w1 16 16 else 0) ++ natBytes 2 0 ++ natBytes 4 (w.getD 2 0) ++ natBytes 4 (w.getD 3 0) ++
      natBytes 4 q.1.free)

/-- ROUTE_GET (R427). -/
def execRouteGet (pair : Nat) (s : State) : Result :=
  .next <| s.serve pair 0x0502 (ofLen 4) fun m t =>
    match t.ownHandle kindRoute (m.u32 0) (fun g => g.routes) (fun r => r.index) with
    | none => m.refuse t eHandle
    | some r =>
      let gen := t.genOn r.die r.dom
      let q := t.csfWords r.die ((t.routeElems r).map fun (e : Nat × Nat) => if gen % 2 = 0 then e.1 else e.2)
      if q.2.2 = false then m.refuse q.1 eState
      else
        let c := q.1.routeRecord (m.u32 0) r.die q.2.1
        m.ok c.1 (c.2 ++ natBytes 4 gen)

/-- ROUTE_XFLEN (R428): CHORUS_CFG.XFLEN of every gecko die, on a paired unit of the partner as well, the partner's first. Its register
takes this unit's EN, the images being the same. DEDUCED (log entry 82). -/
def execRouteXflen (pair : Nat) (far : List FarAnswer) (s : State) : Result :=
  .next <| s.serve pair 0x0503 (ofLen 1) fun m t =>
    let n := m.u8 0
    if 20 < n then m.refuse t eRange
    else if (geckoDies.all fun d => t.csfReaches d) = false then m.refuse t eState
    else
      let q := match t.partnerOf 15 with
        | [] => (t, true, far)
        | p :: _ => t.farPuts p far (geckoDies.map fun d => (d, 0x40100000, t.get .CHORUS_CFG_EN d 0 + n * 16))
      if q.2.1 = false then m.refuse q.1 eRemote else m.ok (q.1.each geckoDies fun d v => v.put .CHORUS_CFG_XFLEN d 0 n) []

/-! ### Scenes (R429, R430) -/

/-- Bytes of the carve-out that a scene takes, of its elements: CSF's own format, not in the spec (log entry 83). -/
def CsfScene.size (c : CsfScene) : Nat := Config.sceneBytes (c.elems.length + 4 * c.routes.length)

/-- Bytes of the 3 MiB that stored scenes leave free. -/
def sceneFree (l : List CsfScene) : Nat := 0x300000 - (l.map CsfScene.size).sum

/-- The units a scene of a domain covers (R429): on the head of a ring-wide domain every enumerated one. -/
def State.sceneUnits (s : State) (D : Nat) : List Nat :=
  if s.ringWide D ∧ s.isHead = true then
    15 :: (List.range 15).filter fun u => !s.ownUnit u && s.unitPresent u
  else [15]

/-- What a read of live elements gave. -/
structure LiveRead where
  st : State
  elems : List TxElem
  ok : Bool
  far : List FarAnswer

/-- The values of elements in the copy of a generation. -/
def State.livePass (s : State) (gen : Nat) (far : List FarAnswer) : List TxElem → LiveRead
  | [] => ⟨s, [], true, far⟩
  | e :: t =>
    let q := s.wordGet e.unit e.die (TxElem.copy e gen) far
    let r := q.1.livePass gen q.2.2 t
    ⟨r.st, { e with val := q.2.1.getD 0 } :: r.elems, q.2.1.isSome && r.ok, r.far⟩

/-- The live values of elements of one die of a unit (R427): TB_GEN is read before and after, and where the two differ it is all read
again; at most as often as there are answers. -/
def State.liveGroup (s : State) (D u d : Nat) (far : List FarAnswer) (l : List TxElem) : Nat → LiveRead
  | 0 => ⟨s, l, false, far⟩
  | n + 1 =>
    let g := s.genGet u d D far
    match g.2.1 with
    | none => ⟨g.1, l, false, g.2.2⟩
    | some v =>
      let p := g.1.livePass v g.2.2 l
      let h := p.st.genGet u d D p.far
      if h.2.1 = none then ⟨h.1, p.elems, false, h.2.2⟩
      else if h.2.1 = some v then { p with st := h.1, far := h.2.2 }
      else h.1.liveGroup D u d h.2.2 l n

/-- The live values of groups of elements, each of one die of a unit. -/
def State.liveGroups (s : State) (D : Nat) (far : List FarAnswer) : List (List TxElem) → LiveRead
  | [] => ⟨s, [], true, far⟩
  | [] :: t => s.liveGroups D far t
  | (e :: l) :: t =>
    let q := s.liveGroup D e.unit e.die far (e :: l) (far.length + 1)
    let r := q.st.liveGroups D q.far t
    ⟨r.st, q.elems ++ r.elems, q.ok && r.ok, r.far⟩

/-- The live values of elements. -/
def State.liveElems (s : State) (D : Nat) (far : List FarAnswer) (l : List TxElem) : LiveRead :=
  s.liveGroups D far (l.splitBy fun a b => a.unit == b.unit && a.die == b.die)

/-- The live records of routes. -/
def State.liveRoutes (s : State) (D : Nat) (far : List FarAnswer) : List (List TxElem) → State × List (List TxElem) × Bool × List FarAnswer
  | [] => (s, [], true, far)
  | e :: t =>
    let q := s.liveElems D far e
    let r := q.st.liveRoutes D q.far t
    (r.1, q.elems :: r.2.1, q.ok && r.2.2.1, r.2.2.2)

/-- The elements of a domain's parameters on some units, without their values. -/
def State.sceneElems (s : State) (D : Nat) (g : GraphImage) : List TxElem :=
  ((s.sceneUnits D).map fun u => ((g.params.filter fun p => p.dom == D).map fun p =>
    (ParamDef.elems p).map fun (e : Nat × Nat) => TxElem.mk u p.die e.1 e.2 0).flatten).flatten

/-- The words of a domain's routes on some units. -/
def State.sceneRoutes (s : State) (D : Nat) (g : GraphImage) : List (List TxElem) :=
  ((s.sceneUnits D).map fun u => (g.routes.filter fun r => r.dom == D).map fun r => s.routeWords u r [0, 0, 0, 0]).flatten

/-- SCENE_STORE (R429). -/
def execSceneStore (pair : Nat) (far : List FarAnswer) (s : State) : Result :=
  .next <| s.serve pair 0x0401 (ofLen 2) fun m t =>
    let n := m.u8 0
    let D := m.u8 1
    if 64 ≤ n ∨ 3 ≤ D then m.refuse t eRange
    else
      match t.image with
      | none => m.refuse t eState
      | some g =>
        let q := t.liveElems D far (t.sceneElems D g)
        let r := q.st.liveRoutes D q.far (t.sceneRoutes D g)
        let c : CsfScene := ⟨n, D, t.get .TB_GEN 6 D, q.elems, r.2.1⟩
        let rest := t.scenes.filter fun y => y.num != n
        if q.ok = false ∨ r.2.2.1 = false then m.refuse r.1 eRemote
        else if sceneFree rest < c.size then m.refuse r.1 eFull
        else m.ok { r.1 with scenes := rest ++ [c] } (natBytes 4 c.gen ++ natBytes 4 (c.elems.length + 4 * c.routes.length))

/-- Two records of a route differ in EN, SRC, BUS or GAIN (R430). -/
def routeDiffers (a b : List Nat) : Bool :=
  a.getD 0 0 != b.getD 0 0 || bitsAt (a.getD 1 0) 0 10 != bitsAt (b.getD 1 0) 0 10 || a.getD 2 0 != b.getD 2 0

/-- A stored route as a recall writes it: the recall's mode and times, EVT = 0. -/
def recallRoute (l : List TxElem) (mode tpar : Nat) : List TxElem :=
  l.mapIdx fun i e => if i = 1 then { e with val := bitsAt e.val 0 10 + mode * 2 ^ 10 + tpar * 2 ^ 16 } else e

/-- SCENE_RECALL (R430). -/
def execSceneRecall (pair : Nat) (far : List FarAnswer) (s : State) : Result :=
  .next <| s.serve pair 0x0402 (fun m => m.len == 16 && bitsAt (m.u8 3) 1 7 == 0 && m.u16 6 == 0) fun m t =>
    let mode := m.u8 1
    if 64 ≤ m.u8 0 ∨ 3 ≤ mode ∨ 20 < m.u8 2 then m.refuse t eRange
    else
      match t.scenes.find? fun c => c.num == m.u8 0 with
      | none => m.refuse t eState
      | some c =>
        let q := t.liveElems c.dom far c.elems
        let r := q.st.liveRoutes c.dom q.far c.routes
        let zcto := if bitAt (m.u8 3) 0 = 1 then t.tenMs c.dom else m.u16 4
        let ps := ((c.elems.zip q.elems).filter fun (x : TxElem × TxElem) => x.1.val != x.2.val).map fun (x : TxElem × TxElem) => x.1
        let rs := ((c.routes.zip r.2.1).filter fun (x : List TxElem × List TxElem) =>
          routeDiffers (x.1.map fun e => e.val) (x.2.map fun e => e.val)).map fun (x : List TxElem × List TxElem) =>
            recallRoute x.1 mode (tparOf mode (m.u8 2) zcto)
        if t.notHead c.dom then m.refuse t eNothead
        else if 64 ≤ t.txHeld then m.refuse t eFull
        else if q.ok = false ∨ r.2.2.1 = false then m.refuse r.1 eRemote
        else if 65536 < (ps ++ rs.flatten).length then m.refuse r.1 eFull
        else
          let x := r.1.txNew c.dom (ps ++ rs.flatten)
          x.1.commitAt x.2 (m.u64 8) r.2.2.2

/-- SCENE_DELETE. -/
def execSceneDelete (pair : Nat) (s : State) : Result :=
  .next <| s.serve pair 0x0403 (ofLen 1) fun m t =>
    if 64 ≤ m.u8 0 then m.refuse t eRange
    else if t.scenes.all fun c => c.num != m.u8 0 then m.refuse t eState
    else m.ok { t with scenes := t.scenes.filter fun c => c.num != m.u8 0 } []

/-- SCENE_LIST. -/
def execSceneList (pair : Nat) (s : State) : Result :=
  .next <| s.serve pair 0x0404 (ofLen 0) fun m t =>
    m.ok t (natBytes 8 (t.scenes.foldl (fun v c => setBit v c.num) 0) ++ natBytes 4 (sceneFree t.scenes))

end Sys2Proof.Machine
end

