-- ==== Sys2Proof/Machine/CsfNet.lean ====
section
/-! DEFINITION. CSF's clock, network and pair commands (R418): writes of the registers of the chapters on clocks, networks and
pairs. A command is refused whole where its write would be ineffective: E_STATE for a locked field, E_RANGE for a value. A field
that is locked and already holds the value is no obstacle. DEDUCED (log entry 84). -/

namespace Sys2Proof.Machine

/-! ### Clocks -/

/-- CLK_DOMAIN_SET (R262, R41): the synthesizer runs from then on. -/
def execClkDomainSet (pair : Nat) (s : State) : Result :=
  .next <| s.serve pair 0x0701 (ofLen 4) fun m t =>
    let D := m.u8 0
    if 3 ≤ D ∨ 8 ≤ m.u8 1 ∨ 4 ≤ m.u8 2 ∨ 2 ≤ m.u8 3 ∨ (D = 0 ∧ m.u8 3 = 0) then m.refuse t eRange
    else if t.get .EPOCH_STATUS_RUN 6 D = 1 then m.refuse t eState
    else m.ok ((t.put .EPOCH_CFG_BSIZE 6 D (m.u8 2)).domCfgWrite D (m.u8 1) (m.u8 3) 1) []

/-- The locked fields of a reference hold these values. -/
def State.refSame (s : State) (r pol num den : Nat) : Bool :=
  s.get .REF_NOM_NUM 6 r == num && s.get .REF_NOM_DEN 6 r == den && (8 ≤ r || s.get .REF_CFG_POL 6 r == pol)

/-- Nominal rate and polarity of a reference are written; references 8 and 9 have theirs fixed. -/
def State.refNominal (s : State) (r pol num den : Nat) : State :=
  s.when (r < 8) fun t => ((t.put .REF_NOM_NUM 6 r num).put .REF_NOM_DEN 6 r den).put .REF_CFG_POL 6 r pol

/-- CLK_REF_SET (R277, R282, R298). -/
def execClkRefSet (pair : Nat) (s : State) : Result :=
  .next <| s.serve pair 0x0702 (ofLen 13) fun m t =>
    let r := m.u8 0
    let num := m.u32 4
    let den := m.u16 8
    let pol := m.u8 3
    if 10 ≤ r ∨ 2 ≤ m.u8 1 ∨ 16 ≤ m.u8 2 ∨ 2 ≤ pol then m.refuse t eRange
    else if t.refSame r pol num den = false ∧ (8 ≤ r ∨ (t.on .REF_CFG_EN 6 r = true ∧ m.u8 1 = 1)) then m.refuse t eState
    else
      let q := (t.put .REF_QUAL_WINDOW 6 r (m.u16 10)).put .REF_QUAL_HOLDOFF 6 r (m.u8 12)
      if m.u8 1 = 0 then
        let u := q.when (q.on .REF_CFG_EN 6 r = true) fun v => v.refDisable r
        m.ok ((u.put .REF_CFG_RANK 6 r (m.u8 2)).refNominal r pol num den) []
      else
        let u := q.when (q.on .REF_CFG_EN 6 r = false) fun v => v.refNominal r pol num den
        if u.refRateOk r = false then m.refuse t eRange else m.ok (u.run (execRefEnable r pol (m.u8 2))) []

/-- CLK_SEL_SET (R284, R288, R290). -/
def execClkSelSet (pair : Nat) (s : State) : Result :=
  .next <| s.serve pair 0x0703 (ofLen 7) fun m t =>
    if 4 ≤ m.u8 0 ∨ 2 ≤ m.u8 1 ∨ 16 ≤ m.u8 2 ∨ 16 ≤ m.u8 3 ∨ 2 ≤ m.u8 4 ∨ 1024 ≤ m.u16 5 then m.refuse t eRange
    else
      let u := ((t.put .DPLL_CFG_BW 6 0 (m.u8 3)).put .DPLL_CFG_REALIGN 6 0 (m.u8 4)).put .DPLL_CFG_SLEW 6 0 (m.u16 5)
      m.ok (u.bwRefresh.run (execRefselConfigWrite 10 (m.u8 0 + 4 * m.u8 1 + 8 * m.u8 2))) []

/-- CLK_STATUS: no register it reads has an RC field. -/
def execClkStatus (pair : Nat) (s : State) : Result :=
  .next <| s.serve pair 0x0704 (ofLen 0) fun m t =>
    m.ok t (packBytes 4 ([t.regAt 6 .refsel 0 4, t.regAt 6 .refsel 0 0xC] ++
      ((List.range 10).map fun r => t.regAt 6 .refsel 0 (0x1014 + 64 * r)) ++
        ((List.range 3).map fun D => t.regAt 6 .rate 0 (4 + 32 * D)) ++ [t.regAt 6 .ptp 0 0x48]))

/-! ### Ethernet and PTP -/

/-- NET_MAC_SET (R312, R334): MAC_CFG but for RXPAUSE, GUARD and PROMISC, and the station address. -/
def execNetMacSet (pair : Nat) (s : State) : Result :=
  .next <| s.serve pair 0x0801 (ofLen 11) fun m t =>
    let d := 6 + m.u8 0 / 4
    let i := m.u8 0 % 4
    let mode := m.u8 1
    let fec := m.u8 2
    let old := t.get .MAC_CFG_MODE d i
    if 8 ≤ m.u8 0 ∨ 8 ≤ mode ∨ 4 ≤ fec ∨ fecOk mode fec = false ∨ 2 ^ 14 ≤ m.u16 3 then m.refuse t eRange
    else if t.csfReaches d = false ∨ (old ≠ 0 ∧ mode ≠ 0 ∧ (mode ≠ old ∨ fec ≠ t.get .MAC_CFG_FEC d i)) then m.refuse t eState
    else
      let cfg := mode + fec * 8 + t.get .MAC_CFG_RXPAUSE d i * 2 ^ 5 + t.get .MAC_CFG_GUARD d i * 2 ^ 6 +
        t.get .MAC_CFG_PROMISC d i * 2 ^ 7 + m.u16 3 * 2 ^ 8
      m.ok ((t.run (execMacModeWrite d i cfg)).put .MAC_ADDR d i (bytesNat (slice m.payload 5 6))) []

/-- NET_PTP_SET: the domain number and interval are CSF's own. -/
def execNetPtpSet (pair : Nat) (s : State) : Result :=
  .next <| s.serve pair 0x0802 (ofLen 6) fun m t =>
    m.ok (((t.put .CSF_PTPDOM 6 0 (m.u8 0)).put .CSF_PTPSYNC 6 0 (m.u8 1)).put .STEP_THRESH 6 0 (m.u32 2)) []

/-- NET_STATUS (R334): the counters a read clears are cleared. -/
def execNetStatus (pair : Nat) (s : State) : Result :=
  .next <| s.serve pair 0x0805 (ofLen 1) fun m t =>
    let d := 6 + m.u8 0 / 4
    if 8 ≤ m.u8 0 then m.refuse t eRange
    else if t.csfReaches d = false then m.refuse t eState
    else
      let q := t.csfRegs d .mac (m.u8 0 % 4) 4 (8 :: (List.range 12).map fun c => 0x200 + 4 * c)
      m.ok q.1 q.2

/-! ### Streams (R328 to R333, R349) -/

/-- STX_TSOFS of a domain from the mapping set (R349): (⌊T × fs⌋ − N) mod 2³². -/
def State.tsOffset (s : State) (D : Nat) : Nat :=
  let f := s.domFs D
  let t := (s.get .MAP_SEC 6 D * giga + s.get .MAP_NS 6 D) * 2 ^ 16 + s.get .MAP_FRAC 6 D
  unsigned 32 ((t * f.1 / (f.2 * giga * 2 ^ 16) : Nat) - (s.get .MAP_DOMCNT 6 D : Int))

/-- The header template goes to stream SRAM. -/
def State.putTemplate (s : State) (d a : Nat) (l : List Nat) : State :=
  s.each (List.range 4) fun k t =>
    let b := slice l (16 * k) 16
    t.fabMem (t.csfReq d (a + 16 * k) true b.length (bytesNat b))

/-- The fields of a transmit stream, from a payload. -/
def State.stxFields (s : State) (d i : Nat) (m : CsfMsg) (seq ts : Nat) : State :=
  let s1 := (((s.put .STX_CFG_DOMAIN d i (m.u8 3)).put .STX_CFG_MAC d i (m.u8 4)).put .STX_CFG_QUEUE d i (m.u8 5)).put .STX_FMT_ENC d i
    (m.u8 6)
  let s2 := ((s1.put .STX_FMT_CHANS d i (m.u8 7)).put .STX_FMT_PTIME d i (m.u8 8)).put .STX_HDR_VLAN d i
    (flag (slice m.payload 21 2 == [0x81, 0x00]))
  ((s2.put .STX_SEQOFS d i seq).put .STX_TSOFS d i ts).putTemplate d (s.get .STX_HDR_BASE d i * 64) (m.payload.drop 9)

/-- Registers of a transmit stream in the packetizer's window. -/
def stxReg (i o : Nat) : Nat := 0x40800000 + 0x1000 + 64 * i + o

/-- NET_STREAM_TX (R328, R331, R349). SEQOFS is CSF's to choose, a free value; it and TSOFS go to the partner first, where there is one. Where the
image has put buffer and template they stay. DEDUCED (log entry 85). EN = 0 on a running stream stops it and does no more. -/
def execNetStreamTx (pair : Nat) (far : List FarAnswer) (s : State) : Result :=
  .next <| s.serve pair 0x0803 (ofLen 67) fun m t =>
    let d := 6 + m.u16 0 / 128
    let i := m.u16 0 % 128
    let seq := t.free % 2 ^ 16
    let ts := t.tsOffset (m.u8 3)
    let reply (v : State) : CsfReply := m.ok v (natBytes 2 (v.get .STX_SEQOFS d i) ++ natBytes 4 (v.get .STX_TSOFS d i))
    if 256 ≤ m.u16 0 ∨ 2 ≤ m.u8 2 ∨ 3 ≤ m.u8 3 ∨ 4 ≤ m.u8 4 ∨ 8 ≤ m.u8 5 ∨ 3 ≤ m.u8 6 ∨ 64 ≤ m.u8 7 then m.refuse t eRange
    else if t.csfReaches d = false ∨ (t.on .STX_CFG_EN d i = true ∧ m.u8 2 = 1) then m.refuse t eState
    else if m.u8 2 = 0 ∧ t.on .STX_CFG_EN d i = true then reply (t.run (execStreamDisable d 0 i))
    else if m.u8 2 = 1 ∧ (t.drawn.stxFields d i m seq ts).stxRefused d i (m.u8 3) (m.u8 4) = true then m.refuse t eRange
    else
      let q := match t.partnerOf 15 with
        | [] => (t.drawn, true, far)
        | p :: _ => t.drawn.farPuts p far [(d, stxReg i 0x10, seq), (d, stxReg i 0x14, ts)]
      if q.2.1 = false then m.refuse q.1 eRemote
      else
        let v := q.1.stxFields d i m seq ts
        reply (if m.u8 2 = 1 then v.run (execStreamTxEnable d i (m.u8 3) (m.u8 4) (m.u8 5)) else v)

/-- NET_STREAM_RX (R328, R332, R333): sample n of the domain is the packet sample whose timestamp is n + TSOFS, taken the link
offset later, so SRX_OFS = link offset − TSOFS. A source address of 0 is not checked. DEDUCED (log entry 86). -/
def execNetStreamRx (pair : Nat) (s : State) : Result :=
  .next <| s.serve pair 0x0804 (ofLen 24) fun m t =>
    let d := 6 + m.u16 0 / 128
    let i := m.u16 0 % 128
    let reply (v : State) : CsfReply := m.ok v (natBytes 4 (v.get .SRX_OFS d i))
    if 256 ≤ m.u16 0 ∨ 2 ≤ m.u8 2 ∨ 3 ≤ m.u8 3 ∨ 16 ≤ m.u8 4 ∨ 3 ≤ m.u8 5 ∨ 64 ≤ m.u8 6 ∨ 128 ≤ m.u8 8 ∨ 16 ≤ m.u8 9 then
      m.refuse t eRange
    else if t.csfReaches d = false ∨ (t.on .SRX_CFG_EN d i = true ∧ m.u8 2 = 1) then m.refuse t eState
    else if m.u8 2 = 0 ∧ t.on .SRX_CFG_EN d i = true then reply (t.run (execStreamDisable d 1 i))
    else
      let chk := flag (m.u32 16 != 0)
      let ofs := unsigned 32 ((m.u32 20 : Int) - t.tsOffset (m.u8 3))
      let s1 := ((t.put .SRX_CFG_DOMAIN d i (m.u8 3)).put .SRX_CFG_MACMASK d i (m.u8 4)).put .SRX_CFG_SRCCHK d i chk
      let s2 := (((s1.put .SRX_FMT_ENC d i (m.u8 5)).put .SRX_FMT_CHANS d i (m.u8 6)).put .SRX_FMT_PTIME d i (m.u8 7)).put .SRX_FMT_PT d i
        (m.u8 8)
      let s3 := (((s2.put .SRX_JBUF_JLOG d i (m.u8 9)).put .SRX_MATCH_IP d i (m.u32 10)).put .SRX_MATCH_PORT d i (m.u16 14)).put
        .SRX_MATCH_SRC d i (m.u32 16)
      let u := s3.put .SRX_OFS d i ofs
      if m.u8 2 = 1 ∧ u.srxRefused d i (m.u8 3) (m.u8 4) = true then m.refuse t eRange
      else reply (if m.u8 2 = 1 then u.run (execStreamRxEnable d i (m.u8 3) (m.u8 4) chk) else u)

/-! ### Pairs (R370 to R383) -/

/-- PAIR_SET (R370, R383). -/
def execPairSet (pair : Nat) (s : State) : Result :=
  .next <| s.serve pair 0x0901 (ofLen 3) fun m t =>
    if 2 ≤ m.u8 1 ∨ 2 ≤ m.u8 2 then m.refuse t eRange
    else if t.roleIs 1 = true ∧ m.u8 0 ≠ t.get .PAIR_CFG_PAIRID 6 0 then m.refuse t eState
    else m.ok (t.run (execPairidWrite (m.u8 0) (m.u8 1) (m.u8 2))) []

/-- PAIR_ACTIVATE (R370). -/
def execPairActivate (pair : Nat) (s : State) : Result :=
  .next <| s.serve pair 0x0902 (ofLen 0) fun m t =>
    if t.roleIs 2 = false then m.refuse t eState
    else
      let u := t.run execActivate
      if u.on .PAIR_ACTREQ 6 0 then m.ok u [] else m.refuse u eRefused

/-- PAIR_TAKEOVER (R374): the takeover is announced at the next boundary of domain A and happens at the one after. -/
def execPairTakeover (pair : Nat) (s : State) : Result :=
  .next <| s.serve pair 0x0903 (ofLen 0) fun m t =>
    if t.roleIs 2 = false then m.refuse t eState
    else m.ok (t.run execTakeover) (natBytes 8 (t.nextBoundary + t.bsize 0))

/-- The regions of a domain would take longer to read than 3P − 2 × EPOCH_DRAIN_MAX, at 11 bytes a ns (R382). -/
def State.resyncTooLong (s : State) (D : Nat) : Bool :=
  let l := s.regions.filter fun r => r.2.2.1 == D
  let bytes := (l.map fun r => r.2.2.2).sum
  let f := s.domFs D
  !l.isEmpty &&
    decide (11 * (3 * s.bsize D * giga * f.2 : Int) - 11 * 2 * s.get .EPOCH_DRAIN_MAX 6 D * f.1 < bytes * f.1)

/-- PAIR_RESYNC (R380, R382). -/
def execPairResync (pair : Nat) (s : State) : Result :=
  .next <| s.serve pair 0x0904 (ofLen 8) fun m t =>
    let u := t.each [0, 1, 2] fun D v => (v.csfReg 6 .rate 0 (0x2001C + 256 * D)).1
    if t.roleIs 1 = false then m.refuse t eState
    else if [0, 1, 2].any fun D => t.resyncTooLong D then m.refuse u eRefused
    else
      let held := u.on .PAIR_STATUS_SNAPPEND 6 0
      let v := (u.put .PAIR_SNAP_AT 6 0 (m.u64 0)).run execPairSnapArm
      if held = false ∧ v.on .PAIR_STATUS_SNAPPEND 6 0 = true then m.ok v (natBytes 8 (m.u64 0)) else m.refuse v eRefused

/-- PAIR_STATUS (R383): PAIR_HMISS and PAIR_MISMATCH are cleared by the reads. -/
def execPairStatus (pair : Nat) (s : State) : Result :=
  .next <| s.serve pair 0x0905 (ofLen 0) fun m t =>
    let a := t.csfRegs 6 .biray 0 4 [0x208]
    let b := a.1.csfRegs 6 .biray 0 8 [0x210]
    let c := b.1.csfRegs 6 .biray 0 4 [0x20C, 0x228]
    m.ok c.1 (a.2 ++ b.2 ++ c.2)

end Sys2Proof.Machine
end

