-- ==== Sys2Proof/Machine/NewtExec.lean ====
section
/-! DEFINITION. What a bundle does (R102 to R132): its registers, legality, the three slots. A bundle reads the state
before it (R104); its slots write a second state in turn. -/

namespace Sys2Proof.Machine

/-! ### Registers -/

/-- Lane `k` of v register `r`. -/
def State.vReg (s : State) (d n r k : Nat) : Nat := s.get .DBG_V d (n * 256 + r * 8 + k)

/-- Write a lane of a v register. -/
def State.setV (s : State) (d n r k x : Nat) : State := s.put .DBG_V d (n * 256 + r * 8 + k) x

/-- Lane `k` of accumulator `r`. -/
def State.accReg (s : State) (d n r k : Nat) : Nat := s.get .DBG_ACC d (n * 64 + r * 8 + k)

/-- Write a lane of an accumulator. -/
def State.setAcc (s : State) (d n r k x : Nat) : State := s.put .DBG_ACC d (n * 64 + r * 8 + k) x

/-- A scalar register. -/
def State.sReg (s : State) (d n r : Nat) : Nat := s.get .DBG_S d (n * 16 + r)

/-- Write a scalar register. -/
def State.setS (s : State) (d n r x : Nat) : State := s.put .DBG_S d (n * 16 + r) x

/-- A modifier. -/
def State.mReg (s : State) (d n r : Nat) : Nat := s.get .DBG_M d (n * 4 + r)

/-- A predicate; p0 reads 0xFF (R78). -/
def State.pReg (s : State) (d n r : Nat) : Nat := if r = 0 then 0xFF else s.get .DBG_P d (n * 4 + r)

/-- Write a predicate; a write to p0 is ignored (R78). -/
def State.setP (s : State) (d n r x : Nat) : State := if r = 0 then s else s.put .DBG_P d (n * 4 + r) x

/-- NEWT_FPFLAGS as a word. -/
def State.fpFlags (s : State) (d n : Nat) : Nat :=
  s.get .NEWT_FPFLAGS_V d n + s.get .NEWT_FPFLAGS_O d n * 2 ^ 8 + s.get .NEWT_FPFLAGS_U d n * 2 ^ 16

/-- Clear the flags whose bits are 1. -/
def State.clearFpFlags (s : State) (d n w : Nat) : State :=
  let c := fun v m => v - (v &&& m)
  ((s.put .NEWT_FPFLAGS_V d n (c (s.get .NEWT_FPFLAGS_V d n) (w % 256))).put .NEWT_FPFLAGS_O d n
    (c (s.get .NEWT_FPFLAGS_O d n) (w / 256 % 256))).put .NEWT_FPFLAGS_U d n (c (s.get .NEWT_FPFLAGS_U d n) (w / 65536 % 256))

/-- The sticky flags of a lane's result (R82). -/
def State.setFlags (s : State) (d n k : Nat) (r : FpRes) : State :=
  ((s.when (r.v = true) fun t => t.put .NEWT_FPFLAGS_V d n (setBit (t.get .NEWT_FPFLAGS_V d n) k)).when (r.o = true) fun t =>
    t.put .NEWT_FPFLAGS_O d n (setBit (t.get .NEWT_FPFLAGS_O d n) k)).when (r.u = true) fun t =>
      t.put .NEWT_FPFLAGS_U d n (setBit (t.get .NEWT_FPFLAGS_U d n) k)

/-- A lane's result goes to a v register, with its flags. -/
def State.laneOut (s : State) (d n r k : Nat) (x : FpRes) : State := (s.setV d n r k x.bits).setFlags d n k x

/-! ### The M slot -/

/-- The lanes a predicate enables. -/
def lanesOf (p : Nat) : List Nat := (List.range 8).filter fun k => bitAt p k == 1

/-- Source B of a lane: v register, or a scalar for every lane (R106). -/
def State.srcB (o : State) (d n b : Nat) (bs : Bool) (k : Nat) : Nat := if bs then o.sReg d n b else o.vReg d n b k

/-- The function of a two-source lane operation (R111). -/
def LaneOp.eval : LaneOp → Nat → Nat → Nat → FpRes
  | .fma, x, a, b => laneFma x a b
  | .mul, _, a, b => laneMul a b
  | .add, _, a, b => laneAdd a b
  | .sub, _, a, b => laneSub a b
  | .min, _, a, b => laneMin a b
  | .max, _, a, b => laneMax a b

/-- The function of a one-source lane operation. -/
def UnaryOp.eval : UnaryOp → Nat → FpRes
  | .abs, a => laneAbs a
  | .neg, a => laneNeg a
  | .rcps, a => laneRcps a

/-- A result that only flags a NaN operand. -/
def nanFlag (v : Bool) : FpRes := ⟨0, v, false, false⟩

/-- The M slot: operands from `o`, results into `s`. -/
def State.mSlot (s o : State) (d n : Nat) : MIns → State
  | .vmac x a b p bs z m =>
    s.each (lanesOf (o.pReg d n p)) fun k t =>
      let r := laneMac z m (o.accReg d n x k) (o.vReg d n a k) (o.srcB d n b bs k)
      (t.setAcc d n x k r.bits).setFlags d n k r
  | .lane op x a b p bs =>
    s.each (lanesOf (o.pReg d n p)) fun k t =>
      t.laneOut d n x k (LaneOp.eval op (o.vReg d n x k) (o.vReg d n a k) (o.srcB d n b bs k))
  | .unary op x a p => s.each (lanesOf (o.pReg d n p)) fun k t => t.laneOut d n x k (UnaryOp.eval op (o.vReg d n a k))
  | .vcmp x a b p bs cond =>
    s.each (lanesOf (o.pReg d n p)) fun k t =>
      let va := o.vReg d n a k
      let vb := o.srcB d n b bs k
      (t.setP d n x (setBits (t.pReg d n x) k 1 (flag (laneCmp cond va vb)))).setFlags d n k (nanFlag (fpNan va || fpNan vb))
  | .vsel x a b p =>
    s.each (List.range 8) fun k t => t.setV d n x k (if bitAt (o.pReg d n p) k = 1 then o.vReg d n a k else o.vReg d n b k)
  | .vrnd x a p c =>
    s.each (lanesOf (o.pReg d n p)) fun k t =>
      (t.laneOut d n x k (laneRnd (o.accReg d n a k))).when (c = true) fun u => u.setAcc d n a k 0
  | .vglide x a b p =>
    s.each (lanesOf (o.pReg d n p)) fun k t =>
      let va := o.vReg d n a k
      let r := laneGlide (o.vReg d n x k) (o.vReg d n (x + 1) k) va (o.vReg d n b k)
      ((t.setV d n x k r.1).setV d n b k r.2).setFlags d n k (nanFlag (fpNan va))
  | .divi x a _ p =>
    s.each (lanesOf (o.pReg d n p)) fun k t =>
      let r := laneDivi (o.vReg d n a k)
      (t.setV d n x k r.1).setV d n (x + 1) k r.2
  | .divs x b p =>
    s.each (lanesOf (o.pReg d n p)) fun k t =>
      let r := laneDivs (o.vReg d n x k) (o.vReg d n (x + 1) k) (o.vReg d n b k)
      (t.setV d n x k r.1).setV d n (x + 1) k r.2
  | .divf x a b p =>
    s.each (lanesOf (o.pReg d n p)) fun k t =>
      t.laneOut d n x k (laneDivf (o.vReg d n x k) (o.vReg d n (x + 1) k) (o.vReg d n a k) (o.vReg d n b k))
  | .vcvt x a p dir sh =>
    s.each (lanesOf (o.pReg d n p)) fun k t =>
      t.laneOut d n x k (if dir then laneFromFix sh (o.vReg d n a k) else laneToFix sh (o.vReg d n a k))

/-! ### Addresses (R83, R84, R107) -/

/-- An address moved by `m`, circular where `l` is not 0 (R83, R84). -/
def moveAddr (a b l : Nat) (m : Int) : Nat :=
  if l = 0 then unsigned 32 ((a : Int) + m) else unsigned 32 ((b : Int) + ((a : Int) - b + m) % (l : Int))

/-- a[AR] moved by `m`. -/
def State.addrBy (o : State) (d n ar : Nat) (m : Int) : Nat :=
  moveAddr (o.get .DBG_A d (n * 12 + ar)) (o.get .DBG_B d (n * 12 + ar)) (o.get .DBG_L d (n * 12 + ar)) m

/-- The element stride of SM (R107). -/
def State.strideOf (o : State) (d n sm smi : Nat) : Int :=
  if sm = 0 then 4 else if sm = 1 then signed 32 (o.mReg d n smi) else 0

/-- The update amount of UM (R107). -/
def State.updateOf (o : State) (d n um u : Nat) : Int :=
  if um = 1 then signed 32 (o.mReg d n (u % 4)) else signed 7 u * 4

/-- The post-update of a[AR]. -/
def State.postUpdate (s o : State) (d n ar um u : Nat) : State :=
  s.when (um ≠ 0) fun t => t.put .DBG_A d (n * 12 + ar) (o.addrBy d n ar (o.updateOf d n um u))

/-- The enabled lanes of a vector access, each with its address as formed. -/
def State.vecLanes (o : State) (d n ar p sm smi : Nat) : List (Nat × Nat) :=
  (lanesOf (o.pReg d n p)).map fun k => (k, o.addrBy d n ar (k * o.strideOf d n sm smi))

/-- The one element of a scalar access. -/
def State.scalarLane (o : State) (d n ar : Nat) : List (Nat × Nat) := [(0, o.get .DBG_A d (n * 12 + ar))]

/-- A newt address, aligned (R67). -/
def aligned (a : Nat) : Nat := a / 4 * 4

/-- An address lies in DMEM (R66). -/
def inDmem (a : Nat) : Bool := a / 4 * 4 < 0x20000

/-- The clutch SRAM offset of an address, and the alias it goes through: 0 none, 1 bit-set, 2 bit-clear (R66). -/
def sramOf (a : Nat) : Option (Nat × Nat) :=
  let x := aligned a
  if 0x01000000 ≤ x ∧ x < 0x01800000 then some (x - 0x01000000, 0)
  else if 0x09000000 ≤ x ∧ x < 0x09800000 then some (x - 0x09000000, 1)
  else if 0x0D000000 ≤ x ∧ x < 0x0D800000 then some (x - 0x0D000000, 2)
  else none

/-- Lanes that reach clutch SRAM: lane, die-local address, alias kind. -/
def sramLanes (n : Nat) (l : List (Nat × Nat)) : List (Nat × Nat × Nat) :=
  l.filterMap fun q => (sramOf q.2).map fun x => (q.1, n / 8 * 0x800000 + x.1, x.2)

/-- Lanes that reach DMEM. -/
def dmemLanes (l : List (Nat × Nat)) : List (Nat × Nat) := (l.filter fun q => inDmem q.2).map fun q => (q.1, aligned q.2)

/-- An address is misaligned. -/
def misaligned (a : Nat) : Bool := a % 4 != 0

/-- An address is not decoded (R66). -/
def undecoded (a : Nat) : Bool := !inDmem a && (sramOf a).isNone

/-- Insert into a rising list without repeats. -/
def insertUp (x : Nat × Nat) : List (Nat × Nat) → List (Nat × Nat)
  | [] => [x]
  | y :: t => if x = y then y :: t else if x.1 < y.1 ∨ (x.1 = y.1 ∧ x.2 < y.2) then x :: y :: t else y :: insertUp x t

/-- Distinct 128-bit words of an access in rising order, with their alias kinds (R72, R110). -/
def sramWords (l : List (Nat × Nat × Nat)) : List (Nat × Nat) := l.foldl (fun w q => insertUp (q.2.1 / 16 * 16, q.2.2) w) []

/-- Distinct 64-bit DMEM words in lane order. -/
def dmemWords (l : List (Nat × Nat)) : List Nat := (l.map fun q => q.2 / 8 * 8).eraseDups

/-- Cycles of a DMEM access: the most distinct words in one bank (R68). -/
def dmemCycles (l : List (Nat × Nat)) : Nat :=
  let w := (l.map fun q => q.2).eraseDups
  (List.range 8).foldl (fun m b => max m (w.filter fun a => a / 4 % 8 == b).length) 1

/-- The faults of an access' addresses (R66, R67, R438): at most one of each; BADADDR and MISALIGN. -/
def State.addrFaults (s : State) (d n : Nat) (l : List (Nat × Nat)) : State × List Raise :=
  let bad := l.filter fun q => misaligned q.2 || undecoded q.2
  let mis := l.any fun q => misaligned q.2
  let und := l.any fun q => undecoded q.2
  let k := s.newtSlot d n
  let s1 := match bad with
    | [] => s
    | q :: _ => s.put .NEWT_BADADDR d n q.2
  (s1.when (mis = true) fun t => t.put .NEWT_STATUS_MISALIGN d n 1,
    (if mis then [Raise.mk .NEWT_MISALIGN k] else []) ++ if und then [Raise.mk .NEWT_ADDR k] else [])

/-! ### Loads and stores -/

/-- An element arrives in a register: a v lane or a scalar. -/
def State.loadTo (s : State) (d n : Nat) (vec : Bool) (r k x : Nat) : State :=
  if vec then s.setV d n r k x else s.setS d n r x

/-- The element a register stores. -/
def State.storeFrom (o : State) (d n : Nat) (vec : Bool) (r k : Nat) : Nat := if vec then o.vReg d n r k else o.sReg d n r

/-- The word read for an address among those read. -/
def wordAt (a : Nat) : List Nat → List Nat → Nat
  | w :: ws, x :: xs => if a / 8 * 8 = w then x / 2 ^ (a % 8 * 8) % 2 ^ 32 else wordAt a ws xs
  | _, _ => 0

/-- What port B does to a word of clutch SRAM in the cycle of the newt's access. -/
def AccessMeets.atWord (io : AccessMeets) (w : Nat) : Option PortAccess := (io.met.find? fun x => x.word == w).map fun x => x.access

/-- A newt's access to a word of clutch SRAM on port A, `later` cycles after its first: the two ports meet under R191 and R196, a word
locked against the newt is retried once it is free (R72, R192). The state, and the data of a read. -/
def State.newtWord (s : State) (d n w later : Nat) (io : AccessMeets) (kind : PortKind) (en data : Nat) : State × Nat :=
  match AccessMeets.atWord io w with
  | some b =>
    let t := (s.passLock d w 0 n).clearResp.twoPorts d w ⟨kind, n, en, data, false⟩ b
    (t, t.resp.dataA)
  | none =>
    if kind = .read then let r := s.wordRead d w 0 n (halvesOf en); (r.1, r.2.1)
    else ((s.wordWrite d w 0 n later (PortKind.alias_ kind) en data).1, 0)

/-- A load (R66 to R68, R71, R110, R122). -/
def State.loadSlot (s : State) (d n : Nat) (vec : Bool) (r : Nat) (l : List (Nat × Nat)) (io : AccessMeets) : State :=
  let f := s.addrFaults d n l
  let dl := dmemLanes l
  let q := f.1.newtReadWords d n (s.newtSlot d n) (dmemWords dl)
  let s1 := q.1.newtRaise d n (f.2 ++ q.2.2.1)
  let s2 := s1.each (l.filter fun x => undecoded x.2) fun x t => t.loadTo d n vec r x.1 0
  let s3 := s2.each dl fun x t => t.loadTo d n vec r x.1 (wordAt x.2 (dmemWords dl) q.2.1)
  let sl := sramLanes n l
  let ws := (sramWords (sl.map fun x => (x.1, x.2.1, 0)))
  s3.each ws fun w t =>
    let mine := sl.filter fun x => x.2.1 / 16 * 16 == w.1
    let rd := t.newtWord d n w.1 0 io .read (mine.foldl (fun e x => e ||| 15 * 2 ^ (x.2.1 % 16)) 0) 0
    rd.1.each mine fun x u => u.loadTo d n vec r x.1 (rd.2 / 2 ^ (x.2.1 % 16 * 8) % 2 ^ 32)

/-- Bytes and enables of the lanes that fall into one unit of memory; a later lane replaces an earlier one (R122). -/
def gather (size : Nat) (l : List (Nat × Nat)) : Nat × Nat :=
  l.foldl (fun acc q => (acc.1 ||| 15 * 2 ^ (q.1 % size), setBits acc.2 (q.1 % size * 8) 32 q.2)) (0, 0)

/-- Write the DMEM words of a store in turn. -/
def State.storeDmem (s : State) (d n : Nat) (l : List (Nat × Nat)) : List Nat → State × List Raise
  | [] => (s, [])
  | w :: ws =>
    let g := gather 8 (l.filter fun q => q.1 / 8 * 8 == w)
    let r := s.newtWriteWord d n w g.1 g.2 (s.newtSlot d n)
    let q := r.1.storeDmem d n l ws
    (q.1, r.2 ++ q.2)

/-- How a store accesses a word, by the alias it goes through. -/
def storeKind (al : Nat) : PortKind := if al = 0 then .write else if al = 1 then .set else .clear

/-- The words of clutch SRAM that a store writes: all, or without the last `cut` that a reset drops (R469). -/
def AccessMeets.kept (io : AccessMeets) (ws : List (Nat × Nat)) : List (Nat × Nat) :=
  if io.cut < ws.length then ws.take (ws.length - io.cut) else ws

/-- Write words of clutch SRAM in turn, two cycles for each through an alias (R195). -/
def State.storeWords (s o : State) (d n : Nat) (vec : Bool) (r : Nat) (sl : List (Nat × Nat × Nat)) (io : AccessMeets) (later : Nat) :
    List (Nat × Nat) → State
  | [] => s
  | w :: ws =>
    let g := gather 16 ((sl.filter fun x => x.2.1 / 16 * 16 == w.1 && x.2.2 == w.2).map fun x =>
      (x.2.1, o.storeFrom d n vec r x.1))
    (s.newtWord d n w.1 later io (storeKind w.2) g.1 g.2).1.storeWords o d n vec r sl io (later + if w.2 = 0 then 1 else 2) ws

/-- A store (R66 to R68, R110, R122, R194, R195, R512). Lanes that reach one word of clutch SRAM both directly and through an alias make
accesses of their own, in the order direct, bit-set, bit-clear, each counted as a word: DESIGN CHOICE (log entry 135). -/
def State.storeSlot (s o : State) (d n : Nat) (vec : Bool) (r : Nat) (l : List (Nat × Nat)) (io : AccessMeets) : State :=
  let f := s.addrFaults d n l
  let dl := dmemLanes l
  let q := f.1.storeDmem d n (dl.map fun x => (x.2, o.storeFrom d n vec r x.1)) (dmemWords dl)
  let s1 := q.1.newtRaise d n (f.2 ++ q.2)
  let sl := sramLanes n l
  s1.storeWords o d n vec r sl io 0 (AccessMeets.kept io (sramWords sl))

/-- The L slot. -/
def State.lSlot (s o : State) (d n : Nat) (io : AccessMeets) : LIns → State
  | .vld r ar p sm smi um u => (s.postUpdate o d n ar um u).loadSlot d n true r (o.vecLanes d n ar p sm smi) io
  | .vst r ar p sm smi um u => (s.postUpdate o d n ar um u).storeSlot o d n true r (o.vecLanes d n ar p sm smi) io
  | .lds r ar um u => (s.postUpdate o d n ar um u).loadSlot d n false r (o.scalarLane d n ar) io
  | .sts r ar um u => (s.postUpdate o d n ar um u).storeSlot o d n false r (o.scalarLane d n ar) { io with cut := 0 }
  | .adda ar um u => s.postUpdate o d n ar um u

/-! ### The cycles of the L slot (R68, R75, R109, R110, R195) -/

/-- The lanes an L instruction accesses, and whether it stores. -/
def State.lLanes (o : State) (d n : Nat) : LIns → List (Nat × Nat) × Bool
  | .vld _ ar p sm smi _ _ => (o.vecLanes d n ar p sm smi, false)
  | .vst _ ar p sm smi _ _ => (o.vecLanes d n ar p sm smi, true)
  | .lds _ ar _ _ => (o.scalarLane d n ar, false)
  | .sts _ ar _ _ => (o.scalarLane d n ar, true)
  | .adda _ _ _ => ([], false)

/-- Clutch SRAM words of an access, with the alias kinds of a store. -/
def lWords (n : Nat) (q : List (Nat × Nat) × Bool) : List (Nat × Nat) :=
  sramWords ((sramLanes n q.1).map fun x => (x.1, x.2.1, if q.2 then x.2.2 else 0))

/-- Cycles an access holds the L slot: by DMEM bank, and by clutch SRAM word, two for an alias write. Where its lanes reach both, the
larger of the two: the spec gives no count for the mix. DESIGN CHOICE (log entry 114). -/
def lCycles (n : Nat) (q : List (Nat × Nat) × Bool) : Nat :=
  max (dmemCycles (dmemLanes q.1)) ((lWords n q).foldl (fun m w => m + if w.2 = 0 then 1 else 2) 0)

/-- Cycles from the issue of a load to the use of its result, on the same choice for a mix. An access with no enabled lane is one of
the memory its base address names, with w = 1 in clutch SRAM (R110); one whose lanes reach neither memory takes DMEM's 3: DESIGN CHOICE
(log entry 134). -/
def lLatency (n : Nat) (q : List (Nat × Nat) × Bool) (base : Nat) : Nat :=
  let w := (lWords n q).length
  let c := 2 + dmemCycles (dmemLanes q.1)
  if q.1 = [] then (if (sramOf base).isSome then 8 else 3)
  else if w = 0 then c
  else if dmemLanes q.1 = [] then 7 + w
  else max c (7 + w)

/-- The address a[AR] of an L instruction. -/
def State.lBase (o : State) (d n : Nat) : LIns → Nat
  | .vld _ ar _ _ _ _ _ | .vst _ ar _ _ _ _ _ | .lds _ ar _ _ | .sts _ ar _ _ | .adda ar _ _ => o.get .DBG_A d (n * 12 + ar)

/-- A plain store to clutch SRAM: the words it writes past a DONE are waited for in DRAINING (R91). -/
def plainStore (n : Nat) (q : List (Nat × Nat) × Bool) : Bool :=
  q.2 && lWords n q != [] && (lWords n q).all (fun w => w.2 == 0) && dmemLanes q.1 == []

/-! ### The C slot: moves -/

/-- The functions of the SALU group (R123). -/
def SaluFn.eval : SaluFn → Nat → Nat → Nat
  | .add, a, b => (a + b) % 2 ^ 32
  | .sub, a, b => (a + 2 ^ 32 - b) % 2 ^ 32
  | .and, a, b => a &&& b
  | .or, a, b => a ||| b
  | .xor, a, b => a ^^^ b
  | .shl, a, b => a * 2 ^ (b % 32) % 2 ^ 32
  | .shr, a, b => a / 2 ^ (b % 32)
  | .sra, a, b => unsigned 32 (signed 32 a / ((2 ^ (b % 32) : Nat) : Int))
  | .mul, a, b => a * b % 2 ^ 32
  | .min, a, b => if signed 32 a < signed 32 b then a else b
  | .max, a, b => if signed 32 a < signed 32 b then b else a
  | .slt, a, b => flag (signed 32 a < signed 32 b)
  | .sltu, a, b => flag (a < b)

/-- A source of MOVR (R124). -/
def State.movrSrc (o : State) (d n sf si : Nat) : Nat :=
  match sf with
  | 0 => o.sReg d n si
  | 1 => o.get .DBG_A d (n * 12 + si)
  | 2 => o.get .DBG_B d (n * 12 + si)
  | 3 => o.get .DBG_L d (n * 12 + si)
  | 4 => o.mReg d n si
  | 5 => o.pReg d n si
  | _ => o.fpFlags d n

/-- A destination of MOVR (R124, R125). -/
def State.movrDst (s : State) (d n df di x : Nat) : State :=
  match df with
  | 0 => s.setS d n di x
  | 1 => s.put .DBG_A d (n * 12 + di) x
  | 2 => s.put .DBG_B d (n * 12 + di) x
  | 3 => s.put .DBG_L d (n * 12 + di) x
  | 4 => s.put .DBG_M d (n * 4 + di) x
  | 5 => s.setP d n di (x % 256)
  | _ => s.clearFpFlags d n x

/-- The register result of a C instruction; `next` is the word index of the next bundle. -/
def State.cMove (s o : State) (d n next : Nat) : CIns → State
  | .salu fn x a b => s.setS d n x (SaluFn.eval fn (o.sReg d n a) (o.sReg d n b))
  | .saddi x a imm => s.setS d n x (unsigned 32 ((o.sReg d n a : Int) + signed 16 imm))
  | .ldil x imm => s.setS d n x imm
  | .ldih x imm => s.setS d n x (o.sReg d n x % 2 ^ 16 + imm * 2 ^ 16)
  | .movr df di sf si => s.movrDst d n df di (o.movrSrc d n sf si)
  | .vext v x k => s.setS d n x (o.vReg d n v k)
  | .vins v x k => s.setV d n v k (o.sReg d n x)
  | .call _ => s.setS d n 12 (next * 4)
  | .nop | .br _ | .brc _ _ _ | .ret | .rept _ _ _ | .loopTop _ _ _ | .endl | .sig _ _ | .done | .halt => s

/-! ### Block loops (R86, R127, R128) -/

/-- Active levels. -/
def State.loopDepth (s : State) (d n : Nat) : Nat := s.get .NEWT_STATUS_LOOPDEPTH d n

/-- Instance of level `k`'s cells. -/
def levelIx (n k : Nat) : Nat := n * 12 + 8 + k

/-- Start, end and count of a level; start and end as word indices. -/
def State.levelStart (s : State) (d n k : Nat) : Nat := s.get .DBG_A d (levelIx n k) / 4
def State.levelEnd (s : State) (d n k : Nat) : Nat := s.get .DBG_B d (levelIx n k) / 4
def State.levelCount (s : State) (d n k : Nat) : Nat := s.get .DBG_L d (levelIx n k)

/-- Push a level. -/
def State.pushLevel (s : State) (d n start stop count : Nat) : State :=
  let k := s.loopDepth d n
  (((s.put .DBG_A d (levelIx n k) (start * 4)).put .DBG_B d (levelIx n k) (stop * 4)).put .DBG_L d (levelIx n k) count).put
    .NEWT_STATUS_LOOPDEPTH d n (k + 1)

/-- Pop the innermost level. -/
def State.popLevel (s : State) (d n : Nat) : State :=
  let k := s.loopDepth d n - 1
  (((s.put .DBG_A d (levelIx n k) 0).put .DBG_B d (levelIx n k) 0).put .DBG_L d (levelIx n k) 0).put
    .NEWT_STATUS_LOOPDEPTH d n k

/-- A taken branch pops the levels whose bodies do not hold the target, from the innermost outward (R128). A target inside the bundle
that ends the body, past its first word, counts as outside: DESIGN CHOICE (log entry 115). -/
def State.popOutside (s : State) (d n tgt : Nat) : Nat → State
  | 0 => s
  | fuel + 1 =>
    let k := s.loopDepth d n - 1
    if s.loopDepth d n = 0 ∨ (s.levelStart d n k ≤ tgt ∧ tgt ≤ s.levelEnd d n k) then s
    else (s.popLevel d n).popOutside d n tgt fuel

/-! ### The C slot: control -/

/-- The condition of BRC (R126). -/
def State.brcTaken (o : State) (d n cond a : Nat) : Bool :=
  let x := signed 32 (o.sReg d n a)
  match cond with
  | 0 => x == 0
  | 1 => x != 0
  | 2 => x < 0
  | 3 => 0 ≤ x
  | 4 => 0 < x
  | 5 => x ≤ 0
  | 6 => o.pReg d n (a % 4) != 0
  | _ => o.pReg d n (a % 4) == 0xFF

/-- The count of a LOOP or REPT (R127, R129). -/
def State.countOf (o : State) (d n : Nat) (byReg : Bool) (x : Nat) : Nat := if byReg then o.sReg d n x else x + 1

/-- Control of a bundle whose next bundle in order lies at word `next`: the state, and the word at which execution goes
on. -/
def State.control (s o : State) (d n next : Nat) : CIns → State × Nat
  | .br tgt => (s.popOutside d n tgt 4, tgt)
  | .brc cond a tgt => if o.brcTaken d n cond a then (s.popOutside d n tgt 4, tgt) else (s, next)
  | .call tgt => (s, tgt)
  | .ret => (s, bitsAt (o.sReg d n 12) 2 13)
  | .rept rs a x =>
    let count := o.countOf d n rs (if rs then a else x)
    if count = 0 then (s, next + s.bundleLen d n next)
    else ((s.put .NEWT_REPT d n count).put .NEWT_STATUS_INREPT d n 1, next)
  | .loopTop byReg x tgt =>
    let count := o.countOf d n byReg x
    if count = 0 then (s, tgt + s.bundleLen d n tgt) else (s.pushLevel d n next tgt count, next)
  | .endl =>
    let k := s.loopDepth d n - 1
    if 1 < s.levelCount d n k then (s.dec .DBG_L d (levelIx n k) 1, s.levelStart d n k) else (s.popLevel d n, next)
  | .sig a b =>
    let fl := o.sReg d n b % 2 ^ 31
    (s.when (fl ≠ 0) fun t => t.post d (n / 8) (o.sReg d n a) fl (t.get .NEWT_TASK_DOMAIN d n) 0, next)
  | .done => ((s.newtDrains d n), next)
  | .halt =>
    (if s.dbgEn d n then s.put .NEWT_STATUS_HALT_PEND d n 1
     else (s.put .NEWT_STATUS_HALT_IGN d n 1).newtRaise d n [⟨.NEWT_HALT_IGN, s.newtSlot d n⟩], next)
  | .nop | .salu _ _ _ _ | .saddi _ _ _ | .ldil _ _ | .ldih _ _ | .movr _ _ _ _ | .vext _ _ _ | .vins _ _ _ => (s, next)

/-! ### Legality (R131) -/

/-- Source B is a register: with BS = 1 bit 13 is 0 (R106). -/
def legalB (b : Nat) (bs : Bool) : Bool := !bs || b < 16

/-- No M encoding rule is broken. -/
def MIns.legal : MIns → Bool
  | .vcmp _ _ b _ bs cond => cond < 7 && legalB b bs
  | .vglide x _ b _ => x % 2 == 0 && b != x && b != x + 1
  | .divi x _ _ _ | .divs x _ _ | .divf x _ _ _ => x % 2 == 0
  | .vmac _ _ b _ bs _ _ | .lane _ _ _ b _ bs => legalB b bs
  | .unary _ _ _ _ | .vsel _ _ _ _ | .vrnd _ _ _ _ | .vcvt _ _ _ _ _ => true

/-- An address register index is legal in a loop mode (R107). -/
def legalAr (loopsel ar : Nat) : Bool := ar < 8 || (ar < 12 && loopsel == 1)

/-- The update fields are legal (R105, R107). -/
def legalUpdate (um u : Nat) : Bool := (um == 0 && u == 0) || (um == 1 && u < 4) || um == 2

/-- The stride fields are legal. -/
def legalStride (sm smi : Nat) : Bool := sm == 1 || (smi == 0 && sm != 3)

/-- No L encoding rule is broken. -/
def LIns.legal (loopsel : Nat) : LIns → Bool
  | .vld _ ar _ sm smi um u => legalAr loopsel ar && legalStride sm smi && legalUpdate um u
  | .vst _ ar _ sm smi um u => legalAr loopsel ar && legalStride sm smi && legalUpdate um u && sm != 2
  | .lds _ ar um u | .sts _ ar um u => legalAr loopsel ar && legalUpdate um u
  | .adda ar um u => legalAr loopsel ar && legalUpdate um u && um != 0

/-- A register MOVR names is legal (R124). -/
def legalMovr (loopsel f i : Nat) : Bool :=
  match f with
  | 0 => i < 16
  | 1 | 2 | 3 => legalAr loopsel i
  | 4 | 5 => i < 4
  | 6 => i == 0
  | _ => false

/-- What may stand in the C slot of a repeated bundle (R129). -/
def CIns.repeatable : CIns → Bool
  | .nop | .salu _ _ _ _ | .saddi _ _ _ | .ldil _ _ | .ldih _ _ | .movr _ _ _ _ | .vext _ _ _ | .vins _ _ _ => true
  | .br _ | .brc _ _ _ | .call _ | .ret | .rept _ _ _ | .loopTop _ _ _ | .endl | .sig _ _ | .done | .halt => false

/-- The bundle that a REPT repeats holds no forbidden C instruction (R129); one that is no bundle is left to its own decoding. -/
def State.repeatsLegal (s : State) (d n next : Nat) : Bool :=
  match s.bundleAt d n next with
  | none => true
  | some y => y.c.all CIns.repeatable

/-- No rule for a C instruction of a bundle is broken; it lies at word `pc`, the next in order at `next`. -/
def State.legalC (s : State) (d n pc next : Nat) : CIns → Bool
  | .movr df di sf si =>
    legalMovr (s.get .NEWT_CFG_LOOPSEL d n) df di && legalMovr (s.get .NEWT_CFG_LOOPSEL d n) sf si
  | .brc cond a _ => cond < 6 || a < 4
  | .loopTop byReg x tgt => s.get .NEWT_CFG_LOOPSEL d n == 0 && s.loopDepth d n < 4 && next ≤ tgt && (!byReg || x < 16)
  | .endl => s.get .NEWT_CFG_LOOPSEL d n == 0 && 0 < s.loopDepth d n && s.levelEnd d n (s.loopDepth d n - 1) == pc
  | .rept rs a x => (if rs then x else a) == 0 && s.repeatsLegal d n next && s.countOf d n rs (if rs then a else x) ≤ 65536
  | .nop | .salu _ _ _ _ | .saddi _ _ _ | .ldil _ _ | .ldih _ _ | .vext _ _ _ | .vins _ _ _ | .br _ | .call _ | .ret | .sig _ _
  | .done | .halt => true

/-- No element occurs twice. -/
def distinct : List (Nat × Nat) → Bool
  | [] => true
  | x :: t => !(t.contains x) && distinct t

/-- The bundle at `pc` is legal. -/
def State.legalBundle (s : State) (b : Bundle) (pc : Nat) : Bool :=
  b.m.all MIns.legal && b.l.all (fun i => LIns.legal (s.get .NEWT_CFG_LOOPSEL b.die b.newt) i) &&
    b.c.all (fun i => s.legalC b.die b.newt pc (pc + b.words) i) && distinct b.dests &&
      (s.get .NEWT_STATUS_INREPT b.die b.newt == 0 || b.c.all CIns.repeatable)

/-! ### Issue -/

/-- What follows the slots: PC, the next bundle, a repetition, a halt (R88, R93, R94). After a bundle that ends at word 8,191 the next
lies at word 0, NEWT_NEXT having 13 bits: DESIGN CHOICE (log entry 116). -/
def State.bundleEnd (s : State) (d n pc next : Nat) (repeating : Bool) : State :=
  let s1 := ((s.put .NEWT_PC d n pc).put .NEWT_LAST d n pc).put .NEWT_SKIPBP d n 0
  let s2 :=
    if repeating then
      let s2 := s1.when (s1.dbgEn d n = true ∧ s1.bkptHit d n = true) fun t => t.put .NEWT_STATUS_HALT_PEND d n 1
      if s2.get .NEWT_REPT d n ≤ 1 then (s2.reptEnd d n).put .NEWT_NEXT d n next
      else s2.dec .NEWT_REPT d n 1
    else s1.put .NEWT_NEXT d n next
  if s2.newtIs d n newtRun = false ∨ s2.on .NEWT_STATUS_INREPT d n = true then s2
  else
    let s3 := s2.when (s2.on .NEWT_STEP d n = true) fun t => (t.put .NEWT_STEP d n 0).put .NEWT_STATUS_HALT_PEND d n 1
    s3.when (s3.on .NEWT_STATUS_HALT_PEND d n = true ∧ s3.dbgEn d n = true) fun t => t.newtHalts d n

/-- The bundle at a word spans two 128-bit fetch lines (R75). -/
def State.spans (s : State) (d n pc : Nat) : Bool := pc / 4 != (pc + s.bundleLen d n pc - 1) / 4

/-- Cycles from a bundle to the next, by its C slot: 2 to the target of a taken branch, CALL or RET, 3 where that spans two lines, else
1 (R75); a LOOP or REPT with count 0 goes to its target as a branch does. -/
def State.branchCycles (s : State) (d n next tgt : Nat) : CIns → Nat
  | .br _ | .call _ | .ret => if s.spans d n tgt then 3 else 2
  | .brc cond a _ => if s.brcTaken d n cond a = false then 1 else if s.spans d n tgt then 3 else 2
  | .rept _ _ _ | .loopTop _ _ _ => if tgt = next then 1 else if s.spans d n tgt then 3 else 2
  | .nop | .salu _ _ _ _ | .saddi _ _ _ | .ldil _ _ | .ldih _ _ | .movr _ _ _ _ | .vext _ _ _ | .vins _ _ _ | .endl | .sig _ _
  | .done | .halt => 1

/-- The stalls of a bundle (R68, R69, R72, R76, R110, R195): those of the scoreboard, those of the L slot with the retries of locked
words, the cycles lost to arbitration and to fabric beats, and the board after it. The cycles in which a plain store to clutch SRAM
holds the slot past a DONE are DRAINING's. -/
def State.stalls (s o : State) (b : Bundle) (next tgt : Nat) : State :=
  let d := b.die
  let n := b.newt
  let q := (b.l.map fun i => o.lLanes d n i).getD ([], false)
  let ws := lWords n q
  let lost := (if ws = [] then 0 else b.io.lost) + (ws.filter fun w => o.lockedFor d w.1 0).length
  let fab := if dmemLanes q.1 = [] then 0 else b.io.fab
  let load := lLatency n q ((b.l.map fun i => o.lBase d n i).getD 0) + lost + fab
  let mem := lCycles n q - 1
  let board := o.boardOf d n
  let t := board.need b load
  let hold := max (1 + mem + lost + fab) ((b.c.map fun i => o.branchCycles d n next tgt i).getD 1)
  let s1 := (s.inc .NEWT_STALL_SB d n (t - board.cyc)).inc .NEWT_STALL_FAB d n fab
  let s2 := s1.inc .NEWT_STALL_MEM d n (lost + if b.c = some .done ∧ plainStore n q = true then 0 else mem)
  s2.setBoard (board.issued b load t hold)

/-- A reset drops words of the bundle's vector store, which holds the slot for more than one (R469). -/
def State.cutShort (o : State) (b : Bundle) : Bool :=
  match b.l with
  | some (.vst r ar p sm smi um u) =>
    0 < b.io.cut && b.io.cut < (lWords b.newt (o.lLanes b.die b.newt (.vst r ar p sm smi um u))).length
  | _ => false

/-- A legal bundle issues (R104): C moves, the L slot, the M slot, control. The C slot's move stands first, so that a
MOVR of NEWT_FPFLAGS does not touch the flags of its own bundle (R125). A reset that cuts its store short follows at once (R469). -/
def State.issueBundle (s : State) (b : Bundle) (pc : Nat) : State :=
  let d := b.die
  let n := b.newt
  let next := pc + b.words
  let s1 := match b.c with
    | none => s
    | some i => s.cMove s d n next i
  let s2 := match b.l with
    | none => s1
    | some i => s1.lSlot s d n b.io i
  let s3 := match b.m with
    | none => s2
    | some i => s2.mSlot s d n i
  let q := match b.c with
    | none => (s3, next)
    | some i => s3.control s d n next i
  ((q.1.stalls s b next q.2).bundleEnd d n pc q.2 (s.on .NEWT_STATUS_INREPT d n)).when (s.cutShort b = true) fun t => t.newtReset d n

/-- The last instruction of a bundle has come. -/
def State.runBundle (s : State) (b : Bundle) : State :=
  let pc := s.get .NEWT_NEXT b.die b.newt
  let t := s.dropBundle b.die b.newt
  if t.legalBundle b pc then t.issueBundle b pc else t.newtFaults .NEWT_ILLEGAL [] b.die b.newt

/-- The next instruction may come: the newt runs and no breakpoint stops it before the bundle (R93, R94). -/
def State.stopsBefore (s : State) (d n : Nat) : Bool :=
  s.bundleOf d n == none && s.dbgEn d n && !s.on .NEWT_STATUS_INREPT d n && !s.on .NEWT_SKIPBP d n && s.bkptHit d n

/-- The bundle being decoded, or an empty one. -/
def State.openBundle (s : State) (d n : Nat) : Bundle := (s.bundleOf d n).getD ⟨d, n, none, none, none, AccessMeets.free⟩

/-- An instruction joins the bundle, being what the newt's next word holds; with `e` set it is the last (R102, R105). A word that
holds another instruction is not this one's, and nothing happens. An instruction of the L slot brings what its access meets. -/
def State.issue (s : State) (d n : Nat) (e : Bool) (op : NewtOp) (io : Option AccessMeets) : State :=
  let b := s.openBundle d n
  let word := s.get .NEWT_NEXT d n + b.words
  if s.newtIs d n newtRun = false ∨ s.dieClocked d = false ∨ s.holds d n word e op = false then s
  else if s.stopsBefore d n then s.newtHalts d n
  else
    match Bundle.join b op with
    | none => s.newtFaults .NEWT_ILLEGAL [] d n
    | some y =>
      let x := { y with io := io.getD y.io }
      if e then s.runBundle x
      else if 8191 ≤ word ∨ x.words = 3 then s.newtFaults .NEWT_ILLEGAL [] d n
      else { s.dropBundle d n with bundles := (s.dropBundle d n).bundles ++ [x] }

/-- An M instruction. -/
def State.issueM (s : State) (d n : Nat) (e : Bool) (i : MIns) : State := s.issue d n e (.m i) none

/-- An L instruction, with what its access meets. -/
def State.issueL (s : State) (d n : Nat) (e : Bool) (i : LIns) (io : AccessMeets) : State := s.issue d n e (.l i) (some io)

/-- A C instruction. -/
def State.issueC (s : State) (d n : Nat) (e : Bool) (i : CIns) : State := s.issue d n e (.c i) none

/-- The next bundle is illegal (R131). -/
def State.nextIllegal (s : State) (d n : Nat) : Bool :=
  match s.bundleAt d n (s.get .NEWT_NEXT d n) with
  | none => true
  | some b => !s.legalBundle b (s.get .NEWT_NEXT d n)

/-- ILLEGAL_ENCODING (R131, R132): the next bundle meets an illegal condition at decode. -/
def execIllegalEncoding (d n : Nat) (s : State) : Result :=
  .next <| s.when (s.newtIs d n newtRun = true ∧ s.dieClocked d = true ∧ s.nextIllegal d n = true) fun t =>
    t.newtFaults .NEWT_ILLEGAL [] d n

end Sys2Proof.Machine
end

