-- ==== Sys2Proof/Machine/NewtIns.lean ====
section
/-! DEFINITION. The instructions of a newt (R102 to R132), one meaning each: the instruction joins the bundle of a newt of
a die, and with `e` set the bundle issues. -/

namespace Sys2Proof.Machine

/-- VMAC (R112). -/
def execVmac (die newt : Nat) (e : Bool) (d a b p : Nat) (bs z neg : Bool) (s : State) : Result :=
  .next <| s.issueM die newt e (.vmac d a b p bs z neg)

/-- VFMA (R111). -/
def execVfma (die newt : Nat) (e : Bool) (d a b p : Nat) (bs : Bool) (s : State) : Result :=
  .next <| s.issueM die newt e (.lane .fma d a b p bs)

/-- VMUL (R111). -/
def execVmul (die newt : Nat) (e : Bool) (d a b p : Nat) (bs : Bool) (s : State) : Result :=
  .next <| s.issueM die newt e (.lane .mul d a b p bs)

/-- VADD (R111). -/
def execVadd (die newt : Nat) (e : Bool) (d a b p : Nat) (bs : Bool) (s : State) : Result :=
  .next <| s.issueM die newt e (.lane .add d a b p bs)

/-- VSUB (R111). -/
def execVsub (die newt : Nat) (e : Bool) (d a b p : Nat) (bs : Bool) (s : State) : Result :=
  .next <| s.issueM die newt e (.lane .sub d a b p bs)

/-- VMIN (R111). -/
def execVmin (die newt : Nat) (e : Bool) (d a b p : Nat) (bs : Bool) (s : State) : Result :=
  .next <| s.issueM die newt e (.lane .min d a b p bs)

/-- VMAX (R111). -/
def execVmax (die newt : Nat) (e : Bool) (d a b p : Nat) (bs : Bool) (s : State) : Result :=
  .next <| s.issueM die newt e (.lane .max d a b p bs)

/-- VABS (R111). -/
def execVabs (die newt : Nat) (e : Bool) (d a p : Nat) (s : State) : Result :=
  .next <| s.issueM die newt e (.unary .abs d a p)

/-- VNEG (R111). -/
def execVneg (die newt : Nat) (e : Bool) (d a p : Nat) (s : State) : Result :=
  .next <| s.issueM die newt e (.unary .neg d a p)

/-- VCMP (R113). -/
def execVcmp (die newt : Nat) (e : Bool) (d a b p : Nat) (bs : Bool) (cond : Nat) (s : State) : Result :=
  .next <| s.issueM die newt e (.vcmp d a b p bs cond)

/-- VSEL (R114). -/
def execVsel (die newt : Nat) (e : Bool) (d a b p : Nat) (s : State) : Result :=
  .next <| s.issueM die newt e (.vsel d a b p)

/-- VRND (R115). -/
def execVrnd (die newt : Nat) (e : Bool) (d a p : Nat) (clr : Bool) (s : State) : Result :=
  .next <| s.issueM die newt e (.vrnd d a p clr)

/-- VGLIDE (R117). -/
def execVglide (die newt : Nat) (e : Bool) (d a b p : Nat) (s : State) : Result :=
  .next <| s.issueM die newt e (.vglide d a b p)

/-- RCPS (R118). -/
def execRcps (die newt : Nat) (e : Bool) (d a p : Nat) (s : State) : Result :=
  .next <| s.issueM die newt e (.unary .rcps d a p)

/-- DIVI (R111, R119): the table gives it vB, which it does not use. -/
def execDivi (die newt : Nat) (e : Bool) (d a b p : Nat) (s : State) : Result :=
  .next <| s.issueM die newt e (.divi d a b p)

/-- DIVS (R119). -/
def execDivs (die newt : Nat) (e : Bool) (d b p : Nat) (s : State) : Result :=
  .next <| s.issueM die newt e (.divs d b p)

/-- DIVF (R120). -/
def execDivf (die newt : Nat) (e : Bool) (d a b p : Nat) (s : State) : Result :=
  .next <| s.issueM die newt e (.divf d a b p)

/-- VCVT (R116). -/
def execVcvt (die newt : Nat) (e : Bool) (d a p : Nat) (dir : Bool) (shift : Nat) (s : State) : Result :=
  .next <| s.issueM die newt e (.vcvt d a p dir shift)

/-- VLD (R121). -/
def execVld (die newt : Nat) (e : Bool) (r ar p sm smi um u : Nat) (io : AccessMeets) (s : State) : Result :=
  .next <| s.issueL die newt e (.vld r ar p sm smi um u) io

/-- VST (R121). -/
def execVst (die newt : Nat) (e : Bool) (r ar p sm smi um u : Nat) (io : AccessMeets) (s : State) : Result :=
  .next <| s.issueL die newt e (.vst r ar p sm smi um u) io

/-- LDS (R121). -/
def execLds (die newt : Nat) (e : Bool) (r ar um u : Nat) (io : AccessMeets) (s : State) : Result :=
  .next <| s.issueL die newt e (.lds r ar um u) io

/-- STS (R121). -/
def execSts (die newt : Nat) (e : Bool) (r ar um u : Nat) (io : AccessMeets) (s : State) : Result :=
  .next <| s.issueL die newt e (.sts r ar um u) io

/-- ADDA (R121). -/
def execAdda (die newt : Nat) (e : Bool) (ar um u : Nat) (s : State) : Result :=
  .next <| s.issueL die newt e (.adda ar um u) AccessMeets.free

/-- NOP (R123). -/
def execNop (die newt : Nat) (e : Bool) (s : State) : Result :=
  .next <| s.issueC die newt e .nop

/-- SALU_ADD (R123). -/
def execSaluAdd (die newt : Nat) (e : Bool) (d a b : Nat) (s : State) : Result :=
  .next <| s.issueC die newt e (.salu .add d a b)

/-- SALU_SUB (R123). -/
def execSaluSub (die newt : Nat) (e : Bool) (d a b : Nat) (s : State) : Result :=
  .next <| s.issueC die newt e (.salu .sub d a b)

/-- SALU_AND (R123). -/
def execSaluAnd (die newt : Nat) (e : Bool) (d a b : Nat) (s : State) : Result :=
  .next <| s.issueC die newt e (.salu .and d a b)

/-- SALU_OR (R123). -/
def execSaluOr (die newt : Nat) (e : Bool) (d a b : Nat) (s : State) : Result :=
  .next <| s.issueC die newt e (.salu .or d a b)

/-- SALU_XOR (R123). -/
def execSaluXor (die newt : Nat) (e : Bool) (d a b : Nat) (s : State) : Result :=
  .next <| s.issueC die newt e (.salu .xor d a b)

/-- SALU_SHL (R123). -/
def execSaluShl (die newt : Nat) (e : Bool) (d a b : Nat) (s : State) : Result :=
  .next <| s.issueC die newt e (.salu .shl d a b)

/-- SALU_SHR (R123). -/
def execSaluShr (die newt : Nat) (e : Bool) (d a b : Nat) (s : State) : Result :=
  .next <| s.issueC die newt e (.salu .shr d a b)

/-- SALU_SRA (R123). -/
def execSaluSra (die newt : Nat) (e : Bool) (d a b : Nat) (s : State) : Result :=
  .next <| s.issueC die newt e (.salu .sra d a b)

/-- SALU_MUL (R123). -/
def execSaluMul (die newt : Nat) (e : Bool) (d a b : Nat) (s : State) : Result :=
  .next <| s.issueC die newt e (.salu .mul d a b)

/-- SALU_MIN (R123). -/
def execSaluMin (die newt : Nat) (e : Bool) (d a b : Nat) (s : State) : Result :=
  .next <| s.issueC die newt e (.salu .min d a b)

/-- SALU_MAX (R123). -/
def execSaluMax (die newt : Nat) (e : Bool) (d a b : Nat) (s : State) : Result :=
  .next <| s.issueC die newt e (.salu .max d a b)

/-- SALU_SLT (R123). -/
def execSaluSlt (die newt : Nat) (e : Bool) (d a b : Nat) (s : State) : Result :=
  .next <| s.issueC die newt e (.salu .slt d a b)

/-- SALU_SLTU (R123). -/
def execSaluSltu (die newt : Nat) (e : Bool) (d a b : Nat) (s : State) : Result :=
  .next <| s.issueC die newt e (.salu .sltu d a b)

/-- SADDI (R123). -/
def execSaddi (die newt : Nat) (e : Bool) (d a imm : Nat) (s : State) : Result :=
  .next <| s.issueC die newt e (.saddi d a imm)

/-- LDIL (R123). -/
def execLdil (die newt : Nat) (e : Bool) (d imm : Nat) (s : State) : Result :=
  .next <| s.issueC die newt e (.ldil d imm)

/-- LDIH (R123). -/
def execLdih (die newt : Nat) (e : Bool) (d imm : Nat) (s : State) : Result :=
  .next <| s.issueC die newt e (.ldih d imm)

/-- MOVR (R124). -/
def execMovr (die newt : Nat) (e : Bool) (df di sf si : Nat) (s : State) : Result :=
  .next <| s.issueC die newt e (.movr df di sf si)

/-- VEXT (R123). -/
def execVext (die newt : Nat) (e : Bool) (v sreg lane : Nat) (s : State) : Result :=
  .next <| s.issueC die newt e (.vext v sreg lane)

/-- VINS (R123). -/
def execVins (die newt : Nat) (e : Bool) (v sreg lane : Nat) (s : State) : Result :=
  .next <| s.issueC die newt e (.vins v sreg lane)

/-- BR (R123, R128). -/
def execBr (die newt : Nat) (e : Bool) (tgt : Nat) (s : State) : Result :=
  .next <| s.issueC die newt e (.br tgt)

/-- BRC (R126). -/
def execBrc (die newt : Nat) (e : Bool) (cond a tgt : Nat) (s : State) : Result :=
  .next <| s.issueC die newt e (.brc cond a tgt)

/-- CALL (R123). -/
def execCall (die newt : Nat) (e : Bool) (tgt : Nat) (s : State) : Result :=
  .next <| s.issueC die newt e (.call tgt)

/-- RET (R123). -/
def execRet (die newt : Nat) (e : Bool) (s : State) : Result :=
  .next <| s.issueC die newt e .ret

/-- REPT (R129). -/
def execRept (die newt : Nat) (e : Bool) (rs : Bool) (a n : Nat) (s : State) : Result :=
  .next <| s.issueC die newt e (.rept rs a n)

/-- LOOP (R127). -/
def execLoopTop (die newt : Nat) (e : Bool) (byReg : Bool) (n tgt : Nat) (s : State) : Result :=
  .next <| s.issueC die newt e (.loopTop byReg n tgt)

/-- ENDL (R127). -/
def execEndl (die newt : Nat) (e : Bool) (s : State) : Result :=
  .next <| s.issueC die newt e .endl

/-- SIG (R130). -/
def execSig (die newt : Nat) (e : Bool) (a b : Nat) (s : State) : Result :=
  .next <| s.issueC die newt e (.sig a b)

/-- DONE (R91). -/
def execDone (die newt : Nat) (e : Bool) (s : State) : Result :=
  .next <| s.issueC die newt e .done

/-- HALT (R93, R95). -/
def execHalt (die newt : Nat) (e : Bool) (s : State) : Result :=
  .next <| s.issueC die newt e .halt

end Sys2Proof.Machine
end

