-- ==== Sys2Proof/Machine/Rails.lean ====
section
/-! DEFINITION. The voltage monitors (R452), and what a rail that leaves its range does to what it supplies (R478, R482). -/

namespace Sys2Proof.Machine

/-- What logic that is not defined (R482) does to registers and the model's other cells: an open list of changes, for the number of a
free value. -/
opaque Config.railCells : Nat → List (Loc × Nat)

/-- The same of bytes of SRAM, by die and address. -/
opaque Config.railBytes : Nat → List (Nat × Nat × Nat)

/-- A rail of a die lies within its range: 3 % of nominal for every rail that has a monitor (R478). -/
def railInRange (d rail mv : Nat) : Bool := railNominal d rail * 97 ≤ mv * 100 && mv * 100 ≤ railNominal d rail * 103

/-- Cells of the MDLLs, the DPLL and the media clocks, which VDD_PLL supplies (R478). -/
def pllCells : List Fld :=
  [.MDLL_STATUS_STATE, .MDLL_STATUS_OUT, .MDLL_STATUS_BAND, .MDLL_STATUS_SEARCHES, .MDLL_PHERR, .DPLL_FREQ, .DOM_STATUS_MLOCK]

/-- Cells of the SERDES lanes, which VDD_SDS and VDDA_SDS supply. -/
def serdesCells : List Fld := [.BIRAY_STATUS_STATE, .MAC_STATUS_LINK]

/-- Cells of the always-on domain, which VDD_AON supplies (R476). -/
def aonCells : List Fld :=
  [.AON_LANE, .WAKE_N_PIN, .SLEEP_ACK_PIN, .WAKE_PAT, .WAKE_MASK, .MAC_WAKE_CFG_PEN, .MAC_WAKE_CFG_MAGIC, .MAC_WAKE_STAT_PHIT,
    .MAC_WAKE_STAT_MHIT]

/-- A cell is logic on a rail, a rail being the one that a monitor of die `d` watches (R452, R478). What the straps, pins and
fuses hold is not, nor is the record of the reset itself. -/
def onRail (d rail : Nat) (l : Loc) : Bool :=
  let outside := [Fld.EFUSE_REP, .EFUSE_BAD, .SNAP_PGE, .REF_RAW, .GPIO_RAW, .PCIE_PERST, .REFCLK_OK, .IN_PORST, .STRAP_BOOTSRC,
    .STRAP_TESTMODE, .PFAIL_PIN].contains l.fld
  let special := pllCells.contains l.fld || serdesCells.contains l.fld || aonCells.contains l.fld
  l.die < 8 && !outside &&
    (if rail = 3 then aonCells.contains l.fld
    else if d < 6 then
      match rail with
      | 0 => l.die < 6 && !special
      | 2 => pllCells.contains l.fld
      | _ => false
    else if rail = 0 then 6 ≤ l.die && !special
    else serdesCells.contains l.fld)

/-- SRAM and newt memory of a die is on a rail: VDD_SRAM of the gecko dies, VDD_HUB of the iguana dies. -/
def ramOnRail (d rail e a : Nat) : Bool :=
  if d < 6 then rail == 1 && e < 6 && (a < 0x2000000 || (0x10000000 ≤ a && a < 0x10800000))
  else rail == 0 && 6 ≤ e && e < 8 && a < 0x1000000

/-- The logic on a rail is not defined until the next power-on reset (R482): its registers and its SRAM take open values. Entries of
the model's lists keep theirs: DESIGN CHOICE (log entry 26). -/
def State.railLost (s : State) (d rail : Nat) : State :=
  let s1 := s.each ((Config.railCells s.freeCtr).filter fun c => onRail d rail c.1) fun c t => t.put c.1.fld c.1.die c.1.inst c.2
  (s1.each ((Config.railBytes s.freeCtr).filter fun c => ramOnRail d rail c.1 c.2.1) fun c t =>
    t.setByte c.1 c.2.1 (BitVec.ofNat 8 c.2.2)).drawn

/-- A monitor's reading raises what it raises (R452). -/
def State.vmonRead (s : State) (d rail mv : Nat) : State :=
  let n := railNominal d rail
  ((s.put .VMON d rail mv).condSet .VMON_UV d 0 rail (mv * 100 < n * 95)).condSet .VMON_OV d 0 rail (n * 105 < mv * 100)

/-- VMON_THRESHOLD (R452, R482): the monitor of a rail reads `mv`; it runs on REFCLK100 (R439). A rail out of its range loses its logic, unless
PFAIL_N is asserted. -/
def execVmonThreshold (d rail mv : Nat) (s : State) : Result :=
  .next <| s.when (s.get .IN_PORST 6 0 = 0) fun s =>
    (s.when (railInRange d rail mv = false ∧ s.get .PFAIL_PIN 6 0 = 0) fun t => t.railLost d rail).when (s.get .REFCLK_OK d 0 = 1) fun t =>
      t.vmonRead d rail mv

end Sys2Proof.Machine
end

