-- ==== Sys2Proof/Machine/Remote.lean ====
section
/-! DEFINITION. Accesses that come from other units, and the answers of those that go to them (R365). -/

namespace Sys2Proof.Machine

/-- Response bytes of an answer. -/
def State.answerBytes (s : State) (n : Nat) : List Nat := if s.answer.err then [] else natBytes n s.answer.data

/-- MREQ (R365): a request of another unit, of `len` bytes, enters through master 15 of die 7 as class 6; the MRSP answers it. -/
def execMreq (dir : Nat) (f : BFrame) (len : Nat) (s : State) : Result :=
  .next <| s.birayUnicast dir frMreq f fun t =>
    let write := bitAt (frWord f 1) 8 == 1
    let a := frLong f 2
    let r := t.request 7 15 (15 * 2 ^ 36 + bitsAt a 0 36) write len (bytesNat (f.payload.take len))
    let u := t.access r
    u.birayFrom 7 frMrsp f.src [frWord f 1 % 256 + flag u.answer.err * 256] (if write then [] else u.answerBytes len)

/-- MRSP (R365): the answer of an access that waits, to the host port's request where that made it; any other is discarded. -/
def execMrsp (dir : Nat) (f : BFrame) (s : State) : Result :=
  .next <| s.birayUnicast dir frMrsp f fun t =>
    match t.remote.find? fun q => q.tag == frWord f 1 % 256 && q.unit == f.src with
    | none => t
    | some q =>
      ({ t with remote := t.remote.erase q }.reply (if q.write then 0 else bytesNat f.payload) (bitAt (frWord f 1) 8 == 1)).hostResume
        q.tag

/-- REMOTE_ACCESS_TIMEOUT (R365): 100 µs have passed for the request with this tag. -/
def execRemoteAccessTimeout (tag : Nat) (s : State) : Result :=
  .next <|
    match s.remote.find? fun q => q.tag == tag with
    | none => s
    | some q =>
      (s.remoteLost q).hostResume tag

end Sys2Proof.Machine
end

