-- ==== Sys2Proof/Machine/Dispatch.lean ====
section
/-! DEFINITION. The dispatch of each command to its meaning. -/

namespace Sys2Proof.Machine

def exec (i : Instr) (s : State) : Host.Outcome State Fault Refusal :=
  match i with
  | .registerWrite mdie port addr data tie => Sys2Proof.Machine.execRegisterWrite mdie port addr data tie s
  | .rcRegisterRead mdie port addr tie before => Sys2Proof.Machine.execRcRegisterRead mdie port addr tie before s
  | .reg64LowRead mdie port addr tie => Sys2Proof.Machine.execReg64LowRead mdie port addr tie s
  | .reg64LowWrite mdie port addr data => Sys2Proof.Machine.execReg64LowWrite mdie port addr data s
  | .reg64HighWrite mdie port addr data tie => Sys2Proof.Machine.execReg64HighWrite mdie port addr data tie s
  | .fabricAccess mdie port addr write len data rivals far tie before => Sys2Proof.Machine.execFabricAccess mdie port addr write len data rivals far tie before s
  | .domcntIncrement dom meas => Sys2Proof.Machine.execDomcntIncrement dom meas s
  | .epochBoundary dom => Sys2Proof.Machine.execEpochBoundary dom s
  | .epochDispatch dom => Sys2Proof.Machine.execEpochDispatch dom s
  | .epochStartReceipt die dom boundary commit => Sys2Proof.Machine.execEpochStartReceipt die dom boundary commit s
  | .dieDrainReport die dom => Sys2Proof.Machine.execDieDrainReport die dom s
  | .drainReportReceipt die dom boundary withdrawn => Sys2Proof.Machine.execDrainReportReceipt die dom boundary withdrawn s
  | .epochEnable dom => Sys2Proof.Machine.execEpochEnable dom s
  | .epochStop dom => Sys2Proof.Machine.execEpochStop dom s
  | .commitArm dom => Sys2Proof.Machine.execCommitArm dom s
  | .commitCancel dom => Sys2Proof.Machine.execCommitCancel dom s
  | .snapArm dom => Sys2Proof.Machine.execSnapArm dom s
  | .snapCancel dom => Sys2Proof.Machine.execSnapCancel dom s
  | .commitAckDeadline dom => Sys2Proof.Machine.execCommitAckDeadline dom s
  | .instructionFetch die newt stalled => Sys2Proof.Machine.execInstructionFetch die newt stalled s
  | .illegalEncoding die newt => Sys2Proof.Machine.execIllegalEncoding die newt s
  | .breakpointMatch die newt => Sys2Proof.Machine.execBreakpointMatch die newt s
  | .vmac die newt e d a b p bs z neg => Sys2Proof.Machine.execVmac die newt e d a b p bs z neg s
  | .vfma die newt e d a b p bs => Sys2Proof.Machine.execVfma die newt e d a b p bs s
  | .vmul die newt e d a b p bs => Sys2Proof.Machine.execVmul die newt e d a b p bs s
  | .vadd die newt e d a b p bs => Sys2Proof.Machine.execVadd die newt e d a b p bs s
  | .vsub die newt e d a b p bs => Sys2Proof.Machine.execVsub die newt e d a b p bs s
  | .vmin die newt e d a b p bs => Sys2Proof.Machine.execVmin die newt e d a b p bs s
  | .vmax die newt e d a b p bs => Sys2Proof.Machine.execVmax die newt e d a b p bs s
  | .vabs die newt e d a p => Sys2Proof.Machine.execVabs die newt e d a p s
  | .vneg die newt e d a p => Sys2Proof.Machine.execVneg die newt e d a p s
  | .vcmp die newt e d a b p bs cond => Sys2Proof.Machine.execVcmp die newt e d a b p bs cond s
  | .vsel die newt e d a b p => Sys2Proof.Machine.execVsel die newt e d a b p s
  | .vrnd die newt e d a p clr => Sys2Proof.Machine.execVrnd die newt e d a p clr s
  | .vglide die newt e d a b p => Sys2Proof.Machine.execVglide die newt e d a b p s
  | .rcps die newt e d a p => Sys2Proof.Machine.execRcps die newt e d a p s
  | .divi die newt e d a b p => Sys2Proof.Machine.execDivi die newt e d a b p s
  | .divs die newt e d b p => Sys2Proof.Machine.execDivs die newt e d b p s
  | .divf die newt e d a b p => Sys2Proof.Machine.execDivf die newt e d a b p s
  | .vcvt die newt e d a p dir shift => Sys2Proof.Machine.execVcvt die newt e d a p dir shift s
  | .vld die newt e r ar p sm smi um u io => Sys2Proof.Machine.execVld die newt e r ar p sm smi um u io s
  | .vst die newt e r ar p sm smi um u io => Sys2Proof.Machine.execVst die newt e r ar p sm smi um u io s
  | .lds die newt e r ar um u io => Sys2Proof.Machine.execLds die newt e r ar um u io s
  | .sts die newt e r ar um u io => Sys2Proof.Machine.execSts die newt e r ar um u io s
  | .adda die newt e ar um u => Sys2Proof.Machine.execAdda die newt e ar um u s
  | .nop die newt e => Sys2Proof.Machine.execNop die newt e s
  | .saluAdd die newt e d a b => Sys2Proof.Machine.execSaluAdd die newt e d a b s
  | .saluSub die newt e d a b => Sys2Proof.Machine.execSaluSub die newt e d a b s
  | .saluAnd die newt e d a b => Sys2Proof.Machine.execSaluAnd die newt e d a b s
  | .saluOr die newt e d a b => Sys2Proof.Machine.execSaluOr die newt e d a b s
  | .saluXor die newt e d a b => Sys2Proof.Machine.execSaluXor die newt e d a b s
  | .saluShl die newt e d a b => Sys2Proof.Machine.execSaluShl die newt e d a b s
  | .saluShr die newt e d a b => Sys2Proof.Machine.execSaluShr die newt e d a b s
  | .saluSra die newt e d a b => Sys2Proof.Machine.execSaluSra die newt e d a b s
  | .saluMul die newt e d a b => Sys2Proof.Machine.execSaluMul die newt e d a b s
  | .saluMin die newt e d a b => Sys2Proof.Machine.execSaluMin die newt e d a b s
  | .saluMax die newt e d a b => Sys2Proof.Machine.execSaluMax die newt e d a b s
  | .saluSlt die newt e d a b => Sys2Proof.Machine.execSaluSlt die newt e d a b s
  | .saluSltu die newt e d a b => Sys2Proof.Machine.execSaluSltu die newt e d a b s
  | .saddi die newt e d a imm => Sys2Proof.Machine.execSaddi die newt e d a imm s
  | .ldil die newt e d imm => Sys2Proof.Machine.execLdil die newt e d imm s
  | .ldih die newt e d imm => Sys2Proof.Machine.execLdih die newt e d imm s
  | .movr die newt e df di sf si => Sys2Proof.Machine.execMovr die newt e df di sf si s
  | .vext die newt e v sreg lane => Sys2Proof.Machine.execVext die newt e v sreg lane s
  | .vins die newt e v sreg lane => Sys2Proof.Machine.execVins die newt e v sreg lane s
  | .br die newt e tgt => Sys2Proof.Machine.execBr die newt e tgt s
  | .brc die newt e cond a tgt => Sys2Proof.Machine.execBrc die newt e cond a tgt s
  | .call die newt e tgt => Sys2Proof.Machine.execCall die newt e tgt s
  | .ret die newt e => Sys2Proof.Machine.execRet die newt e s
  | .rept die newt e rs a n => Sys2Proof.Machine.execRept die newt e rs a n s
  | .loopTop die newt e byReg n tgt => Sys2Proof.Machine.execLoopTop die newt e byReg n tgt s
  | .endl die newt e => Sys2Proof.Machine.execEndl die newt e s
  | .sig die newt e a b => Sys2Proof.Machine.execSig die newt e a b s
  | .done die newt e => Sys2Proof.Machine.execDone die newt e s
  | .halt die newt e => Sys2Proof.Machine.execHalt die newt e s
  | .completionReport die newt => Sys2Proof.Machine.execCompletionReport die newt s
  | .parkReq die newt => Sys2Proof.Machine.execParkReq die newt s
  | .unpark die newt => Sys2Proof.Machine.execUnpark die newt s
  | .haltReq die newt => Sys2Proof.Machine.execHaltReq die newt s
  | .resume die newt => Sys2Proof.Machine.execResume die newt s
  | .step die newt => Sys2Proof.Machine.execStep die newt s
  | .abort die newt => Sys2Proof.Machine.execAbort die newt s
  | .newtClrCnt die newt => Sys2Proof.Machine.execNewtClrCnt die newt s
  | .dbgRegisterAccess mdie port addr write data => Sys2Proof.Machine.execDbgRegisterAccess mdie port addr write data s
  | .newtReset die newt => Sys2Proof.Machine.execNewtReset die newt s
  | .postArrival srcDie port die clutch slot flags srcDom => Sys2Proof.Machine.execPostArrival srcDie port die clutch slot flags srcDom s
  | .dispatchDecision die clutch rivals => Sys2Proof.Machine.execDispatchDecision die clutch rivals s
  | .flowClaim die clutch slot flow rivals => Sys2Proof.Machine.execFlowClaim die clutch slot flow rivals s
  | .claimResponse die clutch slot flow granted => Sys2Proof.Machine.execClaimResponse die clutch slot flow granted s
  | .flowRelease flow die clutch => Sys2Proof.Machine.execFlowRelease flow die clutch s
  | .flowReplicaUpdate die flow busy => Sys2Proof.Machine.execFlowReplicaUpdate die flow busy s
  | .lateMarkerReceipt die dom => Sys2Proof.Machine.execLateMarkerReceipt die dom s
  | .croakEntryWrite die clutch readout => Sys2Proof.Machine.execCroakEntryWrite die clutch readout s
  | .croakFreeze die clutch => Sys2Proof.Machine.execCroakFreeze die clutch s
  | .croakFrozen die clutch => Sys2Proof.Machine.execCroakFrozen die clutch s
  | .croakResume die clutch => Sys2Proof.Machine.execCroakResume die clutch s
  | .slotEnable die clutch slot mode prio dom flow => Sys2Proof.Machine.execSlotEnable die clutch slot mode prio dom flow s
  | .slotDisable die clutch slot => Sys2Proof.Machine.execSlotDisable die clutch slot s
  | .slotClrFlags die clutch slot => Sys2Proof.Machine.execSlotClrFlags die clutch slot s
  | .slotClrPend die clutch slot => Sys2Proof.Machine.execSlotClrPend die clutch slot s
  | .slotClrAff die clutch slot => Sys2Proof.Machine.execSlotClrAff die clutch slot s
  | .tongueClrCnt die clutch => Sys2Proof.Machine.execTongueClrCnt die clutch s
  | .chorusKick die group => Sys2Proof.Machine.execChorusKick die group s
  | .groupRunStart die => Sys2Proof.Machine.execGroupRunStart die s
  | .groupRunEnd die => Sys2Proof.Machine.execGroupRunEnd die s
  | .partialRelease die dom stage => Sys2Proof.Machine.execPartialRelease die dom stage s
  | .partialArrival die bus dom boundary sums terms sat nan => Sys2Proof.Machine.execPartialArrival die bus dom boundary sums terms sat nan s
  | .busBlockComplete die bus boundary => Sys2Proof.Machine.execBusBlockComplete die bus boundary s
  | .releaseOrderReceipt die dom boundary => Sys2Proof.Machine.execReleaseOrderReceipt die dom boundary s
  | .bankAccess die word a b => Sys2Proof.Machine.execBankAccess die word a b s
  | .aliasWrite die word port clear mine other => Sys2Proof.Machine.execAliasWrite die word port clear mine other s
  | .busyRetry die word port other => Sys2Proof.Machine.execBusyRetry die word port other s
  | .lfStart die mode all newts bank => Sys2Proof.Machine.execLfStart die mode all newts bank s
  | .lfAbort die => Sys2Proof.Machine.execLfAbort die s
  | .lfDone die outcomes newtFail newtWaddr newtBit => Sys2Proof.Machine.execLfDone die outcomes newtFail newtWaddr newtBit s
  | .fuseBurn die bank => Sys2Proof.Machine.execFuseBurn die bank s
  | .fuseBurnDone die verified => Sys2Proof.Machine.execFuseBurnDone die verified s
  | .fabParkApply die target => Sys2Proof.Machine.execFabParkApply die target s
  | .dmaAbort die engine moved len written far => Sys2Proof.Machine.execDmaAbort die engine moved len written far s
  | .dmaStart die engine desc cls => Sys2Proof.Machine.execDmaStart die engine desc cls s
  | .dmaDescriptorRead die engine => Sys2Proof.Machine.execDmaDescriptorRead die engine s
  | .dmaDescriptorComplete die engine far => Sys2Proof.Machine.execDmaDescriptorComplete die engine far s
  | .dmaError die engine => Sys2Proof.Machine.execDmaError die engine s
  | .linkRetrain die link lost => Sys2Proof.Machine.execLinkRetrain die link lost s
  | .linkTrainingDone die link cyc => Sys2Proof.Machine.execLinkTrainingDone die link cyc s
  | .flitReceipt die link isData masks msg => Sys2Proof.Machine.execFlitReceipt die link isData masks msg s
  | .sapEnable die port sec cfg => Sys2Proof.Machine.execSapEnable die port sec cfg s
  | .sapDisable die port sec => Sys2Proof.Machine.execSapDisable die port sec s
  | .sapStop die port sec => Sys2Proof.Machine.execSapStop die port sec s
  | .sapFrameStart die port sec bclks fs => Sys2Proof.Machine.execSapFrameStart die port sec bclks fs s
  | .sapRxFrame die port words => Sys2Proof.Machine.execSapRxFrame die port words s
  | .sapTxFrameStart die port => Sys2Proof.Machine.execSapTxFrameStart die port s
  | .groupSlipMessage die group drop => Sys2Proof.Machine.execGroupSlipMessage die group drop s
  | .sapLostTimeout die port sec => Sys2Proof.Machine.execSapLostTimeout die port sec s
  | .slotmaskStage die port sec mask => Sys2Proof.Machine.execSlotmaskStage die port sec mask s
  | .mediaClockLockStart dom rate ring => Sys2Proof.Machine.execMediaClockLockStart dom rate ring s
  | .mediaClockStop dom rate ring => Sys2Proof.Machine.execMediaClockStop dom rate ring s
  | .mediaClockLocked dom => Sys2Proof.Machine.execMediaClockLocked dom s
  | .bridgeEnable die bridge cfg => Sys2Proof.Machine.execBridgeEnable die bridge cfg s
  | .bridgeDisable die bridge => Sys2Proof.Machine.execBridgeDisable die bridge s
  | .bridgeOff die bridge => Sys2Proof.Machine.execBridgeOff die bridge s
  | .bridgeTrackLock die bridge ratio => Sys2Proof.Machine.execBridgeTrackLock die bridge ratio s
  | .refRawChange gpio die input level => Sys2Proof.Machine.execRefRawChange gpio die input level s
  | .inputEdgeAccept gpio die input phase errs => Sys2Proof.Machine.execInputEdgeAccept gpio die input phase errs s
  | .refLos ref => Sys2Proof.Machine.execRefLos ref s
  | .refStuck gpio die input => Sys2Proof.Machine.execRefStuck gpio die input s
  | .monitorGateEnd gpio die input freq => Sys2Proof.Machine.execMonitorGateEnd gpio die input freq s
  | .refQualify ref => Sys2Proof.Machine.execRefQualify ref s
  | .refselConfigWrite which value => Sys2Proof.Machine.execRefselConfigWrite which value s
  | .refEnable ref pol rank => Sys2Proof.Machine.execRefEnable ref pol rank s
  | .dpllLock => Sys2Proof.Machine.execDpllLock s
  | .dpllUnlock => Sys2Proof.Machine.execDpllUnlock s
  | .holdoverUpdate => Sys2Proof.Machine.execHoldoverUpdate s
  | .xoLost => Sys2Proof.Machine.execXoLost s
  | .xoRestore phase => Sys2Proof.Machine.execXoRestore phase s
  | .frameOutEnable out pol square src => Sys2Proof.Machine.execFrameOutEnable out pol square src s
  | .frameOutDisable out => Sys2Proof.Machine.execFrameOutDisable out s
  | .frameOutRealign out write offset => Sys2Proof.Machine.execFrameOutRealign out write offset s
  | .mdllRelock die lost => Sys2Proof.Machine.execMdllRelock die lost s
  | .mdllSearchEnd die band limit => Sys2Proof.Machine.execMdllSearchEnd die band limit s
  | .mdllLockComplete die pherr => Sys2Proof.Machine.execMdllLockComplete die pherr s
  | .mdllLol die lost => Sys2Proof.Machine.execMdllLol die lost s
  | .mdllRefloss die lost => Sys2Proof.Machine.execMdllRefloss die lost s
  | .refclkReturn die => Sys2Proof.Machine.execRefclkReturn die s
  | .macModeWrite die mac cfg => Sys2Proof.Machine.execMacModeWrite die mac cfg s
  | .anrestart die mac => Sys2Proof.Machine.execAnrestart die mac s
  | .macLinkChange die mac up => Sys2Proof.Machine.execMacLinkChange die mac up s
  | .txqPiWrite die mac queue idx => Sys2Proof.Machine.execTxqPiWrite die mac queue idx s
  | .macFrameAdmit die mac queue stream => Sys2Proof.Machine.execMacFrameAdmit die mac queue stream s
  | .macTxStart die mac dev => Sys2Proof.Machine.execMacTxStart die mac dev s
  | .macTxComplete die mac => Sys2Proof.Machine.execMacTxComplete die mac s
  | .pauseExpiry die mac => Sys2Proof.Machine.execPauseExpiry die mac s
  | .launchTimeReached die mac queue => Sys2Proof.Machine.execLaunchTimeReached die mac queue s
  | .macReset die mac addr len beats => Sys2Proof.Machine.execMacReset die mac addr len beats s
  | .clrTsovf die mac => Sys2Proof.Machine.execClrTsovf die mac s
  | .tsfPop die mac => Sys2Proof.Machine.execTsfPop die mac s
  | .macRxFrame die mac frame err full dev => Sys2Proof.Machine.execMacRxFrame die mac frame err full dev s
  | .streamTxEnable die stream dom mac queue => Sys2Proof.Machine.execStreamTxEnable die stream dom mac queue s
  | .streamRxEnable die stream dom mask srcchk => Sys2Proof.Machine.execStreamRxEnable die stream dom mask srcchk s
  | .streamDisable die rx stream => Sys2Proof.Machine.execStreamDisable die rx stream s
  | .streamStop die rx stream => Sys2Proof.Machine.execStreamStop die rx stream s
  | .servoOffsetWrite theta ack => Sys2Proof.Machine.execServoOffsetWrite theta ack s
  | .stepAck => Sys2Proof.Machine.execStepAck s
  | .servoClr => Sys2Proof.Machine.execServoClr s
  | .phcSet die => Sys2Proof.Machine.execPhcSet die s
  | .phcSnap die => Sys2Proof.Machine.execPhcSnap die s
  | .phcChangeApply what => Sys2Proof.Machine.execPhcChangeApply what s
  | .phcSlaveCheck => Sys2Proof.Machine.execPhcSlaveCheck s
  | .servoHold => Sys2Proof.Machine.execServoHold s
  | .tsyncArm out periodic pol => Sys2Proof.Machine.execTsyncArm out periodic pol s
  | .tsyncDisable out => Sys2Proof.Machine.execTsyncDisable out s
  | .tsyncFire out => Sys2Proof.Machine.execTsyncFire out s
  | .tsyncPulseEnd out => Sys2Proof.Machine.execTsyncPulseEnd out s
  | .birayLinkUp die => Sys2Proof.Machine.execBirayLinkUp die s
  | .birayLinkDown die lanes => Sys2Proof.Machine.execBirayLinkDown die lanes s
  | .birayRetrain die => Sys2Proof.Machine.execBirayRetrain die s
  | .keepaliveSend die => Sys2Proof.Machine.execKeepaliveSend die s
  | .frameCrcFail die => Sys2Proof.Machine.execFrameCrcFail die s
  | .keepalive dir => Sys2Proof.Machine.execKeepalive dir s
  | .delay dir reply trip => Sys2Proof.Machine.execDelay dir reply trip s
  | .enum dir frame => Sys2Proof.Machine.execEnum dir frame s
  | .join dir frame => Sys2Proof.Machine.execJoin dir frame s
  | .assign dir frame => Sys2Proof.Machine.execAssign dir frame s
  | .time dir frame stamp resid => Sys2Proof.Machine.execTime dir frame stamp resid s
  | .health dir frame => Sys2Proof.Machine.execHealth dir frame s
  | .commitFrame dir frame => Sys2Proof.Machine.execCommitFrame dir frame s
  | .partialFrame dir frame => Sys2Proof.Machine.execPartialFrame dir frame s
  | .mreq dir frame len => Sys2Proof.Machine.execMreq dir frame len s
  | .mrsp dir frame => Sys2Proof.Machine.execMrsp dir frame s
  | .mirror dir frame => Sys2Proof.Machine.execMirror dir frame s
  | .undefinedFrameType dir type frame => Sys2Proof.Machine.execUndefinedFrameType dir type frame s
  | .ringStep => Sys2Proof.Machine.execRingStep s
  | .enumTimeout => Sys2Proof.Machine.execEnumTimeout s
  | .enumWaitTimeout => Sys2Proof.Machine.execEnumWaitTimeout s
  | .ringReenumerate => Sys2Proof.Machine.execRingReenumerate s
  | .timeFrameSend pa pb pc => Sys2Proof.Machine.execTimeFrameSend pa pb pc s
  | .healthTimer => Sys2Proof.Machine.execHealthTimer s
  | .ringUnwrap die => Sys2Proof.Machine.execRingUnwrap die s
  | .remoteAccessTimeout tag => Sys2Proof.Machine.execRemoteAccessTimeout tag s
  | .domcntAlign dom meas => Sys2Proof.Machine.execDomcntAlign dom meas s
  | .healthCopySend => Sys2Proof.Machine.execHealthCopySend s
  | .activate => Sys2Proof.Machine.execActivate s
  | .takeover => Sys2Proof.Machine.execTakeover s
  | .pairSnapArm => Sys2Proof.Machine.execPairSnapArm s
  | .pairSnapCancel => Sys2Proof.Machine.execPairSnapCancel s
  | .pairidWrite pairid auto isoyield => Sys2Proof.Machine.execPairidWrite pairid auto isoyield s
  | .resyncAckDeadline => Sys2Proof.Machine.execResyncAckDeadline s
  | .mirrorApply dom => Sys2Proof.Machine.execMirrorApply dom s
  | .tailShed addr len beats => Sys2Proof.Machine.execTailShed addr len beats s
  | .tailImageLoaded hash good priv carve => Sys2Proof.Machine.execTailImageLoaded hash good priv carve s
  | .tailResetRelease => Sys2Proof.Machine.execTailResetRelease s
  | .restartTail => Sys2Proof.Machine.execRestartTail s
  | .pcieMemoryRequest addr write n en data => Sys2Proof.Machine.execPcieMemoryRequest addr write n en data s
  | .flr addr len beats => Sys2Proof.Machine.execFlr addr len beats s
  | .pciePerst level addr len beats => Sys2Proof.Machine.execPciePerst level addr len beats s
  | .msixUnmask vector => Sys2Proof.Machine.execMsixUnmask vector s
  | .hostIpendClear mask events => Sys2Proof.Machine.execHostIpendClear mask events s
  | .hostEvtWrite evt => Sys2Proof.Machine.execHostEvtWrite evt s
  | .rd0 offset words nibbles late => Sys2Proof.Machine.execRd0 offset words nibbles late s
  | .wr0 offset data nibbles => Sys2Proof.Machine.execWr0 offset data nibbles s
  | .rd2 offset words nibbles late => Sys2Proof.Machine.execRd2 offset words nibbles late s
  | .wr2 offset data nibbles => Sys2Proof.Machine.execWr2 offset data nibbles s
  | .stat nibbles => Sys2Proof.Machine.execStat nibbles s
  | .badCommand cmd => Sys2Proof.Machine.execBadCommand cmd s
  | .qspiCsRise => Sys2Proof.Machine.execQspiCsRise s
  | .mbxPiWrite ring idx cls tie => Sys2Proof.Machine.execMbxPiWrite ring idx cls tie s
  | .mbxCiWrite ring idx cls tie => Sys2Proof.Machine.execMbxCiWrite ring idx cls tie s
  | .unknownOpcode pair => Sys2Proof.Machine.execUnknownOpcode pair s
  | .sysInfo pair => Sys2Proof.Machine.execSysInfo pair s
  | .sysStatus pair => Sys2Proof.Machine.execSysStatus pair s
  | .sysEvents pair => Sys2Proof.Machine.execSysEvents pair s
  | .sysRestartTail pair => Sys2Proof.Machine.execSysRestartTail pair s
  | .sysEcho pair => Sys2Proof.Machine.execSysEcho pair s
  | .graphLoadBegin pair => Sys2Proof.Machine.execGraphLoadBegin pair s
  | .graphLoadData pair => Sys2Proof.Machine.execGraphLoadData pair s
  | .graphLoadEnd pair image fits partnerOk => Sys2Proof.Machine.execGraphLoadEnd pair image fits partnerOk s
  | .graphStart pair => Sys2Proof.Machine.execGraphStart pair s
  | .graphStop pair => Sys2Proof.Machine.execGraphStop pair s
  | .graphQueryLatency pair => Sys2Proof.Machine.execGraphQueryLatency pair s
  | .graphQueryBridge pair => Sys2Proof.Machine.execGraphQueryBridge pair s
  | .txBegin pair => Sys2Proof.Machine.execTxBegin pair s
  | .txSet pair => Sys2Proof.Machine.execTxSet pair s
  | .txCommitAt pair far => Sys2Proof.Machine.execTxCommitAt pair far s
  | .txArm dom far => Sys2Proof.Machine.execTxArm dom far s
  | .catchUp dom far => Sys2Proof.Machine.execCatchUp dom far s
  | .txAbort pair far => Sys2Proof.Machine.execTxAbort pair far s
  | .txStatus pair => Sys2Proof.Machine.execTxStatus pair s
  | .paramGet pair => Sys2Proof.Machine.execParamGet pair s
  | .sceneStore pair far => Sys2Proof.Machine.execSceneStore pair far s
  | .sceneRecall pair far => Sys2Proof.Machine.execSceneRecall pair far s
  | .sceneDelete pair => Sys2Proof.Machine.execSceneDelete pair s
  | .sceneList pair => Sys2Proof.Machine.execSceneList pair s
  | .routeSet pair far => Sys2Proof.Machine.execRouteSet pair far s
  | .routeGet pair => Sys2Proof.Machine.execRouteGet pair s
  | .routeXflen pair far => Sys2Proof.Machine.execRouteXflen pair far s
  | .meterSnapshot pair => Sys2Proof.Machine.execMeterSnapshot pair s
  | .meterRead pair => Sys2Proof.Machine.execMeterRead pair s
  | .clkDomainSet pair => Sys2Proof.Machine.execClkDomainSet pair s
  | .clkRefSet pair => Sys2Proof.Machine.execClkRefSet pair s
  | .clkSelSet pair => Sys2Proof.Machine.execClkSelSet pair s
  | .clkStatus pair => Sys2Proof.Machine.execClkStatus pair s
  | .netMacSet pair => Sys2Proof.Machine.execNetMacSet pair s
  | .netPtpSet pair => Sys2Proof.Machine.execNetPtpSet pair s
  | .netStreamTx pair far => Sys2Proof.Machine.execNetStreamTx pair far s
  | .netStreamRx pair => Sys2Proof.Machine.execNetStreamRx pair s
  | .netStatus pair => Sys2Proof.Machine.execNetStatus pair s
  | .pairSet pair => Sys2Proof.Machine.execPairSet pair s
  | .pairActivate pair => Sys2Proof.Machine.execPairActivate pair s
  | .pairTakeover pair => Sys2Proof.Machine.execPairTakeover pair s
  | .pairResync pair => Sys2Proof.Machine.execPairResync pair s
  | .pairStatus pair => Sys2Proof.Machine.execPairStatus pair s
  | .faultList pair => Sys2Proof.Machine.execFaultList pair s
  | .faultAck pair => Sys2Proof.Machine.execFaultAck pair s
  | .faultInject pair => Sys2Proof.Machine.execFaultInject pair s
  | .faultClear pair => Sys2Proof.Machine.execFaultClear pair s
  | .faultService die set => Sys2Proof.Machine.execFaultService die set s
  | .fltStatusAck die set raise expiry => Sys2Proof.Machine.execFltStatusAck die set raise expiry s
  | .ack2 die set raise => Sys2Proof.Machine.execAck2 die set raise s
  | .clr3 die set => Sys2Proof.Machine.execClr3 die set s
  | .graceT1Expiry die set => Sys2Proof.Machine.execGraceT1Expiry die set s
  | .graceT2Expiry die set => Sys2Proof.Machine.execGraceT2Expiry die set s
  | .gillL2Check die set => Sys2Proof.Machine.execGillL2Check die set s
  | .thermTrip die sensor tj lost => Sys2Proof.Machine.execThermTrip die sensor tj lost s
  | .thermalThreshold die sensor tj lost => Sys2Proof.Machine.execThermalThreshold die sensor tj lost s
  | .vmonThreshold die rail mv => Sys2Proof.Machine.execVmonThreshold die rail mv s
  | .porstAssert => Sys2Proof.Machine.execPorstAssert s
  | .porstRelease bootsrc head hostsel test good1 good2 stage2 => Sys2Proof.Machine.execPorstRelease bootsrc head hostsel test good1 good2 stage2 s
  | .pfailAccept => Sys2Proof.Machine.execPfailAccept s
  | .snapshotProgramDone => Sys2Proof.Machine.execSnapshotProgramDone s
  | .snapshotErase => Sys2Proof.Machine.execSnapshotErase s
  | .sleepEntry => Sys2Proof.Machine.execSleepEntry s
  | .pcieLinkChange up speed width byReset => Sys2Proof.Machine.execPcieLinkChange up speed width byReset s
  | .pcieConfigRequest reg write data => Sys2Proof.Machine.execPcieConfigRequest reg write data s
  | .ringPresentExpiry addr => Sys2Proof.Machine.execRingPresentExpiry addr s
  | .snapshotEraseDone => Sys2Proof.Machine.execSnapshotEraseDone s
  | .frameOutEdge out => Sys2Proof.Machine.execFrameOutEdge out s
  | .mdllLockTimeout die => Sys2Proof.Machine.execMdllLockTimeout die s
  | .sensorSelfCheckFailure die sensor => Sys2Proof.Machine.execSensorSelfCheckFailure die sensor s

end Sys2Proof.Machine
end

