-- ==== Sys2Proof/Machine/Time.lean ====
section
/-! DEFINITION. What one nanosecond does when no command waits: the counters that count by themselves. -/

namespace Sys2Proof.Machine

/-- The newts of the package with a task in service, as (die, newt). -/
def State.servingNewts (s : State) : List (Nat × Nat) :=
  (s.cells.filter fun c => c.1.fld == .NEWT_STATUS_STATE && c.2 != newtIdle && c.2 != newtParked).map fun c => (c.1.die, c.1.inst)

/-- A cycle of a newt in service (R98, R91): NEWT_BUSY, and NEWT_STALL_DONE once DONE's own cycle is past; neither in the cycle that
clears them (R101). -/
def State.newtTick (s : State) (d n : Nat) : State :=
  if s.clockRuns d then
    s.when (s.get .NEWT_CLRT d n ≠ s.capture d + 1) fun s =>
      (s.inc .NEWT_BUSY d n 1).when (s.newtIs d n newtDraining = true ∧ s.get .NEWT_DONET d n < s.capture d) fun t =>
        t.inc .NEWT_STALL_DONE d n 1
  else s

/-- At a REFCLK100 edge of a die SYSCNT advances by 10 (R37), and so does an iguana die's PHC by its addend (R337). -/
def State.sysTick (s : State) (d : Nat) : State :=
  if s.get .REFCLK_OK d 0 = 0 then s
  else if s.get .SUBNS d 0 < 9 then s.inc .SUBNS d 0 1
  else ((s.put .SUBNS d 0 0).inc .TB_SYSCNT d 0 10).when (6 ≤ d) fun t => t.phcAdvance d

/-- One nanosecond passes; in power-on reset everything stands (R461). -/
def State.tick (s : State) : State :=
  s.when (s.get .IN_PORST 6 0 = 0) fun s =>
    let s1 := s.each s.servingNewts fun q t => t.newtTick q.1 q.2
    let s2 := ((s1.each allDies fun d t => t.stallTick d).slewTick).hoTick
    (s2.each allDies fun d t => t.sysTick d).each (List.range 10) fun r t => t.refHoldTick r

end Sys2Proof.Machine
end

