-- ==== Sys2Proof/Safety.lean ====
section
/-! DEFINITION. The terms of the statements: the canonical forms of the state's lists, what a command changes and what it
leaves. -/

namespace Sys2Proof.Machine

/-- The cell list is canonical: rising in the order of `Loc.before`, every value within its cell's width, none equal to
the cell's reset value. -/
def Cells.wf : List (Loc × Nat) → Bool
  | [] => true
  | [c] => decide (c.2 < 2 ^ c.1.fld.width) && c.2 != c.1.fld.reset c.1.die c.1.inst
  | c :: e :: t => decide (c.2 < 2 ^ c.1.fld.width) && c.2 != c.1.fld.reset c.1.die c.1.inst && c.1.before e.1 &&
      Cells.wf (e :: t)

/-- The canonical forms hold. -/
def State.canonical (s : State) : Bool := Cells.wf s.cells && Memory.wf s.mem

/-- `t` is `s` with the cells of `l` at the values given: every other cell reads as before, and memory, queues and every other
part of the state are those of `s`. -/
def State.Changes (s t : State) (l : List (Loc × Nat)) : Prop :=
  (∀ c : Loc, t.get c.fld c.die c.inst = (Cells.find c l).getD (s.get c.fld c.die c.inst)) ∧ { t with cells := s.cells } = s

/-- The command completes, and this is all it changes. -/
def Does (i : Instr) (s : State) (l : List (Loc × Nat)) : Prop := ∃ t, exec i s = .next t ∧ s.Changes t l

/-- The command completes in a state with a property. -/
def Completes (i : Instr) (s : State) (post : State → Prop) : Prop := ∃ t, exec i s = .next t ∧ post t

/-- Every cell outside `l` reads in `t` as in `s`, and memory, queues and every other part of the state are those of `s`. -/
def State.Within (s t : State) (l : List Loc) : Prop :=
  (∀ c : Loc, c ∉ l → t.get c.fld c.die c.inst = s.get c.fld c.die c.inst) ∧ { t with cells := s.cells } = s

/-- An instruction of a newt: the newt, its E bit, what it does. -/
structure NewtInstr where
  die : Nat
  newt : Nat
  e : Bool
  op : NewtOp
deriving DecidableEq, Repr

/-- The instruction that a command of a newt brings; none for every other command. -/
def newtInstr : Instr → Option NewtInstr
  | .vmac die newt e d a b p bs z neg => some ⟨die, newt, e, .m (.vmac d a b p bs z neg)⟩
  | .vfma die newt e d a b p bs => some ⟨die, newt, e, .m (.lane .fma d a b p bs)⟩
  | .vmul die newt e d a b p bs => some ⟨die, newt, e, .m (.lane .mul d a b p bs)⟩
  | .vadd die newt e d a b p bs => some ⟨die, newt, e, .m (.lane .add d a b p bs)⟩
  | .vsub die newt e d a b p bs => some ⟨die, newt, e, .m (.lane .sub d a b p bs)⟩
  | .vmin die newt e d a b p bs => some ⟨die, newt, e, .m (.lane .min d a b p bs)⟩
  | .vmax die newt e d a b p bs => some ⟨die, newt, e, .m (.lane .max d a b p bs)⟩
  | .vabs die newt e d a p => some ⟨die, newt, e, .m (.unary .abs d a p)⟩
  | .vneg die newt e d a p => some ⟨die, newt, e, .m (.unary .neg d a p)⟩
  | .vcmp die newt e d a b p bs cond => some ⟨die, newt, e, .m (.vcmp d a b p bs cond)⟩
  | .vsel die newt e d a b p => some ⟨die, newt, e, .m (.vsel d a b p)⟩
  | .vrnd die newt e d a p clr => some ⟨die, newt, e, .m (.vrnd d a p clr)⟩
  | .vglide die newt e d a b p => some ⟨die, newt, e, .m (.vglide d a b p)⟩
  | .rcps die newt e d a p => some ⟨die, newt, e, .m (.unary .rcps d a p)⟩
  | .divi die newt e d a b p => some ⟨die, newt, e, .m (.divi d a b p)⟩
  | .divs die newt e d b p => some ⟨die, newt, e, .m (.divs d b p)⟩
  | .divf die newt e d a b p => some ⟨die, newt, e, .m (.divf d a b p)⟩
  | .vcvt die newt e d a p dir shift => some ⟨die, newt, e, .m (.vcvt d a p dir shift)⟩
  | .vld die newt e r ar p sm smi um u _ => some ⟨die, newt, e, .l (.vld r ar p sm smi um u)⟩
  | .vst die newt e r ar p sm smi um u _ => some ⟨die, newt, e, .l (.vst r ar p sm smi um u)⟩
  | .lds die newt e r ar um u _ => some ⟨die, newt, e, .l (.lds r ar um u)⟩
  | .sts die newt e r ar um u _ => some ⟨die, newt, e, .l (.sts r ar um u)⟩
  | .adda die newt e ar um u => some ⟨die, newt, e, .l (.adda ar um u)⟩
  | .nop die newt e => some ⟨die, newt, e, .c .nop⟩
  | .saluAdd die newt e d a b => some ⟨die, newt, e, .c (.salu .add d a b)⟩
  | .saluSub die newt e d a b => some ⟨die, newt, e, .c (.salu .sub d a b)⟩
  | .saluAnd die newt e d a b => some ⟨die, newt, e, .c (.salu .and d a b)⟩
  | .saluOr die newt e d a b => some ⟨die, newt, e, .c (.salu .or d a b)⟩
  | .saluXor die newt e d a b => some ⟨die, newt, e, .c (.salu .xor d a b)⟩
  | .saluShl die newt e d a b => some ⟨die, newt, e, .c (.salu .shl d a b)⟩
  | .saluShr die newt e d a b => some ⟨die, newt, e, .c (.salu .shr d a b)⟩
  | .saluSra die newt e d a b => some ⟨die, newt, e, .c (.salu .sra d a b)⟩
  | .saluMul die newt e d a b => some ⟨die, newt, e, .c (.salu .mul d a b)⟩
  | .saluMin die newt e d a b => some ⟨die, newt, e, .c (.salu .min d a b)⟩
  | .saluMax die newt e d a b => some ⟨die, newt, e, .c (.salu .max d a b)⟩
  | .saluSlt die newt e d a b => some ⟨die, newt, e, .c (.salu .slt d a b)⟩
  | .saluSltu die newt e d a b => some ⟨die, newt, e, .c (.salu .sltu d a b)⟩
  | .saddi die newt e d a imm => some ⟨die, newt, e, .c (.saddi d a imm)⟩
  | .ldil die newt e d imm => some ⟨die, newt, e, .c (.ldil d imm)⟩
  | .ldih die newt e d imm => some ⟨die, newt, e, .c (.ldih d imm)⟩
  | .movr die newt e df di sf si => some ⟨die, newt, e, .c (.movr df di sf si)⟩
  | .vext die newt e v sreg lane => some ⟨die, newt, e, .c (.vext v sreg lane)⟩
  | .vins die newt e v sreg lane => some ⟨die, newt, e, .c (.vins v sreg lane)⟩
  | .br die newt e tgt => some ⟨die, newt, e, .c (.br tgt)⟩
  | .brc die newt e cond a tgt => some ⟨die, newt, e, .c (.brc cond a tgt)⟩
  | .call die newt e tgt => some ⟨die, newt, e, .c (.call tgt)⟩
  | .ret die newt e => some ⟨die, newt, e, .c .ret⟩
  | .rept die newt e rs a n => some ⟨die, newt, e, .c (.rept rs a n)⟩
  | .loopTop die newt e byReg n tgt => some ⟨die, newt, e, .c (.loopTop byReg n tgt)⟩
  | .endl die newt e => some ⟨die, newt, e, .c .endl⟩
  | .sig die newt e a b => some ⟨die, newt, e, .c (.sig a b)⟩
  | .done die newt e => some ⟨die, newt, e, .c .done⟩
  | .halt die newt e => some ⟨die, newt, e, .c .halt⟩
  | _ => none

/-- What the access of an instruction of the L slot meets. -/
def instrIo : Instr → Option AccessMeets
  | .vld _ _ _ _ _ _ _ _ _ _ io => some io
  | .vst _ _ _ _ _ _ _ _ _ _ io => some io
  | .lds _ _ _ _ _ _ _ io => some io
  | .sts _ _ _ _ _ _ _ io => some io
  | _ => none

/-- The class of an instruction, in the order of a bundle (R102). -/
def opRank : NewtOp → Nat
  | .m _ => 1
  | .l _ => 2
  | .c _ => 3

/-- The highest class in a bundle; 0 for an empty one. -/
def bundleRank (b : Bundle) : Nat := if b.c.isSome then 3 else if b.l.isSome then 2 else if b.m.isSome then 1 else 0

/-- A bundle with one more instruction, in the slot of its class. -/
def bundleWith (b : Bundle) (op : NewtOp) (io : Option AccessMeets) : Bundle :=
  let y : Bundle := { b with io := io.getD b.io }
  match op with
  | .m i => { y with m := some i }
  | .l i => { y with l := some i }
  | .c i => { y with c := some i }

/-- The newt's next word, past those of the bundle being decoded, holds this instruction (R102, R105). -/
def State.fetched (s : State) (i : Instr) : Bool :=
  match newtInstr i with
  | none => false
  | some q => s.holds q.die q.newt (s.get .NEWT_NEXT q.die q.newt + (s.openBundle q.die q.newt).words) q.e q.op

/-- A newt of a clocked die between two bundles of a task, with nothing that stops the next. -/
abbrev State.Ready (s : State) (d n : Nat) : Prop :=
  s.canonical = true ∧ s.dieClocked d = true ∧ s.newtIs d n newtRun = true ∧ s.bundleOf d n = none ∧ s.get .NEWT_STATUS_INREPT d n = 0 ∧
    s.get .NEWT_STEP d n = 0 ∧ s.get .NEWT_STATUS_HALT_PEND d n = 0 ∧ s.stopsBefore d n = false ∧ s.get .NEWT_NEXT d n < 8191

/-- The bundle at the newt's next address has issued and the next lies at word `next`. -/
def State.Issued (s t : State) (d n next : Nat) : Prop :=
  t.get .NEWT_PC d n = s.get .NEWT_NEXT d n ∧ t.get .NEWT_NEXT d n = next

/-- The cells every bundle of a newt writes. -/
def issueCells (d n : Nat) : List Loc :=
  [⟨.NEWT_PC, d, n⟩, ⟨.NEWT_LAST, d, n⟩, ⟨.NEWT_NEXT, d, n⟩, ⟨.NEWT_SKIPBP, d, n⟩, ⟨.NEWT_STALL_SB, d, n⟩]

/-- The bundle has issued, the next lies at word `next`, and beside what every bundle writes and the newt's scoreboard only the cells
of `l` differ. -/
def State.Ran (s t : State) (d n next : Nat) (l : List Loc) : Prop :=
  s.Issued t d n next ∧ s.Within { t with boards := s.boards } (l ++ issueCells d n)

/-- The lanes of a v register, and of an accumulator. -/
def vCells (d n x : Nat) : List Loc := (List.range 8).map fun k => ⟨.DBG_V, d, n * 256 + x * 8 + k⟩
def accCells (d n x : Nat) : List Loc := (List.range 8).map fun k => ⟨.DBG_ACC, d, n * 64 + x * 8 + k⟩

/-- The sticky flags of a newt. -/
def flagCells (d n : Nat) : List Loc := [⟨.NEWT_FPFLAGS_V, d, n⟩, ⟨.NEWT_FPFLAGS_O, d, n⟩, ⟨.NEWT_FPFLAGS_U, d, n⟩]

/-- The sticky flags of `t` are those of `s` with the flags of the enabled lanes' results `f` set (R78, R82). -/
def State.Sticky (s t : State) (d n p : Nat) (f : Nat → FpRes) : Prop := ∀ k, k < 8 →
  (bitAt (t.get .NEWT_FPFLAGS_V d n) k = 1 ↔ bitAt (s.get .NEWT_FPFLAGS_V d n) k = 1 ∨ (bitAt (s.pReg d n p) k = 1 ∧ (f k).v = true)) ∧
  (bitAt (t.get .NEWT_FPFLAGS_O d n) k = 1 ↔ bitAt (s.get .NEWT_FPFLAGS_O d n) k = 1 ∨ (bitAt (s.pReg d n p) k = 1 ∧ (f k).o = true)) ∧
  (bitAt (t.get .NEWT_FPFLAGS_U d n) k = 1 ↔ bitAt (s.get .NEWT_FPFLAGS_U d n) k = 1 ∨ (bitAt (s.pReg d n p) k = 1 ∧ (f k).u = true))

/-- The value of a finite fp32 word; a subnormal counts as zero (R80). -/
def fpRat (b : Nat) : ℚ :=
  if bitsAt b 23 8 = 0 then 0 else (if bitAt b 31 = 1 then -1 else 1) * ((2 ^ 23 + bitsAt b 0 23 : Nat) : ℚ) * 2 ^ ((bitsAt b 23 8 : ℤ) - 150)

/-- The value of a finite accumulator lane (R79). -/
def accRat (b : Nat) : ℚ := (if bitAt b 63 = 1 then -1 else 1) * (bitsAt b 0 48 : ℚ) * 2 ^ ((bitsAt b 48 10 : ℤ) - 511 - 47)

/-- `r` is `q` rounded to `p` significant bits with an unbounded exponent: to nearest, a tie toward +∞ (R81). -/
def Rounds (p : Nat) (q r : ℚ) : Prop :=
  ∃ e : ℤ, 2 ^ (p - 1) ≤ |q| / 2 ^ e ∧ |q| / 2 ^ e < 2 ^ p ∧ r = ⌊q / 2 ^ e + 1 / 2⌋ * 2 ^ e

/-- The fp32 result of the exact value `q`, with its flags (R80, R81); an exact zero is +0. -/
def Delivers (q : ℚ) (x : FpRes) : Prop :=
  if q = 0 then x = FpRes.plain 0
  else ∃ r, Rounds 24 q r ∧
    if 2 ^ 128 ≤ |r| then x = ⟨fpInf (q < 0), false, true, false⟩
    else if |r| < 2 ^ (-126 : ℤ) then x = ⟨fpZero (q < 0), false, false, true⟩
    else x = FpRes.plain x.bits ∧ x.bits < 2 ^ 32 ∧ 1 ≤ bitsAt x.bits 23 8 ∧ bitsAt x.bits 23 8 ≤ 254 ∧ fpRat x.bits = r

/-- The accumulator that holds the exact value `q`, with its flags (R79, R81). -/
def Accumulates (q : ℚ) (x : FpRes) : Prop :=
  if q = 0 then x = FpRes.plain 0
  else ∃ r, Rounds 48 q r ∧
    if 2 ^ 512 ≤ |r| then x = ⟨(if q < 0 then 2 ^ 63 else 0) + 1023 * 2 ^ 48, false, true, false⟩
    else if |r| < 2 ^ (-510 : ℤ) then x = ⟨0, false, false, true⟩
    else x = FpRes.plain x.bits ∧ accLegal x.bits = true ∧ bitsAt x.bits 48 10 ≠ 1023 ∧ accRat x.bits = r

/-- Levels `k` and up to the depth `m` of a newt's loop stack, with the depth. -/
def levelCells (d n k m : Nat) : List Loc :=
  ⟨.NEWT_STATUS_LOOPDEPTH, d, n⟩ :: ((List.range m).filter fun i => k ≤ i).flatMap fun i =>
    [⟨.DBG_A, d, levelIx n i⟩, ⟨.DBG_B, d, levelIx n i⟩, ⟨.DBG_L, d, levelIx n i⟩]

/-- The word at `w` of a die's SRAM is online, and no check word or injection gives an error. -/
abbrev State.Sound (s : State) (d w : Nat) : Prop :=
  s.canonical = true ∧ s.offline d w = false ∧ s.errs = [] ∧ s.get .FLT_INJ_COUNT d bankSet = 0

/-- Every byte reads in `t` as in `s`, but those of the word at `w` of die `d` that `en` enables, which take `data`. -/
def State.WordWritten (s t : State) (d w en data : Nat) : Prop :=
  (∀ i, i < 16 → t.byte d (w + i) = if bitAt en i = 1 then BitVec.ofNat 8 (data / 256 ^ i) else s.byte d (w + i)) ∧
    ∀ e a, a < 2 ^ 32 → ¬ (e = d ∧ w ≤ a ∧ a < w + 16) → t.byte e a = s.byte e a

/-- A collision record (R193). -/
def State.Collision (s t : State) (d w kind am bm : Nat) : Prop :=
  if s.get .BANK_COLL_VALID d 0 = 0 then
    t.get .BANK_COLL_VALID d 0 = 1 ∧ t.get .BANK_COLL_WADDR d 0 = w / 16 % 2 ^ 21 ∧ t.get .BANK_COLL_KIND d 0 = kind ∧
      t.get .BANK_COLL_AMASTER d 0 = am ∧ t.get .BANK_COLL_BMASTER d 0 = bm
  else t.get .BANK_COLL_OVF d 0 = min (s.get .BANK_COLL_OVF d 0 + 1) (2 ^ 32 - 1) ∧ t.get .BANK_COLL_KIND d 0 = s.get .BANK_COLL_KIND d 0

/-- A request to this package that every check of the fabric passes: a master that may issue, running clocks, links that are UP,
no bad flit waiting, a resource that is not the gill's alone (or the gill asks), and FAB_PERM (R19, R24, R213, R216 to R222, R309). -/
abbrev State.Passes (s : State) (r : FabReq) : Prop :=
  s.mayIssue r.die r.port = true ∧ s.dieClocked r.die = true ∧ s.dieClocked r.tdie = true ∧ r.tdie < 8 ∧ s.ownUnit r.unit = true ∧
    s.routeUp r.die r.tdie = true ∧ s.flitsOf r = [] ∧ (gillOnly (place r.tdie r.loc) r.write = true → r.cls = 7) ∧
    s.permits r.tdie r.cls ((place r.tdie r.loc).cls r.tdie) r.write = true

/-- A 32-bit access reaches the register `h`, which may be accessed: its offset is aligned (R4), it lies in no tail memory window
(R411), and a DBG_ register's newt is HALTED or FAULTED (R99). -/
abbrev State.Reaches (s : State) (r : FabReq) (h : RegHit) : Prop :=
  s.Passes r ∧ r.loc % 4 = 0 ∧ r.register = some h ∧ s.dbgBarred r.tdie h = false ∧
    ∀ b i off, place r.tdie r.loc = .reg b i off → ¬ (b = .axo ∧ 0x10000 ≤ off ∧ off < 0x20000)

/-- Field `f` of the register `h` after a write of `v`, by its access code (R7); `tie` is what hardware has set in the cycle of the
write, which stays (R8). -/
def State.FieldTaken (s t : State) (d : Nat) (h : RegHit) (v tie : Nat) (f : FieldRow) : Prop :=
  match f.acc with
  | .RW => t.get f.fld d h.inst = bitsAt v f.lo f.fld.width
  | .RWL => t.get f.fld d h.inst = if s.regLocked d h then s.get f.fld d h.inst else bitsAt v f.lo f.fld.width
  | .W1C => ∀ k, k < f.fld.width → (bitAt (t.get f.fld d h.inst) k = 1 ↔
      bitAt (s.get f.fld d h.inst) k = 1 ∧ (bitAt v (f.lo + k) = 0 ∨ bitAt tie (f.lo + k) = 1))
  | .W1S => ∀ k, k < f.fld.width → (bitAt (t.get f.fld d h.inst) k = 1 ↔
      bitAt (s.get f.fld d h.inst) k = 1 ∨ bitAt v (f.lo + k) = 1)
  | .RO | .WO | .RC => t.get f.fld d h.inst = s.get f.fld d h.inst

/-- The fields of a register, each with a cell of its own. -/
def RegHit.cells (h : RegHit) : List Fld := h.row.fields.map fun g => g.fld

/-- The cells of a register of die `d`. -/
def RegHit.locs (h : RegHit) (d : Nat) : List Loc := h.row.fields.map fun g => ⟨g.fld, d, h.inst⟩

/-- The cells of the holding register of master `p` of die `d` (R5). -/
def holdCells (d p : Nat) : List Loc := [⟨.HOLD_KIND, d, p⟩, ⟨.HOLD_REG, d, p⟩, ⟨.HOLD_VAL, d, p⟩]

/-- What a request writes on its way: the round of each crossbar it crosses (R211), and the flit counts of the links its data takes. -/
def State.fabCells (s : State) (r : FabReq) : List Loc :=
  ((s.crossings r).map fun q => ⟨.FAB_RR, q.1, q.2.1⟩) ++ (s.dataLinks r).map fun q => ⟨.LINK_FLITS, q.1, q.2⟩

/-- Beside the answer, and what the request writes on its way, only the cells of `l` differ. -/
def State.OnlyServed (s t : State) (r : FabReq) (l : List Loc) : Prop := s.Within { t with answer := s.answer } (s.fabCells r ++ l)

/-- No section, bridge or stream takes samples, no start of CSF waits and no resync waits for its moment. -/
abbrev State.Still (s : State) : Prop :=
  s.canonical = true ∧ s.ports = [] ∧ s.liveBridges = [] ∧ s.stx = [] ∧ (∀ e i, s.get .SRX_STAT_RUN e i ≠ 1) ∧ s.starts = [] ∧
    s.get .PAIR_TDV 6 0 = 0

/-- A domain's media clock runs on, and nothing waits for its next edge but the takers of samples. -/
abbrev State.Edges (s : State) (D : Nat) : Prop :=
  s.canonical = true ∧ s.get .DOM_STATUS_MLOCK 6 D = 1 ∧ s.mayAlign D = false ∧ s.get .TB_DOMCNT 6 D + 1 < 2 ^ 64 ∧ s.capture 6 < 2 ^ 64 ∧
    s.starts = [] ∧ s.get .PAIR_TDV 6 0 = 0

/-- No stream takes samples. -/
abbrev State.NoStreams (s : State) : Prop := s.stx = [] ∧ ∀ e i, s.get .SRX_STAT_RUN e i ≠ 1

/-- The stream engine of a clocked iguana die reaches `len` bytes of the die's SRAM at `base`, which are sound and unlocked. -/
abbrev State.EngineReaches (s : State) (d base len : Nat) : Prop :=
  (d = 6 ∨ d = 7) ∧ s.dieClocked d = true ∧ s.errs = [] ∧ s.get .FLT_INJ_COUNT d bankSet = 0 ∧
  (∀ w, s.Passes (s.request d 8 (15 * 2 ^ 36 + d * 2 ^ 32 + base) w 4 0)) ∧
  ∀ a, base ≤ a → a < base + len → a < sramSize d ∧ s.offline d a = false ∧ s.wordLocked d a = false

/-- A slave section in RUN, in no phase group, is the only taker of its domain's samples; its blocks lie at `base`. -/
abbrev State.Carries (s : State) (D base : Nat) (q : SapPort) : Prop :=
  s.Edges D ∧ s.NoStreams ∧ s.liveBridges = [] ∧ s.ports = [q] ∧ q.sec < 64 ∧ s.get .SAP_STOPPING q.die q.sec = 0 ∧
    s.get .SAP_CFG_DOMAIN q.die q.sec = D ∧ s.get .SAP_CFG_MASTER q.die q.sec = 0 ∧ s.get .SAP_CFG_BREN q.die q.sec = 0 ∧
    s.get .SAP_CFG_PGEN q.die q.sec = 0 ∧ s.get .SAP_STATUS_STATE q.die q.sec = sapRun ∧ q.masks = [] ∧ q.gsample = 0 ∧
    s.EngineReaches q.die base (32 * (32 + 4 * s.bsize D))

/-- The STICKY bit of a fault is set at block instance `b` of a die. -/
abbrev State.Raised (t : State) (n : FaultName) (d b : Nat) : Prop := bitAt (t.get .FLT_STICKY d (n.set b)) n.code = 1

/-- The names of the cells that a raise writes, and the cells of one fault register set. -/
def raiseFlds : List Fld := [.FLT_STICKY, .FLT_CNT, .FLT_FIRST_CODE, .FLT_FIRST_SEV, .FLT_FIRST_INSTANCE, .FLT_FIRST_VALID,
  .FLT_FIRST_CONCURRENT, .FLT_FIRST_CLEARED_BEFORE_READ, .FLT_FIRST_STAMP, .FLT_READT, .FLT_LASTC, .FLT_LASTI, .FLT_LASTN, .FLT_LASTT,
  .FLT_STATUS_NOTE, .FLT_STATUS_LEVEL, .FLT_STATUS_TIRQ, .FLT_T0]
def raiseCells (d x : Nat) : List Loc := raiseFlds.map fun f => ⟨f, d, x⟩

/-- A condition holds for one instance at most, this one, and is noted once. -/
abbrev State.OneCond (s : State) (n : FaultName) (d b inst : Nat) : Prop :=
  s.conds.Nodup ∧ ∀ c, c ∈ s.conds → c.die = d → c.set = n.set b → c.code = n.code → c.inst = inst

/-- Every byte of memory reads in `t` as in `s`. -/
def State.SameMem (s t : State) : Prop := ∀ d a, t.byte d a = s.byte d a

/-- Every cell but those of the names in `l` reads in `t` as in `s`. -/
def State.SameBut (s t : State) (l : List Fld) : Prop := ∀ f d i, f ∉ l → t.get f d i = s.get f d i

/-- The front command of pair `p` has its response: the entry at the response ring's producer index of `s` holds the command's
OPCODE + 0x8000 and SEQ, and TXID, LEN, STATUS and payload as given; the response is published and the command retired (R413,
R415). -/
def State.Answered (s t : State) (p status txid : Nat) (payload : List Nat) : Prop :=
  let m := s.cmdMsg p
  let a := ringEntry (2 * p + 1) (s.get .MBX_PI 6 (2 * p + 1))
  t.get .MBX_PI 6 (2 * p + 1) = (s.get .MBX_PI 6 (2 * p + 1) + 1) % 128 ∧ t.get .MBX_CI 6 (2 * p) = (s.get .MBX_CI 6 (2 * p) + 1) % 128 ∧
    t.load 6 a 2 = (m.opcode + 0x8000) % 2 ^ 16 ∧ t.load 6 (a + 2) 2 = m.seq ∧ t.load 6 (a + 4) 4 = txid ∧ t.load 6 (a + 8) 2 = payload.length ∧
    t.load 6 (a + 12) 4 = status ∧ t.loadBytes 6 (a + 16) payload.length = payload

/-- Beside what a response changes (its entry, the command's STATUS, the indices, the turn, the host's interrupt), only the cells named
in `l` differ. -/
def State.OnlyAnswered (s t : State) (p : Nat) (l : List Fld) : Prop :=
  let a := ringEntry (2 * p + 1) (s.get .MBX_PI 6 (2 * p + 1))
  let c := ringEntry (2 * p) (s.get .MBX_CI 6 (2 * p)) + 12
  s.SameBut t (l ++ [.MBX_PI, .MBX_CI, .MBX_PIOLD, .MBX_CIOLD, .MBX_STAT_FILL, .CSF_TURN, .HOST_IPEND, .MSIX_PBA]) ∧
    (∀ d x, x < 2 ^ 32 → ¬ (d = 6 ∧ a ≤ x ∧ x < a + 256) → ¬ (d = 6 ∧ c ≤ x ∧ x < c + 4) → t.byte d x = s.byte d x) ∧
    { t with cells := s.cells, mem := s.mem, sent := s.sent, answer := s.answer, freeCtr := s.freeCtr } = s

/-- The command is answered and changes no more than the cells named. -/
abbrev Replies (i : Instr) (s : State) (p status txid : Nat) (payload : List Nat) (l : List Fld) : Prop :=
  Completes i s fun t => s.Answered t p status txid payload ∧ s.OnlyAnswered t p l

/-- CSF serves the front command of pair `p`, and it has this opcode and length and a good header. -/
abbrev State.Fronts (s : State) (p op len : Nat) : Prop :=
  s.canServe p = true ∧ (s.cmdMsg p).opcode = op ∧ (s.cmdMsg p).badHeader = false ∧ (s.cmdMsg p).len = len

/-- The state in which CSF acts on the front command of pair `p`: its STATUS is marked (R426), its turn taken (R415). -/
def State.marked (s : State) (p : Nat) : State := (s.turned p).store 6 (ringEntry (2 * p) (s.get .MBX_CI 6 (2 * p)) + 12) 4 0xFFFF

/-- An event stands at the response ring's producer index of `s` and is published (R413, R416). -/
def State.Told (s t : State) (p code txid : Nat) (payload : List Nat) : Prop :=
  let a := ringEntry (2 * p + 1) (s.get .MBX_PI 6 (2 * p + 1))
  t.get .MBX_PI 6 (2 * p + 1) = (s.get .MBX_PI 6 (2 * p + 1) + 1) % 128 ∧ t.load 6 a 2 = code ∧ t.load 6 (a + 4) 4 = txid ∧
    t.load 6 (a + 8) 2 = payload.length ∧ t.loadBytes 6 (a + 16) payload.length = payload

end Sys2Proof.Machine
end

