-- ==== Sys2Proof/Certificates/Slice0/Obligations.lean ====
section
/-! DEFINITION. The statements for the provers. The terms they share stand in Safety. -/

open Sys2Proof Sys2Proof.Machine

/-- The queue discipline of a block; the idle step is the model's choice (log entry 1). -/
def Obligations.StepTakesTheFrontCommand : Prop := ∀ (s : State) (c : Instr) (rest : List Instr),
  (s.pending = c :: rest → step s = exec c { s with pending := rest }) ∧ (∃ t, exec c s = .next t) ∧ (s.pending = [] → step s = .next s.tick)

/-- The invariant of the model's data: every field of a register keeps within its width. -/
def Obligations.StepKeepsTheCanonicalForms : Prop := ∀ s t : State, s.canonical = true → step s = .next t → t.canonical = true ∧ t.pending = s.pending.tail ∧
  (s.due = [] → t.due = [])

/-- The invariant holds at reset; with R6, R37 and R461. -/
def Obligations.ResetIsCanonical : Prop :=
  State.reset.canonical = true ∧ State.reset.pending = [] ∧ State.reset.due = [] ∧ (∀ f d i, State.reset.get f d i = f.reset d i) ∧
    ∀ d D, State.reset.get .TB_SYSCNT d 0 = 0 ∧ State.reset.get .TB_DOMCNT d D = 0 ∧ State.reset.get .TB_GEN d D = 0

/-- The access codes of R7 with R8, for the registers whose write does nothing beyond its fields (`regStore` is `regPlain`);
HOST_IPEND has its own command. -/
def Obligations.RegisterWriteByAccessCode : Prop := ∀ (s : State) (d p addr data tie : Nat) (h : RegHit),
  s.canonical = true → data < 2 ^ 32 → h.cells.Nodup →
  let r := s.request d p addr true 4 data
  s.Reaches r h → h.row.wide = false → h.head ≠ .HOST_IPEND →
  (∀ (t : State) (c v : Nat), t.regStore r.tdie c h v = t.regPlain r.tdie h v) →
  (∀ f, f ∈ h.row.fields → (h.head = .FLT_FIRST_CODE → bitAt tie 7 = 0) → Completes (.registerWrite d p addr data tie) s fun t =>
    s.FieldTaken t r.tdie h data tie f ∧ t.answer.err = false ∧ s.OnlyServed t r (h.locs r.tdie)) ∧
  (∀ n, h.head = .FLT_FIRST_CODE → ⟨.FLT_FIRST_VALID, 7, .W1C⟩ ∈ h.row.fields → bitAt tie 7 = 1 →
    s.get .FLT_FIRST_VALID r.tdie h.inst = 1 → faultOf (h.inst / 64) (s.get .FLT_LASTC r.tdie h.inst) = some n →
    Completes (.registerWrite d p addr data tie) s fun t => t.get .FLT_FIRST_VALID r.tdie h.inst = 1 ∧
      t.get .FLT_FIRST_CODE r.tdie h.inst = n.code ∧ t.get .FLT_FIRST_INSTANCE r.tdie h.inst = s.get .FLT_LASTI r.tdie h.inst ∧
      t.get .FLT_FIRST_CONCURRENT r.tdie h.inst = s.get .FLT_LASTN r.tdie h.inst ∧
      t.get .FLT_FIRST_STAMP r.tdie h.inst = s.get .FLT_LASTT r.tdie h.inst)

/-- R5, R8 and the RC code of R7. `shown` leaves out what the counters and RC bits took in the cycle of the read. The write of a register
that acts takes effect as `regTake` of all its bits. -/
def Obligations.ReadsClearAndHold : Prop := ∀ (s : State) (d p addr data tie before : Nat) (h : RegHit), data < 2 ^ 32 →
  let rd := { s.request d p addr false 4 0 with tie := tie }
  let wr := { s.request d p addr true 4 data with tie := tie }
  let e := rd.tdie
  let key := rd.regKey h
  let v := s.shown e tie 0 h
  s.shown e 0 before h = s.regValue e h ∧
  (∀ f : FieldRow, h.row.fields = [f] → f.acc = .RC → f.lo = 0 → f.fld.maximum = false → s.get f.fld e h.inst + 1 < 2 ^ f.fld.width →
    bitsAt tie 0 f.fld.width ≤ s.get f.fld e h.inst → s.fieldValue e h.inst f = s.get f.fld e h.inst →
    s.shown e tie before h = s.get f.fld e h.inst - bitsAt tie 0 f.fld.width) ∧
  (s.Reaches rd h → h.row.wide = false → (h.row.fields.any fun f => f.acc == .RC) = true → h.cells.Nodup → s.canonical = true →
    (h.head ≠ .MAC_TSF_INFO_SEQ → h.head ≠ .FLT_FIRST_CODE → Completes (.rcRegisterRead d p addr tie before) s fun t =>
      t.answer = ⟨s.shown e tie before h, false⟩ ∧
      (∀ f, f ∈ h.row.fields → f.acc = .RC → bitsAt tie f.lo f.fld.width ≤ s.get f.fld e h.inst →
        t.get f.fld e h.inst = bitsAt tie f.lo f.fld.width) ∧
      s.OnlyServed t rd (h.locs e)) ∧
    (h.head = .MAC_TSF_INFO_SEQ → Completes (.rcRegisterRead d p addr 0 0) s fun t =>
      ∃ u, execTsfPop e h.inst ((s.granted rd).takeFlits rd) = .next u ∧ t = u.reply (u.regValue e h) false)) ∧
  (s.Reaches rd h → h.row.wide = true → h.high = false → h.head ≠ .MAC_TSF_INFO_SEQ → Completes (.reg64LowRead d p addr tie) s fun t =>
    t.answer = ⟨v % 2 ^ 32, false⟩ ∧ t.get .HOLD_KIND d p = 1 ∧ t.get .HOLD_REG d p = key ∧ t.get .HOLD_VAL d p = v / 2 ^ 32 % 2 ^ 32 ∧
      s.OnlyServed t rd (holdCells d p)) ∧
  (s.Reaches rd h → h.row.wide = true → h.high = true → h.head ≠ .MAC_TSF_INFO_SEQ →
    Completes (.fabricAccess d p addr false 4 0 [] [] tie 0) s fun t =>
      (s.held rd 1 key = true → t.answer = ⟨s.get .HOLD_VAL d p, false⟩ ∧ t.get .HOLD_KIND d p = 0) ∧
      (s.held rd 1 key = false → t.answer = ⟨v / 2 ^ 32, false⟩ ∧ t.get .HOLD_KIND d p = s.get .HOLD_KIND d p) ∧
      s.OnlyServed t rd (holdCells d p)) ∧
  (s.Reaches wr h → h.row.wide = true → h.high = false → Completes (.reg64LowWrite d p addr data) s fun t =>
    t.answer.err = false ∧ t.get .HOLD_KIND d p = 2 ∧ t.get .HOLD_REG d p = key ∧ t.get .HOLD_VAL d p = data ∧
      s.OnlyServed t wr (holdCells d p)) ∧
  (s.Reaches wr h → h.row.wide = true → h.high = true →
    let g := ((s.granted wr).takeFlits wr).reply 0 false
    (s.held wr 2 key = true →
      exec (.reg64HighWrite d p addr data tie) s = .next ((g.hold wr 0 0 0).regTake wr h (s.get .HOLD_VAL d p + data * 2 ^ 32))) ∧
    (s.held wr 2 key = false → exec (.reg64HighWrite d p addr data tie) s = .next (g.regTake wr h (s.lowKept e h + data * 2 ^ 32))) ∧
    ((∀ (t : State) (c x : Nat), t.regStore e c h x = t.regPlain e h x) → h.head ≠ .HOST_IPEND → h.head ≠ .FLT_FIRST_CODE →
      s.canonical = true → h.cells.Nodup → Completes (.reg64HighWrite d p addr data tie) s fun t =>
        (∀ f, f ∈ h.row.fields → s.FieldTaken t e h
          ((if s.held wr 2 key = true then s.get .HOLD_VAL d p else s.lowKept e h) + data * 2 ^ 32) tie f) ∧
        t.answer.err = false ∧ s.OnlyServed t wr (holdCells d p ++ h.locs e)))

/-- FABRIC_ACCESS (R211, R213, R30). Which flits are an access's own is the model's choice (log entry 104). -/
def Obligations.FabricAccessGrant : Prop := ∀ (s : State) (d p addr len data tie before : Nat) (w : Bool) (rivals far : List Nat), d < 8 →
  s.mayIssue d p = true →
  let r := s.request d p addr w len data
  let a := bitsAt addr 0 32
  (rivals = [] → far = [] → s.wins r rivals far = true) ∧
  (s.wins r rivals far = false → exec (.fabricAccess d p addr w len data rivals far tie before) s = .next s) ∧
  (s.wins r rivals far = true → s.Passes r → ∀ off, place r.tdie a = .ring off → r.isBurst = true → off + len ≤ 0x80000 →
    Completes (.fabricAccess d p addr w len data rivals far tie before) s fun t =>
      t.get .FAB_RR d (s.egress r) = p + 1 ∧ s.OnlyServed { t with mem := s.mem } r [] ∧ t.answer.err = false ∧
      (w = false → t.answer.data = s.load 6 (0x50000000 + off) len ∧ s.SameMem t) ∧
      (w = true → data < 256 ^ len → t.load 6 (0x50000000 + off) len = data ∧
        ∀ e y, y < 2 ^ 32 → ¬ (e = 6 ∧ 0x50000000 + off ≤ y ∧ y < 0x50000000 + off + len) → t.byte e y = s.byte e y)) ∧
  (s.wins r rivals far = true → s.dieClocked d = true → s.dieClocked r.tdie = true → r.tdie < 8 → s.ownUnit r.unit = true →
    s.routeUp d r.tdie = true → place r.tdie a = .nothing → s.get .FAB_DERR_VALID r.tdie 0 = 0 →
    Completes (.fabricAccess d p addr w len data rivals far tie before) s fun t =>
      t.answer = ⟨0, true⟩ ∧ t.get .FAB_DERR_VALID r.tdie 0 = 1 ∧ t.get .FAB_DERR_ADDR r.tdie 0 = a ∧
      t.get .FAB_DERR_CAUSE r.tdie 0 = 0 ∧ t.get .FAB_DERR_ORIGIN r.tdie 0 = d ∧
      t.Raised .FAB_DECODE r.tdie 0 ∧ s.SameMem t) ∧
  (∀ c k m x found, d < 6 → w = true → len = 4 → r.loc % 16 = 0 → place r.tdie a = .ring x → data < 2 ^ 32 → s.wins r rivals far = true →
    s.Passes r → (c, k) ∈ s.dataLinks r →
    let b := { s with badFlits := [⟨c, k, 0, m, found⟩] }
    Completes (.fabricAccess d p addr true 4 data rivals far tie before) b fun t =>
      t.answer.err = found ∧ t.load 6 (0x50000000 + x) 4 = data ^^^ m % 2 ^ 32 ∧ t.badFlits = [])

/-- Writes of EPOCH_CFG.EN (R45). That RUN stays 0 at the write of EN = 1 until the first dispatch is the model's choice (log entry 107);
that RUN falls at once where no epoch is in progress is the model's reading (log entry 10). -/
def Obligations.EpochEnableAndStop : Prop := ∀ (s : State) (D : Nat), D < 3 → s.dieClocked 6 = true →
  (s.get .EPOCH_CFG_EN 6 D = 0 → s.get .EPOCH_STATUS_RUN 6 D = 0 →
    Does (.epochEnable D) s [(⟨.EP_CURV, 6, D⟩, 0), (⟨.EP_OWED, 6, D⟩, 0), (⟨.EPOCH_CFG_EN, 6, D⟩, 1)]) ∧
  (s.get .EPOCH_CFG_EN 6 D = 0 → s.get .EPOCH_STATUS_RUN 6 D = 1 → Does (.epochEnable D) s [(⟨.EPOCH_CFG_EN, 6, D⟩, 1)]) ∧
  (s.get .EPOCH_CFG_EN 6 D = 1 → Does (.epochEnable D) s []) ∧
  (s.get .EPOCH_CFG_EN 6 D = 0 → Does (.epochStop D) s []) ∧
  (s.get .EPOCH_CFG_EN 6 D = 1 → s.get .EPOCH_STATUS_RUN 6 D = 1 → s.get .EPOCH_STATUS_DRAINED 6 D = 0 →
    Does (.epochStop D) s [(⟨.EPOCH_CFG_EN, 6, D⟩, 0)]) ∧
  (s.get .EPOCH_CFG_EN 6 D = 1 → (s.get .EPOCH_STATUS_RUN 6 D = 0 ∨ s.get .EPOCH_STATUS_DRAINED 6 D = 1) →
    Completes (.epochStop D) s fun t => t.get .EPOCH_CFG_EN 6 D = 0 ∧ t.get .EPOCH_STATUS_RUN 6 D = 0 ∧ s.SameMem t ∧
      s.SameBut t [.EPOCH_CFG_EN, .EPOCH_STATUS_RUN, .TB_STATUS_RUN, .EP_ASGN, .EP_OWED]) ∧
  (∀ d q, d < 8 → s.get .EPOCH_CFG_EN 6 D = 0 → s.get .EP_CURV 6 D = 1 → s.get .EPOCH_STATUS_DRAINED 6 D = 0 →
    s.get .PAIR_STATUS_ROLE 6 0 = 0 → s.get .EPOCH_CSTAT_SNAP_PEND 6 D = 0 →
    s.nextOn (.drainReport d D (s.get .EPOCH_CUR 6 D) false q) = true → setBits (s.get .EPOCH_STATUS_DIE_DRAINED 6 D) d 1 1 = 255 →
    Completes (.drainReportReceipt d D (s.get .EPOCH_CUR 6 D) false) s fun t => t.get .EPOCH_STATUS_DRAINED 6 D = 1 ∧
      t.get .EPOCH_STATUS_RUN 6 D = 0 ∧ (∀ e, e < 8 → bitAt (t.get .TB_STATUS_RUN e 0) D = 0) ∧ t.get .EP_OWED 6 D = 0 ∧ s.SameMem t)

/-- COMMIT_ARM (R55), judged against DOMCNT as it stands when the command is taken. -/
def Obligations.CommitArmChecks : Prop := ∀ (s : State) (D : Nat), D < 3 → s.dieClocked 6 = true →
  let T := s.get .EPOCH_COMMIT_AT 6 D
  let B := 8 * 2 ^ s.get .EPOCH_CFG_BSIZE 6 D
  let bad := T % B ≠ 0
  let late := T < (s.get .TB_DOMCNT 6 D / B + 2) * B
  let pend := s.get .EPOCH_CSTAT_COMMIT_PEND 6 D = 1
  ((bad ∨ late ∨ pend) → Does (.commitArm D) s [
    (⟨.EPOCH_CSTAT_BADALIGN, 6, D⟩, if bad then 1 else s.get .EPOCH_CSTAT_BADALIGN 6 D),
    (⟨.EPOCH_CSTAT_TOOLATE, 6, D⟩, if late then 1 else s.get .EPOCH_CSTAT_TOOLATE 6 D),
    (⟨.EPOCH_CSTAT_REFUSED, 6, D⟩, if pend then 1 else s.get .EPOCH_CSTAT_REFUSED 6 D)]) ∧
  (¬ (bad ∨ late ∨ pend) → T < 2 ^ 64 → Completes (.commitArm D) s fun t =>
    t.get .EPOCH_CSTAT_COMMIT_PEND 6 D = 1 ∧ t.get .COMMIT_T 6 D = T ∧ s.SameMem t ∧
      s.SameBut t [.EPOCH_CSTAT_COMMIT_PEND, .COMMIT_T, .COMMIT_ACKS, .COMMIT_OWN, .SAP_STATUS_MASKPEND, .SAP_SLOTMASK, .SAP_DIRTY])

/-- COMMIT_CANCEL (R56), and SNAP_CANCEL under the same rule (R64). -/
def Obligations.CommitCancelInTime : Prop := ∀ (s : State) (D : Nat), D < 3 → s.dieClocked 6 = true →
  let c := s.get .TB_DOMCNT 6 D + 8 * 2 ^ s.get .EPOCH_CFG_BSIZE 6 D
  (s.get .EPOCH_CSTAT_COMMIT_PEND 6 D = 1 → c < s.get .COMMIT_T 6 D → Completes (.commitCancel D) s fun t =>
    t.get .EPOCH_CSTAT_COMMIT_PEND 6 D = 0 ∧ s.SameMem t ∧ s.SameBut t [.EPOCH_CSTAT_COMMIT_PEND, .SAP_STATUS_MASKPEND]) ∧
  (s.get .EPOCH_CSTAT_COMMIT_PEND 6 D = 1 → ¬ c < s.get .COMMIT_T 6 D →
    Does (.commitCancel D) s [(⟨.EPOCH_CSTAT_REFUSED, 6, D⟩, 1)]) ∧
  (s.get .EPOCH_CSTAT_SNAP_PEND 6 D = 1 → c < s.get .SNAP_T 6 D → Completes (.snapCancel D) s fun t =>
    t.get .EPOCH_CSTAT_SNAP_PEND 6 D = 0 ∧ s.SameMem t ∧ s.SameBut t [.EPOCH_CSTAT_SNAP_PEND]) ∧
  (s.get .EPOCH_CSTAT_SNAP_PEND 6 D = 1 → ¬ c < s.get .SNAP_T 6 D →
    Does (.snapCancel D) s [(⟨.EPOCH_CSTAT_REFUSED, 6, D⟩, 1)])

/-- What the events of an epoch's life do (R39, R40, R43, R47, R49, R50, R58, R61, R349, R367). What a section does with a sample stands in
`SapSamplesConvert`, a bridge in `BridgesLockAndFeed`, a stream in `StreamsEnableBuildAndPlace`. -/
def Obligations.EpochProgress : Prop := ∀ (s : State) (D : Nat), D < 3 →
  (∀ meas, s.get .DOM_STATUS_MLOCK 6 D = 1 → s.mayAlign D = false → s.capture 6 < 2 ^ 64 → s.get .TB_DOMCNT 6 D + 1 < 2 ^ 64 →
    let n := s.get .TB_DOMCNT 6 D + 1
    let cells := [(⟨.DOM_EDGET, 6, D⟩, s.capture 6), (⟨.TB_DOMCNT, 7, D⟩, n), (⟨.TB_DOMCNT, 6, D⟩, n)]
    (n % s.bsize D ≠ 0 → ∃ u, s.Changes u cells ∧ 
      exec (.domcntIncrement D meas) s = .next ((u.domSample D (n - 1) meas).when (D = 0) fun v => v.resyncMoment n).startsGo) ∧
    (n % s.bsize D ≠ 0 → s.Still → Does (.domcntIncrement D meas) s cells) ∧
    (n % s.bsize D = 0 → s.Still → Completes (.domcntIncrement D meas) s fun t =>
      let j := n - 2 * s.bsize D
      t.get .TB_DOMCNT 6 D = n ∧ t.get .TB_DOMCNT 7 D = n ∧ s.SameMem t ∧
      t.get .TX_MISS 6 D = (if 2 * s.bsize D ≤ n ∧ s.get .EP_ASGN 6 (s.slotOf D j) = j + 1 ∧ s.get .EP_RDY 6 (s.slotOf D j) ≠ j + 1 then
        j + 1 else s.get .TX_MISS 6 D) ∧
      t.get .MAP_DOMCNT 6 D = n ∧ t.get .MAP_SEQ 6 D = (s.get .MAP_SEQ 6 D + 1) % 2 ^ Fld.width .MAP_SEQ)) ∧
  (∀ meas, s.get .DOM_STATUS_MLOCK 6 D = 1 → s.get .RING_ALIGN 6 D = 1 → s.get .EPOCH_CFG_EN 6 D = 0 → s.get .DOM_CFG_RING 6 D = 1 →
    s.get .RING_STATUS_HEAD 6 0 = 0 → s.Still →
    let fs := rateFs (s.get .DOM_CFG_RATE 6 D)
    let own := s.get .TB_DOMCNT 6 D + 1
    let passed : Int := (s.get .RING_HPH 6 D * fs.2 * 1000000000 + ((s.capture 6 : Int) - s.get .RING_TH 6 0) * (fs.1 * 2 ^ 32)) /
      (2 ^ 32 * fs.2 * 1000000000)
    let head := ((s.get .RING_HDOM 6 D : Int) + passed).toNat
    max own head < 2 ^ 64 → Completes (.domcntAlign D meas) s fun t =>
      t.get .TB_DOMCNT 6 D = max own head ∧ t.get .TB_DOMCNT 7 D = max own head ∧ t.get .RING_ALIGN 6 D = 0 ∧
      t.get .DOM_STATUS_AHEAD 6 D = (if head < own then 1 else 0) ∧ s.SameMem t) ∧
  (∀ meas, s.get .RING_ALIGN 6 D = 0 → exec (.domcntAlign D meas) s = .next s) ∧
  (s.get .TB_DOMCNT 6 D % s.bsize D = 0 → s.get .TB_DOMCNT 6 D ≠ s.get .EP_PASSED 6 D → s.get .TB_DOMCNT 6 D < 2 ^ 64 →
    Completes (.epochBoundary D) s fun t => t.get .EP_PASSED 6 D = s.get .TB_DOMCNT 6 D ∧
      ((s.get .EPOCH_STATUS_RUN 6 D = 1 ∨ s.get .EPOCH_CFG_EN 6 D = 1) → t.get .EP_OWED 6 D = 1) ∧
      t.get .TB_DOMCNT 6 D = s.get .TB_DOMCNT 6 D) ∧
  (s.mayDispatch D = true → s.resyncHolds D = false → s.get .EP_PASSED 6 D < 2 ^ 64 →
    Completes (.epochDispatch D) s fun t => t.get .EPOCH_CUR 6 D = s.get .EP_PASSED 6 D ∧ t.get .EPOCH_STATUS_DRAINED 6 D = 0 ∧
      t.get .EPOCH_STATUS_RUN 6 D = 1 ∧ t.sent = s.sent ++ allDies.map fun d =>
        Msg.epochStart d D (s.get .EP_PASSED 6 D) (s.commitDue D (s.get .EP_PASSED 6 D))) ∧
  (s.dieClocked 6 = true → s.snapRefused D (s.get .EPOCH_SNAP_AT 6 D) = false → s.get .EPOCH_SNAP_AT 6 D < 2 ^ 64 →
    Completes (.snapArm D) s fun t => t.get .EPOCH_CSTAT_SNAP_PEND 6 D = 1 ∧ t.get .SNAP_T 6 D = s.get .EPOCH_SNAP_AT 6 D ∧
      s.SameBut t [.EPOCH_CSTAT_SNAP_PEND, .SNAP_T]) ∧
  (∀ d b c, d < 8 → b < 2 ^ 64 →
    (s.nextOn (.epochStart d D b c) = true → Completes (.epochStartReceipt d D b c) s fun t =>
      (d < 6 → t.get .TB_DOMCNT d D = b) ∧ t.get .EP_SEEN d D = b + 1 ∧ t.get .TB_STATUS_SYNC d 0 = 1) ∧
    (s.nextOn (.epochStart d D b c) = false → exec (.epochStartReceipt d D b c) s = .next s)) ∧
  (∀ d, d < 8 → s.get .EP_SEEN d D ≠ 0 → s.get .DRAIN_SENT d D = 0 → s.dieClocked d = true → s.dieDrained d D = true →
    ∃ u, s.Changes u [(⟨.DRAIN_SENT, d, D⟩, 1)] ∧
      exec (.dieDrainReport d D) s = .next (u.send (.drainReport d D (s.get .EP_SEEN d D - 1) false 8))) ∧
  (∀ d q, d < 8 → s.get .EP_CURV 6 D = 1 → s.get .EPOCH_STATUS_DRAINED 6 D = 0 → s.get .EPOCH_CFG_EN 6 D = 1 →
    s.nextOn (.drainReport d D (s.get .EPOCH_CUR 6 D) false q) = true → setBits (s.get .EPOCH_STATUS_DIE_DRAINED 6 D) d 1 1 = 255 →
    Completes (.drainReportReceipt d D (s.get .EPOCH_CUR 6 D) false) s fun t => t.get .EPOCH_STATUS_DRAINED 6 D = 1) ∧
  (s.get .EPOCH_CSTAT_COMMIT_PEND 6 D = 1 → s.get .COMMIT_OWN 6 D = 1 → s.ringPart D = true → s.commitAcked D = false →
    (s.get .COMMIT_T 6 D ≤ s.get .TB_DOMCNT 6 D + s.bsize D → ∃ u, s.Changes u [(⟨.EPOCH_CSTAT_SPLIT, 6, D⟩, 1)] ∧
      exec (.commitAckDeadline D) s = .next (u.fault .EPOCH_SPLIT 6 0 D)) ∧
    (s.get .TB_DOMCNT 6 D + s.bsize D < s.get .COMMIT_T 6 D → exec (.commitAckDeadline D) s = .next s))

/-- R102, R105, R131, R132. -/
def Obligations.BundlesFormAndFault : Prop := ∀ (s : State) (d n : Nat), d < 6 → n < 32 →
  s.Ready d n →
  (∀ i q, newtInstr i = some q → q.die = d → q.newt = n → s.fetched i = true →
    let y := bundleWith ⟨d, n, none, none, none, AccessMeets.free⟩ q.op (instrIo i)
    (q.e = false → Completes i s fun t => { t with bundles := s.bundles } = s ∧ t.bundleOf d n = some y) ∧
    (q.e = true → exec i s = .next (s.runBundle y))) ∧
  (∀ i q t b, newtInstr i = some q → q.die = d → q.newt = n → t.newtIs d n newtRun = true → t.dieClocked d = true →
    t.bundleOf d n = some b → t.fetched i = true →
    (opRank q.op ≤ bundleRank b → Completes i t fun u => u.newtIs d n newtFaulted = true ∧ u.get .NEWT_PC d n = t.get .NEWT_NEXT d n) ∧
    (bundleRank b < opRank q.op →
      let y := bundleWith b q.op (instrIo i)
      (q.e = true → exec i t = .next (t.runBundle y)) ∧
      (q.e = false → b.words = 1 → t.get .NEWT_NEXT d n < 8190 → Completes i t fun u =>
        { u with bundles := t.bundles } = t ∧ u.bundleOf d n = some y) ∧
      (q.e = false → b.words = 2 → Completes i t fun u => u.newtIs d n newtFaulted = true ∧
        u.get .NEWT_PC d n = t.get .NEWT_NEXT d n))) ∧
  (s.live d n .NEWT_ILLEGAL = false → ∀ x a b tgt bs io, ∀ i, i ∈ [Instr.vcmp d n true 1 a b 0 bs 7, .vadd d n true x a 16 0 true,
      .divi d n true (x / 2 * 2 + 1) a b 0, .vglide d n true 2 a 3 0, .vst d n true x 0 0 2 0 0 0 io,
      .vld d n true x 12 0 0 0 0 0 io, .adda d n true 0 0 0, .movr d n true 7 0 0 a, .brc d n true 6 4 tgt,
      .loopTop d n true true 16 tgt, .rept d n true false 1 0] → s.fetched i = true →
    Completes i s fun t => t.newtIs d n newtFaulted = true ∧ t.get .NEWT_PC d n = s.get .NEWT_NEXT d n ∧ t.Raised .NEWT_ILLEGAL d n ∧
      t.live d n .NEWT_ILLEGAL = true ∧ s.SameMem t ∧ ∀ f, f ∈ [Fld.DBG_V, .DBG_ACC, .DBG_S, .DBG_A, .DBG_B, .DBG_L, .DBG_M, .DBG_P] →
        ∀ e i, t.get f e i = s.get f e i) ∧
  (∀ (t : State) (i : Instr) (q : NewtInstr), newtInstr i = some q → t.newtIs q.die q.newt newtRun = false ∨ t.fetched i = false →
    exec i t = .next t)

/-- R70, R71, R93 to R95, R99. -/
def Obligations.FetchAndDebugStops : Prop := ∀ (s : State) (d n : Nat), d < 6 → n < 32 → s.canonical = true →
  let pc := s.get .NEWT_NEXT d n
  let st := s.get .NEWT_STATUS_STATE d n
  (st = newtRun → s.errs = [] → s.get .FLT_INJ_COUNT d (64 + n) = 0 → exec (.instructionFetch d n false) s = .next s) ∧
  (st = newtRun → s.dieClocked d = true → Completes (.instructionFetch d n true) s fun t =>
    s.Changes { t with boards := s.boards } [(⟨.NEWT_STALL_FAB, d, n⟩, (s.get .NEWT_STALL_FAB d n + 1) % 2 ^ 32)]) ∧
  (st = newtRun → s.dieClocked d = true → s.get .FLT_INJ_COUNT d (64 + n) = 0 →
    (s.newtCheck d n (0x20000 + pc / 2 * 8)).kind = 2 → s.live d n .NEWT_PMEM_UE = false → Completes (.instructionFetch d n false) s fun t =>
      t.newtIs d n newtFaulted = true ∧ t.get .NEWT_PC d n = pc ∧ t.get .NEWT_ECC_PMEM_UE d n = 1 ∧ t.Raised .NEWT_PMEM_UE d n ∧ s.SameMem t) ∧
  (st = newtRun → s.dieClocked d = true → s.nextIllegal d n = true → s.live d n .NEWT_ILLEGAL = false → Completes (.illegalEncoding d n) s fun t =>
    t.newtIs d n newtFaulted = true ∧ t.get .NEWT_PC d n = pc ∧ t.Raised .NEWT_ILLEGAL d n ∧ s.SameMem t) ∧
  (st = newtRun → s.dieClocked d = true → s.get .NEWT_CFG_DBGEN d n = 1 → s.bundleOf d n = none → s.get .NEWT_STATUS_INREPT d n = 0 → s.get .NEWT_SKIPBP d n = 0 →
    s.get .NEWT_BKPT_EN d (n * 2 + 1) = 1 → s.get .NEWT_BKPT_ADDR d (n * 2 + 1) = pc → Completes (.breakpointMatch d n) s fun t =>
      t.newtIs d n newtHalted = true ∧ t.get .NEWT_PC d n = pc ∧ s.SameMem t ∧
        s.SameBut t [.NEWT_STATUS_STATE, .NEWT_STATUS_CFGLOCK, .NEWT_STATUS_HALT_PEND, .NEWT_PC, .NEWT_STEP, .NEWT_HALTT]) ∧
  (s.get .NEWT_CFG_DBGEN d n = 0 → exec (.haltReq d n) s = .next s ∧ exec (.step d n) s = .next s ∧ exec (.breakpointMatch d n) s = .next s) ∧
  (s.dieClocked d = true → s.get .NEWT_CFG_DBGEN d n = 1 → st = newtIdle → Does (.haltReq d n) s [(⟨.NEWT_STATUS_HALT_PEND, d, n⟩, 1)]) ∧
  (s.dieClocked d = true → s.get .NEWT_CFG_DBGEN d n = 1 → st = newtRun → s.bundleOf d n = none → s.get .NEWT_STATUS_INREPT d n = 0 →
    Completes (.haltReq d n) s fun t => t.newtIs d n newtHalted = true ∧ t.get .NEWT_PC d n = pc ∧ s.SameMem t) ∧
  (st = newtHalted → s.dieClocked d = true →
    let goes (k : Nat) (t : State) := s.Changes { t with boards := s.boards } [(⟨.NEWT_STATUS_STATE, d, n⟩, newtRun),
      (⟨.NEWT_STATUS_CFGLOCK, d, n⟩, 1), (⟨.NEWT_PC, d, n⟩, s.get .NEWT_LAST d n), (⟨.NEWT_SKIPBP, d, n⟩, 1), (⟨.NEWT_STEP, d, n⟩, k)]
    Completes (.resume d n) s (goes 0) ∧ (s.get .NEWT_CFG_DBGEN d n = 1 → Completes (.step d n) s (goes 1))) ∧
  (st = newtRun → exec (.resume d n) s = .next s ∧ exec (.step d n) s = .next s ∧ exec (.abort d n) s = .next s) ∧
  ((st = newtHalted ∨ st = newtFaulted) → s.dieClocked d = true → Completes (.abort d n) s fun t => t.newtIs d n newtDraining = true ∧
    t.get .NEWT_STATUS_ABORTED d n = 1 ∧ s.SameMem t ∧ (st = newtFaulted → s.conds = [⟨d, 64 + n, 1, s.newtSlot d n⟩] → t.live d n .NEWT_ILLEGAL = false)) ∧
  (∀ md p addr w data off h, data < 2 ^ 32 →
    let r := s.request md p addr w 4 data
    s.Passes r → r.loc % 4 = 0 → r.tdie = d → place d r.loc = .reg .newt n off → regFind d .newt n off = some h →
    (0x1000 ≤ h.row.off → 0 < h.row.count → h.inst / h.row.count = n → h.row.blk = .newt → st ≠ newtHalted → st ≠ newtFaulted →
      Completes (.dbgRegisterAccess md p addr w data) s fun t => t.answer = ⟨0, true⟩ ∧ s.OnlyServed t r []) ∧
    (h.row.off = 0x1600 → h.row.wide = false → h.row.blk = .newt → h.row.fields = [⟨.DBG_S, 0, .RW⟩] → h.row.count = 16 → h.inst / 16 = n →
      (st = newtHalted ∨ st = newtFaulted) → Completes (.dbgRegisterAccess md p addr w data) s fun t => t.answer.err = false ∧
        (w = false → t.answer.data = s.get .DBG_S d h.inst) ∧
        t.get .DBG_S d h.inst = if w then data else s.get .DBG_S d h.inst))

/-- R91, R92, R98 (CLR_CNT), R469 (newt reset) and R470 (the gill acts on nothing else while it writes a snapshot). -/
def Obligations.TasksEndAndNewtsPark : Prop := ∀ (s : State) (d n : Nat), d < 6 → n < 32 → s.canonical = true →
  let st := s.get .NEWT_STATUS_STATE d n
  let x := slotIx (n / 8) (s.newtSlot d n)
  (st = newtDraining → s.dieClocked d = true → s.get .NEWT_TASK_FLOW d n = 0 → s.get .SLOT_STATE_STATE d x = slotService → Completes (.completionReport d n) s fun t =>
    t.get .NEWT_TASKS d n = (s.get .NEWT_TASKS d n + 1) % 2 ^ 32 ∧ t.get .NEWT_STATUS_PARK_PEND d n = 0 ∧ s.SameMem t ∧
    t.get .NEWT_STATUS_STATE d n = (if s.get .NEWT_STATUS_PARK_PEND d n = 1 then newtParked else newtIdle) ∧
    (s.get .SLOT_CTRL_EN d x = 0 → t.get .SLOT_STATE_STATE d x = slotDisabled) ∧
    (s.get .SLOT_CTRL_EN d x = 1 → s.slotReady d x = false → t.get .SLOT_STATE_STATE d x = slotWait) ∧
    (s.get .SLOT_CTRL_EN d x = 1 → s.slotReady d x = true → t.get .SLOT_STATE_STATE d x = slotQueued)) ∧
  (st ≠ newtDraining → exec (.completionReport d n) s = .next s) ∧
  (s.dieClocked d = true → st = newtIdle → s.claims = [] → Does (.parkReq d n) s [(⟨.NEWT_STATUS_STATE, d, n⟩, newtParked), (⟨.NEWT_STATUS_CFGLOCK, d, n⟩, 0)]) ∧
  (s.dieClocked d = true → st ≠ newtIdle → st ≠ newtParked → Does (.parkReq d n) s [(⟨.NEWT_STATUS_PARK_PEND, d, n⟩, 1)]) ∧
  (s.dieClocked d = true → st = newtParked → Does (.unpark d n) s [(⟨.NEWT_STATUS_STATE, d, n⟩, newtIdle), (⟨.NEWT_STATUS_CFGLOCK, d, n⟩, 1)]) ∧
  (st ≠ newtParked → exec (.unpark d n) s = .next s) ∧
  (s.dieClocked d = true → Does (.newtClrCnt d n) s ([.NEWT_BUSY, .NEWT_TASKS, .NEWT_STALL_SB, .NEWT_STALL_MEM, .NEWT_STALL_FAB, .NEWT_STALL_DONE].map
    (fun f : Fld => (Loc.mk f d n, 0)) ++ [(⟨.NEWT_CLRT, d, n⟩, (s.capture d + 1) % 2 ^ 64)])) ∧
  (s.gillFree = false → exec (.newtReset d n) s = .next s) ∧
  (s.gillFree = true → s.dieClocked d = true → Completes (.newtReset d n) s fun t => t.get .NEWT_STATUS_STATE d n = newtParked ∧ t.get .NEWT_PC d n = 0 ∧ t.get .NEWT_CFG_DBGEN d n = 0 ∧
    t.bundleOf d n = none ∧ (∀ k, k < 256 → t.get .DBG_V d (n * 256 + k) = 0) ∧ (∀ k, k < 16 → t.get .DBG_S d (n * 16 + k) = 0) ∧ s.SameMem t)

/-- R111, R115, R116, R118, R120: lane operations into a v register, under a predicate (R78), with sticky flags (R82); and what
their lane functions are by R80 and R81, over the rationals. -/
def Obligations.LaneResults : Prop := (∀ (s : State) (d n x a b p sh k : Nat) (bs dir clr : Bool), d < 6 → n < 32 → x < 32 → a < 32 →
  b < 32 → (bs = true → b < 16) → p < 4 → sh < 32 → s.Ready d n →
  let D := fun k => s.vReg d n x k
  let A := fun k => s.vReg d n a k
  let B := fun k => s.srcB d n b bs k
  ∀ (i : Instr) (f : Nat → FpRes) (own : List Loc), (i, f, own) ∈ [
      (.vfma d n true x a b p bs, fun k => laneFma (D k) (A k) (B k), []),
      (.vmul d n true x a b p bs, fun k => laneMul (A k) (B k), []),
      (.vadd d n true x a b p bs, fun k => laneAdd (A k) (B k), []),
      (.vsub d n true x a b p bs, fun k => laneSub (A k) (B k), []),
      (.vmin d n true x a b p bs, fun k => laneMin (A k) (B k), []),
      (.vmax d n true x a b p bs, fun k => laneMax (A k) (B k), []),
      (.vabs d n true x a p, fun k => laneAbs (A k), []), (.vneg d n true x a p, fun k => laneNeg (A k), []),
      (.rcps d n true x a p, fun k => laneRcps (A k), []),
      (.vcvt d n true x a p dir sh, fun k => if dir then laneFromFix sh (A k) else laneToFix sh (A k), []),
      (.vrnd d n true x (a % 8) p clr, fun k => laneRnd (s.accReg d n (a % 8) k), if clr then accCells d n (a % 8) else []),
      (.divf d n true (x / 2 * 2) a b p, fun k => laneDivf (s.vReg d n (x / 2 * 2) k) (s.vReg d n (x / 2 * 2 + 1) k) (A k)
        (s.vReg d n b k), [])] →
    s.fetched i = true → Completes i s fun t => s.Sticky t d n p f ∧
      (let y := if i = .divf d n true (x / 2 * 2) a b p then x / 2 * 2 else x
       (k < 8 → t.vReg d n y k = if bitAt (s.pReg d n p) k = 1 then (f k).bits % 2 ^ 32 else s.vReg d n y k) ∧
       s.Ran t d n (s.get .NEWT_NEXT d n + 1) (vCells d n y ++ own ++ flagCells d n)) ∧
      (k < 8 → own ≠ [] → t.accReg d n (a % 8) k = if bitAt (s.pReg d n p) k = 1 then 0 else s.accReg d n (a % 8) k)) ∧
  ∀ x y z w sh : Nat, x < 2 ^ 32 → y < 2 ^ 32 → z < 2 ^ 32 → sh < 32 →
    let fin := fun b => bitsAt b 23 8 ≠ 255
    let nan := fun b => bitsAt b 23 8 = 255 ∧ bitsAt b 0 23 ≠ 0
    let plain := FpRes.plain
    let signs := fpNeg x != fpNeg y
    let q := Nat.repeat (fun v : Nat × Nat => laneDivs v.1 v.2 y) 13 (laneDivi x)
    (fin x → fin y → Delivers (fpRat x + fpRat y) (laneAdd x y) ∧ Delivers (fpRat x - fpRat y) (laneSub x y) ∧
      (if fpRat x * fpRat y = 0 then laneMul x y = plain (fpZero signs) else Delivers (fpRat x * fpRat y) (laneMul x y)) ∧
      (fin z → Delivers (fpRat z + fpRat x * fpRat y) (laneFma z x y)) ∧
      (fpRat x < fpRat y → laneMin x y = fpPass x ∧ laneMax x y = fpPass y ∧ laneMin y x = fpPass x ∧ laneMax y x = fpPass y) ∧
      (fpRat x = 0 → fpRat y = 0 → laneMin x y = plain (fpZero (fpNeg x || fpNeg y)) ∧
        laneMax x y = plain (fpZero (fpNeg x && fpNeg y))) ∧
      (fpRat x ≠ 0 → fpRat y ≠ 0 → Delivers (fpRat x / fpRat y) (laneDivf q.1 q.2 x y))) ∧
    (¬ nan x → fpPass x = plain (if bitsAt x 23 8 = 0 then fpZero (fpNeg x) else x) ∧
      laneAbs x = plain (if bitsAt x 23 8 = 0 then 0 else x % 2 ^ 31) ∧
      laneNeg x = plain (if bitsAt x 23 8 = 0 then fpZero (!fpNeg x) else (x + 2 ^ 31) % 2 ^ 32)) ∧
    (nan x ∨ nan y → ∀ r, r ∈ [laneAdd x y, laneSub x y, laneMul x y, laneMin x y, laneMax x y, laneFma z x y, laneFma x z y,
      laneDivf q.1 q.2 x y] → r = FpRes.invalid) ∧
    (nan x → laneAbs x = FpRes.invalid ∧ laneNeg x = FpRes.invalid ∧ laneRcps x = FpRes.invalid ∧ laneToFix sh x = ⟨0, true, false, false⟩) ∧
    (∀ g, ¬ nan y → laneAdd (fpInf g) y = (if y = fpInf !g then FpRes.invalid else plain (fpInf g)) ∧
      laneSub (fpInf g) y = (if y = fpInf g then FpRes.invalid else plain (fpInf g)) ∧
      laneMul (fpInf g) y = if bitsAt y 23 8 = 0 then FpRes.invalid else plain (fpInf (g != fpNeg y))) ∧
    (accLegal w = true → bitsAt w 48 10 ≠ 1023 → Delivers (accRat w) (laneRnd w)) ∧
    (fin x → let v := ⌊fpRat x * 2 ^ sh + 1 / 2⌋
      laneToFix sh x = if v < -2 ^ 31 then ⟨0x80000000, false, true, false⟩ else if 2 ^ 31 ≤ v then ⟨0x7FFFFFFF, false, true, false⟩
        else plain (v % 2 ^ 32).toNat) ∧
    Delivers ((BitVec.ofNat 32 x).toInt / 2 ^ sh) (laneFromFix sh x)

/-- R112 to R114, R117 and R119, with the sticky flags (R82), the accumulator's arithmetic (R79) and the conditions (R113). -/
def Obligations.LaneStateOperations : Prop := (∀ (s : State) (d n x a b p k : Nat) (bs z neg : Bool), d < 6 → n < 32 → x < 32 → a < 32 →
  b < 32 → (bs = true → b < 16) → p < 4 → k < 8 → s.Ready d n →
  let isNan := fun v => bitsAt v 23 8 == 255 && bitsAt v 0 23 != 0
  let on := bitAt (s.pReg d n p) k = 1
  let B := s.srcB d n b bs k
  let next := s.get .NEWT_NEXT d n + 1
  (x < 8 → s.fetched (.vmac d n true x a b p bs z neg) = true → Completes (.vmac d n true x a b p bs z neg) s fun t =>
    s.Ran t d n next (accCells d n x ++ flagCells d n) ∧
    s.Sticky t d n p (fun j => laneMac z neg (s.accReg d n x j) (s.vReg d n a j) (s.srcB d n b bs j)) ∧
    t.accReg d n x k = if on then (laneMac z neg (s.accReg d n x k) (s.vReg d n a k) B).bits % 2 ^ 64 else s.accReg d n x k) ∧
  (∀ cond, cond < 7 → x < 4 → s.fetched (.vcmp d n true x a b p bs cond) = true → Completes (.vcmp d n true x a b p bs cond) s fun t =>
    s.Ran t d n next ((if x = 0 then [] else [⟨.DBG_P, d, n * 4 + x⟩]) ++ flagCells d n) ∧
    s.Sticky t d n p (fun j => ⟨0, isNan (s.vReg d n a j) || isNan (s.srcB d n b bs j), false, false⟩) ∧
    (x ≠ 0 → bitAt (t.pReg d n x) k = if on then flag (laneCmp cond (s.vReg d n a k) B) else bitAt (s.pReg d n x) k)) ∧
  (s.fetched (.vsel d n true x a b p) = true → Completes (.vsel d n true x a b p) s fun t => s.Ran t d n next (vCells d n x) ∧
    t.vReg d n x k = if on then s.vReg d n a k else s.vReg d n b k) ∧
  (x % 2 = 0 → b ≠ x → b ≠ x + 1 → s.fetched (.vglide d n true x a b p) = true → Completes (.vglide d n true x a b p) s fun t =>
    s.Ran t d n next (vCells d n x ++ vCells d n b ++ flagCells d n) ∧
    s.Sticky t d n p (fun j => ⟨0, isNan (s.vReg d n a j), false, false⟩) ∧
    (on → (t.vReg d n x k, t.vReg d n b k) = laneGlide (s.vReg d n x k) (s.vReg d n (x + 1) k) (s.vReg d n a k) (s.vReg d n b k)) ∧
    (¬ on → t.vReg d n x k = s.vReg d n x k ∧ t.vReg d n b k = s.vReg d n b k)) ∧
  (x % 2 = 0 → s.fetched (.divi d n true x a b p) = true → Completes (.divi d n true x a b p) s fun t =>
    s.Ran t d n next (vCells d n x ++ vCells d n (x + 1)) ∧
    (t.vReg d n x k, t.vReg d n (x + 1) k) = if on then laneDivi (s.vReg d n a k) else (s.vReg d n x k, s.vReg d n (x + 1) k)) ∧
  (x % 2 = 0 → s.fetched (.divs d n true x b p) = true → Completes (.divs d n true x b p) s fun t =>
    s.Ran t d n next (vCells d n x ++ vCells d n (x + 1)) ∧
    (t.vReg d n x k, t.vReg d n (x + 1) k) =
      if on then laneDivs (s.vReg d n x k) (s.vReg d n (x + 1) k) (s.vReg d n b k) else (s.vReg d n x k, s.vReg d n (x + 1) k))) ∧
  ∀ (acc x y : Nat) (z neg : Bool), x < 2 ^ 32 → y < 2 ^ 32 →
    let nan := fun b => bitsAt b 23 8 = 255 ∧ bitsAt b 0 23 ≠ 0
    (bitsAt x 23 8 ≠ 255 → bitsAt y 23 8 ≠ 255 →
      (accLegal acc = true → bitsAt acc 48 10 ≠ 1023 →
        Accumulates ((if z then 0 else accRat acc) + (if neg then -1 else 1) * fpRat x * fpRat y) (laneMac z neg acc x y)) ∧
      ∀ (c : Nat) (h : Prop), (c, h) ∈ [(0, fpRat x = fpRat y), (1, fpRat x ≠ fpRat y), (2, fpRat x < fpRat y),
        (3, fpRat x ≤ fpRat y), (4, fpRat x > fpRat y), (5, fpRat x ≥ fpRat y), (6, False)] → (laneCmp c x y = true ↔ h)) ∧
    (nan x ∨ nan y → (laneMac z neg acc x y).v = true ∧ bitsAt (laneMac z neg acc x y).bits 48 10 = 1023 ∧
      bitsAt (laneMac z neg acc x y).bits 0 48 ≠ 0 ∧ ∀ c, c < 7 → (laneCmp c x y = true ↔ c = 1 ∨ c = 6))

/-- R119: the state of thirteen division steps, for every pair of operands. -/
def Obligations.DivisionStepsGiveTheQuotient : Prop := ∀ a b : Nat,
  let sig := fun x => if bitsAt x 23 8 = 0 ∨ bitsAt x 23 8 = 255 then 2 ^ 23 else 2 ^ 23 + bitsAt x 0 23
  let step := fun q : Nat × Nat => laneDivs q.1 q.2 b
  let q := Nat.repeat step 13 (laneDivi a)
  bitsAt q.1 28 4 = 13 ∧ bitsAt q.1 25 3 = 0 ∧ q.1 < 2 ^ 32 ∧ q.2 = sig a * 2 ^ 25 / sig b ∧ q.2 < 2 ^ 26 ∧ step q = q

/-- R118: the bound on the seed, for every normal operand whose exponent e is below 126. -/
def Obligations.ReciprocalSeedBound : Prop := ∀ x : Nat, x < 2 ^ 32 → 0 < bitsAt x 23 8 → bitsAt x 23 8 < 253 →
  let r := laneRcps x
  let p := (2 ^ 23 + bitsAt x 0 23) * (2 ^ 23 + bitsAt r.bits 0 23)
  r.v = false ∧ r.o = false ∧ r.u = false ∧ bitAt r.bits 31 = bitAt x 31 ∧ bitsAt x 23 8 + bitsAt r.bits 23 8 = 253 ∧
    2 ^ 47 < p + 2 ^ 37 ∧ p < 2 ^ 47 + 2 ^ 37

/-- R123 to R125. The SALU results are stated over 32-bit vectors. -/
def Obligations.ScalarMoves : Prop := ∀ (s : State) (d n x a b imm k : Nat), d < 6 → n < 32 → x < 16 → a < 16 → b < 16 →
  imm < 2 ^ 16 → k < 8 → s.Ready d n →
  let A := BitVec.ofNat 32 (s.sReg d n a)
  let B := BitVec.ofNat 32 (s.sReg d n b)
  let next := s.get .NEWT_NEXT d n + 1
  (∀ (i : Instr) (v : BitVec 32), (i, v) ∈ [
      (.saluAdd d n true x a b, A + B), (.saluSub d n true x a b, A - B), (.saluAnd d n true x a b, A &&& B),
      (.saluOr d n true x a b, A ||| B), (.saluXor d n true x a b, A ^^^ B),
      (.saluShl d n true x a b, A <<< (B.toNat % 32)), (.saluShr d n true x a b, A >>> (B.toNat % 32)),
      (.saluSra d n true x a b, A.sshiftRight (B.toNat % 32)), (.saluMul d n true x a b, A * B),
      (.saluMin d n true x a b, if A.slt B then A else B), (.saluMax d n true x a b, if A.slt B then B else A),
      (.saluSlt d n true x a b, if A.slt B then 1 else 0), (.saluSltu d n true x a b, if A.ult B then 1 else 0),
      (.saddi d n true x a imm, A + (BitVec.ofNat 16 imm).signExtend 32), (.ldil d n true x imm, BitVec.ofNat 32 imm),
      (.ldih d n true x imm, BitVec.ofNat 32 (s.sReg d n x % 2 ^ 16 + imm * 2 ^ 16)),
      (.vext d n true a x k, BitVec.ofNat 32 (s.vReg d n a k)), (.movr d n true 0 x 0 a, A),
      (.movr d n true 0 x 2 (a % 8), BitVec.ofNat 32 (s.get .DBG_B d (n * 12 + a % 8))),
      (.movr d n true 0 x 3 (a % 8), BitVec.ofNat 32 (s.get .DBG_L d (n * 12 + a % 8))),
      (.movr d n true 0 x 4 (a % 4), BitVec.ofNat 32 (s.mReg d n (a % 4))),
      (.movr d n true 0 x 1 (a % 8), BitVec.ofNat 32 (s.get .DBG_A d (n * 12 + a % 8))),
      (.movr d n true 0 x 5 (a % 4), BitVec.ofNat 32 (s.pReg d n (a % 4))),
      (.movr d n true 0 x 6 0, BitVec.ofNat 32 (s.fpFlags d n))] →
    s.fetched i = true → Completes i s fun t => s.Ran t d n next [⟨.DBG_S, d, n * 16 + x⟩] ∧ t.sReg d n x = v.toNat) ∧
  (s.fetched (.nop d n true) = true → Completes (.nop d n true) s fun t => s.Ran t d n next []) ∧
  (s.fetched (.vins d n true x a k) = true → Completes (.vins d n true x a k) s fun t =>
    s.Ran t d n next [⟨.DBG_V, d, n * 256 + x * 8 + k⟩] ∧ t.vReg d n x k = s.sReg d n a) ∧
  (∀ sf si v : Nat, (sf, si, v) ∈ [(0, a, A.toNat), (1, a % 8, s.get .DBG_A d (n * 12 + a % 8)),
      (2, a % 8, s.get .DBG_B d (n * 12 + a % 8)), (3, a % 8, s.get .DBG_L d (n * 12 + a % 8)), (4, a % 4, s.mReg d n (a % 4)),
      (5, a % 4, s.pReg d n (a % 4)), (6, 0, s.fpFlags d n)] →
    (∀ (df : Nat) (l : Loc) (w : Nat), (df, l, w) ∈ [
        (1, ⟨.DBG_A, d, n * 12 + x % 8⟩, v), (2, ⟨.DBG_B, d, n * 12 + x % 8⟩, v), (3, ⟨.DBG_L, d, n * 12 + x % 8⟩, v),
        (4, ⟨.DBG_M, d, n * 4 + x % 4⟩, v), (5, ⟨.DBG_P, d, n * 4 + x % 4⟩, if x % 4 = 0 then s.get .DBG_P d (n * 4) else v % 256)] →
      let i := Instr.movr d n true df (if df < 4 then x % 8 else x % 4) sf si
      s.fetched i = true → Completes i s fun t => s.Ran t d n next [l] ∧ t.get l.fld l.die l.inst = w) ∧
    (s.fetched (.movr d n true 6 0 sf si) = true → Completes (.movr d n true 6 0 sf si) s fun t => s.Ran t d n next (flagCells d n) ∧
      (bitAt (t.get .NEWT_FPFLAGS_V d n) k = 1 ↔ bitAt (s.get .NEWT_FPFLAGS_V d n) k = 1 ∧ bitAt v k = 0) ∧
      (bitAt (t.get .NEWT_FPFLAGS_O d n) k = 1 ↔ bitAt (s.get .NEWT_FPFLAGS_O d n) k = 1 ∧ bitAt v (8 + k) = 0) ∧
      (bitAt (t.get .NEWT_FPFLAGS_U d n) k = 1 ↔ bitAt (s.get .NEWT_FPFLAGS_U d n) k = 1 ∧ bitAt v (16 + k) = 0)))

/-- R123 and R126 to R130, R91, R93, R95. -/
def Obligations.ControlFlow : Prop := ∀ (s : State) (d n a b tgt : Nat), d < 6 → n < 32 → a < 16 → b < 16 → tgt < 8192 → s.Ready d n →
  let pc := s.get .NEWT_NEXT d n
  let v := (BitVec.ofNat 32 (s.sReg d n a)).toInt
  let repeatCells : List Loc := [⟨.NEWT_REPT, d, n⟩, ⟨.NEWT_STATUS_INREPT, d, n⟩]
  let m := s.loopDepth d n
  let inside := fun i => s.levelStart d n i ≤ tgt ∧ tgt ≤ s.levelEnd d n i
  let left := fun (k : Nat) (t : State) => t.loopDepth d n = k ∧ s.Ran t d n tgt (levelCells d n k m)
  let outermost := fun k => k ≤ m ∧ m ≤ 4 ∧ (k = 0 ∨ inside (k - 1)) ∧ ∀ i, k ≤ i → i < m → ¬ inside i
  (∀ k, outermost k → s.fetched (.br d n true tgt) = true → Completes (.br d n true tgt) s (left k)) ∧
  (∀ (cond : Nat) (holds : Prop), (cond, holds) ∈ [(0, v = 0), (1, v ≠ 0), (2, v < 0), (3, 0 ≤ v), (4, 0 < v), (5, v ≤ 0),
      (6, a < 4 ∧ s.pReg d n a ≠ 0), (7, a < 4 ∧ s.pReg d n a = 255)] → (6 ≤ cond → a < 4) → s.fetched (.brc d n true cond a tgt) = true →
    (∀ k, outermost k → holds → Completes (.brc d n true cond a tgt) s (left k)) ∧
    (¬ holds → Completes (.brc d n true cond a tgt) s fun t => s.Ran t d n (pc + 1) [])) ∧
  (s.fetched (.call d n true tgt) = true → Completes (.call d n true tgt) s fun t => s.Ran t d n tgt [⟨.DBG_S, d, n * 16 + 12⟩] ∧
    t.sReg d n 12 = (pc + 1) * 4) ∧
  (s.fetched (.ret d n true) = true → Completes (.ret d n true) s fun t => s.Ran t d n (s.sReg d n 12 / 4 % 8192) []) ∧
  (∀ byReg x, s.countOf d n byReg x ≠ 0 → (byReg = true → x < 16) → s.get .NEWT_CFG_LOOPSEL d n = 0 → s.loopDepth d n < 4 → pc < tgt →
    s.countOf d n byReg x < 2 ^ 32 → s.fetched (.loopTop d n true byReg x tgt) = true →
    Completes (.loopTop d n true byReg x tgt) s fun t => s.Ran t d n (pc + 1) (levelCells d n m (m + 1)) ∧ t.loopDepth d n = m + 1 ∧
      t.levelStart d n (s.loopDepth d n) = pc + 1 ∧ t.levelEnd d n (s.loopDepth d n) = tgt ∧
      t.levelCount d n (s.loopDepth d n) = s.countOf d n byReg x) ∧
  (s.sReg d n a = 0 → s.get .NEWT_CFG_LOOPSEL d n = 0 → s.loopDepth d n < 4 → pc < tgt → tgt + s.bundleLen d n tgt < 8192 →
    s.fetched (.loopTop d n true true a tgt) = true → Completes (.loopTop d n true true a tgt) s fun t =>
      s.Ran t d n (tgt + s.bundleLen d n tgt) []) ∧
  (∀ k, s.get .NEWT_CFG_LOOPSEL d n = 0 → s.loopDepth d n = k + 1 → k < 4 → s.levelEnd d n k = pc → s.fetched (.endl d n true) = true →
    (1 < s.levelCount d n k → s.levelStart d n k < 8192 → Completes (.endl d n true) s fun t =>
      s.Ran t d n (s.levelStart d n k) [⟨.DBG_L, d, levelIx n k⟩] ∧ t.levelCount d n k = s.levelCount d n k - 1) ∧
    (s.levelCount d n k ≤ 1 → Completes (.endl d n true) s fun t => s.Ran t d n (pc + 1) (levelCells d n k m) ∧ t.loopDepth d n = k)) ∧
  (∀ cnt, cnt < 65536 → s.repeatsLegal d n (pc + 1) = true → s.fetched (.rept d n true false 0 cnt) = true →
    Completes (.rept d n true false 0 cnt) s fun t => s.Ran t d n (pc + 1) repeatCells ∧ t.get .NEWT_REPT d n = cnt + 1 ∧
      t.get .NEWT_STATUS_INREPT d n = 1) ∧
  (s.sReg d n a ≠ 0 → s.sReg d n a ≤ 65536 → s.repeatsLegal d n (pc + 1) = true → s.fetched (.rept d n true true a 0) = true →
    Completes (.rept d n true true a 0) s fun t => s.Ran t d n (pc + 1) repeatCells ∧ t.get .NEWT_REPT d n = s.sReg d n a ∧
      t.get .NEWT_STATUS_INREPT d n = 1) ∧
  (s.sReg d n a = 0 → pc + 1 + s.bundleLen d n (pc + 1) < 8192 → s.repeatsLegal d n (pc + 1) = true →
    s.fetched (.rept d n true true a 0) = true → Completes (.rept d n true true a 0) s fun t =>
      s.Ran t d n (pc + 1 + s.bundleLen d n (pc + 1)) []) ∧
  (s.sReg d n b % 2 ^ 31 = 0 → s.fetched (.sig d n true a b) = true → Completes (.sig d n true a b) s fun t => s.Ran t d n (pc + 1) []) ∧
  (∀ die c k, die < 6 → c < 4 → k < 256 → s.sReg d n a = 15 * 2 ^ 14 + die * 2 ^ 10 + c * 2 ^ 8 + k → s.sReg d n b % 2 ^ 31 ≠ 0 →
    s.routeUp d die = true → s.dieClocked die = true → s.permits die (s.masterClass d (n / 8)) 5 true = true →
    s.fetched (.sig d n true a b) = true → Completes (.sig d n true a b) s fun t => s.Issued t d n (pc + 1) ∧
      t.sent = s.sent ++ [.post d (n / 8) die c k (s.sReg d n b % 2 ^ 31) (s.get .NEWT_TASK_DOMAIN d n) 0] ∧
      s.Within { t with boards := s.boards, sent := s.sent }
        (s.fabCells (s.postReq d (n / 8) 15 die c k (s.sReg d n b)) ++ issueCells d n)) ∧
  (s.fetched (.done d n true) = true → Completes (.done d n true) s fun t => t.newtIs d n newtDraining = true ∧ s.Ran t d n (pc + 1)
    [⟨.NEWT_STATUS_STATE, d, n⟩, ⟨.NEWT_STATUS_CFGLOCK, d, n⟩, ⟨.NEWT_DONET, d, n⟩, ⟨.NEWT_STEP, d, n⟩]) ∧
  (s.fetched (.halt d n true) = true →
    (s.dbgEn d n = true → Completes (.halt d n true) s fun t => t.newtIs d n newtHalted = true ∧ t.get .NEWT_PC d n = pc + 1 ∧
      s.Within { t with boards := s.boards } ([⟨.NEWT_STATUS_STATE, d, n⟩, ⟨.NEWT_STATUS_CFGLOCK, d, n⟩, ⟨.NEWT_STATUS_HALT_PEND, d, n⟩,
        ⟨.NEWT_STEP, d, n⟩, ⟨.NEWT_HALTT, d, n⟩] ++ issueCells d n)) ∧
    (s.dbgEn d n = false → Completes (.halt d n true) s fun t => s.Issued t d n (pc + 1) ∧ t.newtIs d n newtRun = true ∧
      t.get .NEWT_STATUS_HALT_IGN d n = 1 ∧ t.Raised .NEWT_HALT_IGN d n ∧ s.SameMem t))

/-- R121 and R122 in DMEM and clutch SRAM: what is loaded, what is stored and where, and the post-update. The lanes' addresses and the
update are the expressions of R84 and R83. -/
def Obligations.LoadsAndStores : Prop := ∀ (s : State) (d n r ar p sm smi um u x y : Nat) (sram : Bool) (io : AccessMeets), d < 6 →
  n < 32 → r < 32 → ar < 8 → p < 4 → (um = 0 ∧ u = 0 ∨ um = 1 ∧ u < 4 ∨ um = 2 ∧ u < 128) → (sm = 1 ∧ smi < 4 ∨ sm < 3 ∧ smi = 0) →
  s.Ready d n → s.errs = [] → s.get .FLT_INJ_COUNT d (64 + n) = 0 → io.met = [] → io.cut = 0 →
  let a := s.get .DBG_A d (n * 12 + ar)
  let b := s.get .DBG_B d (n * 12 + ar)
  let l := s.get .DBG_L d (n * 12 + ar)
  let moved := fun (m : ℤ) => ((if l = 0 then (a : ℤ) + m else b + (a - b + m) % l) % 2 ^ 32).toNat
  let word := fun v => (BitVec.ofNat 32 v).toInt
  let stride : ℤ := if sm = 0 then 4 else if sm = 1 then word (s.mReg d n smi) else 0
  let lane := fun k : Nat => moved (k * stride)
  let a' := if um = 0 then a else moved (if um = 1 then word (s.mReg d n u) else (BitVec.ofNat 7 u).toInt * 4)
  let loc := fun q => if sram then n / 8 * 0x800000 + (q - 0x01000000) else 0x10000000 + n * 0x40000 + q
  let good := fun q => q % 4 = 0 ∧ if sram then 0x01000000 ≤ q ∧ q < 0x01800000 ∧ s.Sound d (loc q) ∧
    s.wordLocked d (loc q / 16 * 16) = false else q < 0x20000
  let on := fun k => k < 8 ∧ bitAt (s.pReg d n p) k = 1
  let next := s.get .NEWT_NEXT d n + 1
  let own : List Loc := [⟨.DBG_A, d, n * 12 + ar⟩, ⟨.NEWT_STALL_MEM, d, n⟩, ⟨.NEWT_STALL_FAB, d, n⟩]
  let waited := fun (lanes : Nat) (t : State) => t.get .DBG_A d (n * 12 + ar) = a' ∧
    t.get .NEWT_STALL_FAB d n = (s.get .NEWT_STALL_FAB d n + if sram || lanes == 0 then 0 else io.fab) % 2 ^ 32
  let stored := fun (lanes : Nat) (t : State) => s.Issued t d n next ∧ waited lanes t ∧
    (sram = false → s.Within { t with boards := s.boards, mem := s.mem } (own ++ issueCells d n))
  (um ≠ 0 → s.fetched (.adda d n true ar um u) = true → Completes (.adda d n true ar um u) s fun t =>
    t.get .DBG_A d (n * 12 + ar) = a' ∧ s.Ran t d n next [⟨.DBG_A, d, n * 12 + ar⟩]) ∧
  (good a → r < 16 → s.fetched (.lds d n true r ar um u io) = true →
    Completes (.lds d n true r ar um u io) s fun t => t.sReg d n r = s.load d (loc a) 4 ∧ waited 1 t ∧
      s.Ran t d n next (⟨.DBG_S, d, n * 16 + r⟩ :: own)) ∧
  ((∀ k, on k → good (lane k)) → s.fetched (.vld d n true r ar p sm smi um u io) = true →
    Completes (.vld d n true r ar p sm smi um u io) s fun t =>
      waited (s.pReg d n p) t ∧ s.Ran t d n next (vCells d n r ++ own) ∧
      ∀ k, k < 8 → t.vReg d n r k = if bitAt (s.pReg d n p) k = 1 then s.load d (loc (lane k)) 4 else s.vReg d n r k) ∧
  (good a → r < 16 → s.fetched (.sts d n true r ar um u io) = true →
    Completes (.sts d n true r ar um u io) s fun t => stored 1 t ∧ t.load d (loc a) 4 = s.sReg d n r ∧
      (y < 2 ^ 32 → ¬ (x = d ∧ loc a ≤ y ∧ y < loc a + 4) → x < 16 → t.byte x y = s.byte x y)) ∧
  ((∀ k, on k → good (lane k)) → sm ≠ 2 → s.fetched (.vst d n true r ar p sm smi um u io) = true →
    Completes (.vst d n true r ar p sm smi um u io) s fun t => stored (s.pReg d n p) t ∧
      (∀ k, on k → (∀ j, on j → k < j → lane j ≠ lane k) → t.load d (loc (lane k)) 4 = s.vReg d n r k) ∧
      (y < 2 ^ 32 → x < 16 → (∀ k, on k → ¬ (x = d ∧ loc (lane k) ≤ y ∧ y < loc (lane k) + 4)) → t.byte x y = s.byte x y))

/-- R66, R67, R194 and R195 for scalar accesses without post-update. -/
def Obligations.NewtReachesSramAndBadAddresses : Prop := ∀ (s : State) (d n r ar o lost : Nat) (io : AccessMeets), d < 6 → n < 32 →
  r < 16 → ar < 8 → io.lost = lost → s.Ready d n → o % 4 = 0 → o < 0x800000 → s.Sound d (n / 8 * 0x800000 + o) → s.get .FLT_INJ_COUNT d (64 + n) = 0 →
  let a := s.get .DBG_A d (n * 12 + ar)
  let g := n / 8 * 0x800000 + o
  let next := s.get .NEWT_NEXT d n + 1
  let ld := Instr.lds d n true r ar 0 0 io
  let st := Instr.sts d n true r ar 0 0 io
  let free := io.met = [] ∧ s.wordLocked d (g / 16 * 16) = false
  let away (t : State) := ∀ e y, y < 2 ^ 32 → ¬ (e = d ∧ g ≤ y ∧ y < g + 4) → t.byte e y = s.byte e y
  (s.fetched ld = true →
    (a = 0x01000000 + o → io.met = [] → s.lockedFor d (g / 16 * 16) 0 = true → Completes ld s fun t => t.sReg d n r = s.load d g 4 ∧
      s.SameMem t ∧ s.Collision t d (g / 16 * 16) 3 n (s.lockMaster d (g / 16 * 16)) ∧
      t.get .NEWT_STALL_MEM d n = (s.get .NEWT_STALL_MEM d n + lost + 1) % 2 ^ 32) ∧
    (∀ b, a = 0x01000000 + o → io.met = [⟨g / 16 * 16, b⟩] → b.kind = .write → s.wordLocked d (g / 16 * 16) = false →
      Completes ld s fun t => s.Collision t d (g / 16 * 16) 0 n b.master) ∧
    (a = 0x01000000 + o → free → Completes ld s fun t => t.sReg d n r = s.load d g 4 ∧ s.SameMem t ∧
      t.get .NEWT_STALL_MEM d n = (s.get .NEWT_STALL_MEM d n + lost) % 2 ^ 32 ∧
      s.Ran t d n next [⟨.DBG_S, d, n * 16 + r⟩, ⟨.NEWT_STALL_MEM, d, n⟩]) ∧
    (0x20000 ≤ a → a < 0x01000000 → a % 4 = 0 → Completes ld s fun t => t.sReg d n r = 0 ∧ t.get .NEWT_BADADDR d n = a ∧
      t.Raised .NEWT_ADDR d n ∧ t.newtIs d n newtRun = true ∧ s.SameMem t) ∧
    (a < 0x20000 → a % 4 ≠ 0 → Completes ld s fun t => t.sReg d n r = s.load d (0x10000000 + n * 0x40000 + a / 4 * 4) 4 ∧
      t.get .NEWT_STATUS_MISALIGN d n = 1 ∧ t.get .NEWT_BADADDR d n = a ∧ t.Raised .NEWT_MISALIGN d n ∧ s.SameMem t)) ∧
  (s.fetched st = true →
    (a = 0x01000000 + o → free → Completes st s fun t => t.load d g 4 = s.sReg d n r ∧ away t) ∧
    (a = 0x0D000000 + o → free → Completes st s fun t => t.load d g 4 = s.load d g 4 ^^^ (s.load d g 4 &&& s.sReg d n r) ∧
      away t ∧ t.get .NEWT_STALL_MEM d n = (s.get .NEWT_STALL_MEM d n + lost + 1) % 2 ^ 32) ∧
    (a = 0x09000000 + o → free → Completes st s fun t => t.load d g 4 = s.load d g 4 ||| s.sReg d n r ∧
      away t ∧ t.get .NEWT_STALL_MEM d n = (s.get .NEWT_STALL_MEM d n + lost + 1) % 2 ^ 32) ∧
    (0x20000 ≤ a → a < 0x01000000 → a % 4 = 0 → Completes st s fun t => t.get .NEWT_BADADDR d n = a ∧ t.Raised .NEWT_ADDR d n ∧ s.SameMem t))

/-- R134, R137, R139, R141, R142. -/
def Obligations.PostsAndReadiness : Prop := ∀ (s : State) (src p d c k flags D also : Nat), d < 6 → c < 4 → k < 256 →
  D < 4 → s.canonical = true →
  let x := slotIx c k
  let m := s.get .SLOT_MASK d x
  let f := s.get .SLOT_FLAGS d x ||| flags % 2 ^ 31
  let i := Instr.postArrival src p d c k flags D
  let msg := Msg.post src p d c k flags D also
  let acc : List Loc := [⟨.POST_ACC, src, 0⟩, ⟨.POST_ACC, src, 1⟩, ⟨.POST_ACC, src, 2⟩]
  let st := s.get .SLOT_STATE_STATE d x
  let imm := D ≠ 3 ∧ D = s.get .SLOT_CTRL_DOMAIN d x
  let ready := m ≠ 0 ∧ if s.get .SLOT_CTRL_MODE d x = 1 then f &&& m ≠ 0 else f &&& m = m
  ((∀ a, s.nextOn (.post src p d c k flags D a) = false) → exec i s = .next s) ∧
  (s.nextOn msg = true →
    (st = slotDisabled → Completes i s fun t => t.sent = s.sent.erase msg ∧ t.Raised .TONGUE_POST_DIS d c ∧
      t.get .TONGUE_STATUS_POSTDIS_CNT d c = min (s.get .TONGUE_STATUS_POSTDIS_CNT d c + 1) 0xFFFF ∧
      s.Within { t with sent := s.sent } (⟨.TONGUE_STATUS_POSTDIS_CNT, d, c⟩ :: acc ++ raiseCells d (FaultName.TONGUE_POST_DIS.set c))) ∧
    (st ≠ slotDisabled → ¬ imm → Completes i s fun t => t.sent = s.sent.erase msg ∧
      t.get .SLOT_PEND d x = s.get .SLOT_PEND d x ||| flags % 2 ^ 31 ∧
      s.Within { t with sent := s.sent } (⟨.SLOT_PEND, d, x⟩ :: acc)) ∧
    (st = slotQueued ∨ st = slotService → imm → s.idleIn d c D = false →
      (∀ q ∈ s.claims, ¬ (q.entry.die = d ∧ q.entry.clutch = c ∧ q.entry.slot = k)) → Completes i s fun t => t.get .SLOT_FLAGS d x = f ∧
      t.sent = s.sent.erase msg ++ (if s.get .DRAIN_SENT d D = 1 then [.drainReport d D (s.get .EP_SEEN d D - 1) true src] else []) ∧
      s.Within { t with sent := s.sent } (⟨.SLOT_FLAGS, d, x⟩ :: ⟨.DRAIN_SENT, d, D⟩ :: acc)) ∧
    (st = slotWait → imm → ready → Completes i s fun t => t.get .SLOT_FLAGS d x = f ∧ t.get .SLOT_STATE_STATE d x = slotQueued ∧
      t.queue = s.queue ++ [⟨d, c, k, s.get .TONGUE_TICKET d c, s.cycles d + 1, false⟩] ∧ s.SameMem t) ∧
    (st = slotWait → imm → ¬ ready → Completes i s fun t => t.get .SLOT_FLAGS d x = f ∧ t.get .SLOT_STATE_STATE d x = slotWait ∧
      t.queue = s.queue ∧ s.SameMem t))

/-- R138, R145 to R148, R89, R90; the choice (R145) by what it satisfies. -/
def Obligations.DispatchStartsTheChosenTask : Prop := ∀ (s : State) (d c : Nat) (rivals : List Nat), d < 6 → c < 4 → s.canonical = true →
  (s.idleNewts d c = [] → exec (.dispatchDecision d c rivals) s = .next s) ∧
  (∀ q e, s.dieClocked d = true → s.idleNewts d c ≠ [] → s.choose d c 32 = some (q, e) → e.die = d → e.clutch = c → e.slot < 256 →
    let x := slotIx c e.slot
    let i := s.chosenNewt e
    let n := c * 8 + i
    let taken := s.get .SLOT_FLAGS d x &&& s.get .SLOT_MASK d x
    let D := s.get .SLOT_CTRL_DOMAIN d x
    let f := s.get .SLOT_CTRL_FLOW d x
    (f = 0 → i < 8 → s.get .NEWT_STATUS_HALT_PEND d n = 0 → Completes (.dispatchDecision d c rivals) s fun t =>
      t.get .SLOT_STATE_STATE d x = slotService ∧ t.get .SLOT_STATE_LASTNEWT d x = i ∧ t.get .SLOT_STATE_AFFV d x = 1 ∧
      t.get .SLOT_FLAGS d x = s.get .SLOT_FLAGS d x - taken ∧ t.newtIs d n newtRun = true ∧ t.get .NEWT_NEXT d n = s.get .SLOT_ENTRY d x ∧
      t.get .DBG_A d (n * 12) = s.get .SLOT_ARG d x ∧ t.sReg d n 13 = s.get .TB_DOMCNT d D % 2 ^ 32 ∧ t.sReg d n 14 = taken ∧
      t.sReg d n 15 = taskWord e.slot D (s.get .TB_GEN d D % 2) n 0 (s.get .SLOT_CTRL_PRIO d x) ∧
      (∀ r k, r < 32 → k < 8 → t.vReg d n r k = 0) ∧ t.get .NEWT_TASK_SLOT d n = e.slot ∧ s.SameMem t) ∧
    (f ≠ 0 → f % 6 = d → i < 8 → s.get .NEWT_STATUS_HALT_PEND d n = 0 → s.winsClaim f (d * 4 + c) rivals = true →
      Completes (.dispatchDecision d c rivals) s fun t => t.get .SLOT_STATE_STATE d x = slotService ∧ t.newtIs d n newtRun = true ∧
        t.get .FLOW_BUSY d f = 1 ∧ t.get .NEWT_NEXT d n = s.get .SLOT_ENTRY d x ∧ s.SameMem t) ∧
    (f ≠ 0 → f % 6 = d → s.winsClaim f (d * 4 + c) rivals = false →
      Completes (.dispatchDecision d c rivals) s fun t => t.get .SLOT_STATE_STATE d x = s.get .SLOT_STATE_STATE d x ∧
        t.queue.length = s.queue.length ∧ s.SameMem t) ∧
    (f ≠ 0 → f % 6 ≠ d → Completes (.dispatchDecision d c rivals) s fun t =>
      (∀ g ∈ t.queue, ¬ (g.die = d ∧ g.clutch = c ∧ g.slot = e.slot)) ∧ t.get .SLOT_STATE_STATE d x = s.get .SLOT_STATE_STATE d x ∧
      t.claims = s.claims ++ [⟨e, f, i, taken, 0, s.capture d, s.waited e, s.reasonOf e i, (s.passedOver d c q (some e)).length, false⟩] ∧
      Msg.flowClaim d c e.slot f ∈ t.sent ∧ s.SameMem t)) ∧
  (let last := fun e : QEntry => s.get .SLOT_STATE_LASTNEWT d (slotIx c e.slot)
   let idle := fun i => i < 8 ∧ s.get .NEWT_STATUS_STATE d (c * 8 + i) = newtIdle ∧
     ∀ q ∈ s.claims, ¬ (q.entry.die = d ∧ q.entry.clutch = c ∧ q.newt = i ∧ q.abandoned = false)
   let home := fun e => s.get .SLOT_STATE_AFFV d (slotIx c e.slot) = 1 ∧ idle (last e)
   let eligible := fun (e : QEntry) i => s.get .SLOT_STATE_AFFV d (slotIx c e.slot) = 0 ∨ last e = i ∨
     s.get .TONGUE_CFG_AFFWIN d c < s.cycles d - e.enq ∨ s.get .NEWT_STATUS_STATE d (c * 8 + last e) ∈ [newtParked, newtHalted, newtFaulted]
   let free := fun e : QEntry => let f := s.get .SLOT_CTRL_FLOW d (slotIx c e.slot); f = 0 ∨ bitAt (s.get .TONGUE_FLOWMAP d (f / 32)) (f % 32) = 0
   let first4 := fun q => (s.queue.filter fun e => e.die = d ∧ e.clutch = c ∧ s.get .SLOT_CTRL_PRIO d (slotIx c e.slot) = q).take 4
   let fit := fun e => free e ∧ ∃ i, idle i ∧ eligible e i
   let turn := fun i => (i + 7 - s.get .TONGUE_RR d c) % 8
   (s.choose d c 32 = none ↔ ∀ q, q < 32 → ∀ e ∈ first4 q, ¬ fit e) ∧
   ∀ q e, s.choose d c 32 = some (q, e) → q < 32 ∧ fit e ∧ (∀ r, q < r → r < 32 → ∀ x ∈ first4 r, ¬ fit x) ∧
     (∃ l₁ l₂, first4 q = l₁ ++ e :: l₂ ∧ ((home e ∧ ∀ x ∈ l₁, fit x → ¬ home x) ∨
       ((∀ x ∈ first4 q, fit x → ¬ home x) ∧ ∀ x ∈ l₁, ¬ fit x))) ∧
     (home e → s.chosenNewt e = last e) ∧
     (¬ home e → idle (s.chosenNewt e) ∧ ∀ i, idle i → turn (s.chosenNewt e) ≤ turn i)) ∧
  (∀ k f, 0 < f → f < 1024 →
    let m := Msg.flowClaim d c k f
    let wins := (s.arrived m).winsClaim f (d * 4 + c) rivals
    (s.nextOn m = false → exec (.flowClaim d c k f rivals) s = .next s) ∧
    (s.get .FLOW_BUSY (f % 6) f = 1 → wins = false) ∧ (s.get .FLOW_BUSY (f % 6) f = 0 → rivals = [] → wins = true) ∧
    (s.nextOn m = true → wins = false → Completes (.flowClaim d c k f rivals) s fun t =>
      t.sent = s.sent.erase m ++ [.claimResponse d c k f false] ∧ s.Within { t with sent := s.sent } []) ∧
    (s.nextOn m = true → wins = true → Completes (.flowClaim d c k f rivals) s fun t =>
      t.get .FLOW_BUSY (f % 6) f = 1 ∧ Msg.claimResponse d c k f true ∈ t.sent ∧ (∀ g, g < 6 → Msg.flowUpdate g f true ∈ t.sent) ∧
        s.Within { t with sent := s.sent } [⟨.FLOW_BUSY, f % 6, f⟩, ⟨.FLOW_RR, f % 6, 0⟩])) ∧
  (∀ k q, s.claimOf d c k q.flow = some q → q.abandoned = false → k < 256 → q.newt < 8 →
    s.get .NEWT_STATUS_HALT_PEND d (c * 8 + q.newt) = 0 → q.entry.die = d → q.entry.clutch = c → q.entry.slot = k →
    (s.nextOn (.claimResponse d c k q.flow true) = true → Completes (.claimResponse d c k q.flow true) s fun t =>
      t.claims = s.claims.erase q ∧ t.get .SLOT_STATE_STATE d (slotIx c k) = slotService ∧
      t.newtIs d (c * 8 + q.newt) newtRun = true ∧ t.sReg d (c * 8 + q.newt) 14 = q.flags % 2 ^ 32 ∧ s.SameMem t) ∧
    (s.nextOn (.claimResponse d c k q.flow false) = true → Completes (.claimResponse d c k q.flow false) s fun t =>
      t.claims = s.claims.erase q ∧ q.entry ∈ t.queue ∧
      t.get .SLOT_STATE_STATE d (slotIx c k) = s.get .SLOT_STATE_STATE d (slotIx c k) ∧ s.SameMem t)) ∧
  (∀ f, 0 < f → f < 1024 → s.nextOn (.flowRelease f d c) = true → Completes (.flowRelease f d c) s fun t => t.get .FLOW_BUSY (f % 6) f = 0 ∧
    (∀ g, g < 6 → Msg.flowUpdate g f false ∈ t.sent) ∧ s.Within { t with sent := s.sent } [⟨.FLOW_BUSY, f % 6, f⟩]) ∧
  (∀ f b g, 0 < f → f < 1024 → g < 1024 → s.nextOn (.flowUpdate d f b) = true → Completes (.flowReplicaUpdate d f b) s fun t =>
    t.flowSeen d g = (if g = f then b else s.flowSeen d g) ∧
    t.sent = s.sent.erase (.flowUpdate d f b) ∧ s.Within { t with sent := s.sent } [⟨.TONGUE_FLOWMAP, d, f / 32⟩])

/-- R134, R135, R151, R152, R154 to R156. -/
def Obligations.SlotsAndTheCroakLog : Prop := ∀ (s : State) (d c k : Nat), d < 6 → c < 4 → k < 256 → s.canonical = true →
  s.dieClocked d = true →
  let x := slotIx c k
  let st := s.get .SLOT_STATE_STATE d x
  let en := s.get .SLOT_CTRL_EN d x
  (∀ mode prio dom flow, mode < 2 → prio < 32 → dom < 4 → flow < 1024 →
    ((dom = 3 ∨ en = 1) → exec (.slotEnable d c k mode prio dom flow) s = .next s) ∧
    (dom ≠ 3 → en = 0 → st = slotDisabled → Completes (.slotEnable d c k mode prio dom flow) s fun t =>
      t.get .SLOT_STATE_STATE d x = slotWait ∧ t.get .SLOT_CTRL_EN d x = 1 ∧ t.get .SLOT_CTRL_MODE d x = mode ∧
      t.get .SLOT_CTRL_PRIO d x = prio ∧ t.get .SLOT_CTRL_DOMAIN d x = dom ∧ t.get .SLOT_CTRL_FLOW d x = flow ∧ t.get .SLOT_FLAGS d x = 0 ∧
      t.get .SLOT_PEND d x = 0 ∧ t.get .SLOT_STATE_AFFV d x = 0 ∧ t.get .SLOT_MASK d x = s.get .SLOT_MASK d x ∧ s.SameMem t) ∧
    (dom ≠ 3 → en = 0 → st = slotService → Does (.slotEnable d c k mode prio dom flow) s [(⟨.SLOT_CTRL_EN, d, x⟩, 1)])) ∧
  (st = slotWait → Completes (.slotDisable d c k) s fun t => t.get .SLOT_STATE_STATE d x = slotDisabled ∧ t.get .SLOT_CTRL_EN d x = 0 ∧
    (∀ f, f ∈ [Fld.SLOT_FLAGS, .SLOT_PEND, .SLOT_STATE_AFFV, .SLOT_STATE_LASTNEWT] → t.get f d x = s.get f d x) ∧ s.SameMem t) ∧
  (∀ e, st = slotQueued → s.queue = [e] → e.die = d → e.clutch = c → e.slot = k → Completes (.slotDisable d c k) s fun t =>
    t.get .SLOT_STATE_STATE d x = slotDisabled ∧ t.queue = [] ∧ t.get .SLOT_FLAGS d x = s.get .SLOT_FLAGS d x) ∧
  (st = slotService → Does (.slotDisable d c k) s [(⟨.SLOT_CTRL_EN, d, x⟩, 0)]) ∧
  (∀ (i : Instr) (f : Fld), (i, f) ∈ [(.slotClrFlags d c k, .SLOT_FLAGS), (.slotClrPend d c k, .SLOT_PEND), (.slotClrAff d c k, .SLOT_STATE_AFFV)] →
    (en = 0 → Does i s [(⟨f, d, x⟩, 0)]) ∧ (en = 1 → exec i s = .next s)) ∧
  Completes (.tongueClrCnt d c) s (fun t => s.SameBut t [.NAFF_HIT, .NAFF_MISS, .Q_WAIT_SUM, .Q_DISP, .DOM_LATE] ∧ s.SameMem t ∧
    (∀ i, i < 8 → t.get .NAFF_HIT d (c * 8 + i) = 0 ∧ t.get .NAFF_MISS d (c * 8 + i) = 0) ∧
    (∀ q, q < 32 → t.get .Q_WAIT_SUM d (c * 32 + q) = 0 ∧ t.get .Q_DISP d (c * 32 + q) = 0) ∧ ∀ D, D < 3 → t.get .DOM_LATE d (c * 3 + D) = 0) ∧
  (∀ D, D < 3 → s.nextOn (.lateMarker d D) = true → Completes (.lateMarkerReceipt d D) s fun t => t.get .DOM_LATE d (c * 3 + D) =
    (if s.idleIn d c D then s.get .DOM_LATE d (c * 3 + D) else (s.get .DOM_LATE d (c * 3 + D) + 1) % 2 ^ 32) ∧
    s.SameBut t [.DOM_LATE, .CROAK_FREEZING] ∧ t.sent = s.sent.erase (.lateMarker d D)) ∧
  (s.get .CROAK_CFG_FROZEN d c = 0 → Does (.croakFreeze d c) s [(⟨.CROAK_FREEZING, d, c⟩, 1)]) ∧
  (s.get .CROAK_FREEZING d c = 1 → s.croakOf d c = [] → Does (.croakFrozen d c) s [(⟨.CROAK_CFG_FROZEN, d, c⟩, 1), (⟨.CROAK_FREEZING, d, c⟩, 0)]) ∧
  Does (.croakResume d c) s [(⟨.CROAK_CFG_FROZEN, d, c⟩, 0)] ∧
  (∀ e, s.croak = [e] → e.die = d → e.clutch = c → e.w0 < 2 ^ 32 → e.w1 < 2 ^ 32 → e.w2 < 2 ^ 32 → e.seq < 2 ^ 32 →
    let a := c * 0x800000 + s.get .CROAK_BASE d c * 0x10000 + e.seq % 4096 * 16
    s.Passes (s.croakReq e) → s.offline d a = false → s.wordLocked d a = false →
    Completes (.croakEntryWrite d c false) s fun t => t.croak = [] ∧ t.load d a 4 = e.w0 ∧ t.load d (a + 4) 4 = e.w1 ∧
      t.load d (a + 8) 4 = e.w2 ∧ t.load d (a + 12) 4 = e.seq ∧
      ∀ g y, y < 2 ^ 32 → ¬ (g = d ∧ a ≤ y ∧ y < a + 16) → t.byte g y = s.byte g y)

/-- R165 to R167. -/
def Obligations.BusSumsAreOrderFreeAndRoundOnce : Prop :=
  (∀ l l' : List Nat, l.Perm l' → l.foldl add96 0 = l'.foldl add96 0) ∧
  (∀ x g : Nat, (term96 x g).1.natAbs < 2 ^ 72 ∧ ((fpOf x = .nan ∨ fpOf g = .nan) → term96 x g = (0, 2)) ∧
    (bitsAt x 23 8 = 0 → bitsAt g 23 8 < 255 → term96 x g = (0, 0))) ∧
  (∀ v, v < 2 ^ 96 →
    let r := fpOut (fpOfInt (signed 96 v) (-64))
    let e := bitsAt r.bits 23 8
    let m : Int := (if bitAt r.bits 31 = 1 then -1 else 1) * (2 ^ 23 + bitsAt r.bits 0 23 : Nat)
    let z := signed 96 v
    round96 v = r.bits ∧ r.v = false ∧ r.o = false ∧ r.u = false ∧ (v = 0 → r.bits = 0) ∧
    (v ≠ 0 → 63 ≤ e ∧ e ≤ 158 ∧
      -- the value m × 2^(e−150) against z × 2^(−64)
      (86 ≤ e → 2 * (m * 2 ^ (e - 86) - z) ≤ 2 ^ (e - 86) ∧ -(2 ^ (e - 86) : Int) < 2 * (m * 2 ^ (e - 86) - z)) ∧
      (e < 86 → m = z * 2 ^ (86 - e))))

/-- R178, R180 and R181, over the samples of a run. -/
def Obligations.CrosspointsRampFadeAndStep : Prop := ∀ (p : XpParam) (t : XpState) (xflen n k : Nat) (ok : Nat → Bool) (input : Nat → Nat → Nat),
  (t.xf = false → t.ramp = false → t.pend = false → t.cen = true → ok t.cbus = true →
    let r := runSamples p xflen none ok input n k t
    r.2 = (List.range n).map (fun i => [⟨t.cbus, (term96 (input t.csrc (k + i)) t.gcur).1, (term96 (input t.csrc (k + i)) t.gcur).2⟩]) ∧
      { r.1 with psign := t.psign, pvalid := t.pvalid } = t) ∧
  (t.xf = false → t.cen = false → runSamples p xflen none ok input n k t = (t, List.replicate n [])) ∧
  (∀ a b r, rampGain a b (2 ^ r - 1) r = b) ∧
  (∀ a j r, gainFinite a = true → fadeOld a j r = (fpOut ((gainScale a (2 ^ r - 1 - j) r).add (.zero false))).bits ∧
    fadeNew a j r = (fpOut ((gainScale a (j + 1) r).add (.zero false))).bits) ∧
  (t.xf = true → t.cnt = 0 → t.srlen ≤ 20 →
    let r := (runSamples p xflen none ok input (2 ^ t.srlen) k t).1
    r.xf = false ∧ r.cen = t.nen ∧ r.csrc = t.nsrc ∧ r.cbus = t.nbus ∧ r.gcur = t.stgt ∧ r.cnt = 0) ∧
  (t.xf = false → t.ramp = false → t.pend = true → t.cen = true → t.cnt = n → n < 2 ^ 16 → t.psign = 0 → t.pvalid = 1 →
    (∀ i, bitAt (input t.csrc i) 31 = 0 ∧ bitsAt (input t.csrc i) 23 8 ≠ 0) →
    (let r := (runSamples p xflen none ok input n k t).1
     r.pend = true ∧ r.gcur = t.gcur) ∧
    let r := (runSamples p xflen none ok input (n + 1) k t).1
    r.pend = false ∧ r.gcur = t.stgt)

/-- R159, R168 to R170. -/
def Obligations.GroupRuns : Prop := ∀ (s : State) (d g : Nat), d < 6 → g < 256 → s.canonical = true →
  let n := s.get .GRP_STAT_KICKS d g
  let live := s.get .GRP_EN_EFF d g = 1 ∧ n < s.get .GRP_CFG_NKICK d g ∧ s.get .GRP_STAT_RAN d g = 0 ∧ s.get .GRP_ABAND d g = 0
  (s.dieClocked d = true → live → n + 1 < s.get .GRP_CFG_NKICK d g → Does (.chorusKick d g) s [(⟨.GRP_STAT_KICKS, d, g⟩, n + 1)]) ∧
  (s.dieClocked d = true → live → n + 1 = s.get .GRP_CFG_NKICK d g → Completes (.chorusKick d g) s fun t =>
    t.ready = (if (d, g) ∈ s.ready then s.ready else s.ready ++ [(d, g)]) ∧
    t.get .GRP_STAT_KICKS d g = n + 1 ∧
    s.Within { t with ready := s.ready } [⟨.GRP_STAT_KICKS, d, g⟩]) ∧
  (s.dieClocked d = true → ¬ live → Completes (.chorusKick d g) s fun t => t.Raised .CHORUS_XKICK d 0 ∧
    t.get .CHORUS_XKICK_CNT d 0 = min (s.get .CHORUS_XKICK_CNT d 0 + 1) (2 ^ 32 - 1) ∧
    s.Within t (⟨.CHORUS_XKICK_CNT, d, 0⟩ :: raiseCells d (FaultName.CHORUS_XKICK.set 0))) ∧
  (s.dieClocked d = true → s.nextReady d = some g → s.get .CHORUS_STATUS_BUSY d 0 = 0 → s.get .CHORUS_CFG_EN d 0 = 1 →
    Completes (.groupRunStart d) s fun t => t.ready = s.ready.erase (d, g) ∧ t.get .CHORUS_STATUS_BUSY d 0 = 1 ∧ t.get .CHORUS_STATUS_GROUP d 0 = g ∧
    t.get .GRP_COPY d g = s.get .TB_GEN d (s.get .GRP_CFG_DOMAIN d g) % 2 ∧
    s.Within { t with ready := s.ready } [⟨.GRP_COPY, d, g⟩, ⟨.CHORUS_STATUS_BUSY, d, 0⟩, ⟨.CHORUS_STATUS_GROUP, d, 0⟩]) ∧
  (∀ q, s.ready = (d, g) :: q → s.get .GRP_EN_EFF d g = 1 → s.get .GRP_STAT_RAN d g = 0 → s.get .GRP_ABAND d g = 0 → s.nextReady d = some g) ∧
  ((s.dieClocked d = false ∨ s.get .CHORUS_STATUS_BUSY d 0 = 1 ∨ s.get .CHORUS_CFG_EN d 0 = 0 ∨ s.nextReady d = none) → exec (.groupRunStart d) s = .next s) ∧
  (s.dieClocked d = true → s.get .CHORUS_STATUS_BUSY d 0 = 1 → s.get .CHORUS_STATUS_GROUP d 0 = g → s.get .GRP_RANGE_COUNT d g = 0 →
    (∀ D, D < 3 → s.get .REL_ORDER d D = 0) → Does (.groupRunEnd d) s [(⟨.GRP_STAT_RAN, d, g⟩, 1), (⟨.CHORUS_STATUS_BUSY, d, 0⟩, 0)]) ∧
  (∀ x, s.dieClocked d = true → s.get .CHORUS_STATUS_BUSY d 0 = 1 → s.get .CHORUS_STATUS_GROUP d 0 = g → s.get .GRP_RANGE_COUNT d g = 1 → s.get .GRP_RANGE_FIRST d g = x →
    s.get .CHORUS_XP_CNT d 0 ≤ x → (∀ D, D < 3 → s.get .REL_ORDER d D = 0) → Completes (.groupRunEnd d) s fun t =>
      t.get .GRP_STAT_RAN d g = 1 ∧ t.get .CHORUS_STATUS_BUSY d 0 = 0 ∧ t.Raised .CHORUS_BADXP d 0 ∧
      t.get .CHORUS_BADXP_CNT d 0 = min (s.get .CHORUS_BADXP_CNT d 0 + 1) (2 ^ 32 - 1) ∧ s.SameMem t)

/-- R171 to R176. -/
def Obligations.PartialsAndHomes : Prop := ∀ (s : State) (u d b D k terms : Nat) (sums : List Nat), d < 6 → b < 512 → D < 3 → k < 2 ^ 64 →
  terms < 2 ^ 16 → (∀ v, v ∈ sums → v < 2 ^ 96) → sums.length = s.bsize D → s.canonical = true →
  let x := s.setIx D b k
  let msg := Msg.partialSum u d b D k sums terms false false
  let i := Instr.partialArrival d b D k sums terms false false
  let home := s.isHome d b = true ∧ s.get .BUS_EN_EFF d b = 1
  (s.nextOn msg = true →
    (¬ home → Completes i s fun t => t.Raised .CHORUS_PART_DISC d 0 ∧
      t.get .CHORUS_BADPART_CNT d 0 = min (s.get .CHORUS_BADPART_CNT d 0 + 1) (2 ^ 32 - 1) ∧
      t.blocks = s.blocks ∧ (∃ w, t.sent = s.sent.erase (.partialSum w d b D k sums terms false false)) ∧
      (∀ y, t.get .ASET_SUM d y = s.get .ASET_SUM d y) ∧ s.SameMem t) ∧
    (home → k + 1 < s.epochOf d D → Completes i s fun t => t.Raised .CHORUS_PART_DISC d 0 ∧ t.get .BUS_STAT_LATE d b = 1 ∧
      (∀ y, t.get .ASET_SUM d y = s.get .ASET_SUM d y) ∧ s.SameMem t) ∧
    (home → s.epochOf d D = k + 1 → s.get .ASET_B d x = k + 1 → s.get .ASET_RED d x = 0 →
      (s.get .ASET_RCVD d x + 1 < s.get .BUS_HOME_EXPECT d b →
        Completes i s fun t => t.get .ASET_RCVD d x = s.get .ASET_RCVD d x + 1 ∧ t.blocks = s.blocks ∧ t.get .ASET_RED d x = 0 ∧ s.SameMem t ∧
          ∀ j v, sums[j]? = some v → t.get .ASET_SUM d (x * 64 + j) = (s.get .ASET_SUM d (x * 64 + j) + v) % 2 ^ 96) ∧
      (s.get .ASET_RCVD d x + 1 = s.get .BUS_HOME_EXPECT d b → s.get .ASET_TERMS d x + terms ≤ 2 ^ 23 →
        Completes i s fun t => t.get .ASET_RED d x = 1 ∧ s.SameMem t ∧ t.blocks = s.blocks ++ [⟨d, b, k, (List.range (s.bsize D)).map fun j =>
          round96 ((s.get .ASET_SUM d (x * 64 + j) + sums[j]?.getD 0) % 2 ^ 96)⟩]))) ∧
  (∀ stage h, stage < 8 → s.dieClocked d = true → s.epochOf d D ≠ 0 → s.stageDone d D stage = true → s.busesOf d D = [b] →
    s.get .BUS_CFG_TX d b = 1 → s.get .BUS_CFG_STAGE d b = stage → s.get .BUS_RELD d b = 0 → s.get .BUS_HOME_UNIT d b = 15 →
    s.get .BUS_HOME_DIE d b = h → h ≠ d →
    Completes (.partialRelease d D stage) s fun t => t.get .BUS_RELD d b = 1 ∧ t.get .FAB_RR d (linkEgress d h) = 9 ∧
      s.Within { t with sent := s.sent } [⟨.BUS_RELD, d, b⟩, ⟨.FAB_RR, d, linkEgress d h⟩] ∧
      t.sent = s.sent ++ [.partialSum d h b D (s.epochOf d D - 1) ((List.range (s.bsize D)).map fun j => s.get .XSUM d (b * 64 + j))
        (s.get .BUS_TERMS d b) (s.on .BUS_PSAT d b) (s.on .BUS_PNAN d b)]) ∧
  (∀ data, s.dieClocked d = true → s.blocks = [⟨d, b, k, data⟩] → data.length ∈ [8, 16, 32, 64] → (∀ v, v ∈ data → v < 2 ^ 32) →
    let a := s.get .BUS_DEST d b * 32
    let n := 4 * data.length
    s.Passes (s.request d 8 (15 * 2 ^ 36 + d * 2 ^ 32 + a) true n 0) → s.offline d a = false → a + n ≤ 0x2000000 → a % 4096 + n ≤ 4096 →
    (∀ w, a ≤ w → w < a + n → s.wordLocked d w = false) →
    Completes (.busBlockComplete d b k) s fun t => t.blocks = [] ∧ t.get .BUS_WRITTEN d b = k + 1 ∧ (∀ j y, data[j]? = some y → t.load d (a + 4 * j) 4 = y) ∧
      (∀ e y, y < 2 ^ 32 → ¬ (e = d ∧ a ≤ y ∧ y < a + n) → t.byte e y = s.byte e y) ∧
      (s.get .DMA_KICKOFS_EN d 0 = 0 → (∀ w, a ≤ w → w < a + n → ¬ (s.get .CHORUS_KICKOFS d 0 * 0x400 ≤ w % 0x800000 ∧
          w % 0x800000 < s.get .CHORUS_KICKOFS d 0 * 0x400 + 1024)) →
        (s.get .BUS_CONS_CEN d b = 0 → t.sent = s.sent) ∧
        (∀ e c q, e < 6 → c < 4 → q < 256 → s.get .BUS_CONS_CEN d b = 1 →
          s.get .BUS_CONS_TARGET d b = 15 * 2 ^ 14 + e * 2 ^ 10 + c * 2 ^ 8 + q → s.routeUp d e = true → s.dieClocked e = true →
          s.permits e (s.masterClass d 8) 5 true = true →
          t.sent = s.sent ++ [.post d 8 e c q (s.get .BUS_CFLAGS d b % 2 ^ 31) (s.get .BUS_CFG_DOMAIN d b) 0]) ∧
        ∀ g, g < 256 → (s.get .BUS_CONS_KEN d b = 0 → t.get .GRP_STAT_KICKS d g = s.get .GRP_STAT_KICKS d g) ∧
          (s.get .BUS_CONS_KEN d b = 1 → s.get .BUS_CONS_KGRP d b = g → s.get .GRP_EN_EFF d g = 1 →
            s.get .GRP_STAT_KICKS d g < s.get .GRP_CFG_NKICK d g → s.get .GRP_STAT_RAN d g = 0 → s.get .GRP_ABAND d g = 0 →
            t.get .GRP_STAT_KICKS d g = s.get .GRP_STAT_KICKS d g + 1))) ∧
  (s.nextOn (.releaseOrder d D k) = false → exec (.releaseOrderReceipt d D k) s = .next s) ∧
  (s.nextOn (.releaseOrder d D k) = true → s.epochOf d D ≠ k + 1 →
    exec (.releaseOrderReceipt d D k) s = .next (s.arrived (.releaseOrder d D k))) ∧
  (∀ g, s.nextOn (.releaseOrder d D k) = true → s.epochOf d D = k + 1 → s.groupsOf d D = [g] → s.get .GRP_STAT_RAN d g = 0 → s.get .GRP_ABAND d g = 0 → s.busesOf d D = [] →
    s.get .CHORUS_STATUS_BUSY d 0 = 0 → Completes (.releaseOrderReceipt d D k) s fun t => t.get .GRP_STAT_MISS d g = 1 ∧ t.get .GRP_ABAND d g = 1 ∧
      t.Raised .CHORUS_GRPMISS d 0 ∧ t.get .CHORUS_GRPMISS_CNT d 0 = min (s.get .CHORUS_GRPMISS_CNT d 0 + 1) (2 ^ 32 - 1) ∧ s.SameMem t)

/-- R190 to R193, R198; the data of READ_UNDEF is a free value. -/
def Obligations.TwoPortsOfABank : Prop := ∀ (s : State) (d w am bm ea eb xa xb : Nat) (ha hb : Bool), d < 8 → w % 16 = 0 → w < sramSize d →
  s.dieClocked d = true → am < 64 → bm < 64 → ea < 2 ^ 16 → eb < 2 ^ 16 → xa < 2 ^ 128 → xb < 2 ^ 128 →
  let ra : PortAccess := ⟨.read, am, 0xFFFF, 0, ha⟩
  let rb : PortAccess := ⟨.read, bm, 0xFFFF, 0, hb⟩
  let wa : PortAccess := ⟨.write, am, ea, xa, ha⟩
  let wb : PortAccess := ⟨.write, bm, eb, xb, hb⟩
  let no (m : Nat) : PortAccess := ⟨.none, m, 0, 0, false⟩
  (s.Sound d w → s.wordLocked d w = false →
    Completes (.bankAccess d w ra rb) s (fun t => t.resp = ⟨s.load d w 16, false, s.load d w 16, false, 0⟩ ∧ t.busyAcc = s.busyAcc ∧
      s.SameMem t ∧ s.SameBut t []) ∧
    Completes (.bankAccess d w wa (no bm)) s (fun t => s.WordWritten t d w ea xa ∧ t.resp.busy = 0 ∧ t.resp.errA = false) ∧
    Completes (.bankAccess d w wa rb) s (fun t => s.WordWritten t d w ea xa ∧ t.resp.busy = 2 ∧ t.busyAcc = s.busyAcc ++ [⟨d, w, 1, 0, rb⟩] ∧
      s.Collision t d w 1 am bm) ∧
    Completes (.bankAccess d w wa wb) s (fun t => s.WordWritten t d w ea xa ∧ t.resp.busy = 2 ∧ t.busyAcc = s.busyAcc ++ [⟨d, w, 1, 0, wb⟩] ∧
      s.Collision t d w 2 am bm) ∧
    Completes (.bankAccess d w ra wb) s (fun t => s.WordWritten t d w eb xb ∧ t.resp.busy = 0 ∧ t.busyAcc = s.busyAcc ∧
      t.resp.dataA = Config.freeValue s.freeCtr % 2 ^ 128 ∧ t.freeCtr = s.freeCtr + 1 ∧ s.Collision t d w 0 am bm) ∧
    (s.busyAcc = [⟨d, w, 1, 0, wb⟩] → Completes (.busyRetry d w 1 (no am)) s fun t => s.WordWritten t d w eb xb ∧ t.busyAcc = [] ∧
      t.resp.busy = 0) ∧
    (s.busyAcc = [⟨d, w, 1, 0, rb⟩] → Completes (.busyRetry d w 1 (no am)) s fun t => t.resp.dataB = s.load d w 16 ∧ t.busyAcc = [] ∧
      t.resp.busy = 0 ∧ s.SameMem t) ∧
    (s.busyAcc = [⟨d, w, 1, 0, wb⟩] → Completes (.busyRetry d w 1 wa) s fun t => s.WordWritten t d w eb xb ∧ t.busyAcc = [⟨d, w, 0, 0, wa⟩] ∧
      t.resp.busy = 1 ∧ s.Collision t d w 3 am bm ∧ (d < 6 → t.get .NEWT_STALL_MEM d am = (s.get .NEWT_STALL_MEM d am + 1) % 2 ^ 32))) ∧
  (s.wordLocked d w = true → exec (.busyRetry d w 1 wa) s = .next s) ∧
  (s.offline d w = true → s.wordLocked d w = false → Completes (.bankAccess d w wa rb) s fun t => t.resp = ⟨0, true, 0, true, 0⟩ ∧
    t.busyAcc = s.busyAcc ∧ s.SameMem t ∧ t.Raised .BANK_OFFLINE_ACC d 0)

/-- R194 to R196, and erratum A1-01 (R502). -/
def Obligations.AliasWritesLock : Prop := ∀ (s : State) (d w port m om en data i : Nat) (clear host : Bool), d < 8 → w % 16 = 0 → w < sramSize d →
  s.dieClocked d = true → m < 64 → om < 64 → en < 2 ^ 16 → data < 2 ^ 128 → port < 2 → i < 16 →
  let mine : PortAccess := ⟨.write, m, en, data, host⟩
  let taken : PortAccess := { mine with kind := if clear then .clear else .set }
  let no : PortAccess := ⟨.none, om, 0, 0, false⟩
  let read : PortAccess := ⟨.read, om, en, 0, host⟩
  let old := s.byte d (w + i)
  let x := BitVec.ofNat 8 (data / 256 ^ i)
  let new := if bitAt en i = 1 then (if clear then old &&& ~~~ x else old ||| x) else old
  (s.Sound d w → s.wordLocked d w = false →
    Completes (.aliasWrite d w port clear mine no) s (fun t => t.byte d (w + i) = new ∧
      ⟨d, w, port, m, s.capture d + 1⟩ ∈ t.locks ∧ t.resp.busy = 0 ∧
      ∀ e a, a < 2 ^ 32 → ¬ (e = d ∧ w ≤ a ∧ a < w + 16) → t.byte e a = s.byte e a) ∧
    Completes (.aliasWrite d w 1 clear mine ⟨.read, om, 0xFFFF, 0, host⟩) s (fun t => t.byte d (w + i) = new ∧ t.resp.dataA = s.load d w 16 ∧
      t.resp.busy = 0 ∧ t.get .BANK_COLL_VALID d 0 = s.get .BANK_COLL_VALID d 0) ∧
    Completes (.aliasWrite d w 1 clear mine ⟨.write, om, 0xFFFF, data, host⟩) s (fun t => s.WordWritten t d w 0xFFFF data ∧ t.resp.busy = 2 ∧
      t.busyAcc = s.busyAcc ++ [⟨d, w, 1, if clear then 2 else 1, taken⟩] ∧ s.Collision t d w 2 om m)) ∧
  (s.offline d w = true → s.wordLocked d w = false → Completes (.aliasWrite d w 0 clear mine no) s fun t => t.resp.errA = true ∧ s.SameMem t ∧
    t.locks = s.locks ∧ t.Raised .BANK_OFFLINE_ACC d 0) ∧
  (s.lockOf d w = some ⟨d, w, 1, m, s.capture d⟩ →
    Completes (.bankAccess d w read no) s (fun t => s.SameMem t ∧ t.resp.busy = 1 ∧
      t.busyAcc = s.busyAcc ++ [⟨d, w, 0, 0, read⟩] ∧ s.Collision t d w 3 om m)) ∧
  (s.lockOf d w = some ⟨d, w, 0, m, s.capture d⟩ →
    Completes (.bankAccess d w no ⟨.write, om, en, data, host⟩) s (fun t => s.SameMem t ∧ t.resp.busy = 0 ∧ t.busyAcc = s.busyAcc ∧ s.SameBut t []) ∧
    Completes (.bankAccess d w no read) s (fun t => s.SameMem t ∧ t.resp.busy = 2 ∧
      t.busyAcc = s.busyAcc ++ [⟨d, w, 1, 0, read⟩] ∧ s.Collision t d w 3 m om))

/-- R187, for an error in the low half of a word read on port A. -/
def Obligations.ReadChecks : Prop := ∀ (s : State) (d w m b c : Nat), d < 8 → w % 16 = 0 → w < sramSize d → m < 64 → b < 72 → c < 72 → b ≠ c →
  s.canonical = true → s.dieClocked d = true → s.offline d w = false → s.get .FLT_INJ_COUNT d bankSet = 0 → s.wordLocked d w = false →
  let i := Instr.bankAccess d w ⟨.read, m, 0xFF, 0, false⟩ ⟨.none, 0, 0, 0, false⟩
  let k := bankOf w
  (s.errs = [(memKey d w, 2 ^ b)] → Completes i s fun t => t.resp.dataA = s.load d w 8 ^^^ 2 ^ b % 2 ^ 64 ∧ t.resp.errA = false ∧
    t.get .BANK_CE_CE_CNT d k = min (s.get .BANK_CE_CE_CNT d k + 1) 0xFFFF ∧ t.Raised .BANK_CE d 0 ∧
    (s.get .BANK_ECCLOG_VALID d 0 = 0 → t.get .BANK_ECCLOG_VALID d 0 = 1 ∧ t.get .BANK_ECCLOG_BIT d 0 = b ∧
      t.get .BANK_ECCLOG_WADDR d 0 = w / 16 ∧ t.get .BANK_ECCLOG_UE d 0 = 0) ∧ s.SameMem t) ∧
  (s.errs = [(memKey d w, 2 ^ b + 2 ^ c)] → Completes i s fun t => t.resp.dataA = s.load d w 8 ∧ t.resp.errA = true ∧
    t.get .BANK_CE_UE_CNT d k = min (s.get .BANK_CE_UE_CNT d k + 1) 0xFFFF ∧ t.get .BANK_STAT_UE d k = 1 ∧ t.Raised .BANK_UE d 0 ∧ s.SameMem t)

/-- R200 to R203 for a run of one bank. -/
def Obligations.LeapfrogAndFuses : Prop := ∀ (s : State) (d b r j word bit nf nw nb : Nat), d < 8 → b < bankCount d → r < 512 →
  word < 16 → bit < 144 → s.canonical = true → s.dieClocked d = true → s.get .BOOT_STEP 6 0 ≠ 3 →
  let busy := s.get .LF_STATUS_BUSY d 0
  let run := busy = 1 ∧ s.get .LF_RUNALL d 0 = 0 ∧ s.get .LF_STATUS_BANK d 0 = b ∧ s.get .LF_RUNNEWTS d 0 = 0
  let free := ∀ e, e < 4 → s.repValid d b e = 0
  (busy = 0 → ∀ mode, mode < 2 → Completes (.lfStart d mode 0 0 b) s fun t => t.get .LF_STATUS_BUSY d 0 = 1 ∧ t.get .BANK_STAT_OFFLINE d b = 1 ∧
    t.get .LF_STATUS_BANK d 0 = b ∧ t.get .LF_RUNMODE d 0 = mode ∧ t.get .LF_STATUS_REFUSED d 0 = s.get .LF_STATUS_REFUSED d 0 ∧ s.SameMem t) ∧
  ((busy = 1 → ∀ all, all < 2 → Does (.lfStart d 0 all 0 b) s [(⟨.LF_STATUS_REFUSED, d, 0⟩, 1), (⟨.LF_CTL_MODE, d, 0⟩, 0), (⟨.LF_CTL_ALL, d, 0⟩, all),
    (⟨.LF_CTL_NEWTS, d, 0⟩, 0), (⟨.LF_CTL_BANK, d, 0⟩, b)])) ∧
  (Completes (.lfStart d 1 1 0 b) s fun t => t.get .LF_STATUS_REFUSED d 0 = 1 ∧ t.get .LF_STATUS_BUSY d 0 = busy) ∧
  (run → s.get .LF_RUNMODE d 0 = 0 → free → Completes (.lfDone d [] nf nw nb) s fun t => t.get .BANK_STAT_RESULT d b = 1 ∧ t.get .BANK_STAT_NEWROWS d b = 0 ∧
    t.get .BANK_STAT_OFFLINE d b = 0 ∧ t.get .LF_STATUS_BUSY d 0 = 0 ∧ t.get .LF_STATUS_DONE d 0 = 1 ∧
    (∀ o, o < 0x20000 → t.byte d (b * 0x20000 + o) = 0) ∧
    ∀ e a, a < 2 ^ 32 → ¬ (e = d ∧ b * 0x20000 ≤ a ∧ a < b * 0x20000 + 0x20000) → t.byte e a = s.byte e a) ∧
  (run → s.get .LF_RUNMODE d 0 = 0 → free → Completes (.lfDone d [⟨b, [r], 0, j, word, bit⟩] nf nw nb) s fun t => t.get .BANK_STAT_RESULT d b = 2 ∧
    t.get .BANK_STAT_NEWROWS d b = 1 ∧ t.repRow d b 0 = r ∧ t.repValid d b 0 = 1 ∧ t.repFused d b 0 = 0 ∧ t.Raised .BANK_LF_REPAIR d 0 ∧
    (s.get .LF_FAIL_VALID d 0 = 0 → t.get .LF_FAIL_VALID d 0 = 1 ∧ t.get .LF_FAIL_WADDR d 0 = b * 8192 + r * 16 + word ∧ t.get .LF_FAIL_BIT d 0 = bit)) ∧
  (run → s.get .LF_RUNMODE d 0 = 1 → Completes (.lfDone d [⟨b, [r], 0, j, word, bit⟩] nf nw nb) s fun t => t.get .BANK_STAT_RESULT d b = 3 ∧
    t.get .BANK_STAT_NEWROWS d b = 0 ∧ t.repValid d b 0 = s.repValid d b 0 ∧ t.Raised .BANK_LF_FAIL d 0) ∧
  (∀ spare, spare < 16 → run → s.get .LF_RUNMODE d 0 = 1 → Completes (.lfDone d [⟨b, [], spare, j, word, bit⟩] nf nw nb) s fun t =>
    t.get .BANK_STAT_RESULT d b = 1 ∧ t.get .LF_FAIL_VALID d 0 = s.get .LF_FAIL_VALID d 0) ∧
  (run → s.get .LF_RUNMODE d 0 = 0 → Completes (.lfAbort d) s fun t => t.get .LF_STATUS_ABORTED d 0 = 1 ∧ t.get .LF_STATUS_BUSY d 0 = 0 ∧
    t.get .BANK_STAT_RESULT d b = 0 ∧ t.get .BANK_STAT_OFFLINE d b = 0) ∧
  (s.get .LF_RUNMODE d 0 = 1 → exec (.lfAbort d) s = .next s) ∧
  (s.get .LF_FUSE_BUSY d 0 = 0 → Does (.fuseBurn d b) s [(⟨.LF_FUSE_BUSY, d, 0⟩, 1), (⟨.LF_FUSEB, d, 0⟩, b), (⟨.LF_FUSE_BANK, d, 0⟩, b)]) ∧
  (s.get .LF_FUSE_BUSY d 0 = 1 → s.get .LF_FUSEB d 0 = b → s.burnable d b = [3] →
    Completes (.fuseBurnDone d 8) s (fun t => t.repFused d b 3 = 1 ∧ t.repRow d b 3 = s.repRow d b 3 ∧ t.get .LF_FUSE_BUSY d 0 = 0 ∧
      t.get .LF_FUSE_DONE d 0 = 1 ∧ t.get .EFUSE_REP d (b * 4 + 3) = s.repRow d b 3 + 2 ^ 14 + 2 ^ 15) ∧
    Completes (.fuseBurnDone d 0) s fun t => t.repFused d b 3 = 0 ∧ t.get .LF_FUSE_ERR d 0 = 1 ∧ t.Raised .BANK_FUSE_ERR d 0 ∧
      t.get .LF_FUSE_DONE d 0 = 1 ∧ t.get .EFUSE_BAD d (b * 4 + 3) = 1)

/-- R214, R223 to R225. -/
def Obligations.DmaChains : Prop := ∀ (s : State) (d e desc cls : Nat), d < 8 → e < 8 → desc < 2 ^ 20 → cls < 10 → s.canonical = true →
  let ph := s.get .DMA_PHASE d e
  let w := s.descWord d e
  let local' := fun a => 15 * 2 ^ 36 + d * 2 ^ 32 + a
  (s.dieClocked d = true → ph = 0 → s.kicksOf d e = [] → Does (.dmaStart d e desc cls) s [(⟨.DMA_DOM, d, e⟩, 0), (⟨.DMA_CLASS, d, e⟩, cls), (⟨.DMA_PHASE, d, e⟩, 1),
    (⟨.DMA_CUR, d, e⟩, desc), (⟨.DMA_STATUS_BUSY, d, e⟩, 1), (⟨.DMA_BYREG, d, e⟩, 1)]) ∧
  (s.dieClocked d = true → ph ≠ 0 → (s.kicksOf d e).length < 8 → Completes (.dmaStart d e desc cls) s fun t => t.kicks = s.kicks ++ [⟨d, e, desc * 32, cls, 3, true⟩] ∧
    t.get .DMA_STATUS_QDEPTH d e = (s.get .DMA_STATUS_QDEPTH d e + 1) % 16 ∧ s.Within { t with kicks := s.kicks } [⟨.DMA_STATUS_QDEPTH, d, e⟩]) ∧
  (s.dieClocked d = true → 8 ≤ (s.kicksOf d e).length → Completes (.dmaStart d e desc cls) s fun t => t.get .DMA_STATUS_KOVF d e = 1 ∧
    t.Raised .DMA_KICK_OVF d 0 ∧ s.Within t (⟨.DMA_STATUS_KOVF, d, e⟩ :: raiseCells d (FaultName.DMA_KICK_OVF.set 0))) ∧
  (ph = 1 → ∀ a, s.get .DMA_CUR d e = a → a * 32 < sramSize d → s.Sound d (a * 32) →
    s.Passes (s.request d (dmaPort d e) (local' (a * 32)) false 32 0) →
    let v := fun i => s.load d (a * 32 + 4 * i) 4
    (v 0 % 16 = 0 → v 1 % 16 = 0 → v 2 < 2 ^ 20 → v 3 < 2 ^ 24 → v 3 % 16 = 0 → v 4 < 2 ^ 18 → v 5 < 2 ^ 31 → v 6 < 2 ^ 25 → v 6 % 32 = 0 → v 7 = 0 →
      Completes (.dmaDescriptorRead d e) s fun t => t.get .DMA_PHASE d e = 2 ∧ (∀ i, i < 8 → t.descWord d e i = v i) ∧
        bitAt (t.get .DMA_DOM d e) 3 = 0 ∧ (∀ D, D < 3 → (bitAt (t.get .DMA_DOM d e) D = 1 ↔
          bitAt (s.get .DMA_DOM d e) D = 1 ∨ (s.get .DMA_BYREG d e = 0 ∧ v 2 / 2 ^ 16 % 4 = D))) ∧ s.SameMem t) ∧
    (v 3 % 16 ≠ 0 ∨ v 7 ≠ 0 → Completes (.dmaDescriptorRead d e) s fun t => t.get .DMA_PHASE d e = 3 ∧
      t.get .DMA_EADDR d e = local' (a * 32) ∧ s.SameMem t)) ∧
  (s.dieClocked d = true → ph = 2 → w 3 = 0 → w 2 / 2 ^ 18 % 4 = 0 → s.kicksOf d e = [] → Does (.dmaDescriptorComplete d e []) s [(⟨.DMA_STATUS_BUSY, d, e⟩, 0), (⟨.DMA_PHASE, d, e⟩, 0)]) ∧
  (s.dieClocked d = true → ph = 2 → w 3 = 0 → w 2 / 2 ^ 18 % 4 = 2 → Does (.dmaDescriptorComplete d e []) s [(⟨.DMA_PHASE, d, e⟩, 1),
    (⟨.DMA_CUR, d, e⟩, w 6 / 32 % 2 ^ 20), (⟨.DMA_DOM, d, e⟩, if s.get .DMA_BYREG d e = 1 then 0 else 8 + s.get .DMA_DOM d e % 8)]) ∧
  (∀ a b, ph = 2 → w 3 = 16 → w 2 / 2 ^ 18 % 4 = 0 → s.descSrc d e = local' a → s.descDst d e = local' b → a % 16 = 0 → b % 16 = 0 →
    a < sramSize d → b < sramSize d → s.Sound d a → s.Sound d b → s.wordLocked d b = false →
    s.Passes (s.request d (dmaPort d e) (local' a) false 16 0) → s.Passes (s.request d (dmaPort d e) (local' b) true 16 0) →
    Completes (.dmaDescriptorComplete d e []) s fun t => t.get .DMA_PHASE d e ≠ 3 ∧ s.WordWritten t d b 0xFFFF (s.load d a 16)) ∧
  (s.dieClocked d = true → ph = 3 → s.kicksOf d e = [] → s.get .DMA_ERRADDR_VALID d e = 0 → Completes (.dmaError d e) s fun t => t.get .DMA_ERRADDR_VALID d e = 1 ∧
    t.get .DMA_ERRADDR_ADDR d e = s.get .DMA_EADDR d e ∧ t.get .DMA_STATUS_ERR d e = 1 ∧ t.get .DMA_STATUS_BUSY d e = 0 ∧
    t.get .DMA_PHASE d e = 0 ∧ t.Raised .DMA_ERR d 0 ∧ s.SameMem t) ∧
  (s.dieClocked d = false → exec (.dmaStart d e desc cls) s = .next s ∧ (∀ m l k far, exec (.dmaAbort d e m l k far) s = .next s) ∧
    exec (.dmaDescriptorRead d e) s = .next s ∧ exec (.dmaDescriptorComplete d e []) s = .next s ∧
    exec (.dmaError d e) s = .next s) ∧
  (∀ b, ph = 2 → s.descDst d e = local' b → b % 16 = 0 → b < sramSize d →
    s.Passes (s.request d (dmaPort d e) (local' b) true 16 0) → Completes (.dmaAbort d e 0 16 0 []) s fun t =>
    t.get .DMA_PHASE d e = 0 ∧ t.kicksOf d e = [] ∧ t.get .BANK_STAT_TORN d (bankOf b) = 1 ∧ t.Raised .FAB_TORN d 0 ∧
    t.Raised .BANK_TORN d 0 ∧ s.SameMem t) ∧
  (∀ b, s.dieClocked d = true → d < 6 → ph = 2 → s.descDst d e = local' b → b < sramSize d →
    (let r := s.request d (dmaPort d e) (local' b) true 16 0
     s.permits d r.cls ((place d b).cls d) true = false) → Completes (.dmaAbort d e 0 16 0 []) s fun t =>
    t.get .DMA_PHASE d e = 0 ∧ t.get .BANK_STAT_TORN d (bankOf b) = s.get .BANK_STAT_TORN d (bankOf b) ∧ t.Raised .FAB_TORN d 0 ∧ s.SameMem t) ∧
  (s.dieClocked d = true → ph ≠ 2 → ∀ m l k far, Completes (.dmaAbort d e m l k far) s fun t => t.get .DMA_PHASE d e = 0 ∧ t.get .DMA_STATUS_BUSY d e = 0 ∧
    t.get .DMA_STATUS_QDEPTH d e = 0 ∧ t.kicksOf d e = [] ∧ s.SameMem t ∧ s.SameBut t [.DMA_PHASE, .DMA_STATUS_BUSY, .DMA_STATUS_QDEPTH])

/-- R212, R221, R222, for every link of `linkPeer`. -/
def Obligations.LinksAndParking : Prop := ∀ (s : State) (d l c k : Nat), d < 8 → l < 4 → linkPeer d l = some (c, k) → s.canonical = true →
  (s.linkClocked d c = false → exec (.linkRetrain d l []) s = .next s ∧ exec (.linkTrainingDone d l 24) s = .next s) ∧
  (s.linkClocked d c = true → Completes (.linkRetrain d l []) s fun t => t.get .LINK_STATUS_STATE d l = 1 ∧ t.get .LINK_STATUS_STATE c k = 1 ∧
    t.get .LINK_STATUS_TRIES d l = 0 ∧ bitAt (t.get .FAB_STAT_UP d 0) l = 0 ∧ s.SameMem t) ∧
  (s.linkClocked d c = true → ∀ m, s.sent = [m] → msgVc0 m = true → Completes (.linkRetrain d l [m]) s fun t => t.sent = [] ∧ t.Raised .FAB_LINK_FAIL d 0) ∧
  (s.linkClocked d c = true → ∀ src p e j x fl dom also, src < 8 → s.sent = [.post src p e j x fl dom also] →
    Completes (.linkRetrain d l s.sent) s fun t => t.sent = [] ∧ t.Raised .FAB_DECODE src 0 ∧
      (s.get .FAB_DERR_VALID src 0 = 0 → t.get .FAB_DERR_VALID src 0 = 1 ∧ t.get .FAB_DERR_CAUSE src 0 = 2)) ∧
  (s.linkClocked d c = true → s.get .LINK_STATUS_STATE d l = 1 → Completes (.linkTrainingDone d l 24) s fun t => t.get .LINK_STATUS_STATE d l = 2 ∧
    t.get .LINK_STATUS_STATE c k = 2 ∧ bitAt (t.get .FAB_STAT_UP d 0) l = 1 ∧ bitAt (t.get .FAB_STAT_UP c 0) k = 1 ∧ t.get .LINK_LAT d l = 24 ∧ s.SameMem t) ∧
  (s.linkClocked d c = true → s.get .LINK_STATUS_STATE d l = 1 → s.get .LINK_TRIES d l = 2 → Completes (.linkTrainingDone d l 23) s fun t => t.get .LINK_STATUS_STATE d l = 3 ∧
    t.get .LINK_STATUS_STATE c k = 3 ∧ t.live d 0 .FAB_LINK_FAIL = true ∧ t.live c 0 .FAB_LINK_FAIL = true ∧ s.SameMem t) ∧
  (s.get .LINK_STATUS_STATE d l ≠ 1 → exec (.linkTrainingDone d l 24) s = .next s) ∧
  (s.dieClocked d = true → s.get .FLT_INJ_COUNT d 320 = 0 → ∀ b b', b < 72 → b' < 72 → b ≠ b' →
    Completes (.flitReceipt d l true [2 ^ b, 0, 2 ^ b', 0] []) s (fun t => t.get .LINK_CE_CE_CNT d l = min (s.get .LINK_CE_CE_CNT d l + 2) 0xFFFF ∧
      t.badFlits = s.badFlits ∧ t.Raised .FAB_LINK_CE d 0 ∧
      s.Within t (⟨.LINK_CE_CE_CNT, d, l⟩ :: ⟨.LINK_FLITS, d, l⟩ :: raiseCells d (FaultName.FAB_LINK_CE.set 0))) ∧
    Completes (.flitReceipt d l true [0, 0, 0, 2 ^ b + 2 ^ b'] []) s (fun t => t.get .LINK_CE_UE_CNT d l = min (s.get .LINK_CE_UE_CNT d l + 1) 0xFFFF ∧
      t.badFlits = s.badFlits ++ [⟨d, l, s.get .LINK_FLITS d l, (2 ^ b + 2 ^ b') % 2 ^ 64 * 2 ^ 192, true⟩] ∧ t.Raised .FAB_LINK_UE d 0 ∧
      s.Within { t with badFlits := s.badFlits } (⟨.LINK_CE_UE_CNT, d, l⟩ :: ⟨.LINK_FLITS, d, l⟩ :: raiseCells d (FaultName.FAB_LINK_UE.set 0))) ∧
    ∀ m, Completes (.flitReceipt d l false [2 ^ b + 2 ^ b', 0, 0, 0] [m]) s fun t => t.sent = s.sent.erase m ∧ t.Raised .FAB_LINK_UE d 0) ∧
  (∀ p, s.dieClocked d = true → s.get .FAB_PARKPEND d p = 1 → Does (.fabParkApply d p) s [(⟨.FAB_PARKPEND, d, p⟩, 0),
    (⟨.FAB_PARKED, d, p⟩, s.get .FAB_PARK_EN d p * 32 + s.get .FAB_PARK_MASTER d p)]) ∧
  (∀ p, s.get .FAB_PARKPEND d p = 0 → exec (.fabParkApply d p) s = .next s)

/-- R236 to R238, R241, R242, R244, R247 and R248. -/
def Obligations.SapSamplesConvert : Prop :=
  (∀ w q : Nat, w ∈ [16, 20, 24, 32] → q < 2 ^ w → (signed w q).natAbs ≤ 2 ^ 24 →
    (signed w q = 0 → rxConvert w q = 0) ∧
    (signed w q ≠ 0 → ∃ n sig e, fpOf (rxConvert w q) = .fin n sig e ∧
      sigInt n sig * 2 ^ (e + w - 1).toNat = signed w q * 2 ^ (1 - w - e : Int).toNat) ∧
    txConvert w (rxConvert w q) 0 = q) ∧
  (∀ w x : Nat, w ∈ [16, 20, 24, 32] →
    (∀ n sig e, fpOf x = .fin n sig e →
      let num : Int := sigInt n sig * 2 ^ (e + w - 1).toNat
      let den : Int := 2 ^ (1 - w - e : Int).toNat
      signed w (txConvert w x 0) = max (min ((2 * num + den) / (2 * den)) ((2 ^ (w - 1) : Nat) - 1 : Int)) (-(2 ^ (w - 1) : Nat) : Int)) ∧
    (fpOf x = .nan → ∀ r, txConvert w x r = 0) ∧
    (∀ n, fpOf x = .inf n → ∀ r, signed w (txConvert w x r) = if n then (-(2 ^ (w - 1) : Nat) : Int) else ((2 ^ (w - 1) : Nat) - 1 : Int)) ∧
    (∀ r, txConvert w x r < 2 ^ w)) ∧
  (∀ v v', 0 < v → v < 2 ^ 32 → 0 < v' → v' < 2 ^ 32 →
    0 < lfsrStep v ∧ lfsrStep v < 2 ^ 32 ∧ (lfsrStep v = lfsrStep v' → v = v') ∧ (ditherOf v).natAbs ≤ 65535) ∧
  (∀ (s : State) (D : Nat) (meas : List BridgeRatio) (q : SapPort), D < 3 →
    let d := q.die
    let x := q.sec
    let B := s.bsize D
    let n := s.get .TB_DOMCNT 6 D
    let n0 := n - n % B
    let slots := s.get .SAP_FMT_SLOTS d x + 1
    let ch := (List.range slots).filter fun k => bitAt (s.get .SAP_SLOTMASK d x) k = 1
    let w := dataWidth (s.get .SAP_FMT_DWIDTH d x)
    (x % 2 = 0 → ∀ b : SapBlk, b.die = d → b.sec = x → b.n0 = n0 → (s.sapBlks = [b] ∨ (s.sapBlks = [] ∧ n = n0)) →
      let base := s.get .SAP_BUF d x * 0x400 + (n0 / B + 1) % 4 * (32 * (32 + 4 * B))
      s.Carries D base q → Completes (.domcntIncrement D meas) s fun t =>
        let f := q.fifo.headD q.last
        (∀ c k, ch[c]? = some k → t.load d (base + c * (32 + 4 * B) + 32 + 4 * (n % B)) 4 = rxConvert w (f.words[k]?.getD 0)) ∧
        (t.sapPort d x).map (fun r => (r.fifo, r.last)) = some (q.fifo.tail, f) ∧ t.get .SAP_STATUS_LEVEL d x = q.fifo.tail.length ∧
        t.get .SAP_SLIP_REP d x = (if q.fifo = [] then min (s.get .SAP_SLIP_REP d x + 1) (2 ^ 32 - 1) else s.get .SAP_SLIP_REP d x) ∧
        (q.fifo = [] → t.Raised .SAP_SLIP d 0) ∧
        (n % B = B - 1 → t.sapBlks = [] ∧ (q.fifo ≠ [] → ∀ c k, ch[c]? = some k →
          t.load d (base + c * (32 + 4 * B)) 32 = headerWord b.stamp n0 b.flags k ch.length b.ndrop b.nrep)) ∧
        (n = n0 → s.sapBlks = [] → q.fifo ≠ [] →
          t.sapBlks = [⟨d, x, n0, s.get .SAP_SLOTMASK d x, q.pflags, f.stamp, false, q.pdrop, 0⟩]) ∧
        ∀ e a, a < 2 ^ 32 → ¬ (e = d ∧ ∃ c, c < ch.length ∧
          ((base + c * (32 + 4 * B) + 32 + 4 * (n % B) ≤ a ∧ a < base + c * (32 + 4 * B) + 36 + 4 * (n % B)) ∨
            (n % B = B - 1 ∧ base + c * (32 + 4 * B) ≤ a ∧ a < base + c * (32 + 4 * B) + 32))) → t.byte e a = s.byte e a) ∧
    (x % 2 = 1 → q.fifo.length < 6 →
      let base := s.get .SAP_BUF d x * 0x400 + (n0 / B + 2) % 4 * (32 * (32 + 4 * B))
      let dec := s.slotDecision D n0
      s.Carries D base q → Completes (.domcntIncrement D meas) s fun t => ∃ f : SapFrame,
        (t.sapPort d x).map (fun r => r.fifo) = some (q.fifo ++ [f]) ∧ t.get .SAP_STATUS_LEVEL d x = q.fifo.length + 1 ∧ f.num = n + 1 ∧
        t.get .SAP_LFSR d x = lfsrSteps (32 * ch.length) (s.get .SAP_LFSR d x) ∧
        (dec ≠ 2 → (∀ c k, ch[c]? = some k → f.words[k]? = some (if dec = 1 then
            txConvert w (s.load d (base + c * (32 + 4 * B) + 32 + 4 * (n % B)) 4)
              (if s.get .SAP_CFG_DITHEN d x = 1 then ditherOf (lfsrSteps (32 * (c + 1)) (s.get .SAP_LFSR d x)) else 0) else 0)) ∧
          (∀ k, k < slots → k ∉ ch → f.words[k]? = some (if s.get .SAP_CFG_HIZ d x = 1 then hiZ else 0)) ∧
          t.get .SAP_SLIP_UNDR d x = s.get .SAP_SLIP_UNDR d x ∧ t.get .SAP_SLIP_REP d x = s.get .SAP_SLIP_REP d x) ∧
        (dec = 2 → q.prev.num ≠ 0 → f.words = q.prev.words ∧
          t.get .SAP_SLIP_UNDR d x = min (s.get .SAP_SLIP_UNDR d x + 1) (2 ^ 32 - 1) ∧
          t.get .SAP_SLIP_REP d x = min (s.get .SAP_SLIP_REP d x + 1) (2 ^ 32 - 1) ∧ (n = n0 → t.Raised .SAP_UNDR d 0)) ∧ s.SameMem t))

/-- R234, R245, R246, R249, R254 and R257; that ACQUIRE and LOST have no frame to finish, that a master reads OFF until its first frame,
and that LOST is entered from RUN alone, are the model's choices (log entries 21, 118, 23). -/
def Obligations.SapSectionsEnableAndStop : Prop := ∀ (s : State) (d p sec : Nat), (d = 6 ∨ d = 7) → p < 32 → sec < 2 → s.canonical = true →
  let x := 2 * p + sec
  (s.dieClocked d = true → ∀ w, w < 2 ^ 19 → w % 2 = 1 →
    let D := bitsAt w 2 2
    let mode := s.get .SAP_FMT_MODE d x
    let f := rateFs (s.get .DOM_CFG_RATE 6 D)
    let bad := mode = 3 ∨ s.get .SAP_FMT_SWIDTH d x = 3 ∨ D = 3 ∨
      slotWidth (s.get .SAP_FMT_SWIDTH d x) < dataWidth (s.get .SAP_FMT_DWIDTH d x) ∨ (mode < 2 ∧ s.get .SAP_FMT_SLOTS d x ≠ 1) ∨
      (mode = 2 ∧ s.get .SAP_FMT_SLOTS d x = 0) ∨
      (bitAt w 1 = 1 ∧ 49152000 * f.2 < f.1 * ((s.get .SAP_FMT_SLOTS d x + 1) * slotWidth (s.get .SAP_FMT_SWIDTH d x))) ∨
      (bitAt w 4 = 1 ∧ (sec = 1 ∨ bitAt w 1 = 1))
    (s.get .SAP_CFG_EN d x = 1 → exec (.sapEnable d p sec w) s = .next s) ∧
    (s.get .SAP_CFG_EN d x = 0 → bad → Completes (.sapEnable d p sec w) s fun t =>
      t.get .SAP_STATUS_BADCFG d x = 1 ∧ t.Raised .SAP_BADCFG d 0 ∧ t.get .SAP_CFG_EN d x = 0 ∧ t.ports = s.ports ∧
        t.get .SAP_STATUS_STATE d x = s.get .SAP_STATUS_STATE d x ∧ s.SameMem t) ∧
    (s.get .SAP_CFG_EN d x = 0 → ¬ bad → s.get .SAP_STOPPING d x = 0 →
      s.get .SAP_STATUS_STATE d x = sapOff → s.sapPort d x = none →
      Completes (.sapEnable d p sec w) s fun t => t.get .SAP_CFG_EN d x = 1 ∧ t.get .SAP_CFG_MASTER d x = bitAt w 1 ∧
        t.get .SAP_CFG_DOMAIN d x = D ∧ t.get .SAP_CFG_BREN d x = bitAt w 4 ∧ t.get .SAP_CFG_BRIDGE d x = bitsAt w 5 7 ∧
        t.get .SAP_CFG_PGEN d x = bitAt w 12 ∧ t.get .SAP_CFG_PGRP d x = bitsAt w 13 4 ∧ t.get .SAP_CFG_HIZ d x = bitAt w 17 ∧
        t.get .SAP_CFG_DITHEN d x = bitAt w 18 ∧
        t.get .SAP_STATUS_STATE d x = (if bitAt w 1 = 1 then sapOff else sapAcquire) ∧ t.get .SAP_STATUS_LEVEL d x = bitAt w 1 ∧
        (sec = 1 → t.get .SAP_LFSR d x = max 1 (s.get .SAP_DITHER d x)) ∧
        (s.get .PAIR_STATUS_ROLE 6 0 = 2 → s.get .PAIR_STATUS_TAKEPEND 6 0 = 0 → s.get .PAIR_ACTREQ 6 0 = 0 → t.get .SAP_STATUS_DRIVE d x = 0) ∧
        (s.get .PAIR_STATUS_ROLE 6 0 ≠ 2 → s.get .PAIR_YIELD 6 0 = 0 → t.get .SAP_STATUS_DRIVE d x = if bitAt w 1 = 1 then 0 else sec) ∧ s.SameMem t) ∧
    (s.get .SAP_CFG_EN d x = 0 → ¬ bad → s.get .SAP_STOPPING d x = 1 → Completes (.sapEnable d p sec w) s fun t =>
      t.get .SAP_CFG_EN d x = 1 ∧ t.get .SAP_CFG_MASTER d x = bitAt w 1 ∧ t.get .SAP_CFG_DOMAIN d x = D ∧ t.get .SAP_STOPPING d x = 1 ∧
        t.get .SAP_STATUS_STATE d x = s.get .SAP_STATUS_STATE d x ∧ t.get .SAP_STATUS_DRIVE d x = s.get .SAP_STATUS_DRIVE d x ∧
        t.ports = s.ports ∧ s.SameMem t)) ∧
  (s.get .SAP_CFG_EN d x = 0 → exec (.sapDisable d p sec) s = .next s) ∧
  (s.dieClocked d = true → s.get .SAP_CFG_EN d x = 1 → s.get .SAP_STOPPING d x = 1 → Does (.sapDisable d p sec) s [(⟨.SAP_CFG_EN, d, x⟩, 0)]) ∧
  (s.dieClocked d = true → s.get .SAP_CFG_EN d x = 1 → s.get .SAP_STOPPING d x = 0 → s.get .SAP_STATUS_STATE d x = sapRun →
    Does (.sapDisable d p sec) s [(⟨.SAP_CFG_EN, d, x⟩, 0), (⟨.SAP_STOPPING, d, x⟩, 1),
      (⟨.SAP_WAS, d, x⟩, s.get .SAP_CFG_MASTER d x + s.get .SAP_CFG_DOMAIN d x * 2 + s.get .SAP_CFG_BREN d x * 8)]) ∧
  (s.dieClocked d = true → s.get .SAP_CFG_EN d x = 1 → s.get .SAP_STOPPING d x = 0 → s.get .SAP_STATUS_STATE d x ≠ sapRun → Completes (.sapDisable d p sec) s fun t =>
    t.get .SAP_CFG_EN d x = 0 ∧ t.get .SAP_STATUS_STATE d x = sapOff ∧ t.sapPort d x = none ∧ s.SameMem t) ∧
  (s.get .SAP_STOPPING d x = 0 → exec (.sapStop d p sec) s = .next s) ∧
  (s.get .SAP_STOPPING d x = 1 →
    (sec = 1 → ∀ q b, s.sapPort d x = some q → b ∈ s.sapBlks → b.die = d → b.sec = x → q.unsent noFrame < b.n0 + s.bsize (s.sapDom d x)) →
    Completes (.sapStop d p sec) s fun t => t.get .SAP_STOPPING d x = 0 ∧ t.get .SAP_STATUS_MASKPEND d x = 0 ∧
      t.sent = s.sent ∧ s.SameMem t ∧
      (s.get .SAP_CFG_EN d x = 0 → t.get .SAP_STATUS_STATE d x = sapOff ∧ t.get .SAP_STATUS_DRIVE d x = 0 ∧ t.get .SAP_STATUS_LEVEL d x = 0 ∧
        t.sapPort d x = none) ∧
      (s.get .SAP_CFG_EN d x = 1 → t.get .SAP_STATUS_STATE d x = (if s.get .SAP_CFG_MASTER d x = 1 then sapOff else sapAcquire) ∧
        t.get .SAP_STATUS_LEVEL d x = s.get .SAP_CFG_MASTER d x ∧ t.sapPort d x ≠ none)) ∧
  (s.dieClocked d = false → (∀ w, exec (.sapEnable d p sec w) s = .next s) ∧ exec (.sapDisable d p sec) s = .next s ∧
    ∀ m, exec (.slotmaskStage d p sec m) s = .next s) ∧
  (s.dieClocked d = true → ∀ m, m < 2 ^ 32 →
    ((s.sapPort d x = none ∨ s.get .EPOCH_STATUS_RUN 6 (s.sapDom d x) = 0) →
      Does (.slotmaskStage d p sec m) s [(⟨.SAP_SLOTMASK_NEXT, d, x⟩, m), (⟨.SAP_SLOTMASK, d, x⟩, m), (⟨.SAP_DIRTY, d, x⟩, 0)]) ∧
    (s.sapPort d x ≠ none → s.get .EPOCH_STATUS_RUN 6 (s.sapDom d x) = 1 →
      Does (.slotmaskStage d p sec m) s [(⟨.SAP_SLOTMASK_NEXT, d, x⟩, m), (⟨.SAP_DIRTY, d, x⟩, 1)])) ∧
  ((s.sapMaster d x = true ∨ (s.get .SAP_STOPPING d x = 0 ∧ s.get .SAP_STATUS_STATE d x ≠ sapRun)) →
    exec (.sapLostTimeout d p sec) s = .next s) ∧
  (s.get .SAP_CFG_MASTER d x = 0 → s.get .SAP_STOPPING d x = 0 → s.get .SAP_STATUS_STATE d x = sapRun → s.get .SAP_CFG_BREN d x = 0 →
    Completes (.sapLostTimeout d p sec) s fun t => t.get .SAP_STATUS_STATE d x = sapLost ∧ t.live d 0 .SAP_LOST = true ∧
      (s.live d 0 .SAP_LOST = false → t.Raised .SAP_LOST d 0) ∧ s.SameMem t)

/-- R235, R246, R249, R251, R253 and R254. -/
def Obligations.FramesFillTheSlipBuffer : Prop := ∀ (s : State) (d p sec : Nat), (d = 6 ∨ d = 7) → p < 32 → sec < 2 → s.canonical = true →
  (let x := 2 * p + sec
   let fs := s.fsStart d x
   (s.sapPort d x = none → s.get .SAP_STOPPING d x = 0 → ∀ c l, exec (.sapFrameStart d p sec c l) s = .next s) ∧
   (∀ c l, l ≠ fs → exec (.sapFrameStart d p sec c l) s = .next s) ∧
   ∀ q c, s.sapPort d x = some q → s.get .SAP_CFG_MASTER d x = 0 → s.get .SAP_STOPPING d x = 0 →
    let good := (s.get .SAP_FMT_SLOTS d x + 1) * slotWidth (s.get .SAP_FMT_SWIDTH d x)
    (s.get .SAP_STATUS_STATE d x = sapRun → c = good → Completes (.sapFrameStart d p sec c fs) s fun t => { t with ports := s.ports } = s ∧
      t.sapPort d x = some { q with start := s.capture d + 1, fresh := 0 }) ∧
    (s.get .SAP_STATUS_STATE d x = sapRun → c ≠ good → q.start ≠ 0 → Completes (.sapFrameStart d p sec c fs) s fun t =>
      t.get .SAP_FERR d x = min (s.get .SAP_FERR d x + 1) (2 ^ 32 - 1) ∧ t.Raised .SAP_FRAME d 0 ∧ t.get .SAP_STATUS_STATE d x = sapRun ∧
        t.get .SAP_SLIP_DROP d x = s.get .SAP_SLIP_DROP d x ∧ t.get .SAP_SLIP_REP d x = s.get .SAP_SLIP_REP d x ∧
        (s.get .SAP_CFG_BREN d x = 0 → s.SameMem t)) ∧
    (s.get .SAP_STATUS_STATE d x = sapLost → c = good → q.start ≠ 0 → 1 ≤ s.get .SAP_GOOD d x → s.get .SAP_CFG_BREN d x = 0 →
      Completes (.sapFrameStart d p sec c fs) s fun t => t.get .SAP_STATUS_STATE d x = sapRun ∧ t.get .SAP_STATUS_RESYNC d x = 1 ∧
        t.get .SAP_STATUS_LEVEL d x = 3 ∧ t.fifoLen d x = 3 ∧ t.get .SAP_SLIP_REP d x = s.get .SAP_SLIP_REP d x ∧
        t.get .SAP_SLIP_DROP d x = s.get .SAP_SLIP_DROP d x ∧ s.SameMem t)) ∧
  (let x := 2 * p
   ∀ words q, (∀ v, v ∈ words → v < 2 ^ 32) → s.sapBren d x = false →
    let f : SapFrame := ⟨1, q.start - 1, words.map (s.dataWord d x), false⟩
    (s.sapPort d x = none → exec (.sapRxFrame d p words) s = .next s) ∧
    (s.sapPort d x = some q → q.start = 0 ∨ q.fresh ≠ 0 → exec (.sapRxFrame d p words) s = .next s) ∧
    (s.sapPort d x = some q → s.sapMaster d x = true → q.start ≠ 0 → q.fresh = 0 → Completes (.sapRxFrame d p words) s fun t =>
      s.Within { t with ports := s.ports } [⟨.SAP_STATUS_LEVEL, d, x⟩] ∧ t.get .SAP_STATUS_LEVEL d x = 1 ∧
        (t.sapPort d x).map (fun r => r.fifo) = some (recentre (min 2 (q.fifo.length + 1)) (q.fifo ++ [f]))) ∧
    (s.sapPort d x = some q → s.sapMaster d x = false → s.get .SAP_STATUS_STATE d x = sapRun → q.start ≠ 0 → q.fresh = 0 →
      (s.get .SAP_CFG_PGEN d x = 0 → q.gframe = 0 → q.fifo.length < 6 → Completes (.sapRxFrame d p words) s fun t =>
        s.Within { t with ports := s.ports } [⟨.SAP_STATUS_LEVEL, d, x⟩] ∧ t.get .SAP_STATUS_LEVEL d x = q.fifo.length + 1 ∧
          ∃ r, t.sapPort d x = some r ∧ r.fifo = q.fifo ++ [f]) ∧
      (s.get .SAP_CFG_PGEN d x = 0 → q.gframe = 0 → q.fifo.length = 6 → Completes (.sapRxFrame d p words) s fun t =>
        t.get .SAP_SLIP_DROP d x = min (s.get .SAP_SLIP_DROP d x + 1) (2 ^ 32 - 1) ∧ t.Raised .SAP_SLIP d 0 ∧
          (t.sapPort d x).map (fun r => r.fifo) = some q.fifo ∧ s.SameMem t) ∧
      (s.isPgRef d x = true → q.fifo.length = 5 → Completes (.sapRxFrame d p words) s fun t =>
        let g := s.get .SAP_CFG_PGRP d x
        t.get .PG_DROP d g = min (s.get .PG_DROP d g + 1) (2 ^ 32 - 1) ∧ t.Raised .SAP_SLIP d 0 ∧
          t.sent = s.sent ++ [.groupSlip (13 - d) g true (s.capture d)] ∧ t.get .SAP_SLIP_DROP d x = s.get .SAP_SLIP_DROP d x ∧
          (t.sapPort d x).map (fun r => r.fifo) = some q.fifo ∧ s.SameMem t))) ∧
  (let x := 2 * p + 1
   (s.sapPort d x = none → s.get .SAP_STOPPING d x = 0 → exec (.sapTxFrameStart d p) s = .next s) ∧
   (s.sapMaster d x = true → exec (.sapTxFrameStart d p) s = .next s) ∧
   ∀ q, s.sapPort d x = some q → s.get .SAP_STOPPING d x = 0 → s.get .SAP_CFG_MASTER d x = 0 →
    let held (r : SapPort) (f : SapFrame) := ∀ b, b ∈ s.sapBlks → b.die = d → b.sec = x →
      r.unsent f < b.n0 + s.bsize (s.get .SAP_CFG_DOMAIN d x)
    (s.get .SAP_STATUS_STATE d x ≠ sapRun → Completes (.sapTxFrameStart d p) s fun t => t.sapPort d x = some { q with last := noFrame } ∧
      s.Within { t with ports := s.ports } [⟨.SAP_STATUS_DRIVE, d, x⟩]) ∧
    (s.get .SAP_STATUS_STATE d x = sapRun → s.get .SAP_CFG_PGEN d x = 0 → q.gframe = 0 →
      (∀ f rest, q.fifo = f :: rest → rest.length < 8 → held { q with fifo := rest } f → Completes (.sapTxFrameStart d p) s fun t => t.get .SAP_STATUS_LEVEL d x = rest.length ∧
        t.get .SAP_SLIP_REP d x = s.get .SAP_SLIP_REP d x ∧ (t.sapPort d x).map (fun r => (r.fifo, r.last)) = some (rest, f) ∧
        (s.get .PAIR_STATUS_ROLE 6 0 = 2 → s.get .PAIR_STATUS_TAKEPEND 6 0 = 0 → s.get .PAIR_ACTREQ 6 0 = 0 → t.get .SAP_STATUS_DRIVE d x = 0) ∧
        (s.get .PAIR_STATUS_ROLE 6 0 ≠ 2 → s.get .PAIR_YIELD 6 0 = 0 → t.get .SAP_STATUS_DRIVE d x = 1) ∧ s.SameMem t) ∧
      (q.fifo = [] → held q ⟨0, 0, q.last.words, true⟩ → Completes (.sapTxFrameStart d p) s fun t => t.get .SAP_SLIP_REP d x = min (s.get .SAP_SLIP_REP d x + 1) (2 ^ 32 - 1) ∧
        t.Raised .SAP_SLIP d 0 ∧ (t.sapPort d x).map (fun r => (r.fifo, r.last.words)) = some ([], q.last.words) ∧ s.SameMem t))) ∧
  (∀ g drop, (∀ time, s.nextOn (.groupSlip d g drop time) = false) → exec (.groupSlipMessage d g drop) s = .next s) ∧
  (∀ g drop time, g < 16 → s.nextOn (.groupSlip d g drop time) = true → Completes (.groupSlipMessage d g drop) s fun t =>
    let m := s.pgMembers d g
    t.sent = s.sent.erase (.groupSlip d g drop time) ∧ s.SameMem t ∧
      (m = [] → { t with sent := s.sent } = s) ∧
      (m ≠ [] → t.Raised .SAP_SLIP d 0 ∧
        t.get .PG_DROP d g = (if drop then min (s.get .PG_DROP d g + 1) (2 ^ 32 - 1) else s.get .PG_DROP d g) ∧
        t.get .PG_REP d g = (if drop then s.get .PG_REP d g else min (s.get .PG_REP d g + 1) (2 ^ 32 - 1))) ∧
      ∀ x q, x ∈ m → s.sapPort d x = some q → t.sapPort d x = some (if s.get .SAP_STATUS_STATE d x ≠ sapRun then q
        else if slipOnFrame (isTx x) drop then { q with gframe := if time < q.decided then 1 else 2 } else { q with gsample := 1 }))

/-- R231, R267 to R270, R272, R273 and R275. What the spec leaves free (log entry 25): the delay within its bounds, the ratio's last place,
the coefficients. -/
def Obligations.BridgesLockAndFeed : Prop := ∀ (s : State) (d b : Nat), (d = 6 ∨ d = 7) → b < 128 → s.canonical = true →
  (s.dieClocked d = true → ∀ w, w < 2 ^ 10 → w % 2 = 1 →
    let src := bitsAt w 1 2
    let dst := bitsAt w 3 2
    let bad := dst = 3 ∨ src = dst ∨ (src = 3 ∧ 8 ≤ bitsAt w 5 4)
    let f := rateFs (s.get .DOM_CFG_RATE 6 src)
    let g := rateFs (s.get .DOM_CFG_RATE 6 dst)
    let low := if f.1 * g.2 ≤ g.1 * f.2 then f else g
    let nominal := 32 * g.1 * low.2 * 65536 / (g.2 * low.1) + 8 * 65536
    (s.get .BR_CFG_EN d b = 1 → exec (.bridgeEnable d b w) s = .next s) ∧
    (s.get .BR_CFG_EN d b = 0 → bad → Completes (.bridgeEnable d b w) s fun t => t.get .BR_STATUS_BADCFG d b = 1 ∧
      t.Raised .BRIDGE_BADCFG d 0 ∧ t.get .BR_CFG_EN d b = 0 ∧ t.get .BR_STATUS_STATE d b = s.get .BR_STATUS_STATE d b ∧ s.SameMem t) ∧
    (s.get .BR_CFG_EN d b = 0 → ¬ bad → s.get .BR_STOPPING d b = 1 → Completes (.bridgeEnable d b w) s fun t => t.get .BR_CFG_EN d b = 1 ∧
      t.get .BR_CFG_SRCDOM d b = src ∧ t.get .BR_STATUS_STATE d b = s.get .BR_STATUS_STATE d b ∧ t.get .BR_STOPPING d b = 1 ∧ t.hists = s.hists ∧
      s.SameMem t) ∧
    (s.get .BR_CFG_EN d b = 0 → ¬ bad → s.get .BR_STOPPING d b = 0 → Completes (.bridgeEnable d b w) s fun t => t.get .BR_CFG_EN d b = 1 ∧ t.get .BR_CFG_SRCDOM d b = src ∧
      t.get .BR_CFG_DSTDOM d b = dst ∧ t.get .BR_CFG_SRCRATE d b = bitsAt w 5 4 ∧ t.get .BR_CFG_ALIGNSET d b = bitAt w 9 ∧ s.SameMem t ∧
      (src = 3 ∨ s.get .DOM_STATUS_MLOCK 6 src = 0 ∨ s.get .DOM_STATUS_MLOCK 6 dst = 0 → t.get .BR_STATUS_STATE d b = brAcquire) ∧
      (src ≠ 3 → s.get .DOM_STATUS_MLOCK 6 src = 1 → s.get .DOM_STATUS_MLOCK 6 dst = 1 →
        t.get .BR_STATUS_STATE d b = brLocked ∧ nominal ≤ t.get .BR_DELAY d b ∧
        t.get .BR_DELAY d b ≤ nominal + g.1 * f.2 * 65536 / (g.2 * f.1) ∧
        t.get .BR_RATIO d b * (f.2 * g.1) ≤ f.1 * g.2 * 2 ^ 28 + f.2 * g.1 ∧ f.1 * g.2 * 2 ^ 28 < (t.get .BR_RATIO d b + 1) * (f.2 * g.1) ∧
        (bitAt w 9 = 1 → t.get .BR_ALIGN_N d b = s.get .BR_ALIGN_N d b ∧ t.get .BR_ALIGN_S d b = s.get .BR_ALIGN_S d b) ∧
        (bitAt w 9 = 0 → t.get .BR_ALIGN_N d b = s.get .TB_DOMCNT 6 dst % 2 ^ 32 ∧
          t.get .BR_ALIGN_S d b = unsigned 32 ((s.get .TB_DOMCNT 6 src : Int) - t.brNominalSrc d b))))) ∧
  (s.get .BR_CFG_EN d b = 0 → exec (.bridgeDisable d b) s = .next s) ∧
  (s.dieClocked d = false → exec (.bridgeDisable d b) s = .next s ∧ ∀ w, exec (.bridgeEnable d b w) s = .next s) ∧
  (s.dieClocked d = true → s.get .BR_CFG_EN d b = 1 →
    (s.get .BR_STOPPING d b = 0 → Does (.bridgeDisable d b) s [(⟨.BR_CFG_EN, d, b⟩, 0), (⟨.BR_STOPPING, d, b⟩, 1),
      (⟨.BR_WAS, d, b⟩, s.get .BR_CFG_SRCDOM d b + s.get .BR_CFG_DSTDOM d b * 4)]) ∧
    (s.get .BR_STOPPING d b = 1 → Does (.bridgeDisable d b) s [(⟨.BR_CFG_EN, d, b⟩, 0)])) ∧
  (s.get .BR_STOPPING d b = 0 ∨ s.get .BR_BOPEN d b ≠ 0 → exec (.bridgeOff d b) s = .next s) ∧
  (s.get .BR_STOPPING d b = 1 → s.get .BR_BOPEN d b = 0 → Completes (.bridgeOff d b) s fun t => t.get .BR_STOPPING d b = 0 ∧ s.SameMem t ∧
    (s.get .BR_CFG_EN d b = 0 → t.get .BR_STATUS_STATE d b = brOff) ∧
    (s.get .BR_CFG_EN d b = 1 → t.get .BR_STATUS_STATE d b = if s.get .BR_CFG_SRCDOM d b = 3 ∨ s.get .DOM_STATUS_MLOCK 6 (s.get .BR_CFG_SRCDOM d b) = 0 ∨
      s.get .DOM_STATUS_MLOCK 6 (s.get .BR_CFG_DSTDOM d b) = 0 then brAcquire else brLocked)) ∧
  (∀ r, r < 2 ^ 32 →
    (s.get .BR_STATUS_STATE d b ≠ brAcquire ∨ s.brTrack d b = false ∨ s.brInRange d b r = false → exec (.bridgeTrackLock d b r) s = .next s) ∧
    (s.get .BR_STATUS_STATE d b = brAcquire → s.brTrack d b = true → s.brInRange d b r = true →
      Completes (.bridgeTrackLock d b r) s fun t =>
      t.get .BR_STATUS_STATE d b = brLocked ∧ t.get .BR_RATIO d b = r ∧ s.brNominal d b ≤ t.get .BR_DELAY d b + 1024 ∧
        t.get .BR_DELAY d b ≤ s.brNominal d b + 1024 ∧ s.SameMem t)) ∧
  (∀ p words k, p < 32 →
    let x := 2 * p
    let h := s.brHist d b
    ∀ q, s.sapPort d x = some q → q.start ≠ 0 → q.fresh = 0 →
    s.sapBren d x = true → s.get .SAP_STATUS_STATE d x = sapRun → s.get .SAP_CFG_BRIDGE d x = b →
    channels (s.get .SAP_SLOTMASK d x) (s.get .SAP_FMT_SLOTS d x + 1) = [k] →
    (s.get .DOM_STATUS_MLOCK 6 (s.sapDom d x) = 0 → Completes (.sapRxFrame d p words) s fun t => { t with ports := s.ports } = s) ∧
    (s.get .DOM_STATUS_MLOCK 6 (s.sapDom d x) = 1 →
      (s.brTrack d b = true → s.brFeeder d b = some x → s.get .DOM_STATUS_MLOCK 6 (s.brDst d b) = 1 →
        s.get .BR_STATUS_STATE d b ≠ brOff → Completes (.sapRxFrame d p words) s fun t => { t with ports := s.ports, hists := s.hists } = s ∧
        t.brHist d b = ⟨d, b, h.newest + 1, s.capture d,
          (⟨rxConvert (s.sapWidth d x) ((words.map (s.dataWord d x)).getD k 0), false⟩ :: h.samples).take 512⟩) ∧
      (s.brTrack d b = false ∨ s.brFeeder d b ≠ some x → Completes (.sapRxFrame d p words) s fun t => t.Raised .BRIDGE_CONFLICT d 0 ∧
        t.hists = s.hists ∧ (s.brTrack d b = true → t.get .BR_STATUS_CONFLICT d b = 1)))) ∧
  (∀ D meas, D < 3 → s.Edges D → s.NoStreams → s.ports = [] → s.liveBridges = [(d, b)] → s.get .BR_STOPPING d b = 0 → s.get .BR_CFG_SRCDOM d b ≠ 3 →
    let B := s.bsize D
    let n := s.get .TB_DOMCNT 6 D
    let n0 := n - n % B
    let st := s.get .BR_STATUS_STATE d b
    let src := s.get .BR_CFG_SRCDOM d b
    let dst := s.get .BR_CFG_DSTDOM d b
    let f := rateFs (s.get .DOM_CFG_RATE 6 src)
    let g := rateFs (s.get .DOM_CFG_RATE 6 dst)
    let obuf := s.get .BR_OBUF d b * 0x400 + (n0 / B + 1) % 4 * (32 + 4 * B)
    let ibuf := s.get .BR_IBUF d b * 0x400 + (n0 / B + 2) % 4 * (32 + 4 * B)
    (D = dst → D ≠ src → (s.get .BR_BOPEN d b = n0 + 1 ∨ n = n0) → s.EngineReaches d obuf (32 + 4 * B) →
      let p : Int := signed 65 (s.get .BR_S0 d b) * 2 ^ 24 +
        ((n : Int) - signed 65 (s.get .BR_N0 d b)) * ((f.1 * g.2 * 2 ^ 24 : Nat) : Int) / ((f.2 * g.1 : Nat) : Int)
      let mark := if st = brLost then fLost else if st ≠ brLocked then fFill else if (s.brTaps d b p).any fun y => y.missed then fUndr else 0
      Completes (.domcntIncrement D meas) s fun t =>
        t.load d (obuf + 32 + 4 * (n % B)) 4 = (if st = brLocked then s.brSum d b p (s.brTaps d b p) else 0) ∧
        t.get .BR_LOST d b = (if st = brLost then min (s.get .BR_LOST d b + 1) (2 ^ 32 - 1) else s.get .BR_LOST d b) ∧
        (n % B = B - 1 → s.get .BR_BOPEN d b = n0 + 1 → t.get .BR_BOPEN d b = 0 ∧
          t.load d obuf 32 = headerWord (s.get .BR_BSTAMP d b) n0 (s.get .BR_BFLAGS d b ||| mark) 0 1 0 0) ∧
        ∀ e a, a < 2 ^ 32 → ¬ (e = d ∧ ((obuf + 32 + 4 * (n % B) ≤ a ∧ a < obuf + 36 + 4 * (n % B)) ∨
          (n % B = B - 1 ∧ obuf ≤ a ∧ a < obuf + 32))) → t.byte e a = s.byte e a) ∧
    (D = src → D ≠ dst → s.get .DOM_STATUS_MLOCK 6 dst = 1 → s.EngineReaches d ibuf (32 + 4 * B) →
      let h := s.brHist d b
      let dec := s.slotDecision D n0
      Completes (.domcntIncrement D meas) s fun t => (t.brHist d b).newest = n ∧ (t.brHist d b).samples.head? = some
          ⟨if dec = 0 then 0 else if dec = 1 then s.load d (ibuf + 32 + 4 * (n % B)) 4 else h.last, decide (dec ≠ 0 ∧ dec ≠ 1)⟩ ∧
        (dec = 2 → n = n0 → t.get .BR_UNDR d b = min (s.get .BR_UNDR d b + 1) (2 ^ 32 - 1) ∧ t.Raised .BRIDGE_UNDR d 0) ∧
        (n % B = B - 1 → dec = 1 → t.load d ibuf 32 = headerWord (s.get .BR_ISTAMP d b) n0 (s.get .BR_IFLAGS d b) 0 1 0 0) ∧
        ∀ e a, a < 2 ^ 32 → ¬ (e = d ∧ n % B = B - 1 ∧ ibuf ≤ a ∧ a < ibuf + 32) → t.byte e a = s.byte e a))

/-- R262 and R264. -/
def Obligations.MediaClocksStartStopAndLock : Prop := ∀ (s : State) (D rate ring m : Nat), D < 3 → rate < 16 → ring < 2 → m < 2 → s.canonical = true →
  let i := if m = 1 then Instr.mediaClockLockStart D rate ring else .mediaClockStop D rate ring
  (s.dieClocked 6 = false → exec i s = .next s) ∧
  (s.get .EPOCH_STATUS_RUN 6 D = 1 → rate < 8 → exec i s = .next s) ∧
  (s.dieClocked 6 = true → 8 ≤ rate → Completes i s fun t => t.get .DOM_STATUS_BADRATE 6 D = 1 ∧ t.Raised .DOM_BADRATE 6 0 ∧
    t.get .DOM_CFG_RATE 6 D = s.get .DOM_CFG_RATE 6 D ∧ t.get .DOM_CFG_MCEN 6 D = s.get .DOM_CFG_MCEN 6 D ∧
    t.get .DOM_STATUS_MLOCK 6 D = s.get .DOM_STATUS_MLOCK 6 D ∧
    s.Within t (⟨.DOM_STATUS_BADRATE, 6, D⟩ :: raiseCells 6 (FaultName.DOM_BADRATE.set 0))) ∧
  (s.dieClocked 6 = true → s.get .EPOCH_STATUS_RUN 6 D = 0 → rate < 8 → Completes i s fun t => t.get .DOM_CFG_RATE 6 D = rate ∧ t.get .DOM_CFG_MCEN 6 D = m ∧
    t.get .DOM_CFG_RING 6 D = (if D = 0 then 1 else ring) ∧ (∀ e, t.get .TB_DOMCNT e D = s.get .TB_DOMCNT e D) ∧ s.SameMem t ∧
    t.get .DOM_STATUS_MLOCK 6 D = (if m = 1 ∧ s.get .DOM_CFG_MCEN 6 D = 1 ∧ s.get .DOM_CFG_RATE 6 D = rate then s.get .DOM_STATUS_MLOCK 6 D else 0) ∧
    (s.liveBridges = [] →
      let l := [⟨.DOM_CFG_RATE, 6, D⟩, ⟨.DOM_CFG_RING, 6, D⟩, ⟨.DOM_CFG_MCEN, 6, D⟩, ⟨.DOM_STATUS_MLOCK, 6, D⟩,
        ⟨.PKT_TXLOAD, 6, 0⟩, ⟨.PKT_RXLOAD, 6, 0⟩, ⟨.PKT_TXLOAD, 7, 0⟩, ⟨.PKT_RXLOAD, 7, 0⟩]
      let x := FaultName.DOM_RINGERR.set 0
      (D = 0 ∨ ring = 1 → s.Within t l) ∧
      s.Within { t with conds := s.conds } (l ++ [⟨.DOM_RPHASE, 6, D⟩, ⟨.RING_MIS, 6, D⟩, ⟨.RING_AHEAD, 6, D⟩, ⟨.FLT_LIVE, 6, x⟩,
        ⟨.FLT_FIRST_CLEARED_BEFORE_READ, 6, x⟩])) ∧
    (D ≠ 0 → ring = 0 → t.get .DOM_RPHASE 6 D = 0 ∧ (s.OneCond .DOM_RINGERR 6 0 D → t.live 6 0 .DOM_RINGERR = false) ∧
      (s.OneCond .DOM_RINGMIS 6 0 D → t.live 6 0 .DOM_RINGMIS = false)) ∧
    (rate ≠ s.get .DOM_CFG_RATE 6 D → ∀ e, e = 6 ∨ e = 7 → t.get .PKT_TXLOAD e 0 = t.stxLoad e % 2 ^ Fld.width .PKT_TXLOAD ∧
      t.get .PKT_RXLOAD e 0 = t.srxLoad e % 2 ^ Fld.width .PKT_RXLOAD)) ∧
  (s.get .DOM_CFG_MCEN 6 D = 0 ∨ s.get .DOM_STATUS_MLOCK 6 D = 1 → exec (.mediaClockLocked D) s = .next s) ∧
  (s.get .DOM_CFG_MCEN 6 D = 1 → s.get .DOM_STATUS_MLOCK 6 D = 0 → Completes (.mediaClockLocked D) s fun t =>
    t.get .DOM_STATUS_MLOCK 6 D = 1 ∧ (∀ e, t.get .TB_DOMCNT e D = s.get .TB_DOMCNT e D) ∧ s.SameMem t ∧
    (s.liveBridges = [] → s.Within t [⟨.DOM_STATUS_MLOCK, 6, D⟩])) ∧
  (s.get .DOM_STATUS_MLOCK 6 D = 0 → ∀ out, exec (.domcntIncrement D out) s = .next s ∧ exec (.domcntAlign D out) s = .next s)

/-- R280 to R282, R297 and R300. That a phase hit begins the edges anew is the model's reading (log entry 146). -/
def Obligations.MonitorsAcceptAndJudge : Prop := ∀ (s : State), s.canonical = true → s.due = [] →
  (∀ r v d, r < 8 → v < 2 → (d = 6 ∨ d = 7) →
    let i := Instr.refRawChange 0 d r v
    (s.get .REF_RAW 6 r = v → exec i s = .next s) ∧
    (s.get .REF_RAW 6 r ≠ v → s.get .REF_CFG_EN 6 r = 0 → Does i s [(⟨.REF_RAW, 6, r⟩, v)]) ∧
    (s.get .REF_RAW 6 r ≠ v → s.get .REF_CFG_EN 6 r = 1 →
      (s.get .REF_LIVE_OVERRATE 6 r = 0 → s.get .REF_RAWP 6 r = 0 →
        Does i s [(⟨.REF_RAW, 6, r⟩, v), (⟨.REF_RAWP, 6, r⟩, 1), (⟨.REF_RAWT, 6, r⟩, s.capture 6 % 2 ^ 64)]) ∧
      (s.get .REF_LIVE_OVERRATE 6 r = 1 → s.get .REF_RAWP 6 r = 0 →
        Does i s [(⟨.REF_RAW, 6, r⟩, v), (⟨.REF_RAWP, 6, r⟩, 1), (⟨.REF_RAWT, 6, r⟩, s.capture 6 % 2 ^ 64),
          (⟨.REF_OVR, 6, r⟩, min (s.get .REF_OVR 6 r + 1) (2 ^ 32 - 1))]) ∧
      (s.get .REF_RAWP 6 r = 1 → Does i s [(⟨.REF_RAW, 6, r⟩, v), (⟨.REF_RAWP, 6, r⟩, 0),
        (⟨.REF_OVR, 6, r⟩, min (s.get .REF_OVR 6 r + 1) (2 ^ 32 - 1)),
        (⟨.REF_GREJ, 6, r⟩, (s.get .REF_GREJ 6 r + 1) % 2 ^ Fld.width .REF_GREJ)]))) ∧
  (∀ d k v, (d = 6 ∨ d = 7) → k < 16 → v < 2 → s.get .GPIO_RAW d k ≠ v → s.get .GPIO_CFG_EN d k = 1 →
    let i := Instr.refRawChange 1 d k v
    (s.get .GPIO_STATUS_OVERRATE d k = 0 → s.get .GPIO_RAWP d k = 0 →
      Does i s [(⟨.GPIO_RAW, d, k⟩, v), (⟨.GPIO_RAWP, d, k⟩, 1), (⟨.GPIO_RAWT, d, k⟩, s.capture d % 2 ^ 64)]) ∧
    (s.get .GPIO_STATUS_OVERRATE d k = 1 → s.get .GPIO_RAWP d k = 0 →
      Does i s [(⟨.GPIO_RAW, d, k⟩, v), (⟨.GPIO_RAWP, d, k⟩, 1), (⟨.GPIO_RAWT, d, k⟩, s.capture d % 2 ^ 64),
        (⟨.GPIO_OVR, d, k⟩, min (s.get .GPIO_OVR d k + 1) (2 ^ 32 - 1))]) ∧
    (s.get .GPIO_RAWP d k = 1 → Does i s [(⟨.GPIO_RAW, d, k⟩, v), (⟨.GPIO_RAWP, d, k⟩, 0),
      (⟨.GPIO_OVR, d, k⟩, min (s.get .GPIO_OVR d k + 1) (2 ^ 32 - 1)),
      (⟨.GPIO_GREJ, d, k⟩, (s.get .GPIO_GREJ d k + 1) % 2 ^ Fld.width .GPIO_GREJ)])) ∧
  (∀ r d ph errs, r < 8 → (d = 6 ∨ d = 7) → ph < 2 ^ 32 →
    let i := Instr.inputEdgeAccept 0 d r ph errs
    let level := (s.get .REF_RAW 6 r + s.get .REF_CFG_POL 6 r) % 2
    let e := s.get .REF_RAWT 6 r
    let jump : Int := (e : Int) - (2 * (s.get .REF_E1 6 r : Int) - s.get .REF_E2 6 r)
    (s.get .REF_CFG_EN 6 r = 0 ∨ s.get .REF_RAWP 6 r = 0 → exec i s = .next s) ∧
    (s.get .REF_CFG_EN 6 r = 1 → s.get .REF_RAWP 6 r = 1 → s.get .REF_LIVE_OVERRATE 6 r = 1 → Does i s [(⟨.REF_RAWP, 6, r⟩, 0)]) ∧
    (s.get .REF_CFG_EN 6 r = 1 → s.get .REF_RAWP 6 r = 1 → s.get .REF_LIVE_OVERRATE 6 r = 0 →
      (level = 0 → Does i s [(⟨.REF_RAWP, 6, r⟩, 0), (⟨.REF_LEVEL, 6, r⟩, 0), (⟨.REF_LIVE_STUCK, 6, r⟩, 0)]) ∧
      (level = 1 → s.get .REFSEL_STATUS_SEL 6 0 ≠ r → (∀ o, o < 4 → s.get .FO_STATUS_STATE 6 o = foOff) → Completes i s fun t =>
        t.get .REF_LIVE_LOS 6 r = 0 ∧ t.get .REF_RAWP 6 r = 0 ∧ t.get .REF_LEVEL 6 r = 1 ∧ t.get .REF_E1 6 r = e ∧
        t.get .REF_PHASE 6 r = unsigned 32 (signed 32 ph - signed 32 (s.get .DPLL_PBO 6 0)) ∧ t.get .DPLL_PBO 6 0 = s.get .DPLL_PBO 6 0 ∧
        t.get .REF_LIVE_PHASE_HIT 6 r = (if 2 ≤ s.get .REF_NE 6 r ∧ jump.natAbs > 10 * s.get .DPLL_LOCK_HITTH 6 0 then 1
          else s.get .REF_LIVE_PHASE_HIT 6 r) ∧
        (if 2 ≤ s.get .REF_NE 6 r ∧ jump.natAbs > 10 * s.get .DPLL_LOCK_HITTH 6 0 then t.get .REF_NE 6 r = 1
          else t.get .REF_NE 6 r = min 2 (s.get .REF_NE 6 r + 1) ∧ t.get .REF_E2 6 r = s.get .REF_E1 6 r) ∧ s.SameMem t))) ∧
  (∀ r d ph errs, (r = 8 ∨ r = 9) → (d = 6 ∨ d = 7) → ph < 2 ^ 32 →
    let i := Instr.inputEdgeAccept 0 d r ph errs
    let alive := if r = 8 then s.get .SERVO_STATUS_LOCK 6 0 = 1 else s.get .RING_HASADDR 6 0 = 1 ∧ s.get .RING_STATUS_HEAD 6 0 = 0
    (s.get .REF_CFG_EN 6 r = 0 ∨ s.get .REF_RAWP 6 r = 0 → exec i s = .next s) ∧
    (s.get .REF_CFG_EN 6 r = 1 → s.get .REF_RAWP 6 r = 1 → ¬ alive → Does i s [(⟨.REF_RAWP, 6, r⟩, 0)]) ∧
    (s.get .REF_CFG_EN 6 r = 1 → s.get .REF_RAWP 6 r = 1 → alive → s.get .REFSEL_STATUS_SEL 6 0 ≠ r →
      (∀ o, o < 4 → s.get .FO_STATUS_STATE 6 o = foOff) → Completes i s fun t =>
        t.get .REF_LIVE_LOS 6 r = 0 ∧ t.get .REF_RAWP 6 r = 0 ∧ t.get .REF_E1 6 r = s.get .REF_RAWT 6 r ∧
        t.get .REF_PHASE 6 r = unsigned 32 (signed 32 ph - signed 32 (s.get .DPLL_PBO 6 0)) ∧ t.get .DPLL_PBO 6 0 = s.get .DPLL_PBO 6 0 ∧
        (r = 8 → t.get .PTP_JUMP 6 0 = 0) ∧ s.SameMem t)) ∧
  (∀ d k ph errs, (d = 6 ∨ d = 7) → k < 16 →
    let i := Instr.inputEdgeAccept 1 d k ph errs
    let level := (s.get .GPIO_RAW d k + s.get .GPIO_CFG_POL d k) % 2
    (s.get .GPIO_CFG_EN d k = 0 ∨ s.get .GPIO_RAWP d k = 0 → exec i s = .next s) ∧
    (s.get .GPIO_CFG_EN d k = 1 → s.get .GPIO_RAWP d k = 1 → s.get .GPIO_STATUS_OVERRATE d k = 1 → Does i s [(⟨.GPIO_RAWP, d, k⟩, 0)]) ∧
    (s.get .GPIO_CFG_EN d k = 1 → s.get .GPIO_RAWP d k = 1 → s.get .GPIO_STATUS_OVERRATE d k = 0 → Completes i s fun t => t.get .GPIO_STATUS_LEVEL d k = level ∧
      bitAt (t.get .GPIO_LEVELS d 0) k = level ∧ (∀ j, j < 16 → j ≠ k → bitAt (t.get .GPIO_LEVELS d 0) j = bitAt (s.get .GPIO_LEVELS d 0) j) ∧
      t.get .GPIO_STAMP d k = s.get .GPIO_RAWT d k ∧ t.get .GPIO_STATUS_CHG d k = 1 ∧ t.get .GPIO_RAWP d k = 0 ∧
      (level = 0 → t.get .GPIO_STATUS_STUCK d k = 0) ∧ (s.get .GPIO_CFG_IEN d k = 1 → t.Raised .GPIO_CHANGE d 0) ∧ s.SameMem t)) ∧
  (∀ r, r < 10 → (s.get .REF_CFG_EN 6 r = 0 ∨ s.get .REF_LIVE_LOS 6 r = 1 → exec (.refLos r) s = .next s) ∧
    (s.get .REF_CFG_EN 6 r = 1 → s.get .REF_LIVE_LOS 6 r = 0 → Completes (.refLos r) s fun t => t.get .REF_LIVE_LOS 6 r = 1 ∧
      t.get .REF_HIST_LOS 6 r = 1 ∧ t.get .REF_LIVE_QUAL 6 r = 0 ∧ s.SameMem t ∧
      (s.get .REFSEL_STATUS_SEL 6 0 = r → s.get .REF_LIVE_QUAL 6 r = 1 → t.Raised .REFSEL_SEL_LOST 6 0))) ∧
  (∀ r, r < 8 →
    let may := s.get .REF_CFG_EN 6 r = 1 ∧ s.get .REF_LEVEL 6 r = 1 ∧ s.get .REF_MON_STUCKTO 6 r ≠ 0 ∧ s.get .REF_LIVE_STUCK 6 r = 0
    (¬ may → exec (.refStuck 0 6 r) s = .next s) ∧
    (may → Completes (.refStuck 0 6 r) s fun t => t.get .REF_LIVE_STUCK 6 r = 1 ∧ t.get .REF_HIST_STUCK 6 r = 1 ∧
      t.get .REF_LIVE_QUAL 6 r = 0 ∧ s.SameMem t)) ∧
  (∀ d k, (d = 6 ∨ d = 7) → k < 16 →
    let may := s.get .GPIO_CFG_EN d k = 1 ∧ s.get .GPIO_STATUS_LEVEL d k = 1 ∧ s.get .GPIO_MON_STUCKTO d k ≠ 0 ∧ s.get .GPIO_STATUS_STUCK d k = 0
    (¬ may → exec (.refStuck 1 d k) s = .next s) ∧
    (may → Completes (.refStuck 1 d k) s fun t => t.get .GPIO_STATUS_STUCK d k = 1 ∧ t.get .GPIO_STATUS_STUCK_H d k = 1 ∧
      t.live d 0 .GPIO_STUCK = true ∧ s.SameMem t)) ∧
  (∀ r d freq, r < 10 → (d = 6 ∨ d = 7) → freq < 2 ^ 32 →
    let i := Instr.monitorGateEnd 0 d r freq
    let n := s.get .REF_GEDGES 6 r
    let many := r < 8 ∧ ((8 < n ∧ 4 * s.get .REF_NOM_NUM 6 r < n * 10 * s.get .REF_NOM_DEN 6 r) ∨ 16 ≤ s.get .REF_GREJ 6 r)
    let far := (signed 32 freq).natAbs > s.get .REF_QUAL_WINDOW 6 r * 1000000
    (s.get .REF_CFG_EN 6 r = 0 → exec i s = .next s) ∧
    (s.get .REF_CFG_EN 6 r = 1 → Completes i s fun t => t.get .REF_FREQ 6 r = freq ∧ (t.get .REF_LIVE_FREQ_OOR 6 r = 1 ↔ far) ∧
      (t.get .REF_LIVE_OVERRATE 6 r = 1 ↔ many) ∧ t.get .REF_GEDGES 6 r = 0 ∧ t.get .REF_GREJ 6 r = 0 ∧
      (far ∨ many → t.get .REF_LIVE_QUAL 6 r = 0) ∧ s.SameMem t ∧
      ((∀ q, q < 10 → q ≠ r → s.get .REF_CFG_EN 6 q = 0) → ¬ far → ¬ many → s.get .REF_CFG_RANK 6 r < 15 → s.get .REF_LIVE_LOS 6 r = 0 →
        s.get .REF_LIVE_STUCK 6 r = 0 → s.get .REF_GDIRTY 6 r = 0 → s.get .REF_GCLEAN 6 r = 0 →
        t.get .REF_GCLEAN 6 r = 1 ∧ t.get .REF_HOLD 6 r = max 1 (s.get .REF_QUAL_HOLDOFF 6 r)))) ∧
  (∀ d k freq, (d = 6 ∨ d = 7) → k < 16 →
    let i := Instr.monitorGateEnd 1 d k freq
    (s.get .GPIO_CFG_EN d k = 0 → exec i s = .next s) ∧
    (s.get .GPIO_CFG_EN d k = 1 → Completes i s fun t => t.get .GPIO_GEDGES d k = 0 ∧ t.get .GPIO_GREJ d k = 0 ∧
      (t.get .GPIO_STATUS_OVERRATE d k = 1 ↔ 4 * s.get .GPIO_RATE d k < s.get .GPIO_GEDGES d k ∨ 16 ≤ s.get .GPIO_GREJ d k)))

/-- R282, R284 to R286 and R298. -/
def Obligations.SelectorChoosesAndSwitches : Prop := ∀ (s : State), s.canonical = true → s.due = [] →
  let cur := s.get .REFSEL_STATUS_SEL 6 0
  let c := s.refChoice
  let rank := fun q => s.get .REF_CFG_RANK 6 q
  let qual := fun q => s.get .REF_LIVE_QUAL 6 q = 1
  (s.get .REFSEL_CFG_MODE 6 0 = 0 → (c = refNone ↔ ∀ q, q < 10 → ¬ qual q) ∧
    (c ≠ refNone → c < 10 ∧ qual c ∧ (cur < 10 → qual cur → s.get .REFSEL_CFG_REVERT 6 0 = 0 → c = cur) ∧
      (¬ (cur < 10 ∧ qual cur ∧ s.get .REFSEL_CFG_REVERT 6 0 = 0) → ∀ q, q < 10 → qual q → rank c ≤ rank q ∧
        (rank q = rank c → q = cur → c = cur) ∧ (rank q = rank c → c ≠ cur → c ≤ q)))) ∧
  (s.get .REFSEL_CFG_MODE 6 0 = 1 → c = if s.get .REFSEL_CFG_FORCEIDX 6 0 < 10 ∧ qual (s.get .REFSEL_CFG_FORCEIDX 6 0) then s.get .REFSEL_CFG_FORCEIDX 6 0 else refNone) ∧
  (2 ≤ s.get .REFSEL_CFG_MODE 6 0 → c = refNone) ∧
  (∀ r, r < 10 →
    let may := s.refClean r = true ∧ s.get .REF_GCLEAN 6 r = 1 ∧ s.get .REF_LIVE_QUAL 6 r = 0
    let v := (s.put .REF_LIVE_QUAL 6 r 1).put .REF_HOLD 6 r 0
    (¬ may → exec (.refQualify r) s = .next s) ∧
    (may → s.get .REFSEL_STATUS_SWITCHING 6 0 = 1 → Does (.refQualify r) s [(⟨.REF_LIVE_QUAL, 6, r⟩, 1), (⟨.REF_HOLD, 6, r⟩, 0)]) ∧
    (may → s.get .REFSEL_STATUS_SWITCHING 6 0 = 0 → Completes (.refQualify r) s fun t => t.get .REF_LIVE_QUAL 6 r = 1 ∧
      t.get .REFSEL_STATUS_SEL 6 0 = v.refChoice ∧ s.SameMem t ∧
      (v.refChoice ≠ refNone → v.refChoice ≠ cur → t.get .REFSEL_STATUS_SWITCHING 6 0 = 1 ∧ t.get .DPLL_STATUS_STATE 6 0 = dpllAcquire ∧
        t.get .REFSEL_SWCNT 6 0 = min (s.get .REFSEL_SWCNT 6 0 + 1) (2 ^ 32 - 1) ∧ t.Raised .REFSEL_SWITCH 6 0 ∧
        t.get .DPLL_FREQ 6 0 = if s.get .DPLL_STATUS_HOVALID 6 0 = 1 then s.get .DPLL_HOFREQ 6 0 else s.get .DPLL_FREQ 6 0) ∧
      (v.refChoice = cur → cur ≠ refNone → s.Within t [⟨.REF_LIVE_QUAL, 6, r⟩, ⟨.REF_HOLD, 6, r⟩]))) ∧
  (s.dieClocked 6 = false → (∀ a v, exec (.refselConfigWrite a v) s = .next s) ∧ ∀ r a b, exec (.refEnable r a b) s = .next s) ∧
  (s.dieClocked 6 = true → ∀ v, v < 2 ^ 7 →
    let u := ((s.put .REFSEL_CFG_MODE 6 0 (bitsAt v 0 2)).put .REFSEL_CFG_REVERT 6 0 (bitAt v 2)).put .REFSEL_CFG_FORCEIDX 6 0 (bitsAt v 3 4)
    Completes (.refselConfigWrite 10 v) s fun t => t.get .REFSEL_CFG_MODE 6 0 = bitsAt v 0 2 ∧ t.get .REFSEL_CFG_REVERT 6 0 = bitAt v 2 ∧
      t.get .REFSEL_CFG_FORCEIDX 6 0 = bitsAt v 3 4 ∧ s.SameMem t ∧
      t.get .REFSEL_STATUS_SEL 6 0 = (if s.get .REFSEL_STATUS_SWITCHING 6 0 = 1 then cur else u.refChoice) ∧
      (s.get .REFSEL_STATUS_SWITCHING 6 0 = 0 → bitsAt v 0 2 = 3 → t.get .DPLL_STATUS_STATE 6 0 = dpllFree ∧ t.get .DPLL_FREQ 6 0 = 0) ∧
      (s.get .REFSEL_STATUS_SWITCHING 6 0 = 0 → bitsAt v 0 2 = 2 → t.get .DPLL_STATUS_STATE 6 0 = dpllHold)) ∧
  (s.dieClocked 6 = true → ∀ r v, r < 10 → v < 16 → Completes (.refselConfigWrite r v) s fun t => t.get .REF_CFG_RANK 6 r = v ∧ s.SameMem t ∧
    (v = 15 → t.get .REF_LIVE_QUAL 6 r = 0) ∧
    (v < 15 → (s.put .REF_CFG_RANK 6 r v).refClean r = true → s.get .REFSEL_STATUS_SWITCHING 6 0 = 0 →
      t.get .REFSEL_STATUS_SEL 6 0 = (s.put .REF_CFG_RANK 6 r v).refChoice)) ∧
  (s.dieClocked 6 = true → ∀ r pol rk, r < 10 → pol < 2 → rk < 16 →
    let ok := rateOk (s.get .REF_NOM_NUM 6 r) (s.get .REF_NOM_DEN 6 r)
    (ok = false → Completes (.refEnable r pol rk) s fun t => t.get .REF_HIST_BADCFG 6 r = 1 ∧ t.get .REF_CFG_EN 6 r = s.get .REF_CFG_EN 6 r ∧
      t.get .REF_CFG_RANK 6 r = s.get .REF_CFG_RANK 6 r ∧ t.get .REF_CFG_POL 6 r = s.get .REF_CFG_POL 6 r ∧ s.SameMem t ∧
      (s.get .REF_HIST_BADCFG 6 r = 0 → s.get .REF_IEN_BADCFG 6 r = 1 → t.Raised .REFSEL_EVENT 6 0)) ∧
    (ok = true → Completes (.refEnable r pol rk) s fun t => t.get .REF_CFG_EN 6 r = 1 ∧ t.get .REF_CFG_RANK 6 r = rk ∧ s.SameMem t ∧
      t.get .REF_CFG_POL 6 r = if s.get .REF_CFG_EN 6 r = 1 then s.get .REF_CFG_POL 6 r else if r < 8 then pol else 0)) ∧
  (∀ n d, rateOk n d = true ↔ n ≠ 0 ∧ d ≠ 0 ∧ d ≤ n ∧ n ≤ 25000000 * d) ∧
  (∀ r d ph errs, r < 8 → (d = 6 ∨ d = 7) → ph < 2 ^ 32 → s.get .REF_CFG_EN 6 r = 1 → s.get .REF_RAWP 6 r = 1 →
    s.get .REF_LIVE_OVERRATE 6 r = 0 → (s.get .REF_RAW 6 r + s.get .REF_CFG_POL 6 r) % 2 = 1 → cur = r → s.get .REFSEL_STATUS_SWITCHING 6 0 = 1 →
    (∀ o, o < 4 → s.get .FO_STATUS_STATE 6 o = foOff) →
    let jump : Int := (s.get .REF_RAWT 6 r : Int) - (2 * (s.get .REF_E1 6 r : Int) - s.get .REF_E2 6 r)
    (s.get .SW_EDGES 6 0 = 0 → Completes (.inputEdgeAccept 0 d r ph errs) s fun t => t.get .DPLL_PBO 6 0 = ph ∧
      t.get .REF_PHASE 6 r = 0 ∧ t.get .REFSEL_STATUS_SWITCHING 6 0 = 1 ∧ t.get .DPLL_STATUS_STATE 6 0 = s.get .DPLL_STATUS_STATE 6 0 ∧
      t.get .DPLL_FREQ 6 0 = s.get .DPLL_FREQ 6 0 ∧ t.get .SW_EDGES 6 0 = 1) ∧
    (s.get .SW_EDGES 6 0 = 1 → c = r → Completes (.inputEdgeAccept 0 d r ph errs) s fun t => t.get .REFSEL_STATUS_SWITCHING 6 0 = 0 ∧
      t.get .REFSEL_STATUS_SEL 6 0 = r ∧
      t.get .DPLL_PBO 6 0 = (if 2 ≤ s.get .REF_NE 6 r ∧ jump.natAbs > 10 * s.get .DPLL_LOCK_HITTH 6 0 ∧ s.get .DPLL_CFG_PBO_HIT 6 0 = 1 then
        unsigned 32 (signed 32 (s.get .DPLL_PBO 6 0) + jump) else s.get .DPLL_PBO 6 0) ∧
      t.get .DPLL_STATUS_BWEFF 6 0 = bwCode (s.get .REF_NOM_NUM 6 r) (s.get .REF_NOM_DEN 6 r) (min (s.get .DPLL_CFG_BW 6 0) 11)))

/-- R285, R288, R290, R292 and R293. -/
def Obligations.DpllLocksHoldsAndRestores : Prop := ∀ (s : State), s.canonical = true → s.due = [] →
  let st := s.get .DPLL_STATUS_STATE 6 0
  let sel := s.get .REFSEL_STATUS_SEL 6 0
  let phase := (signed 32 (s.get .REF_PHASE 6 sel)).natAbs
  let win := s.get .DPLL_LOCK_LOCKWIN 6 0
  (st = dpllAcquire ∧ s.get .REFSEL_STATUS_SWITCHING 6 0 = 0 ∧ phase ≤ win →
    Completes .dpllLock s fun t => t.get .DPLL_STATUS_STATE 6 0 = dpllLocked ∧ t.get .DPLL_HIST_LOCKED 6 0 = 1 ∧
      t.get .HO_LOCKT 6 0 = 0 ∧ t.get .HO_FROZEN 6 0 = 0 ∧ t.get .HO_ACC 6 0 = 0 ∧ t.get .HO_ACCN 6 0 = 0 ∧
      t.get .DPLL_FREQ 6 0 = s.get .DPLL_FREQ 6 0 ∧ t.get .DPLL_PBO 6 0 = s.get .DPLL_PBO 6 0 ∧
      t.get .REFSEL_STATUS_SEL 6 0 = sel ∧ s.SameMem t) ∧
  (¬ (st = dpllAcquire ∧ s.get .REFSEL_STATUS_SWITCHING 6 0 = 0 ∧ phase ≤ win) → exec .dpllLock s = .next s) ∧
  (st = dpllLocked ∧ win < phase →
    Completes .dpllUnlock s fun t => t.get .DPLL_STATUS_STATE 6 0 = dpllAcquire ∧ t.get .DPLL_HIST_ACQUIRE 6 0 = 1 ∧
      t.get .DPLL_FREQ 6 0 = s.get .DPLL_FREQ 6 0 ∧ t.get .DPLL_PBO 6 0 = s.get .DPLL_PBO 6 0 ∧
      t.get .REFSEL_STATUS_SEL 6 0 = sel ∧ s.SameMem t) ∧
  (¬ (st = dpllLocked ∧ win < phase) → exec .dpllUnlock s = .next s) ∧
  (sel < 10 → st = dpllLocked → s.get .REFSEL_STATUS_SWITCHING 6 0 = 0 → s.get .REFSEL_CFG_MODE 6 0 = 0 → s.get .REF_CFG_EN 6 sel = 1 →
    s.get .REF_LIVE_LOS 6 sel = 0 → (∀ q, q < 10 → (s.get .REF_LIVE_QUAL 6 q = 1 ↔ q = sel)) → Completes (.refLos sel) s fun t =>
      t.get .DPLL_STATUS_STATE 6 0 = dpllHold ∧ t.get .REFSEL_STATUS_SEL 6 0 = refNone ∧ t.Raised .REFSEL_SEL_LOST 6 0 ∧
      t.live 6 0 .REFSEL_HOLDOVER = true ∧
      (s.live 6 0 .REFSEL_HOLDOVER = false → s.get .FLT_FIRST_VALID 6 (FaultName.REFSEL_HOLDOVER.set 0) = 0 →
        t.get .FLT_FIRST_CODE 6 (FaultName.REFSEL_HOLDOVER.set 0) = FaultName.REFSEL_HOLDOVER.code ∧
        t.get .FLT_FIRST_CONCURRENT 6 (FaultName.REFSEL_HOLDOVER.set 0) = 1) ∧ t.get .DPLL_PBO 6 0 = s.get .DPLL_PBO 6 0 ∧
      t.get .DPLL_FREQ 6 0 = if s.get .DPLL_STATUS_HOVALID 6 0 = 1 then s.get .DPLL_HOFREQ 6 0 else s.get .DPLL_FREQ 6 0) ∧
  (let n := min 100 (s.get .HO_LOCKT 6 0 + 1)
   let i := s.get .HO_UPD 6 0
   let mean := unsigned 32 s.hoMean
   let u := (s.put .HO_AVG 6 i mean).put .HO_UPD 6 0 ((i + 1) % 100)
   let l := [((⟨.HO_LOCKT, 6, 0⟩, n) : Loc × Nat), (⟨.HO_AVG, 6, i⟩, mean), (⟨.HO_UPD, 6, 0⟩, (i + 1) % 100), (⟨.HO_ACC, 6, 0⟩, 0),
     (⟨.HO_ACCN, 6, 0⟩, 0)]
   (st = dpllLocked → s.get .HO_FROZEN 6 0 = 0 → n < 10 → Does .holdoverUpdate s l) ∧
   (st = dpllLocked → s.get .HO_FROZEN 6 0 = 0 → 10 ≤ n →
     Does .holdoverUpdate s (l ++ [(⟨.DPLL_HOFREQ, 6, 0⟩, unsigned 32 (u.hoAverage n)), (⟨.DPLL_STATUS_HOVALID, 6, 0⟩, 1)])) ∧
   (st ≠ dpllLocked ∨ s.get .HO_FROZEN 6 0 = 1 → exec .holdoverUpdate s = .next s)) ∧
  (∀ (sum : Int) (n : Nat), 0 < n → sum - n < meanPpt sum n * n ∧ meanPpt sum n * n < sum + n) ∧
  (s.get .DPLL_STATUS_XOSRC 6 0 = 1 ∨ s.get .IN_PORST 6 0 = 1 → exec .xoLost s = .next s) ∧
  (s.get .DPLL_STATUS_XOSRC 6 0 = 0 → s.get .IN_PORST 6 0 = 0 → Completes .xoLost s fun t => t.get .DPLL_STATUS_XOSRC 6 0 = 1 ∧ t.get .DPLL_HIST_XO_LOST 6 0 = 1 ∧
    t.live 6 0 .REFSEL_XO_LOST = true ∧ t.get .DPLL_FREQ 6 0 = s.get .DPLL_FREQ 6 0 ∧ t.get .DPLL_PBO 6 0 = s.get .DPLL_PBO 6 0 ∧ s.SameMem t) ∧
  (∀ ph, ph < 2 ^ 32 → (s.get .DPLL_STATUS_XOSRC 6 0 = 0 → exec (.xoRestore ph) s = .next s) ∧
    (s.get .DPLL_STATUS_XOSRC 6 0 = 1 → Completes (.xoRestore ph) s fun t => t.get .DPLL_STATUS_XOSRC 6 0 = 0 ∧
      t.get .DPLL_PBO 6 0 = (s.get .DPLL_PBO 6 0 + ph) % 2 ^ 32 ∧ t.get .DPLL_FREQ 6 0 = s.get .DPLL_FREQ 6 0 ∧ s.SameMem t)) ∧
  (∀ n d x, d ≠ 0 → d ≤ n → x ≤ 11 →
    let c := bwCode n d x
    c ≤ x ∧ (c ≠ 0 → bandwidth c * 10 * d ≤ 1000 * n) ∧ ∀ k, c < k → k ≤ x → 1000 * n < bandwidth k * 10 * d) ∧
  (let p := signed 32 (s.get .DPLL_PBO 6 0)
   let t := s.slewTick
   let q := signed 32 (t.get .DPLL_PBO 6 0)
   t.get .DPLL_FREQ 6 0 = s.get .DPLL_FREQ 6 0 ∧ (s.slewRate = 0 → t.get .DPLL_STATUS_REALIGNING 6 0 = 0 ∧ q = p) ∧
     (s.slewRate ≠ 0 → t.get .DPLL_STATUS_REALIGNING 6 0 = 1 ∧ (q = p ∨ (0 < p ∧ q = p - 1) ∨ (p < 0 ∧ q = p + 1))))

/-- R295 and R296. -/
def Obligations.FrameOutputsPlaceTheirEdges : Prop := ∀ (s : State) (o : Nat), o < 4 → s.canonical = true → s.due = [] →
  (s.dieClocked 6 = false → (∀ a b c, exec (.frameOutEnable o a b c) s = .next s) ∧ exec (.frameOutDisable o) s = .next s ∧
    ∀ w x, exec (.frameOutRealign o w x) s = .next s) ∧
  (s.dieClocked 6 = true → ∀ pol sq src, pol < 2 → sq < 2 → src < 16 →
    let bad := rateOk (s.get .FO_NUM 6 o) (s.get .FO_DEN 6 o) = false ∨ 10 ≤ src ∨ s.get .REF_CFG_EN 6 src = 0
    (s.get .FO_CFG_EN 6 o = 1 → ¬ bad → exec (.frameOutEnable o pol sq src) s = .next s) ∧
    (bad → Does (.frameOutEnable o pol sq src) s [(⟨.FO_STATUS_BADCFG, 6, o⟩, 1)]) ∧
    (s.get .FO_CFG_EN 6 o = 0 → ¬ bad → Does (.frameOutEnable o pol sq src) s [(⟨.FO_CFG_EN, 6, o⟩, 1), (⟨.FO_CFG_POL, 6, o⟩, pol),
      (⟨.FO_CFG_SQUARE, 6, o⟩, sq), (⟨.FO_CFG_SRC, 6, o⟩, src), (⟨.FO_STATUS_STATE, 6, o⟩, foWait), (⟨.FO_REALIGN, 6, o⟩, 0)])) ∧
  (s.dieClocked 6 = true → Does (.frameOutDisable o) s [(⟨.FO_CFG_EN, 6, o⟩, 0), (⟨.FO_STATUS_STATE, 6, o⟩, foOff)]) ∧
  (s.dieClocked 6 = true → ∀ w x, w < 2 → x < 2 ^ 32 →
    Does (.frameOutRealign o w x) s [(⟨.FO_OFFSET, 6, o⟩, if w = 1 then x else s.get .FO_OFFSET 6 o),
      (⟨.FO_REALIGN, 6, o⟩, if s.get .FO_CFG_EN 6 o = 1 then 1 else s.get .FO_REALIGN 6 o)]) ∧
  (s.get .FO_HIGH 6 o = 1 → Does (.frameOutEdge o) s [(⟨.FO_HIGH, 6, o⟩, 0)]) ∧
  (s.get .FO_HIGH 6 o = 0 → s.get .FO_STATUS_STATE 6 o < 2 → exec (.frameOutEdge o) s = .next s) ∧
  (s.get .FO_HIGH 6 o = 0 → 2 ≤ s.get .FO_STATUS_STATE 6 o →
    let planned := signed 128 (s.get .FO_NEXT 6 o)
    let now : Int := 2 * (s.capture 6 : Int) * s.get .FO_NUM 6 o
    let p := if now ≤ planned ∧ planned < now + 2 * s.get .FO_NUM 6 o then planned else now
    let width := if s.get .FO_CFG_SQUARE 6 o = 1 then 1000000000 * s.get .FO_DEN 6 o else s.get .FO_WIDTH 6 o * s.get .FO_NUM 6 o
    Does (.frameOutEdge o) s [(⟨.FO_HIGH, 6, o⟩, 1), (⟨.FO_FALL, 6, o⟩, unsigned 128 (p + width)),
      (⟨.FO_NEXT, 6, o⟩, unsigned 128 (p + 2000000000 * s.get .FO_DEN 6 o))]) ∧
  (∀ base least : Int, ∀ period : Nat, 0 < period →
    least ≤ gridFrom base least period ∧ gridFrom base least period < least + period ∧ (period : Int) ∣ gridFrom base least period - base) ∧
  (∀ r d ph errs, r < 8 → (d = 6 ∨ d = 7) → ph < 2 ^ 32 → s.get .REF_CFG_EN 6 r = 1 → s.get .REF_RAWP 6 r = 1 →
    s.get .REF_LIVE_OVERRATE 6 r = 0 → (s.get .REF_RAW 6 r + s.get .REF_CFG_POL 6 r) % 2 = 1 → s.get .REFSEL_STATUS_SEL 6 0 ≠ r →
    s.get .FO_CFG_SRC 6 o = r → s.get .FO_STATUS_STATE 6 o = foWait → Completes (.inputEdgeAccept 0 d r ph errs) s fun t =>
      t.get .FO_STATUS_STATE 6 o = foRun ∧ t.get .FO_REALIGN 6 o = 0 ∧ t.get .FO_NEXT 6 o = unsigned 128 (gridFrom
        ((2 * s.get .REF_RAWT 6 r + signed 32 (s.get .FO_OFFSET 6 o)) * s.get .FO_NUM 6 o)
        (2 * (s.capture 6 + 1000) * s.get .FO_NUM 6 o) (2000000000 * s.get .FO_DEN 6 o)) ∧ s.SameMem t)

/-- R302, R304, R305, R307, R310, R311, R462 and R464; that a lock timeout in boot's steps 2 and 3 is treated like one in step 4 is the
model's choice (log entry 152). -/
def Obligations.MdllLosesAndLocks : Prop := ∀ (s : State) (d : Nat) (lost : List (Nat × Msg)), d < 8 → s.canonical = true →
  let st := s.get .MDLL_STATUS_STATE d 0
  let act := fun t : State => s.get .THERM_STATUS_TRIPPED d 0 = 0 → t.get .MDLL_STATUS_OUT d 0 = if s.get .MDLL_CFG d 0 = 1 then outBypass else outGated
  let down := fun t : State => ∀ l, l < linkCount d → t.get .LINK_STATUS_STATE d l = 0
  (st ≠ mdllLocked → exec (.mdllRelock d lost) s = .next s ∧ exec (.mdllLol d lost) s = .next s) ∧
  (st = mdllLocked → Completes (.mdllRelock d lost) s fun t => t.get .MDLL_STATUS_STATE d 0 = mdllSearch ∧ t.get .MDLL_STATUS_SEARCHES d 0 = 0 ∧
    act t ∧ down t ∧ s.SameMem t ∧ (s.get .MDLL_CFG d 0 = 1 → s.get .THERM_STATUS_TRIPPED d 0 = 0 → t.get .MDLL_HIST_BYPASSED d 0 = 1 ∧
      t.live d 0 .MDLL_BYPASS = true)) ∧
  (st = mdllLocked → Completes (.mdllLol d lost) s fun t => t.get .MDLL_STATUS_STATE d 0 = mdllSearch ∧ t.get .MDLL_HIST_LOL d 0 = 1 ∧
    act t ∧ down t ∧ s.SameMem t ∧ t.live d 0 .MDLL_LOL = true ∧ (s.live d 0 .MDLL_LOL = false → t.Raised .MDLL_LOL d 0)) ∧
  (st = mdllNoref → exec (.mdllRefloss d lost) s = .next s) ∧
  (st ≠ mdllNoref → Completes (.mdllRefloss d lost) s fun t => t.get .MDLL_STATUS_STATE d 0 = mdllNoref ∧ t.get .MDLL_STATUS_OUT d 0 = outGated ∧
    t.get .MDLL_HIST_LOL d 0 = 1 ∧ t.get .MDLL_HIST_REFLOSS d 0 = 1 ∧ t.live d 0 .MDLL_LOL = true ∧ t.live d 0 .MDLL_REFLOSS = true ∧
    down t ∧ s.SameMem t) ∧
  (s.get .REFCLK_OK d 0 = 1 → exec (.refclkReturn d) s = .next s) ∧
  (s.get .REFCLK_OK d 0 = 0 → Completes (.refclkReturn d) s fun t => t.get .MDLL_STATUS_STATE d 0 = mdllSearch ∧ t.get .REFCLK_OK d 0 = 1 ∧
    s.SameMem t ∧ (s.get .THERM_STATUS_TRIPPED d 0 = 0 → t.get .MDLL_STATUS_OUT d 0 = if s.get .MDLL_COMPAT d 0 = 1 then outBypass else s.get .MDLL_STATUS_OUT d 0)) ∧
  (∀ band limit, band < 16 → limit < 2 → (st ≠ mdllSearch → exec (.mdllSearchEnd d band limit) s = .next s) ∧
    (st = mdllSearch → Completes (.mdllSearchEnd d band limit) s fun t => t.get .MDLL_STATUS_BAND d 0 = band ∧
      t.get .MDLL_STATUS_SEARCHES d 0 = min (s.get .MDLL_STATUS_SEARCHES d 0 + 1) 3 ∧
      t.get .MDLL_STATUS_STATE d 0 = (if limit = 0 then mdllAlign else mdllSearch) ∧
      (s.get .MDLL_STATUS_SEARCHES d 0 ≠ 0 → t.get .MDLL_HIST_MULTI d 0 = 1 ∧ t.Raised .MDLL_MULTISEARCH d 0) ∧
      (s.get .MDLL_STATUS_SEARCHES d 0 = 0 → s.Within t [⟨.MDLL_STATUS_BAND, d, 0⟩, ⟨.MDLL_STATUS_SEARCHES, d, 0⟩, ⟨.MDLL_STATUS_STATE, d, 0⟩]))) ∧
  (∀ pherr, pherr < 2 ^ 16 → (st ≠ mdllAlign ∨ 10 < (signed 16 pherr).natAbs → exec (.mdllLockComplete d pherr) s = .next s) ∧
    (st = mdllAlign → (signed 16 pherr).natAbs ≤ 10 →
      (s.get .BOOT_STEP 6 0 = 2 → s.get .BOOT_WAIT 6 0 = 2 ^ d → s.get .THERM_STATUS_TRIPPED d 0 = 0) → Completes (.mdllLockComplete d pherr) s fun t => t.get .MDLL_STATUS_STATE d 0 = mdllLocked ∧
      t.get .MDLL_LOCKCNT d 0 = (s.get .MDLL_LOCKCNT d 0 + 1) % 2 ^ 32 ∧ t.get .MDLL_PHERR d 0 = pherr ∧
      t.get .MDLL_LOCKTIME d 0 = (s.capture d - s.get .MDLL_T0 d 0) % 2 ^ 32 ∧
      t.get .MDLL_STATUS_OUT d 0 = (if s.get .THERM_STATUS_TRIPPED d 0 = 1 then outGated else outMdll) ∧
      (s.get .MDLL_AFTERLOSS d 0 = 1 → t.Raised .MDLL_RELOCKED d 0) ∧ s.SameMem t ∧
      (s.get .BOOT_STEP 6 0 = 2 → s.get .BOOT_WAIT 6 0 = 2 ^ d → t.get .BOOT_STEP 6 0 = 3 ∧ bitAt (t.get .BOOT_WAIT 6 0) d = 1 ∧
        (s.get .LF_STATUS_BUSY d 0 = 0 → t.get .LF_STATUS_BUSY d 0 = 1 ∧ t.get .LF_RUNALL d 0 = 1 ∧ t.get .LF_RUNMODE d 0 = 0)) ∧
      (s.get .BOOT_STEP 6 0 = 4 → s.get .BOOT_WAIT 6 0 = 2 ^ d → t.get .BOOT_STEP 6 0 = 5) ∧
      (s.get .BOOT_STEP 6 0 ∈ [2, 4] → s.get .BOOT_WAIT 6 0 ≠ 2 ^ d → t.get .BOOT_STEP 6 0 = s.get .BOOT_STEP 6 0 ∧
        bitAt (t.get .BOOT_WAIT 6 0) d = 0) ∧
      ((∀ c, c ∈ s.conds → c.die ≠ d) → t.live d 0 .MDLL_LOL = false) ∧
      (s.get .THERM_STATUS_TRIPPED d 0 = 0 → 5 ≤ s.get .BOOT_STEP 6 0 → ∀ l c k, l < linkCount d → linkPeer d l = some (c, k) → s.get .MDLL_STATUS_OUT c 0 = outMdll →
        t.get .LINK_STATUS_STATE d l = 1 ∧ t.get .LINK_STATUS_STATE c k = 1))) ∧
  (s.dieClocked d = false → (∀ m, Msg.taker m = some d → s.nextOn m = false) ∧ ∀ m all nw bank, exec (.lfStart d m all nw bank) s = .next s) ∧
  (st = mdllLocked ∨ s.get .IN_PORST 6 0 = 1 → exec (.mdllLockTimeout d) s = .next s) ∧
  (st ≠ mdllLocked → s.get .IN_PORST 6 0 = 0 → (s.get .BOOT_STEP 6 0 ∈ [2, 3, 4] → s.get .BOOT_WAIT 6 0 ≠ 2 ^ d) → Completes (.mdllLockTimeout d) s fun t => t.get .MDLL_STATUS_OUT d 0 = outGated ∧ s.SameMem t ∧
    t.live d 0 (if s.get .REFCLK_OK d 0 = 0 then .MDLL_REFLOSS else .MDLL_LOL) = true ∧
    (s.get .BOOT_STEP 6 0 ∈ [2, 3, 4] → t.get .BOOT_STEP 6 0 = s.get .BOOT_STEP 6 0 ∧ bitAt (t.get .BOOT_WAIT 6 0) d = 0)) ∧
  (st ≠ mdllLocked → s.get .IN_PORST 6 0 = 0 → s.get .BOOT_STEP 6 0 = 4 → s.get .BOOT_WAIT 6 0 = 2 ^ d → Completes (.mdllLockTimeout d) s fun t =>
    t.get .BOOT_STEP 6 0 = 5 ∧ t.get .MDLL_STATUS_OUT d 0 = outGated ∧ s.SameMem t)

/-- R312, R313, R316, R319, R323 and R325. -/
def Obligations.MacModesLinksAndStamps : Prop := ∀ (s : State) (d m : Nat), (d = 6 ∨ d = 7) → m < 4 → s.canonical = true →
  let old := s.get .MAC_CFG_MODE d m
  (s.dieClocked d = false → (∀ c, exec (.macModeWrite d m c) s = .next s) ∧ exec (.anrestart d m) s = .next s ∧
    (∀ q x, exec (.txqPiWrite d m q x) s = .next s) ∧ (∀ a l w, exec (.macReset d m a l w) s = .next s) ∧ exec (.clrTsovf d m) s = .next s ∧
    exec (.tsfPop d m) s = .next s) ∧
  (s.dieClocked d = true → ∀ cfg, cfg < 2 ^ 22 →
    let mode := bitsAt cfg 0 3
    let fec := bitsAt cfg 3 2
    let bad := ¬ (mode = 0 ∨ (mode ≤ 2 ∧ fec = 0) ∨ (mode = 3 ∧ fec ≤ 1) ∨ (mode = 4 ∧ fec ≤ 2)) ∨
      (old ≠ 0 ∧ mode ≠ 0 ∧ (mode ≠ old ∨ fec ≠ s.get .MAC_CFG_FEC d m))
    let fields := [((⟨.MAC_CFG_MODE, d, m⟩ : Loc), mode), (⟨.MAC_CFG_FEC, d, m⟩, fec), (⟨.MAC_CFG_RXPAUSE, d, m⟩, bitAt cfg 5),
      (⟨.MAC_CFG_GUARD, d, m⟩, bitAt cfg 6), (⟨.MAC_CFG_PROMISC, d, m⟩, bitAt cfg 7), (⟨.MAC_CFG_MAXLEN, d, m⟩, bitsAt cfg 8 14)]
    (bad → Does (.macModeWrite d m cfg) s [(⟨.MAC_STATUS_BADCFG, d, m⟩, 1)]) ∧
    (¬ bad → (mode ≠ 0 ∨ old = 0) → ¬ (old = 0 ∧ (mode = 1 ∨ mode = 2)) → Does (.macModeWrite d m cfg) s fields) ∧
    (¬ bad → old = 0 → (mode = 1 ∨ mode = 2) → Does (.macModeWrite d m cfg) s (fields ++ [(⟨.MAC_AN, d, m⟩, 1)])) ∧
    (mode = 0 → old ≠ 0 → Completes (.macModeWrite d m cfg) s fun t => t.get .MAC_CFG_MODE d m = 0 ∧ t.get .MAC_STATUS_LINK d m = 0 ∧
      t.admitted d m = [] ∧ t.onLine d m = none ∧ t.get .MAC_STATUS_PAUSED d m = 0 ∧ s.SameMem t ∧
      (s.get .MAC_STATUS_LINK d m = 1 → t.get .MAC_STATUS_LINKCHG d m = 1 ∧ t.live d m .MAC_LINK_DOWN = true))) ∧
  (old ≠ 1 → old ≠ 2 → exec (.anrestart d m) s = .next s) ∧
  (s.dieClocked d = true → old = 1 ∨ old = 2 → Does (.anrestart d m) s [(⟨.MAC_STATUS_ANDONE, d, m⟩, 0), (⟨.MAC_AN, d, m⟩, 1)]) ∧
  (∀ up, up < 2 → (old = 0 → exec (.macLinkChange d m up) s = .next s) ∧
    (up = 1 → s.macRuns d = false → exec (.macLinkChange d m up) s = .next s) ∧
    (old ≠ 0 → (up = 1 → s.macRuns d = true) → s.get .MAC_STATUS_LINK d m ≠ up → s.admitted d m = [] → Completes (.macLinkChange d m up) s fun t =>
      t.get .MAC_STATUS_LINK d m = up ∧ t.get .MAC_STATUS_LINKCHG d m = 1 ∧ s.SameMem t ∧
      (up = 1 → t.get .MAC_STATUS_ANDONE d m = if old ≤ 2 then 1 else 0) ∧ (up = 0 → t.live d m .MAC_LINK_DOWN = true)) ∧
    (∀ f, old ≠ 0 → up = 0 → s.admitted d m = [f] → f.host = 0 → f.bad = false → Completes (.macLinkChange d m up) s fun t =>
      t.get .MAC_STATUS_LINK d m = 0 ∧ t.admitted d m = [] ∧ t.get .TX_ABORT d m = min (s.get .TX_ABORT d m + 1) (2 ^ 32 - 1) ∧ s.SameMem t)) ∧
  (s.dieClocked d = true → ∀ q idx, q < 8 → idx < 4096 → Does (.txqPiWrite d m q idx) s
    [(⟨.TXQ_PI, d, m * 8 + q⟩, idx % 2 ^ (min (s.get .TXQ_SIZE d (m * 8 + q)) 9 + 3))]) ∧
  (s.macRuns d = false → exec (.pauseExpiry d m) s = .next s) ∧
  (s.macRuns d = true → Does (.pauseExpiry d m) s [(⟨.MAC_STATUS_PAUSED, d, m⟩, 0), (⟨.MAC_PAUSET, d, m⟩, 0)]) ∧
  (s.dieClocked d = true → Does (.clrTsovf d m) s [(⟨.MAC_TSF_OVF, d, m⟩, 0)]) ∧
  (let mine := fun e : TsfEntry => e.die == d && e.mac == m
   (s.dieClocked d = true → s.tsf.find? mine = none →
     Does (.tsfPop d m) s [(⟨.MAC_TSF_INFO_VALID, d, m⟩, 0), (⟨.MAC_TSF_INFO_SEQ, d, m⟩, 0), (⟨.MAC_TSF_INFO_DEPTH, d, m⟩, 0)]) ∧
   ∀ e, s.dieClocked d = true → s.tsf.find? mine = some e → Completes (.tsfPop d m) s fun t => t.tsf = s.tsf.erase e ∧ t.get .MAC_TSF_INFO_VALID d m = 1 ∧
    t.get .MAC_TSF_INFO_SEQ d m = e.seq % 2 ^ 16 ∧ t.get .MAC_TSF_INFO_QUEUE d m = e.queue % 8 ∧ t.get .MAC_TSF_NS d m = e.ns % 2 ^ 30 ∧
    t.get .MAC_TSF_S d m = e.sec % 2 ^ 32 ∧ t.get .MAC_TSF_INFO_DEPTH d m = ((s.tsf.filter mine).length - 1) % 64 ∧ s.SameMem t) ∧
  (∀ addr w, s.dieClocked d = true → addr < 2 ^ 24 → (∀ f, f ∈ s.macTx ++ s.macLine → f.die = d → f.mac = m → f.host = 0) →
    Completes (.macReset d m addr 0 w) s fun t => t.admitted d m = [] ∧ t.onLine d m = none ∧ s.SameMem t ∧ t.get .MAC_PAUSEQ d m = 0 ∧
      t.get .TX_ABORT d m = min (s.get .TX_ABORT d m + (s.admitted d m).length + (s.macLine.filter fun f => f.die == d && f.mac == m).length) (2 ^ 32 - 1) ∧
      ∀ q, q < 8 → t.get .TXQ_CI d (m * 8 + q) = s.get .TXQ_PI d (m * 8 + q) ∧ t.get .TXQ_PI d (m * 8 + q) = s.get .TXQ_PI d (m * 8 + q))

/-- R314 to R318, R324 and R331. The model's choices: what counts in the buffer (log entry 127), where a frame's first bit stands (129), the
number of a descriptor whose frame had none (37), the bits of a descriptor that are no fields (147). -/
def Obligations.FramesAreAdmittedAndSentByPriority : Prop := ∀ (s : State) (d m : Nat), (d = 6 ∨ d = 7) → m < 4 → s.canonical = true →
  (∀ q k, q < 8 → k < 128 →
    let offer := s.built.find? fun p => p.die == d && p.stream == k && p.mac == m && p.queue == q
    let i := Instr.macFrameAdmit d m q (k + 1)
    (offer = none ∨ s.macRuns d = false → exec i s = .next s) ∧
    (∀ p, offer = some p → s.macRuns d = true →
      let b := pad60 p.bytes
      b.length = max 60 p.bytes.length ∧ b.take p.bytes.length = p.bytes ∧
      (p.gated = true → Completes i s fun t => t.built = s.built.erase p ∧ t.get .STX_GATED d k = min (s.get .STX_GATED d k + 1) (2 ^ 32 - 1) ∧
        t.macTx = s.macTx ∧ s.SameMem t) ∧
      (p.gated = false → s.txBytes d m + b.length ≤ 262144 → s.get .MAC_CFG_MODE d m ≠ 0 → s.get .MAC_STATUS_LINK d m = 1 →
        (∀ f, f ∈ s.macTx → f.bad = false) → Completes i s fun t => t.built = s.built.erase p ∧
          t.macTx = s.macTx ++ [MacFrame.mk d m q 0 0 b false 0 false 0 0 0 false] ∧ { t with built := s.built, macTx := s.macTx } = s) ∧
      (p.gated = false → 262144 < s.txBytes d m + b.length ∨ s.get .MAC_CFG_MODE d m = 0 → Completes i s fun t => t.built = s.built.erase p ∧ t.macTx = s.macTx ∧
        t.get .STX_DROP d k = min (s.get .STX_DROP d k + 1) (2 ^ 32 - 1) ∧ t.Raised .STREAM_TX_DROP d 0 ∧ s.SameMem t))) ∧
  (∀ q, q < 8 →
    let x := m * 8 + q
    let i := s.get .TXQ_FETCH d x
    let r := s.macReadBytes d m (s.get .TXQ_BASE d x * 32 + i * 32) 2 32
    let f := r.1.txFrame d m q i r.2
    (s.macRuns d = false ∨ s.get .MAC_CFG_MODE d m = 0 ∨ i = s.get .TXQ_PI d x → exec (.macFrameAdmit d m q 0) s = .next s) ∧
    (s.macRuns d = true → s.get .MAC_CFG_MODE d m ≠ 0 → i ≠ s.get .TXQ_PI d x →
      (262144 < f.1.txBytes d m + f.2.bytes.length → exec (.macFrameAdmit d m q 0) s = .next s) ∧
      (f.1.txBytes d m + f.2.bytes.length ≤ 262144 → f.1.get .MAC_STATUS_LINK d m = 1 → (∀ g, g ∈ f.2 :: f.1.macTx → g.bad = false) →
        Completes (.macFrameAdmit d m q 0) s fun t => t.macTx = f.1.macTx ++ [f.2] ∧
          t.get .TXQ_FETCH d x = (i + 1) % 2 ^ (min (s.get .TXQ_SIZE d x) 9 + 3) % 4096))) ∧
  (s.get .MAC_STATUS_PAUSED d m = 1 → s.nextFrame d m = none) ∧
  (∀ f, s.nextFrame d m = some f → f ∈ s.macTx ∧ f.die = d ∧ f.mac = m ∧ f.queue < 8 ∧ f.bad = false ∧ s.queueHead d m f.queue = some f ∧
    (f.timed = true → f.launch ≠ 0) ∧ ∀ q g, f.queue < q → q < 8 → s.queueHead d m q = some g → g.timed = true ∧ g.launch = 0) ∧
  (∀ q, q < 8 →
    (s.queueHead d m q = none → exec (.launchTimeReached d m q) s = .next s) ∧
    ∀ f, s.queueHead d m q = some f →
      let reached := phcReached (s.phcNow d) (f.lsec, f.lns)
      (f.timed = false ∨ f.launch ≠ 0 ∨ reached = false → exec (.launchTimeReached d m q) s = .next s) ∧
      (f.timed = true → f.launch = 0 → reached = true → Completes (.launchTimeReached d m q) s fun t => { t with macTx := s.macTx } = s ∧
        t.queueHead d m q = some { f with launch := if s.onLine d m = none ∧ s.get .MAC_STATUS_PAUSED d m = 0 then 1 else 2 })) ∧
  (∀ dev, dev < 11 →
    let st := s.macStamp d m 8 dev
    (5 ≤ s.phcNs d → s.phcNs d + 100 < 2 ^ 48 * 10 ^ 9 →
      ((st.1 * 10 ^ 9 + st.2 : Nat) : Int) = s.phcNs d + 8 * byteTime (s.get .MAC_CFG_MODE d m) / 100 + dev - 5 ∧ st.2 < 10 ^ 9) ∧
    (s.macRuns d = false ∨ s.onLine d m ≠ none ∨ s.nextFrame d m = none → exec (.macTxStart d m dev) s = .next s) ∧
    ∀ f, s.macRuns d = true → s.onLine d m = none → s.nextFrame d m = some f →
      (s.guarded d m f.bytes.length = true → exec (.macTxStart d m dev) s = .next s) ∧
      (s.get .MAC_CFG_GUARD d m = 0 → Completes (.macTxStart d m dev) s fun t => t.macTx = s.macTx.erase f ∧ s.SameMem t ∧
        t.macLine = s.macLine ++ [{ f with seq := if f.tsreq then s.get .MAC_TSEQ d m + 1 else 0, bytes := f.bytes ++ natBytes 4 (crc32 f.bytes) }] ∧
        t.get .MAC_TSEQ d m = (s.get .MAC_TSEQ d m + (if f.tsreq then 1 else 0)) % 2 ^ 16 ∧
        (f.tsreq = true → (s.tsf.filter fun e => e.die == d && e.mac == m).length < 64 → t.tsf = s.tsf ++ [⟨d, m, s.get .MAC_TSEQ d m, f.queue, st.1, st.2⟩]) ∧
        (f.tsreq = true → 64 ≤ (s.tsf.filter fun e => e.die == d && e.mac == m).length → t.tsf = s.tsf ∧ t.get .MAC_STATUS_TSOVF d m = 1 ∧
          t.get .MAC_TSF_OVF d m = min (s.get .MAC_TSF_OVF d m + 1) (2 ^ 16 - 1) ∧ t.Raised .MAC_TSF_OVF d m) ∧
        (f.launch = 2 → t.get .TX_LAUNCH_LATE d m = min (s.get .TX_LAUNCH_LATE d m + 1) (2 ^ 32 - 1) ∧ t.Raised .MAC_LAUNCH_LATE d m))) ∧
  (s.macRuns d = false ∨ s.onLine d m = none → exec (.macTxComplete d m) s = .next s) ∧
  (∀ f, s.macRuns d = true → s.onLine d m = some f → s.admitted d m = [] →
    (f.host = 0 → Completes (.macTxComplete d m) s fun t => t.macLine = s.macLine.erase f ∧ t.get .TX_FRAMES d m = (s.get .TX_FRAMES d m + 1) % 2 ^ 32 ∧
      s.SameMem t ∧ let p := s.get .MAC_PAUSEQ d m
      t.get .MAC_PAUSEQ d m = 0 ∧ (p ≠ 0 → t.get .MAC_STATUS_PAUSED d m = if p = 1 then 0 else 1)) ∧
    (f.host = 1 → f.seq ≠ 0 → f.seq ≤ 2 ^ 16 → f.queue < 8 →
      let x := m * 8 + f.queue
      let a := s.get .TXQ_BASE d x * 32 + f.idx * 32 + 16
      a + 4 ≤ 2 ^ 24 → s.Sound d a → s.wordLocked d a = false → s.Passes (s.request d (9 + m) ((15 * 16 + d) * 2 ^ 32 + a) true 4 0) →
      Completes (.macTxComplete d m) s fun t => t.load d a 4 = (f.seq - 1) + 2 ^ 16 ∧ t.macLine = s.macLine.erase f ∧
        t.get .TXQ_CI d x = (s.get .TXQ_CI d x + 1) % 2 ^ (min (s.get .TXQ_SIZE d x) 9 + 3) % 4096))

/-- R316, R320 to R322, R326, R332 and R333. The model's choices: what RX_FRAMES counts (log entry 49), to whom a PAUSE is (126). -/
def Obligations.ReceivedFramesAreCheckedAndDelivered : Prop := ∀ (s : State) (d m err full dev : Nat) (l : List Nat), (d = 6 ∨ d = 7) → m < 4 →
  err < 2 → full < 2 → dev < 11 → (∀ b, b ∈ l → b < 256) → s.canonical = true →
  let i := Instr.macRxFrame d m l err full dev
  let n := l.length
  let maxlen := if 64 ≤ s.get .MAC_CFG_MAXLEN d m ∧ s.get .MAC_CFG_MAXLEN d m ≤ 9600 then s.get .MAC_CFG_MAXLEN d m else 9600
  let body := l.take (n - 4)
  let good := bytesNat (l.drop (n - 4)) = crc32 body
  let one := fun f : Fld => [((⟨f, d, m⟩ : Loc), min (s.get f d m + 1) (2 ^ 32 - 1))]
  (s.get .WAKE_ONLY 6 0 = 0 →
    (s.get .MAC_CFG_MODE d m = 0 ∨ s.serdesRuns d = false → exec i s = .next s) ∧
    (s.get .MAC_CFG_MODE d m ≠ 0 → s.serdesRuns d = true →
      (n < 64 → Does i s (one .RX_RUNT)) ∧ (64 ≤ n → maxlen < n → Does i s (one .RX_OVSZ)) ∧
      (64 ≤ n → n ≤ maxlen → err = 1 → Does i s (one .RX_ALIGN)) ∧ (64 ≤ n → n ≤ maxlen → err = 0 → ¬ good → Does i s (one .RX_FCS)) ∧
      (64 ≤ n → n ≤ maxlen → err = 0 → good → full = 1 → Completes i s fun t => t.get .RX_OVF d m = min (s.get .RX_OVF d m + 1) (2 ^ 32 - 1) ∧
        t.Raised .MAC_RX_OVF d m ∧ t.get .RX_FRAMES d m = s.get .RX_FRAMES d m ∧ s.SameMem t) ∧
      (64 ≤ n → n ≤ maxlen → err = 0 → good → full = 0 →
        let ctl := (etherType body).1 = 0x8808
        let o := (etherType body).2
        let heed := s.get .MAC_CFG_RXPAUSE d m = 1 ∧ s.pauseForMe d m body = true
        (o = if netNat (slice body 12 2) = 0x8100 then 18 else 14) ∧
        (ctl → netNat (slice body o 2) = 1 → Completes i s fun t => t.get .RX_PAUSE d m = min (s.get .RX_PAUSE d m + 1) (2 ^ 32 - 1) ∧ s.SameMem t ∧
          (¬ heed → t.get .MAC_STATUS_PAUSED d m = s.get .MAC_STATUS_PAUSED d m) ∧
          (heed → s.onLine d m = none →
            t.get .MAC_STATUS_PAUSED d m = if netNat (slice body (o + 2) 2) = 0 then 0 else 1) ∧
          (heed → s.onLine d m ≠ none → t.get .MAC_STATUS_PAUSED d m = s.get .MAC_STATUS_PAUSED d m ∧
            t.get .MAC_PAUSEQ d m = netNat (slice body (o + 2) 2) + 1)) ∧
        (ctl → netNat (slice body o 2) ≠ 1 → Does i s (one .RX_CTRL ++ [(⟨.RX_FRAMES, d, m⟩, (s.get .RX_FRAMES d m + 1) % 2 ^ 32)])) ∧
        (¬ ctl → s.streamFor d m body = none → s.macAccepts d m body = false →
          exec i s = .next s) ∧
        (¬ ctl → ∀ k ip, s.streamFor d m body = some (k, ip) →
          let enc := s.get .SRX_FMT_ENC d k
          let size := if enc = 0 then 2 else if enc = 1 then 3 else 4
          let chans := s.get .SRX_FMT_CHANS d k + 1
          let P := s.get .SRX_FMT_PTIME d k
          let J := 2 ^ s.get .SRX_JBUF_JLOG d k
          let jbuf := s.get .SRX_JBUF_BASE d k * 0x400
          let sum := onesSum (slice ip 0 20)
          let fold := sum % 65536 + sum / 65536
          let bad := fold % 65536 + fold / 65536 ≠ 65535 ∨ netNat (slice ip 6 2) % 2 ^ 14 ≠ 0 ∨ ip.getD 28 0 / 64 ≠ 2 ∨
            ip.getD 29 0 % 128 ≠ s.get .SRX_FMT_PT d k ∨ netNat (slice ip 24 2) ≠ 20 + chans * P * size ∨ ip.length < 40 + chans * P * size
          let seq := netNat (slice ip 30 2)
          let gap := s.get .SRX_SEQV d k = 1 ∧ seq ≠ s.get .SRX_SEQ d k ∧ seq ≠ (s.get .SRX_SEQ d k + 1) % 2 ^ 16
          let c0 := s.get .TB_DOMCNT 6 (s.get .SRX_CFG_DOMAIN d k)
          let first := nearestSample c0 ((netNat (slice ip 32 4) + s.get .SRX_OFS d k) % 2 ^ 32)
          let open' := fun y => c0 ≤ first + y ∧ first + y < c0 + J ∧ s.get .SRX_VALID d (k * 8192 + (first + y) % J) = 0
          k < 128 ∧ s.get .PKT_CFG_EN d 0 = 1 ∧ s.get .SRX_CFG_EN d k = 1 ∧ bitAt (s.get .SRX_CFG_MACMASK d k) m = 1 ∧ ip = body.drop o ∧
          (etherType body).1 = 0x0800 ∧ netNat (slice ip 16 4) = s.get .SRX_MATCH_IP d k ∧ netNat (slice ip 22 2) = s.get .SRX_MATCH_PORT d k ∧
          (s.get .SRX_CFG_SRCCHK d k = 1 → netNat (slice ip 12 4) = s.get .SRX_MATCH_SRC d k) ∧
          (bad → Does i s [(⟨.RX_FRAMES, d, m⟩, (s.get .RX_FRAMES d m + 1) % 2 ^ 32),
            (⟨.SRX_BADHDR, d, k⟩, min (s.get .SRX_BADHDR d k + 1) (2 ^ 32 - 1))]) ∧
          (¬ bad → 6 ≤ s.get .SRX_JBUF_JLOG d k → s.get .SRX_JBUF_JLOG d k ≤ 13 → Completes i s fun t =>
            t.get .RX_FRAMES d m = (s.get .RX_FRAMES d m + 1) % 2 ^ 32 ∧ t.get .SRX_SEQ d k = seq ∧ t.get .SRX_SEQV d k = 1 ∧
            t.get .SRX_SEQGAP d k = (if gap then min (s.get .SRX_SEQGAP d k + 1) (2 ^ 32 - 1) else s.get .SRX_SEQGAP d k) ∧
            t.get .SRX_LATE d k = (if first < c0 then min (s.get .SRX_LATE d k + 1) (2 ^ 32 - 1) else s.get .SRX_LATE d k) ∧
            (first < c0 → t.Raised .STREAM_RX_LATE d 0) ∧
            t.get .SRX_EARLY d k = (if c0 + J < first + P then min (s.get .SRX_EARLY d k + 1) (2 ^ 32 - 1) else s.get .SRX_EARLY d k) ∧
            (∀ y, y < P → open' y → t.get .SRX_VALID d (k * 8192 + (first + y) % J) = 1 ∧ t.get .SRX_STAT_RCVD d k = 1 ∧
              (s.EngineReaches d jbuf (chans * J * 4) → ∀ c, c < chans → t.load d (jbuf + (c * J + (first + y) % J) * 4) 4 =
                rxConvert (if enc = 0 then 16 else 24) (netNat (slice ip (40 + (y * chans + c) * size) size) % 2 ^ (if enc = 0 then 16 else 24)))) ∧
            ((∀ y, y < P → ¬ open' y) → s.SameMem t ∧ t.get .SRX_PKTS d k = s.get .SRX_PKTS d k))) ∧
        (¬ ctl → s.streamFor d m body = none → s.macAccepts d m body = true →
          let size := 2 ^ (min (s.get .RXR_SIZE d m) 9 + 3)
          let pi := s.get .RXR_PI d m
          ((pi + 1) % size = s.get .RXR_CI d m →
            Does i s (one .RX_NOBUF ++ [(⟨.RX_FRAMES, d, m⟩, (s.get .RX_FRAMES d m + 1) % 2 ^ 32)])) ∧
          ((pi + 1) % size ≠ s.get .RXR_CI d m → Completes i s fun t => t.get .RXR_PI d m = (pi + 1) % size % 4096 ∧
            t.get .RX_FRAMES d m = (s.get .RX_FRAMES d m + 1) % 2 ^ 32 ∧ t.get .RXR_CI d m = s.get .RXR_CI d m))))) ∧
  (s.get .WAKE_ONLY 6 0 = 1 →
    (d = 7 ∨ m ≠ 0 ∨ s.get .AON_LANE 6 0 = 0 ∨ n < 4 ∨ ¬ good → exec i s = .next s) ∧
    (d = 6 → m = 0 → s.get .AON_LANE 6 0 = 1 → 4 ≤ n → good → Completes i s fun t =>
      let hit := fun p => bitAt (s.get .MAC_WAKE_CFG_PEN 6 0) p = 1 ∧ s.patternHit 6 p body = true
      (∀ p, p < 8 → (bitAt (t.get .MAC_WAKE_STAT_PHIT 6 0) p = 1 ↔ bitAt (s.get .MAC_WAKE_STAT_PHIT 6 0) p = 1 ∨ hit p)) ∧
      (∀ p, p < 8 → hit p → t.get .WAKE_N_PIN 6 0 = 1) ∧
      s.Within t [⟨.MAC_WAKE_STAT_PHIT, 6, 0⟩, ⟨.MAC_WAKE_STAT_MHIT, 6, 0⟩, ⟨.WAKE_N_PIN, 6, 0⟩]))

/-- R240, R241, R328 to R331, R333 and R335. A receive stream's earlier valid bits are gone at its enable: the model's reading (log entry
38). -/
def Obligations.StreamsEnableBuildAndPlace : Prop := ∀ (s : State) (d k : Nat), (d = 6 ∨ d = 7) → k < 128 → s.canonical = true →
  (∀ D m q, D < 4 → m < 4 → q < 8 →
    let f := rateFs (s.get .DOM_CFG_RATE 6 D)
    let bytes := (s.get .STX_FMT_CHANS d k + 1) * s.get .STX_FMT_PTIME d k * (if s.get .STX_FMT_ENC d k = 0 then 2 else if s.get .STX_FMT_ENC d k = 1 then 3 else 4)
    let load := (s.get .STX_FMT_CHANS d k + 1) * ((f.1 + 100 * f.2 - 1) / (100 * f.2))
    let bad := D = 3 ∨ s.get .STX_FMT_ENC d k = 3 ∨ s.get .STX_FMT_PTIME d k = 0 ∨ 1440 < bytes ∨ s.get .MAC_CFG_MODE d m = 0 ∨ 983040 < s.stxLoad d + load
    let i := Instr.streamTxEnable d k D m q
    (s.get .STX_CFG_EN d k = 1 → exec i s = .next s) ∧
    (s.dieClocked d = true → s.get .STX_CFG_EN d k = 0 → bad → Completes i s fun t => t.get .STX_STAT_BADCFG d k = 1 ∧ t.Raised .STREAM_BADCFG d 0 ∧
      t.get .STX_CFG_EN d k = 0 ∧ t.stx = s.stx ∧ s.SameMem t) ∧
    (s.dieClocked d = true → s.get .STX_CFG_EN d k = 0 → ¬ bad → Completes i s fun t => t.get .STX_CFG_EN d k = 1 ∧ t.get .STX_CFG_DOMAIN d k = D ∧
      t.get .STX_CFG_MAC d k = m ∧ t.get .STX_CFG_QUEUE d k = q ∧ t.get .STX_STAT_RUN d k = 1 ∧ t.get .PKT_TXLOAD d 0 = s.stxLoad d + load ∧
      (t.stxRun d k).isSome = true ∧ s.SameMem t)) ∧
  (∀ D mask sc, D < 4 → mask < 16 → sc < 2 →
    let f := rateFs (s.get .DOM_CFG_RATE 6 D)
    let bytes := (s.get .SRX_FMT_CHANS d k + 1) * s.get .SRX_FMT_PTIME d k * (if s.get .SRX_FMT_ENC d k = 0 then 2 else if s.get .SRX_FMT_ENC d k = 1 then 3 else 4)
    let load := (s.get .SRX_FMT_CHANS d k + 1) * ((f.1 + 100 * f.2 - 1) / (100 * f.2))
    let bad := D = 3 ∨ s.get .SRX_FMT_ENC d k = 3 ∨ s.get .SRX_FMT_PTIME d k = 0 ∨ 1440 < bytes ∨ s.get .SRX_JBUF_JLOG d k < 6 ∨ 13 < s.get .SRX_JBUF_JLOG d k ∨
      (∃ m, m < 4 ∧ bitAt mask m = 1 ∧ s.get .MAC_CFG_MODE d m = 0) ∨ 983040 < s.srxLoad d + load
    let i := Instr.streamRxEnable d k D mask sc
    (s.get .SRX_CFG_EN d k = 1 → exec i s = .next s) ∧
    (s.dieClocked d = true → s.get .SRX_CFG_EN d k = 0 → bad → Completes i s fun t => t.get .SRX_STAT_BADCFG d k = 1 ∧ t.Raised .STREAM_BADCFG d 0 ∧
      t.get .SRX_CFG_EN d k = 0 ∧ s.SameMem t) ∧
    (s.dieClocked d = true → s.get .SRX_CFG_EN d k = 0 → ¬ bad → Completes i s fun t => t.get .SRX_CFG_EN d k = 1 ∧ t.get .SRX_CFG_DOMAIN d k = D ∧
      t.get .SRX_CFG_MACMASK d k = mask ∧ t.get .SRX_CFG_SRCCHK d k = sc ∧ t.get .SRX_STAT_RUN d k = 1 ∧ t.get .SRX_STAT_RCVD d k = 0 ∧
      t.get .PKT_RXLOAD d 0 = s.srxLoad d + load ∧ (∀ x, x < 8192 → t.get .SRX_VALID d (k * 8192 + x) = 0) ∧ s.SameMem t)) ∧
  (s.get .STX_CFG_EN d k = 0 → exec (.streamDisable d 0 k) s = .next s) ∧
  (s.dieClocked d = false → (∀ a b c, exec (.streamTxEnable d k a b c) s = .next s) ∧ (∀ a b c, exec (.streamRxEnable d k a b c) s = .next s) ∧
    ∀ r, exec (.streamDisable d r k) s = .next s) ∧
  (s.dieClocked d = true → s.get .STX_CFG_EN d k = 1 → Completes (.streamDisable d 0 k) s fun t => t.get .STX_CFG_EN d k = 0 ∧ t.get .STX_STOPPING d k = 1 ∧
    t.get .STX_STAT_RUN d k = s.get .STX_STAT_RUN d k ∧ s.Within t [⟨.STX_CFG_EN, d, k⟩, ⟨.STX_STOPPING, d, k⟩, ⟨.PKT_TXLOAD, d, 0⟩]) ∧
  (s.dieClocked d = true → Completes (.streamDisable d 1 k) s fun t => t.get .SRX_CFG_EN d k = 0 ∧ s.Within t [⟨.SRX_CFG_EN, d, k⟩, ⟨.PKT_RXLOAD, d, 0⟩]) ∧
  (let whole := s.stxRun d k = none ∨ ∃ r, s.stxRun d k = some r ∧ r.words = []
   (¬ (s.get .STX_STOPPING d k = 1 ∧ whole) → exec (.streamStop d 0 k) s = .next s) ∧
   (s.get .STX_STOPPING d k = 1 → whole → Completes (.streamStop d 0 k) s fun t => t.get .STX_STAT_RUN d k = 0 ∧ t.stxRun d k = none ∧
    t.get .STX_STOPPING d k = 0 ∧ s.SameMem t)) ∧
  (s.get .SRX_CFG_EN d k = 1 → exec (.streamStop d 1 k) s = .next s) ∧
  (s.get .SRX_CFG_EN d k = 0 → Does (.streamStop d 1 k) s [(⟨.SRX_STAT_RUN, d, k⟩, 0)]) ∧
  (∀ n (template payload : List Nat), (∀ b, b ∈ template → b < 256) → payload.length ≤ 1440 →
    let o := 14 + 4 * s.get .STX_HDR_VLAN d k
    let p := s.stxPacket d k n template payload
    let seq := (s.get .STX_SEQOFS d k + n / s.get .STX_FMT_PTIME d k) % 2 ^ 16
    template.length = o + 40 → p.length = o + 40 + payload.length ∧ p.drop (o + 40) = payload ∧ p.take (o + 2) = template.take (o + 2) ∧
      netNat (slice p (o + 2) 2) = 40 + payload.length ∧ netNat (slice p (o + 4) 2) = seq ∧ netNat (slice p (o + 24) 2) = 20 + payload.length ∧
      netNat (slice p (o + 26) 2) = 0 ∧ netNat (slice p (o + 30) 2) = seq ∧ netNat (slice p (o + 32) 4) = (n + s.get .STX_TSOFS d k) % 2 ^ 32 ∧
      (let v := onesSum (slice p o 20)
       let w := v % 65536 + v / 65536
       w % 65536 + w / 65536 = 65535)) ∧
  (∀ c0 v, v < 2 ^ 32 → let x := nearestSample c0 v
    x % 2 ^ 32 = v ∧ (2 ^ 31 ≤ c0 → x ≤ c0 + 2 ^ 31 ∧ c0 ≤ x + 2 ^ 31)) ∧
  (∀ D meas, D < 3 → s.Edges D → s.ports = [] → s.liveBridges = [] → s.dieClocked d = true → s.get .PKT_CFG_EN d 0 = 1 →
    let B := s.bsize D
    let n := s.get .TB_DOMCNT 6 D
    let n0 := n - n % B
    (∀ r, s.stx = [r] → r.die = d → r.stream = k → (∀ e i, s.get .SRX_STAT_RUN e i ≠ 1) → s.get .STX_CFG_DOMAIN d k = D →
      (r.bn0 = n0 + 1 ∨ n = n0) →
      let chans := s.get .STX_FMT_CHANS d k + 1
      let P := s.get .STX_FMT_PTIME d k
      let enc := s.get .STX_FMT_ENC d k
      let buf := s.get .STX_BUF d k * 0x400 + (n / B + 2) % 4 * (chans * (32 + 4 * B))
      let dec := s.slotDecision D n0
      let fresh := r.bn0 ≠ n0 + 1
      r.lasts.length = chans → s.EngineReaches d buf (chans * (32 + 4 * B)) →
      let now := (List.range chans).map fun c =>
        if dec = 2 then r.lasts.getD c 0 else if dec = 0 then 0 else s.load d (buf + c * (32 + 4 * B) + 32 + 4 * (n % B)) 4
      let words := r.words ++ now.map fun x => txConvert (if enc = 0 then 16 else 24) x 0
      let joins := r.words ≠ [] ∨ (s.get .STX_STOPPING d k = 0 ∧ n % P = 0)
      let whole := joins ∧ chans * P ≤ words.length
      Completes (.domcntIncrement D meas) s fun t =>
        (t.stxRun d k).map (fun q => (q.lasts, q.words)) = some (now, if joins ∧ ¬ whole then words else if whole then [] else r.words) ∧
        t.get .STX_LATE d k = (if fresh ∧ dec = 2 then min (s.get .STX_LATE d k + 1) (2 ^ 32 - 1) else s.get .STX_LATE d k) ∧
        (¬ whole → t.built = s.built) ∧
        (whole → ∃ p, t.built = s.built ++ [p] ∧ p.die = d ∧ p.stream = k ∧ p.mac = s.get .STX_CFG_MAC d k ∧ p.queue = s.get .STX_CFG_QUEUE d k ∧
          (enc < 2 → p.bytes.drop (54 + 4 * s.get .STX_HDR_VLAN d k) = (words.map (netBytes (if enc = 0 then 2 else 3))).flatten)) ∧
        (n % B = B - 1 → r.bn0 = n0 + 1 → dec ≠ 0 → ∀ c, c < chans →
          t.load d (buf + c * (32 + 4 * B)) 32 = headerWord r.bstamp n0 r.bflags c chans 0 (if dec = 2 then B else 0)) ∧
        ((n % B ≠ B - 1 ∨ dec = 0) → s.SameMem t)) ∧
    ((∀ e i, s.get .SRX_STAT_RUN e i = 1 ↔ e = d ∧ i = k) → s.stx = [] → s.get .SRX_CFG_DOMAIN d k = D →
      (s.get .SRX_BN0 d k = n0 + 1 ∨ n = n0) →
      let chans := s.get .SRX_FMT_CHANS d k + 1
      let J := 2 ^ s.get .SRX_JBUF_JLOG d k
      let jbuf := s.get .SRX_JBUF_BASE d k * 0x400
      let buf := s.get .SRX_BUF d k * 0x400 + (n / B + 1) % 4 * (chans * (32 + 4 * B))
      let valid := s.get .SRX_VALID d (k * 8192 + n % J) = 1
      let flags := if s.get .SRX_BN0 d k = n0 + 1 then s.get .SRX_BFLAGS d k else 0
      s.EngineReaches d buf (chans * (32 + 4 * B)) → s.EngineReaches d jbuf (chans * J * 4) →
      (buf + chans * (32 + 4 * B) ≤ jbuf ∨ jbuf + chans * J * 4 ≤ buf) → Completes (.domcntIncrement D meas) s fun t =>
        (∀ c, c < chans → t.load d (buf + c * (32 + 4 * B) + 32 + 4 * (n % B)) 4 =
          if valid then s.load d (jbuf + (c * J + n % J) * 4) 4 else 0) ∧ t.get .SRX_VALID d (k * 8192 + n % J) = 0 ∧
        t.get .SRX_MISS d k = (if ¬ valid ∧ s.get .SRX_STAT_RCVD d k = 1 then min (s.get .SRX_MISS d k + 1) (2 ^ 32 - 1) else s.get .SRX_MISS d k) ∧
        (¬ valid → s.get .SRX_STAT_RCVD d k = 1 → (s.get .SRX_BN0 d k = n0 + 1 → s.get .SRX_MISSD d k = 0) → t.Raised .STREAM_RX_MISS d 0) ∧
        t.get .SRX_BFLAGS d k = flags ||| (if valid then 0 else if s.get .SRX_STAT_RCVD d k = 1 then fLost else fFill) ∧
        (n % B = B - 1 → s.get .SRX_BN0 d k = n0 + 1 → ∀ c, c < chans →
          t.load d (buf + c * (32 + 4 * B)) 32 = headerWord (s.get .SRX_BSTAMP d k) n0 (t.get .SRX_BFLAGS d k) c chans 0 0)))

/-- R338, R339, R341 to R344. That TIMEOUT also runs from the servo's enable is the model's reading (log entry 148). -/
def Obligations.ServoFollowsOffsetsAndAsksForSteps : Prop := ∀ s : State, s.canonical = true → s.due = [] →
  let set := FaultName.set .PTP_FSAT 0
  let offt : Loc × Nat := (⟨.SERVO_OFFT, 6, 0⟩, s.capture 6 % 2 ^ Fld.width .SERVO_OFFT)
  let edge := s.get .TB_SYSCNT 6 0 + 100
  let phc := fun t : State => ∀ f, f ∈ [Fld.PHC_RSEC, .PHC_RNS, .PHC_RFRAC, .PHC_F] → ∀ d, t.get f d 0 = s.get f d 0
  let waits := fun (t : State) (old : List PhcChange) (kind : Nat) (offset : Bool) (val sec ns : Nat) =>
    t.phc = old ++ s.phcDies.map (fun d => PhcChange.mk d edge kind offset val sec ns) ∧ ∀ d, d ∈ s.phcDies → t.get .PTP_STATUS_PEND d 0 = 1
  let top : Int := (min (s.get .SERVO_FMAX 6 0) (2 ^ 31 - 1) : Nat)
  (s.dieClocked 6 = false → ∀ i, i ∈ [Instr.stepAck, .servoClr, .phcSet 6] → exec i s = .next s) ∧
  (s.dieClocked 6 = false → ∀ theta ack, exec (.servoOffsetWrite theta ack) s = .next s) ∧
  (∀ theta, theta < 2 ^ 64 → s.dieClocked 6 = true →
    let th := signed 64 theta
    let inside := th.natAbs ≤ s.get .STEP_THRESH 6 0 * 2 ^ 16
    (∃ u, exec .stepAck s = .next u ∧ exec (.servoOffsetWrite theta true) s = exec (.servoOffsetWrite theta false) u) ∧
    (s.get .SERVO_CFG 6 0 = 0 → Does (.servoOffsetWrite theta false) s [offt]) ∧
    (s.get .SERVO_CFG 6 0 = 1 → inside → ∃ i f : Int,
      ((i - s.sget .SERVO_INT 6 0) * 2 ^ 24 - (s.get .SERVO_KI 6 0 : Int) * th).natAbs < 2 ^ 24 ∧
      ((s.sget .SERVO_FBASE 6 0 - f - max (-top) (min i top)) * 2 ^ 24 - (s.get .SERVO_KP 6 0 : Int) * th).natAbs < 2 ^ 24 ∧
      Completes (.servoOffsetWrite theta false) s fun t => phc t ∧ s.SameMem t ∧
        t.sget .SERVO_INT 6 0 = max (-top) (min i top) ∧ t.sget .SERVO_FREQ 6 0 = max (-top) (min f top) ∧
        waits t (s.phc.filter fun c => !(c.offset && s.phcDies.contains c.die)) 0 true (unsigned 32 (max (-top) (min f top))) 0 0 ∧ t.get .SERVO_FBASE 6 0 = s.get .SERVO_FBASE 6 0 ∧
        t.get .SERVO_STATUS_HOLD 6 0 = 0 ∧ t.get .SERVO_STATUS_STEP_REQ 6 0 = 0 ∧
        (s.get .SERVO_STATUS_STEP_REQ 6 0 = 1 → t.get .SERVO_STATUS_STEP_CANC 6 0 = 1 ∧ t.Raised .PTP_STEP_CANC 6 0 ∧
          (s.OneCond .PTP_STEP_REQ 6 0 Config.noInstance → t.live 6 0 .PTP_STEP_REQ = false)) ∧
        t.get .SERVO_OFFT 6 0 = offt.2 ∧
        (¬ (-top ≤ i ∧ i ≤ top ∧ -top ≤ f ∧ f ≤ top) → t.get .SERVO_STATUS_FSAT 6 0 = 1 ∧ t.Raised .PTP_FSAT 6 0 ∧
          (s.get .FLT_FIRST_VALID 6 set = 0 → t.get .FLT_FIRST_CODE 6 set = FaultName.code .PTP_FSAT ∧
            t.get .FLT_FIRST_CONCURRENT 6 set = s.get .SERVO_STATUS_STEP_REQ 6 0)) ∧
        (s.get .SERVO_LOCK_LOCKTH 6 0 * 2 ^ 16 < th.natAbs → t.get .SERVO_STATUS_LOCK 6 0 = 0 ∧ t.get .SERVO_GOODN 6 0 = 0) ∧
        (th.natAbs ≤ s.get .SERVO_LOCK_LOCKTH 6 0 * 2 ^ 16 → t.get .SERVO_GOODN 6 0 = min 255 (s.get .SERVO_GOODN 6 0 + 1) ∧
          t.get .SERVO_STATUS_LOCK 6 0 = if max 1 (s.get .SERVO_LOCK_LOCKN 6 0) ≤ s.get .SERVO_GOODN 6 0 + 1 then 1 else s.get .SERVO_STATUS_LOCK 6 0) ∧
        (th.natAbs ≤ s.get .SERVO_LOCK_LOCKTH 6 0 * 2 ^ 16 → s.get .SERVO_STATUS_HOLD 6 0 = 0 → s.get .SERVO_STATUS_STEP_REQ 6 0 = 0 →
          -top ≤ i → i ≤ top → -top ≤ f → f ≤ top → s.SameBut t [.SERVO_INT, .SERVO_FREQ, .PTP_STATUS_PEND, .REF_NE,
            .SERVO_GOODN, .SERVO_STATUS_LOCK, .SERVO_OFFT])) ∧
    (s.get .SERVO_CFG 6 0 = 1 → ¬ inside → s.get .SERVO_STATUS_STEP_REQ 6 0 = 0 → Completes (.servoOffsetWrite theta false) s fun t => phc t ∧
      s.SameMem t ∧ t.get .SERVO_STATUS_STEP_REQ 6 0 = 1 ∧ t.get .STEP_VAL 6 0 = theta ∧ t.get .SERVO_STATUS_LOCK 6 0 = 0 ∧
      t.live 6 0 .PTP_STEP_REQ = true ∧ t.phc = s.phc ∧ ∀ f, f ∈ [Fld.SERVO_FREQ, .SERVO_INT, .SERVO_FBASE] → t.get f 6 0 = s.get f 6 0) ∧
    (s.get .SERVO_CFG 6 0 = 1 → ¬ inside → s.get .SERVO_STATUS_STEP_REQ 6 0 = 1 → s.get .SERVO_STATUS_HOLD 6 0 = 0 →
      Does (.servoOffsetWrite theta false) s [offt, (⟨.STEP_VAL, 6, 0⟩, theta)])) ∧
  (s.get .SERVO_STATUS_STEP_REQ 6 0 = 0 → exec .stepAck s = .next s) ∧
  (s.dieClocked 6 = true → s.get .SERVO_STATUS_STEP_REQ 6 0 = 1 → Completes .stepAck s fun t => waits t s.phc 1 false (s.get .STEP_VAL 6 0) 0 0 ∧ phc t ∧ t.get .SERVO_STATUS_STEP_REQ 6 0 = 0 ∧
    (s.OneCond .PTP_STEP_REQ 6 0 Config.noInstance → t.live 6 0 .PTP_STEP_REQ = false) ∧ s.SameMem t ∧
    t.get .STEP_CNT 6 0 = s.get .STEP_CNT 6 0) ∧
  (s.dieClocked 6 = true → Does .servoClr s [(⟨.SERVO_FBASE, 6, 0⟩, s.get .SERVO_FREQ 6 0), (⟨.SERVO_INT, 6, 0⟩, 0)]) ∧
  exec (.phcSet 7) s = .next s ∧
  (10 ^ 9 ≤ s.get .PHC_SETNS 6 0 → exec (.phcSet 6) s = .next s) ∧
  (s.dieClocked 6 = true → s.get .PHC_SETNS 6 0 < 10 ^ 9 → Completes (.phcSet 6) s fun t => waits t s.phc 2 false 0 (s.get .PHC_SETSEC 6 0) (s.get .PHC_SETNS 6 0) ∧ phc t ∧ t.get .SERVO_STATUS_STEP_REQ 6 0 = 0 ∧
    t.get .SERVO_STATUS_LOCK 6 0 = 0 ∧ s.SameMem t) ∧
  (let quiet := s.get .SERVO_OFFT 6 0 + max 1 (s.get .SERVO_LOCK_TIMEOUT 6 0) * 10 ^ 8 ≤ s.capture 6
   (s.get .SERVO_CFG 6 0 = 0 ∨ s.get .SERVO_STATUS_HOLD 6 0 = 1 ∨ ¬ quiet → exec .servoHold s = .next s) ∧
   (s.get .SERVO_CFG 6 0 = 1 → s.get .SERVO_STATUS_HOLD 6 0 = 0 → quiet → Completes .servoHold s fun t => t.get .SERVO_STATUS_HOLD 6 0 = 1 ∧
    t.get .SERVO_STATUS_LOCK 6 0 = 0 ∧ t.live 6 0 .PTP_HOLD = true ∧ phc t ∧ t.get .SERVO_FREQ 6 0 = s.get .SERVO_FREQ 6 0 ∧ s.SameMem t))

/-- R339, R340, R343 to R348. -/
def Obligations.PhcChangesAtItsEdgeAndTsyncFollows : Prop := ∀ s : State, s.canonical = true →
  let total : State → Nat → Nat := fun t d => (t.get .PHC_RSEC d 0 * 10 ^ 9 + t.get .PHC_RNS d 0) * 2 ^ 40 + t.get .PHC_RFRAC d 0
  let plan := fun (t : State) (o : Nat) => t.get .TS_NSEC 6 o * 10 ^ 9 + t.get .TS_NNS 6 o
  let start := fun o : Nat => s.get .TS_START_SEC 6 o * 10 ^ 9 + s.get .TS_START_NS 6 o
  let first := fun (t : State) (o : Nat) => ∃ k, plan t o = start o + k * s.get .TS_PERIOD 6 o ∧ t.phcNs 6 + 1000 ≤ plan t o ∧
    (k = 0 ∨ plan t o < t.phcNs 6 + 1000 + s.get .TS_PERIOD 6 o)
  let reached := fun (t : State) (o : Nat) =>
    let ds : Nat := (t.phcNs 6 / 10 ^ 9 + 2 ^ 32 - s.get .TS_START_SEC 6 o % 2 ^ 32) % 2 ^ 32
    let sec : Int := if ds < 2 ^ 31 then (ds : Int) else (ds : Int) - 2 ^ 32
    (0 : Int) ≤ sec * (10 ^ 9 : Int) + Int.ofNat (t.phcNs 6 % 10 ^ 9) - Int.ofNat (s.get .TS_START_NS 6 o)
  let near := fun (t : State) (o : Nat) => t.phcNs 6 < 2 ^ 47 * 10 ^ 9 ∧ start o < t.phcNs 6 + 2 ^ 30 * 10 ^ 9 ∧
    t.phcNs 6 < start o + 2 ^ 30 * 10 ^ 9 ∧ 40 ≤ s.get .TS_PERIOD 6 o
  let inc := fun o : Nat => if s.get .TS_ACT 6 o = 0 then (s.get .TS_EDGES 6 o + 1) % 2 ^ 32 else s.get .TS_EDGES 6 o
  let fall := fun o : Nat => (s.capture 6 + s.get .TS_WIDTH 6 o) % 2 ^ Fld.width .TS_OFFT
  (∀ d, d = 6 ∨ d = 7 → s.dieClocked d = true → Does (.phcSnap d) s [(⟨.PHC_SEC, d, 0⟩, s.get .PHC_RSEC d 0), (⟨.PHC_NS, d, 0⟩, s.get .PHC_RNS d 0),
    (⟨.PHC_FRAC, d, 0⟩, s.get .PHC_RFRAC d 0 / 2 ^ 24), (⟨.PHC_SYS, d, 0⟩, s.get .TB_SYSCNT d 0)]) ∧
  (∀ what, what < 4 →
    let due := fun c : PhcChange => bitAt what (if c.kind = 0 then 0 else 1) == 1 && decide (c.due ≤ s.get .TB_SYSCNT c.die 0)
    Completes (.phcChangeApply what) s fun t => s.SameMem t ∧ t.phc = s.phc.filter (fun c => !due c) ∧
      (∀ d, d = 6 ∨ d = 7 → (t.get .PTP_STATUS_PEND d 0 = 1 ↔ ∃ c, c ∈ t.phc ∧ c.die = d)) ∧
      (∀ x D, t.get .TB_SYSCNT x 0 = s.get .TB_SYSCNT x 0 ∧ t.get .TB_DOMCNT x D = s.get .TB_DOMCNT x D) ∧
      (s.phc.filter due = [] → s.SameBut t [.PTP_STATUS_PEND]) ∧
      ∀ c, s.phc.filter due = [c] → c.kind < 3 → (c.die = 6 ∨ c.die = 7) → c.val < 2 ^ 64 → c.sec < 2 ^ 48 → c.ns < 10 ^ 9 →
        (∀ d, d ≠ c.die → total t d = total s d ∧ t.get .PHC_F d 0 = s.get .PHC_F d 0) ∧
        (t.get .PHC_F c.die 0 = if c.kind = 0 then c.val % 2 ^ 32 else s.get .PHC_F c.die 0) ∧
        (c.kind = 0 → total t c.die = total s c.die) ∧
        (c.kind = 1 → ((total t c.die : Nat) : Int) = (((total s c.die : Nat) : Int) - signed 64 c.val * 2 ^ 24) % (2 ^ 48 * 10 ^ 9 * 2 ^ 40)) ∧
        (c.kind = 2 → t.get .PHC_RSEC c.die 0 = c.sec ∧ t.get .PHC_RNS c.die 0 = c.ns ∧ t.get .PHC_RFRAC c.die 0 = 0) ∧
        (c.kind = 0 ∨ c.die = 7 → s.SameBut t [.PTP_STATUS_PEND, .PHC_F, .PHC_RSEC, .PHC_RNS, .PHC_RFRAC]) ∧
        (c.kind ≠ 0 → c.die = 6 → t.get .SERVO_FBASE 6 0 = s.get .SERVO_FREQ 6 0 ∧ t.get .SERVO_INT 6 0 = 0 ∧
          t.get .STEP_CNT 6 0 = min (s.get .STEP_CNT 6 0 + 1) (2 ^ 32 - 1) ∧ t.get .SERVO_STATUS_STEPPED 6 0 = 1 ∧
          (∀ D, D < 3 → t.get .MAP_STEPD 6 D = 1) ∧ (c.kind = 1 → t.Raised .PTP_STEPPED 6 0) ∧
          ∀ o, o < 4 → t.get .TS_STATUS_STATE 6 o = s.get .TS_STATUS_STATE 6 o ∧ t.get .TS_EDGES 6 o = s.get .TS_EDGES 6 o ∧
            t.get .TS_ACT 6 o = s.get .TS_ACT 6 o ∧
            (s.get .TS_STATUS_STATE 6 o = 1 → (t.get .TS_JUMP 6 o = 1 ↔ reached t o ∧ (¬ reached s o ∨ s.get .TS_JUMP 6 o = 1))) ∧
            (s.get .TS_STATUS_STATE 6 o = 2 → near t o → first t o))) ∧
  (let same := s.get .PHC_RSEC 6 0 = s.get .PHC_RSEC 7 0 ∧ s.get .PHC_RNS 6 0 = s.get .PHC_RNS 7 0 ∧ s.get .PHC_RFRAC 6 0 = s.get .PHC_RFRAC 7 0
   (s.routeUp 6 7 = false → exec .phcSlaveCheck s = .next s) ∧
   (s.routeUp 6 7 = true → s.get .PHC_SLVBAD 7 0 = 1 → Does .phcSlaveCheck s [(⟨.PHC_RSEC, 7, 0⟩, s.get .PHC_RSEC 6 0),
     (⟨.PHC_RNS, 7, 0⟩, s.get .PHC_RNS 6 0), (⟨.PHC_RFRAC, 7, 0⟩, s.get .PHC_RFRAC 6 0), (⟨.PHC_SLVBAD, 7, 0⟩, 0)]) ∧
   (s.get .PHC_SLVBAD 7 0 = 0 → same → exec .phcSlaveCheck s = .next s) ∧
   (s.get .PHC_SLVBAD 7 0 = 0 → ¬ same → s.routeUp 6 7 = true → Completes .phcSlaveCheck s fun t => t.get .PHC_SLVBAD 7 0 = 1 ∧
    (∀ d, total t d = total s d) ∧ t.get .PTP_STATUS_SLVERR 7 0 = 1 ∧ t.Raised .PTP_SLVERR 7 0 ∧ s.SameMem t)) ∧
  (∀ o, o < 4 →
    (s.dieClocked 6 = false → exec (.tsyncDisable o) s = .next s ∧ ∀ per pol, exec (.tsyncArm o per pol) s = .next s) ∧
    (∀ per pol, per < 2 → pol < 2 → s.dieClocked 6 = true →
      let bad := 10 ^ 9 ≤ s.get .TS_START_NS 6 o ∨ s.get .TS_WIDTH 6 o < 10 ∨
        (per = 1 ∧ (s.get .TS_PERIOD 6 o < 40 ∨ s.get .TS_PERIOD 6 o ≤ s.get .TS_WIDTH 6 o))
      (s.get .TS_CFG_EN 6 o = 1 → exec (.tsyncArm o per pol) s = .next s) ∧
      (s.get .TS_CFG_EN 6 o = 0 → bad → Completes (.tsyncArm o per pol) s fun t => t.get .TS_STATUS_BADCFG 6 o = 1 ∧ t.Raised .TSYNC_BADCFG 6 0 ∧
        s.SameMem t ∧ ∀ e, e ∈ [Fld.TS_CFG_EN, .TS_CFG_PERIODIC, .TS_CFG_POL, .TS_STATUS_STATE, .TS_EDGES, .TS_ACT] → t.get e 6 o = s.get e 6 o) ∧
      (s.get .TS_CFG_EN 6 o = 0 → ¬ bad → per = 0 → reached s o → Completes (.tsyncArm o per pol) s fun t => t.get .TS_CFG_EN 6 o = 1 ∧
        t.get .TS_CFG_POL 6 o = pol ∧ t.get .TS_STATUS_STATE 6 o = 3 ∧ t.get .TS_STATUS_LATE 6 o = 1 ∧ t.get .TS_EDGES 6 o = inc o ∧
        t.get .TS_ACT 6 o = 1 ∧ t.get .TS_OFFT 6 o = fall o ∧ t.Raised .TSYNC_LATE 6 0 ∧ s.SameMem t) ∧
      (s.get .TS_CFG_EN 6 o = 0 → ¬ bad → per = 0 → ¬ reached s o → Does (.tsyncArm o per pol) s [(⟨.TS_CFG_EN, 6, o⟩, 1),
        (⟨.TS_CFG_PERIODIC, 6, o⟩, 0), (⟨.TS_CFG_POL, 6, o⟩, pol), (⟨.TS_STATUS_STATE, 6, o⟩, 1), (⟨.TS_JUMP, 6, o⟩, 0)]) ∧
      (s.get .TS_CFG_EN 6 o = 0 → ¬ bad → per = 1 → near s o → Completes (.tsyncArm o per pol) s fun t => t.get .TS_CFG_EN 6 o = 1 ∧
        t.get .TS_CFG_PERIODIC 6 o = 1 ∧ t.get .TS_CFG_POL 6 o = pol ∧ t.get .TS_STATUS_STATE 6 o = 2 ∧ first t o ∧
        s.Within t [⟨.TS_CFG_EN, 6, o⟩, ⟨.TS_CFG_PERIODIC, 6, o⟩, ⟨.TS_CFG_POL, 6, o⟩, ⟨.TS_STATUS_STATE, 6, o⟩, ⟨.TS_NSEC, 6, o⟩, ⟨.TS_NNS, 6, o⟩])) ∧
    (s.dieClocked 6 = true → Does (.tsyncDisable o) s [(⟨.TS_CFG_EN, 6, o⟩, 0), (⟨.TS_STATUS_STATE, 6, o⟩, 0)]) ∧
    (s.capture 6 < s.get .TS_OFFT 6 o → exec (.tsyncPulseEnd o) s = .next s) ∧
    (s.get .TS_OFFT 6 o ≤ s.capture 6 → Does (.tsyncPulseEnd o) s [(⟨.TS_ACT, 6, o⟩, 0)]) ∧
    (s.get .TS_STATUS_STATE 6 o = 0 ∨ s.get .TS_STATUS_STATE 6 o = 3 → exec (.tsyncFire o) s = .next s) ∧
    (s.get .TS_STATUS_STATE 6 o = 1 →
      (¬ reached s o → exec (.tsyncFire o) s = .next s) ∧
      (reached s o → s.get .TS_JUMP 6 o = 0 → Does (.tsyncFire o) s [(⟨.TS_ACT, 6, o⟩, 1), (⟨.TS_EDGES, 6, o⟩, inc o), (⟨.TS_OFFT, 6, o⟩, fall o),
        (⟨.TS_STATUS_STATE, 6, o⟩, 3)]) ∧
      (reached s o → s.get .TS_JUMP 6 o = 1 → Completes (.tsyncFire o) s fun t => t.get .TS_STATUS_STATE 6 o = 3 ∧ t.get .TS_STATUS_LATE 6 o = 1 ∧
        t.get .TS_EDGES 6 o = inc o ∧ t.get .TS_ACT 6 o = 1 ∧ t.Raised .TSYNC_LATE 6 0 ∧ s.SameMem t)) ∧
    (s.get .TS_STATUS_STATE 6 o = 2 →
      let due := phcReached (s.phcNow 6) (s.get .TS_NSEC 6 o, s.get .TS_NNS 6 o)
      (due = false → exec (.tsyncFire o) s = .next s) ∧
      (due = true → plan s o < 2 ^ 47 * 10 ^ 9 → Completes (.tsyncFire o) s fun t =>
        plan t o = plan s o + s.get .TS_PERIOD 6 o ∧ t.get .TS_ACT 6 o = 1 ∧ t.get .TS_EDGES 6 o = inc o ∧ t.get .TS_OFFT 6 o = fall o ∧
        t.get .TS_STATUS_STATE 6 o = 2 ∧
        s.Within t [⟨.TS_ACT, 6, o⟩, ⟨.TS_EDGES, 6, o⟩, ⟨.TS_OFFT, 6, o⟩, ⟨.TS_NSEC, 6, o⟩, ⟨.TS_NNS, 6, o⟩])))

/-- R354 to R358, R363 and R364. -/
def Obligations.PortsWrapAndFramesAreRouted : Prop := ∀ s : State, s.canonical = true →
  let addr := s.get .RING_STATUS_ADDR 6 0
  let up := fun d : Nat => s.get .BIRAY_STATUS_STATE d 0 = 2
  let live := fun d : Nat => up d ∧ s.serdesRuns d = true
  (∀ d, d = 6 ∨ d = 7 →
    let wrapped := fun t : State => t.get .BIRAY_STATUS_WRAP d 0 = 1 ∧ t.get .BIRAY_WRAPCNT d 0 = (s.get .BIRAY_WRAPCNT d 0 + 1) % 2 ^ 32 ∧
      t.live d 0 .BIRAY_LINK_DOWN = true ∧ t.get .RING_STATUS_WRAPPED 6 0 = 1 ∧ t.live 6 0 .RING_WRAP = true ∧ t.get .BIRAY_STATUS_LINKCHG d 0 = 1 ∧
      s.SameMem t
    (∀ lanes, lanes < 16 →
      (¬ up d → exec (.birayLinkDown d lanes) s = .next s) ∧
      (up d → Completes (.birayLinkDown d lanes) s fun t => wrapped t ∧ t.get .BIRAY_STATUS_STATE d 0 = 0 ∧ t.get .BIRAY_STATUS_LANES d 0 = lanes)) ∧
    (s.dieClocked d = false → exec (.birayRetrain d) s = .next s) ∧
    (up d → s.dieClocked d = true → Completes (.birayRetrain d) s fun t => wrapped t ∧ t.get .BIRAY_STATUS_STATE d 0 = 1 ∧ t.get .BIRAY_STATUS_LANES d 0 = 0) ∧
    (¬ up d → s.dieClocked d = true → Completes (.birayRetrain d) s fun t => t.get .BIRAY_STATUS_STATE d 0 = 1 ∧ t.get .BIRAY_STATUS_LANES d 0 = 0 ∧
      (s.get .BIRAY_STATUS_STATE d 0 ≠ 1 → t.get .BIRAY_STATUS_LINKCHG d 0 = 1) ∧
      s.Within t [⟨.BIRAY_STATUS_STATE, d, 0⟩, ⟨.BIRAY_STATUS_LANES, d, 0⟩, ⟨.BIRAY_STATUS_LINKCHG, d, 0⟩]) ∧
    (up d ∨ s.serdesRuns d = false → exec (.birayLinkUp d) s = .next s) ∧
    (¬ up d → s.serdesRuns d = true → Completes (.birayLinkUp d) s fun t => t.get .BIRAY_STATUS_STATE d 0 = 2 ∧ t.get .BIRAY_STATUS_LANES d 0 = 15 ∧
      t.get .BIRAY_STATUS_LINKCHG d 0 = 1 ∧ t.get .BIRAY_STATUS_WRAP d 0 = s.get .BIRAY_STATUS_WRAP d 0 ∧ (s.OneCond .BIRAY_LINK_DOWN d 0 (7 - d) → t.live d 0 .BIRAY_LINK_DOWN = false) ∧
      Msg.biray d 1 ⟨addr, 15, 0, 0, [0], []⟩ ∈ t.sent ∧ s.SameMem t ∧
      (s.get .RING_STEPPED 6 0 = 1 → s.get .RING_STATUS_HEAD 6 0 = 1 → s.get .RING_HASADDR 6 0 = 0 → s.get .RING_STATUS_MULTIHEAD 6 0 = 0 →
        t.get .RING_STATUS_ADDR 6 0 = 0 ∧ t.get .RING_HASADDR 6 0 = 1 ∧ t.get .RING_TOKEN 6 0 = 1)) ∧
    (¬ up d ∨ s.get .BIRAY_STATUS_WRAP d 0 = 0 → exec (.ringUnwrap d) s = .next s) ∧
    (up d → s.get .BIRAY_STATUS_WRAP d 0 = 1 → Completes (.ringUnwrap d) s fun t => t.get .BIRAY_STATUS_WRAP d 0 = 0 ∧
      t.get .RING_STATUS_WRAPPED 6 0 = s.get .BIRAY_STATUS_WRAP (13 - d) 0 ∧ t.get .BIRAY_STATUS_STATE d 0 = 2 ∧ s.SameMem t ∧
      (s.get .BIRAY_STATUS_WRAP (13 - d) 0 = 0 → s.OneCond .RING_WRAP 6 0 Config.noInstance → t.live 6 0 .RING_WRAP = false)) ∧
    (¬ live d → exec (.keepaliveSend d) s = .next s ∧ exec (.frameCrcFail d) s = .next s) ∧
    (live d → exec (.keepaliveSend d) s = .next (s.send (.biray d 0 ⟨addr, 15, 0, 0, [], []⟩))) ∧
    (live d → Completes (.frameCrcFail d) s fun t => t.get .BIRAY_CRCERR d 0 = min (s.get .BIRAY_CRCERR d 0 + 1) (2 ^ 32 - 1) ∧
      t.Raised .BIRAY_CRC d 0 ∧ s.SameMem t)) ∧
  (∀ dir, dir < 2 →
    let d := if dir = 0 then 7 else 6
    let west := s.get .BIRAY_STATUS_WRAP 7 0 = 1
    exec (.keepalive dir) s = .next s ∧
    (∀ trip, trip < 2 ^ 32 →
      (live d → exec (.delay dir 0 trip) s = .next (s.send (.biray d 1 ⟨addr, 15, 0, 0, [1], []⟩))) ∧
      (¬ live d → exec (.delay dir 0 trip) s = .next s) ∧
      (¬ live d ∨ s.get .BIRAY_DLY d 0 = 0 → exec (.delay dir 1 trip) s = .next s) ∧
      (live d → s.get .BIRAY_DLY d 0 = 1 → Does (.delay dir 1 trip) s [(⟨.BIRAY_DELAY, d, 0⟩, (trip - 200) / 2 % 2 ^ 16), (⟨.BIRAY_DLY, d, 0⟩, 0)])) ∧
    ∀ f : BFrame,
      let arrives := live d ∧ (f.wrap ≠ 1 ∨ west ∨ s.get .BIRAY_DISCW 7 0 = 0) ∧ (dir = 1 → west) ∧ (dir = 0 → s.routeUp 7 6 = true)
      (∀ ty, 12 ≤ ty → ty < 16 → (arrives → Does (.undefinedFrameType dir ty f) s [(⟨.BIRAY_DISC, d, 0⟩, min (s.get .BIRAY_DISC d 0 + 1) (2 ^ 32 - 1))]) ∧
        (¬ live d → exec (.undefinedFrameType dir ty f) s = .next s)) ∧
      (dir = 1 → live 6 → ¬ west → (f.wrap ≠ 1 ∨ s.get .BIRAY_DISCW 7 0 = 0) → s.routeUp 6 7 = true → live 7 →
        (∀ x, x ∈ [(Instr.enum dir f, 2), (.assign dir f, 4), (.health dir f, 6)] → exec x.1 s = .next (s.send (.biray 7 x.2 f))) ∧
        ∀ stamp resid, resid < 2 ^ 32 → ∃ g, exec (.time dir f stamp resid) s = .next (s.send (.biray 7 5 g)) ∧ g.src = f.src ∧ g.hops = f.hops ∧
          g.wrap = f.wrap ∧ g.payload = f.payload ∧
          frLong g 2 = unsigned 64 (signed 64 (frLong f 2) + Int.ofNat (s.get .BIRAY_DELAY 6 0 * 2 ^ 16) + resid)) ∧
      (∀ len, len ≤ 256 → ∀ x, x ∈ [(Instr.join dir f, 3), (.partialFrame dir f, 8), (.mreq dir f len, 9), (.mrsp dir f, 10), (.mirror dir f, 11)] →
        (¬ live d → exec x.1 s = .next s) ∧
        (live d → dir = 1 → ¬ west → (f.wrap ≠ 1 ∨ s.get .BIRAY_DISCW 7 0 = 0) → s.routeUp 6 7 = true → live 7 →
          exec x.1 s = .next (s.send (.biray 7 x.2 f))) ∧
        (f.wrap = 1 → s.get .BIRAY_DISCW 7 0 = 1 → ¬ west → exec x.1 s = .next s) ∧
        (arrives → (s.get .RING_HASADDR 6 0 = 0 ∨ f.dst ≠ addr) →
          (62 ≤ f.hops → Does x.1 s [(⟨.BIRAY_DISC, d, 0⟩, min (s.get .BIRAY_DISC d 0 + 1) (2 ^ 32 - 1))]) ∧
          (f.hops < 62 → s.get .BIRAY_STATUS_WRAP 6 0 = 0 → live 6 → exec x.1 s = .next (s.send (.biray 6 x.2 { f with hops := f.hops + 1 }))) ∧
          (f.hops < 62 → s.get .BIRAY_STATUS_WRAP 6 0 = 0 → ¬ live 6 → exec x.1 s = .next s) ∧
          (f.hops < 62 → s.get .BIRAY_STATUS_WRAP 6 0 = 1 → s.routeUp 6 7 = true → live 7 →
            exec x.1 s = .next (s.send (.biray 7 x.2 { f with hops := f.hops + 1, wrap := 1 }))))) ∧
      (∀ i, i ∈ [Instr.assign dir f, .health dir f] → arrives → s.get .RING_HASADDR 6 0 = 1 → f.src = addr → exec i s = .next s))

/-- R25, R360 to R362, R365, R366, R368, R369 and R463. The rounding of DOM_RPHASE (log entry 121) and the moment at which a token's
addresses count as assigned (log entry 149) are the model's choice. -/
def Obligations.RingEnumeratesAndKeepsTime : Prop := ∀ s : State, s.canonical = true → s.due = [] →
  let addr := s.get .RING_STATUS_ADDR 6 0
  let up := fun d : Nat => s.get .BIRAY_STATUS_STATE d 0 = 2
  let head := s.get .RING_STATUS_HEAD 6 0 = 1
  let east := s.get .BIRAY_STATUS_STATE 6 0 = 2 ∧ s.serdesRuns 6 = true ∧ s.get .BIRAY_STATUS_WRAP 6 0 = 0
  let own := east ∧ s.get .RING_OVER 6 0 = 0
  let starts := fun t : State => t.get .RING_STATUS_ADDR 6 0 = 0 ∧ t.get .RING_HASADDR 6 0 = 1 ∧ t.get .RING_TOKEN 6 0 = 1 ∧ t.get .RING_TRIES 6 0 = 1 ∧
    s.SameMem t ∧ (east → ∃ g, .biray 6 2 g ∈ t.sent ∧ g.src = 0 ∧ frWord g 1 = 1 ∧ bytesNat (g.payload.take 8) = s.get .RING_DEVID 6 0)
  let trouble := fun (b : Fld) (t : State) => t.get b 6 0 = 1 ∧ t.Raised .RING_ENUM 6 0 ∧ s.SameMem t
  (let any := up 6 ∨ up 7
   let go := 5 ≤ s.get .BOOT_STEP 6 0 ∧ s.get .RING_STEPPED 6 0 = 0 ∧ ((up 6 ∧ up 7) ∨ 6 * 10 ^ 8 ≤ s.capture 6)
   let ready := s.get .AXO_STATUS_TAIL 6 0 = 2 ∧ s.get .CSF_READY 6 0 = 0
   (¬ go → exec .ringStep s = .next s) ∧
   (go → ¬ ready → ¬ (head ∧ any) → Does .ringStep s [(⟨.RING_STEPPED, 6, 0⟩, 1), (⟨.RING_UPSTEP, 6, 0⟩, if any then 1 else 0),
     (⟨.RING_STEPT, 6, 0⟩, s.capture 6 % 2 ^ Fld.width .RING_STEPT)]) ∧
   (go → ¬ ready → head → any → Completes .ringStep s fun t => starts t ∧ t.get .RING_STEPPED 6 0 = 1 ∧ t.get .RING_UPSTEP 6 0 = 1) ∧
   (go → ready → Completes .ringStep s fun t => t.get .RING_STEPPED 6 0 = 1 ∧ t.get .CSF_READY 6 0 = 1)) ∧
  (¬ head ∨ s.dieClocked 6 = false → exec .ringReenumerate s = .next s) ∧ (head → s.dieClocked 6 = true → Completes .ringReenumerate s starts) ∧
  (s.get .RING_TOKEN 6 0 = 0 → exec .enumTimeout s = .next s) ∧
  (s.get .RING_TOKEN 6 0 = 1 → s.get .RING_TRIES 6 0 < 3 → Completes .enumTimeout s fun t => t.get .RING_TRIES 6 0 = s.get .RING_TRIES 6 0 + 1 ∧
    t.get .RING_TOKEN 6 0 = 1 ∧ s.SameBut t [.RING_TRIES] ∧ (own → ∃ g, .biray 6 2 g ∈ t.sent ∧ frWord g 1 = 1)) ∧
  (s.get .RING_TOKEN 6 0 = 1 → s.get .RING_TRIES 6 0 = 3 → Completes .enumTimeout s (trouble .RING_STATUS_ENUMFAIL) ∧
    Completes .enumTimeout s fun t => t.get .RING_TOKEN 6 0 = 0) ∧
  (let alone := ¬ head ∧ s.get .RING_HASADDR 6 0 = 0 ∧ s.get .RING_STATUS_UP 6 0 = 0 ∧ s.get .RING_STATUS_OVERSIZE 6 0 = 0 ∧ s.get .RING_STEPPED 6 0 = 1 ∧
     s.get .RING_UPSTEP 6 0 = 1 ∧ s.get .RING_STEPT 6 0 + 10 ^ 8 ≤ s.capture 6
   (alone → Completes .enumWaitTimeout s (trouble .RING_STATUS_NOHEAD)) ∧ (¬ alone → exec .enumWaitTimeout s = .next s)) ∧
  (∀ a, a < 16 → Does (.ringPresentExpiry a) s [(⟨.RING_PRESENT, 6, 0⟩, clearBit (s.get .RING_PRESENT 6 0) a)]) ∧
  (∀ pa pb pc, pa < 2 ^ 32 → pb < 2 ^ 32 → pc < 2 ^ 32 → (¬ head ∨ s.get .RING_HASADDR 6 0 = 0 → exec (.timeFrameSend pa pb pc) s = .next s) ∧
    (head → s.get .RING_HASADDR 6 0 = 1 → own → ∃ g, exec (.timeFrameSend pa pb pc) s = .next (s.send (.biray 6 5 g)) ∧ g.src = addr ∧
      g.payload.length = 48 ∧ frLong g 2 = 0 ∧ ∀ D, D < 3 →
        bytesNat (slice g.payload (16 * D) 8) = s.get .TB_DOMCNT 6 D ∧
        (let p := bytesNat (slice g.payload (16 * D + 8) 4)
         let n := (s.domFs D).1 * 2 ^ 32
         let m := (s.domFs D).2 * 10 ^ 9
         let dt := s.capture 6 - s.get .DOM_EDGET 6 D
         (dt + 1) * n < 2 ^ 32 * m → dt * n < (p + 1) * m ∧ p * m ≤ (dt + 1) * n) ∧
        bytesNat (slice g.payload (16 * D + 12) 4) = s.get .DOM_CFG_RATE 6 D + s.get .EPOCH_CFG_BSIZE 6 D * 16 + s.get .DOM_CFG_RING 6 D * 64 +
          s.get .EPOCH_STATUS_RUN 6 D * 128)) ∧
  (∀ (dir : Nat) (f : BFrame), dir < 2 → (∀ x, x ∈ f.w → x < 2 ^ 32) → (∀ x, x ∈ f.payload → x < 256) → f.src < 16 →
    let d := if dir = 0 then 7 else 6
    let west := s.get .BIRAY_STATUS_WRAP 7 0 = 1
    let arrives := up d ∧ s.serdesRuns d = true ∧ (f.wrap ≠ 1 ∨ west ∨ s.get .BIRAY_DISCW 7 0 = 0) ∧ (dir = 1 → west) ∧ (dir = 0 → s.routeUp 7 6 = true)
    let mine := arrives ∧ s.get .RING_HASADDR 6 0 = 1 ∧ f.dst = addr
    let here := arrives ∧ s.get .RING_HASADDR 6 0 = 1 ∧ f.src ≠ addr
    let n := frWord f 1 % 32
    let on : Nat → BFrame → State → Prop := fun ty g t => east → f.hops < 62 → .biray 6 ty { g with hops := f.hops + 1 } ∈ t.sent
    (arrives → ¬ head → bitAt (frWord f 1) 5 = 0 → n ≤ 15 → Completes (.enum dir f) s fun t => t.get .RING_STATUS_ADDR 6 0 = n ∧
      t.get .RING_HASADDR 6 0 = 1 ∧ s.SameMem t ∧ (east → f.hops < 62 → ∃ g, .biray 6 2 g ∈ t.sent ∧ g.hops = f.hops + 1 ∧ frWord g 1 = n + 1 ∧
        g.src = f.src ∧ g.payload = f.payload ∧ ∀ D, D < 3 → frLong g (2 * D + 2) = if s.get .EPOCH_CFG_EN 6 D = 0 then
          max (frLong f (2 * D + 2)) (s.get .TB_DOMCNT 6 D) else frLong f (2 * D + 2))) ∧
    (arrives → ¬ head → bitAt (frWord f 1) 5 = 0 → 16 ≤ n → Completes (.enum dir f) s (trouble .RING_STATUS_OVERSIZE) ∧
      Completes (.enum dir f) s fun t => t.get .RING_HASADDR 6 0 = 0 ∧ t.get .RING_STATUS_ADDR 6 0 = 15 ∧ t.get .RING_OVER 6 0 = 1 ∧ on 2 f t) ∧
    (arrives → ¬ head → bitAt (frWord f 1) 5 = 1 → Completes (.enum dir f) s fun t => t.get .RING_STATUS_UP 6 0 = 1 ∧ t.get .RING_STATUS_N 6 0 = n ∧
      on 2 f t) ∧
    (arrives → head → bytesNat (f.payload.take 8) ≠ s.get .RING_DEVID 6 0 → Completes (.enum dir f) s (trouble .RING_STATUS_MULTIHEAD)) ∧
    (arrives → head → bytesNat (f.payload.take 8) = s.get .RING_DEVID 6 0 → (bitAt (frWord f 1) 5 = 1 ∨ s.get .RING_TOKEN 6 0 = 0) →
      exec (.enum dir f) s = .next s) ∧
    (arrives → head → bytesNat (f.payload.take 8) = s.get .RING_DEVID 6 0 → bitAt (frWord f 1) 5 = 0 → s.get .RING_TOKEN 6 0 = 1 →
      Completes (.enum dir f) s fun t => t.get .RING_STATUS_N 6 0 = n ∧ t.get .RING_STATUS_UP 6 0 = 1 ∧ t.get .RING_TOKEN 6 0 = 0 ∧
        (∀ D, D < 3 → t.get .TB_DOMCNT 6 D = if s.get .EPOCH_CFG_EN 6 D = 0 then max (s.get .TB_DOMCNT 6 D) (frLong f (2 * D + 2)) else
          s.get .TB_DOMCNT 6 D) ∧ (∀ a, a < n → t.get .RING_ASGNT 6 a = (s.capture 6 + 1) % 2 ^ Fld.width .RING_ASGNT) ∧
        (own → ∃ g, .biray 6 2 g ∈ t.sent ∧ frWord g 1 = n + 32)) ∧
    (mine → let free := fun a : Nat => a ≠ addr ∧ bitAt (s.get .RING_PRESENT 6 0) a = 0 ∧
        (s.get .RING_ASGNT 6 a = 0 ∨ s.get .RING_ASGNT 6 a + 10 ^ 7 ≤ s.capture 6)
      ∃ a, a ≤ 15 ∧ (a < 15 → free a) ∧ (∀ b, b < a → ¬ free b) ∧ Completes (.join dir f) s fun t => s.SameMem t ∧ s.SameBut t [.RING_ASGNT] ∧
        (own → ∃ g, .biray 6 4 g ∈ t.sent ∧ frWord g 1 = a ∧ frLong g 2 = frLong f 2)) ∧
    (arrives → s.get .RING_HASADDR 6 0 = 0 → frLong f 2 = s.get .RING_DEVID 6 0 →
      (frWord f 1 % 16 = 15 → Completes (.assign dir f) s (trouble .RING_STATUS_OVERSIZE) ∧ Completes (.assign dir f) s fun t => t.get .RING_OVER 6 0 = 1) ∧
      (frWord f 1 % 16 ≠ 15 → Completes (.assign dir f) s fun t => t.get .RING_STATUS_ADDR 6 0 = frWord f 1 % 16 ∧ t.get .RING_HASADDR 6 0 = 1 ∧ on 4 f t)) ∧
    (∀ stamp resid, stamp < 2 ^ 64 → resid < 2 ^ 32 →
      let corr : Int := signed 64 (frLong f 2) + Int.ofNat (s.get .BIRAY_DELAY d 0 * 2 ^ 16)
      (arrives → (s.get .RING_HASADDR 6 0 = 0 ∨ f.src ≠ addr) → Completes (.time dir f stamp resid) s fun t =>
        (corr ≤ Int.ofNat stamp * 2 ^ 16 → Int.ofNat stamp * 2 ^ 16 - corr ≤ (2 ^ 64 - 1) * 2 ^ 16 →
          (2 ^ 16 : Int) * (Int.ofNat stamp - Int.ofNat (t.get .RING_TH 6 0)) ≤ corr ∧
          corr < (2 ^ 16 : Int) * (Int.ofNat stamp - Int.ofNat (t.get .RING_TH 6 0) + 1)) ∧
        (∀ D, D < 3 → s.get .DOM_CFG_RING 6 D = 1 → s.get .RING_OVER 6 0 = 0 →
          let fs := s.domFs D
          let x := signed 32 (t.get .DOM_RPHASE 6 D)
          let p := bytesNat (slice f.payload (16 * D + 8) 4)
          ∃ k : Int, let y := (Int.ofNat (t.get .RING_TH 6 0) - Int.ofNat (s.get .DOM_EDGET 6 D)) * Int.ofNat (fs.1 * 2 ^ 32) -
              Int.ofNat (p * fs.2 * 10 ^ 9) + k * Int.ofNat (fs.2 * 10 ^ 9 * 2 ^ 32)
            2 * y < Int.ofNat (fs.2 * 10 ^ 9 * 2 ^ 32) ∧ 0 ≤ 2 * y + Int.ofNat (fs.2 * 10 ^ 9 * 2 ^ 32) ∧
              x * Int.ofNat (fs.1 * 2 ^ 32) ≤ y ∧ y < (x + 1) * Int.ofNat (fs.1 * 2 ^ 32)) ∧
        (east → f.hops < 62 → ∃ g, .biray 6 5 g ∈ t.sent ∧ g.payload = f.payload ∧ frLong g 2 = unsigned 64 (corr + resid)) ∧
        (s.get .RING_HASADDR 6 0 = 0 → own → ∃ g, .biray 6 3 g ∈ t.sent ∧ g.dst = 0 ∧ frLong g 2 = s.get .RING_DEVID 6 0))) ∧
    (let D := frWord f 1 % 4
     let T := frLong f 2
     D < 3 → s.get .DOM_CFG_RING 6 D = 1 → s.get .RING_AHEAD 6 D = 0 → s.get .RING_MIS 6 D = 0 → s.get .RING_OVER 6 0 = 0 →
      (bitAt (frWord f 1) 4 = 0 → bitsAt (frWord f 1) 2 2 = 0 → here → s.commitRefused D T = false → Completes (.commitFrame dir f) s fun t =>
        t.get .EPOCH_CSTAT_COMMIT_PEND 6 D = 1 ∧ t.get .COMMIT_T 6 D = T ∧ on 7 f t ∧
          (own → ∃ g, .biray 6 7 g ∈ t.sent ∧ g.dst = f.src ∧ bitAt (frWord g 1) 4 = 1 ∧ frWord g 1 % 16 = frWord f 1 % 16 ∧ frLong g 2 = T)) ∧
      (bitAt (frWord f 1) 4 = 0 → bitsAt (frWord f 1) 2 2 = 0 → here → s.commitRefused D T = true → Completes (.commitFrame dir f) s fun t =>
        s.SameBut t [.EPOCH_CSTAT_BADALIGN, .EPOCH_CSTAT_TOOLATE, .EPOCH_CSTAT_REFUSED, .BIRAY_DISC] ∧ t.sent.length ≤ s.sent.length + 1) ∧
      (bitAt (frWord f 1) 4 = 1 → bitsAt (frWord f 1) 2 2 = 0 → mine →
        (s.get .EPOCH_CSTAT_COMMIT_PEND 6 D = 1 → T = s.get .COMMIT_T 6 D → Does (.commitFrame dir f) s [(⟨.COMMIT_ACKS, 6, D⟩, setBit (s.get .COMMIT_ACKS 6 D) f.src)]) ∧
        (s.get .EPOCH_CSTAT_COMMIT_PEND 6 D = 0 ∨ T ≠ s.get .COMMIT_T 6 D → exec (.commitFrame dir f) s = .next s))) ∧
    (let D := frWord f 1 % 4
     D = 3 ∨ s.ringPart D = false → mine → bitAt (frWord f 1) 4 = 0 → Completes (.commitFrame dir f) s fun t => s.SameBut t [.BIRAY_DISC]) ∧
    (mine → s.ringPart (bitsAt (frWord f 1) 9 2) = false → exec (.partialFrame dir f) s = .next s) ∧
    (mine → s.ringPart (bitsAt (frWord f 1) 9 2) = true → exec (.partialFrame dir f) s = .next (s.send (.partialSum (8 + f.src) (bitsAt (frWord f 1) 13 3) (bitsAt (frWord f 1) 0 9) (bitsAt (frWord f 1) 9 2)
      (frLong f 2) ((List.range (f.payload.length / 12)).map fun i => bytesNat (slice f.payload (12 * i) 12)) (frWord f 4)
      (bitAt (frWord f 1) 11 == 1) (bitAt (frWord f 1) 12 == 1)))) ∧
    (∀ len, len ≤ 256 → mine →
      let u := s.access (s.request 7 15 (15 * 2 ^ 36 + frLong f 2 % 2 ^ 36) (bitAt (frWord f 1) 8 == 1) len (bytesNat (f.payload.take len)))
      Completes (.mreq dir f len) s (fun t => { t with sent := u.sent } = u) ∧ (u.routeUp 7 6 = true → u.get .BIRAY_STATUS_STATE 6 0 = 2 → u.serdesRuns 6 = true → u.get .BIRAY_STATUS_WRAP 6 0 = 0 → u.get .RING_OVER 6 0 = 0 → ∃ g,
        exec (.mreq dir f len) s = .next (u.send (.biray 6 10 g)) ∧ g.dst = f.src ∧ frWord g 1 = frWord f 1 % 256 + flag u.answer.err * 256 ∧
          (bitAt (frWord f 1) 8 = 1 ∨ u.answer.err = true → g.payload = []) ∧
          (bitAt (frWord f 1) 8 = 0 → u.answer.err = false → g.payload.take len = natBytes len u.answer.data))) ∧
    (mine → s.hostQ = [] → let q := s.remote.find? fun q => q.tag == frWord f 1 % 256 && q.unit == f.src
      (q = none → exec (.mrsp dir f) s = .next s) ∧
      ∀ r, q = some r → exec (.mrsp dir f) s = .next { s with remote := s.remote.erase r, answer := ⟨if r.write then 0 else bytesNat f.payload, bitAt (frWord f 1) 8 == 1⟩ })) ∧
  (∀ tag, tag < 256 → s.hostQ = [] → let q := s.remote.find? fun q => q.tag == tag
    (q = none → exec (.remoteAccessTimeout tag) s = .next s) ∧
    ∀ r, q = some r → Completes (.remoteAccessTimeout tag) s fun t => t.remote = s.remote.erase r ∧ t.answer = ⟨0, true⟩ ∧ t.Raised .RING_TIMEOUT 6 0 ∧
      t.get .RING_TIMEOUT 6 0 = min (s.get .RING_TIMEOUT 6 0 + 1) (2 ^ 32 - 1) ∧ s.SameMem t ∧
      (s.get .FAB_DERR_VALID r.die 0 = 0 → t.get .FAB_DERR_VALID r.die 0 = 1 ∧ t.get .FAB_DERR_CAUSE r.die 0 = 3))

/-- R370, R372 to R375, R377, R380 and R381. How many digests are kept for the comparison is the model's reading (log entry 150). -/
def Obligations.PairRolesHealthAndResync : Prop := ∀ s : State, s.canonical = true → s.due = [] →
  let addr := s.get .RING_STATUS_ADDR 6 0
  let role := s.get .PAIR_STATUS_ROLE 6 0
  let B := 8 * 2 ^ s.get .EPOCH_CFG_BSIZE 6 0
  let east := s.get .BIRAY_STATUS_STATE 6 0 = 2 ∧ s.serdesRuns 6 = true ∧ s.get .BIRAY_STATUS_WRAP 6 0 = 0
  let own := east ∧ s.get .RING_OVER 6 0 = 0
  let tdv0 := [((⟨.PAIR_TDV, 6, 0⟩ : Loc), 0), (⟨.PAIR_TDV, 6, 1⟩, 0), (⟨.PAIR_TDV, 6, 2⟩, 0)]
  (s.dieClocked 6 = false → (∀ id auto iso, exec (.pairidWrite id auto iso) s = .next s) ∧
    ∀ i, i ∈ [Instr.activate, .takeover, .pairSnapArm, .pairSnapCancel] → exec i s = .next s) ∧
  (∀ id auto iso, id < 256 → auto < 2 → iso < 2 → s.dieClocked 6 = true →
    let r := if id = 0 then 0 else 2
    (role = 1 → Does (.pairidWrite id auto iso) s [(⟨.PAIR_CFG_AUTO, 6, 0⟩, auto), (⟨.PAIR_CFG_ISOYIELD, 6, 0⟩, iso)]) ∧
    (role ≠ 1 → Does (.pairidWrite id auto iso) s ([(⟨.PAIR_CFG_AUTO, 6, 0⟩, auto), (⟨.PAIR_CFG_ISOYIELD, 6, 0⟩, iso), (⟨.PAIR_CFG_PAIRID, 6, 0⟩, id),
      (⟨.PAIR_STATUS_ROLE, 6, 0⟩, r), (⟨.PAIR_STATUS_SYNC, 6, 0⟩, 0), (⟨.PKT_CFG_TXGATE, 6, 0⟩, r / 2), (⟨.PKT_CFG_TXGATE, 7, 0⟩, r / 2),
      (⟨.PAIR_YIELDB, 6, 0⟩, 0), (⟨.PAIR_STATUS_TAKEPEND, 6, 0⟩, 0), (⟨.PAIR_TRIG, 6, 0⟩, 0), (⟨.PAIR_ACTREQ, 6, 0⟩, 0)] ++
      if id = 0 then [] else s.ports.map fun p => (⟨.SAP_STATUS_DRIVE, p.die, p.sec⟩, 0)))) ∧
  (role ≠ 2 → exec .activate s = .next s ∧ exec .takeover s = .next s) ∧
  (role = 2 → s.dieClocked 6 = true → Does .takeover s [(⟨.PAIR_TRIG, 6, 0⟩, 1)] ∧ Does .activate s [if s.get .PAIR_ACTQ 6 0 < 3 then (⟨.PAIR_STATUS_REFUSED, 6, 0⟩, 1) else (⟨.PAIR_ACTREQ, 6, 0⟩, 1)]) ∧
  (let frame := fun (b : Nat) (t : State) => (s.get .RING_HASADDR 6 0 = 0 → t = s) ∧
    (s.get .RING_HASADDR 6 0 = 1 → own → ∃ g, t = s.send (.biray 6 6 g) ∧ g.src = addr ∧ frLong g 2 = b ∧
      frLong g 4 = s.get .PAIR_ACTSINCE 6 0 ∧ bitsAt (frWord g 1) 0 8 = s.get .PAIR_CFG_PAIRID 6 0 ∧ bitsAt (frWord g 1) 8 2 = role ∧
      bitsAt (frWord g 1) 10 2 = s.get .PAIR_STATUS_SYNC 6 0 ∧ bitsAt (frWord g 1) 12 2 = s.highestLevel ∧
      bitAt (frWord g 1) 14 = s.get .PAIR_STATUS_TAKEPEND 6 0 ∧
      ∀ D, D < 3 → bytesNat (slice g.payload (8 * D) 4) = s.get .PAIR_DIG 6 D)
   (s.get .EPOCH_STATUS_RUN 6 0 = 1 → exec .healthTimer s = .next s) ∧ (s.get .EPOCH_STATUS_RUN 6 0 = 0 → Completes .healthTimer s (frame 0)) ∧
   (s.get .PAIR_STATUS_TAKEPEND 6 0 = 0 → exec .healthCopySend s = .next s) ∧
   (s.get .PAIR_STATUS_TAKEPEND 6 0 = 1 → Completes .healthCopySend s (frame (s.get .PAIR_ACTSINCE 6 0 - B)))) ∧
  (∀ (dir : Nat) (f : BFrame), dir < 2 → (∀ x, x ∈ f.w → x < 2 ^ 32) → (∀ x, x ∈ f.payload → x < 256) → f.src < 16 → f.payload.length ≤ 1024 →
    let d := if dir = 0 then 7 else 6
    let west := s.get .BIRAY_STATUS_WRAP 7 0 = 1
    let arrives := s.get .BIRAY_STATUS_STATE d 0 = 2 ∧ s.serdesRuns d = true ∧ (f.wrap ≠ 1 ∨ west ∨ s.get .BIRAY_DISCW 7 0 = 0) ∧ (dir = 1 → west) ∧ (dir = 0 → s.routeUp 7 6 = true)
    let mine := arrives ∧ s.get .RING_HASADDR 6 0 = 1 ∧ f.dst = addr
    let here := arrives ∧ s.get .RING_HASADDR 6 0 = 1 ∧ f.src ≠ addr
    let w := frWord f 1
    let D := w % 4
    let id := w % 256
    let since := frLong f 4
    let failed := fun t : State => t.get .PAIR_STATUS_SNAPFAIL 6 0 = 1 ∧ t.get .PAIR_STATUS_SYNC 6 0 = 0 ∧ t.get .PAIR_STATUS_SNAPPEND 6 0 = 0 ∧
      t.mirror = [] ∧ t.Raised .PAIR_SNAPFAIL 6 0
    (here → (id = 0 ∨ id ≠ s.get .PAIR_CFG_PAIRID 6 0) → Completes (.health dir f) s fun t => s.SameMem t ∧
      t.get .RING_PRESENT 6 0 = setBit (s.get .RING_PRESENT 6 0) f.src ∧ s.SameBut t [.RING_PRESENT, .CSF_UPAIR, .BIRAY_DISC] ∧
      (east → f.hops < 62 → .biray 6 6 { f with hops := f.hops + 1 } ∈ t.sent)) ∧
    (here → id ≠ 0 → id = s.get .PAIR_CFG_PAIRID 6 0 → Completes (.health dir f) s fun t =>
      t.get .RING_PRESENT 6 0 = setBit (s.get .RING_PRESENT 6 0) f.src ∧ t.get .PAIR_STATUS_PARTNER 6 0 = 1 ∧ t.get .PAIR_PROLE 6 0 = bitsAt w 8 2 ∧
      t.get .PAIR_PESC 6 0 = bitsAt w 12 2 ∧ t.get .PAIR_STATUS_ROLE 6 0 = role ∧
      (let conflict := bitAt w 14 = 0 ∧ bitsAt w 8 2 = 1 ∧
        (s.get .PAIR_ACTSINCE 6 0 < since ∨ (s.get .PAIR_ACTSINCE 6 0 = since ∧ f.src < addr))
       (role = 1 → s.get .PAIR_YIELD 6 0 = 0 → conflict → t.get .PAIR_STATUS_CONFLICT 6 0 = 1 ∧ t.Raised .PAIR_CONFLICT 6 0) ∧
       (role = 1 → s.get .PAIR_YIELD 6 0 = 0 → (bitAt w 14 = 1 ∨ conflict) → t.get .PAIR_YIELD 6 0 = 1 ∧
        (s.get .TB_DOMCNT 6 0 < since → t.get .PAIR_YIELDAT 6 0 = since) ∧
        (since ≤ s.get .TB_DOMCNT 6 0 → t.get .PAIR_YIELDAT 6 0 = (s.get .TB_DOMCNT 6 0 / B + 1) * B % 2 ^ 64)) ∧
       (role ≠ 1 → t.get .PAIR_YIELD 6 0 = s.get .PAIR_YIELD 6 0)) ∧
      (∀ E, E < 3 → s.get .DOM_CFG_RING 6 E = 1 →
        let k := bytesNat (slice f.payload (8 * E + 4) 4)
        let x := E * 64 + k / (8 * 2 ^ s.get .EPOCH_CFG_BSIZE 6 E) % 64
        s.get .DIG_RINGB 6 x ≠ 0 → (s.get .DIG_RINGB 6 x - 1) % 2 ^ 32 = k → s.get .DIG_CMP 6 x ≠ k + 1 →
        t.get .PAIR_DIG_OWN 6 E = s.get .DIG_RING 6 x ∧ t.get .PAIR_DIG_PART 6 E = bytesNat (slice f.payload (8 * E) 4) ∧
        (s.get .DIG_RING 6 x ≠ bytesNat (slice f.payload (8 * E) 4) → (s.get .PAIR_STATUS_SYNC 6 0 = 1 ∨ s.get .PAIR_STATUS_SYNC 6 0 = 2) →
          t.get .PAIR_STATUS_SYNC 6 0 = 3 ∧ t.Raised .PAIR_DIVERGE 6 0))) ∧
    (mine → bitAt w 4 = 1 → (s.get .PAIR_STATUS_SNAPPEND 6 0 = 0 → exec (.mirror dir f) s = .next s) ∧
      (s.get .PAIR_STATUS_SNAPPEND 6 0 = 1 → Does (.mirror dir f) s [(⟨.PAIR_SNAPACK, 6, 0⟩, 1)])) ∧
    (mine → bitAt w 4 = 0 → role ≠ 2 → exec (.mirror dir f) s = .next s) ∧
    (mine → bitAt w 4 = 0 → role = 2 → bitAt w 2 = 1 → let y := s.get .PAIR_STATUS_SYNC 6 0
      (y = 1 ∨ y = 2 → exec (.mirror dir f) s = .next s) ∧
      (y = 0 ∨ y = 3 → Completes (.mirror dir f) s fun t => t.get .PAIR_STATUS_SNAPPEND 6 0 = 1 ∧ t.get .PAIR_TD 6 0 = frLong f 2 ∧
        t.get .PAIR_TDV 6 0 = 1 ∧ t.mirror = [] ∧ s.SameMem t ∧ (own → ∃ g, .biray 6 11 g ∈ t.sent ∧ g.dst = f.src ∧ bitAt (frWord g 1) 4 = 1))) ∧
    (mine → bitAt w 4 = 0 → role = 2 → bitAt w 2 = 0 → D < 3 →
      (s.get .PAIR_TDV 6 0 = 0 → exec (.mirror dir f) s = .next s) ∧
      (s.get .PAIR_TDV 6 0 = 1 → bitAt w 3 = 0 → (s.mirrorUsed + f.payload.length ≤ 2 ^ 19 → Completes (.mirror dir f) s fun t =>
        t.mirror = s.mirror ++ [⟨D, frWord f 4 % 8, frWord f 5, f.payload⟩] ∧ s.SameMem t ∧ s.SameBut t [.PAIR_TD, .PAIR_TDV]) ∧
        (2 ^ 19 < s.mirrorUsed + f.payload.length → Completes (.mirror dir f) s failed)) ∧
      (s.get .PAIR_TDV 6 0 = 1 → bitAt w 3 = 1 →
        let good := crc32 (((s.mirror.filter fun x => x.dom == D).map fun x => x.bytes).flatten) = frWord f 7
        (good → Completes (.mirror dir f) s fun t => t.get .MIRROR_ENDV 6 D = 1 ∧ t.get .MIRROR_GEN 6 D = frWord f 6 ∧ t.mirror = s.mirror ∧ s.SameMem t ∧
          s.SameBut t [.PAIR_TD, .PAIR_TDV, .MIRROR_ENDV, .MIRROR_GEN]) ∧
        (¬ good → Completes (.mirror dir f) s failed)))) ∧
  (let T := s.get .PAIR_SNAP_AT 6 0
   let bad := T % B ≠ 0
   let late := T < (s.get .TB_DOMCNT 6 0 / B + 2) * B
   let pend := s.get .PAIR_STATUS_SNAPPEND 6 0 = 1
   (s.dieClocked 6 = true → (role ≠ 1 → exec .pairSnapArm s = .next s) ∧
   (role = 1 → bad ∨ late ∨ pend → Does .pairSnapArm s [(⟨.PAIR_STATUS_BADALIGN, 6, 0⟩, if bad then 1 else s.get .PAIR_STATUS_BADALIGN 6 0),
    (⟨.PAIR_STATUS_TOOLATE, 6, 0⟩, if late then 1 else s.get .PAIR_STATUS_TOOLATE 6 0),
    (⟨.PAIR_STATUS_REFUSED, 6, 0⟩, if pend then 1 else s.get .PAIR_STATUS_REFUSED 6 0)]) ∧
   (role = 1 → ¬ (bad ∨ late ∨ pend) → Completes .pairSnapArm s fun t => t.get .PAIR_STATUS_SNAPPEND 6 0 = 1 ∧ t.get .PAIR_TD 6 0 = T ∧ s.SameMem t ∧
    (own → ∃ g, .biray 6 11 g ∈ t.sent ∧ g.dst = s.get .PAIR_PADDR 6 0 ∧ frWord g 1 = 4 ∧ frLong g 2 = T)) ∧
   (¬ pend → exec .pairSnapCancel s = .next s) ∧
   (pend → s.get .TB_DOMCNT 6 0 + B < s.get .PAIR_TD 6 0 → Does .pairSnapCancel s ((⟨.PAIR_STATUS_SNAPPEND, 6, 0⟩, 0) :: tdv0)) ∧
   (pend → ¬ s.get .TB_DOMCNT 6 0 + B < s.get .PAIR_TD 6 0 → Does .pairSnapCancel s [(⟨.PAIR_STATUS_REFUSED, 6, 0⟩, 1)])) ∧
   (role = 1 → pend → s.get .PAIR_SNAPACK 6 0 = 0 → s.get .PAIR_TD 6 0 ≤ s.get .TB_DOMCNT 6 0 + B → Does .resyncAckDeadline s
    ([(⟨.PAIR_STATUS_SNAPFAIL, 6, 0⟩, 1), (⟨.PAIR_STATUS_SNAPPEND, 6, 0⟩, 0)] ++ tdv0)) ∧
   (role ≠ 1 ∨ ¬ pend ∨ s.get .PAIR_SNAPACK 6 0 = 1 ∨ s.get .TB_DOMCNT 6 0 + B < s.get .PAIR_TD 6 0 → exec .resyncAckDeadline s = .next s)) ∧
  (∀ D, D < 3 →
    let due := role = 2 ∧ s.get .PAIR_TDV 6 D = 1 ∧ s.get .MIRROR_ENDV 6 D = 1 ∧ s.get .PAIR_APPL 6 D = 0 ∧ s.get .EPOCH_STATUS_DRAINED 6 D = 1 ∧
      s.get .EPOCH_CUR 6 D + 8 * 2 ^ s.get .EPOCH_CFG_BSIZE 6 D = s.get .PAIR_TD 6 D
    (¬ due → exec (.mirrorApply D) s = .next s) ∧
    (due → (s.mirror.filter fun x => x.dom == D) = [] → Does (.mirrorApply D) s [(⟨.PAIR_APPL, 6, D⟩, 1)]) ∧
    ∀ die a l, due → (s.mirror.filter fun x => x.dom == D) = [⟨D, die, a, l⟩] → die < 8 → a % 16 = 0 → a + 16 ≤ 2 ^ 24 → l.length = 16 → (∀ b, b ∈ l → b < 256) →
      s.offline die a = false → s.wordLocked die a = false → s.errs = [] → s.get .FLT_INJ_COUNT die bankSet = 0 → Completes (.mirrorApply D) s fun t => t.get .PAIR_APPL 6 D = 1 ∧
        t.load die a 16 = bytesNat l ∧ t.mirror = s.mirror.filter fun x => x.dom != D)

/-- R390, R403, R404, R406, R407 and R409. -/
def Obligations.MailboxesCheckAndInterrupt : Prop := ∀ s : State, s.canonical = true →
  (s.get .IN_PORST 6 0 = 1 → exec .restartTail s = .next s ∧ (∀ r x c tie, exec (.mbxPiWrite r x c tie) s = .next s ∧ exec (.mbxCiWrite r x c tie) s = .next s) ∧
    (∀ v, exec (.hostEvtWrite v) s = .next s ∧ exec (.msixUnmask v) s = .next s) ∧ ∀ m v, exec (.hostIpendClear m v) s = .next s) ∧
  (s.get .IN_PORST 6 0 = 0 →
  let pend := s.get .HOST_IPEND 6 0
  let msix := fun v : Nat => Msg.msix (s.get .MSIX_ADDR 6 v + s.get .MSIX_UADDR 6 v * 2 ^ 32) (s.get .MSIX_DATA 6 v)
  let masked := fun v : Nat => s.get .PCIE_FMASK 6 0 = 1 ∨ s.get .MSIX_CTRL 6 v = 1
  let told := fun (t : State) (v : Nat) => s.get .PCIE_MSIXEN 6 0 = 1 →
    (¬ masked v → msix v ∈ t.sent) ∧ (masked v → bitAt (t.get .MSIX_PBA 6 0) v = 1)
  let only := fun (t : State) (l : List Fld) => s.SameBut t l ∧ { t with cells := s.cells, sent := s.sent } = s
  (∀ r idx cls tie, r < 32 → idx < 128 → cls < 16 →
    let fillP := (s.get .MBX_PI 6 r + 128 - s.get (if tie then Fld.MBX_CIOLD else .MBX_CI) 6 r) % 128
    let fillC := (s.get (if tie then Fld.MBX_PIOLD else .MBX_PI) 6 r + 128 - s.get .MBX_CI 6 r) % 128
    let a := (idx + 128 - s.get .MBX_PI 6 r) % 128
    let c := (idx + 128 - s.get .MBX_CI 6 r) % 128
    let wrong := fun t : State => t.get .MBX_STAT_WRONGSIDE 6 r = 1 ∧ t.Raised .MBX_WRONGSIDE 6 0 ∧ t.get .MBX_PI 6 r = s.get .MBX_PI 6 r ∧
      t.get .MBX_CI 6 r = s.get .MBX_CI 6 r ∧ t.answer.err = true ∧ s.SameMem t
    let bad := fun t : State => t.get .MBX_STAT_BADIDX 6 r = 1 ∧ t.Raised .MBX_BADIDX 6 0 ∧ t.get .MBX_PI 6 r = s.get .MBX_PI 6 r ∧
      t.get .MBX_CI 6 r = s.get .MBX_CI 6 r ∧ t.answer.err = false ∧ s.SameMem t
    let host := cls = 9
    let tail := cls = 7 ∨ cls = 8
    let quiet := r % 2 = 0 ∨ s.eventsOf (r / 2) = []
    (¬ (if r % 2 = 0 then host else tail) → Completes (.mbxPiWrite r idx cls tie) s wrong) ∧
    ((if r % 2 = 0 then host else tail) → 64 < a + fillP → Completes (.mbxPiWrite r idx cls tie) s bad) ∧
    ((if r % 2 = 0 then host else tail) → a + fillP ≤ 64 → Completes (.mbxPiWrite r idx cls tie) s fun t => t.get .MBX_PI 6 r = idx ∧
      t.get .MBX_STAT_FILL 6 r = c ∧ t.get .MBX_PIOLD 6 r = s.get .MBX_PI 6 r ∧ t.answer = ⟨0, false⟩ ∧ s.SameMem t ∧
      (a = 0 → s.SameBut t [.MBX_PI, .MBX_PIOLD, .MBX_STAT_FILL]) ∧
      (0 < a → r % 2 = 0 → bitAt (t.get .HP_TPEND_CMD 6 0) (r / 2) = 1 ∧ t.mailboxLine = true ∧ s.SameBut t [.MBX_PI, .MBX_PIOLD, .MBX_STAT_FILL, .HP_TPEND_CMD]) ∧
      (0 < a → r % 2 = 1 → bitAt (t.get .HOST_IPEND 6 0) (r / 2) = 1 ∧ s.SameBut t [.MBX_PI, .MBX_PIOLD, .MBX_STAT_FILL, .HOST_IPEND, .MSIX_PBA] ∧
        (bitAt pend (r / 2) = 0 → told t (r / 2)))) ∧
    (¬ (if r % 2 = 0 then tail else host) → quiet → Completes (.mbxCiWrite r idx cls tie) s wrong) ∧
    ((if r % 2 = 0 then tail else host) → quiet → fillC < c → Completes (.mbxCiWrite r idx cls tie) s bad) ∧
    ((if r % 2 = 0 then tail else host) → c ≤ fillC → Completes (.mbxCiWrite r idx cls tie) s fun t => t.get .MBX_CI 6 r = idx ∧
      (quiet → t.get .MBX_STAT_FILL 6 r = (s.get .MBX_PI 6 r + 128 - idx) % 128 ∧ t.get .MBX_CIOLD 6 r = s.get .MBX_CI 6 r ∧ t.answer = ⟨0, false⟩ ∧
        s.SameMem t ∧ s.SameBut t [.MBX_CI, .MBX_CIOLD, .MBX_STAT_FILL]))) ∧
  (∀ evt, evt < 2 ^ 14 → Completes (.hostEvtWrite evt) s fun t => only t [.HOST_IPEND, .MSIX_PBA] ∧
    (∀ v, v < 32 → bitAt (t.get .HOST_IPEND 6 0) v = if 18 ≤ v ∧ bitAt evt (v - 18) = 1 then 1 else bitAt pend v) ∧
    ∀ k, k < 14 → bitAt evt k = 1 → bitAt pend (18 + k) = 0 → told t (18 + k)) ∧
  (∀ mask events, mask < 2 ^ 32 → events < 2 ^ 32 → Completes (.hostIpendClear mask events) s fun t => only t [.HOST_IPEND, .MSIX_PBA] ∧
    (∀ v, v < 32 → bitAt (t.get .HOST_IPEND 6 0) v = if bitAt events v = 1 then 1 else if bitAt mask v = 1 then 0 else bitAt pend v) ∧
    ∀ v, v < 32 → bitAt events v = 1 → (bitAt pend v = 0 ∨ bitAt mask v = 1) → told t v) ∧
  (let goes := fun (t : State) (v : Nat) => bitAt (s.get .MSIX_PBA 6 0) v = 1 → bitAt (t.get .MSIX_PBA 6 0) v = 0 ∧
      (bitAt pend v = 1 → s.get .PCIE_MSIXEN 6 0 = 1 → msix v ∈ t.sent)
   (∀ v, v < 32 → Completes (.msixUnmask v) s fun t => t.get .MSIX_CTRL 6 v = 0 ∧ only t [.MSIX_CTRL, .MSIX_PBA] ∧
    (s.get .PCIE_FMASK 6 0 = 0 → goes t v) ∧ (s.get .PCIE_FMASK 6 0 = 1 → t.get .MSIX_PBA 6 0 = s.get .MSIX_PBA 6 0)) ∧
   Completes (.msixUnmask 32) s fun t => t.get .PCIE_FMASK 6 0 = 0 ∧ only t [.PCIE_FMASK, .MSIX_PBA] ∧
    ∀ v, v < 32 → (s.get .MSIX_CTRL 6 v = 0 → goes t v) ∧
      (s.get .MSIX_CTRL 6 v = 1 → bitAt (t.get .MSIX_PBA 6 0) v = bitAt (s.get .MSIX_PBA 6 0) v)) ∧
  (s.get .TAIL_SHEDDING 6 0 = 1 → exec .restartTail s = .next s) ∧
  (s.get .TAIL_SHEDDING 6 0 = 0 → Does .restartTail s [(⟨.HP_GILLREQ_PEND, 6, 0⟩, 1)]))

/-- R365, R388, R391 to R393, R395 to R399 and R412. The places of the configuration registers are the model's choice (log entry 74). -/
def Obligations.TailShedsAndHostPortsServe : Prop := ∀ s : State, s.canonical = true →
  let tail := s.get .AXO_STATUS_TAIL 6 0
  let kept := fun t : State => ∀ f, f ∈ [Fld.FAB_PERM, .BAR2_XLAT_TARGET, .BAR2_XLAT_EN, .BAR2_XLAT_RO] → ∀ d i, t.get f d i = s.get f d i
  let carved := fun a : Nat => 0xC00000 ≤ a ∧ a < 0x1000000
  (∀ addr len beats, addr < 2 ^ 40 → len < 17 → beats.length ≤ 16 → (∀ x, x ∈ beats → x < 2 ^ 128) →
    (s.gillWrites = false ∨ tail < 2 → exec (.tailShed addr len beats) s = .next s) ∧
    (s.gillWrites = true → 2 ≤ tail → Completes (.tailShed addr len beats) s fun t => t.get .AXO_STATUS_TAIL 6 0 = 0 ∧ t.get .AXO_TAIL_CTL 6 0 = 1 ∧
      t.get .AXO_SHEDCNT 6 0 = (s.get .AXO_SHEDCNT 6 0 + 1) % 2 ^ 32 ∧ bitAt (t.get .HOST_IPEND 6 0) 16 = 1 ∧ t.live 6 0 .AXO_TAIL_DOWN = true ∧
      kept t ∧ t.txs = [] ∧ t.get .CSF_READY 6 0 = 0 ∧ (∀ a, a < 2 ^ 32 → t.byte 8 a = 0) ∧ (∀ a, carved a → s.offline 6 a = false → t.byte 6 a = 0) ∧
      (∀ a, carved a → s.offline 6 a = true → len ≤ beats.length → t.byte 6 a = s.byte 6 a ∧ t.Raised .BANK_OFFLINE_ACC 6 0) ∧
      (len ≤ beats.length → ∀ d a, d < 8 → a < 2 ^ 32 → ¬ (d = 6 ∧ 0xC00000 ≤ a ∧ a < 0x1000000) → t.byte d a = s.byte d a))) ∧
  (∀ (hash : List Nat) good (priv carve : List Nat), hash.length = 12 → (∀ x, x ∈ hash → x < 2 ^ 32) → (∀ x, x ∈ priv ++ carve → x < 256) →
    let i := Instr.tailImageLoaded hash good priv carve
    let passes := priv.length ≤ 0x1C0000 ∧ carve.length ≤ 0x100000 ∧ (s.get .AXO_STATUS_TAILSIGN 6 0 = 0 ∨ good = true)
    let may := s.gillWrites = true ∧ 5 ≤ s.get .BOOT_STEP 6 0 ∧ tail = 0
    (¬ may → exec i s = .next s) ∧
    (may → Completes i s fun t => (∀ k, k < 12 → t.get .AXO_MEAS 6 k = hash.getD k 0) ∧ kept t ∧
      (passes → t.get .AXO_STATUS_TAIL 6 0 = 1 ∧ t.loadBytes 8 0 priv.length = priv ∧
        (∀ a, carved a → a < 0xC00000 + carve.length → s.offline 6 a = true → t.byte 6 a = s.byte 6 a ∧ t.Raised .BANK_OFFLINE_ACC 6 0) ∧
        (s.errs = [] → s.get .FLT_INJ_COUNT 6 bankSet = 0 → s.get .DMA_KICKOFS_EN 6 0 = 0 →
          (∀ a, carved a → s.offline 6 a = false ∧ s.wordLocked 6 a = false) →
          s.SameBut t [.AXO_MEAS, .AXO_STATUS_TAIL] ∧ t.loadBytes 6 0xC00000 carve.length = carve)) ∧
      (¬ passes → t.get .AXO_STATUS_TAIL 6 0 = 3 ∧ t.live 6 0 .AXO_TAIL_FAIL = true))) ∧
  (s.gillWrites = false ∨ tail ≠ 1 → exec .tailResetRelease s = .next s) ∧
  (s.gillWrites = true → tail = 1 → Completes .tailResetRelease s fun t => t.get .AXO_STATUS_TAIL 6 0 = 2 ∧ t.get .AXO_TAIL_CTL 6 0 = 0 ∧
    t.get .AXO_TAILSTAMP 6 0 = s.capture 6 % 2 ^ 64 ∧ bitAt (t.get .HOST_IPEND 6 0) 17 = 1 ∧ t.Raised .AXO_TAIL_UP 6 0 ∧
    (s.get .RING_STEPPED 6 0 = 1 → t.get .CSF_READY 6 0 = 1) ∧ (s.get .RING_STEPPED 6 0 = 0 → t.get .CSF_READY 6 0 = s.get .CSF_READY 6 0) ∧
    (s.get .TAIL_SHED 6 0 = 1 → kept t) ∧ (s.OneCond .AXO_TAIL_DOWN 6 0 Config.noInstance → t.live 6 0 .AXO_TAIL_DOWN = false)) ∧
  (let error := fun (u t : State) (a : Nat) => t.Raised .HP_ERR 6 0 ∧ t.get .HP_ERRADDR_VALID 6 0 = 1 ∧
      (u.get .HP_ERRADDR_VALID 6 0 = 0 → t.get .HP_ERRADDR_ADDR 6 0 = a % 2 ^ 40) ∧ (u.get .HP_ERRADDR_VALID 6 0 = 1 → t.get .HP_ERRADDR_ADDR 6 0 = u.get .HP_ERRADDR_ADDR 6 0)
   (∀ addr wr n en data, addr < 2 ^ 64 → n ≤ 128 → en < 2 ^ (4 * n) → data < 2 ^ (32 * n) →
    let i := Instr.pcieMemoryRequest addr wr n en data
    (s.pcieUp = false → exec i s = .next s) ∧
    (s.pcieUp = true → s.barHit addr = none → Completes i s fun t => t.get .PCIE_URD 6 0 = 1 ∧ bitAt (t.get .PCIE_UESTA 6 0) 20 = 1 ∧
      t.sent = s.sent ++ (if wr then [] else [.completion 1 0]) ∧ s.SameBut t [.PCIE_URD, .PCIE_UESTA] ∧ s.SameMem t) ∧
    (s.get .PCIE_D3 6 0 = 1 ∨ s.get .PCIE_MSE 6 0 = 0 → s.barHit addr = none) ∧
    (∀ bar o, s.pcieUp = true → s.barHit addr = some (bar, o) →
      let parts := hostParts bar o n en
      let one := fun (u : State) (p : Nat × Nat) => u.hostAccess bar (o + p.1) wr p.2 (bitsAt data (8 * p.1) (8 * p.2))
      let after := fun k : Nat => (parts.take k).foldl (fun u p => (one u p).1) s
      (s.hostQ ≠ [] → ∃ k, exec i s = .next { s with hostQ := s.hostQ ++ [k] } ∧ k.rest = parts ∧ k.off = o ∧ k.bar = bar ∧ k.write = wr ∧ k.data = data) ∧
      (s.hostQ = [] → (∀ k, k < parts.length → (after (k + 1)).answer.err = false ∧ (after (k + 1)).remote.length = (after k).remote.length) →
        let val := (List.range parts.length).foldl (fun v k => v + (after (k + 1)).answer.data * 2 ^ (8 * (parts.getD k (0, 0)).1)) 0
        exec i s = .next (if wr then after parts.length else (after parts.length).send (.completion 0 val)))) ∧
    (∀ bar o, s.pcieUp = true → s.hostQ = [] → s.barHit addr = some (bar, o) → o % 4 = 0 → n = 1 → en = 15 →
      let q := s.hostAccess bar o wr 4 data
      (q.1.remote.length = s.remote.length → q.1.answer.err = true → Completes i s fun t => error q.1 t q.2 ∧ q.1.SameMem t ∧
        t.sent = q.1.sent ++ (if wr then [] else [.completion 4 0]) ∧ (wr = false → bitAt (t.get .PCIE_UESTA 6 0) 15 = 1)))) ∧
   (∀ k r, s.hostQ = [k] → k.tag = some r.tag → k.qspi = false → k.rest = [] → k.bad = none → r.tag < 256 →
    s.remote.find? (fun q => q.tag == r.tag) = some r → Completes (.remoteAccessTimeout r.tag) s fun t => t.hostQ = [] ∧ t.remote = s.remote.erase r ∧
      error s t k.addr ∧ t.Raised .RING_TIMEOUT 6 0 ∧ t.sent = s.sent ++ if k.write then [] else [.completion 4 0]) ∧
   (∀ o, o < 2 ^ 28 → s.get .BAR2_XLAT_EN 6 (o / 2 ^ 20) = 1 → s.get .BAR2_XLAT_RO 6 (o / 2 ^ 20) = 1 → ∀ v, (s.hostAccess 2 o true 4 v).1 = { s with answer := ⟨0, true⟩ }) ∧
   (∀ d m cmd rd wr bar, (cmd, rd, wr, bar) ∈ [((1 : Nat), true, false, (0 : Nat)), (3, true, false, 2), (2, false, true, 0), (4, false, true, 2)] →
    ∀ offset late nibbles, offset < 2 ^ 32 → nibbles < 8 → d < 2 ^ 32 → m = 1 ∨ m = 0 →
    let i : Instr := if cmd = 1 then .rd0 offset m nibbles late else if cmd = 3 then .rd2 offset m nibbles late else
      if cmd = 2 then .wr0 offset (List.replicate m d) nibbles else .wr2 offset (List.replicate m d) nibbles
    let v := (s.put .QSPI_CMD 6 0 (256 + cmd)).put .QSPI_NIB 6 0 nibbles
    let refused := offset % 4 ≠ 0 ∨ (if bar = 0 then 2 ^ 26 ≤ offset else 2 ^ 28 ≤ offset)
    (s.qspiIdle = false → exec i s = .next s) ∧
    (s.qspiIdle = true → refused → Completes i s fun t => t.get .QSPI_CMD 6 0 = 256 + cmd ∧ t.get .QSPI_STATUS_BADCMD 6 0 = 1 ∧ t.Raised .QSPI_BADCMD 6 0 ∧
      s.SameMem t) ∧
    (s.qspiIdle = true → ¬ refused → s.hostQ ≠ [] → ∃ k, exec i s = .next { v with hostQ := s.hostQ ++ [k] } ∧ k.off = offset ∧ k.bar = bar ∧ k.write = wr) ∧
    (s.qspiIdle = true → s.hostQ = [] → ¬ refused → wr = true → m = 0 → Does i s [(⟨.QSPI_CMD, 6, 0⟩, 256 + cmd), (⟨.QSPI_NIB, 6, 0⟩, nibbles)]) ∧
    (s.qspiIdle = true → s.hostQ = [] → ¬ refused → wr = true → m = 1 →
      let q := v.hostAccess bar offset true 4 d
      (q.1.remote.length = s.remote.length → q.1.answer.err = false → exec i s = .next q.1) ∧
      (q.1.remote.length = s.remote.length → q.1.answer.err = true → Completes i s fun t => error (q.1.put .QSPI_STATUS_ERR 6 0 1) t q.2 ∧ t.get .QSPI_STATUS_ERR 6 0 = 1)) ∧
    (s.qspiIdle = true → s.hostQ = [] → ¬ refused → rd = true → m = 1 → late = [] →
      let q := v.hostAccess bar offset false 4 0
      Completes i s fun t => t.answer = ⟨if q.1.answer.err then 0 else q.1.answer.data % 2 ^ 32, false⟩ ∧ (q.1.answer.err = true → t.Raised .HP_ERR 6 0)) ∧
    (s.qspiIdle = true → s.hostQ = [] → ¬ refused → rd = true → m = 0 → late = [] → Completes i s fun t => t.answer = ⟨0, false⟩) ∧
    (s.qspiIdle = true → s.hostQ = [] → ¬ refused → rd = true → ∀ n, Completes (if cmd = 1 then .rd0 offset n nibbles late else .rd2 offset n nibbles late) s
      fun t => t.answer.err = false))) ∧
  (∀ nib, nib < 8 → (s.qspiIdle = false → exec (.stat nib) s = .next s) ∧
    (s.qspiIdle = true → Completes (.stat nib) s fun t => t.answer = ⟨s.get .QSPI_STATUS_ERR 6 0 + 2 * s.get .QSPI_STATUS_ABORT 6 0 +
      4 * s.get .QSPI_STATUS_BADCMD 6 0, false⟩ ∧ t.get .QSPI_NIB 6 0 = nib ∧ s.SameBut t [.QSPI_CMD, .QSPI_NIB] ∧ s.SameMem t)) ∧
  (∀ cmd, cmd < 256 → (s.qspiIdle = false ∨ (1 ≤ cmd ∧ cmd ≤ 5) → exec (.badCommand cmd) s = .next s) ∧
    (s.qspiIdle = true → (cmd = 0 ∨ 5 < cmd) → Completes (.badCommand cmd) s fun t => t.get .QSPI_STATUS_BADCMD 6 0 = 1 ∧ t.Raised .QSPI_BADCMD 6 0 ∧ t.get .QSPI_BAD 6 0 = 1 ∧
      t.qspiDrives = false ∧ s.SameMem t)) ∧
  ((∀ k, k ∈ s.hostQ → k.write = false) → Completes .qspiCsRise s fun t => t.hostQ = []) ∧
  (s.get .HP_CFG 6 0 = 0 → s.hbusy = none ∧ s.qspiDrives = false) ∧
  (s.get .QSPI_NIB 6 0 = 0 → s.hostQ = [] → Does .qspiCsRise s [(⟨.QSPI_CMD, 6, 0⟩, 0), (⟨.QSPI_NIB, 6, 0⟩, 0), (⟨.QSPI_BAD, 6, 0⟩, 0)]) ∧
  (s.get .QSPI_NIB 6 0 ≠ 0 → s.hostQ = [] → Completes .qspiCsRise s fun t => t.get .QSPI_CMD 6 0 = 0 ∧ t.get .QSPI_STATUS_ABORT 6 0 = 1 ∧ t.Raised .QSPI_ABORT 6 0 ∧ s.SameMem t) ∧
  (∀ reg v, reg < 1024 → v < 2 ^ 32 → (s.pcieUp = false → ∀ w, exec (.pcieConfigRequest reg w v) s = .next s) ∧
    (s.pcieUp = true → ∃ x, exec (.pcieConfigRequest reg false v) s = .next (s.send (.completion 0 x)) ∧
      (reg = 0 → x / 2 ^ 16 = 0xC801) ∧ (reg = 2 → x = 0x040100A1) ∧ (reg = 4 → x = s.get .PCIE_BAR0 6 0 % 2 ^ 32 + 4) ∧ (reg = 17 → x % 4 = 3 * s.get .PCIE_D3 6 0) ∧
      (reg = 20 → x / 2 ^ 16 % 2 ^ 11 = 31) ∧ (reg = 25 → x % 8 = 1) ∧ (reg = 65 → x = s.get .PCIE_UESTA 6 0)) ∧
    (s.pcieUp = true → Completes (.pcieConfigRequest reg true v) s fun t => .completion 0 0 ∈ t.sent ∧ s.SameMem t ∧
      (reg = 0 ∨ reg = 2 → t = s.send (.completion 0 0)) ∧ (reg = 1 → t.get .PCIE_MSE 6 0 = bitAt v 1 ∧ s.SameBut t [.PCIE_MSE]) ∧
      (reg = 4 → t.get .PCIE_BAR0 6 0 % 2 ^ 26 = 0 ∧ t.get .PCIE_BAR0 6 0 / 2 ^ 26 % 64 = v / 2 ^ 26 ∧ s.SameBut t [.PCIE_BAR0]) ∧
      (reg = 5 → t.get .PCIE_BAR0 6 0 / 2 ^ 32 = v ∧ s.SameBut t [.PCIE_BAR0]) ∧ (reg = 6 ∨ reg = 7 → s.SameBut t [.PCIE_BAR2]) ∧
      (reg = 17 → s.SameBut t [.PCIE_D3] ∧ (v % 4 = 3 → t.get .PCIE_D3 6 0 = 1) ∧ (v % 4 = 0 → t.get .PCIE_D3 6 0 = 0)) ∧
      (reg = 20 → t.get .PCIE_MSIXEN 6 0 = bitAt v 31 ∧ t.get .PCIE_FMASK 6 0 = bitAt v 30 ∧ s.SameBut t [.PCIE_MSIXEN, .PCIE_FMASK, .MSIX_PBA]) ∧
      (reg = 26 → bitAt v 15 = 0 → s.SameBut t [.PCIE_MPS, .PCIE_URD]) ∧
      (reg = 26 → bitAt v 15 = 1 → t.hostQ = [] ∧ t.get .HP_TPEND_FLR 6 0 = 1 ∧ t.get .PCIE_MSE 6 0 = 0 ∧ t.Raised .HP_FLR 6 0) ∧
      (reg = 65 → ∀ k, k < 32 → bitAt (t.get .PCIE_UESTA 6 0) k = bitAt (s.get .PCIE_UESTA 6 0) k * (1 - bitAt v k)))) ∧
  (∀ up speed width byReset, up < 2 → speed < 4 → width < 8 →
    let i := Instr.pcieLinkChange up speed width byReset
    (s.get .HP_CFG 6 0 = 1 ∨ s.get .PCIE_PERST 6 0 = 1 ∨ s.get .IN_PORST 6 0 = 1 → exec i s = .next s) ∧
    (s.get .IN_PORST 6 0 = 0 → s.get .HP_CFG 6 0 = 0 → s.get .PCIE_PERST 6 0 = 0 → Completes i s fun t => t.get .HP_STATUS_LINKUP 6 0 = up ∧
      t.get .HP_STATUS_SPEED 6 0 = up * speed ∧ t.get .HP_STATUS_WIDTH 6 0 = up * width ∧ s.SameMem t ∧ (up = 1 → s.OneCond .HP_LINK_DOWN 6 0 Config.noInstance → t.live 6 0 .HP_LINK_DOWN = false) ∧
      (up = 0 → s.get .HP_STATUS_LINKUP 6 0 = 1 → byReset = false → t.live 6 0 .HP_LINK_DOWN = true))) ∧
  (∀ addr len beats, addr < 2 ^ 40 → len < 17 → beats.length ≤ 16 → (∀ x, x ∈ beats → x < 2 ^ 128) →
    let reset := fun t : State => t.get .PCIE_MSE 6 0 = 0 ∧ t.get .PCIE_MSIXEN 6 0 = 0 ∧ t.get .PCIE_BAR0 6 0 = 0 ∧ t.get .PCIE_BAR2 6 0 = 0 ∧
      (∀ v, v < 32 → t.get .MSIX_ADDR 6 v = 0 ∧ t.get .MSIX_DATA 6 v = 0 ∧ t.get .MSIX_CTRL 6 v = 1) ∧ t.get .MSIX_PBA 6 0 = 0 ∧
      t.get .HOST_IPEND 6 0 = 0 ∧ t.get .HOST_IMASK 6 0 = 0 ∧ t.get .HP_TPEND_FLR 6 0 = 1 ∧ t.Raised .HP_FLR 6 0 ∧ kept t ∧
      (∀ r, t.get .MBX_PI 6 r = s.get .MBX_PI 6 r ∧ t.get .MBX_CI 6 r = s.get .MBX_CI 6 r) ∧ (len ≤ beats.length → s.SameMem t) ∧ t.hostQ = []
    (s.pcieUp = false → exec (.flr addr len beats) s = .next s) ∧ (s.pcieUp = true → Completes (.flr addr len beats) s reset) ∧
    Does (.pciePerst 1 addr len beats) s [(⟨.PCIE_PERST, 6, 0⟩, 0)] ∧
    (s.get .IN_PORST 6 0 = 1 ∨ s.get .PCIE_PERST 6 0 = 1 ∨ s.get .HP_CFG 6 0 = 1 → Does (.pciePerst 0 addr len beats) s [(⟨.PCIE_PERST, 6, 0⟩, 1)]) ∧
    (s.get .IN_PORST 6 0 = 0 → s.get .PCIE_PERST 6 0 = 0 → s.get .HP_CFG 6 0 = 0 → Completes (.pciePerst 0 addr len beats) s fun t => reset t ∧ t.get .PCIE_PERST 6 0 = 1 ∧
      t.get .HP_STATUS_LINKUP 6 0 = 0))

/-- R413 to R416, R418, R426 and R432 to R434. Payloads without stated offsets are packed without gaps, and a delay's last place is open: the
model's choice (log entries 76 and 78). -/
def Obligations.CsfChecksAndAnswersEachCommand : Prop := ∀ (s : State) (p : Nat), p < 16 → s.canonical = true →
  let m := s.cmdMsg p
  (∀ (img : GraphImage) (b c : Bool) (far : List FarAnswer),
    let fixed : List (Instr × Nat × Nat) := [(.sysInfo p, 0x101, 0), (.sysStatus p, 0x102, 0), (.sysEvents p, 0x103, 4), (.sysRestartTail p, 0x104, 0),
      (.graphLoadBegin p, 0x201, 8), (.graphLoadEnd p img b c, 0x203, 0), (.graphStart p, 0x204, 9), (.graphStop p, 0x205, 1),
      (.graphQueryLatency p, 0x206, 4), (.graphQueryBridge p, 0x207, 2), (.txBegin p, 0x301, 1), (.txCommitAt p far, 0x303, 8),
      (.txAbort p far, 0x304, 0), (.txStatus p, 0x305, 0), (.paramGet p, 0x306, 8), (.sceneStore p far, 0x401, 2), (.sceneDelete p, 0x403, 1),
      (.sceneList p, 0x404, 0), (.routeGet p, 0x502, 4), (.routeXflen p far, 0x503, 1), (.meterSnapshot p, 0x601, 9), (.meterRead p, 0x602, 8),
      (.clkDomainSet p, 0x701, 4), (.clkRefSet p, 0x702, 13), (.clkSelSet p, 0x703, 7), (.clkStatus p, 0x704, 0), (.netMacSet p, 0x801, 11),
      (.netPtpSet p, 0x802, 6), (.netStreamTx p far, 0x803, 67), (.netStreamRx p, 0x804, 24), (.netStatus p, 0x805, 1), (.pairSet p, 0x901, 3),
      (.pairActivate p, 0x902, 0), (.pairTakeover p, 0x903, 0), (.pairResync p, 0x904, 8), (.pairStatus p, 0x905, 0), (.faultList p, 0xA01, 9),
      (.faultAck p, 0xA02, 3), (.faultInject p, 0xA03, 5), (.faultClear p, 0xA04, 3)]
    let varied : List (Instr × Nat) := [(.sysEcho p, 0x105), (.graphLoadData p, 0x202), (.txSet p, 0x302), (.routeSet p far, 0x501), (.sceneRecall p far, 0x402)]
    ∀ x, x ∈ fixed.map (fun y => (y.1, y.2.1)) ++ varied →
      (s.canServe p = false ∨ m.opcode ≠ x.2 → exec x.1 s = .next s) ∧
      (s.get .SNAP_BUSY 6 0 = 0 ∨ (x.2 ≠ 0x201 ∧ x.2 ≠ 0x203 ∧ x.2 ≠ 0xA04) → s.canServe p = true → m.opcode = x.2 → m.badHeader = true → Replies x.1 s p 2 m.txid [] [])) ∧
  (∀ (img : GraphImage) (b c : Bool) (far : List FarAnswer), ∀ x : Instr × Nat × Nat, x ∈ [(Instr.sysInfo p, 0x101, 0), (.sysStatus p, 0x102, 0),
      (.sysEvents p, 0x103, 4), (.sysRestartTail p, 0x104, 0), (.graphLoadBegin p, 0x201, 8), (.graphLoadEnd p img b c, 0x203, 0), (.graphStart p, 0x204, 9),
      (.graphStop p, 0x205, 1), (.graphQueryLatency p, 0x206, 4), (.graphQueryBridge p, 0x207, 2), (.txBegin p, 0x301, 1), (.txCommitAt p far, 0x303, 8),
      (.txAbort p far, 0x304, 0), (.txStatus p, 0x305, 0), (.paramGet p, 0x306, 8), (.sceneStore p far, 0x401, 2), (.sceneDelete p, 0x403, 1),
      (.sceneList p, 0x404, 0), (.routeGet p, 0x502, 4), (.routeXflen p far, 0x503, 1), (.meterSnapshot p, 0x601, 9), (.meterRead p, 0x602, 8),
      (.clkDomainSet p, 0x701, 4), (.clkRefSet p, 0x702, 13), (.clkSelSet p, 0x703, 7), (.clkStatus p, 0x704, 0), (.netMacSet p, 0x801, 11),
      (.netPtpSet p, 0x802, 6), (.netStreamTx p far, 0x803, 67), (.netStreamRx p, 0x804, 24), (.netStatus p, 0x805, 1), (.pairSet p, 0x901, 3),
      (.pairActivate p, 0x902, 0), (.pairTakeover p, 0x903, 0), (.pairResync p, 0x904, 8), (.pairStatus p, 0x905, 0), (.faultList p, 0xA01, 9),
      (.faultAck p, 0xA02, 3), (.faultInject p, 0xA03, 5), (.faultClear p, 0xA04, 3)] →
    s.get .SNAP_BUSY 6 0 = 0 ∨ (x.2.1 ≠ 0x201 ∧ x.2.1 ≠ 0x203 ∧ x.2.1 ≠ 0xA04) → s.canServe p = true → m.opcode = x.2.1 → m.badHeader = false → m.len ≠ x.2.2 → Replies x.1 s p 3 m.txid [] []) ∧
  (s.canServe p = false ∨ csfOpcodes.contains m.opcode = true → exec (.unknownOpcode p) s = .next s) ∧
  (s.canServe p = true → csfOpcodes.contains m.opcode = false → Replies (.unknownOpcode p) s p (if m.badHeader then 2 else 1) m.txid [] []) ∧
  (s.Fronts p 0x101 0 → ∃ x y, x < 256 ∧ y < 256 ∧ Replies (.sysInfo p) s p 0 m.txid ([0x4C, 0x51, 0x43, 0x38, 0x2D, 0x41, 0x31, 0x2D, 0x46, 0x42, 0x34, 0x30, 0x39, 0x36, x, y] ++
    [4, 1] ++ natBytes 8 (s.get .RING_DEVID 6 0) ++ [s.get .RING_STATUS_ADDR 6 0, s.get .PAIR_STATUS_ROLE 6 0, s.get .HP_CFG 6 0] ++
    ((List.range 12).map fun i => natBytes 4 (s.get .AXO_MEAS 6 i)).flatten) []) ∧
  (s.Fronts p 0x102 0 → Replies (.sysStatus p) s p 0 m.txid (([0, 1, 2].map fun D => natBytes 4 (s.get .TB_GEN 6 D)).flatten ++
    ([0, 1, 2].map fun D => s.get .EPOCH_STATUS_RUN 6 D) ++ natBytes 4 (s.get .AXO_SHEDCNT 6 0) ++ natBytes 8 (s.get .AXO_TAILSTAMP 6 0)) []) ∧
  (s.Fronts p 0x103 4 → Completes (.sysEvents p) s fun t => s.Answered t p 0 m.txid [] ∧ s.OnlyAnswered t p [.CSF_EVMASK] ∧
    t.get .CSF_EVMASK 6 p = m.u32 0 ∧ ∀ q, q ≠ p → t.get .CSF_EVMASK 6 q = s.get .CSF_EVMASK 6 q) ∧
  (s.Fronts p 0x104 0 → Completes (.sysRestartTail p) s fun t => s.Answered t p 0 m.txid [] ∧ s.OnlyAnswered t p [.HP_GILLREQ_PEND] ∧
    t.get .HP_GILLREQ_PEND 6 0 = if s.get .TAIL_SHEDDING 6 0 = 0 then 1 else s.get .HP_GILLREQ_PEND 6 0) ∧
  (s.canServe p = true → m.opcode = 0x105 → m.badHeader = false → Replies (.sysEcho p) s p 0 m.txid m.payload []) ∧
  (s.get .SNAP_BUSY 6 0 ≠ 0 → exec (.graphLoadBegin p) s = .next s ∧ exec (.faultClear p) s = .next s ∧ ∀ img b c, exec (.graphLoadEnd p img b c) s = .next s) ∧
  (s.get .SNAP_BUSY 6 0 = 0 → s.Fronts p 0x201 8 → let stopped := ∀ D, D < 3 → s.get .EPOCH_CFG_EN 6 D = 0 ∧ s.get .EPOCH_STATUS_RUN 6 D = 0
    (¬ stopped → Replies (.graphLoadBegin p) s p 4 m.txid [] []) ∧ (stopped → 0x4000000 < m.u32 0 → Replies (.graphLoadBegin p) s p 7 m.txid [] []) ∧
    (stopped → m.u32 0 ≤ 0x4000000 → Completes (.graphLoadBegin p) s fun t => s.Answered t p 0 m.txid [] ∧ t.image = none ∧ t.get .IMG_STATE 6 0 = 1 ∧
      t.get .IMG_SIZE 6 0 = m.u32 0 ∧ t.get .IMG_CRC 6 0 = m.u32 4 ∧ ∀ a, a < 2 ^ 32 → t.byte 9 a = 0)) ∧
  (s.canServe p = true → m.opcode = 0x202 → m.badHeader = false →
    (m.len < 8 ∨ m.len % 4 ≠ 0 → Replies (.graphLoadData p) s p 3 m.txid [] []) ∧
    (8 ≤ m.len → m.len % 4 = 0 → s.get .IMG_STATE 6 0 ≠ 1 → Replies (.graphLoadData p) s p 4 m.txid [] []) ∧
    (8 ≤ m.len → m.len % 4 = 0 → s.get .IMG_STATE 6 0 = 1 → (m.u32 0 % 4 ≠ 0 ∨ s.get .IMG_SIZE 6 0 < m.u32 0 + (m.len - 4)) →
      Replies (.graphLoadData p) s p 7 m.txid [] []) ∧
    (8 ≤ m.len → m.len % 4 = 0 → s.get .IMG_STATE 6 0 = 1 → m.u32 0 % 4 = 0 → m.u32 0 + (m.len - 4) ≤ s.get .IMG_SIZE 6 0 →
      Completes (.graphLoadData p) s fun t => s.Answered t p 0 m.txid [] ∧
      t.loadBytes 9 (m.u32 0) (m.len - 4) = m.payload.drop 4 ∧ ∀ a, a < m.u32 0 ∨ m.u32 0 + (m.len - 4) ≤ a → a < 2 ^ 32 → t.byte 9 a = s.byte 9 a)) ∧
  (s.get .SNAP_BUSY 6 0 = 0 → s.Fronts p 0x203 0 → ∀ img fits ok, let i := Instr.graphLoadEnd p img fits ok
    let good := crc32 (s.loadBytes 9 0 (s.get .IMG_SIZE 6 0)) = s.get .IMG_CRC 6 0
    let partner := s.get .PAIR_CFG_PAIRID 6 0 = 0 ∨ ok = true
    (s.get .IMG_STATE 6 0 ≠ 1 → Replies i s p 4 m.txid [] []) ∧ (s.get .IMG_STATE 6 0 = 1 → ¬ good → Replies i s p 13 m.txid [] []) ∧
    (s.get .IMG_STATE 6 0 = 1 → good → fits = false → Replies i s p 14 m.txid [] []) ∧
    (s.get .IMG_STATE 6 0 = 1 → good → fits = true → ¬ partner → Replies i s p 15 m.txid [] []) ∧
    (s.get .IMG_STATE 6 0 = 1 → good → fits = true → partner → Completes i s fun t => t.image = some img ∧ t.get .IMG_STATE 6 0 = 2 ∧
      (img.places = [] → img.params = [] → img.routes = [] → (∀ g, g ∈ img.grants → g.cls < 3) → s.Answered t p 0 m.txid [] ∧
        s.SameBut t [.IMG_STATE, .FAB_PERM, .MBX_PI, .MBX_CI, .MBX_PIOLD, .MBX_CIOLD, .MBX_STAT_FILL, .CSF_TURN, .HOST_IPEND, .MSIX_PBA] ∧
        (∀ d i k, d < 8 → k < 36 → (bitAt (t.get .FAB_PERM d i) k = 1 ↔ bitAt (s.get .FAB_PERM d i) k = 1 ∨
          (i = 6 ∧ ∃ g, g ∈ img.grants ∧ g.die = d ∧ ((g.read = true ∧ k = 2 * g.cls) ∨ (g.write = true ∧ k = 2 * g.cls + 1)))))))) ∧
  (s.Fronts p 0x204 9 → let mask := m.u8 0
    let start := m.u64 1
    let B := fun D : Nat => 8 * 2 ^ s.get .EPOCH_CFG_BSIZE 6 D
    let named := fun D : Nat => D < 3 ∧ bitAt mask D = 1
    let reply := fun v : Nat → Nat => (((List.range 3).filter fun D => bitAt mask D == 1).map fun D => natBytes 8 (v D)).flatten
    let enabled := fun t : State => s.OnlyAnswered t p [.EPOCH_CFG_EN, .EP_OWED, .EP_CURV] ∧ (∀ D, named D → t.get .EPOCH_CFG_EN 6 D = 1) ∧
      ∀ D, D < 3 → bitAt mask D = 0 → t.get .EPOCH_CFG_EN 6 D = s.get .EPOCH_CFG_EN 6 D
    (8 ≤ mask → Replies (.graphStart p) s p 7 m.txid [] []) ∧
    (mask < 8 → start = 2 ^ 64 - 1 → Completes (.graphStart p) s fun t => enabled t ∧ s.Answered t p 0 m.txid (reply fun D => (s.get .TB_DOMCNT 6 D / B D + 1) * B D)) ∧
    (mask < 8 → start ≠ 2 ^ 64 - 1 → (∃ D, named D ∧ start % B D ≠ 0) → Replies (.graphStart p) s p 7 m.txid [] []) ∧
    (mask < 8 → start ≠ 2 ^ 64 - 1 → (∀ D, named D → start % B D = 0) →
      ((∃ D, named D ∧ start < s.get .TB_DOMCNT 6 D + B D / 2) → Replies (.graphStart p) s p 8 m.txid [] []) ∧
      ((∀ D, named D → start ≤ s.get .TB_DOMCNT 6 D + B D ∧ s.get .TB_DOMCNT 6 D + B D / 2 ≤ start) → Completes (.graphStart p) s fun t => enabled t ∧
        s.Answered t p 0 m.txid (reply fun _ => start)) ∧
      (mask ≠ 0 → (∀ D, named D → s.get .TB_DOMCNT 6 D + B D < start) → Completes (.graphStart p) s fun t => t.starts = s.starts ++ [⟨p, mask, mask, start⟩] ∧
        s.SameBut t [.CSF_TURN]) ∧
      ((∀ D, named D → s.get .TB_DOMCNT 6 D + B D / 2 ≤ start) → (∃ D, named D ∧ s.get .TB_DOMCNT 6 D + B D < start) → Completes (.graphStart p) s fun t =>
        (∀ D, named D → start ≤ s.get .TB_DOMCNT 6 D + B D → t.get .EPOCH_CFG_EN 6 D = 1) ∧ s.SameBut t [.CSF_TURN, .EPOCH_CFG_EN, .EP_OWED, .EP_CURV] ∧
        ∃ q, q ∈ t.starts ∧ q.pair = p ∧ q.mask = mask ∧ q.start = start ∧
          ∀ D, D < 3 → (bitAt q.left D = 1 ↔ named D ∧ s.get .TB_DOMCNT 6 D + B D < start)))) ∧
  (s.Fronts p 0x205 1 → (8 ≤ m.u8 0 → Replies (.graphStop p) s p 7 m.txid [] []) ∧
    (m.u8 0 < 8 → Completes (.graphStop p) s fun t => s.Answered t p 0 m.txid [] ∧ (∀ D, D < 3 → bitAt (m.u8 0) D = 1 → t.get .EPOCH_CFG_EN 6 D = 0) ∧
      s.OnlyAnswered t p [.EPOCH_CFG_EN, .EPOCH_STATUS_RUN, .TB_STATUS_RUN, .EP_ASGN, .EP_OWED])) ∧
  (s.Fronts p 0x206 4 → let q := s.ownHandle 4 (m.u32 0) (fun g => g.paths) (fun x => x.index)
    (q = none → Replies (.graphQueryLatency p) s p 6 m.txid [] []) ∧
    ∀ x, q = some x → x.dom < 256 → let f := s.domFs x.dom
      let conv := fun (r : Nat × Nat) (w : Nat) => w * f.1 * r.2 / (f.2 * r.1)
      let samples := fun (E n : Nat) => if E < 3 then conv (s.domFs E) (n * 65536) else n * 65536
      let base := x.own +
        (x.sections.map fun i => samples (s.get .SAP_CFG_DOMAIN (6 + i / 128) (i % 128)) (if s.get .SAP_CFG_MASTER (6 + i / 128) (i % 128) = 1 then 2 else 4)).sum +
        (x.streams.map fun i => samples (s.get .SRX_CFG_DOMAIN (6 + i / 128) (i % 128)) (s.get .SRX_OFS (6 + i / 128) (i % 128))).sum +
        (x.bridges.map fun b => conv (s.brDstFs (6 + b / 128) (b % 128)) (if s.get .BR_CFG_SRCDOM (6 + b / 128) (b % 128) = 3 then s.brNominal (6 + b / 128) (b % 128)
          else s.get .BR_DELAY (6 + b / 128) (b % 128))).sum
      ∃ v, base ≤ v ∧ v ≤ base + x.sections.length + x.streams.length + x.bridges.length ∧
        Replies (.graphQueryLatency p) s p 0 m.txid ([x.dom, 0, 0, 0, 0, 0, 0, 0] ++ natBytes 8 v) []) ∧
  (s.Fronts p 0x207 2 → let d := 6 + m.u16 0 / 128
    let b := m.u16 0 % 128
    (256 ≤ m.u16 0 → Replies (.graphQueryBridge p) s p 7 m.txid [] []) ∧ (m.u16 0 < 256 → s.csfReaches d = false → Replies (.graphQueryBridge p) s p 4 m.txid [] []) ∧
    (m.u16 0 < 256 → s.csfReaches d = true → Replies (.graphQueryBridge p) s p 0 m.txid
      ([s.get .BR_STATUS_STATE d b] ++ natBytes 4 (s.get .BR_DELAY d b) ++ natBytes 4 (s.get .BR_RATIO d b)) []))

/-- R417 to R424 and R427 to R431. What METER_READ gives before any snapshot is the model's choice (log entry 79). -/
def Obligations.CsfTransactionsScenesAndMeters : Prop := ∀ (s : State) (p : Nat), p < 16 → s.canonical = true →
  let m := s.cmdMsg p
  let v := s.marked p
  let B := fun D : Nat => 8 * 2 ^ s.get .EPOCH_CFG_BSIZE 6 D
  let first := fun D : Nat => (s.get .TB_DOMCNT 6 D / B D + 2) * B D
  let gen := fun D : Nat => s.get .TB_GEN 6 D
  let id := if s.get .CSF_TXID 6 0 = 2 ^ 32 - 1 then 1 else s.get .CSF_TXID 6 0 + 1
  let tx := s.txFind m.txid
  let away := fun e : TxElem => s.ownUnit e.unit = false ∧ e.unit < 16 ∧ e.die < 16
  let silent := fun far : List FarAnswer => far = [] ∨ far.head? = some .timeout ∨ far.head? = some .refused
  (s.Fronts p 0x301 1 → let D := m.u8 0
    (3 ≤ D → Replies (.txBegin p) s p 7 m.txid [] []) ∧ (D < 3 → s.notHead D = true → Replies (.txBegin p) s p 11 m.txid [] []) ∧
    (D < 3 → s.notHead D = false → 64 ≤ s.txHeld → Replies (.txBegin p) s p 12 m.txid [] []) ∧
    (D < 3 → s.notHead D = false → s.txHeld < 64 → Completes (.txBegin p) s fun t => s.Answered t p 0 id (natBytes 4 (gen D)) ∧
      t.txs = s.txs ++ [⟨id, D, 1, 0, 0, 0, [], [], false, 0⟩] ∧ t.get .CSF_TXID 6 0 = id)) ∧
  (∀ far : List FarAnswer, ∀ i : Instr, ∀ op len, (i, op, len) ∈ [(Instr.txAbort p far, 0x304, 0), (.txStatus p, 0x305, 0), (.txCommitAt p far, 0x303, 8)] → s.Fronts p op len →
    tx = none → Replies i s p 5 m.txid [] []) ∧
  (s.Fronts p 0x302 (8 + 4 * m.u16 6) → 8 ≤ m.len → (tx = none → Replies (.txSet p) s p 5 m.txid [] []) ∧
    ∀ x, tx = some x → (x.state ≠ 1 → Replies (.txSet p) s p 4 m.txid [] []) ∧
      (x.state = 1 → let h := s.txHandle x.dom 1 (m.u32 0) (fun g => g.params) (fun q => q.index)
        (h = none → Replies (.txSet p) s p 6 m.txid [] []) ∧
        ∀ q, h = some q →
          let ok := 1 ≤ m.u16 6 ∧ m.u16 6 ≤ 58 ∧ m.u16 4 + m.u16 6 ≤ q.init.length ∧ q.dom = x.dom
          let new := (List.range (m.u16 6)).map fun k => TxElem.mk (s.unitOf (m.u32 0)) q.die (q.a0 + 4 * (m.u16 4 + k)) (q.a1 + 4 * (m.u16 4 + k)) (m.u32 (8 + 4 * k))
          let all := bufferElems x.elems new
          (¬ ok → Replies (.txSet p) s p 7 m.txid [] []) ∧ (ok → 65536 < all.length → Replies (.txSet p) s p 12 m.txid [] []) ∧
          (ok → all.length ≤ 65536 → Completes (.txSet p) s fun t => s.Answered t p 0 m.txid [] ∧
            ∃ y, t.txFind m.txid = some y ∧ y.elems = all ∧ y.state = 1 ∧ y.dom = x.dom ∧
              t.txs.length = s.txs.length ∧ ∀ z, z ∈ s.txs → z.id ≠ x.id → z ∈ t.txs))) ∧
  (s.Fronts p 0x303 8 → ∀ x, tx = some x → x.dom < 3 → let T := m.u64 0
    let D := x.dom
    let next := T = 2 ^ 64 - 1
    let i := Instr.txCommitAt p []
    let home := (∀ e, e ∈ x.elems → e.unit = 15) ∧ (s.ringWide D = true → s.partnerOf 15 = [])
    let clash := ∃ y, y ∈ s.txWaiting D ∧ T ≤ y.target
    let evtOk := fun A : Nat => ∀ e, e ∈ x.evts → A ≤ e.val ∧ e.val < A + 2 ^ 31
    let judged := (next ∧ (s.mayArm D = true → evtOk (first D))) ∨ (¬ next ∧ T % B D = 0 ∧ ¬ clash ∧ evtOk T)
    (x.state ≠ 1 → Replies i s p 4 m.txid [] []) ∧
    (x.state = 1 → ¬ next → T % B D ≠ 0 → Replies i s p 9 m.txid [] []) ∧
    (x.state = 1 → ¬ next → T % B D = 0 → clash → Replies i s p 10 m.txid [] []) ∧
    (x.state = 1 → ¬ next → T % B D = 0 → ¬ clash → ¬ evtOk T → Replies i s p 7 m.txid [] []) ∧
    (x.state = 1 → judged →
      (4 ≤ (s.txWaiting D).length → Replies i s p 12 m.txid [] []) ∧
      ((s.txWaiting D).length < 4 → s.mayArm D = false → Completes i s fun t =>
        s.Answered t p 0 m.txid ([2] ++ natBytes 8 0 ++ natBytes 4 ((gen D + (s.txWaiting D).length + 1) % 2 ^ 32)) ∧
        ∃ y, y ∈ t.txs ∧ y.id = x.id ∧ y.state = 2 ∧ y.want = T ∧ y.elems = x.elems) ∧
      ((s.txWaiting D).length < 4 → s.mayArm D = true → home → (next ∨ first D ≤ T) → first D < 2 ^ 64 →
        let A := if next then first D else T
        Completes i s fun t => (∃ y, y ∈ t.txs ∧ y.id = x.id ∧ y.state = 3 ∧ y.armed = A ∧ y.gen = (gen D + 1) % 2 ^ 32) ∧
          t.get .EPOCH_CSTAT_COMMIT_PEND 6 D = 1 ∧ t.get .COMMIT_T 6 D = A ∧ t.get .EPOCH_COMMIT_AT 6 D = A ∧
          (x.elems = [] → (∀ z, z ∈ s.txs → z.id = x.id → z = x) → s.Answered t p 0 m.txid ([3] ++ natBytes 8 A ++ natBytes 4 ((gen D + 1) % 2 ^ 32))) ∧
          ∀ e, x.elems = [e] → s.get .DOM_CFG_RING 6 D = 0 → e.unit = 15 → e.die < 6 →
            let a := if s.get .TB_GEN e.die D % 2 = 0 then e.a1 else e.a0
            v.Passes (v.csfReq e.die a true 4 e.val) → a % 4 = 0 → a + 4 ≤ 2 ^ 24 → v.Sound e.die (a / 16 * 16) → v.wordLocked e.die (a / 16 * 16) = false →
            e.val < 2 ^ 32 → t.load e.die a 4 = e.val) ∧
      (∀ e l far, (s.txWaiting D).length < 4 → s.mayArm D = true → x.elems = e :: l → away e → silent far →
        Completes (.txCommitAt p far) s fun t => ∃ y, y ∈ t.txs ∧ y.id = x.id ∧ y.state = 6) ∧
      (∀ e g w, (s.txWaiting D).length < 4 → s.mayArm D = true → next → first D < 2 ^ 64 → x.elems = [e] → away e → e.die < 8 → e.a0 < 2 ^ 32 → e.a1 < 2 ^ 32 →
        s.unitPresent e.unit = true → (s.ringWide D = true → s.partnerOf e.unit = []) →
        Completes (.txCommitAt p [.data g, .data w]) s fun t => t.remote = s.remote ∧ ∃ y, y ∈ t.txs ∧ y.id = x.id ∧ y.state = 3 ∧ y.armed = first D) ∧
      ((s.txWaiting D).length < 4 → s.mayArm D = true → ¬ next → T < first D → Completes i s fun t => ∃ y, y ∈ t.txs ∧ y.id = x.id ∧ y.state = 6))) ∧
  (∀ D, D < 3 → let ready := s.tailRuns = true ∧ s.get .CSF_READY 6 0 = 1
    let q := s.txs.find? fun y => y.dom == D && y.state == 2
    let busy := ∃ y, y ∈ s.txs ∧ y.dom = D ∧ (y.state = 3 ∨ (y.state = 4 ∧ y.caught = false))
    (∀ far, (¬ ready ∨ busy ∨ s.get .EPOCH_CSTAT_COMMIT_PEND 6 D ≠ 0 ∨ q = none → exec (.txArm D far) s = .next s) ∧
      ∀ x e l, ready → ¬ busy → s.get .EPOCH_CSTAT_COMMIT_PEND 6 D = 0 → q = some x → x.elems = e :: l → away e → silent far →
        Completes (.txArm D far) s fun t => ∃ y, y ∈ t.txs ∧ y.id = x.id ∧ y.state = 6) ∧
    (∀ x, ready → ¬ busy → q = some x → s.get .EPOCH_CSTAT_COMMIT_PEND 6 D = 0 → first D < 2 ^ 64 →
      (∀ e, e ∈ x.elems → e.unit = 15) → (s.ringWide D = true → s.partnerOf 15 = []) →
      (x.want = 2 ^ 64 - 1 ∨ (first D ≤ x.want ∧ x.want % B D = 0)) → let A := if x.want = 2 ^ 64 - 1 then first D else x.want
      x.dom < 3 → x.want < 2 ^ 64 → (∀ e, e ∈ x.evts → A ≤ e.val ∧ e.val < A + 2 ^ 31) →
      Completes (.txArm D []) s fun t => (∃ y, y ∈ t.txs ∧ y.id = x.id ∧ y.state = 3 ∧ y.armed = A) ∧ t.get .EPOCH_CSTAT_COMMIT_PEND 6 D = 1 ∧
        t.get .COMMIT_T 6 D = A) ∧
    let c := s.txs.find? fun y => y.dom == D && y.state == 4 && !y.caught
    ∀ far, (¬ ready ∨ c = none → exec (.catchUp D far) s = .next s) ∧
    ∀ x, ready → c = some x → Completes (.catchUp D far) s fun t => t.get .EPOCH_CSTAT_COMMIT_DONE 6 D = 0 ∧ t.get .EPOCH_CSTAT_SPLIT 6 D = 0 ∧
      ((s.txs.filter CsfTx.ended).length < 1024 → ∃ y, y ∈ t.txs ∧ y.id = x.id ∧ y.state = 4 ∧ y.caught = true) ∧
      ∀ r, x.elems = [] → r < 16 → bitAt (s.get .CSF_EVMASK 6 r) 3 = 1 → s.eventsOf r = [] → s.get .CSF_EVLOST 6 r = 0 → s.mbxFill (2 * r + 1) < 64 →
        s.atWork r = false → s.Told t r 0x4301 (x.id % 2 ^ 32) ([D, s.get .EPOCH_CSTAT_SPLIT 6 D + 2 * (if x.armed < x.bnd - 1 then 1 else 0)] ++ [0, 0, 0, 0, 0, 0] ++
          natBytes 8 (x.bnd - 1) ++ natBytes 4 x.gen)) ∧
  (s.Fronts p 0x304 0 → ∀ x, tx = some x → x.dom < 3 → ∀ far, let i := Instr.txAbort p far
    (x.state = 1 ∨ x.state = 2 → Completes i s fun t => s.Answered t p 0 m.txid [5] ∧ ((s.txs.filter CsfTx.ended).length < 1024 →
      ∃ y, y ∈ t.txs ∧ y.id = x.id ∧ y.state = 5)) ∧
    (x.state = 3 → x.elems = [] → s.get .EPOCH_CSTAT_COMMIT_PEND 6 x.dom = 1 → s.get .TB_DOMCNT 6 x.dom + B x.dom < s.get .COMMIT_T 6 x.dom →
      Completes i s fun t => s.Answered t p 0 m.txid [5] ∧ t.get .EPOCH_CSTAT_COMMIT_PEND 6 x.dom = 0) ∧
    (x.state = 3 → ¬ s.get .TB_DOMCNT 6 x.dom + B x.dom < s.get .COMMIT_T 6 x.dom → Completes i s fun t => s.Answered t p 8 m.txid [] ∧ t.txs = s.txs) ∧
    (4 ≤ x.state → Replies i s p 4 m.txid [] [])) ∧
  (s.Fronts p 0x305 0 → ∀ x, tx = some x → x.state < 256 → Replies (.txStatus p) s p 0 m.txid ([x.state] ++ natBytes 8 x.armed ++ natBytes 4 x.gen ++ natBytes 4 x.elems.length) []) ∧
  (s.Fronts p 0x306 8 → let h := s.ownHandle 1 (m.u32 0) (fun g => g.params) (fun q => q.index)
    (h = none → Replies (.paramGet p) s p 6 m.txid [] []) ∧
    ∀ q, h = some q → let ok := 1 ≤ m.u16 6 ∧ m.u16 6 ≤ 58 ∧ m.u16 4 + m.u16 6 ≤ q.init.length
      (¬ ok → Replies (.paramGet p) s p 7 m.txid [] []) ∧
      (ok → let g := s.get .TB_GEN q.die q.dom
        let r := v.csfWords q.die ((List.range (m.u16 6)).map fun k => (if g % 2 = 0 then q.a0 else q.a1) + 4 * (m.u16 4 + k))
        r.2.2 = true → (∀ w, w ∈ r.2.1 → w < 2 ^ 32) → Completes (.paramGet p) s fun t => s.Answered t p 0 m.txid (natBytes 4 g ++ [0, 0, 0, 0] ++ (r.2.1.map (natBytes 4)).flatten))) ∧
  (s.Fronts p 0x501 28 → bitsAt (m.u8 10) 5 3 = 0 → m.u16 14 = 0 → (∀ far, tx = none → Replies (.routeSet p far) s p 5 m.txid [] []) ∧
    ∀ x far, tx = some x → (x.state ≠ 1 → Replies (.routeSet p far) s p 4 m.txid [] []) ∧
      (x.state = 1 → (s.txHandle x.dom 2 (m.u32 0) (fun g => g.routes) (fun q => q.index) = none ∨
        s.txHandle x.dom 5 (m.u32 4) (fun g => g.sources) (fun q => q.index) = none) → Replies (.routeSet p far) s p 6 m.txid [] []) ∧
      (x.state = 1 → ∀ r c, s.txHandle x.dom 2 (m.u32 0) (fun g => g.routes) (fun q => q.index) = some r →
        s.txHandle x.dom 5 (m.u32 4) (fun g => g.sources) (fun q => q.index) = some c →
        let mode := bitsAt (m.u8 10) 1 2
        let u := s.unitOf (m.u32 0)
        let bad := s.unitOf (m.u32 4) ≠ u ∨ c.die ≠ r.die ∨ r.dom ≠ x.dom ∨ 512 ≤ m.u16 8 ∨ mode = 3 ∨ 20 < m.u8 11
        let here := s.get .BUS_CFG_EN r.die (m.u16 8) = 1 ∧ s.get .BUS_CFG_DOMAIN r.die (m.u16 8) = x.dom
        let tpar := if mode = 1 then (if bitAt (m.u8 10) 4 = 1 then s.tenMs x.dom else m.u16 12) else if mode = 2 then m.u8 11 else 0
        let new := s.routeWords u r [bitsAt c.addr 5 20 * 32, m.u16 8 + bitAt (m.u8 10) 0 * 2 ^ 9 + mode * 2 ^ 10 + bitAt (m.u8 10) 3 * 2 ^ 12 + tpar * 2 ^ 16,
          m.u32 16, m.u64 20 % 2 ^ 32]
        let joins := fun t : State => s.Answered t p 0 m.txid [] ∧ ∃ y, t.txFind m.txid = some y ∧ y.elems = bufferElems x.elems new ∧ y.state = 1 ∧
          (bitAt (m.u8 10) 3 = 1 → ∃ e, e ∈ y.evts ∧ e.val = m.u64 20)
        (bad → Replies (.routeSet p far) s p 7 m.txid [] []) ∧
        (¬ bad → s.ownUnit u = true → (¬ here → Replies (.routeSet p far) s p 7 m.txid [] []) ∧
          (here → (bufferElems x.elems new).length ≤ 65536 → Completes (.routeSet p far) s joins)) ∧
        (¬ bad → s.ownUnit u = false → r.die < 8 → (silent far → Completes (.routeSet p far) s fun t => s.Answered t p 15 m.txid [] ∧ t.txs = s.txs) ∧
          ∀ w l, s.unitPresent u = true → far = .data w :: l → let there := bitAt w 0 = 1 ∧ bitsAt w 1 2 = x.dom
            (¬ there → Completes (.routeSet p far) s fun t => s.Answered t p 7 m.txid [] ∧ t.txs = s.txs) ∧
            (there → (bufferElems x.elems new).length ≤ 65536 → Completes (.routeSet p far) s joins)))) ∧
  (s.Fronts p 0x502 4 → let h := s.ownHandle 2 (m.u32 0) (fun g => g.routes) (fun q => q.index)
    (h = none → Replies (.routeGet p) s p 6 m.txid [] []) ∧
    ∀ r, h = some r → let g := s.get .TB_GEN r.die r.dom
      let a := s.xpAddr r.die r.xp + (if g % 2 = 0 then 0 else 16)
      let q := v.csfWords r.die [a, a + 4, a + 8, a + 12]
      q.2.2 = true → ∃ l, Completes (.routeGet p) s (fun t => s.Answered t p 0 m.txid l) ∧ l.length = 32 ∧ l.take 4 = natBytes 4 (m.u32 0) ∧
        bytesNat (slice l 8 2) = q.2.1.getD 1 0 % 512 ∧ slice l 16 4 = natBytes 4 (q.2.1.getD 2 0) ∧ slice l 20 4 = natBytes 4 (q.2.1.getD 3 0) ∧
        l.drop 28 = natBytes 4 g) ∧
  (∀ far, s.Fronts p 0x503 1 → let i := Instr.routeXflen p far
    let n := m.u8 0
    let reach := ∀ d, d < 6 → s.csfReaches d = true
    (20 < n → Replies i s p 7 m.txid [] []) ∧ (n ≤ 20 → ¬ reach → Replies i s p 4 m.txid [] []) ∧
    (n ≤ 20 → reach → s.partnerOf 15 ≠ [] → silent far → Completes i s fun t => s.Answered t p 15 m.txid [] ∧
      ∀ d, d < 6 → t.get .CHORUS_CFG_XFLEN d 0 = s.get .CHORUS_CFG_XFLEN d 0) ∧
    (n ≤ 20 → reach → (s.partnerOf 15 = [] ∨ ((∀ q, q ∈ s.partnerOf 15 → s.unitPresent q = true) ∧ far = List.replicate 6 (.data 0))) →
      Completes i s fun t => s.Answered t p 0 m.txid [] ∧ (∀ d, d < 6 → t.get .CHORUS_CFG_XFLEN d 0 = n) ∧
      (s.partnerOf 15 = [] → s.OnlyAnswered t p [.CHORUS_CFG_XFLEN]))) ∧
  (∀ far, s.Fronts p 0x401 2 → let n := m.u8 0
    let D := m.u8 1
    (64 ≤ n ∨ 3 ≤ D → Replies (.sceneStore p far) s p 7 m.txid [] []) ∧ (n < 64 → D < 3 → s.image = none → Replies (.sceneStore p far) s p 4 m.txid [] []) ∧
    ∀ g, n < 64 → D < 3 → s.image = some g →
      let q := v.liveElems D far (v.sceneElems D g)
      let r := q.st.liveRoutes D q.far (v.sceneRoutes D g)
      let c : CsfScene := ⟨n, D, gen D, q.elems, r.2.1⟩
      let rest := s.scenes.filter fun y => y.num != n
      (q.ok = false ∨ r.2.2.1 = false → Completes (.sceneStore p far) s fun t => s.Answered t p 15 m.txid [] ∧ t.scenes = s.scenes) ∧
      (q.ok = true → r.2.2.1 = true →
        (sceneFree rest < c.size → Completes (.sceneStore p far) s fun t => s.Answered t p 12 m.txid [] ∧ t.scenes = s.scenes) ∧
        (c.size ≤ sceneFree rest → Completes (.sceneStore p far) s fun t => s.Answered t p 0 m.txid (natBytes 4 (gen D) ++ natBytes 4 (q.elems.length + 4 * r.2.1.length)) ∧
          t.scenes = rest ++ [c]))) ∧
  (s.Fronts p 0x402 16 → bitsAt (m.u8 3) 1 7 = 0 → m.u16 6 = 0 → let i := Instr.sceneRecall p []
    (64 ≤ m.u8 0 ∨ 3 ≤ m.u8 1 ∨ 20 < m.u8 2 → Replies i s p 7 m.txid [] []) ∧
    (m.u8 0 < 64 → m.u8 1 < 3 → m.u8 2 ≤ 20 → (s.scenes.find? fun c => c.num == m.u8 0) = none → Replies i s p 4 m.txid [] []) ∧
    (∀ far, Completes (.sceneRecall p far) s fun t => t.get .MBX_CI 6 (2 * p) = (s.get .MBX_CI 6 (2 * p) + 1) % 128 ∧
      t.get .CSF_TURN 6 0 = (p + 1) % 16) ∧
    ∀ c, m.u8 0 < 64 → m.u8 1 < 3 → m.u8 2 ≤ 20 → (s.scenes.find? fun c => c.num == m.u8 0) = some c → c.dom < 3 → c.elems = [] → c.routes = [] →
      (s.notHead c.dom = true → Replies i s p 11 m.txid [] []) ∧ (s.notHead c.dom = false → 64 ≤ s.txHeld → Replies i s p 12 m.txid [] []) ∧
      (s.notHead c.dom = false → s.txHeld < 64 → s.mayArm c.dom = true → m.u64 8 = 2 ^ 64 - 1 →
        first c.dom < 2 ^ 64 → (∀ y, y ∈ s.txs → y.id ≠ id) → Completes i s fun t => t.get .EPOCH_CSTAT_COMMIT_PEND 6 c.dom = 1 ∧ t.get .COMMIT_T 6 c.dom = first c.dom ∧
          s.Answered t p 0 id ([3] ++ natBytes 8 (first c.dom) ++ natBytes 4 ((gen c.dom + 1) % 2 ^ 32)))) ∧
  (s.Fronts p 0x403 1 → let held := ∃ c, c ∈ s.scenes ∧ c.num = m.u8 0
    (64 ≤ m.u8 0 → Replies (.sceneDelete p) s p 7 m.txid [] []) ∧ (m.u8 0 < 64 → ¬ held → Replies (.sceneDelete p) s p 4 m.txid [] []) ∧
    (m.u8 0 < 64 → held → Completes (.sceneDelete p) s fun t => s.Answered t p 0 m.txid [] ∧ t.scenes = s.scenes.filter fun c => c.num != m.u8 0)) ∧
  (s.Fronts p 0x404 0 → (∀ c, c ∈ s.scenes → c.num < 64) → ∃ map, (∀ k, k < 64 → (bitAt map k = 1 ↔ ∃ c, c ∈ s.scenes ∧ c.num = k)) ∧ map < 2 ^ 64 ∧
    Replies (.sceneList p) s p 0 m.txid (natBytes 8 map ++ natBytes 4 (0x300000 - (s.scenes.map CsfScene.size).sum)) []) ∧
  (s.Fronts p 0x601 9 → let D := m.u8 0
    let i := Instr.meterSnapshot p
    let T := if m.u64 1 = 2 ^ 64 - 1 then first D else m.u64 1
    (3 ≤ D → Replies i s p 7 m.txid [] []) ∧ (D < 3 → s.notHead D = true → Replies i s p 11 m.txid [] []) ∧
    (D < 3 → s.notHead D = false → (s.get .EPOCH_CSTAT_SNAP_PEND 6 D = 1 → Replies i s p 12 m.txid [] []) ∧
      (s.get .EPOCH_CSTAT_SNAP_PEND 6 D = 0 → (T % B D ≠ 0 → Replies i s p 9 m.txid [] []) ∧
        (T % B D = 0 → T < first D → Replies i s p 8 m.txid [] []) ∧
        (T % B D = 0 → first D ≤ T → T < 2 ^ 64 → Completes i s fun t => s.Answered t p 0 m.txid (natBytes 8 T) ∧ t.get .EPOCH_CSTAT_SNAP_PEND 6 D = 1 ∧
          t.get .SNAP_T 6 D = T ∧ s.OnlyAnswered t p [.EPOCH_SNAP_AT, .EPOCH_CSTAT_SNAP_PEND, .SNAP_T])))) ∧
  (s.Fronts p 0x602 8 → let h := s.ownHandle 3 (m.u32 0) (fun g => g.meters) (fun x => x.index)
    (h = none → Replies (.meterRead p) s p 6 m.txid [] []) ∧
    ∀ x, h = some x → let ok := 1 ≤ m.u16 6 ∧ m.u16 6 ≤ 58 ∧ m.u16 4 + m.u16 6 ≤ x.count
      let src := natBytes 8 (s.get .EPOCH_SNAP_SRC 6 x.dom)
      (¬ ok → Replies (.meterRead p) s p 7 m.txid [] []) ∧
      (ok → (s.snaps.find? fun (q : Nat × List Nat) => q.1 == x.index) = none → ∃ l, l.length = 4 * m.u16 6 ∧ Replies (.meterRead p) s p 0 m.txid (src ++ l) []) ∧
      ∀ q, ok → (s.snaps.find? fun (q : Nat × List Nat) => q.1 == x.index) = some q →
        Replies (.meterRead p) s p 0 m.txid (src ++ ((slice q.2 (m.u16 4) (m.u16 6)).map (natBytes 4)).flatten) [])

/-- That a locked field which already holds the value is no obstacle is the model's choice (log entry 84). R418, with R262, R298, R312, R328, R349, R370, R374, R380 and R382. -/
def Obligations.CsfClockNetworkAndPairCommands : Prop := ∀ (s : State) (p : Nat), p < 16 → s.canonical = true →
  let m := s.cmdMsg p
  let B := fun D : Nat => 8 * 2 ^ s.get .EPOCH_CFG_BSIZE 6 D
  (s.Fronts p 0x701 4 → let D := m.u8 0
    let i := Instr.clkDomainSet p
    let bad := 3 ≤ D ∨ 8 ≤ m.u8 1 ∨ 4 ≤ m.u8 2 ∨ 2 ≤ m.u8 3 ∨ (D = 0 ∧ m.u8 3 = 0)
    (bad → Replies i s p 7 m.txid [] []) ∧ (¬ bad → s.get .EPOCH_STATUS_RUN 6 D = 1 → Replies i s p 4 m.txid [] []) ∧
    (¬ bad → s.get .EPOCH_STATUS_RUN 6 D = 0 → Completes i s fun t => s.Answered t p 0 m.txid [] ∧ t.get .EPOCH_CFG_BSIZE 6 D = m.u8 2 ∧
      t.get .DOM_CFG_RATE 6 D = m.u8 1 ∧ t.get .DOM_CFG_RING 6 D = m.u8 3 ∧ t.get .DOM_CFG_MCEN 6 D = 1 ∧
      (s.get .DOM_CFG_RATE 6 D ≠ m.u8 1 ∨ s.get .DOM_CFG_MCEN 6 D = 0 → t.get .DOM_STATUS_MLOCK 6 D = 0))) ∧
  (s.Fronts p 0x702 13 → let r := m.u8 0
    let i := Instr.clkRefSet p
    let bad := 10 ≤ r ∨ 2 ≤ m.u8 1 ∨ 16 ≤ m.u8 2 ∨ 2 ≤ m.u8 3
    let same := s.get .REF_NOM_NUM 6 r = m.u32 4 ∧ s.get .REF_NOM_DEN 6 r = m.u16 8 ∧ (8 ≤ r ∨ s.get .REF_CFG_POL 6 r = m.u8 3)
    let locked := ¬ same ∧ (8 ≤ r ∨ (s.get .REF_CFG_EN 6 r = 1 ∧ m.u8 1 = 1))
    let rate := m.u32 4 ≠ 0 ∧ m.u16 8 ≠ 0 ∧ m.u16 8 ≤ m.u32 4 ∧ m.u32 4 ≤ 25000000 * m.u16 8
    (bad → Replies i s p 7 m.txid [] []) ∧ (¬ bad → locked → Replies i s p 4 m.txid [] []) ∧
    (¬ bad → ¬ locked → m.u8 1 = 1 → ¬ rate → Replies i s p 7 m.txid [] []) ∧
    (¬ bad → ¬ locked → m.u8 1 = 0 ∨ rate → Completes i s fun t => s.Answered t p 0 m.txid [] ∧ t.get .REF_CFG_EN 6 r = m.u8 1 ∧
      t.get .REF_CFG_RANK 6 r = m.u8 2 ∧ t.get .REF_QUAL_WINDOW 6 r = m.u16 10 ∧ t.get .REF_QUAL_HOLDOFF 6 r = m.u8 12 ∧
      (r < 8 → t.get .REF_NOM_NUM 6 r = m.u32 4 ∧ t.get .REF_NOM_DEN 6 r = m.u16 8 ∧ t.get .REF_CFG_POL 6 r = m.u8 3))) ∧
  (s.Fronts p 0x703 7 → let i := Instr.clkSelSet p
    let bad := 4 ≤ m.u8 0 ∨ 2 ≤ m.u8 1 ∨ 16 ≤ m.u8 2 ∨ 16 ≤ m.u8 3 ∨ 2 ≤ m.u8 4 ∨ 1024 ≤ m.u16 5
    (bad → Replies i s p 7 m.txid [] []) ∧
    (¬ bad → Completes i s fun t => s.Answered t p 0 m.txid [] ∧ t.get .REFSEL_CFG_MODE 6 0 = m.u8 0 ∧ t.get .REFSEL_CFG_REVERT 6 0 = m.u8 1 ∧
      t.get .REFSEL_CFG_FORCEIDX 6 0 = m.u8 2 ∧ t.get .DPLL_CFG_BW 6 0 = m.u8 3 ∧ t.get .DPLL_CFG_REALIGN 6 0 = m.u8 4 ∧ t.get .DPLL_CFG_SLEW 6 0 = m.u16 5)) ∧
  (s.Fronts p 0x704 0 → Replies (.clkStatus p) s p 0 m.txid ((([s.regAt 6 .refsel 0 4, s.regAt 6 .refsel 0 0xC] ++
    ((List.range 10).map fun r => s.regAt 6 .refsel 0 (0x1014 + 64 * r)) ++ ((List.range 3).map fun D => s.regAt 6 .rate 0 (4 + 32 * D)) ++
    [s.regAt 6 .ptp 0 0x48]).map (natBytes 4)).flatten) []) ∧
  (s.Fronts p 0x801 11 → let d := 6 + m.u8 0 / 4
    let k := m.u8 0 % 4
    let i := Instr.netMacSet p
    let old := s.get .MAC_CFG_MODE d k
    let mode := m.u8 1
    let fec := m.u8 2
    let bad := 8 ≤ m.u8 0 ∨ 4 ≤ fec ∨ ¬ (mode = 0 ∨ (mode ≤ 2 ∧ fec = 0) ∨ (mode = 3 ∧ fec ≤ 1) ∨ (mode = 4 ∧ fec ≤ 2)) ∨ 2 ^ 14 ≤ m.u16 3
    let state := s.csfReaches d = false ∨ (old ≠ 0 ∧ mode ≠ 0 ∧ (mode ≠ old ∨ fec ≠ s.get .MAC_CFG_FEC d k))
    (bad → Replies i s p 7 m.txid [] []) ∧ (¬ bad → state → Replies i s p 4 m.txid [] []) ∧
    (¬ bad → ¬ state → Completes i s fun t => s.Answered t p 0 m.txid [] ∧ t.get .MAC_CFG_MODE d k = mode ∧ t.get .MAC_CFG_FEC d k = fec ∧
      t.get .MAC_CFG_MAXLEN d k = m.u16 3 ∧ t.get .MAC_ADDR d k = bytesNat (slice m.payload 5 6) ∧ t.get .MAC_CFG_RXPAUSE d k = s.get .MAC_CFG_RXPAUSE d k ∧
      t.get .MAC_CFG_GUARD d k = s.get .MAC_CFG_GUARD d k ∧ t.get .MAC_CFG_PROMISC d k = s.get .MAC_CFG_PROMISC d k)) ∧
  (s.Fronts p 0x802 6 → Completes (.netPtpSet p) s fun t => s.Answered t p 0 m.txid [] ∧ t.get .STEP_THRESH 6 0 = m.u32 2 ∧ t.get .CSF_PTPDOM 6 0 = m.u8 0 ∧
    t.get .CSF_PTPSYNC 6 0 = m.u8 1 ∧ s.OnlyAnswered t p [.STEP_THRESH, .CSF_PTPDOM, .CSF_PTPSYNC]) ∧
  (s.Fronts p 0x805 1 → let d := 6 + m.u8 0 / 4
    (8 ≤ m.u8 0 → Replies (.netStatus p) s p 7 m.txid [] []) ∧ (m.u8 0 < 8 → s.csfReaches d = false → Replies (.netStatus p) s p 4 m.txid [] []) ∧
    (m.u8 0 < 8 → s.csfReaches d = true → ∃ l, Completes (.netStatus p) s (fun t => s.Answered t p 0 m.txid l) ∧ l.length = 52 ∧
      l.take 4 = natBytes 4 (s.regAt d .mac (m.u8 0 % 4) 8) ∧ ∀ c, c < 12 → slice l (4 + 4 * c) 4 = natBytes 4 (s.regAt d .mac (m.u8 0 % 4) (0x200 + 4 * c)))) ∧
  (∀ far : List FarAnswer, s.Fronts p 0x803 67 → let d := 6 + m.u16 0 / 128
    let k := m.u16 0 % 128
    let i := Instr.netStreamTx p far
    let silent := far = [] ∨ far.head? = some .timeout ∨ far.head? = some .refused
    let bad := 256 ≤ m.u16 0 ∨ 2 ≤ m.u8 2 ∨ 3 ≤ m.u8 3 ∨ 4 ≤ m.u8 4 ∨ 8 ≤ m.u8 5 ∨ 3 ≤ m.u8 6 ∨ 64 ≤ m.u8 7
    let en := s.get .STX_CFG_EN d k = 1
    let fmtOk := m.u8 8 ≠ 0 ∧ (m.u8 7 + 1) * m.u8 8 * encBytes (m.u8 6) ≤ 1440 ∧ s.get .MAC_CFG_MODE d (m.u8 4) ≠ 0 ∧
      s.stxLoad d + s.streamLoad (m.u8 7 + 1) (m.u8 3) ≤ 983040
    (bad → Replies i s p 7 m.txid [] []) ∧ (¬ bad → s.csfReaches d = false ∨ (en ∧ m.u8 2 = 1) → Replies i s p 4 m.txid [] []) ∧
    (¬ bad → s.csfReaches d = true → en → m.u8 2 = 0 → Completes i s fun t => t.get .STX_CFG_EN d k = 0 ∧ t.get .STX_STOPPING d k = 1 ∧
      s.Answered t p 0 m.txid (natBytes 2 (s.get .STX_SEQOFS d k) ++ natBytes 4 (s.get .STX_TSOFS d k))) ∧
    (¬ bad → s.csfReaches d = true → ¬ en → m.u8 2 = 1 → ¬ fmtOk → Replies i s p 7 m.txid [] []) ∧
    (¬ bad → s.csfReaches d = true → ¬ en → (m.u8 2 = 0 ∨ fmtOk) → s.partnerOf 15 ≠ [] → silent → Completes i s fun t => s.Answered t p 15 m.txid [] ∧
      ∀ f, f ∈ [Fld.STX_CFG_EN, .STX_SEQOFS, .STX_TSOFS, .STX_FMT_ENC] → t.get f d k = s.get f d k) ∧
    (¬ bad → s.csfReaches d = true → ¬ en → (m.u8 2 = 0 ∨ fmtOk) → s.partnerOf 15 = [] ∨ ((∀ q, q ∈ s.partnerOf 15 → s.unitPresent q = true) ∧ far = [.data 0, .data 0]) →
      Completes i s fun t => t.get .STX_CFG_EN d k = m.u8 2 ∧
      t.get .STX_CFG_DOMAIN d k = m.u8 3 ∧ t.get .STX_CFG_MAC d k = m.u8 4 ∧ t.get .STX_CFG_QUEUE d k = m.u8 5 ∧ t.get .STX_FMT_ENC d k = m.u8 6 ∧
      t.get .STX_FMT_CHANS d k = m.u8 7 ∧ t.get .STX_FMT_PTIME d k = m.u8 8 ∧ t.get .STX_TSOFS d k = s.tsOffset (m.u8 3) ∧
      (m.u8 2 = 1 → t.get .STX_STAT_RUN d k = 1))) ∧
  (s.Fronts p 0x804 24 → let d := 6 + m.u16 0 / 128
    let k := m.u16 0 % 128
    let i := Instr.netStreamRx p
    let bad := 256 ≤ m.u16 0 ∨ 2 ≤ m.u8 2 ∨ 3 ≤ m.u8 3 ∨ 16 ≤ m.u8 4 ∨ 3 ≤ m.u8 5 ∨ 64 ≤ m.u8 6 ∨ 128 ≤ m.u8 8 ∨ 16 ≤ m.u8 9
    let en := s.get .SRX_CFG_EN d k = 1
    let fmtOk := m.u8 7 ≠ 0 ∧ (m.u8 6 + 1) * m.u8 7 * encBytes (m.u8 5) ≤ 1440 ∧ 6 ≤ m.u8 9 ∧ m.u8 9 ≤ 13 ∧
      (∀ x, x < 4 → bitAt (m.u8 4) x = 1 → s.get .MAC_CFG_MODE d x ≠ 0) ∧ s.srxLoad d + s.streamLoad (m.u8 6 + 1) (m.u8 3) ≤ 983040
    (bad → Replies i s p 7 m.txid [] []) ∧ (¬ bad → s.csfReaches d = false ∨ (en ∧ m.u8 2 = 1) → Replies i s p 4 m.txid [] []) ∧
    (¬ bad → s.csfReaches d = true → en → m.u8 2 = 0 → Completes i s fun t => t.get .SRX_CFG_EN d k = 0 ∧ s.Answered t p 0 m.txid (natBytes 4 (s.get .SRX_OFS d k))) ∧
    (¬ bad → s.csfReaches d = true → ¬ en → m.u8 2 = 1 → ¬ fmtOk → Replies i s p 7 m.txid [] []) ∧
    (¬ bad → s.csfReaches d = true → ¬ en → (m.u8 2 = 0 ∨ fmtOk) → Completes i s fun t => t.get .SRX_CFG_EN d k = m.u8 2 ∧
      t.get .SRX_CFG_DOMAIN d k = m.u8 3 ∧ t.get .SRX_CFG_MACMASK d k = m.u8 4 ∧ t.get .SRX_FMT_ENC d k = m.u8 5 ∧ t.get .SRX_FMT_CHANS d k = m.u8 6 ∧
      t.get .SRX_FMT_PTIME d k = m.u8 7 ∧ t.get .SRX_FMT_PT d k = m.u8 8 ∧ t.get .SRX_JBUF_JLOG d k = m.u8 9 ∧ t.get .SRX_MATCH_IP d k = m.u32 10 ∧
      t.get .SRX_MATCH_PORT d k = m.u16 14 ∧ s.Answered t p 0 m.txid (natBytes 4 (t.get .SRX_OFS d k)) ∧
      t.get .SRX_OFS d k = (m.u32 20 + 2 ^ 32 - s.tsOffset (m.u8 3)) % 2 ^ 32)) ∧
  (let role := s.get .PAIR_STATUS_ROLE 6 0
   (s.Fronts p 0x901 3 → let i := Instr.pairSet p
    let bad := 2 ≤ m.u8 1 ∨ 2 ≤ m.u8 2
    let lock := role = 1 ∧ m.u8 0 ≠ s.get .PAIR_CFG_PAIRID 6 0
    (bad → Replies i s p 7 m.txid [] []) ∧ (¬ bad → lock → Replies i s p 4 m.txid [] []) ∧
    (¬ bad → ¬ lock → Completes i s fun t => s.Answered t p 0 m.txid [] ∧ t.get .PAIR_CFG_PAIRID 6 0 = m.u8 0 ∧ t.get .PAIR_CFG_AUTO 6 0 = m.u8 1 ∧
      t.get .PAIR_CFG_ISOYIELD 6 0 = m.u8 2 ∧ (role ≠ 1 → t.get .PAIR_STATUS_ROLE 6 0 = if m.u8 0 = 0 then 0 else 2) ∧ (role = 1 → t.get .PAIR_STATUS_ROLE 6 0 = 1))) ∧
   (s.Fronts p 0x902 0 → (role ≠ 2 → Replies (.pairActivate p) s p 4 m.txid [] []) ∧
    (role = 2 → 3 ≤ s.get .PAIR_ACTQ 6 0 → Completes (.pairActivate p) s fun t => s.Answered t p 0 m.txid [] ∧ t.get .PAIR_ACTREQ 6 0 = 1 ∧ s.OnlyAnswered t p [.PAIR_ACTREQ]) ∧
    (role = 2 → s.get .PAIR_ACTQ 6 0 < 3 → s.get .PAIR_ACTREQ 6 0 = 0 → Completes (.pairActivate p) s fun t => s.Answered t p 16 m.txid [] ∧ t.get .PAIR_STATUS_REFUSED 6 0 = 1)) ∧
   (s.Fronts p 0x903 0 → (role ≠ 2 → Replies (.pairTakeover p) s p 4 m.txid [] []) ∧
    (role = 2 → Completes (.pairTakeover p) s fun t => t.get .PAIR_TRIG 6 0 = 1 ∧ s.OnlyAnswered t p [.PAIR_TRIG] ∧
      s.Answered t p 0 m.txid (natBytes 8 ((s.get .TB_DOMCNT 6 0 / B 0 + 1) * B 0 + B 0)))) ∧
   (s.Fronts p 0x904 8 → let i := Instr.pairResync p
    let T := m.u64 0
    let long := ∃ D, D < 3 ∧ (s.marked p).resyncTooLong D = true
    (role ≠ 1 → Replies i s p 4 m.txid [] []) ∧ (role = 1 → long → Completes i s fun t => s.Answered t p 16 m.txid []) ∧
    (role = 1 → ¬ long → (s.get .PAIR_STATUS_SNAPPEND 6 0 = 1 ∨ T % B 0 ≠ 0 ∨ T < (s.get .TB_DOMCNT 6 0 / B 0 + 2) * B 0) →
      Completes i s fun t => s.Answered t p 16 m.txid []) ∧
    (role = 1 → ¬ long → s.get .PAIR_STATUS_SNAPPEND 6 0 = 0 → T % B 0 = 0 → (s.get .TB_DOMCNT 6 0 / B 0 + 2) * B 0 ≤ T →
      Completes i s fun t => s.Answered t p 0 m.txid (natBytes 8 T) ∧ t.get .PAIR_STATUS_SNAPPEND 6 0 = 1 ∧ t.get .PAIR_SNAP_AT 6 0 = T ∧ t.get .PAIR_TD 6 0 = T)) ∧
   (s.Fronts p 0x905 0 → Completes (.pairStatus p) s fun t => t.get .PAIR_HMISS 6 0 = 0 ∧ t.get .PAIR_MISMATCH 6 0 = 0 ∧
    s.OnlyAnswered t p [.PAIR_HMISS, .PAIR_MISMATCH] ∧ s.Answered t p 0 m.txid (natBytes 4 (s.regAt 6 .biray 0 0x208) ++ natBytes 8 (s.get .PAIR_ACTSINCE 6 0) ++
      natBytes 4 (s.get .PAIR_HMISS 6 0) ++ natBytes 4 (s.get .PAIR_MISMATCH 6 0))))

/-- R438, R441, R443 to R446, R448, R449, R451, R452, R454 and R455. The model's choices: what a rail out of range leaves open (log entry
26), a set whose die does not answer (70), the gill busy with a snapshot (91), an acknowledgement left to the host (153). -/
def Obligations.EscalationMonitorsAndFaultCommands : Prop := ∀ s : State, s.canonical = true →
  (∀ d x, d < 8 → x < 1152 → let lv := s.get .FLT_STATUS_LEVEL d x
    let zero : List (Loc × Nat) := [(⟨.FLT_STATUS_LEVEL, d, x⟩, 0), (⟨.FLT_STATUS_TIRQ, d, x⟩, 0), (⟨.FLT_STATUS_GIRQ, d, x⟩, 0),
      (⟨.CSF_HOLDACK, d, x⟩, 0)]
    let takes := (d = 6 ∧ x / 64 = 6) ∨ s.dieClocked d = true
    let tail := s.get .AXO_STATUS_TAIL 6 0
    let held := x / 64 = 7 ∧ s.get .THERM_STATUS_TRIPPED d 0 = 1
    let acts := s.get .BOOT_SET 6 0 ≠ 0 ∧ s.get .THERM_STATUS_TRIPPED 6 0 ≠ 1 ∧ s.get .SNAP_BUSY 6 0 ≠ 1 ∧ s.regsReach d x = true
    let gill := lv = 2 ∧ acts ∧
      (tail = 0 ∨ tail = 1 ∨ (tail = 2 ∧ s.get .FLT_STATUS_LATEACK d x = 1))
    let again : List (Loc × Nat) := [(⟨.FLT_STATUS_LEVEL, d, x⟩, 1), (⟨.FLT_STATUS_TIRQ, d, x⟩, 1), (⟨.FLT_STATUS_GIRQ, d, x⟩, 0),
      (⟨.CSF_HOLDACK, d, x⟩, 0), (⟨.FLT_T0, d, x⟩, s.capture d % 2 ^ Fld.width .FLT_T0)]
    let since := s.capture d - s.get .FLT_T0 d x
    let t1 := max 1 (s.get .FLT_GRACE_T1 d x) * 10 ^ 5
    let t2 := max 1 (s.get .FLT_GRACE_T2 d x) * 10 ^ 5
    (∀ raise expiry, let i := Instr.fltStatusAck d x raise expiry
      (lv = 0 ∨ ¬ takes → exec i s = .next s) ∧ (takes → lv = 1 → Does i s (if raise then again else zero)) ∧
      (takes → lv = 2 → Does i s ([(⟨.FLT_STATUS_TIRQ, d, x⟩, 0), (⟨.FLT_STATUS_LATEACK, d, x⟩, 1)] ++ if expiry then [(⟨.FLT_STATUS_LEVEL, d, x⟩, 3)] else [])) ∧
      (takes → lv = 3 → Does i s [(⟨.FLT_STATUS_TIRQ, d, x⟩, 0)])) ∧
    (∀ raise, (acts → lv = 2 → Does (.ack2 d x raise) s (if raise then again else zero)) ∧ (¬ acts ∨ lv ≠ 2 → exec (.ack2 d x raise) s = .next s)) ∧
    (acts → lv = 3 → ¬ held → Does (.clr3 d x) s zero) ∧ (¬ acts ∨ lv ≠ 3 ∨ held → exec (.clr3 d x) s = .next s) ∧
    (lv = 1 → t1 ≤ since → Completes (.graceT1Expiry d x) s fun t => t.get .FLT_STATUS_LEVEL d x = 2 ∧ t.get .FLT_STATUS_GIRQ d x = 1 ∧
      s.Within t [⟨.FLT_STATUS_LEVEL, d, x⟩, ⟨.FLT_STATUS_GIRQ, d, x⟩, ⟨.FLT_T0, d, x⟩]) ∧
    (lv ≠ 1 ∨ since < t1 → exec (.graceT1Expiry d x) s = .next s) ∧
    (lv = 2 → t2 ≤ since → Completes (.graceT2Expiry d x) s fun t => s.Changes t [(⟨.FLT_STATUS_LEVEL, d, x⟩, 3)] ∧ (s.pinsFloat = false → t.faultN = true)) ∧
    (lv ≠ 2 ∨ since < t2 → exec (.graceT2Expiry d x) s = .next s) ∧ (gill → Does (.gillL2Check d x) s zero) ∧ (¬ gill → exec (.gillL2Check d x) s = .next s)) ∧
  (∀ d k tj lost, s.get .IN_PORST 6 0 ≠ 0 ∨ (if d < 6 then 8 else 4) ≤ k → exec (.thermalThreshold d k tj lost) s = .next s ∧
    exec (.thermTrip d k tj lost) s = .next s ∧ exec (.sensorSelfCheckFailure d k) s = .next s) ∧
  (∀ d k tj, d < 8 → k < (if d < 6 then 8 else 4) → tj < 2 ^ 12 → s.get .IN_PORST 6 0 = 0 → let T := tempOf tj
    let live := fun (t : State) (n : FaultName) => bitAt (t.get .FLT_LIVE d (7 * 64)) n.code
    let step := fun (t : State) (n : FaultName) (limit : Nat) =>
      (8 * (limit : Int) ≤ T → live t n = 1 ∧ (live s n = 0 → t.Raised n d 0)) ∧ (T < 8 * (limit : Int) - 24 → s.OneCond n d 0 k → live t n = 0) ∧
        (T < 8 * (limit : Int) → 8 * (limit : Int) - 24 ≤ T → live t n = live s n)
    let read := fun t : State => t.get .THERM_TEMP_TJ d k = tj ∧ t.get .THERM_TEMP_VALID d k = 1 ∧
      t.get .THERM_MAX d 0 = (if tempOf (s.get .THERM_MAX d 0) < T then tj else s.get .THERM_MAX d 0) ∧ (s.OneCond .THERM_SENSOR d 0 k → live t .THERM_SENSOR = 0)
    (∀ lost, T < 1000 ∨ s.get .THERM_STATUS_TRIPPED d 0 = 1 → Completes (.thermalThreshold d k tj lost) s fun t => read t ∧ step t .THERM_WARN (s.get .THERM_CFG_WARN d 0) ∧
      step t .THERM_HOT (s.get .THERM_CFG_HOT d 0) ∧ t.get .THERM_STATUS_TRIPPED d 0 = s.get .THERM_STATUS_TRIPPED d 0 ∧ s.SameMem t) ∧
    (∀ lost, (T < 1000 ∨ s.get .THERM_STATUS_TRIPPED d 0 = 1 → exec (.thermTrip d k tj lost) s = .next s) ∧
      ∀ i, i ∈ [Instr.thermTrip d k tj lost, .thermalThreshold d k tj lost] → (1000 ≤ T → s.get .THERM_STATUS_TRIPPED d 0 = 0 → Completes i s fun t => read t ∧ t.get .THERM_STATUS_TRIPPED d 0 = 1 ∧
        t.get .THERM_STATUS_SENSOR d 0 = k ∧ t.get .FLT_STATUS_LEVEL d (7 * 64) = 3 ∧ (s.pinsFloat = false → t.faultN = true ∧ t.thermtripN = true) ∧ t.dieClocked d = false ∧
        live t .THERM_TRIP = 1 ∧ (live s .THERM_TRIP = 0 → t.Raised .THERM_TRIP d 0) ∧
        (∀ l, l < linkCount d → linkPeer d l ≠ none → t.linkUp d l = false) ∧ ∀ e, e ≠ d → t.dieClocked e = s.dieClocked e)) ∧
    Completes (.sensorSelfCheckFailure d k) s fun t => t.get .THERM_TEMP_VALID d k = 0 ∧ live t .THERM_SENSOR = 1 ∧
      (live s .THERM_SENSOR = 0 → t.Raised .THERM_SENSOR d 0) ∧ t.get .THERM_TEMP_TJ d k = s.get .THERM_TEMP_TJ d k ∧ s.SameMem t) ∧
  (∀ d k mv, d < 8 → k < 4 → mv < 2 ^ 12 → let live := fun (t : State) (n : FaultName) => bitAt (t.get .FLT_LIVE d (7 * 64)) n.code
    let held := fun (t : State) (n : FaultName) (c : Prop) => (c → live t n = 1 ∧ (live s n = 0 → t.Raised n d 0)) ∧ (¬ c → s.OneCond n d 0 k → live t n = 0)
    let nominal := railNominal d k
    let i := Instr.vmonThreshold d k mv
    let inRange := nominal * 97 ≤ mv * 100 ∧ mv * 100 ≤ nominal * 103
    let kept := inRange ∨ s.get .PFAIL_PIN 6 0 ≠ 0
    (s.get .IN_PORST 6 0 ≠ 0 ∨ (kept ∧ s.get .REFCLK_OK d 0 ≠ 1) → exec i s = .next s) ∧
    (s.get .IN_PORST 6 0 = 0 → s.get .REFCLK_OK d 0 = 1 → kept → Completes i s fun t => t.get .VMON d k = mv ∧ held t .VMON_UV (mv * 100 < nominal * 95) ∧
      held t .VMON_OV (nominal * 105 < mv * 100) ∧ s.SameMem t ∧
      ∀ f e x, (⟨f, e, x⟩ : Loc) ∉ [⟨.VMON, d, k⟩, ⟨.FLT_LIVE, d, 7 * 64⟩] ++ raiseCells d (7 * 64) → t.get f e x = s.get f e x) ∧
    (s.get .IN_PORST 6 0 = 0 → ¬ kept → Completes i s fun t =>
      (s.get .REFCLK_OK d 0 = 1 → t.get .VMON d k = mv ∧ (mv * 100 < nominal * 95 → live t .VMON_UV = 1) ∧ (nominal * 105 < mv * 100 → live t .VMON_OV = 1)) ∧
      (∀ f e x, onRail d k ⟨f, e, x⟩ = false → (⟨f, e, x⟩ : Loc) ∉ [⟨.VMON, d, k⟩, ⟨.FLT_LIVE, d, 7 * 64⟩] ++ raiseCells d (7 * 64) → t.get f e x = s.get f e x) ∧
      ∀ e a, ramOnRail d k e a = false → t.byte e a = s.byte e a)) ∧
  (∀ d x, d < 8 → x < 1152 → let lv := s.get .FLT_STATUS_LEVEL d x
    let recs := s.faultRecs d x
    let i := Instr.faultService d x
    let go := s.tailRuns = true ∧ s.regsReach d x = true ∧ (s.get .FLT_STATUS_TIRQ d x = 1 ∨ s.get .FLT_STATUS_NOTE d x = 1)
    (¬ go → exec i s = .next s) ∧ ((recs.map fun r => r.code) = (List.range 32).filter fun c => bitAt (s.get .FLT_STICKY d x) c == 1) ∧
    (∀ r, r ∈ recs → r.unit = s.get .RING_STATUS_ADDR 6 0 ∧ r.die = d ∧ r.block = x ∧ r.level = lv ∧ r.cnt = s.get .FLT_CNT d x ∧
      bitAt r.flags 2 = bitAt (s.get .FLT_LIVE d x) r.code ∧
      if s.get .FLT_FIRST_VALID d x = 1 ∧ s.get .FLT_FIRST_CODE d x = r.code then
        r.stamp = s.get .FLT_FIRST_STAMP d x ∧ r.inst = s.get .FLT_FIRST_INSTANCE d x ∧ r.sev = s.get .FLT_FIRST_SEV d x ∧
          bitAt r.flags 0 = s.get .FLT_FIRST_CONCURRENT d x ∧ bitAt r.flags 1 = s.get .FLT_FIRST_CLEARED_BEFORE_READ d x ∧ bitAt r.flags 3 = 0
      else r.stamp = s.get .TB_SYSCNT 6 0 ∧ r.inst = 0xFFFF ∧ bitAt r.flags 3 = 1) ∧
    (go → Completes i s fun t => t.get .FLT_STICKY d x = 0 ∧ t.get .FLT_CNT d x = 0 ∧ t.get .FLT_FIRST_VALID d x = 0 ∧ t.get .FLT_STATUS_NOTE d x = 0 ∧
      t.faultLog = (s.faultLog ++ recs).drop ((s.faultLog ++ recs).length - 4096) ∧
      ((∀ r, r ∈ recs → r.sev < 3) → s.get .CSF_HOLDACK d x = 0 → (lv ≠ 0 → t.get .FLT_STATUS_TIRQ d x = 0) ∧ t.get .FLT_STATUS_LEVEL d x = (if lv = 1 then 0 else lv) ∧
        (lv = 2 → t.get .FLT_STATUS_LATEACK d x = 1)) ∧
      ((∃ r, r ∈ recs ∧ 3 ≤ r.sev) ∨ s.get .CSF_HOLDACK d x = 1 → t.get .FLT_STATUS_TIRQ d x = s.get .FLT_STATUS_TIRQ d x ∧ t.get .FLT_STATUS_LEVEL d x = lv ∧
        t.get .CSF_HOLDACK d x = if lv = 0 then 0 else 1) ∧
      (∀ r p, recs = [r] → p < 16 → d = 6 → x = 14 * 64 → r.code ∈ [FaultName.PAIR_TAKEOVER.code, FaultName.PAIR_SNAPFAIL.code, FaultName.PAIR_CONFLICT.code,
        FaultName.PAIR_DIVERGE.code, FaultName.PAIR_HMISS.code] → bitAt (s.get .CSF_EVMASK 6 p) 9 = 1 → bitAt (s.get .CSF_EVMASK 6 p) 10 = 0 → s.eventsOf p = [] →
        s.get .CSF_EVLOST 6 p = 0 → s.mbxFill (2 * p + 1) < 64 → s.atWork p = false →
        s.Told t p 0x4901 0 (if s.get .CSF_SNAPEV 6 0 = 1 then [s.get .CSF_SNAPROLE 6 0, s.get .CSF_SNAPSYNC 6 0] ++ natBytes 8 (s.get .CSF_SNAPSINCE 6 0)
          else [s.get .PAIR_STATUS_ROLE 6 0, s.get .PAIR_STATUS_SYNC 6 0] ++ natBytes 8 (s.get .PAIR_ACTSINCE 6 0))) ∧
      ∀ r p, recs = [r] → p < 16 → x ≠ 10 * 64 → x ≠ 14 * 64 → bitAt (s.get .CSF_EVMASK 6 p) 10 = 1 → s.eventsOf p = [] → s.get .CSF_EVLOST 6 p = 0 →
        s.mbxFill (2 * p + 1) < 64 → s.atWork p = false → s.Told t p 0x4A01 0 r.bytes)) ∧
  ∀ p, p < 16 → let m := s.cmdMsg p
    let d := m.u8 0
    let x := m.u16 1
    let lv := s.get .FLT_STATUS_LEVEL d x
    let turned := fun i : Instr => (setOnDie d x = false → Replies i s p 7 m.txid [] []) ∧
      (setOnDie d x = true → s.regsReach d x = false → Replies i s p 4 m.txid [] [])
    let only := fun (t : State) (l : List Fld) => s.OnlyAnswered t p l ∧ ∀ f e y, (e, y) ≠ (d, x) → f ∈ l → t.get f e y = s.get f e y
    let on := setOnDie d x = true ∧ s.regsReach d x = true
    (s.Fronts p 0xA01 9 → (∀ r, r ∈ s.faultLog → r.unit < 256 ∧ r.die < 256 ∧ r.code < 256 ∧ r.sev < 256 ∧ r.flags < 256 ∧ r.level < 256) →
      let n := min 10 (m.u8 8)
      ∃ l : List FaultRec, Replies (.faultList p) s p 0 m.txid (l.map FaultRec.bytes).flatten [] ∧ l.length ≤ n ∧
        (∀ r, r ∈ l → r ∈ s.faultLog ∧ m.u64 0 ≤ r.stamp) ∧ l.Pairwise (fun a b => b.before a = false) ∧
        ∀ r, r ∈ s.faultLog → m.u64 0 ≤ r.stamp → r ∉ l → l.length = n ∧ ∀ q, q ∈ l → r.before q = false) ∧
    (s.Fronts p 0xA02 3 → turned (.faultAck p) ∧
      (on → Completes (.faultAck p) s fun t => s.Answered t p 0 m.txid [] ∧ only t [.FLT_STATUS_LEVEL, .FLT_STATUS_TIRQ, .FLT_STATUS_GIRQ, .FLT_STATUS_LATEACK, .CSF_HOLDACK] ∧
        t.get .FLT_STATUS_LEVEL d x = (if lv = 1 then 0 else lv) ∧ (lv ≠ 0 → t.get .FLT_STATUS_TIRQ d x = 0) ∧ (lv = 2 → t.get .FLT_STATUS_LATEACK d x = 1))) ∧
    (s.Fronts p 0xA03 5 → turned (.faultInject p) ∧
      (on → ¬ (x / 64 = 1 ∨ x / 64 = 4 ∨ x / 64 = 5) → Replies (.faultInject p) s p 7 m.txid [] []) ∧
      (on → x / 64 = 1 ∨ x / 64 = 4 ∨ x / 64 = 5 → Completes (.faultInject p) s fun t => s.Answered t p 0 m.txid [] ∧ only t [.FLT_INJ_COUNT] ∧
        t.get .FLT_INJ_COUNT d x = m.u16 3)) ∧
    (s.Fronts p 0xA04 3 → s.get .SNAP_BUSY 6 0 = 0 → let barred := ∃ n, n ∈ FaultName.all ∧ n.type = x / 64 ∧ bitAt (s.get .FLT_LIVE d x) n.code = 1 ∧ s.get .FLT_ESC_MINSEV d x ≤ n.severity
      turned (.faultClear p) ∧ (on → lv = 3 → barred → Replies (.faultClear p) s p 4 m.txid [] []) ∧
      (on → (∀ c, c < 32 → bitAt (s.get .FLT_LIVE d x) c = 1 → bitAt (faultCodes (x / 64)) c = 1) → ¬ (lv = 3 ∧ barred) →
        Completes (.faultClear p) s fun t => s.Answered t p 0 m.txid [] ∧ t.get .FLT_STICKY d x = 0 ∧ t.get .FLT_FIRST_VALID d x = 0 ∧
          (lv = 3 → t.get .FLT_STATUS_LEVEL d x = 0 ∧ t.get .FLT_STATUS_TIRQ d x = 0 ∧ t.get .FLT_STATUS_GIRQ d x = 0) ∧
          (lv ≠ 3 → t.get .FLT_STATUS_LEVEL d x = lv) ∧
          only t [.FLT_STICKY, .FLT_FIRST_VALID, .FLT_STATUS_LEVEL, .FLT_STATUS_TIRQ, .FLT_STATUS_GIRQ, .CSF_HOLDACK]))

/-- R459 to R461, R467, R468, R470 to R472, R475 and R476, with R202 and R455. The model's choices: AXO_TAIL_DOWN begins at the release (log
entry 59), a page whose erase has begun fails its CRC (75), the locks that the boot waits for (152). -/
def Obligations.PowerOnSnapshotsAndSleep : Prop := ∀ s : State, s.canonical = true →
  let always : List Fld := [.EFUSE_REP, .EFUSE_BAD, .SNAP_PGE, .WAKE_N_PIN, .SLEEP_ACK_PIN, .WAKE_ONLY, .AON_LANE, .REF_RAW, .GPIO_RAW, .PCIE_PERST, .REFCLK_OK]
  let straps : List Fld := [.STRAP_BOOTSRC, .STRAP_TESTMODE, .HP_CFG, .RING_STATUS_HEAD]
  let wake : List Fld := [.MAC_WAKE_CFG_PEN, .MAC_WAKE_CFG_MAGIC, .MAC_WAKE_STAT_PHIT, .MAC_WAKE_STAT_MHIT, .WAKE_PAT, .WAKE_MASK]
  let stays := fun (f : Fld) (d i : Nat) => f ∈ always ∨ (f ∈ wake ∧ d = 6) ∨ (f = .MAC_ADDR ∧ d = 6 ∧ i = 0)
  let cut := fun d i : Nat => s.get .EFUSE_BAD d i = 1 ∨ (s.get .LF_FUSE_BUSY d 0 = 1 ∧
    ∃ e, e ∈ s.burnable d (s.get .LF_FUSEB d 0) ∧ i = s.get .LF_FUSEB d 0 * 4 + e)
  let busy := s.get .SNAP_BUSY 6 0 = 1
  let erasing := s.get .SNAP_ERASING 6 0 = 1
  let page := s.get .SNAP_PAGE 6 0
  let rest := fun t : State => { t with cells := s.cells, mem := s.mem, freeCtr := s.freeCtr } = { State.reset with cells := s.cells, mem := s.mem, freeCtr := s.freeCtr, pending := s.pending }
  let samePage := fun (t : State) (p : Nat) => t.pageBytes p = s.pageBytes p
  let only := fun (t : State) (l : List Fld) (k : Nat) => s.SameBut t l ∧ { t with cells := s.cells, mem := s.mem, freeCtr := s.freeCtr } = s ∧
    ∀ d a, d ≠ k → a < 2 ^ 32 → t.byte d a = s.byte d a
  (Completes .porstAssert s fun t => t.get .IN_PORST 6 0 = 1 ∧ rest t ∧ t.canonical = true ∧
    (∀ f, f ∈ straps → ∀ d i, t.get f d i = s.get f d i) ∧ t.pinsFloat = true ∧
    (∀ f d i, ¬ stays f d i → f ∉ straps → (f, d, i) ≠ (.IN_PORST, 6, 0) → t.get f d i = f.reset d i) ∧
    (∀ f d i, stays f d i → f ≠ .EFUSE_BAD → (f, d, i) ≠ (.SNAP_PGE, 6, page) ∨ ¬ busy → t.get f d i = s.get f d i) ∧
    (∀ d i, d < 8 → (t.get .EFUSE_BAD d i = 1 ↔ cut d i)) ∧
    (∀ d a, d ≠ 10 → a < 2 ^ 32 → t.byte d a = 0) ∧ (∀ p, p < 2 → p ≠ page ∨ ¬ busy → samePage t p) ∧
    (busy → t.get .SNAP_PGE 6 page = 0 ∧ t.pageValid page = false)) ∧
  (∀ src head sel test good1 good2 stage2, src < 4 → head < 2 → sel < 2 → test < 2 → stage2.length ≤ 2 ^ 18 → (∀ x, x ∈ stage2 → x < 256) →
    let i := Instr.porstRelease src head sel test good1 good2 stage2
    let fused := test = 0
    let clean := fun d : Nat => ∀ k, ¬ cut d k
    let locks : List Fld := [.MDLL_STATUS_STATE, .MDLL_STATUS_SEARCHES, .MDLL_T0, .MDLL_AFTERLOSS]
    let repairs : List Fld := [.BANK_REPAIR_ROW_LO, .BANK_REPAIR_FUSED_LO, .BANK_REPAIR_VALID_LO, .BANK_REPAIR_ROW_HI, .BANK_REPAIR_FUSED_HI, .BANK_REPAIR_VALID_HI]
    let tail := FaultName.set .AXO_TAIL_DOWN 0
    let set := if test ≠ 0 then 0 else if src < 2 ∧ good1 = true then 1 else if src = 1 ∧ good2 = true then 2 else 0
    Completes i s fun t => rest { t with conds := [] } ∧ (test ≠ 0 → t.conds = []) ∧
      (test = 0 → bitAt (t.get .FLT_LIVE 6 tail) (FaultName.code .AXO_TAIL_DOWN) = 1 ∧ t.Raised .AXO_TAIL_DOWN 6 0) ∧ t.get .IN_PORST 6 0 = 0 ∧ t.get .STRAP_BOOTSRC 6 0 = src ∧ t.get .STRAP_TESTMODE 6 0 = test ∧
      t.get .HP_CFG 6 0 = sel ∧ t.get .RING_STATUS_HEAD 6 0 = head ∧ t.get .BOOT_SET 6 0 = set ∧ t.get .BOOT_STEP 6 0 = (if set = 0 then 0 else 2) ∧
      (set ≠ 0 → ∀ d, d < 8 → bitAt (t.get .BOOT_WAIT 6 0) d = 1) ∧
      t.get .WAKE_N_PIN 6 0 = 0 ∧ t.get .SLEEP_ACK_PIN 6 0 = 0 ∧ t.get .AON_LANE 6 0 = 0 ∧ t.get .WAKE_ONLY 6 0 = 0 ∧
      (∀ d, d < 8 → t.get .MDLL_STATUS_STATE d 0 = if s.get .REFCLK_OK d 0 = 1 then 1 else Fld.reset .MDLL_STATUS_STATE d 0) ∧
      (∀ f d i, stays f d i → f ∉ [Fld.WAKE_N_PIN, .SLEEP_ACK_PIN, .AON_LANE, .WAKE_ONLY, .EFUSE_BAD] → t.get f d i = s.get f d i) ∧
      (∀ d i, d < 8 → (t.get .EFUSE_BAD d i = 1 ↔ cut d i)) ∧ (∀ d, d < 8 → fused → ¬ clean d → t.Raised .BANK_FUSE_ERR d 0) ∧
      (∀ f d i, ¬ stays f d i → f ∉ locks ++ straps ++ [.BOOT_SET, .BOOT_STEP, .BOOT_WAIT] → (¬ fused ∨ f ∉ repairs) →
        (¬ fused ∨ ((f ∉ raiseFlds ∨ i ≠ bankSet ∨ clean d) ∧ (f ∉ .FLT_LIVE :: raiseFlds ∨ d ≠ 6 ∨ i ≠ tail))) → t.get f d i = f.reset d i) ∧
      (∀ d b e, fused → d < 8 → b < 256 → e < 2 → let w := s.get .EFUSE_REP d (b * 4 + 2 * e)
        bitAt w 15 = 1 → ¬ cut d (b * 4 + 2 * e) → t.get .BANK_REPAIR_VALID_LO d (b * 2 + e) = 1 ∧
          t.get .BANK_REPAIR_FUSED_LO d (b * 2 + e) = 1 ∧ t.get .BANK_REPAIR_ROW_LO d (b * 2 + e) = w % 512) ∧
      (∀ d b e, fused → d < 8 → b < 256 → e < 2 → let w := s.get .EFUSE_REP d (b * 4 + 2 * e + 1)
        (bitAt w 15 = 1 → ¬ cut d (b * 4 + 2 * e + 1) → t.get .BANK_REPAIR_VALID_HI d (b * 2 + e) = 1 ∧
          t.get .BANK_REPAIR_FUSED_HI d (b * 2 + e) = 1 ∧ t.get .BANK_REPAIR_ROW_HI d (b * 2 + e) = w % 512) ∧
        (bitAt w 15 = 0 ∨ cut d (b * 4 + 2 * e + 1) → t.get .BANK_REPAIR_VALID_HI d (b * 2 + e) = 0)) ∧
      (∀ d a, d ≠ 10 → d ≠ 12 ∨ set = 0 → a < 2 ^ 32 → t.byte d a = 0) ∧ (set ≠ 0 → t.loadBytes 12 0 stage2.length = stage2) ∧
      ∀ p, p < 2 → samePage t p) ∧
  (let erased := fun p : Nat => s.get .SNAP_PGE 6 p = 1 ∧ s.newestPage ≠ some p
   let noPage := ¬ erased 0 ∧ ¬ erased 1
   let first := if s.get .SNAP_PGE 6 0 = 1 ∧ s.newestPage ≠ some 0 then 0 else 1
   let starts := fun t : State => t.get .SNAP_BUSY 6 0 = 1 ∧ t.get .SNAP_PAGE 6 0 = first ∧ t.newestPage = s.newestPage ∧
     let b := t.loadBytes 11 0 256
     let recs := s.snapshotRecs
     bytesNat (b.drop 252) = crc32 (b.take 252) ∧ (∀ q, s.newestPage = some q → slice b 0 4 = natBytes 4 (s.pageSeq q + 1)) ∧
       slice b 4 8 = natBytes 8 (s.capture 6) ∧ (∀ D, D < 3 → slice b (12 + 4 * D) 4 = natBytes 4 (s.get .TB_GEN 6 D)) ∧
       slice b 24 4 = [s.get .RING_STATUS_ADDR 6 0, s.get .PAIR_CFG_PAIRID 6 0, s.get .PAIR_STATUS_ROLE 6 0, s.get .PAIR_STATUS_SYNC 6 0] ∧
       slice b 28 8 = natBytes 8 (s.get .PAIR_ACTSINCE 6 0) ∧ slice b 36 4 = [recs.length, 0, 0, 0] ∧ recs.length ≤ 8 ∧
       slice b 40 (24 * recs.length) = (recs.map FaultRec.bytes).flatten ∧ slice b 232 20 = List.replicate 20 0 ∧
       (∀ r, r ∈ recs → ∃ d x, setOnDie d x = true ∧ s.regsReach d x = true ∧ s.get .FLT_FIRST_VALID d x = 1 ∧ r = s.faultRec d x (s.get .FLT_FIRST_CODE d x)) ∧
       recs.Pairwise (fun a b => b.sev ≤ a.sev ∧ (a.sev = b.sev → b.before a = false)) ∧
       (recs.length < 8 → ∀ d x, setOnDie d x = true → s.regsReach d x = true → s.get .FLT_FIRST_VALID d x = 1 →
         s.faultRec d x (s.get .FLT_FIRST_CODE d x) ∈ recs) ∧
       (∀ d x, (setOnDie d x = true ∧ s.regsReach d x = true ∧ s.get .FLT_FIRST_VALID d x = 1 → t.get .FLT_CNT d x = 0) ∧
         (s.get .FLT_FIRST_VALID d x ≠ 1 → t.get .FLT_CNT d x = s.get .FLT_CNT d x ∧ t.get .FLT_READT d x = s.get .FLT_READT d x))
   let porst := s.get .IN_PORST 6 0 ≠ 0
   let asleep := fun t : State => t.get .SLEEP_ACK_PIN 6 0 = 1 ∧ t.get .WAKE_ONLY 6 0 = 1 ∧ t.get .SNAP_SLEEP 6 0 = 0 ∧
     t.get .AON_LANE 6 0 = if s.get .MAC_CFG_MODE 6 0 = 1 ∨ s.get .MAC_CFG_MODE 6 0 = 2 then 1 else s.get .AON_LANE 6 0
   let sleepCells : List Fld := [.AON_LANE, .SLEEP_ACK_PIN, .WAKE_ONLY, .SNAP_SLEEP]
   (porst → exec .pfailAccept s = .next s ∧ exec .snapshotErase s = .next s) ∧
   (¬ porst → s.stage2 = false ∨ busy ∨ (¬ erasing ∧ noPage) → Does .pfailAccept s [(⟨.PFAIL_PIN, 6, 0⟩, 1)]) ∧
   (¬ porst → s.stage2 = true → ¬ busy → erasing → Does .pfailAccept s [(⟨.PFAIL_PIN, 6, 0⟩, 1), (⟨.SNAP_ERASING, 6, 0⟩, 0)]) ∧
   (¬ porst → s.stage2 = true → ¬ busy → ¬ erasing → ¬ noPage → Completes .pfailAccept s fun t => starts t ∧ t.get .PFAIL_PIN 6 0 = 1 ∧
     only t [.PFAIL_PIN, .SNAP_BUSY, .SNAP_PAGE, .FLT_CNT, .FLT_READT] 11) ∧
   (¬ busy → exec .snapshotProgramDone s = .next s) ∧
   (busy → Completes .snapshotProgramDone s fun t => t.get .SNAP_BUSY 6 0 = 0 ∧ t.get .SNAP_PGE 6 page = 0 ∧ t.pageBytes page = s.loadBytes 11 0 256 ∧
     samePage t (1 - page) ∧ only t ([.SNAP_BUSY, .SNAP_PGE] ++ if s.get .SNAP_SLEEP 6 0 = 1 then sleepCells else []) 10 ∧
     t.get .SNAP_PGE 6 (1 - page) = s.get .SNAP_PGE 6 (1 - page) ∧ (s.get .SNAP_SLEEP 6 0 = 1 → asleep t)) ∧
   (let dirty := fun p : Nat => s.get .SNAP_PGE 6 p = 0 ∧ s.newestPage ≠ some p
    let p := if s.get .SNAP_PGE 6 0 = 0 ∧ s.newestPage ≠ some 0 then 0 else 1
    (¬ porst → s.stage2 = false ∨ busy ∨ erasing ∨ (¬ dirty 0 ∧ ¬ dirty 1) → Does .snapshotErase s [(⟨.PFAIL_PIN, 6, 0⟩, 0)]) ∧
    (¬ porst → s.stage2 = true → ¬ busy → ¬ erasing → dirty 0 ∨ dirty 1 → Completes .snapshotErase s fun t => t.get .SNAP_ERASING 6 0 = 1 ∧ t.get .SNAP_PAGE 6 0 = p ∧
      t.pageValid p = false ∧ samePage t (1 - p) ∧ t.newestPage = s.newestPage ∧ t.get .PFAIL_PIN 6 0 = 0 ∧ only t [.PFAIL_PIN, .SNAP_ERASING, .SNAP_PAGE, .SNAP_PGE] 10)) ∧
   (¬ erasing → exec .snapshotEraseDone s = .next s) ∧
   (erasing → Completes .snapshotEraseDone s fun t => t.get .SNAP_ERASING 6 0 = 0 ∧ t.get .SNAP_PGE 6 page = 1 ∧ t.pageBytes page = List.replicate 256 255 ∧
     samePage t (1 - page) ∧ only t [.SNAP_ERASING, .SNAP_PGE] 10 ∧ t.get .SNAP_PGE 6 (1 - page) = s.get .SNAP_PGE 6 (1 - page)) ∧
   (s.stage2 = false ∨ s.get .WAKE_ONLY 6 0 = 1 → exec .sleepEntry s = .next s) ∧
   (s.stage2 = true → s.get .WAKE_ONLY 6 0 = 0 → (busy → Does .sleepEntry s [(⟨.SNAP_SLEEP, 6, 0⟩, 1)]) ∧
     (¬ busy → erasing → Completes .sleepEntry s fun t => asleep t ∧ t.get .SNAP_ERASING 6 0 = 0 ∧ only t (.SNAP_ERASING :: sleepCells) 11) ∧
     (¬ busy → ¬ erasing → noPage → Completes .sleepEntry s fun t => asleep t ∧ only t sleepCells 11) ∧
     (¬ busy → ¬ erasing → ¬ noPage → Completes .sleepEntry s fun t => starts t ∧ t.get .SNAP_SLEEP 6 0 = 1 ∧ only t [.SNAP_BUSY, .SNAP_PAGE, .SNAP_SLEEP, .FLT_CNT, .FLT_READT] 11)))
end

