-- ==== Sys2Proof/Laws/Cells.lean ====
section
/-! SUPPORT. Laws of the cell list and of `get` and `put`. -/

namespace Sys2Proof.Machine

theorem Cells.find_erase (k l : Loc) (c : List (Loc × Nat)) :
    Cells.find k (Cells.erase l c) = if k = l then none else Cells.find k c := by
  induction c with
  | nil => simp [Cells.erase, Cells.find]
  | cons x t ih =>
    obtain ⟨a, v⟩ := x
    by_cases h : a = l
    · subst h; rw [Cells.erase, if_pos rfl, ih]; by_cases hk : k = a
      · simp [hk]
      · rw [if_neg hk, if_neg hk, Cells.find, if_neg (Ne.symm hk)]
    · rw [Cells.erase, if_neg h, Cells.find, Cells.find, ih]
      by_cases hk : a = k
      · subst hk; simp [h]
      · simp [hk]

theorem Cells.find_insert (k l : Loc) (x : Nat) (c : List (Loc × Nat)) :
    Cells.find k (Cells.insert l x c) = if k = l then some x else Cells.find k c := by
  induction c with
  | nil => simp [Cells.insert, Cells.find, eq_comm]
  | cons y t ih =>
    obtain ⟨a, v⟩ := y
    rw [Cells.insert]
    by_cases h : a = l
    · subst h; simp only [if_true, Cells.find]; by_cases hk : k = a
      · simp [hk]
      · simp [hk, Ne.symm hk]
    · rw [if_neg h]; split
      · rw [Cells.find]; by_cases hk : k = l
        · simp [hk]
        · simp [hk, Ne.symm hk]
      · rw [Cells.find, Cells.find, ih]
        by_cases hk : a = k
        · subst hk; simp [h]
        · simp [hk]

/-- A write of a cell and a read: the place written reads the value cut to its width, every other as before. -/
theorem State.get_put (s : State) (f g : Fld) (d e i j v : Nat) :
    (s.put f d i v).get g e j = if g = f ∧ e = d ∧ j = i then v % 2 ^ f.width else s.get g e j := by
  unfold State.put State.get
  by_cases h : g = f ∧ e = d ∧ j = i
  · obtain ⟨rfl, rfl, rfl⟩ := h
    split <;> simp [Cells.find_erase, Cells.find_insert, *]
  · have hl : ¬ (Loc.mk g e j = Loc.mk f d i) := by simpa [Loc.mk.injEq] using h
    split <;> simp [Cells.find_erase, Cells.find_insert, hl]

@[simp] theorem State.get_put_same (s : State) (f : Fld) (d i v : Nat) : (s.put f d i v).get f d i = v % 2 ^ f.width := by
  simp [State.get_put]

theorem State.get_put_fld (s : State) {f g : Fld} (h : g ≠ f) (d e i j v : Nat) : (s.put f d i v).get g e j = s.get g e j := by
  simp [State.get_put, h]

theorem State.get_put_ne (s : State) {f g : Fld} {d e i j : Nat} (h : ¬ (g = f ∧ e = d ∧ j = i)) (v : Nat) :
    (s.put f d i v).get g e j = s.get g e j := by
  rw [State.get_put, if_neg h]

end Sys2Proof.Machine
end

