-- ==== Sys2Proof/Laws/Memory.lean ====
section
/-! SUPPORT. Laws of the byte memory: a read after a write, and the canonical form that every memory operation keeps. -/

namespace Sys2Proof.Machine

theorem Memory.find_erase (k l : Nat) (m : List Host.Cell) :
    Memory.find k (Memory.erase l m) = if k = l then memDefault else Memory.find k m := by
  induction m with
  | nil => simp [Memory.erase, Memory.find]
  | cons x t ih =>
    obtain ⟨a, b⟩ := x
    by_cases h : a = l
    · subst h; rw [Memory.erase, if_pos rfl, ih]; by_cases hk : k = a
      · simp [hk]
      · rw [if_neg hk, if_neg hk, Memory.find, if_neg (Ne.symm hk)]
    · rw [Memory.erase, if_neg h, Memory.find, Memory.find, ih]
      by_cases hk : a = k
      · subst hk; simp [h]
      · simp [hk]

theorem Memory.find_insert (k l : Nat) (x : Byte) (m : List Host.Cell) :
    Memory.find k (Memory.insert l x m) = if k = l then x else Memory.find k m := by
  induction m with
  | nil => simp [Memory.insert, Memory.find, eq_comm]
  | cons y t ih =>
    obtain ⟨a, b⟩ := y
    rw [Memory.insert]
    by_cases h : a = l
    · subst h; simp only [if_true, Memory.find]; by_cases hk : k = a
      · simp [hk]
      · simp [hk, Ne.symm hk]
    · rw [if_neg h]; split
      · rw [Memory.find]; by_cases hk : k = l
        · simp [hk]
        · simp [hk, Ne.symm hk]
      · rw [Memory.find, Memory.find, ih]
        by_cases hk : a = k
        · subst hk; simp [h]
        · simp [hk]

/-- A read after a write of one byte: the byte written at its key, the old one elsewhere. -/
theorem Memory.find_set (k l : Nat) (x : Byte) (m : List Host.Cell) :
    Memory.find k (Memory.set l x m) = if k = l then x else Memory.find k m := by
  unfold Memory.set; split
  · next h => rw [Memory.find_erase, h]
  · exact Memory.find_insert k l x m

/-- The canonical form as a rising list without default bytes. -/
theorem Memory.wf_iff (m : List Host.Cell) :
    Memory.wf m = true ↔ m.Pairwise (fun x y => x.1 < y.1) ∧ ∀ c, c ∈ m → c.2 ≠ memDefault := by
  induction m with
  | nil => simp [Memory.wf]
  | cons x t ih =>
    cases t with
    | nil => simp [Memory.wf]
    | cons y t =>
      rw [Memory.wf]
      simp only [Bool.and_eq_true, bne_iff_ne, decide_eq_true_eq, ih, List.pairwise_cons, List.mem_cons, forall_eq_or_imp]
      constructor
      · rintro ⟨⟨hx, hlt⟩, ⟨hy, ht⟩, hd, htd⟩
        exact ⟨⟨⟨hlt, fun c hc => Nat.lt_trans hlt (hy c hc)⟩, hy, ht⟩, hx, hd, htd⟩
      · rintro ⟨⟨⟨hlt, -⟩, hy, ht⟩, hx, hd, htd⟩
        exact ⟨⟨hx, hlt⟩, ⟨hy, ht⟩, hd, htd⟩

theorem Memory.erase_sublist (k : Nat) (m : List Host.Cell) : (Memory.erase k m).Sublist m := by
  induction m with
  | nil => exact .slnil
  | cons x t ih =>
    rw [Memory.erase]; split
    · exact ih.cons _
    · exact ih.cons_cons _

theorem Memory.wf_sublist {m n : List Host.Cell} (h : n.Sublist m) (w : Memory.wf m = true) : Memory.wf n = true := by
  rw [Memory.wf_iff] at *
  exact ⟨w.1.sublist h, fun c hc => w.2 c (h.subset hc)⟩

theorem Memory.wf_filter (p : Host.Cell → Bool) {m : List Host.Cell} (w : Memory.wf m = true) : Memory.wf (m.filter p) = true :=
  Memory.wf_sublist List.filter_sublist w

theorem Memory.mem_insert (k : Nat) (x : Byte) (m : List Host.Cell) (c : Host.Cell) (h : c ∈ Memory.insert k x m) : c = (k, x) ∨ c ∈ m := by
  induction m with
  | nil => exact .inl (by simpa [Memory.insert] using h)
  | cons y t ih =>
    rw [Memory.insert] at h
    split at h
    · rcases List.mem_cons.1 h with h | h
      · exact .inl h
      · exact .inr (List.mem_cons_of_mem _ h)
    · split at h
      · rcases List.mem_cons.1 h with h | h
        · exact .inl h
        · exact .inr h
      · rcases List.mem_cons.1 h with h | h
        · exact .inr (by simp [h])
        · exact (ih h).imp id (List.mem_cons_of_mem _)

theorem Memory.wf_insert {k : Nat} {x : Byte} {m : List Host.Cell} (hx : x ≠ memDefault) (w : Memory.wf m = true) :
    Memory.wf (Memory.insert k x m) = true := by
  rw [Memory.wf_iff] at *
  refine ⟨?_, fun c hc => ?_⟩
  · induction m with
    | nil => simp [Memory.insert]
    | cons y t ih =>
      obtain ⟨a, b⟩ := y
      obtain ⟨⟨hy, ht⟩, hd⟩ := List.pairwise_cons.1 w.1, w.2
      rw [Memory.insert]
      split
      · next h => subst h; exact List.pairwise_cons.2 ⟨hy, ht⟩
      · split
        · next h =>
          refine List.pairwise_cons.2 ⟨fun c hc => ?_, w.1⟩
          rcases List.mem_cons.1 hc with rfl | hc
          · exact h
          · exact Nat.lt_trans h (hy c hc)
        · next hne hlt =>
          refine List.pairwise_cons.2 ⟨fun c hc => ?_, ih ⟨ht, fun c hc => hd c (List.mem_cons_of_mem _ hc)⟩⟩
          rcases Memory.mem_insert k x t c hc with rfl | hc
          · simp only; omega
          · exact hy c hc
  · rcases Memory.mem_insert k x m c hc with rfl | hc
    · exact hx
    · exact w.2 c hc

/-- Writing a byte keeps the canonical form. -/
theorem Memory.wf_set {k : Nat} {x : Byte} {m : List Host.Cell} (w : Memory.wf m = true) : Memory.wf (Memory.set k x m) = true := by
  unfold Memory.set; split
  · exact Memory.wf_sublist (Memory.erase_sublist k m) w
  · next h => exact Memory.wf_insert h w

/-! ### Reads and writes of a state's memory -/

theorem memKey_inj {d e a b : Nat} : memKey d a = memKey e b ↔ d = e ∧ a % 2 ^ 32 = b % 2 ^ 32 := by
  unfold memKey; omega

theorem State.byte_setByte (s : State) (d a e b : Nat) (x : Byte) :
    (s.setByte d a x).byte e b = if e = d ∧ b % 2 ^ 32 = a % 2 ^ 32 then x else s.byte e b := by
  unfold State.byte State.setByte; simp only [Memory.find_set, memKey_inj]

theorem State.setByte_wf {s : State} (d a : Nat) (x : Byte) (h : Memory.wf s.mem = true) : Memory.wf (s.setByte d a x).mem = true :=
  Memory.wf_set h

theorem State.store_wf {s : State} (d a n v : Nat) (h : Memory.wf s.mem = true) : Memory.wf (s.store d a n v).mem = true := by
  induction n generalizing s a v with
  | zero => exact h
  | succ n ih => exact ih _ _ (State.setByte_wf d a _ h)

theorem State.storeBytes_wf {s : State} (d a : Nat) (l : List Nat) (h : Memory.wf s.mem = true) : Memory.wf (s.storeBytes d a l).mem = true := by
  induction l generalizing s a with
  | nil => exact h
  | cons b t ih => exact ih _ (State.setByte_wf d a _ h)

/-- What a store changes: its bytes take the value's, all others stay. -/
theorem State.byte_store (s : State) (d a n v e b : Nat) (hn : a + n ≤ 2 ^ 32) (hb : b < 2 ^ 32) :
    (s.store d a n v).byte e b = if e = d ∧ a ≤ b ∧ b < a + n then BitVec.ofNat 8 (v / 256 ^ (b - a)) else s.byte e b := by
  induction n generalizing s a v with
  | zero => rw [State.store, if_neg (by omega)]
  | succ n ih =>
    rw [State.store, ih _ _ _ (by omega), State.byte_setByte]
    by_cases he : e = d
    · subst he
      rcases Nat.lt_trichotomy b a with h | h | h
      · rw [if_neg (by omega), if_neg (by omega), if_neg (by omega)]
      · subst h; rw [if_neg (by omega), if_pos (by omega), if_pos (by omega)]; simp
      · by_cases h2 : b < a + (n + 1)
        · rw [if_pos (by omega), if_pos (by omega), Nat.div_div_eq_div_mul, ← Nat.pow_succ', show (b - (a + 1)).succ = b - a by omega]
        · rw [if_neg (by omega), if_neg (by omega), if_neg (by omega)]
    · simp [he]

/-- What a store of a byte list changes. -/
theorem State.byte_storeBytes (s : State) (d a : Nat) (l : List Nat) (e b : Nat) (hn : a + l.length ≤ 2 ^ 32) (hb : b < 2 ^ 32) :
    (s.storeBytes d a l).byte e b = if e = d ∧ a ≤ b ∧ b < a + l.length then BitVec.ofNat 8 (l.getD (b - a) 0) else s.byte e b := by
  induction l generalizing s a with
  | nil => rw [State.storeBytes, if_neg (by simp)]
  | cons x t ih =>
    simp only [List.length_cons] at hn ⊢
    rw [State.storeBytes, ih _ _ (by omega), State.byte_setByte]
    by_cases he : e = d
    · subst he
      rcases Nat.lt_trichotomy b a with h | h | h
      · rw [if_neg (by omega), if_neg (by omega), if_neg (by omega)]
      · subst h; rw [if_neg (by omega), if_pos (by omega), if_pos (by omega)]; simp
      · by_cases h2 : b < a + (t.length + 1)
        · rw [if_pos (by omega), if_pos (by omega), show b - a = (b - (a + 1)) + 1 by omega, List.getD_cons_succ]
        · rw [if_neg (by omega), if_neg (by omega), if_neg (by omega)]
    · simp [he]

/-- Reads depend on the bytes alone. -/
theorem State.load_congr {s t : State} (d a n : Nat) (h : ∀ i, i < n → t.byte d (a + i) = s.byte d (a + i)) : t.load d a n = s.load d a n := by
  induction n generalizing a with
  | zero => rfl
  | succ n ih =>
    rw [State.load, State.load, ih (a + 1) (fun i hi => by have := h (i + 1) (by omega); rwa [show a + (i + 1) = a + 1 + i by omega] at this)]
    rw [show t.byte d a = s.byte d a from h 0 (by omega)]

theorem State.loadBytes_congr {s t : State} (d a n : Nat) (h : ∀ i, i < n → t.byte d (a + i) = s.byte d (a + i)) :
    t.loadBytes d a n = s.loadBytes d a n := by
  induction n generalizing a with
  | zero => rfl
  | succ n ih =>
    rw [State.loadBytes, State.loadBytes, ih (a + 1) (fun i hi => by have := h (i + 1) (by omega); rwa [show a + (i + 1) = a + 1 + i by omega] at this)]
    rw [show t.byte d a = s.byte d a from h 0 (by omega)]

/-- A load after a store of the same place gives the value cut to its bytes. -/
theorem State.load_store (s : State) (d a n v : Nat) (hn : a + n ≤ 2 ^ 32) : (s.store d a n v).load d a n = v % 256 ^ n := by
  induction n generalizing s a v with
  | zero => simp [State.load, Nat.mod_one]
  | succ n ih =>
    rw [State.load, State.byte_store s d a (n + 1) v d a hn (by omega), if_pos (by omega), State.store, ih _ _ _ (by omega)]
    rw [Nat.sub_self, Nat.pow_zero, Nat.div_one, BitVec.toNat_ofNat, show 256 ^ (n + 1) = 256 * 256 ^ n from Nat.pow_succ', Nat.mod_mul]

/-- A read back of a byte list that was stored. -/
theorem State.loadBytes_storeBytes (s : State) (d a : Nat) (l : List Nat) (hn : a + l.length ≤ 2 ^ 32) (hl : ∀ x, x ∈ l → x < 256) :
    (s.storeBytes d a l).loadBytes d a l.length = l := by
  induction l generalizing s a with
  | nil => rfl
  | cons x t ih =>
    simp only [List.length_cons] at hn ⊢
    rw [State.loadBytes, State.byte_storeBytes s d a (x :: t) d a (by simpa using hn) (by omega), if_pos (by simp), State.storeBytes,
      ih _ _ (by omega) (fun y hy => hl y (List.mem_cons_of_mem _ hy))]
    simp [Nat.mod_eq_of_lt (hl x (List.mem_cons_self ..))]

end Sys2Proof.Machine
end

