-- ==== Sys2Proof/Laws/Canonical.lean ====
section
/-! SUPPORT. The canonical forms of cells and memory, and that the shared operations keep them. -/

namespace Sys2Proof.Machine

theorem Fld.ctorIdx_inj {a b : Fld} (h : a.ctorIdx = b.ctorIdx) : a = b := by
  rw [← Fld.ofNat_ctorIdx a, ← Fld.ofNat_ctorIdx b, h]

theorem Loc.before_iff (a b : Loc) : a.before b = true ↔
    a.fld.ctorIdx < b.fld.ctorIdx ∨ (a.fld.ctorIdx = b.fld.ctorIdx ∧ (a.die < b.die ∨ (a.die = b.die ∧ a.inst < b.inst))) := by
  unfold Loc.before
  split
  · simp [*]
  · split
    · simp only [Bool.false_eq_true, false_iff]; omega
    · split
      · simp only [true_iff]; omega
      · split
        · simp only [Bool.false_eq_true, false_iff]; omega
        · simp only [decide_eq_true_eq]; omega

theorem Loc.before_trans {a b c : Loc} (h : a.before b = true) (k : b.before c = true) : a.before c = true := by
  rw [Loc.before_iff] at *; omega

/-- Of two different cells one stands before the other. -/
theorem Loc.before_total {a b : Loc} (h : a ≠ b) (k : ¬ a.before b = true) : b.before a = true := by
  rw [Loc.before_iff] at *
  by_contra q
  apply h
  obtain ⟨f, d, i⟩ := a
  obtain ⟨g, e, j⟩ := b
  simp only at q k
  have hf : f = g := Fld.ctorIdx_inj (by omega)
  subst hf
  simp only [Loc.mk.injEq, true_and]
  omega

/-- An entry of the cell list is within its width and not the reset value. -/
def Cells.fits (c : Loc × Nat) : Bool := decide (c.2 < 2 ^ c.1.fld.width) && c.2 != c.1.fld.reset c.1.die c.1.inst

/-- The canonical form as a rising list of fitting entries. -/
theorem Cells.wf_iff (l : List (Loc × Nat)) :
    Cells.wf l = true ↔ l.Pairwise (fun x y => x.1.before y.1 = true) ∧ ∀ c, c ∈ l → Cells.fits c = true := by
  induction l with
  | nil => simp [Cells.wf]
  | cons x t ih =>
    cases t with
    | nil => simp [Cells.wf, Cells.fits]
    | cons y t =>
      rw [Cells.wf]
      have hf : (decide (x.2 < 2 ^ x.1.fld.width) && x.2 != x.1.fld.reset x.1.die x.1.inst) = Cells.fits x := rfl
      rw [hf]
      simp only [Bool.and_eq_true, ih, List.pairwise_cons, List.mem_cons, forall_eq_or_imp]
      constructor
      · rintro ⟨⟨hx, hlt⟩, ⟨hy, ht⟩, hd, htd⟩
        exact ⟨⟨⟨hlt, fun c hc => Loc.before_trans hlt (hy c hc)⟩, hy, ht⟩, hx, hd, htd⟩
      · rintro ⟨⟨⟨hlt, -⟩, hy, ht⟩, hx, hd, htd⟩
        exact ⟨⟨hx, hlt⟩, ⟨hy, ht⟩, hd, htd⟩

theorem Cells.wf_sublist {l m : List (Loc × Nat)} (h : m.Sublist l) (w : Cells.wf l = true) : Cells.wf m = true := by
  rw [Cells.wf_iff] at *
  exact ⟨w.1.sublist h, fun c hc => w.2 c (h.subset hc)⟩

theorem Cells.wf_filter (p : Loc × Nat → Bool) {l : List (Loc × Nat)} (w : Cells.wf l = true) : Cells.wf (l.filter p) = true :=
  Cells.wf_sublist List.filter_sublist w

theorem Cells.erase_sublist (k : Loc) (l : List (Loc × Nat)) : (Cells.erase k l).Sublist l := by
  induction l with
  | nil => exact .slnil
  | cons x t ih =>
    rw [Cells.erase]; split
    · exact ih.cons _
    · exact ih.cons_cons _

theorem Cells.mem_insert (k : Loc) (x : Nat) (l : List (Loc × Nat)) (c : Loc × Nat) (h : c ∈ Cells.insert k x l) : c = (k, x) ∨ c ∈ l := by
  induction l with
  | nil => exact .inl (by simpa [Cells.insert] using h)
  | cons y t ih =>
    rw [Cells.insert] at h
    split at h
    · rcases List.mem_cons.1 h with h | h
      · exact .inl h
      · exact .inr (List.mem_cons_of_mem _ h)
    · split at h
      · rcases List.mem_cons.1 h with h | h
        · exact .inl h
        · exact .inr h
      · rcases List.mem_cons.1 h with h | h
        · exact .inr (by simp [h])
        · exact (ih h).imp id (List.mem_cons_of_mem _)

theorem Cells.wf_insert {k : Loc} {x : Nat} {l : List (Loc × Nat)} (hx : Cells.fits (k, x) = true) (w : Cells.wf l = true) :
    Cells.wf (Cells.insert k x l) = true := by
  rw [Cells.wf_iff] at *
  refine ⟨?_, fun c hc => ?_⟩
  · induction l with
    | nil => simp [Cells.insert]
    | cons y t ih =>
      obtain ⟨a, b⟩ := y
      obtain ⟨⟨hy, ht⟩, hd⟩ := List.pairwise_cons.1 w.1, w.2
      rw [Cells.insert]
      split
      · next h => subst h; exact List.pairwise_cons.2 ⟨hy, ht⟩
      · split
        · next h =>
          refine List.pairwise_cons.2 ⟨fun c hc => ?_, w.1⟩
          rcases List.mem_cons.1 hc with rfl | hc
          · exact h
          · exact Loc.before_trans h (hy c hc)
        · next hne hlt =>
          refine List.pairwise_cons.2 ⟨fun c hc => ?_, ih ⟨ht, fun c hc => hd c (List.mem_cons_of_mem _ hc)⟩⟩
          rcases Cells.mem_insert k x t c hc with rfl | hc
          · exact Loc.before_total (Ne.symm hne) hlt
          · exact hy c hc
  · rcases Cells.mem_insert k x l c hc with rfl | hc
    · exact hx
    · exact w.2 c hc

/-! ### The shared operations -/

theorem State.canonical_iff (s : State) : s.canonical = true ↔ Cells.wf s.cells = true ∧ Memory.wf s.mem = true := by
  unfold State.canonical; simp

/-- A state that shares cells and memory with a canonical one is canonical. -/
theorem State.canonical_of {s t : State} (hc : t.cells = s.cells) (hm : t.mem = s.mem) (h : s.canonical = true) : t.canonical = true := by
  rw [State.canonical_iff] at *; rw [hc, hm]; exact h

theorem State.put_canonical {s : State} (f : Fld) (d i v : Nat) (h : s.canonical = true) : (s.put f d i v).canonical = true := by
  rw [State.canonical_iff] at *
  unfold State.put; split
  · exact ⟨Cells.wf_sublist (Cells.erase_sublist _ _) h.1, h.2⟩
  · next hv =>
    refine ⟨Cells.wf_insert ?_ h.1, h.2⟩
    simp [Cells.fits, hv, Nat.mod_lt _ (Nat.two_pow_pos f.width)]

theorem State.inc_canonical {s : State} (f : Fld) (d i n : Nat) (h : s.canonical = true) : (s.inc f d i n).canonical = true :=
  State.put_canonical _ _ _ _ h

theorem State.incSat_canonical {s : State} (f : Fld) (d i n : Nat) (h : s.canonical = true) : (s.incSat f d i n).canonical = true :=
  State.put_canonical _ _ _ _ h

theorem State.dec_canonical {s : State} (f : Fld) (d i n : Nat) (h : s.canonical = true) : (s.dec f d i n).canonical = true :=
  State.put_canonical _ _ _ _ h

theorem State.raiseTo_canonical {s : State} (f : Fld) (d i v : Nat) (h : s.canonical = true) : (s.raiseTo f d i v).canonical = true :=
  State.put_canonical _ _ _ _ h

theorem State.when_canonical {s : State} {c : Prop} [Decidable c] {f : State → State} (hf : ∀ t : State, t.canonical = true → (f t).canonical = true)
    (h : s.canonical = true) : (s.when c f).canonical = true := by
  unfold State.when; split
  · exact hf s h
  · exact h

theorem State.each_canonical {α : Type} {f : α → State → State} (hf : ∀ a (t : State), t.canonical = true → (f a t).canonical = true) (l : List α)
    {s : State} (h : s.canonical = true) : (s.each l f).canonical = true := by
  unfold State.each
  induction l generalizing s with
  | nil => exact h
  | cons a t ih => exact ih (hf a s h)

theorem State.putAll_canonical {s : State} (f : Fld) (d n v : Nat) (h : s.canonical = true) : (s.putAll f d n v).canonical = true :=
  State.each_canonical (fun i _ ht => State.put_canonical f d i v ht) _ h

theorem State.setByte_canonical {s : State} (d a : Nat) (x : Byte) (h : s.canonical = true) : (s.setByte d a x).canonical = true := by
  rw [State.canonical_iff] at *; exact ⟨h.1, Memory.wf_set h.2⟩

theorem State.store_canonical {s : State} (d a n v : Nat) (h : s.canonical = true) : (s.store d a n v).canonical = true := by
  induction n generalizing s a v with
  | zero => exact h
  | succ n ih => exact ih _ _ (State.setByte_canonical d a _ h)

theorem State.storeBytes_canonical {s : State} (d a : Nat) (l : List Nat) (h : s.canonical = true) : (s.storeBytes d a l).canonical = true := by
  induction l generalizing s a with
  | nil => exact h
  | cons b t ih => exact ih _ (State.setByte_canonical d a _ h)

theorem State.send_canonical {s : State} (m : Msg) (h : s.canonical = true) : (s.send m).canonical = true := State.canonical_of rfl rfl h
theorem State.arrived_canonical {s : State} (m : Msg) (h : s.canonical = true) : (s.arrived m).canonical = true := State.canonical_of rfl rfl h
theorem State.drawn_canonical {s : State} (h : s.canonical = true) : s.drawn.canonical = true := State.canonical_of rfl rfl h
theorem State.reply_canonical {s : State} (v : Nat) (e : Bool) (h : s.canonical = true) : (s.reply v e).canonical = true := State.canonical_of rfl rfl h

theorem State.zeroKeys_canonical {s : State} (lo n : Nat) (h : s.canonical = true) : (s.zeroKeys lo n).canonical = true := by
  rw [State.canonical_iff] at *; exact ⟨h.1, Memory.wf_filter _ h.2⟩

theorem State.recordFault_canonical {s : State} (d x : Nat) (r : Raise) (b : Bool) (t : Nat) (h : s.canonical = true) :
    (s.recordFault d x r b t).canonical = true := by
  unfold State.recordFault
  repeat' apply State.put_canonical
  exact h

theorem State.noteRaises_canonical {s : State} (d x : Nat) (r : Raise) (b : Bool) (t : Nat) (h : s.canonical = true) :
    (s.noteRaises d x r b t).canonical = true := by
  unfold State.noteRaises
  repeat' apply State.put_canonical
  exact h

theorem State.enterL1_canonical {s : State} (d x : Nat) (h : s.canonical = true) : (s.enterL1 d x).canonical = true := by
  unfold State.enterL1
  repeat' apply State.put_canonical
  exact h

/-- Raising faults keeps the forms. -/
theorem State.raisesAt_canonical {s : State} (stamp d b : Nat) (l : List Raise) (h : s.canonical = true) :
    (s.raisesAt stamp d b l).canonical = true := by
  unfold State.raisesAt
  split
  · exact h
  · apply State.when_canonical (fun t ht => State.enterL1_canonical _ _ ht)
    apply State.when_canonical (fun t ht => State.put_canonical _ _ _ _ ht)
    apply State.when_canonical (fun t ht => State.recordFault_canonical _ _ _ _ _ ht)
    exact State.noteRaises_canonical _ _ _ _ _ (State.incSat_canonical _ _ _ _ (State.put_canonical _ _ _ _ h))

theorem State.fault_canonical {s : State} (n : FaultName) (d b i : Nat) (h : s.canonical = true) : (s.fault n d b i).canonical = true :=
  State.raisesAt_canonical _ _ _ _ h

theorem State.condMark_canonical {s : State} (d b : Nat) (r : Raise) (h : s.canonical = true) : (s.condMark d b r).canonical = true := by
  unfold State.condMark
  apply State.put_canonical
  split
  · exact h
  · exact State.canonical_of rfl rfl h

theorem State.condBegin_canonical {s : State} (n : FaultName) (d b i : Nat) (h : s.canonical = true) : (s.condBegin n d b i).canonical = true := by
  unfold State.condBegin; split
  · exact State.condMark_canonical _ _ _ h
  · exact State.fault_canonical _ _ _ _ (State.condMark_canonical _ _ _ h)

theorem State.condEnd_canonical {s : State} (n : FaultName) (d b i : Nat) (h : s.canonical = true) : (s.condEnd n d b i).canonical = true := by
  unfold State.condEnd
  have h1 : ({ s with conds := s.conds.erase ⟨d, n.set b, n.code, i⟩ } : State).canonical = true := State.canonical_of rfl rfl h
  simp only
  split
  · exact h1
  · exact State.when_canonical (fun t ht => State.put_canonical _ _ _ _ ht) (State.put_canonical _ _ _ _ h1)

theorem State.condSet_canonical {s : State} (n : FaultName) (d b i : Nat) (c : Bool) (h : s.canonical = true) : (s.condSet n d b i c).canonical = true := by
  unfold State.condSet; split
  · exact State.condBegin_canonical _ _ _ _ h
  · exact State.condEnd_canonical _ _ _ _ h

end Sys2Proof.Machine
end

