-- ==== Sys2Proof/Laws/Fields.lean ====
section
/-! SUPPORT. The width of every cell, one lemma each, so that no proof unfolds `Fld.width`. -/

namespace Sys2Proof.Machine

@[simp] theorem width_TB_SYSCNT : Fld.width .TB_SYSCNT = 64 := rfl
@[simp] theorem width_TB_DOMCNT : Fld.width .TB_DOMCNT = 64 := rfl
@[simp] theorem width_TB_GEN : Fld.width .TB_GEN = 32 := rfl
@[simp] theorem width_TB_STATUS_SYNC : Fld.width .TB_STATUS_SYNC = 1 := rfl
@[simp] theorem width_TB_STATUS_RUN : Fld.width .TB_STATUS_RUN = 3 := rfl
@[simp] theorem width_EPOCH_CFG_EN : Fld.width .EPOCH_CFG_EN = 1 := rfl
@[simp] theorem width_EPOCH_CFG_BSIZE : Fld.width .EPOCH_CFG_BSIZE = 2 := rfl
@[simp] theorem width_EPOCH_STATUS_RUN : Fld.width .EPOCH_STATUS_RUN = 1 := rfl
@[simp] theorem width_EPOCH_STATUS_DRAINED : Fld.width .EPOCH_STATUS_DRAINED = 1 := rfl
@[simp] theorem width_EPOCH_STATUS_DIE_DRAINED : Fld.width .EPOCH_STATUS_DIE_DRAINED = 8 := rfl
@[simp] theorem width_EPOCH_STATUS_LATE : Fld.width .EPOCH_STATUS_LATE = 1 := rfl
@[simp] theorem width_EPOCH_STATUS_OVERRUN : Fld.width .EPOCH_STATUS_OVERRUN = 1 := rfl
@[simp] theorem width_EPOCH_STATUS_SKIPPED : Fld.width .EPOCH_STATUS_SKIPPED = 1 := rfl
@[simp] theorem width_EPOCH_CUR : Fld.width .EPOCH_CUR = 64 := rfl
@[simp] theorem width_EPOCH_LATE_CNT : Fld.width .EPOCH_LATE_CNT = 32 := rfl
@[simp] theorem width_EPOCH_SKIP_CNT : Fld.width .EPOCH_SKIP_CNT = 32 := rfl
@[simp] theorem width_EPOCH_DRAIN_LAST : Fld.width .EPOCH_DRAIN_LAST = 32 := rfl
@[simp] theorem width_EPOCH_DRAIN_MAX : Fld.width .EPOCH_DRAIN_MAX = 32 := rfl
@[simp] theorem width_EPOCH_COMMIT_AT : Fld.width .EPOCH_COMMIT_AT = 64 := rfl
@[simp] theorem width_EPOCH_SNAP_AT : Fld.width .EPOCH_SNAP_AT = 64 := rfl
@[simp] theorem width_EPOCH_CTL_COMMIT_ARM : Fld.width .EPOCH_CTL_COMMIT_ARM = 1 := rfl
@[simp] theorem width_EPOCH_CTL_COMMIT_CANCEL : Fld.width .EPOCH_CTL_COMMIT_CANCEL = 1 := rfl
@[simp] theorem width_EPOCH_CTL_SNAP_ARM : Fld.width .EPOCH_CTL_SNAP_ARM = 1 := rfl
@[simp] theorem width_EPOCH_CTL_SNAP_CANCEL : Fld.width .EPOCH_CTL_SNAP_CANCEL = 1 := rfl
@[simp] theorem width_EPOCH_CSTAT_COMMIT_PEND : Fld.width .EPOCH_CSTAT_COMMIT_PEND = 1 := rfl
@[simp] theorem width_EPOCH_CSTAT_COMMIT_DONE : Fld.width .EPOCH_CSTAT_COMMIT_DONE = 1 := rfl
@[simp] theorem width_EPOCH_CSTAT_BADALIGN : Fld.width .EPOCH_CSTAT_BADALIGN = 1 := rfl
@[simp] theorem width_EPOCH_CSTAT_TOOLATE : Fld.width .EPOCH_CSTAT_TOOLATE = 1 := rfl
@[simp] theorem width_EPOCH_CSTAT_REFUSED : Fld.width .EPOCH_CSTAT_REFUSED = 1 := rfl
@[simp] theorem width_EPOCH_CSTAT_SPLIT : Fld.width .EPOCH_CSTAT_SPLIT = 1 := rfl
@[simp] theorem width_EPOCH_CSTAT_SNAP_PEND : Fld.width .EPOCH_CSTAT_SNAP_PEND = 1 := rfl
@[simp] theorem width_EPOCH_CSTAT_SNAP_DONE : Fld.width .EPOCH_CSTAT_SNAP_DONE = 1 := rfl
@[simp] theorem width_EPOCH_CSTAT_SNAP_BAD : Fld.width .EPOCH_CSTAT_SNAP_BAD = 1 := rfl
@[simp] theorem width_EPOCH_SNAP_SRC : Fld.width .EPOCH_SNAP_SRC = 64 := rfl
@[simp] theorem width_NEWT_CFG_LOOPSEL : Fld.width .NEWT_CFG_LOOPSEL = 1 := rfl
@[simp] theorem width_NEWT_CFG_DBGEN : Fld.width .NEWT_CFG_DBGEN = 1 := rfl
@[simp] theorem width_NEWT_CTL_PARK_REQ : Fld.width .NEWT_CTL_PARK_REQ = 1 := rfl
@[simp] theorem width_NEWT_CTL_UNPARK : Fld.width .NEWT_CTL_UNPARK = 1 := rfl
@[simp] theorem width_NEWT_CTL_HALT_REQ : Fld.width .NEWT_CTL_HALT_REQ = 1 := rfl
@[simp] theorem width_NEWT_CTL_RESUME : Fld.width .NEWT_CTL_RESUME = 1 := rfl
@[simp] theorem width_NEWT_CTL_STEP : Fld.width .NEWT_CTL_STEP = 1 := rfl
@[simp] theorem width_NEWT_CTL_ABORT : Fld.width .NEWT_CTL_ABORT = 1 := rfl
@[simp] theorem width_NEWT_CTL_CLR_CNT : Fld.width .NEWT_CTL_CLR_CNT = 1 := rfl
@[simp] theorem width_NEWT_STATUS_STATE : Fld.width .NEWT_STATUS_STATE = 3 := rfl
@[simp] theorem width_NEWT_STATUS_CFGLOCK : Fld.width .NEWT_STATUS_CFGLOCK = 1 := rfl
@[simp] theorem width_NEWT_STATUS_INREPT : Fld.width .NEWT_STATUS_INREPT = 1 := rfl
@[simp] theorem width_NEWT_STATUS_HALT_PEND : Fld.width .NEWT_STATUS_HALT_PEND = 1 := rfl
@[simp] theorem width_NEWT_STATUS_PARK_PEND : Fld.width .NEWT_STATUS_PARK_PEND = 1 := rfl
@[simp] theorem width_NEWT_STATUS_ABORTED : Fld.width .NEWT_STATUS_ABORTED = 1 := rfl
@[simp] theorem width_NEWT_STATUS_MISALIGN : Fld.width .NEWT_STATUS_MISALIGN = 1 := rfl
@[simp] theorem width_NEWT_STATUS_HALT_IGN : Fld.width .NEWT_STATUS_HALT_IGN = 1 := rfl
@[simp] theorem width_NEWT_STATUS_LOOPDEPTH : Fld.width .NEWT_STATUS_LOOPDEPTH = 3 := rfl
@[simp] theorem width_NEWT_TASK_SLOT : Fld.width .NEWT_TASK_SLOT = 8 := rfl
@[simp] theorem width_NEWT_TASK_DOMAIN : Fld.width .NEWT_TASK_DOMAIN = 2 := rfl
@[simp] theorem width_NEWT_TASK_COPY : Fld.width .NEWT_TASK_COPY = 1 := rfl
@[simp] theorem width_NEWT_TASK_NEWT : Fld.width .NEWT_TASK_NEWT = 5 := rfl
@[simp] theorem width_NEWT_TASK_FLOW : Fld.width .NEWT_TASK_FLOW = 10 := rfl
@[simp] theorem width_NEWT_TASK_PRIO : Fld.width .NEWT_TASK_PRIO = 5 := rfl
@[simp] theorem width_NEWT_PC : Fld.width .NEWT_PC = 13 := rfl
@[simp] theorem width_NEWT_FPFLAGS_V : Fld.width .NEWT_FPFLAGS_V = 8 := rfl
@[simp] theorem width_NEWT_FPFLAGS_O : Fld.width .NEWT_FPFLAGS_O = 8 := rfl
@[simp] theorem width_NEWT_FPFLAGS_U : Fld.width .NEWT_FPFLAGS_U = 8 := rfl
@[simp] theorem width_NEWT_BKPT_EN : Fld.width .NEWT_BKPT_EN = 1 := rfl
@[simp] theorem width_NEWT_BKPT_ADDR : Fld.width .NEWT_BKPT_ADDR = 13 := rfl
@[simp] theorem width_NEWT_BUSY : Fld.width .NEWT_BUSY = 64 := rfl
@[simp] theorem width_NEWT_TASKS : Fld.width .NEWT_TASKS = 32 := rfl
@[simp] theorem width_NEWT_STALL_SB : Fld.width .NEWT_STALL_SB = 32 := rfl
@[simp] theorem width_NEWT_STALL_MEM : Fld.width .NEWT_STALL_MEM = 32 := rfl
@[simp] theorem width_NEWT_STALL_FAB : Fld.width .NEWT_STALL_FAB = 32 := rfl
@[simp] theorem width_NEWT_STALL_DONE : Fld.width .NEWT_STALL_DONE = 32 := rfl
@[simp] theorem width_NEWT_ECC_CE_CNT : Fld.width .NEWT_ECC_CE_CNT = 16 := rfl
@[simp] theorem width_NEWT_ECC_DMEM_UE : Fld.width .NEWT_ECC_DMEM_UE = 1 := rfl
@[simp] theorem width_NEWT_ECC_PMEM_UE : Fld.width .NEWT_ECC_PMEM_UE = 1 := rfl
@[simp] theorem width_NEWT_ECC_CE_CLR : Fld.width .NEWT_ECC_CE_CLR = 1 := rfl
@[simp] theorem width_NEWT_BADADDR : Fld.width .NEWT_BADADDR = 32 := rfl
@[simp] theorem width_NEWT_RST : Fld.width .NEWT_RST = 1 := rfl
@[simp] theorem width_DBG_V : Fld.width .DBG_V = 32 := rfl
@[simp] theorem width_DBG_ACC : Fld.width .DBG_ACC = 64 := rfl
@[simp] theorem width_DBG_S : Fld.width .DBG_S = 32 := rfl
@[simp] theorem width_DBG_A : Fld.width .DBG_A = 32 := rfl
@[simp] theorem width_DBG_B : Fld.width .DBG_B = 32 := rfl
@[simp] theorem width_DBG_L : Fld.width .DBG_L = 32 := rfl
@[simp] theorem width_DBG_M : Fld.width .DBG_M = 32 := rfl
@[simp] theorem width_DBG_P : Fld.width .DBG_P = 8 := rfl
@[simp] theorem width_TONGUE_POST_FLAGS : Fld.width .TONGUE_POST_FLAGS = 31 := rfl
@[simp] theorem width_TONGUE_POST_EPOCH : Fld.width .TONGUE_POST_EPOCH = 1 := rfl
@[simp] theorem width_TONGUE_CFG_AFFWIN : Fld.width .TONGUE_CFG_AFFWIN = 16 := rfl
@[simp] theorem width_TONGUE_CFG_CLR_CNT : Fld.width .TONGUE_CFG_CLR_CNT = 1 := rfl
@[simp] theorem width_TONGUE_STATUS_QUEUED : Fld.width .TONGUE_STATUS_QUEUED = 9 := rfl
@[simp] theorem width_TONGUE_STATUS_INSVC : Fld.width .TONGUE_STATUS_INSVC = 4 := rfl
@[simp] theorem width_TONGUE_STATUS_POSTDIS_CNT : Fld.width .TONGUE_STATUS_POSTDIS_CNT = 16 := rfl
@[simp] theorem width_CROAK_BASE : Fld.width .CROAK_BASE = 7 := rfl
@[simp] theorem width_CROAK_CFG_EN : Fld.width .CROAK_CFG_EN = 1 := rfl
@[simp] theorem width_CROAK_CFG_SKIPLOG : Fld.width .CROAK_CFG_SKIPLOG = 1 := rfl
@[simp] theorem width_CROAK_CFG_FREEZE_LATE : Fld.width .CROAK_CFG_FREEZE_LATE = 1 := rfl
@[simp] theorem width_CROAK_CFG_FROZEN : Fld.width .CROAK_CFG_FROZEN = 1 := rfl
@[simp] theorem width_CROAK_CFG_FREEZE : Fld.width .CROAK_CFG_FREEZE = 1 := rfl
@[simp] theorem width_CROAK_WPTR : Fld.width .CROAK_WPTR = 12 := rfl
@[simp] theorem width_CROAK_SEQ : Fld.width .CROAK_SEQ = 32 := rfl
@[simp] theorem width_CROAK_DROP : Fld.width .CROAK_DROP = 32 := rfl
@[simp] theorem width_NAFF_HIT : Fld.width .NAFF_HIT = 32 := rfl
@[simp] theorem width_NAFF_MISS : Fld.width .NAFF_MISS = 32 := rfl
@[simp] theorem width_Q_DEPTH : Fld.width .Q_DEPTH = 9 := rfl
@[simp] theorem width_Q_HWM : Fld.width .Q_HWM = 9 := rfl
@[simp] theorem width_Q_WAIT_MAX : Fld.width .Q_WAIT_MAX = 32 := rfl
@[simp] theorem width_Q_WAIT_SUM : Fld.width .Q_WAIT_SUM = 64 := rfl
@[simp] theorem width_Q_DISP : Fld.width .Q_DISP = 32 := rfl
@[simp] theorem width_TDOM_STATUS_IDLE : Fld.width .TDOM_STATUS_IDLE = 1 := rfl
@[simp] theorem width_TDOM_STATUS_QUEUED : Fld.width .TDOM_STATUS_QUEUED = 9 := rfl
@[simp] theorem width_TDOM_STATUS_INSVC : Fld.width .TDOM_STATUS_INSVC = 4 := rfl
@[simp] theorem width_DOM_STATUS_MLOCK : Fld.width .DOM_STATUS_MLOCK = 1 := rfl
@[simp] theorem width_DOM_STATUS_BADRATE : Fld.width .DOM_STATUS_BADRATE = 1 := rfl
@[simp] theorem width_DOM_STATUS_RINGMIS : Fld.width .DOM_STATUS_RINGMIS = 1 := rfl
@[simp] theorem width_DOM_STATUS_AHEAD : Fld.width .DOM_STATUS_AHEAD = 1 := rfl
@[simp] theorem width_DOM_STATUS_RINGERR : Fld.width .DOM_STATUS_RINGERR = 1 := rfl
@[simp] theorem width_DOM_DRAIN_LAST : Fld.width .DOM_DRAIN_LAST = 32 := rfl
@[simp] theorem width_DOM_DRAIN_MAX : Fld.width .DOM_DRAIN_MAX = 32 := rfl
@[simp] theorem width_DOM_LATE : Fld.width .DOM_LATE = 32 := rfl
@[simp] theorem width_DOM_MERGED : Fld.width .DOM_MERGED = 32 := rfl
@[simp] theorem width_SLOT_CTRL_EN : Fld.width .SLOT_CTRL_EN = 1 := rfl
@[simp] theorem width_SLOT_CTRL_MODE : Fld.width .SLOT_CTRL_MODE = 1 := rfl
@[simp] theorem width_SLOT_CTRL_PRIO : Fld.width .SLOT_CTRL_PRIO = 5 := rfl
@[simp] theorem width_SLOT_CTRL_DOMAIN : Fld.width .SLOT_CTRL_DOMAIN = 2 := rfl
@[simp] theorem width_SLOT_CTRL_FLOW : Fld.width .SLOT_CTRL_FLOW = 10 := rfl
@[simp] theorem width_SLOT_MASK : Fld.width .SLOT_MASK = 32 := rfl
@[simp] theorem width_SLOT_FLAGS : Fld.width .SLOT_FLAGS = 32 := rfl
@[simp] theorem width_SLOT_PEND : Fld.width .SLOT_PEND = 32 := rfl
@[simp] theorem width_SLOT_ENTRY : Fld.width .SLOT_ENTRY = 13 := rfl
@[simp] theorem width_SLOT_ARG : Fld.width .SLOT_ARG = 32 := rfl
@[simp] theorem width_SLOT_STATE_STATE : Fld.width .SLOT_STATE_STATE = 2 := rfl
@[simp] theorem width_SLOT_STATE_AFFV : Fld.width .SLOT_STATE_AFFV = 1 := rfl
@[simp] theorem width_SLOT_STATE_LASTNEWT : Fld.width .SLOT_STATE_LASTNEWT = 3 := rfl
@[simp] theorem width_SLOT_CLR_FLAGS : Fld.width .SLOT_CLR_FLAGS = 1 := rfl
@[simp] theorem width_SLOT_CLR_PEND : Fld.width .SLOT_CLR_PEND = 1 := rfl
@[simp] theorem width_SLOT_CLR_AFF : Fld.width .SLOT_CLR_AFF = 1 := rfl
@[simp] theorem width_TONGUE_FLOWMAP : Fld.width .TONGUE_FLOWMAP = 32 := rfl
@[simp] theorem width_CHORUS_CFG_EN : Fld.width .CHORUS_CFG_EN = 1 := rfl
@[simp] theorem width_CHORUS_CFG_XFLEN : Fld.width .CHORUS_CFG_XFLEN = 5 := rfl
@[simp] theorem width_CHORUS_STATUS_BUSY : Fld.width .CHORUS_STATUS_BUSY = 1 := rfl
@[simp] theorem width_CHORUS_STATUS_GROUP : Fld.width .CHORUS_STATUS_GROUP = 8 := rfl
@[simp] theorem width_CHORUS_XP_BASE : Fld.width .CHORUS_XP_BASE = 9 := rfl
@[simp] theorem width_CHORUS_XP_CNT : Fld.width .CHORUS_XP_CNT = 17 := rfl
@[simp] theorem width_CHORUS_KICKOFS : Fld.width .CHORUS_KICKOFS = 13 := rfl
@[simp] theorem width_CHORUS_KICK : Fld.width .CHORUS_KICK = 8 := rfl
@[simp] theorem width_CHORUS_XSAMP : Fld.width .CHORUS_XSAMP = 64 := rfl
@[simp] theorem width_CHORUS_SAT_CNT : Fld.width .CHORUS_SAT_CNT = 32 := rfl
@[simp] theorem width_CHORUS_NAN_CNT : Fld.width .CHORUS_NAN_CNT = 32 := rfl
@[simp] theorem width_CHORUS_BADXP_CNT : Fld.width .CHORUS_BADXP_CNT = 32 := rfl
@[simp] theorem width_CHORUS_XKICK_CNT : Fld.width .CHORUS_XKICK_CNT = 32 := rfl
@[simp] theorem width_CHORUS_GRPMISS_CNT : Fld.width .CHORUS_GRPMISS_CNT = 32 := rfl
@[simp] theorem width_CHORUS_BADPART_CNT : Fld.width .CHORUS_BADPART_CNT = 32 := rfl
@[simp] theorem width_CHORUS_INCOMP_CNT : Fld.width .CHORUS_INCOMP_CNT = 32 := rfl
@[simp] theorem width_GRP_RANGE_FIRST : Fld.width .GRP_RANGE_FIRST = 15 := rfl
@[simp] theorem width_GRP_RANGE_COUNT : Fld.width .GRP_RANGE_COUNT = 16 := rfl
@[simp] theorem width_GRP_CFG_EN : Fld.width .GRP_CFG_EN = 1 := rfl
@[simp] theorem width_GRP_CFG_DOMAIN : Fld.width .GRP_CFG_DOMAIN = 2 := rfl
@[simp] theorem width_GRP_CFG_STAGE : Fld.width .GRP_CFG_STAGE = 3 := rfl
@[simp] theorem width_GRP_CFG_NKICK : Fld.width .GRP_CFG_NKICK = 8 := rfl
@[simp] theorem width_GRP_STAT_KICKS : Fld.width .GRP_STAT_KICKS = 8 := rfl
@[simp] theorem width_GRP_STAT_RAN : Fld.width .GRP_STAT_RAN = 1 := rfl
@[simp] theorem width_GRP_STAT_MISS : Fld.width .GRP_STAT_MISS = 1 := rfl
@[simp] theorem width_BUS_CFG_EN : Fld.width .BUS_CFG_EN = 1 := rfl
@[simp] theorem width_BUS_CFG_DOMAIN : Fld.width .BUS_CFG_DOMAIN = 2 := rfl
@[simp] theorem width_BUS_CFG_TX : Fld.width .BUS_CFG_TX = 1 := rfl
@[simp] theorem width_BUS_CFG_STAGE : Fld.width .BUS_CFG_STAGE = 3 := rfl
@[simp] theorem width_BUS_HOME_UNIT : Fld.width .BUS_HOME_UNIT = 4 := rfl
@[simp] theorem width_BUS_HOME_DIE : Fld.width .BUS_HOME_DIE = 3 := rfl
@[simp] theorem width_BUS_HOME_EXPECT : Fld.width .BUS_HOME_EXPECT = 7 := rfl
@[simp] theorem width_BUS_DEST : Fld.width .BUS_DEST = 20 := rfl
@[simp] theorem width_BUS_CONS_TARGET : Fld.width .BUS_CONS_TARGET = 18 := rfl
@[simp] theorem width_BUS_CONS_CEN : Fld.width .BUS_CONS_CEN = 1 := rfl
@[simp] theorem width_BUS_CONS_KGRP : Fld.width .BUS_CONS_KGRP = 8 := rfl
@[simp] theorem width_BUS_CONS_KEN : Fld.width .BUS_CONS_KEN = 1 := rfl
@[simp] theorem width_BUS_CFLAGS : Fld.width .BUS_CFLAGS = 31 := rfl
@[simp] theorem width_BUS_STAT_SAT : Fld.width .BUS_STAT_SAT = 1 := rfl
@[simp] theorem width_BUS_STAT_NAN : Fld.width .BUS_STAT_NAN = 1 := rfl
@[simp] theorem width_BUS_STAT_INCOMP : Fld.width .BUS_STAT_INCOMP = 1 := rfl
@[simp] theorem width_BUS_STAT_LATE : Fld.width .BUS_STAT_LATE = 1 := rfl
@[simp] theorem width_BUS_STAT_RANGE : Fld.width .BUS_STAT_RANGE = 1 := rfl
@[simp] theorem width_BUS_STAT_RCVD : Fld.width .BUS_STAT_RCVD = 7 := rfl
@[simp] theorem width_LF_CTL_START : Fld.width .LF_CTL_START = 1 := rfl
@[simp] theorem width_LF_CTL_ABORT : Fld.width .LF_CTL_ABORT = 1 := rfl
@[simp] theorem width_LF_CTL_MODE : Fld.width .LF_CTL_MODE = 1 := rfl
@[simp] theorem width_LF_CTL_ALL : Fld.width .LF_CTL_ALL = 1 := rfl
@[simp] theorem width_LF_CTL_NEWTS : Fld.width .LF_CTL_NEWTS = 1 := rfl
@[simp] theorem width_LF_CTL_BANK : Fld.width .LF_CTL_BANK = 8 := rfl
@[simp] theorem width_LF_STATUS_BUSY : Fld.width .LF_STATUS_BUSY = 1 := rfl
@[simp] theorem width_LF_STATUS_DONE : Fld.width .LF_STATUS_DONE = 1 := rfl
@[simp] theorem width_LF_STATUS_REFUSED : Fld.width .LF_STATUS_REFUSED = 1 := rfl
@[simp] theorem width_LF_STATUS_ABORTED : Fld.width .LF_STATUS_ABORTED = 1 := rfl
@[simp] theorem width_LF_STATUS_OFFLINE : Fld.width .LF_STATUS_OFFLINE = 1 := rfl
@[simp] theorem width_LF_STATUS_BANK : Fld.width .LF_STATUS_BANK = 8 := rfl
@[simp] theorem width_LF_FAIL_WADDR : Fld.width .LF_FAIL_WADDR = 21 := rfl
@[simp] theorem width_LF_FAIL_VALID : Fld.width .LF_FAIL_VALID = 1 := rfl
@[simp] theorem width_LF_FAIL_BIT : Fld.width .LF_FAIL_BIT = 8 := rfl
@[simp] theorem width_BANK_COLL_WADDR : Fld.width .BANK_COLL_WADDR = 21 := rfl
@[simp] theorem width_BANK_COLL_KIND : Fld.width .BANK_COLL_KIND = 2 := rfl
@[simp] theorem width_BANK_COLL_VALID : Fld.width .BANK_COLL_VALID = 1 := rfl
@[simp] theorem width_BANK_COLL_AMASTER : Fld.width .BANK_COLL_AMASTER = 8 := rfl
@[simp] theorem width_BANK_COLL_BMASTER : Fld.width .BANK_COLL_BMASTER = 8 := rfl
@[simp] theorem width_BANK_COLL_OVF : Fld.width .BANK_COLL_OVF = 32 := rfl
@[simp] theorem width_BANK_TORN_WADDR : Fld.width .BANK_TORN_WADDR = 21 := rfl
@[simp] theorem width_BANK_TORN_VALID : Fld.width .BANK_TORN_VALID = 1 := rfl
@[simp] theorem width_BANK_TORN_MASTER : Fld.width .BANK_TORN_MASTER = 8 := rfl
@[simp] theorem width_BANK_TORN_WRITTEN : Fld.width .BANK_TORN_WRITTEN = 5 := rfl
@[simp] theorem width_BANK_TORN_LEN : Fld.width .BANK_TORN_LEN = 5 := rfl
@[simp] theorem width_BANK_ECCLOG_WADDR : Fld.width .BANK_ECCLOG_WADDR = 21 := rfl
@[simp] theorem width_BANK_ECCLOG_HALF : Fld.width .BANK_ECCLOG_HALF = 1 := rfl
@[simp] theorem width_BANK_ECCLOG_VALID : Fld.width .BANK_ECCLOG_VALID = 1 := rfl
@[simp] theorem width_BANK_ECCLOG_BIT : Fld.width .BANK_ECCLOG_BIT = 7 := rfl
@[simp] theorem width_BANK_ECCLOG_UE : Fld.width .BANK_ECCLOG_UE = 1 := rfl
@[simp] theorem width_BANK_ECCLOG_PORT : Fld.width .BANK_ECCLOG_PORT = 1 := rfl
@[simp] theorem width_BANK_ECCLOG_MERGE : Fld.width .BANK_ECCLOG_MERGE = 1 := rfl
@[simp] theorem width_BANK_ECCLOG_INJ : Fld.width .BANK_ECCLOG_INJ = 1 := rfl
@[simp] theorem width_BANK_INJ_SEL_BANK : Fld.width .BANK_INJ_SEL_BANK = 8 := rfl
@[simp] theorem width_BANK_INJ_SEL_HALF : Fld.width .BANK_INJ_SEL_HALF = 2 := rfl
@[simp] theorem width_BANK_INJ_SEL_MASK : Fld.width .BANK_INJ_SEL_MASK = 8 := rfl
@[simp] theorem width_LF_FUSE_BANK : Fld.width .LF_FUSE_BANK = 8 := rfl
@[simp] theorem width_LF_FUSE_BURN : Fld.width .LF_FUSE_BURN = 1 := rfl
@[simp] theorem width_LF_FUSE_BUSY : Fld.width .LF_FUSE_BUSY = 1 := rfl
@[simp] theorem width_LF_FUSE_DONE : Fld.width .LF_FUSE_DONE = 1 := rfl
@[simp] theorem width_LF_FUSE_ERR : Fld.width .LF_FUSE_ERR = 1 := rfl
@[simp] theorem width_LF_NEWT_FAIL : Fld.width .LF_NEWT_FAIL = 32 := rfl
@[simp] theorem width_BANK_STAT_RESULT : Fld.width .BANK_STAT_RESULT = 2 := rfl
@[simp] theorem width_BANK_STAT_NEWROWS : Fld.width .BANK_STAT_NEWROWS = 3 := rfl
@[simp] theorem width_BANK_STAT_OFFLINE : Fld.width .BANK_STAT_OFFLINE = 1 := rfl
@[simp] theorem width_BANK_STAT_UE : Fld.width .BANK_STAT_UE = 1 := rfl
@[simp] theorem width_BANK_STAT_TORN : Fld.width .BANK_STAT_TORN = 1 := rfl
@[simp] theorem width_BANK_CE_CE_CNT : Fld.width .BANK_CE_CE_CNT = 16 := rfl
@[simp] theorem width_BANK_CE_UE_CNT : Fld.width .BANK_CE_UE_CNT = 16 := rfl
@[simp] theorem width_BANK_REPAIR_ROW_LO : Fld.width .BANK_REPAIR_ROW_LO = 9 := rfl
@[simp] theorem width_BANK_REPAIR_ROW_HI : Fld.width .BANK_REPAIR_ROW_HI = 9 := rfl
@[simp] theorem width_BANK_REPAIR_FUSED_LO : Fld.width .BANK_REPAIR_FUSED_LO = 1 := rfl
@[simp] theorem width_BANK_REPAIR_FUSED_HI : Fld.width .BANK_REPAIR_FUSED_HI = 1 := rfl
@[simp] theorem width_BANK_REPAIR_VALID_LO : Fld.width .BANK_REPAIR_VALID_LO = 1 := rfl
@[simp] theorem width_BANK_REPAIR_VALID_HI : Fld.width .BANK_REPAIR_VALID_HI = 1 := rfl
@[simp] theorem width_FAB_STAT_UP : Fld.width .FAB_STAT_UP = 4 := rfl
@[simp] theorem width_FAB_STAT_TORN_CNT : Fld.width .FAB_STAT_TORN_CNT = 16 := rfl
@[simp] theorem width_FAB_DERR_ADDR : Fld.width .FAB_DERR_ADDR = 32 := rfl
@[simp] theorem width_FAB_DERR_DIE : Fld.width .FAB_DERR_DIE = 4 := rfl
@[simp] theorem width_FAB_DERR_UNIT : Fld.width .FAB_DERR_UNIT = 4 := rfl
@[simp] theorem width_FAB_DERR_PORT : Fld.width .FAB_DERR_PORT = 5 := rfl
@[simp] theorem width_FAB_DERR_ORIGIN : Fld.width .FAB_DERR_ORIGIN = 3 := rfl
@[simp] theorem width_FAB_DERR_CLASS : Fld.width .FAB_DERR_CLASS = 4 := rfl
@[simp] theorem width_FAB_DERR_WRITE : Fld.width .FAB_DERR_WRITE = 1 := rfl
@[simp] theorem width_FAB_DERR_CAUSE : Fld.width .FAB_DERR_CAUSE = 2 := rfl
@[simp] theorem width_FAB_DERR_VALID : Fld.width .FAB_DERR_VALID = 1 := rfl
@[simp] theorem width_FAB_DERR_OVF : Fld.width .FAB_DERR_OVF = 32 := rfl
@[simp] theorem width_FAB_PERR_ADDR : Fld.width .FAB_PERR_ADDR = 32 := rfl
@[simp] theorem width_FAB_PERR_DIE : Fld.width .FAB_PERR_DIE = 4 := rfl
@[simp] theorem width_FAB_PERR_UNIT : Fld.width .FAB_PERR_UNIT = 4 := rfl
@[simp] theorem width_FAB_PERR_PORT : Fld.width .FAB_PERR_PORT = 5 := rfl
@[simp] theorem width_FAB_PERR_ORIGIN : Fld.width .FAB_PERR_ORIGIN = 3 := rfl
@[simp] theorem width_FAB_PERR_CLASS : Fld.width .FAB_PERR_CLASS = 4 := rfl
@[simp] theorem width_FAB_PERR_WRITE : Fld.width .FAB_PERR_WRITE = 1 := rfl
@[simp] theorem width_FAB_PERR_CAUSE : Fld.width .FAB_PERR_CAUSE = 2 := rfl
@[simp] theorem width_FAB_PERR_VALID : Fld.width .FAB_PERR_VALID = 1 := rfl
@[simp] theorem width_FAB_PERR_OVF : Fld.width .FAB_PERR_OVF = 32 := rfl
@[simp] theorem width_DMA_KICKOFS_EN : Fld.width .DMA_KICKOFS_EN = 1 := rfl
@[simp] theorem width_DMA_KICKOFS_OFS : Fld.width .DMA_KICKOFS_OFS = 13 := rfl
@[simp] theorem width_FAB_PARK_MASTER : Fld.width .FAB_PARK_MASTER = 5 := rfl
@[simp] theorem width_FAB_PARK_EN : Fld.width .FAB_PARK_EN = 1 := rfl
@[simp] theorem width_FAB_PRIO_T0 : Fld.width .FAB_PRIO_T0 = 3 := rfl
@[simp] theorem width_FAB_PRIO_T1 : Fld.width .FAB_PRIO_T1 = 3 := rfl
@[simp] theorem width_FAB_PRIO_T2 : Fld.width .FAB_PRIO_T2 = 3 := rfl
@[simp] theorem width_FAB_PRIO_T3 : Fld.width .FAB_PRIO_T3 = 3 := rfl
@[simp] theorem width_FAB_PRIO_T4 : Fld.width .FAB_PRIO_T4 = 3 := rfl
@[simp] theorem width_FAB_PRIO_T5 : Fld.width .FAB_PRIO_T5 = 3 := rfl
@[simp] theorem width_FAB_PRIO_T6 : Fld.width .FAB_PRIO_T6 = 3 := rfl
@[simp] theorem width_FAB_PRIO_T7 : Fld.width .FAB_PRIO_T7 = 3 := rfl
@[simp] theorem width_FAB_PRIO_T8 : Fld.width .FAB_PRIO_T8 = 3 := rfl
@[simp] theorem width_FAB_PRIO_T9 : Fld.width .FAB_PRIO_T9 = 3 := rfl
@[simp] theorem width_FAB_PRIO_T10 : Fld.width .FAB_PRIO_T10 = 3 := rfl
@[simp] theorem width_FAB_PERM : Fld.width .FAB_PERM = 36 := rfl
@[simp] theorem width_LINK_STATUS_STATE : Fld.width .LINK_STATUS_STATE = 2 := rfl
@[simp] theorem width_LINK_STATUS_TRIES : Fld.width .LINK_STATUS_TRIES = 2 := rfl
@[simp] theorem width_LINK_STATUS_ABSENT : Fld.width .LINK_STATUS_ABSENT = 1 := rfl
@[simp] theorem width_LINK_CTL : Fld.width .LINK_CTL = 1 := rfl
@[simp] theorem width_LINK_CE_CE_CNT : Fld.width .LINK_CE_CE_CNT = 16 := rfl
@[simp] theorem width_LINK_CE_UE_CNT : Fld.width .LINK_CE_UE_CNT = 16 := rfl
@[simp] theorem width_LINK_LAT : Fld.width .LINK_LAT = 6 := rfl
@[simp] theorem width_DMA_START_ABORT : Fld.width .DMA_START_ABORT = 1 := rfl
@[simp] theorem width_DMA_START_DESC : Fld.width .DMA_START_DESC = 20 := rfl
@[simp] theorem width_DMA_STATUS_BUSY : Fld.width .DMA_STATUS_BUSY = 1 := rfl
@[simp] theorem width_DMA_STATUS_QDEPTH : Fld.width .DMA_STATUS_QDEPTH = 4 := rfl
@[simp] theorem width_DMA_STATUS_ERR : Fld.width .DMA_STATUS_ERR = 1 := rfl
@[simp] theorem width_DMA_STATUS_KOVF : Fld.width .DMA_STATUS_KOVF = 1 := rfl
@[simp] theorem width_DMA_CUR : Fld.width .DMA_CUR = 20 := rfl
@[simp] theorem width_DMA_ERRADDR_ADDR : Fld.width .DMA_ERRADDR_ADDR = 40 := rfl
@[simp] theorem width_DMA_ERRADDR_VALID : Fld.width .DMA_ERRADDR_VALID = 1 := rfl
@[simp] theorem width_SAP_CFG_EN : Fld.width .SAP_CFG_EN = 1 := rfl
@[simp] theorem width_SAP_CFG_MASTER : Fld.width .SAP_CFG_MASTER = 1 := rfl
@[simp] theorem width_SAP_CFG_DOMAIN : Fld.width .SAP_CFG_DOMAIN = 2 := rfl
@[simp] theorem width_SAP_CFG_BREN : Fld.width .SAP_CFG_BREN = 1 := rfl
@[simp] theorem width_SAP_CFG_BRIDGE : Fld.width .SAP_CFG_BRIDGE = 7 := rfl
@[simp] theorem width_SAP_CFG_PGEN : Fld.width .SAP_CFG_PGEN = 1 := rfl
@[simp] theorem width_SAP_CFG_PGRP : Fld.width .SAP_CFG_PGRP = 4 := rfl
@[simp] theorem width_SAP_CFG_HIZ : Fld.width .SAP_CFG_HIZ = 1 := rfl
@[simp] theorem width_SAP_CFG_DITHEN : Fld.width .SAP_CFG_DITHEN = 1 := rfl
@[simp] theorem width_SAP_FMT_MODE : Fld.width .SAP_FMT_MODE = 2 := rfl
@[simp] theorem width_SAP_FMT_SLOTS : Fld.width .SAP_FMT_SLOTS = 5 := rfl
@[simp] theorem width_SAP_FMT_SWIDTH : Fld.width .SAP_FMT_SWIDTH = 2 := rfl
@[simp] theorem width_SAP_FMT_DWIDTH : Fld.width .SAP_FMT_DWIDTH = 2 := rfl
@[simp] theorem width_SAP_FMT_BCKPOL : Fld.width .SAP_FMT_BCKPOL = 1 := rfl
@[simp] theorem width_SAP_FMT_FSPOL : Fld.width .SAP_FMT_FSPOL = 1 := rfl
@[simp] theorem width_SAP_FMT_FSDLY : Fld.width .SAP_FMT_FSDLY = 1 := rfl
@[simp] theorem width_SAP_SLOTMASK : Fld.width .SAP_SLOTMASK = 32 := rfl
@[simp] theorem width_SAP_SLOTMASK_NEXT : Fld.width .SAP_SLOTMASK_NEXT = 32 := rfl
@[simp] theorem width_SAP_BUF : Fld.width .SAP_BUF = 14 := rfl
@[simp] theorem width_SAP_STATUS_STATE : Fld.width .SAP_STATUS_STATE = 3 := rfl
@[simp] theorem width_SAP_STATUS_DRIVE : Fld.width .SAP_STATUS_DRIVE = 1 := rfl
@[simp] theorem width_SAP_STATUS_LEVEL : Fld.width .SAP_STATUS_LEVEL = 3 := rfl
@[simp] theorem width_SAP_STATUS_BADCFG : Fld.width .SAP_STATUS_BADCFG = 1 := rfl
@[simp] theorem width_SAP_STATUS_RESYNC : Fld.width .SAP_STATUS_RESYNC = 1 := rfl
@[simp] theorem width_SAP_STATUS_GSPLIT : Fld.width .SAP_STATUS_GSPLIT = 1 := rfl
@[simp] theorem width_SAP_STATUS_MASKPEND : Fld.width .SAP_STATUS_MASKPEND = 1 := rfl
@[simp] theorem width_SAP_SLIP_DROP : Fld.width .SAP_SLIP_DROP = 32 := rfl
@[simp] theorem width_SAP_SLIP_REP : Fld.width .SAP_SLIP_REP = 32 := rfl
@[simp] theorem width_SAP_SLIP_UNDR : Fld.width .SAP_SLIP_UNDR = 32 := rfl
@[simp] theorem width_SAP_FERR : Fld.width .SAP_FERR = 32 := rfl
@[simp] theorem width_SAP_LOST : Fld.width .SAP_LOST = 32 := rfl
@[simp] theorem width_SAP_DITHER : Fld.width .SAP_DITHER = 32 := rfl
@[simp] theorem width_PG_CFG_EN : Fld.width .PG_CFG_EN = 1 := rfl
@[simp] theorem width_PG_CFG_REFPORT : Fld.width .PG_CFG_REFPORT = 6 := rfl
@[simp] theorem width_PG_CFG_REFDIR : Fld.width .PG_CFG_REFDIR = 1 := rfl
@[simp] theorem width_PG_STAT_ANCHOR : Fld.width .PG_STAT_ANCHOR = 1 := rfl
@[simp] theorem width_PG_STAT_SPLIT : Fld.width .PG_STAT_SPLIT = 1 := rfl
@[simp] theorem width_PG_STAT_MEMBERS : Fld.width .PG_STAT_MEMBERS = 6 := rfl
@[simp] theorem width_PG_DROP : Fld.width .PG_DROP = 32 := rfl
@[simp] theorem width_PG_REP : Fld.width .PG_REP = 32 := rfl
@[simp] theorem width_DOM_CFG_RATE : Fld.width .DOM_CFG_RATE = 4 := rfl
@[simp] theorem width_DOM_CFG_RING : Fld.width .DOM_CFG_RING = 1 := rfl
@[simp] theorem width_DOM_CFG_MCEN : Fld.width .DOM_CFG_MCEN = 1 := rfl
@[simp] theorem width_DOM_RPHASE : Fld.width .DOM_RPHASE = 32 := rfl
@[simp] theorem width_BR_CFG_EN : Fld.width .BR_CFG_EN = 1 := rfl
@[simp] theorem width_BR_CFG_SRCDOM : Fld.width .BR_CFG_SRCDOM = 2 := rfl
@[simp] theorem width_BR_CFG_DSTDOM : Fld.width .BR_CFG_DSTDOM = 2 := rfl
@[simp] theorem width_BR_CFG_SRCRATE : Fld.width .BR_CFG_SRCRATE = 4 := rfl
@[simp] theorem width_BR_CFG_ALIGNSET : Fld.width .BR_CFG_ALIGNSET = 1 := rfl
@[simp] theorem width_BR_STATUS_STATE : Fld.width .BR_STATUS_STATE = 2 := rfl
@[simp] theorem width_BR_STATUS_BADCFG : Fld.width .BR_STATUS_BADCFG = 1 := rfl
@[simp] theorem width_BR_STATUS_CONFLICT : Fld.width .BR_STATUS_CONFLICT = 1 := rfl
@[simp] theorem width_BR_STATUS_RANGE : Fld.width .BR_STATUS_RANGE = 1 := rfl
@[simp] theorem width_BR_DELAY : Fld.width .BR_DELAY = 32 := rfl
@[simp] theorem width_BR_RATIO : Fld.width .BR_RATIO = 32 := rfl
@[simp] theorem width_BR_ALIGN_N : Fld.width .BR_ALIGN_N = 32 := rfl
@[simp] theorem width_BR_ALIGN_S : Fld.width .BR_ALIGN_S = 32 := rfl
@[simp] theorem width_BR_IBUF : Fld.width .BR_IBUF = 14 := rfl
@[simp] theorem width_BR_OBUF : Fld.width .BR_OBUF = 14 := rfl
@[simp] theorem width_BR_UNDR : Fld.width .BR_UNDR = 32 := rfl
@[simp] theorem width_BR_LOST : Fld.width .BR_LOST = 32 := rfl
@[simp] theorem width_REFSEL_CFG_MODE : Fld.width .REFSEL_CFG_MODE = 2 := rfl
@[simp] theorem width_REFSEL_CFG_REVERT : Fld.width .REFSEL_CFG_REVERT = 1 := rfl
@[simp] theorem width_REFSEL_CFG_FORCEIDX : Fld.width .REFSEL_CFG_FORCEIDX = 4 := rfl
@[simp] theorem width_REFSEL_STATUS_SEL : Fld.width .REFSEL_STATUS_SEL = 4 := rfl
@[simp] theorem width_REFSEL_STATUS_SWITCHING : Fld.width .REFSEL_STATUS_SWITCHING = 1 := rfl
@[simp] theorem width_DPLL_CFG_BW : Fld.width .DPLL_CFG_BW = 4 := rfl
@[simp] theorem width_DPLL_CFG_PBO_HIT : Fld.width .DPLL_CFG_PBO_HIT = 1 := rfl
@[simp] theorem width_DPLL_CFG_REALIGN : Fld.width .DPLL_CFG_REALIGN = 1 := rfl
@[simp] theorem width_DPLL_CFG_SLEW : Fld.width .DPLL_CFG_SLEW = 10 := rfl
@[simp] theorem width_DPLL_CFG_INITALIGN : Fld.width .DPLL_CFG_INITALIGN = 1 := rfl
@[simp] theorem width_DPLL_STATUS_STATE : Fld.width .DPLL_STATUS_STATE = 2 := rfl
@[simp] theorem width_DPLL_STATUS_HOVALID : Fld.width .DPLL_STATUS_HOVALID = 1 := rfl
@[simp] theorem width_DPLL_STATUS_XOSRC : Fld.width .DPLL_STATUS_XOSRC = 1 := rfl
@[simp] theorem width_DPLL_STATUS_BWEFF : Fld.width .DPLL_STATUS_BWEFF = 4 := rfl
@[simp] theorem width_DPLL_STATUS_REALIGNING : Fld.width .DPLL_STATUS_REALIGNING = 1 := rfl
@[simp] theorem width_DPLL_HIST_FREE_RUN : Fld.width .DPLL_HIST_FREE_RUN = 1 := rfl
@[simp] theorem width_DPLL_HIST_ACQUIRE : Fld.width .DPLL_HIST_ACQUIRE = 1 := rfl
@[simp] theorem width_DPLL_HIST_LOCKED : Fld.width .DPLL_HIST_LOCKED = 1 := rfl
@[simp] theorem width_DPLL_HIST_HOLDOVER : Fld.width .DPLL_HIST_HOLDOVER = 1 := rfl
@[simp] theorem width_DPLL_HIST_XO_LOST : Fld.width .DPLL_HIST_XO_LOST = 1 := rfl
@[simp] theorem width_DPLL_FREQ : Fld.width .DPLL_FREQ = 32 := rfl
@[simp] theorem width_DPLL_HOFREQ : Fld.width .DPLL_HOFREQ = 32 := rfl
@[simp] theorem width_DPLL_PBO : Fld.width .DPLL_PBO = 32 := rfl
@[simp] theorem width_REFSEL_DISC : Fld.width .REFSEL_DISC = 32 := rfl
@[simp] theorem width_REFSEL_SWCNT : Fld.width .REFSEL_SWCNT = 32 := rfl
@[simp] theorem width_DPLL_LOCK_LOCKWIN : Fld.width .DPLL_LOCK_LOCKWIN = 16 := rfl
@[simp] theorem width_DPLL_LOCK_LOCKTIME : Fld.width .DPLL_LOCK_LOCKTIME = 8 := rfl
@[simp] theorem width_DPLL_LOCK_HITTH : Fld.width .DPLL_LOCK_HITTH = 8 := rfl
@[simp] theorem width_DPLL_IEN_FREE_RUN : Fld.width .DPLL_IEN_FREE_RUN = 1 := rfl
@[simp] theorem width_DPLL_IEN_ACQUIRE : Fld.width .DPLL_IEN_ACQUIRE = 1 := rfl
@[simp] theorem width_DPLL_IEN_LOCKED : Fld.width .DPLL_IEN_LOCKED = 1 := rfl
@[simp] theorem width_DPLL_IEN_HOLDOVER : Fld.width .DPLL_IEN_HOLDOVER = 1 := rfl
@[simp] theorem width_DPLL_IEN_XO_LOST : Fld.width .DPLL_IEN_XO_LOST = 1 := rfl
@[simp] theorem width_REF_CFG_EN : Fld.width .REF_CFG_EN = 1 := rfl
@[simp] theorem width_REF_CFG_POL : Fld.width .REF_CFG_POL = 1 := rfl
@[simp] theorem width_REF_CFG_RANK : Fld.width .REF_CFG_RANK = 4 := rfl
@[simp] theorem width_REF_NOM_NUM : Fld.width .REF_NOM_NUM = 32 := rfl
@[simp] theorem width_REF_NOM_DEN : Fld.width .REF_NOM_DEN = 16 := rfl
@[simp] theorem width_REF_QUAL_WINDOW : Fld.width .REF_QUAL_WINDOW = 16 := rfl
@[simp] theorem width_REF_QUAL_HOLDOFF : Fld.width .REF_QUAL_HOLDOFF = 8 := rfl
@[simp] theorem width_REF_MON_GFLT : Fld.width .REF_MON_GFLT = 6 := rfl
@[simp] theorem width_REF_MON_STUCKTO : Fld.width .REF_MON_STUCKTO = 16 := rfl
@[simp] theorem width_REF_LIVE_LOS : Fld.width .REF_LIVE_LOS = 1 := rfl
@[simp] theorem width_REF_LIVE_FREQ_OOR : Fld.width .REF_LIVE_FREQ_OOR = 1 := rfl
@[simp] theorem width_REF_LIVE_PHASE_HIT : Fld.width .REF_LIVE_PHASE_HIT = 1 := rfl
@[simp] theorem width_REF_LIVE_DISCREPANT : Fld.width .REF_LIVE_DISCREPANT = 1 := rfl
@[simp] theorem width_REF_LIVE_STUCK : Fld.width .REF_LIVE_STUCK = 1 := rfl
@[simp] theorem width_REF_LIVE_OVERRATE : Fld.width .REF_LIVE_OVERRATE = 1 := rfl
@[simp] theorem width_REF_LIVE_SUSPECT : Fld.width .REF_LIVE_SUSPECT = 1 := rfl
@[simp] theorem width_REF_LIVE_QUAL : Fld.width .REF_LIVE_QUAL = 1 := rfl
@[simp] theorem width_REF_HIST_LOS : Fld.width .REF_HIST_LOS = 1 := rfl
@[simp] theorem width_REF_HIST_FREQ_OOR : Fld.width .REF_HIST_FREQ_OOR = 1 := rfl
@[simp] theorem width_REF_HIST_PHASE_HIT : Fld.width .REF_HIST_PHASE_HIT = 1 := rfl
@[simp] theorem width_REF_HIST_DISCREPANT : Fld.width .REF_HIST_DISCREPANT = 1 := rfl
@[simp] theorem width_REF_HIST_STUCK : Fld.width .REF_HIST_STUCK = 1 := rfl
@[simp] theorem width_REF_HIST_OVERRATE : Fld.width .REF_HIST_OVERRATE = 1 := rfl
@[simp] theorem width_REF_HIST_SUSPECT : Fld.width .REF_HIST_SUSPECT = 1 := rfl
@[simp] theorem width_REF_HIST_BADCFG : Fld.width .REF_HIST_BADCFG = 1 := rfl
@[simp] theorem width_REF_IEN_LOS : Fld.width .REF_IEN_LOS = 1 := rfl
@[simp] theorem width_REF_IEN_FREQ_OOR : Fld.width .REF_IEN_FREQ_OOR = 1 := rfl
@[simp] theorem width_REF_IEN_PHASE_HIT : Fld.width .REF_IEN_PHASE_HIT = 1 := rfl
@[simp] theorem width_REF_IEN_DISCREPANT : Fld.width .REF_IEN_DISCREPANT = 1 := rfl
@[simp] theorem width_REF_IEN_STUCK : Fld.width .REF_IEN_STUCK = 1 := rfl
@[simp] theorem width_REF_IEN_OVERRATE : Fld.width .REF_IEN_OVERRATE = 1 := rfl
@[simp] theorem width_REF_IEN_SUSPECT : Fld.width .REF_IEN_SUSPECT = 1 := rfl
@[simp] theorem width_REF_IEN_BADCFG : Fld.width .REF_IEN_BADCFG = 1 := rfl
@[simp] theorem width_REF_FREQ : Fld.width .REF_FREQ = 32 := rfl
@[simp] theorem width_REF_PHASE : Fld.width .REF_PHASE = 32 := rfl
@[simp] theorem width_REF_OVR : Fld.width .REF_OVR = 32 := rfl
@[simp] theorem width_REF_HOLD : Fld.width .REF_HOLD = 8 := rfl
@[simp] theorem width_FO_CFG_EN : Fld.width .FO_CFG_EN = 1 := rfl
@[simp] theorem width_FO_CFG_POL : Fld.width .FO_CFG_POL = 1 := rfl
@[simp] theorem width_FO_CFG_SQUARE : Fld.width .FO_CFG_SQUARE = 1 := rfl
@[simp] theorem width_FO_CFG_SRC : Fld.width .FO_CFG_SRC = 4 := rfl
@[simp] theorem width_FO_NUM : Fld.width .FO_NUM = 32 := rfl
@[simp] theorem width_FO_DEN : Fld.width .FO_DEN = 16 := rfl
@[simp] theorem width_FO_OFFSET : Fld.width .FO_OFFSET = 32 := rfl
@[simp] theorem width_FO_WIDTH : Fld.width .FO_WIDTH = 32 := rfl
@[simp] theorem width_FO_CTL : Fld.width .FO_CTL = 1 := rfl
@[simp] theorem width_FO_STATUS_STATE : Fld.width .FO_STATUS_STATE = 2 := rfl
@[simp] theorem width_FO_STATUS_MISALIGN : Fld.width .FO_STATUS_MISALIGN = 1 := rfl
@[simp] theorem width_FO_STATUS_BADCFG : Fld.width .FO_STATUS_BADCFG = 1 := rfl
@[simp] theorem width_FO_ERR : Fld.width .FO_ERR = 32 := rfl
@[simp] theorem width_GPIO_LEVELS : Fld.width .GPIO_LEVELS = 16 := rfl
@[simp] theorem width_GPIO_CFG_EN : Fld.width .GPIO_CFG_EN = 1 := rfl
@[simp] theorem width_GPIO_CFG_POL : Fld.width .GPIO_CFG_POL = 1 := rfl
@[simp] theorem width_GPIO_CFG_IEN : Fld.width .GPIO_CFG_IEN = 1 := rfl
@[simp] theorem width_GPIO_MON_GFLT : Fld.width .GPIO_MON_GFLT = 16 := rfl
@[simp] theorem width_GPIO_MON_STUCKTO : Fld.width .GPIO_MON_STUCKTO = 16 := rfl
@[simp] theorem width_GPIO_RATE : Fld.width .GPIO_RATE = 16 := rfl
@[simp] theorem width_GPIO_STATUS_LEVEL : Fld.width .GPIO_STATUS_LEVEL = 1 := rfl
@[simp] theorem width_GPIO_STATUS_STUCK : Fld.width .GPIO_STATUS_STUCK = 1 := rfl
@[simp] theorem width_GPIO_STATUS_OVERRATE : Fld.width .GPIO_STATUS_OVERRATE = 1 := rfl
@[simp] theorem width_GPIO_STATUS_STUCK_H : Fld.width .GPIO_STATUS_STUCK_H = 1 := rfl
@[simp] theorem width_GPIO_STATUS_OVERRATE_H : Fld.width .GPIO_STATUS_OVERRATE_H = 1 := rfl
@[simp] theorem width_GPIO_STATUS_CHG : Fld.width .GPIO_STATUS_CHG = 1 := rfl
@[simp] theorem width_GPIO_OVR : Fld.width .GPIO_OVR = 32 := rfl
@[simp] theorem width_GPIO_STAMP : Fld.width .GPIO_STAMP = 64 := rfl
@[simp] theorem width_MDLL_CFG : Fld.width .MDLL_CFG = 1 := rfl
@[simp] theorem width_MDLL_CTL : Fld.width .MDLL_CTL = 1 := rfl
@[simp] theorem width_MDLL_STATUS_STATE : Fld.width .MDLL_STATUS_STATE = 2 := rfl
@[simp] theorem width_MDLL_STATUS_OUT : Fld.width .MDLL_STATUS_OUT = 2 := rfl
@[simp] theorem width_MDLL_STATUS_BAND : Fld.width .MDLL_STATUS_BAND = 4 := rfl
@[simp] theorem width_MDLL_STATUS_SEARCHES : Fld.width .MDLL_STATUS_SEARCHES = 2 := rfl
@[simp] theorem width_MDLL_HIST_LOL : Fld.width .MDLL_HIST_LOL = 1 := rfl
@[simp] theorem width_MDLL_HIST_REFLOSS : Fld.width .MDLL_HIST_REFLOSS = 1 := rfl
@[simp] theorem width_MDLL_HIST_BYPASSED : Fld.width .MDLL_HIST_BYPASSED = 1 := rfl
@[simp] theorem width_MDLL_HIST_MULTI : Fld.width .MDLL_HIST_MULTI = 1 := rfl
@[simp] theorem width_MDLL_LOCKCNT : Fld.width .MDLL_LOCKCNT = 32 := rfl
@[simp] theorem width_MDLL_LOCKTIME : Fld.width .MDLL_LOCKTIME = 32 := rfl
@[simp] theorem width_MDLL_PHERR : Fld.width .MDLL_PHERR = 16 := rfl
@[simp] theorem width_MDLL_STALL : Fld.width .MDLL_STALL = 32 := rfl
@[simp] theorem width_MAC_CFG_MODE : Fld.width .MAC_CFG_MODE = 3 := rfl
@[simp] theorem width_MAC_CFG_FEC : Fld.width .MAC_CFG_FEC = 2 := rfl
@[simp] theorem width_MAC_CFG_RXPAUSE : Fld.width .MAC_CFG_RXPAUSE = 1 := rfl
@[simp] theorem width_MAC_CFG_GUARD : Fld.width .MAC_CFG_GUARD = 1 := rfl
@[simp] theorem width_MAC_CFG_PROMISC : Fld.width .MAC_CFG_PROMISC = 1 := rfl
@[simp] theorem width_MAC_CFG_MAXLEN : Fld.width .MAC_CFG_MAXLEN = 14 := rfl
@[simp] theorem width_MAC_CTL_RESET : Fld.width .MAC_CTL_RESET = 1 := rfl
@[simp] theorem width_MAC_CTL_CLR_TSOVF : Fld.width .MAC_CTL_CLR_TSOVF = 1 := rfl
@[simp] theorem width_MAC_CTL_ANRESTART : Fld.width .MAC_CTL_ANRESTART = 1 := rfl
@[simp] theorem width_MAC_STATUS_LINK : Fld.width .MAC_STATUS_LINK = 1 := rfl
@[simp] theorem width_MAC_STATUS_PAUSED : Fld.width .MAC_STATUS_PAUSED = 1 := rfl
@[simp] theorem width_MAC_STATUS_ANDONE : Fld.width .MAC_STATUS_ANDONE = 1 := rfl
@[simp] theorem width_MAC_STATUS_LINKCHG : Fld.width .MAC_STATUS_LINKCHG = 1 := rfl
@[simp] theorem width_MAC_STATUS_TSOVF : Fld.width .MAC_STATUS_TSOVF = 1 := rfl
@[simp] theorem width_MAC_STATUS_BADCFG : Fld.width .MAC_STATUS_BADCFG = 1 := rfl
@[simp] theorem width_MAC_ADDR : Fld.width .MAC_ADDR = 48 := rfl
@[simp] theorem width_MAC_MHASH : Fld.width .MAC_MHASH = 64 := rfl
@[simp] theorem width_TXQ_BASE : Fld.width .TXQ_BASE = 19 := rfl
@[simp] theorem width_TXQ_SIZE : Fld.width .TXQ_SIZE = 4 := rfl
@[simp] theorem width_TXQ_PI : Fld.width .TXQ_PI = 12 := rfl
@[simp] theorem width_TXQ_CI : Fld.width .TXQ_CI = 12 := rfl
@[simp] theorem width_RXR_BASE : Fld.width .RXR_BASE = 19 := rfl
@[simp] theorem width_RXR_SIZE : Fld.width .RXR_SIZE = 4 := rfl
@[simp] theorem width_RXR_PI : Fld.width .RXR_PI = 12 := rfl
@[simp] theorem width_RXR_CI : Fld.width .RXR_CI = 12 := rfl
@[simp] theorem width_RXR_BUFLEN : Fld.width .RXR_BUFLEN = 14 := rfl
@[simp] theorem width_MAC_TSF_NS : Fld.width .MAC_TSF_NS = 30 := rfl
@[simp] theorem width_MAC_TSF_S : Fld.width .MAC_TSF_S = 32 := rfl
@[simp] theorem width_MAC_TSF_INFO_SEQ : Fld.width .MAC_TSF_INFO_SEQ = 16 := rfl
@[simp] theorem width_MAC_TSF_INFO_QUEUE : Fld.width .MAC_TSF_INFO_QUEUE = 3 := rfl
@[simp] theorem width_MAC_TSF_INFO_VALID : Fld.width .MAC_TSF_INFO_VALID = 1 := rfl
@[simp] theorem width_MAC_TSF_INFO_DEPTH : Fld.width .MAC_TSF_INFO_DEPTH = 6 := rfl
@[simp] theorem width_MAC_TSF_OVF : Fld.width .MAC_TSF_OVF = 16 := rfl
@[simp] theorem width_TX_FRAMES : Fld.width .TX_FRAMES = 32 := rfl
@[simp] theorem width_TX_ABORT : Fld.width .TX_ABORT = 32 := rfl
@[simp] theorem width_TX_LAUNCH_LATE : Fld.width .TX_LAUNCH_LATE = 32 := rfl
@[simp] theorem width_RX_FRAMES : Fld.width .RX_FRAMES = 32 := rfl
@[simp] theorem width_RX_FCS : Fld.width .RX_FCS = 32 := rfl
@[simp] theorem width_RX_RUNT : Fld.width .RX_RUNT = 32 := rfl
@[simp] theorem width_RX_OVSZ : Fld.width .RX_OVSZ = 32 := rfl
@[simp] theorem width_RX_ALIGN : Fld.width .RX_ALIGN = 32 := rfl
@[simp] theorem width_RX_OVF : Fld.width .RX_OVF = 32 := rfl
@[simp] theorem width_RX_NOBUF : Fld.width .RX_NOBUF = 32 := rfl
@[simp] theorem width_RX_PAUSE : Fld.width .RX_PAUSE = 32 := rfl
@[simp] theorem width_RX_CTRL : Fld.width .RX_CTRL = 32 := rfl
@[simp] theorem width_MAC_WAKE_CFG_PEN : Fld.width .MAC_WAKE_CFG_PEN = 8 := rfl
@[simp] theorem width_MAC_WAKE_CFG_MAGIC : Fld.width .MAC_WAKE_CFG_MAGIC = 1 := rfl
@[simp] theorem width_MAC_WAKE_STAT_PHIT : Fld.width .MAC_WAKE_STAT_PHIT = 8 := rfl
@[simp] theorem width_MAC_WAKE_STAT_MHIT : Fld.width .MAC_WAKE_STAT_MHIT = 1 := rfl
@[simp] theorem width_WAKE_PAT : Fld.width .WAKE_PAT = 32 := rfl
@[simp] theorem width_WAKE_MASK : Fld.width .WAKE_MASK = 32 := rfl
@[simp] theorem width_PKT_CFG_EN : Fld.width .PKT_CFG_EN = 1 := rfl
@[simp] theorem width_PKT_CFG_TXGATE : Fld.width .PKT_CFG_TXGATE = 1 := rfl
@[simp] theorem width_PKT_TXLOAD : Fld.width .PKT_TXLOAD = 20 := rfl
@[simp] theorem width_PKT_RXLOAD : Fld.width .PKT_RXLOAD = 20 := rfl
@[simp] theorem width_STX_CFG_EN : Fld.width .STX_CFG_EN = 1 := rfl
@[simp] theorem width_STX_CFG_DOMAIN : Fld.width .STX_CFG_DOMAIN = 2 := rfl
@[simp] theorem width_STX_CFG_MAC : Fld.width .STX_CFG_MAC = 2 := rfl
@[simp] theorem width_STX_CFG_QUEUE : Fld.width .STX_CFG_QUEUE = 3 := rfl
@[simp] theorem width_STX_FMT_ENC : Fld.width .STX_FMT_ENC = 2 := rfl
@[simp] theorem width_STX_FMT_CHANS : Fld.width .STX_FMT_CHANS = 6 := rfl
@[simp] theorem width_STX_FMT_PTIME : Fld.width .STX_FMT_PTIME = 8 := rfl
@[simp] theorem width_STX_BUF : Fld.width .STX_BUF = 14 := rfl
@[simp] theorem width_STX_HDR_VLAN : Fld.width .STX_HDR_VLAN = 1 := rfl
@[simp] theorem width_STX_HDR_BASE : Fld.width .STX_HDR_BASE = 18 := rfl
@[simp] theorem width_STX_SEQOFS : Fld.width .STX_SEQOFS = 16 := rfl
@[simp] theorem width_STX_TSOFS : Fld.width .STX_TSOFS = 32 := rfl
@[simp] theorem width_STX_STAT_RUN : Fld.width .STX_STAT_RUN = 1 := rfl
@[simp] theorem width_STX_STAT_BADCFG : Fld.width .STX_STAT_BADCFG = 1 := rfl
@[simp] theorem width_STX_PKTS : Fld.width .STX_PKTS = 32 := rfl
@[simp] theorem width_STX_LATE : Fld.width .STX_LATE = 32 := rfl
@[simp] theorem width_STX_DROP : Fld.width .STX_DROP = 32 := rfl
@[simp] theorem width_STX_GATED : Fld.width .STX_GATED = 32 := rfl
@[simp] theorem width_SRX_CFG_EN : Fld.width .SRX_CFG_EN = 1 := rfl
@[simp] theorem width_SRX_CFG_DOMAIN : Fld.width .SRX_CFG_DOMAIN = 2 := rfl
@[simp] theorem width_SRX_CFG_MACMASK : Fld.width .SRX_CFG_MACMASK = 4 := rfl
@[simp] theorem width_SRX_CFG_SRCCHK : Fld.width .SRX_CFG_SRCCHK = 1 := rfl
@[simp] theorem width_SRX_FMT_ENC : Fld.width .SRX_FMT_ENC = 2 := rfl
@[simp] theorem width_SRX_FMT_CHANS : Fld.width .SRX_FMT_CHANS = 6 := rfl
@[simp] theorem width_SRX_FMT_PTIME : Fld.width .SRX_FMT_PTIME = 8 := rfl
@[simp] theorem width_SRX_FMT_PT : Fld.width .SRX_FMT_PT = 7 := rfl
@[simp] theorem width_SRX_BUF : Fld.width .SRX_BUF = 14 := rfl
@[simp] theorem width_SRX_JBUF_BASE : Fld.width .SRX_JBUF_BASE = 14 := rfl
@[simp] theorem width_SRX_JBUF_JLOG : Fld.width .SRX_JBUF_JLOG = 4 := rfl
@[simp] theorem width_SRX_MATCH_IP : Fld.width .SRX_MATCH_IP = 32 := rfl
@[simp] theorem width_SRX_MATCH_PORT : Fld.width .SRX_MATCH_PORT = 16 := rfl
@[simp] theorem width_SRX_MATCH_SRC : Fld.width .SRX_MATCH_SRC = 32 := rfl
@[simp] theorem width_SRX_OFS : Fld.width .SRX_OFS = 32 := rfl
@[simp] theorem width_SRX_STAT_RUN : Fld.width .SRX_STAT_RUN = 1 := rfl
@[simp] theorem width_SRX_STAT_BADCFG : Fld.width .SRX_STAT_BADCFG = 1 := rfl
@[simp] theorem width_SRX_STAT_RCVD : Fld.width .SRX_STAT_RCVD = 1 := rfl
@[simp] theorem width_SRX_PKTS : Fld.width .SRX_PKTS = 32 := rfl
@[simp] theorem width_SRX_LATE : Fld.width .SRX_LATE = 32 := rfl
@[simp] theorem width_SRX_EARLY : Fld.width .SRX_EARLY = 32 := rfl
@[simp] theorem width_SRX_MISS : Fld.width .SRX_MISS = 32 := rfl
@[simp] theorem width_SRX_SEQGAP : Fld.width .SRX_SEQGAP = 32 := rfl
@[simp] theorem width_SRX_BADHDR : Fld.width .SRX_BADHDR = 32 := rfl
@[simp] theorem width_PTP_CTL_SNAP : Fld.width .PTP_CTL_SNAP = 1 := rfl
@[simp] theorem width_PTP_CTL_SET : Fld.width .PTP_CTL_SET = 1 := rfl
@[simp] theorem width_PTP_STATUS_SLVERR : Fld.width .PTP_STATUS_SLVERR = 1 := rfl
@[simp] theorem width_PTP_STATUS_PEND : Fld.width .PTP_STATUS_PEND = 1 := rfl
@[simp] theorem width_PHC_SEC : Fld.width .PHC_SEC = 48 := rfl
@[simp] theorem width_PHC_NS : Fld.width .PHC_NS = 30 := rfl
@[simp] theorem width_PHC_FRAC : Fld.width .PHC_FRAC = 16 := rfl
@[simp] theorem width_PHC_SYS : Fld.width .PHC_SYS = 64 := rfl
@[simp] theorem width_PHC_SETSEC : Fld.width .PHC_SETSEC = 48 := rfl
@[simp] theorem width_PHC_SETNS : Fld.width .PHC_SETNS = 30 := rfl
@[simp] theorem width_SERVO_CFG : Fld.width .SERVO_CFG = 1 := rfl
@[simp] theorem width_SERVO_CTL_STEP_ACK : Fld.width .SERVO_CTL_STEP_ACK = 1 := rfl
@[simp] theorem width_SERVO_CTL_CLR : Fld.width .SERVO_CTL_CLR = 1 := rfl
@[simp] theorem width_SERVO_STATUS_STEP_REQ : Fld.width .SERVO_STATUS_STEP_REQ = 1 := rfl
@[simp] theorem width_SERVO_STATUS_LOCK : Fld.width .SERVO_STATUS_LOCK = 1 := rfl
@[simp] theorem width_SERVO_STATUS_HOLD : Fld.width .SERVO_STATUS_HOLD = 1 := rfl
@[simp] theorem width_SERVO_STATUS_FSAT : Fld.width .SERVO_STATUS_FSAT = 1 := rfl
@[simp] theorem width_SERVO_STATUS_STEP_CANC : Fld.width .SERVO_STATUS_STEP_CANC = 1 := rfl
@[simp] theorem width_SERVO_STATUS_STEPPED : Fld.width .SERVO_STATUS_STEPPED = 1 := rfl
@[simp] theorem width_SERVO_OFFSET : Fld.width .SERVO_OFFSET = 64 := rfl
@[simp] theorem width_STEP_THRESH : Fld.width .STEP_THRESH = 32 := rfl
@[simp] theorem width_SERVO_KP : Fld.width .SERVO_KP = 24 := rfl
@[simp] theorem width_SERVO_KI : Fld.width .SERVO_KI = 24 := rfl
@[simp] theorem width_SERVO_FMAX : Fld.width .SERVO_FMAX = 32 := rfl
@[simp] theorem width_SERVO_FREQ : Fld.width .SERVO_FREQ = 32 := rfl
@[simp] theorem width_SERVO_FBASE : Fld.width .SERVO_FBASE = 32 := rfl
@[simp] theorem width_SERVO_INT : Fld.width .SERVO_INT = 32 := rfl
@[simp] theorem width_STEP_VAL : Fld.width .STEP_VAL = 64 := rfl
@[simp] theorem width_SERVO_LOCK_LOCKTH : Fld.width .SERVO_LOCK_LOCKTH = 16 := rfl
@[simp] theorem width_SERVO_LOCK_LOCKN : Fld.width .SERVO_LOCK_LOCKN = 8 := rfl
@[simp] theorem width_SERVO_LOCK_TIMEOUT : Fld.width .SERVO_LOCK_TIMEOUT = 8 := rfl
@[simp] theorem width_STEP_CNT : Fld.width .STEP_CNT = 32 := rfl
@[simp] theorem width_MAP_DOMCNT : Fld.width .MAP_DOMCNT = 64 := rfl
@[simp] theorem width_MAP_SEC : Fld.width .MAP_SEC = 48 := rfl
@[simp] theorem width_MAP_NS : Fld.width .MAP_NS = 30 := rfl
@[simp] theorem width_MAP_FRAC : Fld.width .MAP_FRAC = 16 := rfl
@[simp] theorem width_MAP_STAT : Fld.width .MAP_STAT = 1 := rfl
@[simp] theorem width_MAP_SEQ : Fld.width .MAP_SEQ = 32 := rfl
@[simp] theorem width_TS_CFG_EN : Fld.width .TS_CFG_EN = 1 := rfl
@[simp] theorem width_TS_CFG_PERIODIC : Fld.width .TS_CFG_PERIODIC = 1 := rfl
@[simp] theorem width_TS_CFG_POL : Fld.width .TS_CFG_POL = 1 := rfl
@[simp] theorem width_TS_START_SEC : Fld.width .TS_START_SEC = 48 := rfl
@[simp] theorem width_TS_START_NS : Fld.width .TS_START_NS = 30 := rfl
@[simp] theorem width_TS_WIDTH : Fld.width .TS_WIDTH = 24 := rfl
@[simp] theorem width_TS_PERIOD : Fld.width .TS_PERIOD = 40 := rfl
@[simp] theorem width_TS_STATUS_STATE : Fld.width .TS_STATUS_STATE = 2 := rfl
@[simp] theorem width_TS_STATUS_LATE : Fld.width .TS_STATUS_LATE = 1 := rfl
@[simp] theorem width_TS_STATUS_BADCFG : Fld.width .TS_STATUS_BADCFG = 1 := rfl
@[simp] theorem width_TS_EDGES : Fld.width .TS_EDGES = 32 := rfl
@[simp] theorem width_BIRAY_STATUS_STATE : Fld.width .BIRAY_STATUS_STATE = 2 := rfl
@[simp] theorem width_BIRAY_STATUS_WRAP : Fld.width .BIRAY_STATUS_WRAP = 1 := rfl
@[simp] theorem width_BIRAY_STATUS_LANES : Fld.width .BIRAY_STATUS_LANES = 4 := rfl
@[simp] theorem width_BIRAY_STATUS_LINKCHG : Fld.width .BIRAY_STATUS_LINKCHG = 1 := rfl
@[simp] theorem width_BIRAY_CTL : Fld.width .BIRAY_CTL = 1 := rfl
@[simp] theorem width_BIRAY_DELAY : Fld.width .BIRAY_DELAY = 16 := rfl
@[simp] theorem width_BIRAY_CRCERR : Fld.width .BIRAY_CRCERR = 32 := rfl
@[simp] theorem width_BIRAY_DISC : Fld.width .BIRAY_DISC = 32 := rfl
@[simp] theorem width_BIRAY_WRAPCNT : Fld.width .BIRAY_WRAPCNT = 32 := rfl
@[simp] theorem width_RING_STATUS_ADDR : Fld.width .RING_STATUS_ADDR = 4 := rfl
@[simp] theorem width_RING_STATUS_UP : Fld.width .RING_STATUS_UP = 1 := rfl
@[simp] theorem width_RING_STATUS_HEAD : Fld.width .RING_STATUS_HEAD = 1 := rfl
@[simp] theorem width_RING_STATUS_N : Fld.width .RING_STATUS_N = 5 := rfl
@[simp] theorem width_RING_STATUS_WRAPPED : Fld.width .RING_STATUS_WRAPPED = 1 := rfl
@[simp] theorem width_RING_STATUS_OVERSIZE : Fld.width .RING_STATUS_OVERSIZE = 1 := rfl
@[simp] theorem width_RING_STATUS_NOHEAD : Fld.width .RING_STATUS_NOHEAD = 1 := rfl
@[simp] theorem width_RING_STATUS_MULTIHEAD : Fld.width .RING_STATUS_MULTIHEAD = 1 := rfl
@[simp] theorem width_RING_STATUS_ENUMFAIL : Fld.width .RING_STATUS_ENUMFAIL = 1 := rfl
@[simp] theorem width_RING_CTL : Fld.width .RING_CTL = 1 := rfl
@[simp] theorem width_RING_PRESENT : Fld.width .RING_PRESENT = 16 := rfl
@[simp] theorem width_RING_TIMEOUT : Fld.width .RING_TIMEOUT = 32 := rfl
@[simp] theorem width_RING_DEVID : Fld.width .RING_DEVID = 64 := rfl
@[simp] theorem width_PAIR_CFG_PAIRID : Fld.width .PAIR_CFG_PAIRID = 8 := rfl
@[simp] theorem width_PAIR_CFG_AUTO : Fld.width .PAIR_CFG_AUTO = 1 := rfl
@[simp] theorem width_PAIR_CFG_ISOYIELD : Fld.width .PAIR_CFG_ISOYIELD = 1 := rfl
@[simp] theorem width_PAIR_CTL_ACTIVATE : Fld.width .PAIR_CTL_ACTIVATE = 1 := rfl
@[simp] theorem width_PAIR_CTL_TAKEOVER : Fld.width .PAIR_CTL_TAKEOVER = 1 := rfl
@[simp] theorem width_PAIR_CTL_SNAP_ARM : Fld.width .PAIR_CTL_SNAP_ARM = 1 := rfl
@[simp] theorem width_PAIR_CTL_SNAP_CANCEL : Fld.width .PAIR_CTL_SNAP_CANCEL = 1 := rfl
@[simp] theorem width_PAIR_STATUS_ROLE : Fld.width .PAIR_STATUS_ROLE = 2 := rfl
@[simp] theorem width_PAIR_STATUS_SYNC : Fld.width .PAIR_STATUS_SYNC = 2 := rfl
@[simp] theorem width_PAIR_STATUS_PARTNER : Fld.width .PAIR_STATUS_PARTNER = 1 := rfl
@[simp] theorem width_PAIR_STATUS_TAKEPEND : Fld.width .PAIR_STATUS_TAKEPEND = 1 := rfl
@[simp] theorem width_PAIR_STATUS_SNAPPEND : Fld.width .PAIR_STATUS_SNAPPEND = 1 := rfl
@[simp] theorem width_PAIR_STATUS_REFUSED : Fld.width .PAIR_STATUS_REFUSED = 1 := rfl
@[simp] theorem width_PAIR_STATUS_SNAPFAIL : Fld.width .PAIR_STATUS_SNAPFAIL = 1 := rfl
@[simp] theorem width_PAIR_STATUS_CONFLICT : Fld.width .PAIR_STATUS_CONFLICT = 1 := rfl
@[simp] theorem width_PAIR_STATUS_BADALIGN : Fld.width .PAIR_STATUS_BADALIGN = 1 := rfl
@[simp] theorem width_PAIR_STATUS_TOOLATE : Fld.width .PAIR_STATUS_TOOLATE = 1 := rfl
@[simp] theorem width_PAIR_HMISS : Fld.width .PAIR_HMISS = 32 := rfl
@[simp] theorem width_PAIR_ACTSINCE : Fld.width .PAIR_ACTSINCE = 64 := rfl
@[simp] theorem width_PAIR_SNAP_AT : Fld.width .PAIR_SNAP_AT = 64 := rfl
@[simp] theorem width_PAIR_RGN_BASE : Fld.width .PAIR_RGN_BASE = 14 := rfl
@[simp] theorem width_PAIR_RGN_CNT : Fld.width .PAIR_RGN_CNT = 11 := rfl
@[simp] theorem width_PAIR_MISMATCH : Fld.width .PAIR_MISMATCH = 32 := rfl
@[simp] theorem width_PAIR_DIG_BND : Fld.width .PAIR_DIG_BND = 32 := rfl
@[simp] theorem width_PAIR_DIG_OWN : Fld.width .PAIR_DIG_OWN = 32 := rfl
@[simp] theorem width_PAIR_DIG_PART : Fld.width .PAIR_DIG_PART = 32 := rfl
@[simp] theorem width_HP_CFG : Fld.width .HP_CFG = 1 := rfl
@[simp] theorem width_HP_STATUS_LINKUP : Fld.width .HP_STATUS_LINKUP = 1 := rfl
@[simp] theorem width_HP_STATUS_SPEED : Fld.width .HP_STATUS_SPEED = 2 := rfl
@[simp] theorem width_HP_STATUS_WIDTH : Fld.width .HP_STATUS_WIDTH = 3 := rfl
@[simp] theorem width_HOST_IPEND : Fld.width .HOST_IPEND = 32 := rfl
@[simp] theorem width_HOST_IMASK : Fld.width .HOST_IMASK = 32 := rfl
@[simp] theorem width_HOST_EVT : Fld.width .HOST_EVT = 14 := rfl
@[simp] theorem width_HP_TPEND_CMD : Fld.width .HP_TPEND_CMD = 16 := rfl
@[simp] theorem width_HP_TPEND_FLR : Fld.width .HP_TPEND_FLR = 1 := rfl
@[simp] theorem width_HP_GILLREQ_RESTART_TAIL : Fld.width .HP_GILLREQ_RESTART_TAIL = 1 := rfl
@[simp] theorem width_HP_GILLREQ_PEND : Fld.width .HP_GILLREQ_PEND = 1 := rfl
@[simp] theorem width_QSPI_STATUS_ERR : Fld.width .QSPI_STATUS_ERR = 1 := rfl
@[simp] theorem width_QSPI_STATUS_ABORT : Fld.width .QSPI_STATUS_ABORT = 1 := rfl
@[simp] theorem width_QSPI_STATUS_BADCMD : Fld.width .QSPI_STATUS_BADCMD = 1 := rfl
@[simp] theorem width_HP_ERRADDR_ADDR : Fld.width .HP_ERRADDR_ADDR = 40 := rfl
@[simp] theorem width_HP_ERRADDR_VALID : Fld.width .HP_ERRADDR_VALID = 1 := rfl
@[simp] theorem width_MBX_PI : Fld.width .MBX_PI = 7 := rfl
@[simp] theorem width_MBX_CI : Fld.width .MBX_CI = 7 := rfl
@[simp] theorem width_MBX_STAT_FILL : Fld.width .MBX_STAT_FILL = 7 := rfl
@[simp] theorem width_MBX_STAT_BADIDX : Fld.width .MBX_STAT_BADIDX = 1 := rfl
@[simp] theorem width_MBX_STAT_WRONGSIDE : Fld.width .MBX_STAT_WRONGSIDE = 1 := rfl
@[simp] theorem width_BAR2_XLAT_TARGET : Fld.width .BAR2_XLAT_TARGET = 16 := rfl
@[simp] theorem width_BAR2_XLAT_EN : Fld.width .BAR2_XLAT_EN = 1 := rfl
@[simp] theorem width_BAR2_XLAT_RO : Fld.width .BAR2_XLAT_RO = 1 := rfl
@[simp] theorem width_MSIX_ADDR : Fld.width .MSIX_ADDR = 32 := rfl
@[simp] theorem width_MSIX_UADDR : Fld.width .MSIX_UADDR = 32 := rfl
@[simp] theorem width_MSIX_DATA : Fld.width .MSIX_DATA = 32 := rfl
@[simp] theorem width_MSIX_CTRL : Fld.width .MSIX_CTRL = 1 := rfl
@[simp] theorem width_MSIX_PBA : Fld.width .MSIX_PBA = 32 := rfl
@[simp] theorem width_AXO_STATUS_TAIL : Fld.width .AXO_STATUS_TAIL = 2 := rfl
@[simp] theorem width_AXO_STATUS_TAILSIGN : Fld.width .AXO_STATUS_TAILSIGN = 1 := rfl
@[simp] theorem width_AXO_SHEDCNT : Fld.width .AXO_SHEDCNT = 32 := rfl
@[simp] theorem width_AXO_TWIN : Fld.width .AXO_TWIN = 5 := rfl
@[simp] theorem width_AXO_MEAS : Fld.width .AXO_MEAS = 32 := rfl
@[simp] theorem width_AXO_TAILSTAMP : Fld.width .AXO_TAILSTAMP = 64 := rfl
@[simp] theorem width_AXO_TAIL_CTL : Fld.width .AXO_TAIL_CTL = 1 := rfl
@[simp] theorem width_THERM_CFG_WARN : Fld.width .THERM_CFG_WARN = 8 := rfl
@[simp] theorem width_THERM_CFG_HOT : Fld.width .THERM_CFG_HOT = 8 := rfl
@[simp] theorem width_THERM_STATUS_TRIPPED : Fld.width .THERM_STATUS_TRIPPED = 1 := rfl
@[simp] theorem width_THERM_STATUS_SENSOR : Fld.width .THERM_STATUS_SENSOR = 3 := rfl
@[simp] theorem width_THERM_TEMP_TJ : Fld.width .THERM_TEMP_TJ = 12 := rfl
@[simp] theorem width_THERM_TEMP_VALID : Fld.width .THERM_TEMP_VALID = 1 := rfl
@[simp] theorem width_THERM_MAX : Fld.width .THERM_MAX = 12 := rfl
@[simp] theorem width_VMON : Fld.width .VMON = 12 := rfl
@[simp] theorem width_FLT_LIVE : Fld.width .FLT_LIVE = 32 := rfl
@[simp] theorem width_FLT_STICKY : Fld.width .FLT_STICKY = 32 := rfl
@[simp] theorem width_FLT_FIRST_CODE : Fld.width .FLT_FIRST_CODE = 5 := rfl
@[simp] theorem width_FLT_FIRST_SEV : Fld.width .FLT_FIRST_SEV = 2 := rfl
@[simp] theorem width_FLT_FIRST_VALID : Fld.width .FLT_FIRST_VALID = 1 := rfl
@[simp] theorem width_FLT_FIRST_CONCURRENT : Fld.width .FLT_FIRST_CONCURRENT = 1 := rfl
@[simp] theorem width_FLT_FIRST_CLEARED_BEFORE_READ : Fld.width .FLT_FIRST_CLEARED_BEFORE_READ = 1 := rfl
@[simp] theorem width_FLT_FIRST_INSTANCE : Fld.width .FLT_FIRST_INSTANCE = 16 := rfl
@[simp] theorem width_FLT_FIRST_STAMP : Fld.width .FLT_FIRST_STAMP = 64 := rfl
@[simp] theorem width_FLT_CNT : Fld.width .FLT_CNT = 32 := rfl
@[simp] theorem width_FLT_INJ_COUNT : Fld.width .FLT_INJ_COUNT = 16 := rfl
@[simp] theorem width_FLT_INJ_MASK : Fld.width .FLT_INJ_MASK = 8 := rfl
@[simp] theorem width_FLT_INJ_SEL : Fld.width .FLT_INJ_SEL = 2 := rfl
@[simp] theorem width_FLT_STATUS_LEVEL : Fld.width .FLT_STATUS_LEVEL = 2 := rfl
@[simp] theorem width_FLT_STATUS_TIRQ : Fld.width .FLT_STATUS_TIRQ = 1 := rfl
@[simp] theorem width_FLT_STATUS_GIRQ : Fld.width .FLT_STATUS_GIRQ = 1 := rfl
@[simp] theorem width_FLT_STATUS_ACK : Fld.width .FLT_STATUS_ACK = 1 := rfl
@[simp] theorem width_FLT_STATUS_LATEACK : Fld.width .FLT_STATUS_LATEACK = 1 := rfl
@[simp] theorem width_FLT_STATUS_NOTE : Fld.width .FLT_STATUS_NOTE = 1 := rfl
@[simp] theorem width_FLT_IEN : Fld.width .FLT_IEN = 32 := rfl
@[simp] theorem width_FLT_GRACE_T1 : Fld.width .FLT_GRACE_T1 = 16 := rfl
@[simp] theorem width_FLT_GRACE_T2 : Fld.width .FLT_GRACE_T2 = 16 := rfl
@[simp] theorem width_FLT_ESC_MINSEV : Fld.width .FLT_ESC_MINSEV = 2 := rfl
@[simp] theorem width_FLT_ESC_EN : Fld.width .FLT_ESC_EN = 1 := rfl
@[simp] theorem width_FLT_ESC_ACK2 : Fld.width .FLT_ESC_ACK2 = 1 := rfl
@[simp] theorem width_FLT_ESC_CLR3 : Fld.width .FLT_ESC_CLR3 = 1 := rfl
@[simp] theorem width_SUBNS : Fld.width .SUBNS = 4 := rfl
@[simp] theorem width_REFCLK_OK : Fld.width .REFCLK_OK = 1 := rfl
@[simp] theorem width_EP_T0 : Fld.width .EP_T0 = 64 := rfl
@[simp] theorem width_EP_CURV : Fld.width .EP_CURV = 1 := rfl
@[simp] theorem width_EP_RDY : Fld.width .EP_RDY = 65 := rfl
@[simp] theorem width_EP_ASGN : Fld.width .EP_ASGN = 65 := rfl
@[simp] theorem width_EP_PASSED : Fld.width .EP_PASSED = 64 := rfl
@[simp] theorem width_EP_PASST : Fld.width .EP_PASST = 64 := rfl
@[simp] theorem width_EP_OWED : Fld.width .EP_OWED = 1 := rfl
@[simp] theorem width_COMMIT_T : Fld.width .COMMIT_T = 64 := rfl
@[simp] theorem width_COMMIT_ACKS : Fld.width .COMMIT_ACKS = 16 := rfl
@[simp] theorem width_COMMIT_OWN : Fld.width .COMMIT_OWN = 1 := rfl
@[simp] theorem width_SNAP_T : Fld.width .SNAP_T = 64 := rfl
@[simp] theorem width_SNAPBUF : Fld.width .SNAPBUF = 64 := rfl
@[simp] theorem width_TX_MISS : Fld.width .TX_MISS = 65 := rfl
@[simp] theorem width_NEWT_NEXT : Fld.width .NEWT_NEXT = 13 := rfl
@[simp] theorem width_NEWT_REPT : Fld.width .NEWT_REPT = 17 := rfl
@[simp] theorem width_NEWT_STEP : Fld.width .NEWT_STEP = 1 := rfl
@[simp] theorem width_NEWT_SKIPBP : Fld.width .NEWT_SKIPBP = 1 := rfl
@[simp] theorem width_FLOW_BUSY : Fld.width .FLOW_BUSY = 1 := rfl
@[simp] theorem width_TONGUE_RR : Fld.width .TONGUE_RR = 3 := rfl
@[simp] theorem width_CROAK_FREEZING : Fld.width .CROAK_FREEZING = 1 := rfl
@[simp] theorem width_DOM_T0 : Fld.width .DOM_T0 = 64 := rfl
@[simp] theorem width_GRP_EN_EFF : Fld.width .GRP_EN_EFF = 1 := rfl
@[simp] theorem width_GRP_ABAND : Fld.width .GRP_ABAND = 1 := rfl
@[simp] theorem width_GRP_COPY : Fld.width .GRP_COPY = 1 := rfl
@[simp] theorem width_BUS_EN_EFF : Fld.width .BUS_EN_EFF = 1 := rfl
@[simp] theorem width_XSUM : Fld.width .XSUM = 96 := rfl
@[simp] theorem width_BUS_TERMS : Fld.width .BUS_TERMS = 32 := rfl
@[simp] theorem width_BUS_PSAT : Fld.width .BUS_PSAT = 1 := rfl
@[simp] theorem width_BUS_PNAN : Fld.width .BUS_PNAN = 1 := rfl
@[simp] theorem width_BUS_RELD : Fld.width .BUS_RELD = 1 := rfl
@[simp] theorem width_ASET_B : Fld.width .ASET_B = 64 := rfl
@[simp] theorem width_ASET_RCVD : Fld.width .ASET_RCVD = 7 := rfl
@[simp] theorem width_ASET_TERMS : Fld.width .ASET_TERMS = 32 := rfl
@[simp] theorem width_ASET_RED : Fld.width .ASET_RED = 1 := rfl
@[simp] theorem width_ASET_SUM : Fld.width .ASET_SUM = 96 := rfl
@[simp] theorem width_LF_RUNMODE : Fld.width .LF_RUNMODE = 1 := rfl
@[simp] theorem width_LF_RUNALL : Fld.width .LF_RUNALL = 1 := rfl
@[simp] theorem width_LF_RUNNEWTS : Fld.width .LF_RUNNEWTS = 32 := rfl
@[simp] theorem width_EFUSE_REP : Fld.width .EFUSE_REP = 16 := rfl
@[simp] theorem width_LF_FUSEB : Fld.width .LF_FUSEB = 8 := rfl
@[simp] theorem width_EFUSE_BAD : Fld.width .EFUSE_BAD = 1 := rfl
@[simp] theorem width_FAB_RR : Fld.width .FAB_RR = 5 := rfl
@[simp] theorem width_FAB_PARKED : Fld.width .FAB_PARKED = 6 := rfl
@[simp] theorem width_FAB_PARKPEND : Fld.width .FAB_PARKPEND = 1 := rfl
@[simp] theorem width_DMA_CLASS : Fld.width .DMA_CLASS = 4 := rfl
@[simp] theorem width_DMA_DOM : Fld.width .DMA_DOM = 4 := rfl
@[simp] theorem width_DMA_BYREG : Fld.width .DMA_BYREG = 1 := rfl
@[simp] theorem width_LINK_FLITS : Fld.width .LINK_FLITS = 8 := rfl
@[simp] theorem width_DMA_PHASE : Fld.width .DMA_PHASE = 2 := rfl
@[simp] theorem width_LINK_TRIES : Fld.width .LINK_TRIES = 2 := rfl
@[simp] theorem width_SAP_LFSR : Fld.width .SAP_LFSR = 32 := rfl
@[simp] theorem width_SAP_GOOD : Fld.width .SAP_GOOD = 2 := rfl
@[simp] theorem width_SAP_STOPPING : Fld.width .SAP_STOPPING = 1 := rfl
@[simp] theorem width_SAP_WAS : Fld.width .SAP_WAS = 4 := rfl
@[simp] theorem width_BR_STOPPING : Fld.width .BR_STOPPING = 1 := rfl
@[simp] theorem width_BR_WAS : Fld.width .BR_WAS = 4 := rfl
@[simp] theorem width_BR_BOPEN : Fld.width .BR_BOPEN = 65 := rfl
@[simp] theorem width_BR_N0 : Fld.width .BR_N0 = 65 := rfl
@[simp] theorem width_BR_S0 : Fld.width .BR_S0 = 65 := rfl
@[simp] theorem width_BR_BFLAGS : Fld.width .BR_BFLAGS = 8 := rfl
@[simp] theorem width_BR_BSTAMP : Fld.width .BR_BSTAMP = 64 := rfl
@[simp] theorem width_BR_IFLAGS : Fld.width .BR_IFLAGS = 8 := rfl
@[simp] theorem width_BR_ISTAMP : Fld.width .BR_ISTAMP = 64 := rfl
@[simp] theorem width_REF_LEVEL : Fld.width .REF_LEVEL = 1 := rfl
@[simp] theorem width_REF_RAW : Fld.width .REF_RAW = 1 := rfl
@[simp] theorem width_REF_RAWT : Fld.width .REF_RAWT = 64 := rfl
@[simp] theorem width_REF_RAWP : Fld.width .REF_RAWP = 1 := rfl
@[simp] theorem width_REF_E1 : Fld.width .REF_E1 = 64 := rfl
@[simp] theorem width_REF_E2 : Fld.width .REF_E2 = 64 := rfl
@[simp] theorem width_REF_NE : Fld.width .REF_NE = 2 := rfl
@[simp] theorem width_REF_GEDGES : Fld.width .REF_GEDGES = 32 := rfl
@[simp] theorem width_REF_GREJ : Fld.width .REF_GREJ = 32 := rfl
@[simp] theorem width_REF_GHIT : Fld.width .REF_GHIT = 1 := rfl
@[simp] theorem width_REF_GCLEAN : Fld.width .REF_GCLEAN = 1 := rfl
@[simp] theorem width_REF_GDIRTY : Fld.width .REF_GDIRTY = 1 := rfl
@[simp] theorem width_REF_HOLDT : Fld.width .REF_HOLDT = 64 := rfl
@[simp] theorem width_SW_EDGES : Fld.width .SW_EDGES = 2 := rfl
@[simp] theorem width_SW_FREERUN : Fld.width .SW_FREERUN = 1 := rfl
@[simp] theorem width_HO_LOCKT : Fld.width .HO_LOCKT = 32 := rfl
@[simp] theorem width_HO_FROZEN : Fld.width .HO_FROZEN = 1 := rfl
@[simp] theorem width_PBO_ACC : Fld.width .PBO_ACC = 30 := rfl
@[simp] theorem width_FO_NEXT : Fld.width .FO_NEXT = 128 := rfl
@[simp] theorem width_FO_FALL : Fld.width .FO_FALL = 128 := rfl
@[simp] theorem width_FO_HIGH : Fld.width .FO_HIGH = 1 := rfl
@[simp] theorem width_FO_REALIGN : Fld.width .FO_REALIGN = 1 := rfl
@[simp] theorem width_GPIO_RAW : Fld.width .GPIO_RAW = 1 := rfl
@[simp] theorem width_GPIO_RAWT : Fld.width .GPIO_RAWT = 64 := rfl
@[simp] theorem width_GPIO_RAWP : Fld.width .GPIO_RAWP = 1 := rfl
@[simp] theorem width_GPIO_GEDGES : Fld.width .GPIO_GEDGES = 32 := rfl
@[simp] theorem width_GPIO_GREJ : Fld.width .GPIO_GREJ = 32 := rfl
@[simp] theorem width_MDLL_T0 : Fld.width .MDLL_T0 = 64 := rfl
@[simp] theorem width_MDLL_AFTERLOSS : Fld.width .MDLL_AFTERLOSS = 1 := rfl
@[simp] theorem width_MDLL_COMPAT : Fld.width .MDLL_COMPAT = 1 := rfl
@[simp] theorem width_MAC_TSEQ : Fld.width .MAC_TSEQ = 16 := rfl
@[simp] theorem width_MAC_PAUSEQ : Fld.width .MAC_PAUSEQ = 17 := rfl
@[simp] theorem width_MAC_PAUSET : Fld.width .MAC_PAUSET = 16 := rfl
@[simp] theorem width_TXQ_FETCH : Fld.width .TXQ_FETCH = 12 := rfl
@[simp] theorem width_MAC_AN : Fld.width .MAC_AN = 1 := rfl
@[simp] theorem width_STX_STOPPING : Fld.width .STX_STOPPING = 1 := rfl
@[simp] theorem width_SRX_SEQ : Fld.width .SRX_SEQ = 16 := rfl
@[simp] theorem width_SRX_SEQV : Fld.width .SRX_SEQV = 1 := rfl
@[simp] theorem width_SRX_VALID : Fld.width .SRX_VALID = 1 := rfl
@[simp] theorem width_SRX_MISSD : Fld.width .SRX_MISSD = 1 := rfl
@[simp] theorem width_SRX_BFLAGS : Fld.width .SRX_BFLAGS = 8 := rfl
@[simp] theorem width_SRX_BSTAMP : Fld.width .SRX_BSTAMP = 64 := rfl
@[simp] theorem width_SRX_BN0 : Fld.width .SRX_BN0 = 65 := rfl
@[simp] theorem width_WAKE_N_PIN : Fld.width .WAKE_N_PIN = 1 := rfl
@[simp] theorem width_PHC_RSEC : Fld.width .PHC_RSEC = 48 := rfl
@[simp] theorem width_PHC_RNS : Fld.width .PHC_RNS = 30 := rfl
@[simp] theorem width_PHC_RFRAC : Fld.width .PHC_RFRAC = 40 := rfl
@[simp] theorem width_PHC_F : Fld.width .PHC_F = 32 := rfl
@[simp] theorem width_SERVO_GOODN : Fld.width .SERVO_GOODN = 8 := rfl
@[simp] theorem width_MAP_STEPD : Fld.width .MAP_STEPD = 1 := rfl
@[simp] theorem width_TS_ACT : Fld.width .TS_ACT = 1 := rfl
@[simp] theorem width_TS_NSEC : Fld.width .TS_NSEC = 48 := rfl
@[simp] theorem width_TS_NNS : Fld.width .TS_NNS = 30 := rfl
@[simp] theorem width_BIRAY_DLY : Fld.width .BIRAY_DLY = 1 := rfl
@[simp] theorem width_RING_STEPPED : Fld.width .RING_STEPPED = 1 := rfl
@[simp] theorem width_RING_HASADDR : Fld.width .RING_HASADDR = 1 := rfl
@[simp] theorem width_RING_TRIES : Fld.width .RING_TRIES = 2 := rfl
@[simp] theorem width_RING_TOKEN : Fld.width .RING_TOKEN = 1 := rfl
@[simp] theorem width_RING_TH : Fld.width .RING_TH = 64 := rfl
@[simp] theorem width_RING_HDOM : Fld.width .RING_HDOM = 64 := rfl
@[simp] theorem width_RING_HPH : Fld.width .RING_HPH = 32 := rfl
@[simp] theorem width_RING_ASGNT : Fld.width .RING_ASGNT = 65 := rfl
@[simp] theorem width_BIRAY_DISCW : Fld.width .BIRAY_DISCW = 1 := rfl
@[simp] theorem width_RING_ALIGN : Fld.width .RING_ALIGN = 1 := rfl
@[simp] theorem width_PAIR_ACTREQ : Fld.width .PAIR_ACTREQ = 1 := rfl
@[simp] theorem width_PAIR_TRIG : Fld.width .PAIR_TRIG = 1 := rfl
@[simp] theorem width_PAIR_YIELD : Fld.width .PAIR_YIELD = 1 := rfl
@[simp] theorem width_PAIR_YIELDAT : Fld.width .PAIR_YIELDAT = 64 := rfl
@[simp] theorem width_PAIR_PBND : Fld.width .PAIR_PBND = 65 := rfl
@[simp] theorem width_PAIR_PBND2 : Fld.width .PAIR_PBND2 = 65 := rfl
@[simp] theorem width_PAIR_PSYNC : Fld.width .PAIR_PSYNC = 2 := rfl
@[simp] theorem width_PAIR_QUIET : Fld.width .PAIR_QUIET = 2 := rfl
@[simp] theorem width_PAIR_ACTQ : Fld.width .PAIR_ACTQ = 2 := rfl
@[simp] theorem width_PAIR_YIELDB : Fld.width .PAIR_YIELDB = 65 := rfl
@[simp] theorem width_PORT_DOWNT : Fld.width .PORT_DOWNT = 65 := rfl
@[simp] theorem width_PAIR_PROLE : Fld.width .PAIR_PROLE = 2 := rfl
@[simp] theorem width_PAIR_PESC : Fld.width .PAIR_PESC = 2 := rfl
@[simp] theorem width_PAIR_PADDR : Fld.width .PAIR_PADDR = 4 := rfl
@[simp] theorem width_PAIR_MISSN : Fld.width .PAIR_MISSN = 2 := rfl
@[simp] theorem width_PAIR_EQ : Fld.width .PAIR_EQ = 5 := rfl
@[simp] theorem width_PAIR_DIG : Fld.width .PAIR_DIG = 32 := rfl
@[simp] theorem width_PAIR_DIGB : Fld.width .PAIR_DIGB = 65 := rfl
@[simp] theorem width_DIG_ACC : Fld.width .DIG_ACC = 32 := rfl
@[simp] theorem width_PAIR_APPL : Fld.width .PAIR_APPL = 1 := rfl
@[simp] theorem width_PAIR_SNAPACK : Fld.width .PAIR_SNAPACK = 1 := rfl
@[simp] theorem width_PAIR_TD : Fld.width .PAIR_TD = 64 := rfl
@[simp] theorem width_PAIR_TDV : Fld.width .PAIR_TDV = 1 := rfl
@[simp] theorem width_MIRROR_ENDV : Fld.width .MIRROR_ENDV = 1 := rfl
@[simp] theorem width_MIRROR_GEN : Fld.width .MIRROR_GEN = 32 := rfl
@[simp] theorem width_TAIL_SHEDDING : Fld.width .TAIL_SHEDDING = 1 := rfl
@[simp] theorem width_TAIL_SHED : Fld.width .TAIL_SHED = 1 := rfl
@[simp] theorem width_PCIE_D3 : Fld.width .PCIE_D3 = 1 := rfl
@[simp] theorem width_PCIE_MSIXEN : Fld.width .PCIE_MSIXEN = 1 := rfl
@[simp] theorem width_PCIE_FMASK : Fld.width .PCIE_FMASK = 1 := rfl
@[simp] theorem width_QSPI_CMD : Fld.width .QSPI_CMD = 9 := rfl
@[simp] theorem width_QSPI_NIB : Fld.width .QSPI_NIB = 3 := rfl
@[simp] theorem width_QSPI_BAD : Fld.width .QSPI_BAD = 1 := rfl
@[simp] theorem width_FLT_T0 : Fld.width .FLT_T0 = 64 := rfl
@[simp] theorem width_FLT_READT : Fld.width .FLT_READT = 64 := rfl
@[simp] theorem width_STRAP_BOOTSRC : Fld.width .STRAP_BOOTSRC = 2 := rfl
@[simp] theorem width_STRAP_TESTMODE : Fld.width .STRAP_TESTMODE = 1 := rfl
@[simp] theorem width_IN_PORST : Fld.width .IN_PORST = 1 := rfl
@[simp] theorem width_SNAP_BUSY : Fld.width .SNAP_BUSY = 1 := rfl
@[simp] theorem width_SNAP_PAGE : Fld.width .SNAP_PAGE = 1 := rfl
@[simp] theorem width_SNAP_PGE : Fld.width .SNAP_PGE = 1 := rfl
@[simp] theorem width_SNAP_ERASING : Fld.width .SNAP_ERASING = 1 := rfl
@[simp] theorem width_SNAP_SLEEP : Fld.width .SNAP_SLEEP = 1 := rfl
@[simp] theorem width_SLEEP_ACK_PIN : Fld.width .SLEEP_ACK_PIN = 1 := rfl
@[simp] theorem width_WAKE_ONLY : Fld.width .WAKE_ONLY = 1 := rfl
@[simp] theorem width_AON_LANE : Fld.width .AON_LANE = 1 := rfl
@[simp] theorem width_TONGUE_TICKET : Fld.width .TONGUE_TICKET = 64 := rfl
@[simp] theorem width_DRAIN_SENT : Fld.width .DRAIN_SENT = 1 := rfl
@[simp] theorem width_EP_SEEN : Fld.width .EP_SEEN = 65 := rfl
@[simp] theorem width_REL_ORDER : Fld.width .REL_ORDER = 65 := rfl
@[simp] theorem width_BUS_WRITTEN : Fld.width .BUS_WRITTEN = 65 := rfl
@[simp] theorem width_DMA_EADDR : Fld.width .DMA_EADDR = 40 := rfl
@[simp] theorem width_DMA_DESC : Fld.width .DMA_DESC = 32 := rfl
@[simp] theorem width_NEWT_DONET : Fld.width .NEWT_DONET = 64 := rfl
@[simp] theorem width_CSF_READY : Fld.width .CSF_READY = 1 := rfl
@[simp] theorem width_CSF_EVMASK : Fld.width .CSF_EVMASK = 32 := rfl
@[simp] theorem width_CSF_EVSEQ : Fld.width .CSF_EVSEQ = 16 := rfl
@[simp] theorem width_CSF_EVLOST : Fld.width .CSF_EVLOST = 32 := rfl
@[simp] theorem width_CSF_TXID : Fld.width .CSF_TXID = 32 := rfl
@[simp] theorem width_IMG_STATE : Fld.width .IMG_STATE = 2 := rfl
@[simp] theorem width_IMG_SIZE : Fld.width .IMG_SIZE = 32 := rfl
@[simp] theorem width_IMG_CRC : Fld.width .IMG_CRC = 32 := rfl
@[simp] theorem width_CSF_SNAPEV : Fld.width .CSF_SNAPEV = 1 := rfl
@[simp] theorem width_HOLD_KIND : Fld.width .HOLD_KIND = 2 := rfl
@[simp] theorem width_HOLD_REG : Fld.width .HOLD_REG = 36 := rfl
@[simp] theorem width_HOLD_VAL : Fld.width .HOLD_VAL = 32 := rfl
@[simp] theorem width_PCIE_MSE : Fld.width .PCIE_MSE = 1 := rfl
@[simp] theorem width_PCIE_MPS : Fld.width .PCIE_MPS = 3 := rfl
@[simp] theorem width_PCIE_URD : Fld.width .PCIE_URD = 1 := rfl
@[simp] theorem width_PCIE_UESTA : Fld.width .PCIE_UESTA = 32 := rfl
@[simp] theorem width_PCIE_UEMASK : Fld.width .PCIE_UEMASK = 32 := rfl
@[simp] theorem width_PCIE_UESEV : Fld.width .PCIE_UESEV = 32 := rfl
@[simp] theorem width_BOOT_STEP : Fld.width .BOOT_STEP = 3 := rfl
@[simp] theorem width_BOOT_WAIT : Fld.width .BOOT_WAIT = 8 := rfl
@[simp] theorem width_RING_STEPT : Fld.width .RING_STEPT = 64 := rfl
@[simp] theorem width_CSF_HOLDACK : Fld.width .CSF_HOLDACK = 1 := rfl
@[simp] theorem width_CSF_SNAPROLE : Fld.width .CSF_SNAPROLE = 8 := rfl
@[simp] theorem width_CSF_SNAPSYNC : Fld.width .CSF_SNAPSYNC = 8 := rfl
@[simp] theorem width_CSF_SNAPSINCE : Fld.width .CSF_SNAPSINCE = 64 := rfl
@[simp] theorem width_PFAIL_PIN : Fld.width .PFAIL_PIN = 1 := rfl
@[simp] theorem width_PCIE_PERST : Fld.width .PCIE_PERST = 1 := rfl
@[simp] theorem width_BOOT_SET : Fld.width .BOOT_SET = 2 := rfl
@[simp] theorem width_PCIE_BAR0 : Fld.width .PCIE_BAR0 = 64 := rfl
@[simp] theorem width_PCIE_BAR2 : Fld.width .PCIE_BAR2 = 64 := rfl
@[simp] theorem width_CSF_UPAIR : Fld.width .CSF_UPAIR = 8 := rfl
@[simp] theorem width_CSF_PTPDOM : Fld.width .CSF_PTPDOM = 8 := rfl
@[simp] theorem width_CSF_PTPSYNC : Fld.width .CSF_PTPSYNC = 8 := rfl
@[simp] theorem width_LOST_CYC : Fld.width .LOST_CYC = 64 := rfl
@[simp] theorem width_POST_ACC : Fld.width .POST_ACC = 64 := rfl
@[simp] theorem width_FLOW_RR : Fld.width .FLOW_RR = 5 := rfl
@[simp] theorem width_RING_AHEAD : Fld.width .RING_AHEAD = 1 := rfl
@[simp] theorem width_RING_MIS : Fld.width .RING_MIS = 1 := rfl
@[simp] theorem width_NEWT_LAST : Fld.width .NEWT_LAST = 13 := rfl
@[simp] theorem width_NEWT_CLRT : Fld.width .NEWT_CLRT = 64 := rfl
@[simp] theorem width_SAP_DIRTY : Fld.width .SAP_DIRTY = 1 := rfl
@[simp] theorem width_DOM_EDGET : Fld.width .DOM_EDGET = 64 := rfl
@[simp] theorem width_HO_ACC : Fld.width .HO_ACC = 96 := rfl
@[simp] theorem width_HO_ACCN : Fld.width .HO_ACCN = 64 := rfl
@[simp] theorem width_HO_AVG : Fld.width .HO_AVG = 32 := rfl
@[simp] theorem width_HO_UPD : Fld.width .HO_UPD = 8 := rfl
@[simp] theorem width_PTP_JUMP : Fld.width .PTP_JUMP = 1 := rfl
@[simp] theorem width_TS_OFFT : Fld.width .TS_OFFT = 64 := rfl
@[simp] theorem width_TS_JUMP : Fld.width .TS_JUMP = 1 := rfl
@[simp] theorem width_PHC_SLVBAD : Fld.width .PHC_SLVBAD = 1 := rfl
@[simp] theorem width_CSF_TURN : Fld.width .CSF_TURN = 4 := rfl
@[simp] theorem width_MBX_PIOLD : Fld.width .MBX_PIOLD = 7 := rfl
@[simp] theorem width_MBX_CIOLD : Fld.width .MBX_CIOLD = 7 := rfl
@[simp] theorem width_NEWT_HALTT : Fld.width .NEWT_HALTT = 64 := rfl
@[simp] theorem width_FLT_LASTC : Fld.width .FLT_LASTC = 5 := rfl
@[simp] theorem width_FLT_LASTI : Fld.width .FLT_LASTI = 16 := rfl
@[simp] theorem width_FLT_LASTN : Fld.width .FLT_LASTN = 1 := rfl
@[simp] theorem width_FLT_LASTT : Fld.width .FLT_LASTT = 64 := rfl
@[simp] theorem width_SERVO_OFFT : Fld.width .SERVO_OFFT = 64 := rfl
@[simp] theorem width_DIG_RING : Fld.width .DIG_RING = 32 := rfl
@[simp] theorem width_DIG_RINGB : Fld.width .DIG_RINGB = 65 := rfl
@[simp] theorem width_DIG_PART : Fld.width .DIG_PART = 32 := rfl
@[simp] theorem width_DIG_PARTB : Fld.width .DIG_PARTB = 33 := rfl
@[simp] theorem width_DIG_CMP : Fld.width .DIG_CMP = 33 := rfl
@[simp] theorem width_RING_OVER : Fld.width .RING_OVER = 1 := rfl
@[simp] theorem width_RING_TAGN : Fld.width .RING_TAGN = 8 := rfl
@[simp] theorem width_RING_UPSTEP : Fld.width .RING_UPSTEP = 1 := rfl

end Sys2Proof.Machine
end

