-- ==== Sys2Proof/Laws/State.lean ====
section
/-! SUPPORT. What the named updates leave alone: one lemma for each part of the state. -/

namespace Sys2Proof.Machine

variable (s : State) (f : Fld) (d i v : Nat)

@[simp] theorem State.put_mem : (s.put f d i v).mem = s.mem := by unfold State.put; split <;> rfl
@[simp] theorem State.put_errs : (s.put f d i v).errs = s.errs := by unfold State.put; split <;> rfl
@[simp] theorem State.put_conds : (s.put f d i v).conds = s.conds := by unfold State.put; split <;> rfl
@[simp] theorem State.put_sent : (s.put f d i v).sent = s.sent := by unfold State.put; split <;> rfl
@[simp] theorem State.put_queue : (s.put f d i v).queue = s.queue := by unfold State.put; split <;> rfl
@[simp] theorem State.put_claims : (s.put f d i v).claims = s.claims := by unfold State.put; split <;> rfl
@[simp] theorem State.put_croak : (s.put f d i v).croak = s.croak := by unfold State.put; split <;> rfl
@[simp] theorem State.put_ready : (s.put f d i v).ready = s.ready := by unfold State.put; split <;> rfl
@[simp] theorem State.put_kicks : (s.put f d i v).kicks = s.kicks := by unfold State.put; split <;> rfl
@[simp] theorem State.put_busyAcc : (s.put f d i v).busyAcc = s.busyAcc := by unfold State.put; split <;> rfl
@[simp] theorem State.put_locks : (s.put f d i v).locks = s.locks := by unfold State.put; split <;> rfl
@[simp] theorem State.put_badFlits : (s.put f d i v).badFlits = s.badFlits := by unfold State.put; split <;> rfl
@[simp] theorem State.put_due : (s.put f d i v).due = s.due := by unfold State.put; split <;> rfl
@[simp] theorem State.put_resp : (s.put f d i v).resp = s.resp := by unfold State.put; split <;> rfl
@[simp] theorem State.put_answer : (s.put f d i v).answer = s.answer := by unfold State.put; split <;> rfl
@[simp] theorem State.put_deferred : (s.put f d i v).deferred = s.deferred := by unfold State.put; split <;> rfl
@[simp] theorem State.put_bundles : (s.put f d i v).bundles = s.bundles := by unfold State.put; split <;> rfl
@[simp] theorem State.put_boards : (s.put f d i v).boards = s.boards := by unfold State.put; split <;> rfl
@[simp] theorem State.put_blocks : (s.put f d i v).blocks = s.blocks := by unfold State.put; split <;> rfl
@[simp] theorem State.put_ports : (s.put f d i v).ports = s.ports := by unfold State.put; split <;> rfl
@[simp] theorem State.put_sapBlks : (s.put f d i v).sapBlks = s.sapBlks := by unfold State.put; split <;> rfl
@[simp] theorem State.put_phc : (s.put f d i v).phc = s.phc := by unfold State.put; split <;> rfl
@[simp] theorem State.put_hists : (s.put f d i v).hists = s.hists := by unfold State.put; split <;> rfl
@[simp] theorem State.put_macTx : (s.put f d i v).macTx = s.macTx := by unfold State.put; split <;> rfl
@[simp] theorem State.put_macLine : (s.put f d i v).macLine = s.macLine := by unfold State.put; split <;> rfl
@[simp] theorem State.put_tsf : (s.put f d i v).tsf = s.tsf := by unfold State.put; split <;> rfl
@[simp] theorem State.put_built : (s.put f d i v).built = s.built := by unfold State.put; split <;> rfl
@[simp] theorem State.put_stx : (s.put f d i v).stx = s.stx := by unfold State.put; split <;> rfl
@[simp] theorem State.put_mirror : (s.put f d i v).mirror = s.mirror := by unfold State.put; split <;> rfl
@[simp] theorem State.put_remote : (s.put f d i v).remote = s.remote := by unfold State.put; split <;> rfl
@[simp] theorem State.put_hostQ : (s.put f d i v).hostQ = s.hostQ := by unfold State.put; split <;> rfl
@[simp] theorem State.put_image : (s.put f d i v).image = s.image := by unfold State.put; split <;> rfl
@[simp] theorem State.put_snaps : (s.put f d i v).snaps = s.snaps := by unfold State.put; split <;> rfl
@[simp] theorem State.put_txs : (s.put f d i v).txs = s.txs := by unfold State.put; split <;> rfl
@[simp] theorem State.put_scenes : (s.put f d i v).scenes = s.scenes := by unfold State.put; split <;> rfl
@[simp] theorem State.put_events : (s.put f d i v).events = s.events := by unfold State.put; split <;> rfl
@[simp] theorem State.put_faultLog : (s.put f d i v).faultLog = s.faultLog := by unfold State.put; split <;> rfl
@[simp] theorem State.put_starts : (s.put f d i v).starts = s.starts := by unfold State.put; split <;> rfl
@[simp] theorem State.put_freeCtr : (s.put f d i v).freeCtr = s.freeCtr := by unfold State.put; split <;> rfl
@[simp] theorem State.put_pending : (s.put f d i v).pending = s.pending := by unfold State.put; split <;> rfl

@[simp] theorem State.send_cells (m : Msg) : (s.send m).cells = s.cells := rfl
@[simp] theorem State.send_mem (m : Msg) : (s.send m).mem = s.mem := rfl
@[simp] theorem State.send_errs (m : Msg) : (s.send m).errs = s.errs := rfl
@[simp] theorem State.send_conds (m : Msg) : (s.send m).conds = s.conds := rfl
@[simp] theorem State.send_queue (m : Msg) : (s.send m).queue = s.queue := rfl
@[simp] theorem State.send_claims (m : Msg) : (s.send m).claims = s.claims := rfl
@[simp] theorem State.send_croak (m : Msg) : (s.send m).croak = s.croak := rfl
@[simp] theorem State.send_ready (m : Msg) : (s.send m).ready = s.ready := rfl
@[simp] theorem State.send_kicks (m : Msg) : (s.send m).kicks = s.kicks := rfl
@[simp] theorem State.send_busyAcc (m : Msg) : (s.send m).busyAcc = s.busyAcc := rfl
@[simp] theorem State.send_locks (m : Msg) : (s.send m).locks = s.locks := rfl
@[simp] theorem State.send_badFlits (m : Msg) : (s.send m).badFlits = s.badFlits := rfl
@[simp] theorem State.send_due (m : Msg) : (s.send m).due = s.due := rfl
@[simp] theorem State.send_resp (m : Msg) : (s.send m).resp = s.resp := rfl
@[simp] theorem State.send_answer (m : Msg) : (s.send m).answer = s.answer := rfl
@[simp] theorem State.send_deferred (m : Msg) : (s.send m).deferred = s.deferred := rfl
@[simp] theorem State.send_bundles (m : Msg) : (s.send m).bundles = s.bundles := rfl
@[simp] theorem State.send_boards (m : Msg) : (s.send m).boards = s.boards := rfl
@[simp] theorem State.send_blocks (m : Msg) : (s.send m).blocks = s.blocks := rfl
@[simp] theorem State.send_ports (m : Msg) : (s.send m).ports = s.ports := rfl
@[simp] theorem State.send_sapBlks (m : Msg) : (s.send m).sapBlks = s.sapBlks := rfl
@[simp] theorem State.send_phc (m : Msg) : (s.send m).phc = s.phc := rfl
@[simp] theorem State.send_hists (m : Msg) : (s.send m).hists = s.hists := rfl
@[simp] theorem State.send_macTx (m : Msg) : (s.send m).macTx = s.macTx := rfl
@[simp] theorem State.send_macLine (m : Msg) : (s.send m).macLine = s.macLine := rfl
@[simp] theorem State.send_tsf (m : Msg) : (s.send m).tsf = s.tsf := rfl
@[simp] theorem State.send_built (m : Msg) : (s.send m).built = s.built := rfl
@[simp] theorem State.send_stx (m : Msg) : (s.send m).stx = s.stx := rfl
@[simp] theorem State.send_mirror (m : Msg) : (s.send m).mirror = s.mirror := rfl
@[simp] theorem State.send_remote (m : Msg) : (s.send m).remote = s.remote := rfl
@[simp] theorem State.send_hostQ (m : Msg) : (s.send m).hostQ = s.hostQ := rfl
@[simp] theorem State.send_image (m : Msg) : (s.send m).image = s.image := rfl
@[simp] theorem State.send_snaps (m : Msg) : (s.send m).snaps = s.snaps := rfl
@[simp] theorem State.send_txs (m : Msg) : (s.send m).txs = s.txs := rfl
@[simp] theorem State.send_scenes (m : Msg) : (s.send m).scenes = s.scenes := rfl
@[simp] theorem State.send_events (m : Msg) : (s.send m).events = s.events := rfl
@[simp] theorem State.send_faultLog (m : Msg) : (s.send m).faultLog = s.faultLog := rfl
@[simp] theorem State.send_starts (m : Msg) : (s.send m).starts = s.starts := rfl
@[simp] theorem State.send_freeCtr (m : Msg) : (s.send m).freeCtr = s.freeCtr := rfl
@[simp] theorem State.send_pending (m : Msg) : (s.send m).pending = s.pending := rfl
@[simp] theorem State.send_sent (m : Msg) : (s.send m).sent = s.sent ++ [m] := rfl

@[simp] theorem State.drawn_cells : s.drawn.cells = s.cells := rfl
@[simp] theorem State.drawn_mem : s.drawn.mem = s.mem := rfl
@[simp] theorem State.drawn_errs : s.drawn.errs = s.errs := rfl
@[simp] theorem State.drawn_conds : s.drawn.conds = s.conds := rfl
@[simp] theorem State.drawn_sent : s.drawn.sent = s.sent := rfl
@[simp] theorem State.drawn_queue : s.drawn.queue = s.queue := rfl
@[simp] theorem State.drawn_claims : s.drawn.claims = s.claims := rfl
@[simp] theorem State.drawn_croak : s.drawn.croak = s.croak := rfl
@[simp] theorem State.drawn_ready : s.drawn.ready = s.ready := rfl
@[simp] theorem State.drawn_kicks : s.drawn.kicks = s.kicks := rfl
@[simp] theorem State.drawn_busyAcc : s.drawn.busyAcc = s.busyAcc := rfl
@[simp] theorem State.drawn_locks : s.drawn.locks = s.locks := rfl
@[simp] theorem State.drawn_badFlits : s.drawn.badFlits = s.badFlits := rfl
@[simp] theorem State.drawn_due : s.drawn.due = s.due := rfl
@[simp] theorem State.drawn_resp : s.drawn.resp = s.resp := rfl
@[simp] theorem State.drawn_answer : s.drawn.answer = s.answer := rfl
@[simp] theorem State.drawn_deferred : s.drawn.deferred = s.deferred := rfl
@[simp] theorem State.drawn_bundles : s.drawn.bundles = s.bundles := rfl
@[simp] theorem State.drawn_boards : s.drawn.boards = s.boards := rfl
@[simp] theorem State.drawn_blocks : s.drawn.blocks = s.blocks := rfl
@[simp] theorem State.drawn_ports : s.drawn.ports = s.ports := rfl
@[simp] theorem State.drawn_sapBlks : s.drawn.sapBlks = s.sapBlks := rfl
@[simp] theorem State.drawn_phc : s.drawn.phc = s.phc := rfl
@[simp] theorem State.drawn_hists : s.drawn.hists = s.hists := rfl
@[simp] theorem State.drawn_macTx : s.drawn.macTx = s.macTx := rfl
@[simp] theorem State.drawn_macLine : s.drawn.macLine = s.macLine := rfl
@[simp] theorem State.drawn_tsf : s.drawn.tsf = s.tsf := rfl
@[simp] theorem State.drawn_built : s.drawn.built = s.built := rfl
@[simp] theorem State.drawn_stx : s.drawn.stx = s.stx := rfl
@[simp] theorem State.drawn_mirror : s.drawn.mirror = s.mirror := rfl
@[simp] theorem State.drawn_remote : s.drawn.remote = s.remote := rfl
@[simp] theorem State.drawn_hostQ : s.drawn.hostQ = s.hostQ := rfl
@[simp] theorem State.drawn_image : s.drawn.image = s.image := rfl
@[simp] theorem State.drawn_snaps : s.drawn.snaps = s.snaps := rfl
@[simp] theorem State.drawn_txs : s.drawn.txs = s.txs := rfl
@[simp] theorem State.drawn_scenes : s.drawn.scenes = s.scenes := rfl
@[simp] theorem State.drawn_events : s.drawn.events = s.events := rfl
@[simp] theorem State.drawn_faultLog : s.drawn.faultLog = s.faultLog := rfl
@[simp] theorem State.drawn_starts : s.drawn.starts = s.starts := rfl
@[simp] theorem State.drawn_pending : s.drawn.pending = s.pending := rfl
@[simp] theorem State.drawn_freeCtr : s.drawn.freeCtr = s.freeCtr + 1 := rfl

@[simp] theorem State.reply_cells (x : Nat) (e : Bool) : (s.reply x e).cells = s.cells := rfl
@[simp] theorem State.reply_mem (x : Nat) (e : Bool) : (s.reply x e).mem = s.mem := rfl
@[simp] theorem State.reply_errs (x : Nat) (e : Bool) : (s.reply x e).errs = s.errs := rfl
@[simp] theorem State.reply_conds (x : Nat) (e : Bool) : (s.reply x e).conds = s.conds := rfl
@[simp] theorem State.reply_sent (x : Nat) (e : Bool) : (s.reply x e).sent = s.sent := rfl
@[simp] theorem State.reply_queue (x : Nat) (e : Bool) : (s.reply x e).queue = s.queue := rfl
@[simp] theorem State.reply_claims (x : Nat) (e : Bool) : (s.reply x e).claims = s.claims := rfl
@[simp] theorem State.reply_croak (x : Nat) (e : Bool) : (s.reply x e).croak = s.croak := rfl
@[simp] theorem State.reply_ready (x : Nat) (e : Bool) : (s.reply x e).ready = s.ready := rfl
@[simp] theorem State.reply_kicks (x : Nat) (e : Bool) : (s.reply x e).kicks = s.kicks := rfl
@[simp] theorem State.reply_busyAcc (x : Nat) (e : Bool) : (s.reply x e).busyAcc = s.busyAcc := rfl
@[simp] theorem State.reply_locks (x : Nat) (e : Bool) : (s.reply x e).locks = s.locks := rfl
@[simp] theorem State.reply_badFlits (x : Nat) (e : Bool) : (s.reply x e).badFlits = s.badFlits := rfl
@[simp] theorem State.reply_due (x : Nat) (e : Bool) : (s.reply x e).due = s.due := rfl
@[simp] theorem State.reply_resp (x : Nat) (e : Bool) : (s.reply x e).resp = s.resp := rfl
@[simp] theorem State.reply_deferred (x : Nat) (e : Bool) : (s.reply x e).deferred = s.deferred := rfl
@[simp] theorem State.reply_bundles (x : Nat) (e : Bool) : (s.reply x e).bundles = s.bundles := rfl
@[simp] theorem State.reply_boards (x : Nat) (e : Bool) : (s.reply x e).boards = s.boards := rfl
@[simp] theorem State.reply_blocks (x : Nat) (e : Bool) : (s.reply x e).blocks = s.blocks := rfl
@[simp] theorem State.reply_ports (x : Nat) (e : Bool) : (s.reply x e).ports = s.ports := rfl
@[simp] theorem State.reply_sapBlks (x : Nat) (e : Bool) : (s.reply x e).sapBlks = s.sapBlks := rfl
@[simp] theorem State.reply_phc (x : Nat) (e : Bool) : (s.reply x e).phc = s.phc := rfl
@[simp] theorem State.reply_hists (x : Nat) (e : Bool) : (s.reply x e).hists = s.hists := rfl
@[simp] theorem State.reply_macTx (x : Nat) (e : Bool) : (s.reply x e).macTx = s.macTx := rfl
@[simp] theorem State.reply_macLine (x : Nat) (e : Bool) : (s.reply x e).macLine = s.macLine := rfl
@[simp] theorem State.reply_tsf (x : Nat) (e : Bool) : (s.reply x e).tsf = s.tsf := rfl
@[simp] theorem State.reply_built (x : Nat) (e : Bool) : (s.reply x e).built = s.built := rfl
@[simp] theorem State.reply_stx (x : Nat) (e : Bool) : (s.reply x e).stx = s.stx := rfl
@[simp] theorem State.reply_mirror (x : Nat) (e : Bool) : (s.reply x e).mirror = s.mirror := rfl
@[simp] theorem State.reply_remote (x : Nat) (e : Bool) : (s.reply x e).remote = s.remote := rfl
@[simp] theorem State.reply_hostQ (x : Nat) (e : Bool) : (s.reply x e).hostQ = s.hostQ := rfl
@[simp] theorem State.reply_image (x : Nat) (e : Bool) : (s.reply x e).image = s.image := rfl
@[simp] theorem State.reply_snaps (x : Nat) (e : Bool) : (s.reply x e).snaps = s.snaps := rfl
@[simp] theorem State.reply_txs (x : Nat) (e : Bool) : (s.reply x e).txs = s.txs := rfl
@[simp] theorem State.reply_scenes (x : Nat) (e : Bool) : (s.reply x e).scenes = s.scenes := rfl
@[simp] theorem State.reply_events (x : Nat) (e : Bool) : (s.reply x e).events = s.events := rfl
@[simp] theorem State.reply_faultLog (x : Nat) (e : Bool) : (s.reply x e).faultLog = s.faultLog := rfl
@[simp] theorem State.reply_starts (x : Nat) (e : Bool) : (s.reply x e).starts = s.starts := rfl
@[simp] theorem State.reply_freeCtr (x : Nat) (e : Bool) : (s.reply x e).freeCtr = s.freeCtr := rfl
@[simp] theorem State.reply_pending (x : Nat) (e : Bool) : (s.reply x e).pending = s.pending := rfl
@[simp] theorem State.reply_answer (x : Nat) (e : Bool) : (s.reply x e).answer = ⟨x, e⟩ := rfl

@[simp] theorem State.send_get (m : Msg) (g : Fld) (e j : Nat) : (s.send m).get g e j = s.get g e j := rfl
@[simp] theorem State.drawn_get (g : Fld) (e j : Nat) : s.drawn.get g e j = s.get g e j := rfl
@[simp] theorem State.reply_get (x : Nat) (b : Bool) (g : Fld) (e j : Nat) : (s.reply x b).get g e j = s.get g e j := rfl
@[simp] theorem State.put_byte (e a : Nat) : (s.put f d i v).byte e a = s.byte e a := by simp [State.byte]
@[simp] theorem State.send_byte (m : Msg) (e a : Nat) : (s.send m).byte e a = s.byte e a := rfl
@[simp] theorem State.setByte_get (e a : Nat) (x : Byte) (g : Fld) (j k : Nat) : (s.setByte e a x).get g j k = s.get g j k := rfl

theorem State.when_true {c : Prop} [Decidable c] (h : c) (g : State → State) : s.when c g = g s := if_pos h
theorem State.when_false {c : Prop} [Decidable c] (h : ¬ c) (g : State → State) : s.when c g = s := if_neg h

/-- A property kept by an update is kept by the update under a condition. -/
theorem State.when_keeps {P : State → Prop} {c : Prop} [Decidable c] {g : State → State} (h : P s) (hg : P (g s)) :
    P (s.when c g) := by
  unfold State.when; split <;> assumption

/-- A property kept by each update is kept by all of them in turn. -/
theorem State.each_keeps {α : Type} {P : State → Prop} {l : List α} {g : α → State → State} (h : P s)
    (hg : ∀ a ∈ l, ∀ t, P t → P (g a t)) : P (s.each l g) := by
  unfold State.each
  induction l generalizing s with
  | nil => exact h
  | cons a l ih =>
    exact ih (g a s) (hg a (by simp) s h) fun b hb => hg b (by simp [hb])

/-- Nothing changes. -/
theorem State.Changes.refl : s.Changes s [] := ⟨fun _ => rfl, rfl⟩

/-- A write of one cell more. -/
theorem State.Changes.put {s t : State} {l : List (Loc × Nat)} (h : s.Changes t l) (f : Fld) (d i v : Nat)
    (hv : v < 2 ^ f.width) : s.Changes (t.put f d i v) ((⟨f, d, i⟩, v) :: l) := by
  refine ⟨fun c => ?_, ?_⟩
  · rw [State.get_put, Cells.find]
    by_cases hc : Loc.mk f d i = c
    · subst hc; simp [Nat.mod_eq_of_lt hv]
    · have : ¬ (c.fld = f ∧ c.die = d ∧ c.inst = i) := by rintro ⟨rfl, rfl, rfl⟩; exact hc rfl
      rw [if_neg this, if_neg hc, h.1 c]
  · rw [← h.2]; unfold State.put; split <;> simp [h.2]

end Sys2Proof.Machine
end

