-- ==== Sys2Proof/WellFormed.lean ====
section
/-! DEFINITION. What a command may carry: each operand within the range the spec gives it. -/

namespace Sys2Proof

/-- The fields of a port access are in range. -/
def PortAccess.ok (p : PortAccess) : Bool := p.master < 64 && p.en < 2 ^ 16 && p.data < 2 ^ 128

/-- What an access of the L slot meets is in range: each word at most once, in clutch SRAM. -/
def AccessMeets.ok (q : AccessMeets) : Bool :=
  q.fab < 256 && q.lost < 256 && q.cut < 8 && q.met.length ≤ 8 && q.met.all fun x => x.word % 16 == 0 && x.word < 2 ^ 25 && x.access.ok

/-- The fields of a bank test outcome are in range. -/
def BankTest.ok (o : BankTest) : Bool :=
  o.bank < 256 && o.rows.all (fun r => r < 512) && o.spareBad < 16 && o.first < 516 && o.word < 16 && o.bit < 144

/-- The data of another unit's answer is a word. -/
def FarAnswer.ok : FarAnswer → Bool
  | .data v => v < 2 ^ 32
  | .refused | .timeout => true

/-- The fields of a Biray frame are in range (R355). -/
def BFrame.ok (f : BFrame) : Bool :=
  f.src < 16 && f.dst < 16 && f.wrap < 2 && f.hops < 64 && f.w.length ≤ 7 && f.w.all (fun x => x < 2 ^ 32) &&
    f.payload.length ≤ 1024 && f.payload.length % 16 == 0 && f.payload.all (fun x => x < 256)

/-- What a graph image names and places is in range. -/
def GraphImage.ok (g : GraphImage) : Bool :=
  g.params.all (fun p => p.index < 2 ^ 24 && p.dom < 3 && p.die < 8 && p.a0 < 2 ^ 32 && p.a1 < 2 ^ 32 &&
    p.init.all (fun x => x < 2 ^ 32)) &&
  g.routes.all (fun r => r.index < 2 ^ 24 && r.dom < 3 && r.die < 6 && r.xp < 2 ^ 15 && r.init.length == 4 &&
    r.init.all (fun x => x < 2 ^ 32)) &&
  g.meters.all (fun m => m.index < 2 ^ 24 && m.dom < 3 && m.die < 8 && m.addr < 2 ^ 32) &&
  g.paths.all (fun p => p.index < 2 ^ 24 && p.dom < 3 && p.own < 2 ^ 64 && p.sections.all (fun x => x < 256) && p.bridges.all (fun b => b < 256) &&
    p.streams.all (fun x => x < 256)) &&
  g.sources.all (fun x => x.index < 2 ^ 24 && x.die < 8 && x.addr < 2 ^ 32) &&
  g.places.all (fun p => p.die < 8 && p.addr < 2 ^ 32 && p.bytes.all (fun x => x < 256)) &&
  g.grants.all (fun x => x.die < 8 && x.cls < 3)

/-- Every operand of the command is one the spec admits. -/
def Instr.wellFormed : Instr → Bool
  | .registerWrite mdie port addr data tie => mdie < 8 && port < 32 && addr < 2^40 && data < 2^32 && tie < 2^32
  | .rcRegisterRead mdie port addr tie before => mdie < 8 && port < 32 && addr < 2^40 && tie < 2^32 && before < 2^32
  | .reg64LowRead mdie port addr tie => mdie < 8 && port < 32 && addr < 2^40 && tie < 2^64
  | .reg64LowWrite mdie port addr data => mdie < 8 && port < 32 && addr < 2^40 && data < 2^32
  | .reg64HighWrite mdie port addr data tie => mdie < 8 && port < 32 && addr < 2^40 && data < 2^32 && tie < 2^64
  | .fabricAccess mdie port addr _ len data rivals far tie before =>
    mdie < 8 && port < 32 && addr < 2^40 && len ≤ 256 && data < 2 ^ (8 * len) && rivals.all (fun x => x < 32) &&
      far.all (fun x => x < 32) && tie < 2^64 && before < 2^32
  | .domcntIncrement dom meas => dom < 3 && meas.all (fun q => q.bridge < 256 && q.ratio < 2 ^ 32)
  | .epochBoundary dom => dom < 3
  | .epochDispatch dom => dom < 3
  | .epochStartReceipt die dom boundary _ => die < 8 && dom < 3 && boundary < 2 ^ 64
  | .dieDrainReport die dom => die < 8 && dom < 3
  | .drainReportReceipt die dom boundary _ => die < 8 && dom < 3 && boundary < 2 ^ 64
  | .epochEnable dom => dom < 3
  | .epochStop dom => dom < 3
  | .commitArm dom => dom < 3
  | .commitCancel dom => dom < 3
  | .snapArm dom => dom < 3
  | .snapCancel dom => dom < 3
  | .commitAckDeadline dom => dom < 3
  | .instructionFetch die newt _ => die < 8 && newt < 32
  | .illegalEncoding die newt => die < 8 && newt < 32
  | .breakpointMatch die newt => die < 8 && newt < 32
  | .vmac die newt _ d a b p _ _ _ => die < 8 && newt < 32 && d < 8 && a < 32 && b < 32 && p < 4
  | .vfma die newt _ d a b p _ => die < 8 && newt < 32 && d < 32 && a < 32 && b < 32 && p < 4
  | .vmul die newt _ d a b p _ => die < 8 && newt < 32 && d < 32 && a < 32 && b < 32 && p < 4
  | .vadd die newt _ d a b p _ => die < 8 && newt < 32 && d < 32 && a < 32 && b < 32 && p < 4
  | .vsub die newt _ d a b p _ => die < 8 && newt < 32 && d < 32 && a < 32 && b < 32 && p < 4
  | .vmin die newt _ d a b p _ => die < 8 && newt < 32 && d < 32 && a < 32 && b < 32 && p < 4
  | .vmax die newt _ d a b p _ => die < 8 && newt < 32 && d < 32 && a < 32 && b < 32 && p < 4
  | .vabs die newt _ d a p => die < 8 && newt < 32 && d < 32 && a < 32 && p < 4
  | .vneg die newt _ d a p => die < 8 && newt < 32 && d < 32 && a < 32 && p < 4
  | .vcmp die newt _ d a b p _ cond => die < 8 && newt < 32 && d < 4 && a < 32 && b < 32 && p < 4 && cond < 8
  | .vsel die newt _ d a b p => die < 8 && newt < 32 && d < 32 && a < 32 && b < 32 && p < 4
  | .vrnd die newt _ d a p _ => die < 8 && newt < 32 && d < 32 && a < 8 && p < 4
  | .vglide die newt _ d a b p => die < 8 && newt < 32 && d < 32 && a < 32 && b < 32 && p < 4
  | .rcps die newt _ d a p => die < 8 && newt < 32 && d < 32 && a < 32 && p < 4
  | .divi die newt _ d a b p => die < 8 && newt < 32 && d < 32 && a < 32 && b < 32 && p < 4
  | .divs die newt _ d b p => die < 8 && newt < 32 && d < 32 && b < 32 && p < 4
  | .divf die newt _ d a b p => die < 8 && newt < 32 && d < 32 && a < 32 && b < 32 && p < 4
  | .vcvt die newt _ d a p _ shift => die < 8 && newt < 32 && d < 32 && a < 32 && p < 4 && shift < 32
  | .vld die newt _ r ar p sm smi um u io =>
    die < 8 && newt < 32 && r < 32 && ar < 16 && p < 4 && sm < 4 && smi < 4 && um < 4 && u < 128 && io.ok
  | .vst die newt _ r ar p sm smi um u io =>
    die < 8 && newt < 32 && r < 32 && ar < 16 && p < 4 && sm < 4 && smi < 4 && um < 4 && u < 128 && io.ok
  | .lds die newt _ r ar um u io => die < 8 && newt < 32 && r < 16 && ar < 16 && um < 4 && u < 128 && io.ok
  | .sts die newt _ r ar um u io => die < 8 && newt < 32 && r < 16 && ar < 16 && um < 4 && u < 128 && io.ok
  | .adda die newt _ ar um u => die < 8 && newt < 32 && ar < 16 && um < 4 && u < 128
  | .nop die newt _ => die < 8 && newt < 32
  | .saluAdd die newt _ d a b => die < 8 && newt < 32 && d < 16 && a < 16 && b < 16
  | .saluSub die newt _ d a b => die < 8 && newt < 32 && d < 16 && a < 16 && b < 16
  | .saluAnd die newt _ d a b => die < 8 && newt < 32 && d < 16 && a < 16 && b < 16
  | .saluOr die newt _ d a b => die < 8 && newt < 32 && d < 16 && a < 16 && b < 16
  | .saluXor die newt _ d a b => die < 8 && newt < 32 && d < 16 && a < 16 && b < 16
  | .saluShl die newt _ d a b => die < 8 && newt < 32 && d < 16 && a < 16 && b < 16
  | .saluShr die newt _ d a b => die < 8 && newt < 32 && d < 16 && a < 16 && b < 16
  | .saluSra die newt _ d a b => die < 8 && newt < 32 && d < 16 && a < 16 && b < 16
  | .saluMul die newt _ d a b => die < 8 && newt < 32 && d < 16 && a < 16 && b < 16
  | .saluMin die newt _ d a b => die < 8 && newt < 32 && d < 16 && a < 16 && b < 16
  | .saluMax die newt _ d a b => die < 8 && newt < 32 && d < 16 && a < 16 && b < 16
  | .saluSlt die newt _ d a b => die < 8 && newt < 32 && d < 16 && a < 16 && b < 16
  | .saluSltu die newt _ d a b => die < 8 && newt < 32 && d < 16 && a < 16 && b < 16
  | .saddi die newt _ d a imm => die < 8 && newt < 32 && d < 16 && a < 16 && imm < 65536
  | .ldil die newt _ d imm => die < 8 && newt < 32 && d < 16 && imm < 65536
  | .ldih die newt _ d imm => die < 8 && newt < 32 && d < 16 && imm < 65536
  | .movr die newt _ df di sf si => die < 8 && newt < 32 && df < 8 && di < 16 && sf < 8 && si < 16
  | .vext die newt _ v sreg lane => die < 8 && newt < 32 && v < 32 && sreg < 16 && lane < 8
  | .vins die newt _ v sreg lane => die < 8 && newt < 32 && v < 32 && sreg < 16 && lane < 8
  | .br die newt _ tgt => die < 8 && newt < 32 && tgt < 8192
  | .brc die newt _ cond a tgt => die < 8 && newt < 32 && cond < 8 && a < 16 && tgt < 8192
  | .call die newt _ tgt => die < 8 && newt < 32 && tgt < 8192
  | .ret die newt _ => die < 8 && newt < 32
  | .rept die newt _ _ a n => die < 8 && newt < 32 && a < 16 && n < 65536
  | .loopTop die newt _ _ n tgt => die < 8 && newt < 32 && n < 1024 && tgt < 8192
  | .endl die newt _ => die < 8 && newt < 32
  | .sig die newt _ a b => die < 8 && newt < 32 && a < 16 && b < 16
  | .done die newt _ => die < 8 && newt < 32
  | .halt die newt _ => die < 8 && newt < 32
  | .completionReport die newt => die < 8 && newt < 32
  | .parkReq die newt => die < 8 && newt < 32
  | .unpark die newt => die < 8 && newt < 32
  | .haltReq die newt => die < 8 && newt < 32
  | .resume die newt => die < 8 && newt < 32
  | .step die newt => die < 8 && newt < 32
  | .abort die newt => die < 8 && newt < 32
  | .newtClrCnt die newt => die < 8 && newt < 32
  | .dbgRegisterAccess mdie port addr _ data => mdie < 8 && port < 32 && addr < 2^40 && data < 2^32
  | .newtReset die newt => die < 8 && newt < 32
  | .postArrival srcDie port die clutch slot flags srcDom =>
    srcDie < 8 && port < 32 && die < 8 && clutch < 4 && slot < 256 && flags < 2 ^ 31 && srcDom < 4
  | .dispatchDecision die clutch rivals => die < 8 && clutch < 4 && rivals.all (fun x => x < 24)
  | .flowClaim die clutch slot flow rivals =>
    die < 8 && clutch < 4 && slot < 256 && flow < 1024 && rivals.all (fun x => x < 24)
  | .claimResponse die clutch slot flow _ => die < 8 && clutch < 4 && slot < 256 && flow < 1024
  | .flowRelease flow die clutch => flow < 1024 && die < 8 && clutch < 4
  | .flowReplicaUpdate die flow _ => die < 8 && flow < 1024
  | .lateMarkerReceipt die dom => die < 8 && dom < 3
  | .croakEntryWrite die clutch _ => die < 8 && clutch < 4
  | .croakFreeze die clutch => die < 8 && clutch < 4
  | .croakFrozen die clutch => die < 8 && clutch < 4
  | .croakResume die clutch => die < 8 && clutch < 4
  | .slotEnable die clutch slot mode prio dom flow =>
    die < 8 && clutch < 4 && slot < 256 && mode < 2 && prio < 32 && dom < 3 && flow < 1024
  | .slotDisable die clutch slot => die < 8 && clutch < 4 && slot < 256
  | .slotClrFlags die clutch slot => die < 8 && clutch < 4 && slot < 256
  | .slotClrPend die clutch slot => die < 8 && clutch < 4 && slot < 256
  | .slotClrAff die clutch slot => die < 8 && clutch < 4 && slot < 256
  | .tongueClrCnt die clutch => die < 8 && clutch < 4
  | .chorusKick die group => die < 6 && group < 256
  | .groupRunStart die => die < 6
  | .groupRunEnd die => die < 6
  | .partialRelease die dom stage => die < 6 && dom < 3 && stage < 8
  | .partialArrival die bus dom boundary sums terms _ _ =>
    die < 6 && bus < 512 && dom < 3 && boundary < 2 ^ 64 && sums.all (fun x => x < 2 ^ 96) && terms < 2 ^ 32
  | .busBlockComplete die bus boundary => die < 6 && bus < 512 && boundary < 2 ^ 64
  | .releaseOrderReceipt die dom boundary => die < 8 && dom < 3 && boundary < 2 ^ 64
  | .bankAccess die word a b => die < 8 && word < 2 ^ 25 && a.ok && b.ok
  | .aliasWrite die word port _ mine other => die < 8 && word < 2 ^ 25 && port < 2 && mine.ok && other.ok
  | .busyRetry die word port other => die < 8 && word < 2 ^ 25 && port < 2 && other.ok
  | .lfStart die mode all newts bank => die < 8 && mode < 2 && all < 2 && newts < 2 && bank < 256
  | .lfAbort die => die < 8
  | .lfDone die outcomes newtFail newtWaddr newtBit =>
    die < 8 && outcomes.all BankTest.ok && newtFail < 2 ^ 32 && newtWaddr < 2^21 && newtBit < 144
  | .fuseBurn die bank => die < 8 && bank < 256
  | .fuseBurnDone die verified => die < 8 && verified < 16
  | .fabParkApply die target => die < 8 && target < 11
  | .dmaAbort die engine moved len written _ => die < 8 && engine < 8 && moved < 2 ^ 24 && len < 17 && written < 17
  | .dmaStart die engine desc cls => die < 8 && engine < 8 && desc < 2 ^ 20 && cls < 10
  | .dmaDescriptorRead die engine => die < 8 && engine < 8
  | .dmaDescriptorComplete die engine _ => die < 8 && engine < 8
  | .dmaError die engine => die < 8 && engine < 8
  | .linkRetrain die link _ => die < 8 && link < 4
  | .linkTrainingDone die link cyc => die < 8 && link < 4 && cyc < 64
  | .flitReceipt die link _ masks _ => die < 8 && link < 4 && masks.all (fun x => x < 2 ^ 96)
  | .sapEnable die port sec cfg => 6 ≤ die && die < 8 && port < 32 && sec < 2 && cfg < 2 ^ 19 && cfg % 2 == 1
  | .sapDisable die port sec => 6 ≤ die && die < 8 && port < 32 && sec < 2
  | .sapStop die port sec => 6 ≤ die && die < 8 && port < 32 && sec < 2
  | .sapFrameStart die port sec bclks fs => 6 ≤ die && die < 8 && port < 32 && sec < 2 && bclks < 2^32 && fs < 2
  | .sapRxFrame die port words => 6 ≤ die && die < 8 && port < 32 && words.all (fun x => x < 2 ^ 96)
  | .sapTxFrameStart die port => 6 ≤ die && die < 8 && port < 32
  | .groupSlipMessage die group _ => 6 ≤ die && die < 8 && group < 16
  | .sapLostTimeout die port sec => 6 ≤ die && die < 8 && port < 32 && sec < 2
  | .slotmaskStage die port sec mask => 6 ≤ die && die < 8 && port < 32 && sec < 2 && mask < 2^32
  | .mediaClockLockStart dom rate ring => dom < 3 && rate < 16 && ring < 2
  | .mediaClockStop dom rate ring => dom < 3 && rate < 16 && ring < 2
  | .mediaClockLocked dom => dom < 3
  | .bridgeEnable die bridge cfg => 6 ≤ die && die < 8 && bridge < 128 && cfg < 2 ^ 10 && cfg % 2 == 1
  | .bridgeDisable die bridge => 6 ≤ die && die < 8 && bridge < 128
  | .bridgeOff die bridge => 6 ≤ die && die < 8 && bridge < 128
  | .bridgeTrackLock die bridge ratio => 6 ≤ die && die < 8 && bridge < 128 && ratio < 2^32
  | .refRawChange gpio die input level =>
    gpio < 2 && 6 ≤ die && die < 8 && input < (if gpio = 0 then 8 else 16) && level < 2
  | .inputEdgeAccept gpio die input phase errs =>
    gpio < 2 && 6 ≤ die && die < 8 && input < (if gpio = 0 then 10 else 16) && phase < 2^32 && errs.all (fun q
      => q.1 < 4 && q.2 < 2 ^ 32)
  | .refLos ref => ref < 10
  | .refStuck gpio die input => gpio < 2 && 6 ≤ die && die < 8 && input < (if gpio = 0 then 8 else 16)
  | .monitorGateEnd gpio die input freq =>
    gpio < 2 && 6 ≤ die && die < 8 && input < (if gpio = 0 then 10 else 16) && freq < 2^32
  | .refQualify ref => ref < 10
  | .refselConfigWrite which value => which < 11 && value < (if which < 10 then 16 else 128)
  | .refEnable ref pol rank => ref < 10 && pol < 2 && rank < 16
  | .dpllLock => true
  | .dpllUnlock => true
  | .holdoverUpdate => true
  | .xoLost => true
  | .xoRestore phase => phase < 2^32
  | .frameOutEnable out pol square src => out < 4 && pol < 2 && square < 2 && src < 16
  | .frameOutDisable out => out < 4
  | .frameOutRealign out write offset => out < 4 && write < 2 && offset < 2^32
  | .mdllRelock die lost => die < 8 && lost.all (fun q => q.1 < 4)
  | .mdllSearchEnd die band limit => die < 8 && band < 16 && limit < 2
  | .mdllLockComplete die pherr => die < 8 && pherr < 2^16
  | .mdllLol die lost => die < 8 && lost.all (fun q => q.1 < 4)
  | .mdllRefloss die lost => die < 8 && lost.all (fun q => q.1 < 4)
  | .refclkReturn die => die < 8
  | .macModeWrite die mac cfg => 6 ≤ die && die < 8 && mac < 4 && cfg < 2^22
  | .anrestart die mac => 6 ≤ die && die < 8 && mac < 4
  | .macLinkChange die mac up => 6 ≤ die && die < 8 && mac < 4 && up < 2
  | .txqPiWrite die mac queue idx => 6 ≤ die && die < 8 && mac < 4 && queue < 8 && idx < 4096
  | .macFrameAdmit die mac queue stream => 6 ≤ die && die < 8 && mac < 4 && queue < 8 && stream < 129
  | .macTxStart die mac dev => 6 ≤ die && die < 8 && mac < 4 && dev < 11
  | .macTxComplete die mac => 6 ≤ die && die < 8 && mac < 4
  | .pauseExpiry die mac => 6 ≤ die && die < 8 && mac < 4
  | .launchTimeReached die mac queue => 6 ≤ die && die < 8 && mac < 4 && queue < 8
  | .macReset die mac addr len beats =>
    6 ≤ die && die < 8 && mac < 4 && addr < 2^24 && len < 17 && beats.length ≤ 16 && beats.all (fun x => x < 2 ^
      128)
  | .clrTsovf die mac => 6 ≤ die && die < 8 && mac < 4
  | .tsfPop die mac => 6 ≤ die && die < 8 && mac < 4
  | .macRxFrame die mac frame err full dev =>
    6 ≤ die && die < 8 && mac < 4 && frame.all (fun b => b < 256) && err < 2 && full < 2 && dev < 11
  | .streamTxEnable die stream dom mac queue => 6 ≤ die && die < 8 && stream < 128 && dom < 4 && mac < 4 && queue < 8
  | .streamRxEnable die stream dom mask srcchk =>
    6 ≤ die && die < 8 && stream < 128 && dom < 4 && mask < 16 && srcchk < 2
  | .streamDisable die rx stream => 6 ≤ die && die < 8 && rx < 2 && stream < 128
  | .streamStop die rx stream => 6 ≤ die && die < 8 && rx < 2 && stream < 128
  | .servoOffsetWrite theta _ => theta < 2^64
  | .stepAck => true
  | .servoClr => true
  | .phcSet die => 6 ≤ die && die < 8
  | .phcSnap die => 6 ≤ die && die < 8
  | .phcChangeApply what => what < 4
  | .phcSlaveCheck => true
  | .servoHold => true
  | .tsyncArm out periodic pol => out < 4 && periodic < 2 && pol < 2
  | .tsyncDisable out => out < 4
  | .tsyncFire out => out < 4
  | .tsyncPulseEnd out => out < 4
  | .birayLinkUp die => 6 ≤ die && die < 8
  | .birayLinkDown die lanes => 6 ≤ die && die < 8 && lanes < 16
  | .birayRetrain die => 6 ≤ die && die < 8
  | .keepaliveSend die => 6 ≤ die && die < 8
  | .frameCrcFail die => 6 ≤ die && die < 8
  | .keepalive dir => dir < 2
  | .delay dir reply trip => dir < 2 && reply < 2 && trip < 2^32
  | .enum dir frame => dir < 2 && frame.ok
  | .join dir frame => dir < 2 && frame.ok
  | .assign dir frame => dir < 2 && frame.ok
  | .time dir frame stamp resid => dir < 2 && frame.ok && stamp < 2^64 && resid < 2^32
  | .health dir frame => dir < 2 && frame.ok
  | .commitFrame dir frame => dir < 2 && frame.ok
  | .partialFrame dir frame => dir < 2 && frame.ok
  | .mreq dir frame len => dir < 2 && frame.ok && len ≤ 256
  | .mrsp dir frame => dir < 2 && frame.ok
  | .mirror dir frame => dir < 2 && frame.ok
  | .undefinedFrameType dir type frame => dir < 2 && 12 ≤ type && type < 16 && frame.ok
  | .ringStep => true
  | .enumTimeout => true
  | .enumWaitTimeout => true
  | .ringReenumerate => true
  | .timeFrameSend pa pb pc => pa < 2^32 && pb < 2^32 && pc < 2^32
  | .healthTimer => true
  | .ringUnwrap die => 6 ≤ die && die < 8
  | .remoteAccessTimeout tag => tag < 256
  | .domcntAlign dom meas => dom < 3 && meas.all (fun q => q.bridge < 256 && q.ratio < 2 ^ 32)
  | .healthCopySend => true
  | .activate => true
  | .takeover => true
  | .pairSnapArm => true
  | .pairSnapCancel => true
  | .pairidWrite pairid auto isoyield => pairid < 256 && auto < 2 && isoyield < 2
  | .resyncAckDeadline => true
  | .mirrorApply dom => dom < 3
  | .tailShed addr len beats => addr < 2^40 && len < 17 && beats.length ≤ 16 && beats.all (fun x => x < 2 ^ 128)
  | .tailImageLoaded hash _ priv carve =>
    hash.length == 12 && hash.all (fun x => x < 2 ^ 32) && priv.all (fun x => x < 256) && carve.all (fun x => x
      < 256)
  | .tailResetRelease => true
  | .restartTail => true
  | .pcieMemoryRequest addr _ n en data => addr < 2^64 && n ≤ 128 && en < 2 ^ (4 * n) && data < 2 ^ (32 * n)
  | .flr addr len beats => addr < 2^40 && len < 17 && beats.length ≤ 16 && beats.all (fun x => x < 2 ^ 128)
  | .pciePerst level addr len beats =>
    level < 2 && addr < 2^40 && len < 17 && beats.length ≤ 16 && beats.all (fun x => x < 2 ^ 128)
  | .msixUnmask vector => vector < 33
  | .hostIpendClear mask events => mask < 2^32 && events < 2^32
  | .hostEvtWrite evt => evt < 2^14
  | .rd0 offset words nibbles late => offset < 2^32 && nibbles < 8 && late.all (fun x => x < words)
  | .wr0 offset data nibbles => offset < 2^32 && data.all (fun x => x < 2 ^ 32) && nibbles < 8
  | .rd2 offset words nibbles late => offset < 2^32 && nibbles < 8 && late.all (fun x => x < words)
  | .wr2 offset data nibbles => offset < 2^32 && data.all (fun x => x < 2 ^ 32) && nibbles < 8
  | .stat nibbles => nibbles < 8
  | .badCommand cmd => cmd < 256
  | .qspiCsRise => true
  | .mbxPiWrite ring idx cls _ => ring < 32 && idx < 128 && cls < 16
  | .mbxCiWrite ring idx cls _ => ring < 32 && idx < 128 && cls < 16
  | .unknownOpcode pair => pair < 16
  | .sysInfo pair => pair < 16
  | .sysStatus pair => pair < 16
  | .sysEvents pair => pair < 16
  | .sysRestartTail pair => pair < 16
  | .sysEcho pair => pair < 16
  | .graphLoadBegin pair => pair < 16
  | .graphLoadData pair => pair < 16
  | .graphLoadEnd pair image _ _ => pair < 16 && image.ok
  | .graphStart pair => pair < 16
  | .graphStop pair => pair < 16
  | .graphQueryLatency pair => pair < 16
  | .graphQueryBridge pair => pair < 16
  | .txBegin pair => pair < 16
  | .txSet pair => pair < 16
  | .txCommitAt pair far => pair < 16 && far.all FarAnswer.ok
  | .txArm dom far => dom < 3 && far.all FarAnswer.ok
  | .catchUp dom far => dom < 3 && far.all FarAnswer.ok
  | .txAbort pair far => pair < 16 && far.all FarAnswer.ok
  | .txStatus pair => pair < 16
  | .paramGet pair => pair < 16
  | .sceneStore pair far => pair < 16 && far.all FarAnswer.ok
  | .sceneRecall pair far => pair < 16 && far.all FarAnswer.ok
  | .sceneDelete pair => pair < 16
  | .sceneList pair => pair < 16
  | .routeSet pair far => pair < 16 && far.all FarAnswer.ok
  | .routeGet pair => pair < 16
  | .routeXflen pair far => pair < 16 && far.all FarAnswer.ok
  | .meterSnapshot pair => pair < 16
  | .meterRead pair => pair < 16
  | .clkDomainSet pair => pair < 16
  | .clkRefSet pair => pair < 16
  | .clkSelSet pair => pair < 16
  | .clkStatus pair => pair < 16
  | .netMacSet pair => pair < 16
  | .netPtpSet pair => pair < 16
  | .netStreamTx pair far => pair < 16 && far.all FarAnswer.ok
  | .netStreamRx pair => pair < 16
  | .netStatus pair => pair < 16
  | .pairSet pair => pair < 16
  | .pairActivate pair => pair < 16
  | .pairTakeover pair => pair < 16
  | .pairResync pair => pair < 16
  | .pairStatus pair => pair < 16
  | .faultList pair => pair < 16
  | .faultAck pair => pair < 16
  | .faultInject pair => pair < 16
  | .faultClear pair => pair < 16
  | .faultService die set => die < 8 && set < 1152
  | .fltStatusAck die set _ _ => die < 8 && set < 1152
  | .ack2 die set _ => die < 8 && set < 1152
  | .clr3 die set => die < 8 && set < 1152
  | .graceT1Expiry die set => die < 8 && set < 1152
  | .graceT2Expiry die set => die < 8 && set < 1152
  | .gillL2Check die set => die < 8 && set < 1152
  | .thermTrip die sensor tj _ => die < 8 && sensor < 8 && tj < 2^12
  | .thermalThreshold die sensor tj _ => die < 8 && sensor < 8 && tj < 2^12
  | .vmonThreshold die rail mv => die < 8 && rail < 4 && mv < 2^12
  | .porstAssert => true
  | .porstRelease bootsrc head hostsel test _ _ stage2 =>
    bootsrc < 4 && head < 2 && hostsel < 2 && test < 2 && stage2.length ≤ 262144 && stage2.all (fun x => x <
      256)
  | .pfailAccept => true
  | .snapshotProgramDone => true
  | .snapshotErase => true
  | .sleepEntry => true
  | .pcieLinkChange up speed width _ => up < 2 && speed < 4 && width < 8
  | .pcieConfigRequest reg _ data => reg < 1024 && data < 2^32
  | .ringPresentExpiry addr => addr < 16
  | .snapshotEraseDone => true
  | .frameOutEdge out => out < 4
  | .mdllLockTimeout die => die < 8
  | .sensorSelfCheckFailure die sensor => die < 8 && sensor < 8

end Sys2Proof
end

