-- ==== Sys2Proof/Tests/Slice0.lean ====
section
/-! SUPPORT. The model's own tests: expected results from the spec's examples and tables, and states that meet the premises of the
statements. -/

set_option Elab.async false

namespace Sys2Proof.Machine

/-- A small state: reset with these cells. -/
def demo (l : List (Loc × Nat)) : State := l.foldl (fun s c => s.put c.1.fld c.1.die c.1.inst c.2) State.reset

/-! ### Epochs -/

/-- Clocks and links of the package up, so that an epoch can be dispatched. -/
def demoUp (l : List (Loc × Nat)) : State :=
  demo ((allDies.map fun d => (⟨.MDLL_STATUS_OUT, d, 0⟩, 1)) ++
    (allDies.map fun d => (List.range 4).map fun k => (⟨.LINK_STATUS_STATE, d, k⟩, 2)).flatten ++ l)

/-- The hypotheses of `EpochEnableAndStop`, clause by clause. -/
theorem witness_EpochEnableAndStop :
    ((demo []).get .EPOCH_CFG_EN 6 2 = 0 ∧ (demo []).get .EPOCH_STATUS_RUN 6 2 = 0) ∧
    ((demo [(⟨.EPOCH_STATUS_RUN, 6, 0⟩, 1)]).get .EPOCH_CFG_EN 6 0 = 0 ∧
      (demo [(⟨.EPOCH_STATUS_RUN, 6, 0⟩, 1)]).get .EPOCH_STATUS_RUN 6 0 = 1) ∧
    (demo [(⟨.EPOCH_CFG_EN, 6, 0⟩, 1)]).get .EPOCH_CFG_EN 6 0 = 1 ∧
    ((demo [(⟨.EPOCH_CFG_EN, 6, 0⟩, 1), (⟨.EPOCH_STATUS_RUN, 6, 0⟩, 1)]).get .EPOCH_STATUS_RUN 6 0 = 1 ∧
      (demo [(⟨.EPOCH_CFG_EN, 6, 0⟩, 1), (⟨.EPOCH_STATUS_RUN, 6, 0⟩, 1)]).get .EPOCH_STATUS_DRAINED 6 0 = 0) ∧
    (demo [(⟨.EPOCH_CFG_EN, 6, 0⟩, 1), (⟨.EPOCH_STATUS_DRAINED, 6, 0⟩, 1)]).get .EPOCH_STATUS_DRAINED 6 0 = 1 ∧ (demoUp []).dieClocked 6 = true ∧
    (let s := (demoUp [(⟨.EP_CURV, 6, 0⟩, 1), (⟨.EPOCH_STATUS_RUN, 6, 0⟩, 1), (⟨.EPOCH_CUR, 6, 0⟩, 16), (⟨.EPOCH_STATUS_DIE_DRAINED, 6, 0⟩, 127)]).send
        (.drainReport 7 0 16 false 8)
     s.get .EPOCH_CFG_EN 6 0 = 0 ∧ s.get .EPOCH_STATUS_DRAINED 6 0 = 0 ∧ s.get .PAIR_STATUS_ROLE 6 0 = 0 ∧ s.get .EPOCH_CSTAT_SNAP_PEND 6 0 = 0 ∧
      s.nextOn (.drainReport 7 0 (s.get .EPOCH_CUR 6 0) false 8) = true ∧ setBits (s.get .EPOCH_STATUS_DIE_DRAINED 6 0) 7 1 1 = 255) := by decide +kernel

/-- R55 at its edges with B = 16: at DOMCNT 31 the earliest target is 48, at 32 it is 64. -/
theorem witness_CommitArmChecks :
    (demo [(⟨.TB_DOMCNT, 6, 0⟩, 31)]).commitRefused 0 48 = false ∧ (demo [(⟨.TB_DOMCNT, 6, 0⟩, 32)]).commitRefused 0 48 = true ∧
    (demo [(⟨.TB_DOMCNT, 6, 0⟩, 32)]).commitRefused 0 64 = false ∧ (demo []).commitRefused 0 40 = true ∧
    (demo [(⟨.EPOCH_CSTAT_COMMIT_PEND, 6, 0⟩, 1)]).commitRefused 0 64 = true := by decide +kernel

/-- The worked example of R55 to R57: a commit at 96,000 armed at DOMCNT 95,967 is pending. -/
theorem test_commitArm :
    Completes (.commitArm 0) (demoUp [(⟨.TB_DOMCNT, 6, 0⟩, 95967), (⟨.EPOCH_COMMIT_AT, 6, 0⟩, 96000)]) fun t =>
      t.get .EPOCH_CSTAT_COMMIT_PEND 6 0 = 1 ∧ t.get .COMMIT_T 6 0 = 96000 := ⟨_, rfl, by decide +kernel⟩

/-- R56: with T = 64 and B = 16, DOMCNT 47 is the last in time. -/
theorem witness_CommitCancelInTime :
    let s (c : Nat) := demo [(⟨.EPOCH_CSTAT_COMMIT_PEND, 6, 0⟩, 1), (⟨.EPOCH_CSTAT_SNAP_PEND, 6, 0⟩, 1), (⟨.COMMIT_T, 6, 0⟩, 64),
      (⟨.SNAP_T, 6, 0⟩, 64), (⟨.TB_DOMCNT, 6, 0⟩, c)]
    (s 47).cancelInTime 0 64 = true ∧ (s 48).cancelInTime 0 64 = false ∧ (s 47).get .COMMIT_T 6 0 = 64 ∧
      (s 47).get .SNAP_T 6 0 = 64 ∧ (s 47).get .EPOCH_CSTAT_COMMIT_PEND 6 0 = 1 ∧ (s 48).get .EPOCH_CSTAT_SNAP_PEND 6 0 = 1 := by
  decide +kernel

/-- The hypotheses of `EpochProgress`. -/
theorem witness_EpochProgress :
    ((demo [(⟨.DOM_STATUS_MLOCK, 6, 0⟩, 1), (⟨.TB_DOMCNT, 6, 0⟩, 14)]).get .DOM_STATUS_MLOCK 6 0 = 1 ∧
      (demo [(⟨.DOM_STATUS_MLOCK, 6, 0⟩, 1), (⟨.TB_DOMCNT, 6, 0⟩, 14)]).mayAlign 0 = false) ∧
    ((demo [(⟨.TB_DOMCNT, 6, 1⟩, 16)]).get .TB_DOMCNT 6 1 % (demo [(⟨.TB_DOMCNT, 6, 1⟩, 16)]).bsize 1 = 0 ∧
      (demo [(⟨.TB_DOMCNT, 6, 1⟩, 16)]).get .EP_PASSED 6 1 = 0) ∧
    ((demoUp [(⟨.EP_OWED, 6, 0⟩, 1), (⟨.EPOCH_CFG_EN, 6, 0⟩, 1), (⟨.EP_PASSED, 6, 0⟩, 16)]).mayDispatch 0 = true ∧
      (demoUp [(⟨.EP_OWED, 6, 0⟩, 1)]).resyncHolds 0 = false) ∧
    (demo [(⟨.EPOCH_SNAP_AT, 6, 0⟩, 32)]).snapRefused 0 32 = false ∧
    ((demoUp [(⟨.EP_SEEN, 7, 0⟩, 17)]).get .DRAIN_SENT 7 0 = 0 ∧ (demoUp [(⟨.EP_SEEN, 7, 0⟩, 17)]).dieClocked 7 = true ∧
      (demoUp [(⟨.EP_SEEN, 7, 0⟩, 17)]).dieDrained 7 0 = true) ∧
    ((((demoUp []).send (.epochStart 3 0 32 true)).nextOn (.epochStart 3 0 32 true) = true ∧
      ((demo []).send (.epochStart 3 0 32 true)).nextOn (.epochStart 3 0 32 true) = false ∧
      ((demoUp []).send (.drainReport 7 0 16 false 8)).nextOn (.drainReport 7 0 16 false 8) = true)) ∧
    (setBits ((demo [(⟨.EP_CURV, 6, 0⟩, 1), (⟨.EPOCH_STATUS_DIE_DRAINED, 6, 0⟩, 127)]).get .EPOCH_STATUS_DIE_DRAINED 6 0) 7 1 1 = 255) ∧
    ((demo [(⟨.EPOCH_CSTAT_COMMIT_PEND, 6, 0⟩, 1), (⟨.COMMIT_OWN, 6, 0⟩, 1), (⟨.RING_PRESENT, 6, 0⟩, 3)]).commitAcked 0 = false ∧
      (demo []).ringPart 0 = true) ∧
    (let s := demo [(⟨.DOM_STATUS_MLOCK, 6, 1⟩, 1), (⟨.RING_ALIGN, 6, 1⟩, 1), (⟨.DOM_CFG_RING, 6, 1⟩, 1), (⟨.RING_HDOM, 6, 1⟩, 90)]
     s.mayAlign 1 = true ∧ s.canonical = true ∧ s.ports = [] ∧ s.liveBridges = [] ∧ s.stx = [] ∧ s.starts = [] ∧ s.get .PAIR_TDV 6 0 = 0) := by decide +kernel

/-- R367: an alignment takes the head's count, here ahead of the own. -/
theorem test_domcntAlign :
    Completes (.domcntAlign 1 []) (demo [(⟨.DOM_STATUS_MLOCK, 6, 1⟩, 1), (⟨.RING_ALIGN, 6, 1⟩, 1), (⟨.DOM_CFG_RING, 6, 1⟩, 1), (⟨.RING_HDOM, 6, 1⟩, 90)])
      fun t => t.get .TB_DOMCNT 6 1 = 90 ∧ t.get .TB_DOMCNT 7 1 = 90 ∧ t.get .DOM_STATUS_AHEAD 6 1 = 0 := ⟨_, rfl, by decide +kernel⟩

/-- R43: an epoch start loads a gecko die's replica with its boundary. -/
theorem test_epochStartReceipt :
    Completes (.epochStartReceipt 3 0 96000 true) ((demoUp []).send (.epochStart 3 0 96000 true)) fun t =>
      t.get .TB_DOMCNT 3 0 = 96000 ∧ t.get .TB_GEN 3 0 = 1 := ⟨_, rfl, by decide +kernel⟩

/-! ### Newts -/

/-- A newt of the clocked die 5 in RUN at word 100, where PMEM holds the words `ws`, other cells as given. -/
def demoNewt (ws : List Nat) (l : List (Loc × Nat)) : State :=
  let s := demo ([(⟨.MDLL_STATUS_OUT, 5, 0⟩, 1), (⟨.NEWT_STATUS_STATE, 5, 31⟩, 1), (⟨.NEWT_NEXT, 5, 31⟩, 100)] ++ l)
  (s.each (List.range ws.length) fun i t => t.setWord 5 (newtLocal 31 (0x20000 + 4 * (100 + i))) (ws.getD i 0))

/-- The worked encodings of the spec: VMAC acc0, v4, v11 with Z; VLD v11, [a1] with a1 moved by 32, and E; a word of zeros is a VMAC. -/
theorem test_decodeNewt : decodeNewt 0x00011620 = some (.m (.vmac 0 4 11 0 false true false)) ∧
    decodeNewt 0xA0588108 = some (.l (.vld 11 1 0 0 0 2 8)) ∧ decodeNewt 0x60000000 = none ∧ decodeNewt 0x12000000 = none ∧
    decodeNewt 0x25000000 = none ∧ decodeNewt 0x52000000 = none := by decide

/-- A newt ready for its next bundle, which is a VADD, a NOP or an STS: the premises of every instruction's statement. -/
theorem witness_Ready :
    ((demoNewt [0x83204480] []).Ready 5 31 ∧ (demoNewt [0x83204480] []).fetched (.vadd 5 31 true 4 1 2 1 false) = true) ∧
    ((demoNewt [0xC0000000] [(⟨.DBG_P, 5, 125⟩, 0x81)]).Ready 5 31 ∧ (demoNewt [0xC0000000] []).fetched (.nop 5 31 true) = true ∧
      (demoNewt [0xA318017F] []).fetched (.sts 5 31 true 3 0 2 127 ⟨0, 0, [], 0⟩) = true) := by decide +kernel

/-- The further premises of `ControlFlow`: loops at depth 1 with counts 2 and 1, a post to tongue 3 of die 5, DBGEN, a REPT and what it
repeats. -/
theorem witness_ControlFlow :
    let loop (k : Nat) := demoNewt [0xCE000000]
      [(⟨.NEWT_STATUS_LOOPDEPTH, 5, 31⟩, 1), (⟨.DBG_A, 5, 380⟩, 40), (⟨.DBG_B, 5, 380⟩, 400), (⟨.DBG_L, 5, 380⟩, k)]
    ((loop 2).Ready 5 31 ∧ (loop 2).loopDepth 5 31 = 1 ∧ (loop 2).levelEnd 5 31 0 = 100 ∧ (loop 2).levelCount 5 31 0 = 2 ∧
      (loop 1).levelCount 5 31 0 = 1 ∧ (loop 2).fetched (.endl 5 31 true) = true) ∧
    (let s := demoNewt [0xCF034000] [(⟨.DBG_S, 5, 499⟩, 15 * 2 ^ 14 + 5 * 2 ^ 10 + 3 * 2 ^ 8 + 255), (⟨.DBG_S, 5, 500⟩, 1)]
     s.Ready 5 31 ∧ s.sReg 5 31 3 = 15 * 2 ^ 14 + 5 * 2 ^ 10 + 3 * 2 ^ 8 + 255 ∧ s.sReg 5 31 4 % 2 ^ 31 ≠ 0 ∧ s.routeUp 5 5 = true ∧
      s.permits 5 (s.masterClass 5 3) 5 true = true ∧ s.fetched (.sig 5 31 true 3 4) = true) ∧
    (let s := demoNewt [0xD1000000] [(⟨.NEWT_CFG_DBGEN, 5, 31⟩, 1)]
     s.Ready 5 31 ∧ s.dbgEn 5 31 = true ∧ s.fetched (.halt 5 31 true) = true) ∧
    (let s := demoNewt [0xCC000009, 0xC0000000] []
     s.fetched (.rept 5 31 true false 0 9) = true ∧ s.repeatsLegal 5 31 101 = true ∧ s.bundleLen 5 31 101 = 1) ∧
    (let s := demoNewt [0xCD806078] []
     s.fetched (.loopTop 5 31 true true 3 120) = true ∧ s.countOf 5 31 true 3 = 0 ∧ s.bundleLen 5 31 120 = 3) ∧
    (let s := demoNewt [0xC800003C] [(⟨.NEWT_STATUS_LOOPDEPTH, 5, 31⟩, 3), (⟨.DBG_A, 5, 380⟩, 160), (⟨.DBG_B, 5, 380⟩, 400), (⟨.DBG_L, 5, 380⟩, 9),
       (⟨.DBG_A, 5, 381⟩, 200), (⟨.DBG_B, 5, 381⟩, 300), (⟨.DBG_L, 5, 381⟩, 9), (⟨.DBG_A, 5, 382⟩, 360), (⟨.DBG_B, 5, 382⟩, 380), (⟨.DBG_L, 5, 382⟩, 9)]
     s.Ready 5 31 ∧ s.fetched (.br 5 31 true 60) = true ∧ s.loopDepth 5 31 = 3 ∧ (∀ k, k < 2 → s.levelStart 5 31 k ≤ 60 ∧ 60 ≤ s.levelEnd 5 31 k) ∧ ¬ s.levelStart 5 31 2 ≤ 60) ∧
    (let s := demoNewt [0xCC830000, 0xC0000000] [(⟨.DBG_S, 5, 499⟩, 65536)]
     s.sReg 5 31 3 = 65536 ∧ s.repeatsLegal 5 31 101 = true) := by decide +kernel

/-- The premises of `LoadsAndStores`, at the last word of DMEM and the last full vector. -/
theorem witness_LoadsAndStores :
    (demoNewt [] [(⟨.DBG_A, 5, 372⟩, 0x1FFFC)]).Ready 5 31 ∧ (demoNewt [] [(⟨.DBG_A, 5, 379⟩, 0x1FFE0)]).get .DBG_A 5 (31 * 12 + 7) + 28 < 0x20000 ∧
      (demoNewt [] [(⟨.DBG_A, 5, 372⟩, 0x1FFFC)]).get .DBG_A 5 372 < 0x20000 ∧ (demoNewt [] []).errs = [] ∧
    (demoNewt [] []).get .FLT_INJ_COUNT 5 95 = 0 ∧
    (let s := demoNewt [] [(⟨.DBG_A, 5, 373⟩, 0x017FFFF0), (⟨.DBG_L, 5, 373⟩, 32), (⟨.DBG_B, 5, 373⟩, 0x017FFFE0), (⟨.DBG_M, 5, 127⟩, 8)]
     s.get .DBG_A 5 373 = 0x017FFFF0 ∧ s.mReg 5 31 3 = 8 ∧ s.Sound 5 0x1FFFFF0 ∧ s.wordLocked 5 0x1FFFFF0 = false ∧
       (s.bundleOf 5 31 = none) ∧ (List.range 8).map (fun k => (0x10 + k * 8) % 32) = [16, 24, 0, 8, 16, 24, 0, 8]) := by decide +kernel

/-- R122, R84: of the lanes of a strided circular store to clutch SRAM that name one word the highest stores last. -/
theorem test_vstCircular :
    Completes (.vst 5 31 true 3 1 0 1 3 0 0 ⟨0, 0, [], 0⟩)
      (demoNewt [0xA1188E00] [(⟨.DBG_A, 5, 373⟩, 0x017FFFF0), (⟨.DBG_L, 5, 373⟩, 32), (⟨.DBG_B, 5, 373⟩, 0x017FFFE0), (⟨.DBG_M, 5, 127⟩, 8),
        (⟨.DBG_V, 5, 7960⟩, 10), (⟨.DBG_V, 5, 7964⟩, 14)])
      fun t => t.load 5 0x1FFFFF0 4 = 14 ∧ t.load 5 0x1FFFFE0 4 = 0 := ⟨_, rfl, by decide +kernel⟩

/-- The premises of `NewtReachesSramAndBadAddresses`: a word that port B's alias operation locks. -/
theorem witness_NewtReachesSramAndBadAddresses :
    (let s : State := { demoNewt [] [(⟨.DBG_A, 5, 372⟩, 0x01000000 + 0x7FFFFC)] with locks := [⟨5, 0x1FFFFF0, 1, 9, 0⟩] }
     s.lockedFor 5 0x1FFFFF0 0 = true ∧ s.lockMaster 5 0x1FFFFF0 = 9 ∧ s.wordLocked 5 0x1FFFFE0 = false) ∧
    31 / 8 * 0x800000 + 0x7FFFFC = 0x1FFFFFC ∧ (demoNewt [] []).Sound 5 0x1FFFFFC ∧ (demoNewt [] []).wordLocked 5 0x1FFFFF0 = false := by decide +kernel

/-- The premises of `BundlesFormAndFault`: an illegal VCMP, a second C instruction after a NOP without E. -/
theorem witness_BundlesFormAndFault :
    (let s := demoNewt [0x89088638] []
     s.live 5 31 .NEWT_ILLEGAL = false ∧ s.fetched (.vcmp 5 31 true 1 2 3 0 false 7) = true ∧ s.nextIllegal 5 31 = true) ∧
    (let t := { demoNewt [0x03088600, 0xC1223000] [] with bundles := [⟨5, 31, some (.lane .add 1 2 3 0 false), none, none, ⟨0, 0, [], 0⟩⟩] }
     t.newtIs 5 31 newtRun = true ∧ t.bundleOf 5 31 = some ⟨5, 31, some (.lane .add 1 2 3 0 false), none, none, ⟨0, 0, [], 0⟩⟩ ∧
       t.fetched (.saluAdd 5 31 true 2 2 3) = true) ∧
    (demo []).newtIs 5 31 newtRun = false := by decide +kernel

/-- The premises of `FetchAndDebugStops`. -/
theorem witness_FetchAndDebugStops :
    (let s := { demoNewt [] [] with errs := [(5 * 2 ^ 32 + newtLocal 31 (0x20000 + 400), 3)] }
     s.canonical = true ∧ (s.newtCheck 5 31 (0x20000 + 100 / 2 * 8)).kind = 2 ∧ s.live 5 31 .NEWT_PMEM_UE = false) ∧
    (let s := demoNewt [] [(⟨.NEWT_CFG_DBGEN, 5, 31⟩, 1), (⟨.NEWT_BKPT_EN, 5, 63⟩, 1), (⟨.NEWT_BKPT_ADDR, 5, 63⟩, 100)]
     s.canonical = true ∧ s.bundleOf 5 31 = none ∧ s.get .NEWT_BKPT_ADDR 5 63 = s.get .NEWT_NEXT 5 31) ∧
    ((demo [(⟨.NEWT_STATUS_STATE, 5, 31⟩, 0), (⟨.NEWT_CFG_DBGEN, 5, 31⟩, 1)]).get .NEWT_STATUS_STATE 5 31 = newtIdle) ∧
    (∀ st, st ∈ [3, 4] → (demo [(⟨.NEWT_STATUS_STATE, 5, 31⟩, st)]).get .NEWT_STATUS_STATE 5 31 = st) ∧
    (let s := demoUp [(⟨.NEWT_STATUS_STATE, 5, 31⟩, 3)]
     let a := 15 * 2 ^ 36 + 5 * 2 ^ 32 + 0x10000000 + 31 * 0x40000 + 0x3163C
     s.Passes (s.request 5 4 a true 4 7) ∧ place 5 (a % 2 ^ 32) = .reg .newt 31 0x163C ∧
       (regFind 5 .newt 31 0x163C).map (fun h => (h.row.off, h.row.fields, h.row.count, h.inst)) =
         some (0x1600, [⟨.DBG_S, 0, .RW⟩], 16, 31 * 16 + 15)) := by decide +kernel

/-- The premises of `TasksEndAndNewtsPark`. -/
theorem witness_TasksEndAndNewtsPark :
    (let s := demo [(⟨.MDLL_STATUS_OUT, 5, 0⟩, 1), (⟨.NEWT_STATUS_STATE, 5, 31⟩, 2), (⟨.SLOT_STATE_STATE, 5, 768⟩, slotService), (⟨.SLOT_CTRL_EN, 5, 768⟩, 1)]
     s.canonical = true ∧ s.get .NEWT_STATUS_STATE 5 31 = newtDraining ∧ s.get .NEWT_TASK_FLOW 5 31 = 0 ∧
      s.get .SLOT_STATE_STATE 5 (slotIx (31 / 8) (s.newtSlot 5 31)) = slotService) ∧
    ((demo []).get .NEWT_STATUS_STATE 5 31 = newtParked) ∧ (demo []).claims = [] := by decide +kernel

/-- VMUL of 1.5 by −2 gives −3 in the lanes of the predicate. -/
theorem test_vmul :
    Completes (.vmul 5 31 true 4 1 2 1 false)
      (demoNewt [0x82204480] [(⟨.DBG_P, 5, 125⟩, 0x81), (⟨.DBG_V, 5, 7944⟩, 0x3FC00000), (⟨.DBG_V, 5, 7952⟩, 0xC0000000)])
      fun t => t.vReg 5 31 4 0 = 0xC0400000 ∧ t.get .NEWT_NEXT 5 31 = 101 := ⟨_, rfl, by decide +kernel⟩

/-- R118: the seed of 1 is 8188 / 8192. -/
theorem test_rcps : laneRcps 0x3F800000 = ⟨0x3F7FE000, false, false, false⟩ := by decide +kernel

/-- SUB wraps modulo 2³². -/
theorem test_saluSub :
    Completes (.saluSub 5 31 true 1 2 3) (demoNewt [0xC1123001] [(⟨.DBG_S, 5, 499⟩, 1)]) fun t => t.sReg 5 31 1 = 0xFFFFFFFF :=
  ⟨_, rfl, by decide +kernel⟩

/-- A store of one word keeps the other bytes of its check word. -/
theorem test_sts :
    Completes (.sts 5 31 true 3 0 2 127 ⟨0, 0, [], 0⟩) (demoNewt [0xA318017F] [(⟨.DBG_A, 5, 372⟩, 0x1FFFC), (⟨.DBG_S, 5, 499⟩, 0x12345678)]) fun t =>
      t.byte 5 (newtLocal 31 0x1FFFF) = 0x12 ∧ t.byte 5 (newtLocal 31 0x1FFFB) = 0 ∧ t.get .DBG_A 5 372 = 0x1FFF8 := ⟨_, rfl, by decide +kernel⟩

/-- Three VMULs into v4 in turn: the second reads v4 and waits for the first, three cycles counted in NEWT_STALL_SB (R76, R109). -/
theorem test_stall :
    let s := (demoNewt [0x82204400, 0x82290400] []).run (execVmul 5 31 true 4 1 2 0 false)
    (s.run (execVmul 5 31 true 5 4 2 0 false)).get .NEWT_STALL_SB 5 31 = 3 := by decide +kernel

/-! ### Registers -/

/-- The register of `RegisterWriteByAccessCode`: NEWT_BKPT, reached by the DMA engine 0 of its die. -/
theorem witness_RegisterWriteByAccessCode :
    let s := demoUp []
    let a := 15 * 2 ^ 36 + 5 * 2 ^ 32 + 0x10000000 + 31 * 0x40000 + 0x3001C
    s.canonical = true ∧ s.Passes (s.request 5 9 a true 4 401) ∧ place 5 (a % 2 ^ 32) = .reg .newt 31 0x1C ∧
      (regFind 5 .newt 31 0x1C).map (fun h => (h.row.fields, h.row.wide, s.dbgBarred 5 h, h.head)) =
        some ([⟨.NEWT_BKPT_EN, 0, .RW⟩, ⟨.NEWT_BKPT_ADDR, 2, .RW⟩], false, false, .NEWT_BKPT_EN) := by decide +kernel

/-- The registers of `ReadsClearAndHold`: NEWT_BUSY, a 64-bit register; FAB_DERR_OVF, an RC field; MAC_TSF_INFO. -/
theorem witness_ReadsClearAndHold :
    let s := demoUp [(⟨.NEWT_BUSY, 5, 31⟩, 2 ^ 33 + 5), (⟨.HOLD_KIND, 5, 9⟩, 2), (⟨.FAB_DERR_OVF, 6, 0⟩, 3)]
    let a := 15 * 2 ^ 36 + 5 * 2 ^ 32 + 0x10000000 + 31 * 0x40000 + 0x30020
    s.canonical = true ∧ s.Passes (s.request 5 9 a false 4 0) ∧ s.Passes (s.request 5 9 (a + 4) true 4 7) ∧
      (regFind 5 .newt 31 0x20).map (fun h => (h.row.wide, h.high, s.regValue 5 h)) = some (true, false, 2 ^ 33 + 5) ∧
      (regFind 5 .newt 31 0x24).map (fun h => (h.row.wide, h.high)) = some (true, true) ∧
      s.Passes (s.request 6 18 (15 * 2 ^ 36 + 6 * 2 ^ 32 + 0x40F00010) false 4 0) ∧
      (regFind 6 .fab 0 0x10).map (fun h => (h.row.wide, h.row.fields.any fun f => f.acc == .RC, s.regValue 6 h)) = some (false, true, 3) ∧
      s.Passes (s.request 6 18 (15 * 2 ^ 36 + 6 * 2 ^ 32 + 0x40400108) false 4 0) ∧
      (regFind 6 .mac 0 0x108).map RegHit.head = some .MAC_TSF_INFO_SEQ := by decide +kernel

/-- R8: an RC counter that takes 1 in the cycle of its read shows the value before and ends at 1; a W1C bit set in the cycle of its
clear stays. -/
theorem test_tied :
    (Completes (.rcRegisterRead 6 18 (15 * 2 ^ 36 + 6 * 2 ^ 32 + 0x40F00010) 1 0) (demoUp [(⟨.FAB_DERR_OVF, 6, 0⟩, 3)]) fun t =>
      t.answer = ⟨2, false⟩ ∧ t.get .FAB_DERR_OVF 6 0 = 1) ∧
    Completes (.reg64HighWrite 5 9 (15 * 2 ^ 36 + 5 * 2 ^ 32 + 0x10000000 + 31 * 0x40000 + 0x30024) 7 0) (demoUp []) fun t =>
      t.answer.err = false := ⟨⟨_, rfl, by decide +kernel⟩, ⟨_, rfl, by decide +kernel⟩⟩

/-- The premises of `FabricAccessGrant`: a read of mailbox memory, an address with nothing behind it, a rival that wins. -/
theorem witness_FabricAccessGrant :
    let s := demoUp []
    s.Passes (s.request 6 18 0xF650000000 true 16 1) ∧ (s.request 6 18 0xF650000000 true 16 1).isBurst = true ∧
      place 6 0x50000000 = .ring 0 ∧ place 5 0x10028000 = .nothing ∧ (s.put .FAB_RR 6 2 2).winsOver 6 2 1 2 = false ∧
      (let u := demoUp [(⟨.FAB_PERM, 6, 0⟩, 2 ^ 36 - 1)]
       let r := u.request 3 0 0xF650000010 true 4 7
       u.Passes r ∧ r.loc % 16 = 0 ∧ place r.tdie 0x50000010 = .ring 0x10 ∧ (u.dataLinks r).length = 1 ∧ u.wins r [] [] = true) := by decide +kernel

/-! ### The tongue -/

/-- Slot 255 of tongue 3 of die 5 in a state, ANY mode, MASK 5, domain B. -/
def demoSlot (st : Nat) (l : List (Loc × Nat)) : State :=
  demoUp ((⟨.SLOT_STATE_STATE, 5, 1023⟩, st) :: (⟨.SLOT_CTRL_EN, 5, 1023⟩, flag (st != 0)) :: (⟨.SLOT_CTRL_MODE, 5, 1023⟩, 1) ::
    (⟨.SLOT_MASK, 5, 1023⟩, 5) :: (⟨.SLOT_CTRL_DOMAIN, 5, 1023⟩, 1) :: l)

/-- The premises of `PostsAndReadiness`: an ALL condition of two bits met by the second, one still waiting, the other states. -/
theorem witness_PostsAndReadiness :
    (let s := demoSlot 1 [(⟨.SLOT_CTRL_MODE, 5, 1023⟩, 0), (⟨.SLOT_FLAGS, 5, 1023⟩, 4)]
     s.canonical = true ∧ s.get .SLOT_STATE_STATE 5 (slotIx 3 255) = slotWait ∧ s.get .SLOT_CTRL_DOMAIN 5 (slotIx 3 255) = 1 ∧
      (4 ||| 1 % 2 ^ 31) &&& 5 = 5 ∧ (4 ||| 2 % 2 ^ 31) &&& 5 ≠ 5) ∧
    ((demoUp []).send (.post 0 1 5 3 255 1 1 0)).nextOn (.post 0 1 5 3 255 1 1 0) = true ∧ (demoSlot 2 [(⟨.TDOM_STATUS_QUEUED, 5, 10⟩, 1)]).idleIn 5 3 1 = false ∧ (demoSlot 2 []).claims = [] ∧
    (demo []).get .SLOT_STATE_STATE 5 1023 = slotDisabled ∧ (demoSlot 3 []).get .SLOT_STATE_STATE 5 1023 = slotService := by decide +kernel

/-- A queued task of tongue 3 and newt 31 idle. -/
def demoQueued (flow : Nat) (claims : List Claim) : State :=
  { demoSlot 2 [(⟨.SLOT_FLAGS, 5, 1023⟩, 12), (⟨.NEWT_STATUS_STATE, 5, 31⟩, 0), (⟨.SLOT_CTRL_FLOW, 5, 1023⟩, flow), (⟨.SLOT_ENTRY, 5, 1023⟩, 7),
      (⟨.Q_DEPTH, 5, 96⟩, 1)] with queue := if claims = [] then [⟨5, 3, 255, 0, 0, false⟩] else [], claims := claims }

/-- The premises of `DispatchStartsTheChosenTask`. -/
theorem witness_DispatchStartsTheChosenTask :
    (demo []).idleNewts 5 3 = [] ∧
    (let s := demoQueued 0 []
     s.canonical = true ∧ s.idleNewts 5 3 = [7] ∧ s.choose 5 3 32 = some (0, ⟨5, 3, 255, 0, 0, false⟩) ∧
      s.chosenNewt ⟨5, 3, 255, 0, 0, false⟩ = 7) ∧
    (let s := demoQueued 1023 []
     s.choose 5 3 32 = some (0, ⟨5, 3, 255, 0, 0, false⟩) ∧ s.get .SLOT_CTRL_FLOW 5 (slotIx 3 255) = 1023 ∧ 1023 % 6 ≠ 5) ∧
    (let q : Claim := ⟨⟨5, 3, 255, 0, 0, false⟩, 1023, 7, 4, 0, 0, 0, 1, 0, false⟩
     let s := ((demoQueued 1023 [q]).send (.claimResponse 5 3 255 1023 true)).send (.flowClaim 5 3 255 1023)
     s.claimOf 5 3 255 1023 = some q ∧ s.nextOn (.claimResponse 5 3 255 1023 true) = true ∧ s.nextOn (.flowClaim 5 3 255 1023) = true) ∧
    (let s := demoQueued 1019 []
     s.choose 5 3 32 = some (0, ⟨5, 3, 255, 0, 0, false⟩) ∧ 1019 % 6 = 5 ∧ s.winsClaim 1019 23 [] = true) ∧
    (demo [(⟨.FLOW_BUSY, 3, 1023⟩, 1)]).get .FLOW_BUSY (1023 % 6) 1023 = 1 := by decide +kernel

/-- The task that waits for a flow-free dispatch runs on newt 31 from word 7, with flag 2 of its mask in s14. -/
theorem test_dispatch :
    Completes (.dispatchDecision 5 3 []) (demoQueued 0 []) fun t =>
      t.get .NEWT_NEXT 5 31 = 7 ∧ t.sReg 5 31 14 = 4 ∧ t.get .SLOT_FLAGS 5 1023 = 8 := ⟨_, rfl, by decide +kernel⟩

/-- The premises of `SlotsAndTheCroakLog`. -/
theorem witness_SlotsAndTheCroakLog :
    (demo []).get .SLOT_STATE_STATE 5 1023 = slotDisabled ∧ (demo []).get .SLOT_CTRL_EN 5 1023 = 0 ∧
    (let s := demo [(⟨.SLOT_STATE_STATE, 5, 1023⟩, 3)]
     s.get .SLOT_STATE_STATE 5 1023 = slotService ∧ s.get .SLOT_CTRL_EN 5 1023 = 0) ∧
    ((demoQueued 0 []).get .SLOT_STATE_STATE 5 1023 = slotQueued) ∧
    (let e : CroakEntry := ⟨5, 3, 4095, 1, 2, 3⟩
     let s := { demoUp [(⟨.CROAK_BASE, 5, 3⟩, 127), (⟨.CROAK_FREEZING, 5, 2⟩, 1)] with croak := [e] }
     s.canonical = true ∧ s.Passes (s.croakReq e) ∧ (s.croakReq e).loc = 3 * 0x800000 + 127 * 0x10000 + 4095 * 16 ∧
      s.offline 5 0x1FFFFF0 = false ∧ s.croakOf 5 2 = []) := by decide +kernel

/-! ### The chorus -/

/-- The worked example: 1 + 2⁻²⁵ + 2⁻²⁵ in two orders. -/
theorem test_sums :
    round96 ([2 ^ 64, 2 ^ 39, 2 ^ 39].foldl add96 0) = 0x3F800001 ∧ round96 ([2 ^ 39, 2 ^ 39, 2 ^ 64].foldl add96 0) = 0x3F800001 ∧
      term96 0x3F000000 0x40000000 = (2 ^ 64, 0) ∧ term96 0xFF800000 0x3F800000 = (-(2 ^ 72 - 1), 1) ∧ term96 0x7F800000 0 = (0, 2) := by
  decide +kernel

/-- Crosspoint 13 of the worked example: the ramp's first, 32nd and 64th gain. -/
theorem test_ramp :
    rampGain 0x3F800000 0 0 6 = 0x3F7C0000 ∧ rampGain 0x3F800000 0 31 6 = 0x3F000000 ∧ rampGain 0x3F800000 0 63 6 = 0 := by decide +kernel

/-- The premises of `BusSumsAreOrderFreeAndRoundOnce`: permuted lists, and values of the format. -/
theorem witness_BusSums : [2 ^ 95, 1, 2].Perm [1, 2 ^ 95, 2] ∧ fpOf 0x7FC00000 = .nan ∧ bitsAt 0x80000001 23 8 = 0 ∧
    bitsAt (fpOut (fpOfInt (signed 96 (2 ^ 95)) (-64))).bits 23 8 = 158 ∧ bitsAt (fpOut (fpOfInt (signed 96 1) (-64))).bits 23 8 = 63 := by
  refine ⟨List.Perm.swap _ _ _, ?_⟩; decide +kernel

/-- States of crosspoints: settled, in a fade, with a pending step. -/
def demoXp (xf pend : Bool) (n : Nat) : XpState := ⟨0x3F000000, 0x3F000000, 0x3E800000, n, 1, 0, 1, pend, false, xf, true, 5, 20, 6, 21, true⟩

/-- The premises of `CrosspointsRampFadeAndStep`, and a step forced at its timeout. -/
theorem witness_CrosspointsRampFadeAndStep :
    gainFinite 0x7F7FFFFF = true ∧ (demoXp true false 0).xf = true ∧ (demoXp true false 0).cnt = 0 ∧
    (let t := demoXp false true 2
     t.xf = false ∧ t.ramp = false ∧ t.pend = true ∧ t.cen = true ∧ t.psign = 0 ∧ t.pvalid = 1) ∧
    bitAt 0x3F800000 31 = 0 ∧ bitsAt 0x3F800000 23 8 ≠ 0 ∧
    (runSamples (XpParam.ofNat 0) 6 none (fun _ => true) (fun _ _ => 0x3F800000) 3 0 (demoXp false true 2)).1.gcur = 0x3E800000 := by
  decide +kernel

/-- Group 255 of die 5, enabled, in domain C, and the chorus of the die. -/
def demoGroup (l : List (Loc × Nat)) : State :=
  demoUp ((⟨.GRP_EN_EFF, 5, 255⟩, 1) :: (⟨.GRP_CFG_NKICK, 5, 255⟩, 2) :: (⟨.GRP_CFG_DOMAIN, 5, 255⟩, 2) :: (⟨.CHORUS_CFG_EN, 5, 0⟩, 1) :: l)

/-- The premises of `GroupRuns`. -/
theorem witness_GroupRuns :
    (∀ n, n ∈ [0, 1] → (demoGroup [(⟨.GRP_STAT_KICKS, 5, 255⟩, n)]).canonical = true ∧
      (demoGroup [(⟨.GRP_STAT_KICKS, 5, 255⟩, n)]).get .GRP_STAT_KICKS 5 255 = n) ∧
    (demoGroup []).get .GRP_EN_EFF 5 255 = 1 ∧ (demoGroup []).get .GRP_STAT_RAN 5 255 = 0 ∧ (demoGroup []).get .GRP_ABAND 5 255 = 0 ∧
    (demo []).get .GRP_EN_EFF 5 255 = 0 ∧ (demo []).nextReady 5 = none ∧
    (let s := { demoGroup [] with ready := [(5, 255)] }
     s.get .CHORUS_STATUS_BUSY 5 0 = 0 ∧ s.get .CHORUS_CFG_EN 5 0 = 1 ∧ s.nextReady 5 = some 255 ∧ s.dieClocked 5 = true) ∧
    (∀ n, n ∈ [0, 1] →
      let s := demoGroup [(⟨.CHORUS_STATUS_BUSY, 5, 0⟩, 1), (⟨.CHORUS_STATUS_GROUP, 5, 0⟩, 255), (⟨.GRP_RANGE_COUNT, 5, 255⟩, n), (⟨.GRP_RANGE_FIRST, 5, 255⟩, 7)]
      s.canonical = true ∧ s.get .CHORUS_STATUS_BUSY 5 0 = 1 ∧ s.get .CHORUS_STATUS_GROUP 5 0 = 255 ∧ s.get .GRP_RANGE_COUNT 5 255 = n ∧
        s.get .GRP_RANGE_FIRST 5 255 = 7 ∧ s.get .CHORUS_XP_CNT 5 0 ≤ 7 ∧ ∀ D, D < 3 → s.get .REL_ORDER 5 D = 0) := by decide +kernel

/-- Bus 511 of die 5 at home there, domain B, epoch 48 in progress, one partial of `e` received. -/
def demoBus (e : Nat) (l : List (Loc × Nat)) : State :=
  demoUp ((⟨.BUS_EN_EFF, 5, 511⟩, 1) :: (⟨.BUS_CFG_DOMAIN, 5, 511⟩, 1) :: (⟨.BUS_HOME_DIE, 5, 511⟩, 5) :: (⟨.BUS_HOME_EXPECT, 5, 511⟩, e) ::
    (⟨.EP_SEEN, 5, 1⟩, 49) :: (⟨.ASET_B, 5, 2047⟩, 49) :: (⟨.ASET_RCVD, 5, 2047⟩, 1) :: l)

/-- The premises of `PartialsAndHomes`. -/
theorem witness_PartialsAndHomes :
    (∀ e, e ∈ [2, 3] → (demoBus e []).canonical = true ∧ (demoBus e []).isHome 5 511 = true ∧ (demoBus e []).get .BUS_EN_EFF 5 511 = 1 ∧
      (demoBus e []).bsize 1 = 16 ∧ (demoBus e []).setIx 1 511 48 = 2047 ∧ (demoBus e []).epochOf 5 1 = 48 + 1 ∧
      (demoBus e []).get .ASET_B 5 2047 = 48 + 1 ∧ (demoBus e []).get .ASET_RED 5 2047 = 0 ∧ (demoBus e []).get .ASET_RCVD 5 2047 = 1 ∧
      (demoBus e []).get .BUS_HOME_EXPECT 5 511 = e) ∧
    32 + 1 < (demoBus 2 []).epochOf 5 1 ∧ (demo []).get .BUS_EN_EFF 5 511 = 0 ∧ (demoBus 2 []).epochOf 5 1 ≠ 32 + 1 ∧
    (let s := demoBus 0 [(⟨.BUS_CFG_TX, 5, 511⟩, 1), (⟨.BUS_CFG_STAGE, 5, 511⟩, 7), (⟨.BUS_HOME_DIE, 5, 511⟩, 3)]
     s.stageDone 5 1 7 = true ∧ s.busesOf 5 1 = [511] ∧ s.get .BUS_RELD 5 511 = 0 ∧ s.get .BUS_HOME_UNIT 5 511 = 15 ∧ s.get .BUS_HOME_DIE 5 511 = 3) ∧
    (let s := { demoBus 0 [(⟨.BUS_DEST, 5, 511⟩, 0xFFFFE)] with blocks := [⟨5, 511, 48, [1, 2, 3, 4, 5, 6, 7, 8, 9, 10, 11, 12, 13, 14, 15, 16]⟩] }
     s.canonical = true ∧ s.get .BUS_CONS_CEN 5 511 = 0 ∧ s.get .BUS_CONS_KEN 5 511 = 0 ∧ s.offline 5 0x1FFFFC0 = false ∧
      s.Passes (s.request 5 8 (15 * 2 ^ 36 + 5 * 2 ^ 32 + 0x1FFFFC0) true 64 0) ∧ s.wordLocked 5 0x1FFFFC0 = false) ∧
    (let s := demoBus 0 [(⟨.BUS_DEST, 5, 511⟩, 0xFFFFE), (⟨.BUS_CONS_CEN, 5, 511⟩, 1), (⟨.BUS_CONS_KEN, 5, 511⟩, 1), (⟨.BUS_CONS_KGRP, 5, 511⟩, 255),
       (⟨.BUS_CONS_TARGET, 5, 511⟩, 15 * 2 ^ 14 + 5 * 2 ^ 10 + 3 * 2 ^ 8 + 255), (⟨.GRP_EN_EFF, 5, 255⟩, 1), (⟨.GRP_CFG_NKICK, 5, 255⟩, 2)]
     s.get .DMA_KICKOFS_EN 5 0 = 0 ∧ s.get .CHORUS_KICKOFS 5 0 * 0x400 + 1024 ≤ 0x1FFFFC0 % 0x800000 ∧
       s.get .BUS_CONS_TARGET 5 511 = 15 * 2 ^ 14 + 5 * 2 ^ 10 + 3 * 2 ^ 8 + 255 ∧ s.routeUp 5 5 = true ∧ s.permits 5 (s.masterClass 5 8) 5 true = true ∧
       s.get .GRP_STAT_KICKS 5 255 < s.get .GRP_CFG_NKICK 5 255) ∧
    (let s := (demoUp []).send (.releaseOrder 5 0 48)
     s.nextOn (.releaseOrder 5 0 48) = true ∧ (s.send (.partialSum 9 5 511 1 48 [1] 0 false false)).nextOn (.partialSum 9 5 511 1 48 [1] 0 false false) = true) ∧
    (let s := demoUp [(⟨.GRP_EN_EFF, 5, 255⟩, 1), (⟨.EP_SEEN, 5, 0⟩, 49)]
     s.groupsOf 5 0 = [255] ∧ s.busesOf 5 0 = [] ∧ s.epochOf 5 0 = 48 + 1 ∧ s.get .GRP_STAT_RAN 5 255 = 0) := by decide +kernel

/-! ### Banks -/

/-- Words at the edges of a die's SRAM are sound at reset; the further premises of `TwoPortsOfABank` and `ReadChecks`. -/
theorem witness_TwoPortsOfABank :
    (demoUp []).Sound 5 0x1FFFFF0 ∧ (demo []).wordLocked 5 0x1FFFFF0 = false ∧
    { demoUp [] with busyAcc := [⟨5, 0x1FFFFF0, 1, 0, ⟨.write, 12, 0xF, 7, false⟩⟩] }.Sound 5 0x1FFFFF0 ∧
    (demo [(⟨.BANK_STAT_OFFLINE, 5, 255⟩, 1)]).offline 5 0x1FFFFF0 = true ∧
    { demoUp [] with errs := [(memKey 5 0x1FFFFF0, 2 ^ 71 + 2 ^ 0)] }.canonical = true := by decide +kernel

/-- The locked words of `AliasWritesLock`, one locked for each port. -/
theorem witness_AliasWritesLock :
    (∀ p, p ∈ [0, 1] → let s : State := { demoUp [] with locks := [⟨2, 0x860040, p, 9, 0⟩] }
     s.lockOf 2 0x860040 = some ⟨2, 0x860040, p, 9, s.capture 2⟩ ∧ s.wordLocked 2 0x860040 = true ∧ s.wordLocked 2 0x860050 = false) ∧
      (demo [(⟨.BANK_STAT_OFFLINE, 2, 67⟩, 1)]).offline 2 0x860040 = true ∧ (demoUp []).Sound 2 0x860040 := by decide +kernel

/-- The worked example's flag word: a bit set on port A while DMA 0 reads on port B. -/
theorem test_aliasWrite :
    Completes (.aliasWrite 2 0x860040 0 false ⟨.write, 9, 0xF, 4, false⟩ ⟨.read, 9, 0xFFFF, 0, false⟩) (demoUp []) fun t =>
      t.word 2 0x860040 = 4 ∧ t.resp.busy = 2 ∧ t.get .BANK_COLL_KIND 2 0 = 1 ∧ t.get .BANK_COLL_WADDR 2 0 = 0x86004 :=
  ⟨_, rfl, by decide +kernel⟩

/-- The premises of `ReadChecks`. -/
theorem witness_ReadChecks :
    let s := { demoUp [] with errs := [(memKey 5 0x1FFFFF0, 2 ^ 71)] }
    s.canonical = true ∧ s.offline 5 0x1FFFFF0 = false ∧ s.wordLocked 5 0x1FFFFF0 = false := by decide +kernel

/-- The premises of `LeapfrogAndFuses`. -/
theorem witness_LeapfrogAndFuses :
    (let s := demoUp [(⟨.LF_STATUS_BUSY, 5, 0⟩, 1), (⟨.LF_STATUS_BANK, 5, 0⟩, 255), (⟨.BANK_STAT_OFFLINE, 5, 255⟩, 1)]
     s.canonical = true ∧ s.get .LF_RUNMODE 5 0 = 0 ∧ ∀ e, e < 4 → s.repValid 5 255 e = 0) ∧
    (demoUp [(⟨.LF_STATUS_BUSY, 5, 0⟩, 1), (⟨.LF_RUNMODE, 5, 0⟩, 1)]).get .LF_RUNMODE 5 0 = 1 ∧
    (demoUp [(⟨.LF_FUSE_BUSY, 5, 0⟩, 1), (⟨.LF_FUSEB, 5, 0⟩, 255), (⟨.BANK_REPAIR_VALID_HI, 5, 511⟩, 1)]).burnable 5 255 = [3] := by
  decide +kernel

/-- The premises of `NewtReachesSramAndBadAddresses`: the addresses of its clauses. -/
theorem witness_NewtAddresses :
    ∀ a, a ∈ [0x017FFFFC, 0x09000000, 0x0D7FFFFC, 0x00FFFFFC, 0x1FFFD] →
      (demoNewt [] [(⟨.DBG_A, 5, 372⟩, a)]).Ready 5 31 ∧ (demoNewt [] [(⟨.DBG_A, 5, 372⟩, a)]).Sound 5 (31 / 8 * 0x800000 + 0x7FFFFC) := by
  decide +kernel

/-! ### DMA and links -/

/-- The premises of `DmaChains`: a descriptor at word address 8 of die 5, class 3, that copies from 0 to 0x1FFFFF0. -/
theorem witness_DmaChains :
    (let s := (((demoUp [(⟨.DMA_PHASE, 5, 7⟩, 1), (⟨.DMA_CUR, 5, 7⟩, 8), (⟨.DMA_CLASS, 5, 7⟩, 3)]).setWord 5 264 0x55).setWord 5 268 16)
     let g := 15 * 2 ^ 36 + 5 * 2 ^ 32 + 8 * 32
     s.Sound 5 256 ∧ s.Passes (s.request 5 (dmaPort 5 7) g false 32 0) ∧ s.load 5 (256 + 12) 4 = 16) ∧
    (let s := demoUp [(⟨.DMA_PHASE, 5, 7⟩, 2), (⟨.DMA_DESC, 5, 57⟩, 0x1FFFFF0), (⟨.DMA_DESC, 5, 58⟩, 0xF5F5), (⟨.DMA_DESC, 5, 59⟩, 16)]
     s.Sound 5 0 ∧ s.descSrc 5 7 = 15 * 2 ^ 36 + 5 * 2 ^ 32 ∧ s.descDst 5 7 = 15 * 2 ^ 36 + 5 * 2 ^ 32 + 0x1FFFFF0 ∧ s.descWord 5 7 3 = 16 ∧
      s.kicksOf 5 7 = [] ∧ s.wordLocked 5 0x1FFFFF0 = false ∧
      s.Passes (s.request 5 (dmaPort 5 7) (15 * 2 ^ 36 + 5 * 2 ^ 32) false 16 0) ∧
      s.Passes (s.request 5 (dmaPort 5 7) (15 * 2 ^ 36 + 5 * 2 ^ 32 + 0x1FFFFF0) true 16 0)) ∧
    (let s := demoUp [(⟨.DMA_PHASE, 5, 7⟩, 2), (⟨.DMA_CLASS, 5, 7⟩, 3), (⟨.FAB_PERM, 5, 3⟩, 0), (⟨.DMA_DESC, 5, 57⟩, 0x1FFFFF0), (⟨.DMA_DESC, 5, 58⟩, 0xF5F5)]
     let r := s.request 5 (dmaPort 5 7) (15 * 2 ^ 36 + 5 * 2 ^ 32 + 0x1FFFFF0) true 16 0
     s.descDst 5 7 = 15 * 2 ^ 36 + 5 * 2 ^ 32 + 0x1FFFFF0 ∧ s.permits 5 r.cls ((place 5 0x1FFFFF0).cls 5) true = false) ∧
    (let k : Kick := ⟨5, 7, 0, 3, 3, true⟩
     8 ≤ ({ demo [] with kicks := [k, k, k, k, k, k, k, k] }.kicksOf 5 7).length) := by decide +kernel

/-- The premises of `LinksAndParking`: a link between geckos and one to the hub. -/
theorem witness_LinksAndParking :
    linkPeer 3 0 = some (6, 1) ∧ linkPeer 5 1 = some (7, 1) ∧ linkPeer 0 3 = some (3, 2) ∧
    (demoUp [(⟨.LINK_STATUS_STATE, 3, 0⟩, 1), (⟨.LINK_TRIES, 3, 0⟩, 2)]).canonical = true ∧ (demoUp []).linkClocked 3 6 = true ∧
    (demo []).linkClocked 3 6 = false ∧ msgVc0 (.lateMarker 3 0) = true ∧
    (demo [(⟨.FAB_PARKPEND, 3, 10⟩, 1)]).get .FAB_PARKPEND 3 10 = 1 := by decide +kernel

/-! ### Serial ports -/

/-- R238's examples at w = 16, R236's example words, and a word of 32 bits that rounds. -/
theorem test_sapConvert :
    txConvert 16 0x3F000000 0 = 0x4000 ∧ txConvert 16 0x3F800000 0 = 0x7FFF ∧ txConvert 16 0x37800000 0 = 1 ∧ txConvert 16 0xB7800000 0 = 0 ∧
      rxConvert 24 0x800000 = 0xBF800000 ∧ rxConvert 24 1 = 0x34000000 ∧ rxConvert 32 0x7FFFFFFF = 0x3F800000 := by decide +kernel

/-- The premises of `SapSamplesConvert`. -/
theorem witness_SapSamplesConvert :
    (signed 32 (2 ^ 32 - 2 ^ 24)).natAbs ≤ 2 ^ 24 ∧ fpOf 0x00800000 = .fin false 0x800000 (-149) ∧ fpOf 0x7F800001 = .nan ∧
      fpOf 0xFF800000 = .inf true := by decide +kernel

/-- A state with one section record, and cells as given. -/
def demoSap (q : SapPort) (l : List (Loc × Nat)) : State := { demo l with ports := [q] }

/-- A record of section `x` of die 7 with a slip buffer of `n` frames. -/
def demoPort (x n : Nat) : SapPort :=
  ⟨7, x, (List.range n).map (fun k => ⟨k + 1, k, [k], false⟩), ⟨0, 0, [], false⟩, ⟨0, 0, [], false⟩, ⟨0, 0, [], false⟩, 9, 0, 0, 0, [], 0, 0, 0, 0, [], [], 0, 0⟩

/-- Section `x` of die 7 in RUN, alone in domain B (B = 16) with its block buffers at 0x400, at sample `n`, with cells as given. -/
def demoCarry (x k n : Nat) (l : List (Loc × Nat)) : State :=
  { demoUp ([(⟨.DOM_STATUS_MLOCK, 6, 1⟩, 1), (⟨.TB_DOMCNT, 6, 1⟩, n), (⟨.SAP_CFG_DOMAIN, 7, x⟩, 1), (⟨.SAP_STATUS_STATE, 7, x⟩, 2), (⟨.SAP_BUF, 7, x⟩, 1),
      (⟨.SAP_FMT_SLOTS, 7, x⟩, 3), (⟨.SAP_SLOTMASK, 7, x⟩, 10), (⟨.SAP_FMT_DWIDTH, 7, x⟩, 2), (⟨.SAP_FMT_SWIDTH, 7, x⟩, 1)] ++ l) with
    ports := [demoPort x k] }

/-- The premises of the clauses of `SapSamplesConvert` over edges, but those on every cell or address, which hold where no cell is named. -/
theorem witness_SapSamplesConvert_edges :
    (∀ x, x ∈ [62, 63] →
      let s := demoCarry x 1 32 []
      s.canonical = true ∧ s.mayAlign 1 = false ∧ s.liveBridges = [] ∧ s.stx = [] ∧ s.starts = [] ∧ s.get .PAIR_TDV 6 0 = 0 ∧ s.ports = [demoPort x 1] ∧
        s.dieClocked 7 = true ∧ s.errs = [] ∧ s.get .FLT_INJ_COUNT 7 bankSet = 0 ∧ s.get .SAP_STOPPING 7 x = 0 ∧ s.get .SAP_CFG_PGEN 7 x = 0 ∧
        (∀ w, w ∈ [false, true] → s.Passes (s.request 7 8 (15 * 2 ^ 36 + 7 * 2 ^ 32 + 0x400) w 4 0)) ∧ s.wordLocked 7 0x400 = false ∧ s.offline 7 0x400 = false ∧
        0x400 + 32 * (32 + 4 * s.bsize 1) < sramSize 7) ∧
    (demoCarry 63 1 32 []).slotDecision 1 32 = 0 ∧ (demoCarry 63 1 32 [(⟨.EP_ASGN, 6, 4⟩, 1)]).slotDecision 1 32 = 1 ∧
    (demoCarry 63 1 32 [(⟨.EP_ASGN, 6, 4⟩, 1), (⟨.TX_MISS, 6, 1⟩, 1)]).slotDecision 1 32 = 2 := by decide +kernel

/-- R242, R244: slots 1 and 3 of the oldest frame enter the channels' blocks of sample 33, the second of its block; the buffer of n0 = 32 is
the fourth of four. -/
theorem test_sapRxSample :
    let q : SapPort := { demoPort 62 1 with fifo := [⟨1, 7, [5, 0x400000, 6, 0xC00000], false⟩] }
    let s : State := { demoCarry 62 1 33 [] with ports := [q], sapBlks := [⟨7, 62, 32, 10, 0, 7, false, 0, 0⟩] }
    Completes (.domcntIncrement 1 []) s fun t => t.load 7 (0x400 + 3 * 32 * 96 + 36) 4 = 0x3F000000 ∧ t.load 7 (0x400 + 3 * 32 * 96 + 96 + 36) 4 = 0xBF000000 ∧
      t.get .SAP_STATUS_LEVEL 7 62 = 0 := ⟨_, rfl, by decide +kernel⟩

/-- R237, R248: the block of a ready epoch for n0 = 32 fills slots 1 and 3 of the frame of sample 33. -/
theorem test_sapTxSample :
    let s := ((demoCarry 63 1 33 [(⟨.EP_ASGN, 6, 4⟩, 1)]).store 7 (0x400 + 36) 4 0x3F000000).store 7 (0x400 + 96 + 36) 4 0xBF800000
    Completes (.domcntIncrement 1 []) s fun t => (t.ports.map fun q => q.fifo) = [[⟨1, 0, [0], false⟩, ⟨34, 0, [0, 0x400000, 0, 0x800000], false⟩]] :=
  ⟨_, rfl, by decide +kernel⟩

/-- The premises of `SapSectionsEnableAndStop`. -/
theorem witness_SapSectionsEnableAndStop :
    (let s := demo [(⟨.SAP_FMT_SLOTS, 7, 63⟩, 1)]
     s.canonical = true ∧ s.get .SAP_CFG_EN 7 63 = 0 ∧ s.get .SAP_FMT_MODE 7 63 < 2 ∧ s.get .SAP_FMT_SLOTS 7 63 = 1 ∧
      s.get .SAP_STATUS_STATE 7 63 = sapOff ∧ s.get .SAP_STOPPING 7 63 = 0 ∧ s.sapPort 7 63 = none ∧ bitsAt 0x40001 2 2 = 0) ∧
    ((demoUp [(⟨.SAP_FMT_SLOTS, 7, 63⟩, 1), (⟨.SAP_STOPPING, 7, 63⟩, 1)]).dieClocked 7 = true ∧ (demo []).dieClocked 7 = false) ∧
    (demo []).get .SAP_FMT_SLOTS 7 63 ≠ 1 ∧ (demo [(⟨.SAP_CFG_EN, 7, 63⟩, 1)]).get .SAP_STATUS_STATE 7 63 ≠ sapRun ∧
    (∀ st, st ∈ [1, 2] →
      let s := demoSap (demoPort 63 3) [(⟨.SAP_CFG_EN, 7, 63⟩, 1), (⟨.SAP_STATUS_STATE, 7, 63⟩, st), (⟨.EPOCH_STATUS_RUN, 6, 0⟩, 1)]
      s.canonical = true ∧ s.get .SAP_STATUS_STATE 7 63 = st ∧ s.get .EPOCH_STATUS_RUN 6 (s.sapDom 7 63) = 1 ∧
        s.sapPort 7 63 = some (demoPort 63 3) ∧ s.live 7 0 .SAP_LOST = false) ∧
    (demo [(⟨.SAP_STOPPING, 7, 63⟩, 1)]).get .SAP_STOPPING 7 63 = 1 := by decide +kernel

/-- The premises of `FramesFillTheSlipBuffer`, on a receive and a transmit section at the edges of the slip buffer. -/
theorem witness_FramesFillTheSlipBuffer :
    (∀ x, x ∈ [62, 63] → ∀ n, n ∈ [0, 5, 6] → ∀ st, st ∈ [2, 3] →
      let s := demoSap (demoPort x n) [(⟨.SAP_STATUS_STATE, 7, x⟩, st), (⟨.SAP_GOOD, 7, x⟩, 1)]
      s.canonical = true ∧ s.sapPort 7 x = some (demoPort x n) ∧ s.get .SAP_STATUS_STATE 7 x = st ∧ (demoPort x n).start ≠ 0 ∧
        (demoPort x n).fresh = 0 ∧ s.sapMaster 7 x = false ∧ s.get .SAP_CFG_PGEN 7 x = 0 ∧ s.sapBren 7 x = false ∧ s.get .SAP_GOOD 7 x = 1) ∧
    (let s := demoSap (demoPort 62 5) [(⟨.SAP_STATUS_STATE, 7, 62⟩, 2), (⟨.SAP_CFG_PGEN, 7, 62⟩, 1), (⟨.SAP_CFG_PGRP, 7, 62⟩, 15), (⟨.PG_CFG_EN, 7, 15⟩, 1), (⟨.PG_CFG_REFPORT, 7, 15⟩, 63)]
     s.isPgRef 7 62 = true ∧ s.pgMembers 7 15 = [62] ∧ s.get .SAP_STATUS_STATE 7 62 = sapRun) ∧
    (demo []).pgMembers 7 15 = [] ∧ (demo []).fsStart 7 62 = 0 ∧
    ((demoUp []).send (.groupSlip 7 15 true 4)).nextOn (.groupSlip 7 15 true 4) = true := by decide +kernel

/-! ### Rate domains -/

/-- R272's table: 44.1 kHz into 48 kHz and into 96 kHz, 192 kHz into 44.1 kHz; the worked example's 0x004DA8EC. -/
theorem test_brNominal :
    let n (src dst : Nat) := (demo [(⟨.BR_CFG_SRCDOM, 6, 20⟩, 3), (⟨.BR_CFG_SRCRATE, 6, 20⟩, src), (⟨.DOM_CFG_RATE, 6, 0⟩, dst)]).brNominal 6 20
    n 0 3 = 0x4DA8EC ∧ n 5 0 = 40 * 65536 ∧ n 1 3 = 72 * 65536 := by decide +kernel

/-- The premises of `BridgesLockAndFeed`. -/
theorem witness_BridgesLockAndFeed :
    (let s := demo [(⟨.DOM_STATUS_MLOCK, 6, 0⟩, 1), (⟨.DOM_STATUS_MLOCK, 6, 1⟩, 1)]
     s.canonical = true ∧ s.get .BR_CFG_EN 7 127 = 0 ∧ bitsAt 0x09 1 2 = 0 ∧ bitsAt 0x09 3 2 = 1 ∧ bitsAt 0x207 1 2 = 3 ∧
      s.get .DOM_STATUS_MLOCK 6 1 = 1 ∧ s.get .DOM_STATUS_MLOCK 6 2 = 0 ∧ s.get .BR_STOPPING 7 127 = 0) ∧ (demoUp []).dieClocked 7 = true ∧
    (demo []).dieClocked 7 = false ∧ (demo [(⟨.BR_STOPPING, 7, 127⟩, 1)]).get .BR_BOPEN 7 127 = 0 ∧
    (demo [(⟨.BR_STOPPING, 7, 127⟩, 1), (⟨.BR_STATUS_STATE, 7, 127⟩, 1), (⟨.BR_CFG_SRCDOM, 7, 127⟩, 3)]).get .BR_STATUS_STATE 7 127 = brAcquire ∧
    (∀ src, src ∈ [2, 3] →
      let s := demoSap (demoPort 62 3) [(⟨.SAP_STATUS_STATE, 7, 62⟩, 2), (⟨.SAP_CFG_BREN, 7, 62⟩, 1), (⟨.SAP_CFG_BRIDGE, 7, 62⟩, 127),
        (⟨.SAP_SLOTMASK, 7, 62⟩, 0x80000000), (⟨.SAP_FMT_SLOTS, 7, 62⟩, 31), (⟨.BR_CFG_SRCDOM, 7, 127⟩, src), (⟨.BR_STATUS_STATE, 7, 127⟩, 1),
        (⟨.DOM_STATUS_MLOCK, 6, 0⟩, 1)]
      s.canonical = true ∧ s.get .SAP_STATUS_STATE 7 62 = sapRun ∧ s.get .SAP_CFG_BRIDGE 7 62 = 127 ∧
        channels (s.get .SAP_SLOTMASK 7 62) (s.get .SAP_FMT_SLOTS 7 62 + 1) = [31] ∧ s.brFeeder 7 127 = some 62 ∧
        s.sapBren 7 62 = true ∧ (src = 3 ↔ s.brTrack 7 127 = true) ∧ s.sapPort 7 62 = some (demoPort 62 3) ∧ s.get .DOM_STATUS_MLOCK 6 (s.brDst 7 127) = 1 ∧
        s.get .BR_STATUS_STATE 7 127 ≠ brOff) ∧
    (demo [(⟨.BR_CFG_SRCDOM, 7, 127⟩, 3)]).brInRange 7 127 246625075 = true ∧ (demo [(⟨.BR_CFG_SRCDOM, 7, 127⟩, 3)]).brInRange 7 127 0 = false := by decide +kernel

/-- A bridge of die 7 from domain B into domain A (B = 16 in both), alone, its rings at 0x400 and 0x4400, at sample `n` of both, with cells as
given. -/
def demoBridge (st n : Nat) (l : List (Loc × Nat)) : State :=
  demoUp ([(⟨.DOM_STATUS_MLOCK, 6, 0⟩, 1), (⟨.DOM_STATUS_MLOCK, 6, 1⟩, 1), (⟨.TB_DOMCNT, 6, 0⟩, n), (⟨.TB_DOMCNT, 6, 1⟩, n), (⟨.BR_CFG_SRCDOM, 7, 127⟩, 1),
    (⟨.BR_STATUS_STATE, 7, 127⟩, st), (⟨.BR_OBUF, 7, 127⟩, 1), (⟨.BR_IBUF, 7, 127⟩, 17)] ++ l)

/-- The premises of the clauses of `BridgesLockAndFeed` over edges, but those on every cell or address, which hold where no cell is named. -/
theorem witness_BridgesLockAndFeed_edges :
    (∀ st, st ∈ [1, 2, 3] → ∀ n, n ∈ [32, 47] →
      let s := demoBridge st n [(⟨.BR_BOPEN, 7, 127⟩, 33)]
      s.canonical = true ∧ s.mayAlign 0 = false ∧ s.mayAlign 1 = false ∧ s.stx = [] ∧ s.starts = [] ∧ s.get .PAIR_TDV 6 0 = 0 ∧ s.ports = [] ∧
        s.liveBridges = [(7, 127)] ∧ s.get .BR_STOPPING 7 127 = 0 ∧ s.dieClocked 7 = true ∧ s.errs = [] ∧ s.get .FLT_INJ_COUNT 7 bankSet = 0 ∧
        (∀ w, w ∈ [false, true] → ∀ a, a ∈ [0x400 + 3 * 96, 0x4400] → s.Passes (s.request 7 8 (15 * 2 ^ 36 + 7 * 2 ^ 32 + a) w 4 0) ∧
          s.wordLocked 7 a = false ∧ s.offline 7 a = false)) ∧
    (demoBridge 2 32 []).slotDecision 1 32 = 0 ∧ (demoBridge 2 32 [(⟨.EP_ASGN, 6, 4⟩, 1)]).slotDecision 1 32 = 1 ∧
    (demoBridge 2 32 [(⟨.EP_ASGN, 6, 4⟩, 1), (⟨.TX_MISS, 6, 1⟩, 1)]).slotDecision 1 32 = 2 := by decide +kernel

/-- R273, R269: a bridge that is LOST writes +0 and at its block's last sample a header with LOST, N0 = 32 and NBLK = 1. -/
theorem test_brLostBlock :
    Completes (.domcntIncrement 0 []) ((demoBridge 3 47 [(⟨.BR_BOPEN, 7, 127⟩, 33), (⟨.BR_BSTAMP, 7, 127⟩, 9)]).store 7 (0x400 + 3 * 96 + 92) 4 5) fun t =>
      t.load 7 (0x400 + 3 * 96 + 92) 4 = 0 ∧ t.load 7 (0x400 + 3 * 96) 32 = 9 + 32 * 2 ^ 64 + 32 * 2 ^ 128 + 256 * 2 ^ 160 ∧ t.get .BR_LOST 7 127 = 1 :=
  ⟨_, rfl, by decide +kernel⟩

/-- R269: an EXACT bridge takes sample 33 of its source from the input block of slot 32, and repeats its last sample where that was missed. -/
theorem test_brInput :
    (Completes (.domcntIncrement 1 []) ((demoBridge 2 33 [(⟨.EP_ASGN, 6, 4⟩, 1)]).store 7 (0x4400 + 36) 4 0x3F000000) fun t =>
      (t.hists.map fun h => (h.newest, h.samples.map fun q => (q.value, q.missed))) = [(33, [(0x3F000000, false)])]) ∧
    Completes (.domcntIncrement 1 []) { demoBridge 2 32 [(⟨.EP_ASGN, 6, 4⟩, 1), (⟨.TX_MISS, 6, 1⟩, 1)] with hists := [⟨7, 127, 31, 0, [⟨5, false⟩]⟩] } fun t =>
      (t.hists.map fun h => h.samples.map fun q => (q.value, q.missed)) = [[(5, true), (5, false)]] ∧ t.get .BR_UNDR 7 127 = 1 :=
  ⟨⟨_, rfl, by decide +kernel⟩, ⟨_, rfl, by decide +kernel⟩⟩

/-- The premises of `MediaClocksStartStopAndLock`. -/
theorem witness_MediaClocksStartStopAndLock :
    (demoUp []).dieClocked 6 = true ∧ (demo []).dieClocked 6 = false ∧
    (demo []).canonical = true ∧ (demo []).get .EPOCH_STATUS_RUN 6 2 = 0 ∧ (demo []).liveBridges = [] ∧ (demo []).get .DOM_CFG_MCEN 6 2 = 0 ∧
    (let s := demo [(⟨.DOM_CFG_MCEN, 6, 2⟩, 1)]
     s.get .DOM_CFG_MCEN 6 2 = 1 ∧ s.get .DOM_STATUS_MLOCK 6 2 = 0) ∧
    (let s := (demoUp []).condBegin .DOM_RINGERR 6 0 2
     s.live 6 0 .DOM_RINGERR = true ∧ s.conds = [⟨6, FaultName.set .DOM_RINGERR 0, FaultName.code .DOM_RINGERR, 2⟩]) := by decide +kernel

/-! ### Reference selection -/

/-- R288's limits: 1 PPS gives code 4, the ring reference code 9, a 48 kHz word clock code 11. -/
theorem test_bwCode : bwCode 1 1 11 = 4 ∧ bwCode 1000 1 11 = 9 ∧ bwCode 48000 1 11 = 11 ∧ bwCode 48000 1 6 = 6 := by decide +kernel

/-- The premises of `MonitorsAcceptAndJudge`: a waiting change of pin 7, of GPIO input 15 of die 7, a gate of each. -/
theorem witness_MonitorsAcceptAndJudge :
    (∀ p, p ∈ [0, 1] → ∀ o, o ∈ [0, 1] →
      let s := demo [(⟨.REF_CFG_EN, 6, 7⟩, 1), (⟨.REF_RAWP, 6, 7⟩, p), (⟨.REF_LIVE_OVERRATE, 6, 7⟩, o)]
      s.canonical = true ∧ s.due = [] ∧ s.get .REF_RAW 6 7 ≠ 1 ∧ s.get .REF_CFG_EN 6 7 = 1 ∧ s.get .REF_RAWP 6 7 = p ∧ s.get .REF_LIVE_OVERRATE 6 7 = o) ∧
    (∀ p, p ∈ [0, 1] →
      let s := demo [(⟨.GPIO_CFG_EN, 7, 15⟩, 1), (⟨.GPIO_RAWP, 7, 15⟩, p), (⟨.GPIO_STATUS_LEVEL, 7, 15⟩, 1), (⟨.GPIO_MON_STUCKTO, 7, 15⟩, 1)]
      s.canonical = true ∧ s.get .GPIO_RAW 7 15 ≠ 1 ∧ s.get .GPIO_CFG_EN 7 15 = 1 ∧ s.get .GPIO_RAWP 7 15 = p ∧
        s.get .GPIO_STATUS_LEVEL 7 15 = 1 ∧ s.get .GPIO_MON_STUCKTO 7 15 ≠ 0 ∧ s.get .GPIO_STATUS_STUCK 7 15 = 0) ∧
    (∀ w, w ∈ [0, 1] →
      let s := demo [(⟨.REF_CFG_EN, 6, 7⟩, 1), (⟨.REF_RAWP, 6, 7⟩, 1), (⟨.REF_RAW, 6, 7⟩, w)]
      (s.get .REF_RAW 6 7 + s.get .REF_CFG_POL 6 7) % 2 = w ∧ s.get .REFSEL_STATUS_SEL 6 0 ≠ 7 ∧ ∀ o, o < 4 → s.get .FO_STATUS_STATE 6 o = foOff) ∧
    (let s := demo [(⟨.REF_CFG_EN, 6, 8⟩, 1), (⟨.REF_RAWP, 6, 8⟩, 1), (⟨.REF_CFG_EN, 6, 9⟩, 1), (⟨.REF_RAWP, 6, 9⟩, 1), (⟨.SERVO_STATUS_LOCK, 6, 0⟩, 1)]
     s.canonical = true ∧ s.refAlive 8 = true ∧ s.refAlive 9 = false ∧ s.get .REF_RAWP 6 8 = 1 ∧ s.get .REF_RAWP 6 9 = 1) ∧
    (let s := demo [(⟨.REF_CFG_EN, 6, 7⟩, 1), (⟨.REF_LIVE_LOS, 6, 7⟩, 0), (⟨.REF_LEVEL, 6, 7⟩, 1), (⟨.REF_LIVE_QUAL, 6, 7⟩, 1), (⟨.REFSEL_STATUS_SEL, 6, 0⟩, 7)]
     s.get .REF_LIVE_LOS 6 7 = 0 ∧ s.get .REF_MON_STUCKTO 6 7 ≠ 0 ∧ s.get .REF_LIVE_STUCK 6 7 = 0 ∧ s.get .REFSEL_STATUS_SEL 6 0 = 7 ∧
      (∀ q, q < 10 → q ≠ 7 → s.get .REF_CFG_EN 6 q = 0) ∧ (signed 32 100000000).natAbs ≤ s.get .REF_QUAL_WINDOW 6 7 * 1000000 ∧
      s.get .REF_CFG_RANK 6 7 < 15 ∧ s.get .REF_GDIRTY 6 7 = 0 ∧ s.get .REF_GCLEAN 6 7 = 0) := by decide +kernel

/-- References 2 and 5, qualified and of equal rank, with reference 5 selected. -/
def demoRefs (l : List (Loc × Nat)) : State :=
  demo ((⟨.REF_LIVE_QUAL, 6, 2⟩, 1) :: (⟨.REF_LIVE_QUAL, 6, 5⟩, 1) :: (⟨.REFSEL_STATUS_SEL, 6, 0⟩, 5) :: l)

/-- The selector keeps the current one of two equals, and takes the better in revertive operation. -/
theorem test_refChoice :
    (demoRefs []).refChoice = 5 ∧ (demoRefs [(⟨.REF_CFG_RANK, 6, 5⟩, 1)]).refChoice = 5 ∧
      (demoRefs [(⟨.REF_CFG_RANK, 6, 5⟩, 1), (⟨.REFSEL_CFG_REVERT, 6, 0⟩, 1)]).refChoice = 2 ∧
      (demoRefs [(⟨.REFSEL_STATUS_SEL, 6, 0⟩, 15)]).refChoice = 2 ∧ (demo []).refChoice = refNone := by decide +kernel

/-- The premises of `SelectorChoosesAndSwitches`: a reference whose hold-off ends, and both edges of a switch to pin 5. -/
theorem witness_SelectorChoosesAndSwitches :
    (∀ w, w ∈ [0, 1] →
      let s := demo [(⟨.REF_CFG_EN, 6, 9⟩, 1), (⟨.REF_LIVE_LOS, 6, 9⟩, 0), (⟨.REF_GCLEAN, 6, 9⟩, 1), (⟨.REFSEL_STATUS_SWITCHING, 6, 0⟩, w)]
      s.canonical = true ∧ s.due = [] ∧ s.refClean 9 = true ∧ s.get .REF_GCLEAN 6 9 = 1 ∧ s.get .REF_LIVE_QUAL 6 9 = 0 ∧
        s.get .REFSEL_STATUS_SWITCHING 6 0 = w ∧ ((s.put .REF_LIVE_QUAL 6 9 1).put .REF_HOLD 6 9 0).refChoice = 9) ∧
    (demoUp []).dieClocked 6 = true ∧ (demo []).dieClocked 6 = false ∧
    (demoRefs [(⟨.REFSEL_CFG_MODE, 6, 0⟩, 1)]).get .REFSEL_CFG_MODE 6 0 = 1 ∧ rateOk 25000000 1 = true ∧ rateOk 25000001 1 = false ∧
    (∀ e, e ∈ [0, 1] →
      let s := demoRefs [(⟨.REF_CFG_EN, 6, 5⟩, 1), (⟨.REF_RAWP, 6, 5⟩, 1), (⟨.REF_RAW, 6, 5⟩, 1), (⟨.REFSEL_STATUS_SWITCHING, 6, 0⟩, 1), (⟨.SW_EDGES, 6, 0⟩, e)]
      s.canonical = true ∧ s.get .SW_EDGES 6 0 = e ∧ s.get .REFSEL_STATUS_SEL 6 0 = 5 ∧ s.refChoice = 5 ∧
        (s.get .REF_RAW 6 5 + s.get .REF_CFG_POL 6 5) % 2 = 1) := by decide +kernel

/-- The premises of `DpllLocksHoldsAndRestores`, with the phase at LOCKWIN and beyond, and both updates around the tenth. -/
theorem witness_DpllLocksHoldsAndRestores :
    (∀ st, st ∈ [1, 2] → ∀ p, p ∈ [2 ^ 32 - 100, 101] →
      let s := demo [(⟨.DPLL_STATUS_STATE, 6, 0⟩, st), (⟨.REFSEL_STATUS_SEL, 6, 0⟩, 3), (⟨.REF_PHASE, 6, 3⟩, p)]
      s.canonical = true ∧ s.due = [] ∧ s.get .IN_PORST 6 0 = 0 ∧ s.live 6 0 .REFSEL_HOLDOVER = false ∧
        s.get .FLT_FIRST_VALID 6 (FaultName.REFSEL_HOLDOVER.set 0) = 0 ∧ s.get .DPLL_STATUS_STATE 6 0 = st ∧ ((signed 32 (s.get .REF_PHASE 6 3)).natAbs ≤ s.get .DPLL_LOCK_LOCKWIN 6 0 ↔ p ≠ 101)) ∧
    (∀ k, k ∈ [8, 9] → ∀ f, f ∈ [0, 1] →
      let s := demo [(⟨.DPLL_STATUS_STATE, 6, 0⟩, 2), (⟨.REFSEL_STATUS_SEL, 6, 0⟩, 3), (⟨.REF_CFG_EN, 6, 3⟩, 1), (⟨.REF_LIVE_LOS, 6, 3⟩, 0),
        (⟨.REF_LIVE_QUAL, 6, 3⟩, 1), (⟨.HO_LOCKT, 6, 0⟩, k), (⟨.HO_FROZEN, 6, 0⟩, f), (⟨.DPLL_STATUS_XOSRC, 6, 0⟩, f)]
      s.canonical = true ∧ (∀ q, q < 10 → (s.get .REF_LIVE_QUAL 6 q = 1 ↔ q = 3)) ∧ s.get .HO_FROZEN 6 0 = f ∧ s.get .HO_LOCKT 6 0 = k ∧
        s.get .DPLL_STATUS_XOSRC 6 0 = f) ∧
    (let s := demo [(⟨.DPLL_STATUS_STATE, 6, 0⟩, 2), (⟨.DPLL_PBO, 6, 0⟩, 2 ^ 32 - 1), (⟨.DPLL_CFG_REALIGN, 6, 0⟩, 1)]
     s.slewRate = 1000) := by decide +kernel

/-- The premises of `FrameOutputsPlaceTheirEdges`. -/
theorem witness_FrameOutputsPlaceTheirEdges :
    (let s := demo [(⟨.FO_NUM, 6, 3⟩, 48000), (⟨.FO_DEN, 6, 3⟩, 1), (⟨.REF_CFG_EN, 6, 7⟩, 1), (⟨.REF_RAWP, 6, 7⟩, 1), (⟨.REF_RAW, 6, 7⟩, 1),
       (⟨.FO_CFG_SRC, 6, 3⟩, 7), (⟨.FO_STATUS_STATE, 6, 3⟩, foWait)]
     s.canonical = true ∧ s.due = [] ∧ rateOk (s.get .FO_NUM 6 3) (s.get .FO_DEN 6 3) = true ∧ s.get .REF_CFG_EN 6 7 = 1 ∧ s.get .FO_CFG_SRC 6 3 = 7 ∧
      s.get .FO_STATUS_STATE 6 3 = foWait ∧ s.get .REFSEL_STATUS_SEL 6 0 ≠ 7) ∧
    (∀ h, h ∈ [0, 1] →
      let s := demo [(⟨.FO_HIGH, 6, 3⟩, h), (⟨.FO_STATUS_STATE, 6, 3⟩, foFly)]
      s.get .FO_HIGH 6 3 = h ∧ 2 ≤ s.get .FO_STATUS_STATE 6 3) := by decide +kernel

/-! ### Core clocks -/

/-- The premises of `MdllLosesAndLocks`: every state of a die, with LOLACT, a trip, and a second search. -/
theorem witness_MdllLosesAndLocks :
    (∀ st, st ∈ [0, 1, 2, 3] →
      let s := demo [(⟨.MDLL_STATUS_STATE, 5, 0⟩, st), (⟨.MDLL_CFG, 5, 0⟩, 1), (⟨.MDLL_STATUS_SEARCHES, 5, 0⟩, 1), (⟨.MDLL_STATUS_OUT, 4, 0⟩, 1)]
      s.canonical = true ∧ s.get .MDLL_STATUS_STATE 5 0 = st ∧ s.get .MDLL_CFG 5 0 = 1 ∧ s.get .THERM_STATUS_TRIPPED 5 0 = 0 ∧
        s.get .MDLL_STATUS_SEARCHES 5 0 ≠ 0 ∧ s.live 5 0 .MDLL_LOL = false ∧ s.conds = [] ∧ s.get .MDLL_STATUS_OUT 4 0 = outMdll) ∧
    (∀ x, x ∈ [0, 1] → (demo [(⟨.REFCLK_OK, 5, 0⟩, x)]).get .REFCLK_OK 5 0 = x) ∧
    (∀ x, x ∈ [0, 1] → (demo [(⟨.THERM_STATUS_TRIPPED, 5, 0⟩, x)]).get .THERM_STATUS_TRIPPED 5 0 = x) ∧
    (∀ k, k ∈ [2, 4] →
      let s := demo [(⟨.BOOT_STEP, 6, 0⟩, k), (⟨.BOOT_WAIT, 6, 0⟩, 2 ^ 5)]
      s.get .BOOT_STEP 6 0 = k ∧ s.get .BOOT_WAIT 6 0 = 2 ^ 5 ∧ s.get .LF_STATUS_BUSY 5 0 = 0 ∧ s.get .IN_PORST 6 0 = 0 ∧ s.dieClocked 5 = false) ∧
    (demo [(⟨.BOOT_STEP, 6, 0⟩, 5)]).get .BOOT_STEP 6 0 = 5 ∧
    (signed 16 (2 ^ 16 - 10)).natAbs ≤ 10 ∧ 10 < (signed 16 11).natAbs ∧ (demo [(⟨.MDLL_AFTERLOSS, 5, 0⟩, 1)]).get .MDLL_AFTERLOSS 5 0 = 1 := by decide +kernel

/-- R462: the last die's lock in step 4 ends it, and the links whose ends both run train. -/
theorem test_bootLock :
    Completes (.mdllLockComplete 5 0) (demo [(⟨.BOOT_STEP, 6, 0⟩, 4), (⟨.BOOT_WAIT, 6, 0⟩, 32), (⟨.MDLL_STATUS_STATE, 5, 0⟩, 2)]) fun t =>
      t.get .BOOT_STEP 6 0 = 5 ∧ t.get .MDLL_STATUS_OUT 5 0 = outMdll := ⟨_, rfl, by decide +kernel⟩

/-! ### MACs and streams -/

/-- The worked example's packet of stream 5: lengths, number, timestamp, and a complete header sum. -/
theorem test_stxPacket :
    let s := demo [(⟨.STX_FMT_PTIME, 6, 5⟩, 48), (⟨.STX_FMT_CHANS, 6, 5⟩, 7), (⟨.STX_SEQOFS, 6, 5⟩, 0x0100), (⟨.STX_TSOFS, 6, 5⟩, 0x80000000)]
    let p := s.stxPacket 6 5 480000 (List.replicate 14 0 ++ 0x45 :: List.replicate 39 7) (List.replicate 1152 0)
    p.length = 1206 ∧ netNat (slice p 16 2) = 1192 ∧ netNat (slice p 38 2) = 1172 ∧ netNat (slice p 44 2) = 0x2810 ∧
      netNat (slice p 46 4) = 0x80075300 ∧ onesSum (slice p 14 20) % 65535 = 0 := by decide +kernel

/-- The CRC-32 of the nine digits. -/
theorem test_crc32 : crc32 [49, 50, 51, 52, 53, 54, 55, 56, 57] = 0xCBF43926 := by decide +kernel

/-- A queued frame of MAC 3 of die 7. -/
def demoFrame (q host seq launch : Nat) (timed : Bool) : MacFrame := ⟨7, 3, q, host, 2, [1, 2, 3], true, seq, timed, 0, 0, launch, false⟩

/-- The premises of `MacModesLinksAndStamps`. -/
theorem witness_MacModesLinksAndStamps :
    (∀ old, old ∈ [0, 1, 4] →
      let s := { demo [(⟨.MAC_CFG_MODE, 7, 3⟩, old), (⟨.MAC_STATUS_LINK, 7, 3⟩, 1)] with tsf := [⟨7, 3, 65535, 7, 9, 8⟩], macTx := [demoFrame 0 0 0 0 false] }
      s.canonical = true ∧ s.get .MAC_CFG_MODE 7 3 = old ∧ s.admitted 7 3 = [demoFrame 0 0 0 0 false] ∧ s.get .MAC_STATUS_LINK 7 3 ≠ 0 ∧
        s.tsf.find? (fun e => e.die == 7 && e.mac == 3) = some ⟨7, 3, 65535, 7, 9, 8⟩ ∧ ∀ f, f ∈ s.macTx ++ s.macLine → f.host = 0) ∧
    (demoUp []).dieClocked 7 = true ∧ (demo []).dieClocked 7 = false ∧
    (demo []).admitted 7 3 = [] ∧ (demo []).tsf.find? (fun e => e.die == 7 && e.mac == 3) = none := by decide +kernel

/-- The premises of `FramesAreAdmittedAndSentByPriority`: packets on offer, a descriptor in memory, heads, a frame on the line. -/
theorem witness_FramesAreAdmittedAndSentByPriority :
    (∀ g, g ∈ [true, false] →
      let p : StxPacket := ⟨7, 127, 3, 7, List.replicate 60 0, g⟩
      let s := { demoUp [(⟨.MAC_CFG_MODE, 7, 3⟩, 4), (⟨.MAC_STATUS_LINK, 7, 3⟩, 1)] with built := [p] }
      s.canonical = true ∧ s.macRuns 7 = true ∧ (demo []).macRuns 7 = false ∧ s.built.find? (fun p => p.die == 7 && p.stream == 127 && p.mac == 3 && p.queue == 7) = some p ∧
        s.txBytes 7 3 + (pad60 p.bytes).length ≤ 262144) ∧
    (∀ k, k ∈ [0, 1, 2] →
      let f := demoFrame 7 1 0 k true
      let s := { demo [] with macTx := [f, demoFrame 3 0 0 0 false] }
      phcReached (s.phcNow 7) (f.lsec, f.lns) = true ∧ s.queueHead 7 3 7 = some f ∧ s.onLine 7 3 = none ∧ s.nextFrame 7 3 = some (if k = 0 then demoFrame 3 0 0 0 false else f)) ∧
    ((demo [(⟨.MAC_STATUS_PAUSED, 7, 3⟩, 1)]).get .MAC_STATUS_PAUSED 7 3 = 1) := by decide +kernel

/-- A ring of MAC 3 of die 7 with one descriptor produced, at the top of the SRAM. -/
def demoDesc : State :=
  (demoUp [(⟨.MAC_CFG_MODE, 7, 3⟩, 4), (⟨.MAC_STATUS_LINK, 7, 3⟩, 1), (⟨.TXQ_BASE, 7, 31⟩, 0x7FFFF), (⟨.TXQ_PI, 7, 31⟩, 1)]).setWord 7 0xFFFFE4 60

/-- The host descriptor of `FramesAreAdmittedAndSentByPriority`. -/
theorem witness_HostDescriptor :
    demoDesc.canonical = true ∧ demoDesc.macRuns 7 = true ∧ demoDesc.get .TXQ_FETCH 7 31 ≠ demoDesc.get .TXQ_PI 7 31 ∧
      demoDesc.txDescBad 7 3 (natBytes 4 0 ++ natBytes 4 60 ++ List.replicate 24 0) = false ∧
      demoDesc.macRead 7 3 0xFFFFE0 16 = (demoDesc.granted (demoDesc.request 7 12 0xF700FFFFE0 false 16 0), 60 * 2 ^ 32) := by decide +kernel

/-- A frame on the line whose descriptor can be written. -/
theorem witness_TxComplete :
    let s := { demoUp [(⟨.TXQ_BASE, 7, 31⟩, 0x7FFFD)] with macLine := [demoFrame 7 1 65536 0 false] }
    s.canonical = true ∧ s.macRuns 7 = true ∧ s.onLine 7 3 = some (demoFrame 7 1 65536 0 false) ∧ s.admitted 7 3 = [] ∧
      s.Passes (s.request 7 12 ((15 * 16 + 7) * 2 ^ 32 + 0xFFFFF0) true 4 0) ∧ s.Sound 7 0xFFFFF0 ∧ s.wordLocked 7 0xFFFFF0 = false := by
  decide +kernel

/-- A frame of 60 bytes and its FCS. -/
def demoRx (body : List Nat) : List Nat := let b := body ++ List.replicate (60 - body.length) 0; b ++ natBytes 4 (crc32 b)

/-- The premises of `ReceivedFramesAreCheckedAndDelivered`: a good PAUSE frame, another control frame and a broadcast. -/
theorem witness_ReceivedFramesAreCheckedAndDelivered :
    (∀ x, x ∈ [[0x88, 0x08, 0, 1, 255, 255], [0x88, 0x08, 0, 2], [8, 6]] →
      let l := demoRx (List.replicate 12 255 ++ x)
      let s := demoUp [(⟨.MAC_CFG_MODE, 7, 3⟩, 3), (⟨.MAC_ADDR, 7, 3⟩, 2 ^ 48 - 1)]
      l.length = 64 ∧ bytesNat (l.drop 60) = crc32 (l.take 60) ∧ s.get .WAKE_ONLY 6 0 = 0 ∧ s.canonical = true ∧ s.serdesRuns 7 = true ∧
        s.pauseForMe 7 3 (l.take 60) = true ∧
        ((etherType (l.take 60)).1 = 0x8808 ↔ x ≠ [8, 6]) ∧ s.streamFor 7 3 (l.take 60) = none ∧ s.macAccepts 7 3 (l.take 60) = true ∧
        (0 + 1) % 8 ≠ s.get .RXR_CI 7 3) ∧
    (demo []).macAccepts 7 3 (List.replicate 60 2) = false ∧
    (let s := demo [(⟨.WAKE_ONLY, 6, 0⟩, 1), (⟨.AON_LANE, 6, 0⟩, 1), (⟨.MAC_WAKE_CFG_PEN, 6, 0⟩, 0x80)]
     s.get .WAKE_ONLY 6 0 = 1 ∧ s.get .AON_LANE 6 0 = 1 ∧ bitAt (s.get .MAC_WAKE_CFG_PEN 6 0) 7 = 1 ∧ s.patternHit 6 7 [] = true) := by decide +kernel

/-- The premises of `StreamsEnableBuildAndPlace`. -/
theorem witness_StreamsEnableBuildAndPlace :
    (let s := demo [(⟨.MAC_CFG_MODE, 7, 3⟩, 3), (⟨.STX_FMT_PTIME, 7, 127⟩, 255), (⟨.SRX_FMT_PTIME, 7, 127⟩, 255), (⟨.SRX_JBUF_JLOG, 7, 127⟩, 13)]
     s.canonical = true ∧ s.get .STX_CFG_EN 7 127 = 0 ∧ s.stxLoad 7 = 0 ∧ s.srxLoad 7 = 0 ∧ s.get .SRX_JBUF_JLOG 7 127 = 13 ∧
      s.get .MAC_CFG_MODE 7 3 ≠ 0 ∧ s.get .DOM_CFG_RATE 6 0 = 1) ∧
    (demoUp []).dieClocked 7 = true ∧ (demo []).dieClocked 7 = false ∧
    (demo []).get .STX_FMT_PTIME 7 127 = 0 ∧ (demo [(⟨.STX_CFG_EN, 7, 127⟩, 1)]).get .STX_CFG_EN 7 127 = 1 ∧
    (let s := demo [(⟨.STX_STOPPING, 7, 127⟩, 1)]
     s.get .STX_STOPPING 7 127 = 1 ∧ s.stxRun 7 127 = none) ∧
    (∀ v, v ∈ [0, 1] → (demo [(⟨.STX_HDR_VLAN, 7, 127⟩, v)]).get .STX_HDR_VLAN 7 127 = v) := by decide +kernel

/-- A frame of 60 bytes and its FCS that carries one L24 sample −0.5 for sample 40, to 239.0.0.9 port 5004; `v` is the RTP version's octet. -/
def demoAudio (v : Nat) : List Nat :=
  demoRx ([1, 0, 0x5E, 0, 0, 9, 2, 2, 2, 2, 2, 2, 8, 0] ++ [69, 0, 0, 43, 0, 1, 0, 0, 64, 17, 129, 183, 10, 0, 0, 1, 239, 0, 0, 9] ++
    [19, 140, 19, 140, 0, 23, 0, 0] ++ [v, 96, 0, 7, 0, 0, 0, 40, 1, 2, 3, 4, 0xC0, 0, 0])

/-- Receive stream 127 of die 7 for it, in domain B at sample 38, its jitter buffer (J = 64) at 0x400 and its ring at 0x1000, with cells as
given. -/
def demoSrx (l : List (Loc × Nat)) : State :=
  demoUp ([(⟨.MAC_CFG_MODE, 7, 3⟩, 3), (⟨.PKT_CFG_EN, 7, 0⟩, 1), (⟨.SRX_CFG_EN, 7, 127⟩, 1), (⟨.SRX_CFG_DOMAIN, 7, 127⟩, 1), (⟨.SRX_CFG_MACMASK, 7, 127⟩, 8),
    (⟨.SRX_FMT_ENC, 7, 127⟩, 1), (⟨.SRX_FMT_PTIME, 7, 127⟩, 1), (⟨.SRX_FMT_PT, 7, 127⟩, 96), (⟨.SRX_MATCH_IP, 7, 127⟩, 0xEF000009),
    (⟨.SRX_MATCH_PORT, 7, 127⟩, 5004), (⟨.SRX_JBUF_BASE, 7, 127⟩, 1), (⟨.SRX_JBUF_JLOG, 7, 127⟩, 6), (⟨.SRX_BUF, 7, 127⟩, 4), (⟨.SRX_STAT_RUN, 7, 127⟩, 1),
    (⟨.DOM_STATUS_MLOCK, 6, 1⟩, 1), (⟨.TB_DOMCNT, 6, 1⟩, 38)] ++ l)

/-- The premises of the stream clauses of `ReceivedFramesAreCheckedAndDelivered`. -/
theorem witness_ReceivedFrames_streams :
    let s := demoSrx []
    let body := (demoAudio 0x80).take 60
    s.canonical = true ∧ s.serdesRuns 7 = true ∧ bytesNat ((demoAudio 0x80).drop 60) = crc32 body ∧ s.streamFor 7 3 body = some (127, body.drop 14) ∧
      (etherType body).1 ≠ 0x8808 ∧ s.srxBad 7 127 (body.drop 14) = false ∧ s.srxBad 7 127 (((demoAudio 0x40).take 60).drop 14) = true ∧
      (∀ w, w ∈ [false, true] → s.Passes (s.request 7 8 (15 * 2 ^ 36 + 7 * 2 ^ 32 + 0x400) w 4 0)) ∧ s.errs = [] ∧ s.get .FLT_INJ_COUNT 7 bankSet = 0 ∧
      s.offline 7 0x400 = false ∧ s.wordLocked 7 0x400 = false := by decide +kernel

/-- R332, R333: the sample is placed at position 40. -/
theorem test_streamPlaced :
    let t := (demoSrx []).macDeliver 7 3 ((demoAudio 0x80).take 60) 0 0
    t.load 7 (0x400 + 160) 4 = 0xBF000000 ∧ t.get .SRX_VALID 7 (127 * 8192 + 40) = 1 ∧ t.get .SRX_PKTS 7 127 = 1 ∧ t.get .SRX_SEQ 7 127 = 7 := by
  decide +kernel

/-- R332: a frame of another RTP version is discarded. -/
theorem test_streamBadHeader :
    let t := (demoSrx []).macDeliver 7 3 ((demoAudio 0x40).take 60) 0 0
    t.get .SRX_BADHDR 7 127 = 1 ∧ t.get .RX_FRAMES 7 3 = 1 := by decide +kernel

/-- The premises of the clauses of `StreamsEnableBuildAndPlace` over edges, but those on every cell or address. -/
theorem witness_StreamsEnableBuildAndPlace_edges :
    let r : StxRun := ⟨7, 127, [1], [9], 33, 0, 5, []⟩
    let s := { demoSrx [(⟨.SRX_STAT_RUN, 7, 127⟩, 0), (⟨.STX_CFG_DOMAIN, 7, 127⟩, 1), (⟨.STX_FMT_PTIME, 7, 127⟩, 2), (⟨.STX_BUF, 7, 127⟩, 4)] with stx := [r] }
    s.canonical = true ∧ s.mayAlign 1 = false ∧ s.starts = [] ∧ s.get .PAIR_TDV 6 0 = 0 ∧ s.ports = [] ∧ s.liveBridges = [] ∧ s.stxRun 7 127 = some r ∧
      s.get .STX_CFG_DOMAIN 7 127 = 1 ∧ r.lasts.length = s.get .STX_FMT_CHANS 7 127 + 1 ∧ s.get .PKT_CFG_EN 7 0 = 1 ∧ s.get .STX_STOPPING 7 127 = 0 ∧
      (demoSrx [(⟨.SRX_BN0, 7, 127⟩, 33)]).get .SRX_BN0 7 127 = 33 ∧ (demoSrx []).get .SRX_STAT_RUN 7 127 = 1 ∧
      (demoSrx [(⟨.SRX_VALID, 7, 127 * 8192 + 38⟩, 1)]).get .SRX_VALID 7 (127 * 8192 + 38) = 1 ∧ (demoSrx []).get .SRX_VALID 7 (127 * 8192 + 38) = 0 := by decide +kernel

/-- R333: a valid sample goes to the ring. -/
theorem test_streamSamplePlays :
    let t := ((demoSrx [(⟨.SRX_BN0, 7, 127⟩, 33), (⟨.SRX_VALID, 7, 127 * 8192 + 38⟩, 1)]).store 7 (0x400 + 152) 4 0xBF000000).streamSample 1 38
    t.load 7 (0x1000 + 3 * 96 + 32 + 24) 4 = 0xBF000000 ∧ t.get .SRX_VALID 7 (127 * 8192 + 38) = 0 := by decide +kernel

/-- R333: a missing sample of a stream that has received counts. -/
theorem test_streamSampleMisses :
    let t := (demoSrx [(⟨.SRX_BN0, 7, 127⟩, 33), (⟨.SRX_STAT_RCVD, 7, 127⟩, 1), (⟨.SRX_MISSD, 7, 127⟩, 1)]).streamSample 1 38
    t.get .SRX_MISS 7 127 = 1 ∧ t.get .SRX_BFLAGS 7 127 = 32 := by decide +kernel

/-! ### PTP -/

/-- R337: the addend of an edge at F = 0 is 10 ns. -/
theorem test_phcAddend : phcAddend 0 = 10 * 2 ^ 40 := by decide +kernel

/-- The worked example: a step of 3,000,012 ns takes 7,200.000 002 000 to 7,199.997 001 988, and output 0 runs on at 7,200. -/
theorem test_step :
    let s := demo [(⟨.PHC_RSEC, 6, 0⟩, 7200), (⟨.PHC_RNS, 6, 0⟩, 2000), 
      (⟨.TS_STATUS_STATE, 6, 0⟩, 2), (⟨.TS_PERIOD, 6, 0⟩, 1000000000), (⟨.TS_NSEC, 6, 0⟩, 7201)]
    let t := s.phcStep ⟨6, 0, 1, false, 3000012 * 65536, 0, 0⟩
    t.phcNow 6 = (7199, 997001988) ∧ (t.tsAdjust s 0).get .TS_NSEC 6 0 = 7200 ∧ (t.tsAdjust s 0).get .TS_NNS 6 0 = 0 := by decide +kernel

/-- The premises of `ServoFollowsOffsetsAndAsksForSteps`: offsets at the threshold and beyond, with and without a request. -/
theorem witness_ServoFollowsOffsetsAndAsksForSteps :
    (∀ req, req ∈ [0, 1] →
      let s := demoUp [(⟨.SERVO_CFG, 6, 0⟩, 1), (⟨.SERVO_STATUS_STEP_REQ, 6, 0⟩, req)]
      s.canonical = true ∧ s.due = [] ∧ s.dieClocked 6 = true ∧ s.get .FLT_FIRST_VALID 6 (FaultName.set .PTP_FSAT 0) = 0 ∧ s.get .SERVO_CFG 6 0 = 1 ∧ s.get .SERVO_STATUS_STEP_REQ 6 0 = req ∧ s.get .SERVO_STATUS_HOLD 6 0 = 0 ∧
        (signed 64 (100000 * 65536)).natAbs ≤ s.get .STEP_THRESH 6 0 * 2 ^ 16 ∧ ¬ (signed 64 (100000 * 65536 + 1)).natAbs ≤ s.get .STEP_THRESH 6 0 * 2 ^ 16 ∧
        (signed 64 (2 ^ 64 - 1000 * 65536)).natAbs ≤ s.get .SERVO_LOCK_LOCKTH 6 0 * 2 ^ 16) ∧
    (let s := demoUp [(⟨.TB_SYSCNT, 6, 0⟩, 3 * 10 ^ 9)]
     s.get .SERVO_OFFT 6 0 + max 1 (s.get .SERVO_LOCK_TIMEOUT 6 0) * 10 ^ 8 ≤ s.capture 6) ∧ (demo []).dieClocked 6 = false ∧
    (demo []).get .SERVO_CFG 6 0 = 0 ∧ (demo [(⟨.SERVO_STATUS_HOLD, 6, 0⟩, 1)]).get .SERVO_STATUS_HOLD 6 0 = 1 ∧
    (demo [(⟨.PHC_SETNS, 6, 0⟩, 999999999)]).get .PHC_SETNS 6 0 < 10 ^ 9 ∧ 10 ^ 9 ≤ (demo [(⟨.PHC_SETNS, 6, 0⟩, 1000000000)]).get .PHC_SETNS 6 0 := by
  decide +kernel

/-- The premises of `PhcChangesAtItsEdgeAndTsyncFollows`: each kind of step, each state of an output, each setting at its edge. -/
theorem witness_PhcChangesAtItsEdgeAndTsyncFollows :
    (∀ k, k ∈ [0, 1, 2] → ∀ st, st ∈ [0, 1, 2, 3] →
      let c : PhcChange := ⟨6, 0, k, false, 2 ^ 64 - 1, 2 ^ 48 - 1, 999999999⟩
      let s := { demo [(⟨.TS_STATUS_STATE, 6, 3⟩, st), (⟨.TS_PERIOD, 6, 3⟩, 40)] with phc := [c, ⟨7, 100, 0, true, 5, 0, 0⟩] }
      s.canonical = true ∧ s.phc.filter (s.phcDue 3) = [c] ∧ s.get .TS_STATUS_STATE 6 3 = st ∧ s.phcNs 6 < 2 ^ 47 * 10 ^ 9 ∧ 40 ≤ s.get .TS_PERIOD 6 3) ∧
    ((demoUp [(⟨.PHC_RNS, 6, 0⟩, 1)]).routeUp 6 7 = true ∧ (demoUp [(⟨.PHC_RNS, 6, 0⟩, 1)]).get .PHC_RNS 6 0 ≠ (demoUp [(⟨.PHC_RNS, 6, 0⟩, 1)]).get .PHC_RNS 7 0) ∧
    (demo []).get .PHC_RNS 6 0 = (demo []).get .PHC_RNS 7 0 ∧ (demoUp [(⟨.PHC_SLVBAD, 7, 0⟩, 1)]).get .PHC_SLVBAD 7 0 = 1 ∧
    (∀ j, j ∈ [0, 1] → let s := demo [(⟨.TS_STATUS_STATE, 6, 3⟩, 1), (⟨.TS_JUMP, 6, 3⟩, j)]
      s.tsReached 3 = true ∧ s.get .TS_JUMP 6 3 = j) ∧
    (let s := demo [(⟨.TS_START_NS, 6, 3⟩, 999999999), (⟨.TS_WIDTH, 6, 3⟩, 10), (⟨.TS_PERIOD, 6, 3⟩, 40)]
     s.tsRefused 3 0 = false ∧ s.tsRefused 3 1 = false ∧ phcReached (s.phcNow 6) (s.tsStart 3) = false ∧ s.get .TS_CFG_EN 6 3 = 0) ∧
    (let s := demo [(⟨.TS_WIDTH, 6, 3⟩, 40), (⟨.TS_PERIOD, 6, 3⟩, 40)]
     s.tsRefused 3 0 = false ∧ s.tsRefused 3 1 = true ∧ phcReached (s.phcNow 6) (s.tsStart 3) = true) ∧
    (demo [(⟨.TS_CFG_EN, 6, 3⟩, 1)]).get .TS_CFG_EN 6 3 = 1 := by decide +kernel

/-! ### The ring and pairs -/

/-- A unit of the ring: both ports UP, every link UP, address `a`. -/
def demoRing (a : Nat) (l : List (Loc × Nat)) : State :=
  demoUp ([(⟨.BIRAY_STATUS_STATE, 6, 0⟩, 2), (⟨.BIRAY_STATUS_STATE, 7, 0⟩, 2), (⟨.RING_STATUS_ADDR, 6, 0⟩, a), (⟨.RING_HASADDR, 6, 0⟩, 1)] ++ l)

/-- A frame with header word 1 and words 2 and 3. -/
def demoBFrame (src dst w1 w2 : Nat) (payload : List Nat) : BFrame := ⟨src, dst, 0, 5, [w1, w2, 0, 0, 0, 0, 0], payload⟩

/-- R25, R360: NEXT = 15 is a sixteenth address, and the token goes on with 16. -/
theorem test_sixteenth :
    Completes (.enum 0 (demoBFrame 0 15 15 0 [])) ((demoRing 3 []).put .RING_HASADDR 6 0 0) fun t =>
      t.get .RING_STATUS_ADDR 6 0 = 15 ∧ t.addressed = true ∧ t.sent.any (fun m => match m with | .biray 6 2 g => g.w.head? = some 16 | _ => false) :=
  ⟨_, rfl, by decide +kernel⟩

/-- The worked example of R374: the takeover at 960,016 announces 960,032. -/
theorem test_takeover :
    let s := demoRing 2 [(⟨.PAIR_CFG_PAIRID, 6, 0⟩, 7), (⟨.PAIR_CFG_AUTO, 6, 0⟩, 1), (⟨.PAIR_STATUS_ROLE, 6, 0⟩, 2), (⟨.PAIR_STATUS_SYNC, 6, 0⟩, 2),
      (⟨.EPOCH_STATUS_RUN, 6, 0⟩, 1), (⟨.PAIR_PESC, 6, 0⟩, 3)]
    (s.triggersAt 960016).get .PAIR_ACTSINCE 6 0 = 960032 ∧ (s.triggersAt 960016).get .PAIR_STATUS_TAKEPEND 6 0 = 1 := by decide +kernel

/-- The premises of `PortsWrapAndFramesAreRouted`. -/
theorem witness_PortsWrapAndFramesAreRouted :
    (let s := demoRing 3 [(⟨.BIRAY_DLY, 7, 0⟩, 1), (⟨.RING_STEPPED, 6, 0⟩, 1)]
     s.canonical = true ∧ s.get .BIRAY_STATUS_STATE 7 0 = 2 ∧ s.routeUp 7 6 = true ∧ s.routeUp 6 7 = true ∧ s.get .BIRAY_STATUS_WRAP 6 0 = 0 ∧
      s.get .BIRAY_DLY 7 0 = 1 ∧ s.get .RING_STATUS_ADDR 6 0 ≠ 4 ∧ s.due = [] ∧ (∀ d, d ∈ [6, 7] → s.serdesRuns d = true ∧ s.dieClocked d = true)) ∧
    (let s := demoRing 3 [(⟨.BIRAY_STATUS_WRAP, 6, 0⟩, 1), (⟨.BIRAY_STATUS_WRAP, 7, 0⟩, 1), (⟨.BIRAY_DISCW, 7, 0⟩, 1)]
     s.canonical = true ∧ s.get .BIRAY_STATUS_WRAP 6 0 = 1 ∧ s.get .BIRAY_STATUS_WRAP 7 0 = 1 ∧ s.get .BIRAY_DISCW 7 0 = 1) ∧
    (∀ x, x ∈ [0, 1, 3] → (demo [(⟨.BIRAY_STATUS_STATE, 6, 0⟩, x)]).get .BIRAY_STATUS_STATE 6 0 = x) := by decide +kernel

/-- The premises of `RingEnumeratesAndKeepsTime`. -/
theorem witness_RingEnumeratesAndKeepsTime :
    (∀ h, h ∈ [0, 1] → ∀ tries, tries ∈ [2, 3] →
      let s := demoRing 0 [(⟨.RING_STATUS_HEAD, 6, 0⟩, h), (⟨.RING_TOKEN, 6, 0⟩, 1), (⟨.RING_TRIES, 6, 0⟩, tries), (⟨.DOM_CFG_RING, 6, 2⟩, 1)]
      s.canonical = true ∧ s.get .RING_STATUS_HEAD 6 0 = h ∧ s.get .RING_TRIES 6 0 = tries ∧ s.get .RING_TOKEN 6 0 = 1 ∧ s.get .RING_HASADDR 6 0 = 1 ∧
        s.routeUp 7 6 = true ∧ s.commitRefused 2 32 = false ∧ s.commitRefused 2 33 = true ∧ s.get .BIRAY_STATUS_STATE 6 0 = 2) ∧
    (let s := (demoRing 15 []).put .RING_HASADDR 6 0 0
     s.get .RING_STATUS_HEAD 6 0 = 0 ∧ s.get .RING_HASADDR 6 0 = 0 ∧ s.get .RING_STATUS_UP 6 0 = 0 ∧ s.get .RING_STATUS_OVERSIZE 6 0 = 0 ∧
      s.get .RING_OVER 6 0 = 0) ∧
    (let s := demoRing 0 [(⟨.RING_STEPPED, 6, 0⟩, 1), (⟨.RING_UPSTEP, 6, 0⟩, 1), (⟨.TB_SYSCNT, 6, 0⟩, 10 ^ 8)]
     s.get .RING_STEPPED 6 0 = 1 ∧ s.get .RING_UPSTEP 6 0 = 1 ∧ s.get .RING_STEPT 6 0 + 10 ^ 8 ≤ s.capture 6) ∧
    (∀ k, k ∈ [4, 5] → ∀ tail, tail ∈ [0, 2] → ∀ st, st ∈ [0, 2] →
      let s := demoRing 0 [(⟨.BOOT_STEP, 6, 0⟩, k), (⟨.AXO_STATUS_TAIL, 6, 0⟩, tail), (⟨.BIRAY_STATUS_STATE, 6, 0⟩, st), (⟨.TB_SYSCNT, 6, 0⟩, 6 * 10 ^ 8)]
      s.get .BOOT_STEP 6 0 = k ∧ s.get .AXO_STATUS_TAIL 6 0 = tail ∧ s.get .BIRAY_STATUS_STATE 6 0 = st ∧ s.get .RING_STEPPED 6 0 = 0 ∧
        s.get .CSF_READY 6 0 = 0 ∧ 6 * 10 ^ 8 ≤ s.capture 6) ∧
    frWord (demoBFrame 1 0 15 0 []) 1 % 32 = 15 ∧ frWord (demoBFrame 1 0 16 0 []) 1 % 32 = 16 ∧ bitAt (frWord (demoBFrame 1 0 32 0 []) 1) 5 = 1 ∧
    frWord (demoBFrame 1 0 15 0 []) 1 % 16 = 15 ∧ bitAt (frWord (demoBFrame 1 0 16 0 []) 1) 4 = 1 ∧
    (let s := { demoRing 0 [] with remote := [⟨9, 1, 5, 2, 0x1000000000, false, 0⟩] }
     s.remote.find? (fun q => q.tag == 9 && q.unit == 1) = some ⟨9, 1, 5, 2, 0x1000000000, false, 0⟩ ∧ s.get .FAB_DERR_VALID 5 0 = 0 ∧
      s.get .EPOCH_CSTAT_COMMIT_PEND 6 0 = 0 ∧ s.hostQ = [] ∧ s.due = []) := by decide +kernel

/-- The premises of `PairRolesHealthAndResync`. -/
theorem witness_PairRolesHealthAndResync :
    (∀ r, r ∈ [0, 1, 2] → ∀ y, y ∈ [0, 1, 2, 3] →
      let s := demoRing 2 [(⟨.PAIR_STATUS_ROLE, 6, 0⟩, r), (⟨.PAIR_STATUS_SYNC, 6, 0⟩, y), (⟨.PAIR_CFG_PAIRID, 6, 0⟩, 7), (⟨.PAIR_SNAP_AT, 6, 0⟩, 32),
        (⟨.PAIR_TDV, 6, 0⟩, 1)]
      s.canonical = true ∧ s.get .PAIR_STATUS_ROLE 6 0 = r ∧ s.get .PAIR_STATUS_SYNC 6 0 = y ∧ s.get .PAIR_CFG_PAIRID 6 0 = 7 ∧
        s.get .PAIR_SNAP_AT 6 0 % (8 * 2 ^ s.get .EPOCH_CFG_BSIZE 6 0) = 0 ∧
        ¬ s.get .PAIR_SNAP_AT 6 0 < (s.get .TB_DOMCNT 6 0 / (8 * 2 ^ s.get .EPOCH_CFG_BSIZE 6 0) + 2) * (8 * 2 ^ s.get .EPOCH_CFG_BSIZE 6 0) ∧
        s.get .PAIR_STATUS_SNAPPEND 6 0 = 0 ∧ s.get .PAIR_TDV 6 0 = 1 ∧ s.mirrorUsed = 0) ∧
    (let s := demo [(⟨.PAIR_STATUS_SNAPPEND, 6, 0⟩, 1), (⟨.PAIR_TD, 6, 0⟩, 17), (⟨.PAIR_STATUS_TAKEPEND, 6, 0⟩, 1), (⟨.PAIR_ACTQ, 6, 0⟩, 2)]
     s.get .PAIR_STATUS_SNAPPEND 6 0 = 1 ∧ s.get .TB_DOMCNT 6 0 + 8 * 2 ^ s.get .EPOCH_CFG_BSIZE 6 0 < s.get .PAIR_TD 6 0 ∧
      s.get .PAIR_STATUS_TAKEPEND 6 0 = 1 ∧ s.get .PAIR_ACTQ 6 0 < 3) ∧
    (let s := demo [(⟨.DOM_CFG_RING, 6, 1⟩, 1), (⟨.DIG_RINGB, 6, 66⟩, 33), (⟨.DIG_RING, 6, 66⟩, 5)]
     let f := demoBFrame 1 15 7 0 [0, 0, 0, 0, 0, 0, 0, 0, 9, 0, 0, 0, 32, 0, 0, 0]
     let k := bytesNat (slice f.payload (8 * 1 + 4) 4)
     let x := 64 + k / (8 * 2 ^ s.get .EPOCH_CFG_BSIZE 6 1) % 64
     s.get .DIG_RINGB 6 x ≠ 0 ∧ (s.get .DIG_RINGB 6 x - 1) % 2 ^ 32 = k ∧ s.get .DIG_CMP 6 x ≠ k + 1 ∧
      s.get .DIG_RING 6 x ≠ bytesNat (slice f.payload 8 4)) ∧ (demo []).due = [] ∧ (demoRing 2 []).dieClocked 6 = true ∧
    (let s := { demo [(⟨.PAIR_STATUS_ROLE, 6, 0⟩, 2), (⟨.PAIR_TDV, 6, 1⟩, 1), (⟨.MIRROR_ENDV, 6, 1⟩, 1), (⟨.EPOCH_STATUS_DRAINED, 6, 1⟩, 1),
        (⟨.EPOCH_CUR, 6, 1⟩, 16), (⟨.PAIR_TD, 6, 1⟩, 32)] with mirror := [⟨1, 3, 0, List.replicate 16 7⟩] }
     s.canonical = true ∧ s.get .EPOCH_CUR 6 1 + 8 * 2 ^ s.get .EPOCH_CFG_BSIZE 6 1 = s.get .PAIR_TD 6 1 ∧ s.offline 3 0 = false ∧ s.errs = [] ∧
      s.get .FLT_INJ_COUNT 3 bankSet = 0 ∧ s.mirror.filter (fun x => x.dom == 1) = [⟨1, 3, 0, List.replicate 16 7⟩]) ∧
    (demo []).mirrorUsed + 1024 ≤ 2 ^ 19 := by decide +kernel

/-- R366: a TIME frame passed on in the reverse direction takes the link's delay and the residence time into CORR. -/
theorem test_timeReverse :
    Completes (.time 1 (demoBFrame 0 15 0 7 []) 500 100) (demoRing 3 [(⟨.BIRAY_DELAY, 6, 0⟩, 30)]) fun t =>
      t.get .RING_TH 6 0 = 0 ∧ t.sent.any (fun m => match m with | .biray 7 5 g => g.hops == 5 && frLong g 2 == 7 + 30 * 2 ^ 16 + 100 | _ => false) :=
  ⟨_, rfl, by decide +kernel⟩

/-- R358, R366: a unit without an address computes t_h too, and asks for an address. -/
theorem test_timeUnaddressed :
    Completes (.time 0 (demoBFrame 0 15 0 0 []) 500 0) ((demoRing 0 [(⟨.BIRAY_DELAY, 7, 0⟩, 30)]).put .RING_HASADDR 6 0 0) fun t =>
      t.get .RING_TH 6 0 = 470 ∧ t.sent.any (fun m => match m with | .biray 6 3 _ => true | _ => false) := ⟨_, rfl, by decide +kernel⟩

/-- The further premises of the three statements: the time of a sample, a domain the unit takes part in, and a unit without references. -/
theorem witness_RingFrames :
    (let s := demoRing 2 [(⟨.DOM_CFG_RATE, 6, 1⟩, 3), (⟨.DOM_CFG_RING, 6, 1⟩, 1), (⟨.DOM_CFG_RING, 6, 0⟩, 0), (⟨.EPOCH_CSTAT_COMMIT_PEND, 6, 1⟩, 1), (⟨.COMMIT_T, 6, 1⟩, 32),
        (⟨.PAIR_STATUS_ROLE, 6, 0⟩, 1), (⟨.PAIR_STATUS_SNAPPEND, 6, 0⟩, 1), (⟨.PAIR_TD, 6, 0⟩, 16)]
     s.canonical = true ∧ (s.capture 6 - s.get .DOM_EDGET 6 1 + 1) * ((s.domFs 1).1 * 2 ^ 32) < 2 ^ 32 * ((s.domFs 1).2 * 10 ^ 9) ∧
      s.ringPart 1 = true ∧ s.ringPart 0 = false ∧ s.get .RING_AHEAD 6 1 = 0 ∧ s.get .RING_MIS 6 1 = 0 ∧ s.get .COMMIT_T 6 1 = 32 ∧
      s.get .PAIR_TD 6 0 ≤ s.get .TB_DOMCNT 6 0 + 8 * 2 ^ s.get .EPOCH_CFG_BSIZE 6 0 ∧ s.get .PAIR_SNAPACK 6 0 = 0 ∧ s.get .PAIR_YIELD 6 0 = 0 ∧
      s.serdesRuns 6 = true ∧ s.get .RING_OVER 6 0 = 0 ∧ s.wordLocked 3 0 = false) ∧
    (let s := (demoRing 2 []).put .MDLL_STATUS_OUT 7 0 2
     s.get .BIRAY_STATUS_STATE 7 0 = 2 ∧ s.serdesRuns 7 = false) ∧
    (let s := (demoRing 2 []).put .MDLL_STATUS_OUT 6 0 0
     s.dieClocked 6 = false) := by decide +kernel

/-! ### Axolotl and host ports -/

/-- The worked example of R405: ring 0 at 0x7E, a doorbell to 0x7F is accepted, entry 63's to 0x00 too, one 65 ahead is not. -/
theorem test_doorbell :
    let s := demo [(⟨.MBX_PI, 6, 0⟩, 0x7E), (⟨.MBX_CI, 6, 0⟩, 0x7E)]
    (s.mbxPiWrite 0 0x7F 9 false).get .MBX_PI 6 0 = 0x7F ∧ (s.mbxPiWrite 0 0x7F 9 false).get .HP_TPEND_CMD 6 0 = 1 ∧
      ((s.mbxPiWrite 0 0x7F 9 false).mbxPiWrite 0 0 9 false).get .MBX_STAT_FILL 6 0 = 2 ∧ (s.mbxPiWrite 0 0x3E 9 false).get .MBX_PI 6 0 = 0x3E ∧
      (demo [(⟨.MBX_PI, 6, 0⟩, 0x7E), (⟨.MBX_CI, 6, 0⟩, 0x7E)]).mbxFill 0 = 0 := by decide +kernel

/-- R404: CI and PI of a full ring written in one cycle, CI first: the check of PI still sees the full ring. -/
theorem test_sameCycle :
    let s := demo [(⟨.MBX_PI, 6, 0⟩, 64)]
    ((s.mbxCiWrite 0 1 8 false).mbxPiWrite 0 65 9 true).get .MBX_STAT_BADIDX 6 0 = 1 ∧
      ((s.mbxCiWrite 0 1 8 false).mbxPiWrite 0 65 9 false).get .MBX_PI 6 0 = 65 := by decide +kernel

/-- R31 in the worked example: BAR0 0x0130_0100 is ring 0's MBX_PI, 0x0200_3E00 its entry 62. -/
theorem test_bar0 : bar0Addr 0x1300100 = some (ownAddr 6 0x40C00100) ∧ bar0Addr 0x2003E00 = some (ownAddr 6 0x50003E00) := by decide

/-- The premises of `MailboxesCheckAndInterrupt`. -/
theorem witness_MailboxesCheckAndInterrupt :
    (∀ r, r ∈ [0, 31] →
      let s := demo [(⟨.MBX_PI, 6, r⟩, 70), (⟨.MBX_CI, 6, r⟩, 10), (⟨.PCIE_MSIXEN, 6, 0⟩, 1), (⟨.MSIX_PBA, 6, 0⟩, 2 ^ 31), (⟨.HOST_IPEND, 6, 0⟩, 2 ^ 31)]
      s.canonical = true ∧ s.mbxFill r = 60 ∧ s.eventsOf (r / 2) = [] ∧ s.get .PCIE_MSIXEN 6 0 = 1 ∧ bitAt (s.get .MSIX_PBA 6 0) 31 = 1 ∧
        bitAt (s.get .HOST_IPEND 6 0) 31 = 1 ∧ bitAt (s.get .HOST_IPEND 6 0) 18 = 0 ∧ s.get .PCIE_FMASK 6 0 = 0 ∧ s.get .TAIL_SHEDDING 6 0 = 0 ∧ s.get .IN_PORST 6 0 = 0) ∧
    (74 + 128 - 70) % 128 + 60 ≤ 64 ∧ 64 < (75 + 128 - 70) % 128 + 60 ∧ (70 + 128 - 10) % 128 ≤ 60 ∧ 60 < (71 + 128 - 10) % 128 ∧
    (∀ x, x ∈ [0, 1] → (demo [(⟨.MSIX_CTRL, 6, 5⟩, x)]).get .MSIX_CTRL 6 5 = x) ∧
    (demo [(⟨.PCIE_FMASK, 6, 0⟩, 1)]).get .PCIE_FMASK 6 0 = 1 ∧ (demo [(⟨.TAIL_SHEDDING, 6, 0⟩, 1)]).get .TAIL_SHEDDING 6 0 = 1 := by decide +kernel

/-- A host port: PCIe (0) or QSPI (1) selected. -/
def demoHost (sel : Nat) (l : List (Loc × Nat)) : State :=
  demoUp ([(⟨.HP_CFG, 6, 0⟩, sel), (⟨.HP_STATUS_LINKUP, 6, 0⟩, 1 - sel), (⟨.PCIE_MSE, 6, 0⟩, 1), (⟨.PCIE_BAR0, 6, 0⟩, 2 ^ 33),
    (⟨.PCIE_BAR2, 6, 0⟩, 2 ^ 34), (⟨.BOOT_SET, 6, 0⟩, 1), (⟨.BOOT_STEP, 6, 0⟩, 5)] ++ l)

/-- The premises of `TailShedsAndHostPortsServe`. -/
theorem witness_TailShedsAndHostPortsServe :
    (∀ x, x ∈ [0, 1, 2, 3] →
      let s := demoHost 0 [(⟨.AXO_STATUS_TAIL, 6, 0⟩, x)]
      s.canonical = true ∧ s.gillWrites = true ∧ s.gillFree = true ∧ s.get .AXO_STATUS_TAIL 6 0 = x ∧ s.pcieUp = true ∧ s.qspiIdle = false ∧
        s.barHit (2 ^ 33 + 4) = some (0, 4) ∧ s.barHit (2 ^ 34 + 2 ^ 28 - 4) = some (2, 2 ^ 28 - 4) ∧ s.barHit 0 = none ∧ s.conds = [] ∧
        s.hostQ = [] ∧ s.get .BOOT_STEP 6 0 = 5 ∧ s.errs = [] ∧ s.get .FLT_INJ_COUNT 6 bankSet = 0 ∧ s.get .DMA_KICKOFS_EN 6 0 = 0 ∧
        s.offline 6 0xC00000 = false ∧ s.wordLocked 6 0xC00000 = false ∧ s.get .IN_PORST 6 0 = 0) ∧
    (let s := demoHost 0 []
     let p := hostParts 0 0x1300000 2 0xFF
     let q := s.hostAccess 0 0x1300000 false 4 0
     p = [(0, 4), (4, 4)] ∧ q.1.answer.err = false ∧ q.1.remote.length = 0 ∧ (q.1.hostAccess 0 0x1300004 false 4 0).1.answer.err = false ∧
      (s.hostAccess 0 0x2FFFFF0 false 4 0).1.answer.err = true) ∧
    (let k : HostTask := ⟨false, 0, 0, false, 0, some 9, (0, 4), 5, [], 0, none, 0, []⟩
     let s := { demoHost 0 [] with hostQ := [k], remote := [⟨9, 1, 6, 18, 0x1000000000, false, 3⟩] }
     s.hostQ = [k] ∧ k.tag = some 9 ∧ s.remote.find? (fun q => q.tag == 9) = some ⟨9, 1, 6, 18, 0x1000000000, false, 3⟩) ∧
    (demoHost 0 [(⟨.BANK_STAT_OFFLINE, 6, 96⟩, 1)]).offline 6 0xC00000 = true ∧
    (let s := demoHost 1 [(⟨.QSPI_NIB, 6, 0⟩, 3), (⟨.BAR2_XLAT_EN, 6, 255⟩, 1), (⟨.BAR2_XLAT_RO, 6, 255⟩, 1)]
     s.canonical = true ∧ s.qspiIdle = true ∧ s.pcieUp = false ∧ s.get .QSPI_NIB 6 0 ≠ 0 ∧ (s.hostAccess 2 0xFFFFFFC true 4 7).1.answer.err = true ∧
      s.get .BAR2_XLAT_EN 6 (0xFFFFFFC / 2 ^ 20) = 1 ∧ s.get .HP_ERRADDR_VALID 6 0 = 0 ∧ s.hostQ = []) ∧
    (demoHost 0 [(⟨.PCIE_D3, 6, 0⟩, 1)]).barHit (2 ^ 33) = none ∧ (demoHost 0 [(⟨.PCIE_PERST, 6, 0⟩, 1)]).get .PCIE_PERST 6 0 = 1 := by
  decide +kernel

/-! ### CSF's commands -/

/-- A pair whose command ring holds one command: its TXID is 5, its SEQ 7. -/
def demoCsf (op : Nat) (payload : List Nat) (l : List (Loc × Nat)) : State :=
  (demoUp ([(⟨.AXO_STATUS_TAIL, 6, 0⟩, 2), (⟨.CSF_READY, 6, 0⟩, 1), (⟨.MBX_PI, 6, 0⟩, 1)] ++ l)).storeBytes 6 0x50000000
    (natBytes 2 op ++ natBytes 2 7 ++ natBytes 4 5 ++ natBytes 2 payload.length ++ natBytes 2 0 ++ natBytes 4 0 ++ payload)

/-- An image of one parameter of three elements, a route, a source, a meter and a path. -/
def demoImage : GraphImage :=
  ⟨[⟨9, 0, 2, 0x100, 0x200, [1, 2, 3]⟩], [⟨4, 0, 2, 0, [0, 0, 0, 0]⟩], [⟨3, 0, 2, 0x300, 2⟩], [⟨2, 0, 65536, [128], [255], [7]⟩],
    [⟨8, 2, 0x400⟩], [], [⟨3, 2, true, true⟩]⟩

/-- R414: an unknown opcode is answered with OPCODE + 0x8000, the SEQ and TXID of the command, and E_OPCODE. -/
theorem test_unknownOpcode :
    let s := demoCsf 0x0199 [] []
    let t := s.run (execUnknownOpcode 0)
    t.load 6 0x50004000 2 = 0x8199 ∧ t.load 6 0x50004002 2 = 7 ∧ t.load 6 0x50004004 4 = 5 ∧ t.load 6 0x5000400C 4 = 1 ∧
      t.get .MBX_CI 6 0 = 1 ∧ t.get .MBX_PI 6 1 = 1 ∧ t.get .HOST_IPEND 6 0 = 1 := by decide +kernel

/-- R415: with commands waiting in pairs 0 and 1, pair 0 has its turn, then pair 1. -/
theorem test_turns :
    let s := demoCsf 0x0199 [] [(⟨.MBX_PI, 6, 2⟩, 1), (⟨.MBX_PI, 6, 0⟩, 2)]
    let t := s.run (execUnknownOpcode 0)
    s.canServe 0 = true ∧ s.canServe 1 = false ∧ t.canServe 0 = false ∧ t.canServe 1 = true := by decide +kernel

/-- R415, R416: at a response ring of 63 entries an event leaves the last place to the response of the command at work. -/
theorem test_responsePlace :
    let s := (demoCsf 0x0199 [] [(⟨.MBX_PI, 6, 1⟩, 63)]).store 6 0x5000000C 4 0xFFFF
    (s.eventQueue 0 0x4A01 0 []).mbxFill 1 = 63 ∧ ((demoCsf 0x0199 [] [(⟨.MBX_PI, 6, 1⟩, 63)]).eventQueue 0 0x4A01 0 []).mbxFill 1 = 64 := by decide +kernel

/-- R419: a later value of an element replaces an earlier one. -/
theorem test_txSet :
    let s : State := { demoCsf 0x302 (natBytes 4 0xF1000009 ++ natBytes 2 1 ++ natBytes 2 1 ++ natBytes 4 77) [] with
      image := some demoImage, txs := [⟨5, 0, 1, 0, 0, 0, [⟨15, 2, 0x104, 0x204, 1⟩, ⟨15, 2, 0x100, 0x200, 2⟩], [], false, 0⟩] }
    ((s.run (execTxSet 0)).txFind 5).map (fun x => x.elems.map fun e => (e.a0, e.val)) = some [(0x100, 2), (0x104, 77)] := by decide +kernel

/-- The premises of `CsfChecksAndAnswersEachCommand`. -/
theorem witness_CsfChecksAndAnswersEachCommand :
    (∀ x, x ∈ [(0x101, 0), (0x102, 0), (0x103, 4), (0x104, 0), (0x201, 8), (0x203, 0), (0x204, 9), (0x205, 1), (0x206, 4), (0x207, 2),
        (0xA01, 9), (0xA02, 3), (0xA03, 5), (0xA04, 3)] → (demoCsf x.1 (List.replicate x.2 0) []).Fronts 0 x.1 x.2) ∧
    (let s := demoCsf 0x105 (List.replicate 240 255) []
     s.canonical = true ∧ s.canServe 0 = true ∧ (s.cmdMsg 0).badHeader = false ∧ s.canServe 15 = false) ∧
    (let s := (demoCsf 0x1FF [1] []).store 6 0x5000000A 2 1
     s.canServe 0 = true ∧ csfOpcodes.contains (s.cmdMsg 0).opcode = false ∧ (s.cmdMsg 0).badHeader = true) ∧
    (demoCsf 0x101 [1] []).canServe 0 = true ∧ ((demoCsf 0x101 [1] []).cmdMsg 0).len = 1 ∧
    (demoCsf 0x201 (natBytes 8 0x4000000) []).allStopped = true ∧ (demoCsf 0x201 (natBytes 8 0x4000001) [(⟨.EPOCH_CFG_EN, 6, 1⟩, 1)]).allStopped = false ∧
    (let s := demoCsf 0x202 (natBytes 4 8 ++ [1, 2, 3, 4]) [(⟨.IMG_STATE, 6, 0⟩, 1), (⟨.IMG_SIZE, 6, 0⟩, 12)]
     s.canServe 0 = true ∧ s.get .IMG_STATE 6 0 = 1 ∧ (s.cmdMsg 0).u32 0 + ((s.cmdMsg 0).len - 4) ≤ s.get .IMG_SIZE 6 0) ∧
    (let s := demoCsf 0x203 [] [(⟨.IMG_STATE, 6, 0⟩, 1), (⟨.IMG_SIZE, 6, 0⟩, 1), (⟨.IMG_CRC, 6, 0⟩, 0xD202EF8D)]
     crc32 (s.loadBytes 9 0 1) = s.get .IMG_CRC 6 0) ∧
    (let s := demoCsf 0x204 ([7] ++ natBytes 8 64) [(⟨.TB_DOMCNT, 6, 0⟩, 49), (⟨.TB_DOMCNT, 6, 1⟩, 52), (⟨.TB_DOMCNT, 6, 2⟩, 56)]
     (s.cmdMsg 0).u64 1 = 64 ∧ ∀ D, D < 3 → 64 ≤ s.get .TB_DOMCNT 6 D + s.bsize D ∧ s.get .TB_DOMCNT 6 D + s.bsize D / 2 ≤ 64) ∧
    (demoCsf 0x204 ([1] ++ natBytes 8 64) [(⟨.TB_DOMCNT, 6, 0⟩, 61)]).startWindow 0 64 = 2 ∧
    (demoCsf 0x204 ([1] ++ natBytes 8 64) [(⟨.TB_DOMCNT, 6, 0⟩, 47)]).startWindow 0 64 = 0 ∧
    (let s : State := { demoCsf 0x206 (natBytes 4 0xF4000002) [] with image := some demoImage }
     (s.ownHandle 4 ((s.cmdMsg 0).u32 0) (fun g => g.paths) (fun x => x.index)).isSome = true) ∧
    (demoCsf 0x207 (natBytes 2 255) []).csfReaches 7 = true ∧ (demo []).csfReaches 6 = false := by decide +kernel

/-- A transaction of domain A, opened or further, on a unit that holds `demoImage`. -/
def demoTx (op : Nat) (payload : List Nat) (state : Nat) (elems evts : List TxElem) (l : List (Loc × Nat)) : State :=
  { demoCsf op payload (((⟨.TB_DOMCNT, 6, 0⟩, 61) : Loc × Nat) :: (⟨.FAB_PERM, 2, 8⟩, 2 ^ 22 - 1) :: l) with image := some demoImage, txs := [⟨5, 0, state, 80, 80, 1, elems, evts, false, 81⟩] }

/-- The premises of `CsfTransactionsScenesAndMeters`: transactions. -/
theorem witness_CsfTransactionsScenesAndMeters :
    (∀ x, x ∈ [(0x301, 1), (0x303, 8), (0x304, 0), (0x305, 0), (0x306, 8), (0x501, 28), (0x502, 4), (0x503, 1), (0x401, 2), (0x402, 16),
        (0x403, 1), (0x404, 0), (0x601, 9), (0x602, 8)] →
      let s := demoTx x.1 (List.replicate x.2 0) 1 [] [] []
      s.canonical = true ∧ s.Fronts 0 x.1 x.2 ∧ s.txHeld < 64 ∧ s.notHead 0 = false ∧ (s.txFind (s.cmdMsg 0).txid).isSome = true) ∧
    (let s := demoTx 0x302 (natBytes 4 0xF1000009 ++ natBytes 2 2 ++ natBytes 2 1 ++ natBytes 4 77) 1 [] [] []
     let m := s.cmdMsg 0
     s.Fronts 0 0x302 (8 + 4 * m.u16 6) ∧ 8 ≤ m.len ∧ ∃ q, s.txHandle 0 1 (m.u32 0) (fun g => g.params) (fun q => q.index) = some q ∧
       1 ≤ m.u16 6 ∧ m.u16 4 + m.u16 6 ≤ q.init.length ∧ q.dom = 0) ∧
    (let s := demoTx 0x303 (natBytes 8 80) 1 [⟨15, 2, 0x100, 0x200, 7⟩] [⟨15, 2, 0, 0, 80⟩] [(⟨.DOM_CFG_RING, 6, 0⟩, 0)]
     let v := s.marked 0
     (s.cmdMsg 0).u64 0 = 80 ∧ s.mayArm 0 = true ∧ s.earliest 0 = 80 ∧ s.txWaiting 0 = [] ∧ s.get .EPOCH_CSTAT_COMMIT_PEND 6 0 = 0 ∧
       s.get .DOM_CFG_RING 6 0 = 0 ∧ s.errs = [] ∧ v.Passes (v.csfReq 2 0x200 true 4 7) ∧ v.Sound 2 0x200 ∧ v.wordLocked 2 0x200 = false) ∧
    (let s := demoTx 0x303 (natBytes 8 80) 1 [⟨3, 2, 0x100, 0x200, 7⟩] [] []
     s.ownUnit 3 = false ∧ (s.txFind 5).any (fun x => x.elems.head? == some ⟨3, 2, 0x100, 0x200, 7⟩) = true) ∧
    (let s := demoTx 0x303 (natBytes 8 (2 ^ 64 - 1)) 1 [⟨3, 7, 0x100, 0x200, 7⟩] [] [(⟨.RING_STATUS_ADDR, 6, 0⟩, 2), (⟨.RING_PRESENT, 6, 0⟩, 8)]
     s.ownUnit 3 = false ∧ s.unitPresent 3 = true ∧ s.partnerOf 3 = [] ∧ s.mayArm 0 = true ∧ (s.txWaiting 0).length = 0) ∧
    (let s := demoTx 0x303 (natBytes 8 (2 ^ 64 - 1)) 3 [] [] [(⟨.EPOCH_CSTAT_COMMIT_PEND, 6, 0⟩, 1), (⟨.COMMIT_T, 6, 0⟩, 80)]
     s.mayArm 0 = false ∧ (s.txWaiting 0).length < 4 ∧ s.get .TB_DOMCNT 6 0 + s.bsize 0 < s.get .COMMIT_T 6 0 ∧ s.get .EPOCH_CSTAT_COMMIT_PEND 6 0 = 1) ∧
    (let s := demoTx 0x305 [] 2 [] [] []
     s.tailRuns = true ∧ (s.txs.find? fun y => y.dom == 0 && y.state == 2).isSome = true ∧ s.earliest 0 ≤ 80 ∧ 80 % s.bsize 0 = 0) ∧
    (let s := demoTx 0x305 [] 4 [] [] [(⟨.CSF_EVMASK, 6, 15⟩, 8)]
     (s.txs.find? fun y => y.dom == 0 && y.state == 4 && !y.caught).isSome = true ∧ bitAt (s.get .CSF_EVMASK 6 15) 3 = 1 ∧ s.eventsOf 15 = [] ∧ s.mbxFill 31 < 64 ∧ s.atWork 15 = false) := by
  decide +kernel

/-- The same: routes, scenes and meters. -/
theorem witness_CsfRoutesScenesAndMeters :
    (let s := demoTx 0x306 (natBytes 4 0xF1000009 ++ natBytes 2 0 ++ natBytes 2 3) 1 [] [] []
     let v := s.marked 0
     (s.ownHandle 1 ((s.cmdMsg 0).u32 0) (fun g => g.params) (fun q => q.index)).isSome = true ∧ (v.csfWords 2 [0x100]).2 = ([0], true)) ∧
    (let s := demoTx 0x501 (natBytes 4 0xF2000004 ++ natBytes 4 0xF5000008 ++ natBytes 2 511 ++ [0x1A, 20] ++ natBytes 4 0 ++ natBytes 4 1 ++ natBytes 8 90) 1 [] []
       [(⟨.BUS_CFG_EN, 2, 511⟩, 1)]
     let m := s.cmdMsg 0
     s.Fronts 0 0x501 28 ∧ bitsAt (m.u8 10) 5 3 = 0 ∧ bitsAt (m.u8 10) 1 2 = 1 ∧ bitAt (m.u8 10) 3 = 1 ∧ m.u16 14 = 0 ∧ s.unitOf (m.u32 4) = s.unitOf (m.u32 0) ∧
       (s.txHandle 0 2 (m.u32 0) (fun g => g.routes) (fun q => q.index)).isSome = true ∧
       (s.txHandle 0 5 (m.u32 4) (fun g => g.sources) (fun q => q.index)).isSome = true ∧ s.get .BUS_CFG_EN 2 511 = 1 ∧ s.get .BUS_CFG_DOMAIN 2 511 = 0) ∧
    (let s := demoTx 0x501 (natBytes 4 0x32000004 ++ natBytes 4 0x35000008 ++ natBytes 2 511 ++ [0, 0] ++ natBytes 4 0 ++ natBytes 4 1 ++ natBytes 8 0) 1 [] []
       [(⟨.RING_STATUS_ADDR, 6, 0⟩, 2), (⟨.RING_PRESENT, 6, 0⟩, 8)]
     let m := s.cmdMsg 0
     s.Fronts 0 0x501 28 ∧ s.unitOf (m.u32 0) = 3 ∧ s.unitOf (m.u32 4) = 3 ∧ s.ownUnit 3 = false ∧ s.unitPresent 3 = true ∧
       (s.txHandle 0 2 (m.u32 0) (fun g => g.routes) (fun q => q.index)).isSome = true ∧
       (s.txHandle 0 5 (m.u32 4) (fun g => g.sources) (fun q => q.index)).isSome = true) ∧
    (let s := demoTx 0x502 (natBytes 4 0xF2000004) 1 [] [] []
     (s.ownHandle 2 ((s.cmdMsg 0).u32 0) (fun g => g.routes) (fun q => q.index)).isSome = true) ∧
    (let s := demoTx 0x503 [20] 1 [] [] []
     (∀ d, d < 6 → s.csfReaches d = true) ∧ s.partnerOf 15 = []) ∧
    (let s := demoTx 0x503 [20] 1 [] [] [(⟨.PAIR_CFG_PAIRID, 6, 0⟩, 3), (⟨.CSF_UPAIR, 6, 1⟩, 3), (⟨.RING_STATUS_ADDR, 6, 0⟩, 2), (⟨.RING_PRESENT, 6, 0⟩, 2)]
     s.partnerOf 15 = [1] ∧ s.unitPresent 1 = true) ∧
    (let s := (demoTx 0x401 [63, 2] 1 [] [] []).marked 0
     s.sceneElems 2 demoImage = [] ∧ (s.liveElems 2 [] []).ok = true ∧ sceneFree s.scenes = 0x300000) ∧
    (let s : State := { demoTx 0x402 ([63, 2, 20, 0] ++ natBytes 4 0 ++ natBytes 8 (2 ^ 64 - 1)) 4 [] [] [] with scenes := [⟨63, 1, 0, [], []⟩] }
     let m := s.cmdMsg 0
     s.Fronts 0 0x402 16 ∧ m.u8 0 = 63 ∧ s.notHead 1 = false ∧ s.mayArm 1 = true ∧ m.u64 8 = 2 ^ 64 - 1 ∧ ∀ y, y ∈ s.txs → y.id ≠ 1) ∧
    (let s := demoTx 0x601 ([0] ++ natBytes 8 80) 1 [] [] []
     s.earliest 0 = 80 ∧ s.get .EPOCH_CSTAT_SNAP_PEND 6 0 = 0) ∧
    (let s : State := { demoTx 0x602 (natBytes 4 0xF3000003 ++ natBytes 2 0 ++ natBytes 2 2) 1 [] [] [] with snaps := [(3, [5, 6])] }
     (s.ownHandle 3 ((s.cmdMsg 0).u32 0) (fun g => g.meters) (fun x => x.index)).isSome = true ∧
       (s.snaps.find? fun (q : Nat × List Nat) => q.1 == 3).isSome = true) := by decide +kernel

/-- The premises of `CsfClockNetworkAndPairCommands`. -/
theorem witness_CsfClockNetworkAndPairCommands :
    (∀ x, x ∈ [(0x701, 4), (0x702, 13), (0x703, 7), (0x704, 0), (0x801, 11), (0x802, 6), (0x805, 1), (0x803, 67), (0x804, 24), (0x901, 3), (0x902, 0),
        (0x903, 0), (0x904, 8), (0x905, 0)] → let s := demoCsf x.1 (List.replicate x.2 0) []; s.canonical = true ∧ s.Fronts 0 x.1 x.2) ∧
    (let s := demoCsf 0x702 ([7, 1, 15, 1] ++ natBytes 4 25000000 ++ natBytes 2 1 ++ natBytes 2 9 ++ [3]) [(⟨.REF_CFG_EN, 6, 7⟩, 0)]
     let m := s.cmdMsg 0
     s.Fronts 0 0x702 13 ∧ m.u8 0 = 7 ∧ m.u8 1 = 1 ∧ m.u32 4 = 25000000 ∧ m.u16 8 = 1 ∧ s.get .REF_CFG_EN 6 7 = 0) ∧
    (let s := demoCsf 0x801 ([7, 4, 2] ++ natBytes 2 9600 ++ [1, 2, 3, 4, 5, 6]) []
     (s.cmdMsg 0).u8 0 = 7 ∧ s.csfReaches 7 = true ∧ s.get .MAC_CFG_MODE 7 3 = 0) ∧
    (let s := demoCsf 0x803 (natBytes 2 255 ++ [1, 0, 3, 7, 2, 63, 1] ++ List.replicate 58 0) [(⟨.MAC_CFG_MODE, 7, 3⟩, 4)]
     let m := s.cmdMsg 0
     m.u16 0 = 255 ∧ m.u8 2 = 1 ∧ (m.u8 7 + 1) * m.u8 8 * encBytes (m.u8 6) ≤ 1440 ∧ s.get .MAC_CFG_MODE 7 (m.u8 4) ≠ 0 ∧
       s.stxLoad 7 + s.streamLoad 64 0 ≤ 983040 ∧ s.partnerOf 15 = []) ∧
    (demoCsf 0x803 [] [(⟨.STX_CFG_EN, 7, 127⟩, 1)]).get .STX_CFG_EN 7 127 = 1 ∧
    (let s := demoCsf 0x804 (natBytes 2 255 ++ [1, 0, 8, 2, 63, 1, 127, 13] ++ List.replicate 14 0) [(⟨.MAC_CFG_MODE, 7, 3⟩, 4)]
     (s.cmdMsg 0).u8 9 = 13 ∧ s.srxLoad 7 + s.streamLoad 64 0 ≤ 983040) ∧
    (∀ r, r ∈ [0, 1, 2] → (demoCsf 0x901 [0, 1, 1] [(⟨.PAIR_STATUS_ROLE, 6, 0⟩, r)]).get .PAIR_STATUS_ROLE 6 0 = r) ∧
    (∀ q, q ∈ [2, 3] → (demoCsf 0x902 [] [(⟨.PAIR_STATUS_ROLE, 6, 0⟩, 2), (⟨.PAIR_ACTQ, 6, 0⟩, q)]).get .PAIR_ACTQ 6 0 = q) ∧
    (let s := demoCsf 0x904 (natBytes 8 80) [(⟨.PAIR_STATUS_ROLE, 6, 0⟩, 1), (⟨.TB_DOMCNT, 6, 0⟩, 61)]
     (s.cmdMsg 0).u64 0 = 80 ∧ s.earliest 0 = 80 ∧ (∀ D, D < 3 → (s.marked 0).resyncTooLong D = false) ∧ s.get .PAIR_STATUS_SNAPPEND 6 0 = 0) := by
  decide +kernel

/-! ### Faults and escalation -/

/-- R441, R438: of two raises of one cycle the record takes the more severe, and CONCURRENT is set; equal ones are one. -/
theorem test_firstFault :
    let s := (demo []).raises 2 0 [⟨.BANK_TORN, 4⟩, ⟨.BANK_UE, 9⟩, ⟨.BANK_UE, 9⟩]
    s.get .FLT_FIRST_CODE 2 256 = 0 ∧ s.get .FLT_FIRST_INSTANCE 2 256 = 9 ∧ s.get .FLT_FIRST_CONCURRENT 2 256 = 1 ∧ s.get .FLT_STICKY 2 256 = 9 ∧
      s.get .FLT_CNT 2 256 = 2 ∧ s.get .FLT_STATUS_LEVEL 2 256 = 1 := by decide +kernel

/-- R446: an acknowledgement at L2 leaves the level, so the set still enters L3 when T2 expires. -/
theorem test_lateAck :
    let s := demo [(⟨.FLT_STATUS_LEVEL, 6, 640⟩, 2), (⟨.FLT_STATUS_TIRQ, 6, 640⟩, 1), (⟨.TB_SYSCNT, 6, 0⟩, 10 ^ 9), (⟨.MDLL_STATUS_OUT, 6, 0⟩, 1)]
    let t := (s.run (execFltStatusAck 6 640 false false)).run (execGraceT2Expiry 6 640)
    t.get .FLT_STATUS_LATEACK 6 640 = 1 ∧ t.get .FLT_STATUS_TIRQ 6 640 = 0 ∧ t.get .FLT_STATUS_LEVEL 6 640 = 3 ∧ t.faultN = true := by decide +kernel

/-- R452: THERM_WARN begins at 95 °C and ends below 92 °C. -/
theorem test_thermWarn :
    let s := (demo []).run (execThermalThreshold 7 3 760 [])
    let t := s.run (execThermalThreshold 7 3 736 [])
    bitAt (s.get .FLT_LIVE 7 448) 4 = 1 ∧ bitAt (t.get .FLT_LIVE 7 448) 4 = 1 ∧
      bitAt ((t.run (execThermalThreshold 7 3 735 [])).get .FLT_LIVE 7 448) 4 = 0 ∧ t.get .THERM_MAX 7 0 = 760 := by decide +kernel

/-- R451: a reading of 125 °C trips the die. -/
theorem test_thermTrip :
    let s := (demoUp []).run (execThermalThreshold 7 3 1000 [])
    s.get .THERM_STATUS_TRIPPED 7 0 = 1 ∧ s.dieClocked 7 = false ∧ s.thermtripN = true ∧ (s.run (execClr3 7 448)).get .FLT_STATUS_LEVEL 7 448 = 3 := by
  decide +kernel

/-- R448: a CRITICAL code leaves the acknowledgement to the host at the second service too. -/
theorem test_criticalService :
    let s := (demoUp [(⟨.AXO_STATUS_TAIL, 6, 0⟩, 2), (⟨.CSF_READY, 6, 0⟩, 1), (⟨.FLT_STATUS_LEVEL, 6, 1024⟩, 1), (⟨.FLT_STATUS_TIRQ, 6, 1024⟩, 1),
      (⟨.FLT_STICKY, 6, 1024⟩, 1)]).run (execFaultService 6 1024)
    s.get .FLT_STICKY 6 1024 = 0 ∧ (s.run (execFaultService 6 1024)).get .FLT_STATUS_LEVEL 6 1024 = 1 := by decide +kernel

/-- The premises of `EscalationMonitorsAndFaultCommands`. -/
theorem witness_EscalationMonitorsAndFaultCommands :
    (∀ lv, lv ∈ [0, 1, 2, 3] → ∀ x, x ∈ [64, 1088] →
      let s := demoUp [(⟨.FLT_STATUS_LEVEL, 7, x⟩, lv), (⟨.BOOT_SET, 6, 0⟩, 1), (⟨.TB_SYSCNT, 7, 0⟩, 10 ^ 10)]
      s.canonical = true ∧ max 1 (s.get .FLT_GRACE_T1 7 x) * 10 ^ 5 ≤ s.capture 7 - s.get .FLT_T0 7 x ∧
        max 1 (s.get .FLT_GRACE_T2 7 x) * 10 ^ 5 ≤ s.capture 7 - s.get .FLT_T0 7 x ∧ s.get .FLT_STATUS_LEVEL 7 x = lv ∧ s.get .BOOT_SET 6 0 ≠ 0 ∧ s.regsReach 7 x = true ∧ s.get .AXO_STATUS_TAIL 6 0 = 0 ∧ s.dieClocked 7 = true ∧ s.get .SNAP_BUSY 6 0 ≠ 1 ∧ s.pinsFloat = false) ∧
    (demo [(⟨.THERM_STATUS_TRIPPED, 7, 0⟩, 1)]).get .THERM_STATUS_TRIPPED 7 0 = 1 ∧ tempOf 999 < 1000 ∧ 1000 ≤ tempOf 1000 ∧ tempOf 4095 = -1 ∧
    (let s := demo []
     s.canonical = true ∧ s.conds = [] ∧ s.get .IN_PORST 6 0 = 0 ∧ linkPeer 7 0 ≠ none ∧ railNominal 7 3 * 97 ≤ 800 * 100 ∧ onRail 7 0 ⟨.REF_CFG_EN, 6, 7⟩ = true ∧ s.get .FLT_LIVE 0 448 = 0) ∧
    (demo [(⟨.PFAIL_PIN, 6, 0⟩, 1)]).get .PFAIL_PIN 6 0 ≠ 0 := by decide +kernel

/-- The same: service and commands. -/
theorem witness_FaultServiceAndCommands :
    (let s := demoCsf 0xA01 (natBytes 8 1 ++ [10]) [(⟨.FLT_STATUS_TIRQ, 6, 960⟩, 1), (⟨.FLT_STICKY, 6, 960⟩, 4), (⟨.CSF_EVMASK, 6, 15⟩, 1024)]
     s.canonical = true ∧ s.Fronts 0 0xA01 9 ∧ s.faultLog = [] ∧ s.tailRuns = true ∧ s.regsReach 6 960 = true ∧ s.get .FLT_STATUS_TIRQ 6 960 = 1 ∧
       (s.faultRecs 6 960).length = 1 ∧ bitAt (s.get .CSF_EVMASK 6 15) 10 = 1 ∧ s.mbxFill 31 < 64 ∧ s.atWork 15 = false ∧ s.eventsOf 15 = []) ∧
    (let s := demoCsf 0xA01 (natBytes 8 1 ++ [10]) [(⟨.FLT_STATUS_NOTE, 6, 896⟩, 1), (⟨.FLT_STICKY, 6, 896⟩, 8), (⟨.CSF_EVMASK, 6, 15⟩, 512)]
     (s.faultRecs 6 896).map (fun r => r.code) = [FaultName.PAIR_TAKEOVER.code] ∧ s.tailRuns = true ∧ s.regsReach 6 896 = true) ∧
    (demo [(⟨.CSF_HOLDACK, 6, 1024⟩, 1)]).get .CSF_HOLDACK 6 1024 = 1 ∧
    ((demoCsf 0xA01 (natBytes 8 1 ++ [10]) [(⟨.FLT_STICKY, 6, 1024⟩, 1)]).faultRecs 6 1024).any (fun r => 3 ≤ r.sev) = true ∧
    (let s := demoCsf 0xA02 ([7] ++ natBytes 2 1088) []
     s.Fronts 0 0xA02 3 ∧ setOnDie 7 1088 = true ∧ s.regsReach 7 1088 = true ∧ setOnDie 7 1151 = false ∧ (demo []).regsReach 7 1088 = false) ∧
    (let s := demoCsf 0xA03 ([0] ++ natBytes 2 95 ++ natBytes 2 65535) []
     s.Fronts 0 0xA03 5 ∧ (s.cmdMsg 0).u16 1 / 64 = 1 ∧ (s.cmdMsg 0).u16 3 = 65535) ∧
    (let s := demoCsf 0xA04 ([6] ++ natBytes 2 640) [(⟨.FLT_STATUS_LEVEL, 6, 640⟩, 3), (⟨.FLT_LIVE, 6, 640⟩, 1)]
     s.Fronts 0 0xA04 3 ∧ s.clr3Barred 6 640 = true ∧ FaultName.REFSEL_XO_LOST ∈ FaultName.all) ∧
    (demoCsf 0xA04 ([6] ++ natBytes 2 640) [(⟨.FLT_STATUS_LEVEL, 6, 640⟩, 3)]).clr3Barred 6 640 = false := by decide +kernel

/-! ### Start-up, snapshots and sleep -/

/-- Worked example of a boot: set 2 where set 1 does not verify and BOOTSRC is 0b01; no set for a reserved one (R459, R467). -/
theorem test_bootSet : bootSet 1 false true = 2 ∧ bootSet 0 false true = 0 ∧ bootSet 2 true true = 0 := by decide

/-- R461, R476: a power-on reset leaves MAC 0's address and WAKE_STAT of die 6, and no other MAC's. -/
theorem test_powerOn :
    let s := (demo [(⟨.MAC_ADDR, 6, 0⟩, 5), (⟨.MAC_ADDR, 6, 1⟩, 6), (⟨.MAC_WAKE_STAT_PHIT, 6, 0⟩, 1), (⟨.TB_SYSCNT, 6, 0⟩, 90), (⟨.FLT_STICKY, 6, 0⟩, 1)]).run execPorstAssert
    s.get .MAC_ADDR 6 0 = 5 ∧ s.get .MAC_ADDR 6 1 = 0 ∧ s.get .MAC_WAKE_STAT_PHIT 6 0 = 1 ∧ s.get .TB_SYSCNT 6 0 = 0 ∧ s.get .FLT_STICKY 6 0 = 0 ∧
      s.get .IN_PORST 6 0 = 1 ∧ s.pinsFloat = true := by decide +kernel

/-- R203, R206: a burn of bank 3 cut by PORST_N leaves bad parity in entry 1, and boot step 1 raises BANK_FUSE_ERR for it. -/
theorem test_burnCut :
    let s := demo [(⟨.LF_FUSE_BUSY, 2, 0⟩, 1), (⟨.LF_FUSEB, 2, 0⟩, 3), (⟨.BANK_REPAIR_VALID_HI, 2, 6⟩, 1)]
    let t := (s.run execPorstAssert).bootBegin (bootSet 0 true true) [7, 9]
    t.get .EFUSE_BAD 2 13 = 1 ∧ t.get .FLT_FIRST_INSTANCE 2 256 = 3 ∧ t.get .FLT_FIRST_CODE 2 256 = 4 ∧ t.get .BOOT_SET 6 0 = 1 ∧ t.get .BOOT_STEP 6 0 = 2 ∧ t.get .BOOT_WAIT 6 0 = 255 ∧ t.load 12 0 2 = 2311 := by
  decide +kernel

/-- R472: with SEQ 17 on page 0 and page 1 erased, the snapshot goes to page 1 with SEQ 18. -/
theorem test_snapshot :
    let s : State := { demo [(⟨.BOOT_SET, 6, 0⟩, 1), (⟨.SNAP_PGE, 6, 1⟩, 1)] with mem := [(⟨42949672960, 17⟩ : Host.Cell), ⟨42949673212, 162⟩, ⟨42949673213, 39⟩, ⟨42949673214, 5⟩, ⟨42949673215, 154⟩] }
    s.newestPage = some 0 ∧ s.erasedPage = some 1 ∧ s.nextSeq = 18 := by decide +kernel

/-- The premises of `PowerOnSnapshotsAndSleep`. -/
theorem witness_PowerOnSnapshotsAndSleep :
    (∀ b, b ∈ [0, 1] → ∀ e, e ∈ [0, 1] → ∀ g, g ∈ [0, 1] → ∀ w, w ∈ [0, 1] →
      let s := demo [(⟨.BOOT_SET, 6, 0⟩, 1), (⟨.SNAP_BUSY, 6, 0⟩, b), (⟨.SNAP_ERASING, 6, 0⟩, e), (⟨.SNAP_PGE, 6, 1⟩, g), (⟨.SNAP_SLEEP, 6, 0⟩, w),
        (⟨.MAC_CFG_MODE, 6, 0⟩, 2), (⟨.WAKE_ONLY, 6, 0⟩, w)]
      s.canonical = true ∧ s.stage2 = true ∧ s.get .SNAP_BUSY 6 0 = b ∧ s.get .SNAP_ERASING 6 0 = e ∧ s.get .SNAP_PGE 6 1 = g ∧ s.get .SNAP_SLEEP 6 0 = w) ∧
    (demo [(⟨.SNAP_PGE, 6, 0⟩, 1)]).newestPage = none ∧ (demo []).stage2 = false ∧ (demo []).get .IN_PORST 6 0 = 0 ∧
    (let s := demo [(⟨.IN_PORST, 6, 0⟩, 1), (⟨.EFUSE_REP, 7, 1023⟩, 0x81FF)]
     bitAt (s.get .EFUSE_REP 7 (255 * 4 + 2 * 1 + 1)) 15 = 1 ∧ s.get .EFUSE_BAD 7 1023 = 0) ∧
    (let s := demoUp [(⟨.FLT_FIRST_VALID, 6, 1024⟩, 1)]
     setOnDie 6 1024 = true ∧ s.regsReach 6 1024 = true ∧ s.get .FLT_FIRST_VALID 6 1024 = 1) := by decide +kernel

/-! ### Operands -/

/-- A command that `Instr.wellFormed` takes, and terms each of which fails one of its checks. -/
abbrev checks (good : Instr) (bad : List Instr) : Bool := good.wellFormed && bad.all fun i => !i.wellFormed

/-- Each check of these commands refuses a term. -/
theorem test_wellFormed1 :
    checks (.registerWrite 0 0 0 0 0) [.registerWrite 8 0 0 0 0, .registerWrite 0 32 0 0 0, .registerWrite 0 0 (2^40) 0 0, .registerWrite 0 0 0 (2^32) 0, .registerWrite 0 0 0 0 (2^32)] = true ∧
    checks (.rcRegisterRead 0 0 0 0 0) [.rcRegisterRead 8 0 0 0 0, .rcRegisterRead 0 32 0 0 0, .rcRegisterRead 0 0 (2^40) 0 0, .rcRegisterRead 0 0 0 (2^32) 0, .rcRegisterRead 0 0 0 0 (2^32)] = true ∧
    checks (.reg64LowRead 0 0 0 0) [.reg64LowRead 8 0 0 0, .reg64LowRead 0 32 0 0, .reg64LowRead 0 0 (2^40) 0, .reg64LowRead 0 0 0 (2^64)] = true ∧
    checks (.reg64LowWrite 0 0 0 0) [.reg64LowWrite 8 0 0 0, .reg64LowWrite 0 32 0 0, .reg64LowWrite 0 0 (2^40) 0, .reg64LowWrite 0 0 0 (2^32)] = true ∧
    checks (.reg64HighWrite 0 0 0 0 0) [.reg64HighWrite 8 0 0 0 0, .reg64HighWrite 0 32 0 0 0, .reg64HighWrite 0 0 (2^40) 0 0, .reg64HighWrite 0 0 0 (2^32) 0, .reg64HighWrite 0 0 0 0 (2^64)] = true ∧
    checks (.fabricAccess 0 0 0 false 0 0 [] [] 0 0) [.fabricAccess 8 0 0 false 0 0 [] [] 0 0, .fabricAccess 0 32 0 false 0 0 [] [] 0 0, .fabricAccess 0 0 (2^40) false 0 0 [] [] 0 0, .fabricAccess 0 0 0 false (256 + 1) 0 [] [] 0 0, .fabricAccess 0 0 0 false 0 1 [] [] 0 0, .fabricAccess 0 0 0 false 0 0 [32] [] 0 0, .fabricAccess 0 0 0 false 0 0 [] [32] 0 0, .fabricAccess 0 0 0 false 0 0 [] [] (2^64) 0, .fabricAccess 0 0 0 false 0 0 [] [] 0 (2^32)] = true ∧
    checks (.domcntIncrement 0 []) [.domcntIncrement 3 [], .domcntIncrement 0 [⟨256, 0⟩], .domcntIncrement 0 [⟨0, 2 ^ 32⟩]] = true ∧
    checks (.epochBoundary 0) [.epochBoundary 3] = true ∧
    checks (.epochDispatch 0) [.epochDispatch 3] = true ∧
    checks (.epochStartReceipt 0 0 0 false) [.epochStartReceipt 8 0 0 false, .epochStartReceipt 0 3 0 false, .epochStartReceipt 0 0 (2 ^ 64) false] = true ∧
    checks (.dieDrainReport 0 0) [.dieDrainReport 8 0, .dieDrainReport 0 3] = true ∧
    checks (.drainReportReceipt 0 0 0 false) [.drainReportReceipt 8 0 0 false, .drainReportReceipt 0 3 0 false, .drainReportReceipt 0 0 (2 ^ 64) false] = true ∧
    checks (.epochEnable 0) [.epochEnable 3] = true ∧
    checks (.epochStop 0) [.epochStop 3] = true ∧
    checks (.commitArm 0) [.commitArm 3] = true ∧
    checks (.commitCancel 0) [.commitCancel 3] = true ∧
    checks (.snapArm 0) [.snapArm 3] = true ∧
    checks (.snapCancel 0) [.snapCancel 3] = true ∧
    checks (.commitAckDeadline 0) [.commitAckDeadline 3] = true ∧
    checks (.instructionFetch 0 0 false) [.instructionFetch 8 0 false, .instructionFetch 0 32 false] = true := by decide +kernel

/-- Each check of these commands refuses a term. -/
theorem test_wellFormed2 :
    checks (.illegalEncoding 0 0) [.illegalEncoding 8 0, .illegalEncoding 0 32] = true ∧
    checks (.breakpointMatch 0 0) [.breakpointMatch 8 0, .breakpointMatch 0 32] = true ∧
    checks (.vmac 0 0 false 0 0 0 0 false false false) [.vmac 8 0 false 0 0 0 0 false false false, .vmac 0 32 false 0 0 0 0 false false false, .vmac 0 0 false 8 0 0 0 false false false, .vmac 0 0 false 0 32 0 0 false false false, .vmac 0 0 false 0 0 32 0 false false false, .vmac 0 0 false 0 0 0 4 false false false] = true ∧
    checks (.vfma 0 0 false 0 0 0 0 false) [.vfma 8 0 false 0 0 0 0 false, .vfma 0 32 false 0 0 0 0 false, .vfma 0 0 false 32 0 0 0 false, .vfma 0 0 false 0 32 0 0 false, .vfma 0 0 false 0 0 32 0 false, .vfma 0 0 false 0 0 0 4 false] = true ∧
    checks (.vmul 0 0 false 0 0 0 0 false) [.vmul 8 0 false 0 0 0 0 false, .vmul 0 32 false 0 0 0 0 false, .vmul 0 0 false 32 0 0 0 false, .vmul 0 0 false 0 32 0 0 false, .vmul 0 0 false 0 0 32 0 false, .vmul 0 0 false 0 0 0 4 false] = true ∧
    checks (.vadd 0 0 false 0 0 0 0 false) [.vadd 8 0 false 0 0 0 0 false, .vadd 0 32 false 0 0 0 0 false, .vadd 0 0 false 32 0 0 0 false, .vadd 0 0 false 0 32 0 0 false, .vadd 0 0 false 0 0 32 0 false, .vadd 0 0 false 0 0 0 4 false] = true ∧
    checks (.vsub 0 0 false 0 0 0 0 false) [.vsub 8 0 false 0 0 0 0 false, .vsub 0 32 false 0 0 0 0 false, .vsub 0 0 false 32 0 0 0 false, .vsub 0 0 false 0 32 0 0 false, .vsub 0 0 false 0 0 32 0 false, .vsub 0 0 false 0 0 0 4 false] = true ∧
    checks (.vmin 0 0 false 0 0 0 0 false) [.vmin 8 0 false 0 0 0 0 false, .vmin 0 32 false 0 0 0 0 false, .vmin 0 0 false 32 0 0 0 false, .vmin 0 0 false 0 32 0 0 false, .vmin 0 0 false 0 0 32 0 false, .vmin 0 0 false 0 0 0 4 false] = true ∧
    checks (.vmax 0 0 false 0 0 0 0 false) [.vmax 8 0 false 0 0 0 0 false, .vmax 0 32 false 0 0 0 0 false, .vmax 0 0 false 32 0 0 0 false, .vmax 0 0 false 0 32 0 0 false, .vmax 0 0 false 0 0 32 0 false, .vmax 0 0 false 0 0 0 4 false] = true ∧
    checks (.vabs 0 0 false 0 0 0) [.vabs 8 0 false 0 0 0, .vabs 0 32 false 0 0 0, .vabs 0 0 false 32 0 0, .vabs 0 0 false 0 32 0, .vabs 0 0 false 0 0 4] = true ∧
    checks (.vneg 0 0 false 0 0 0) [.vneg 8 0 false 0 0 0, .vneg 0 32 false 0 0 0, .vneg 0 0 false 32 0 0, .vneg 0 0 false 0 32 0, .vneg 0 0 false 0 0 4] = true ∧
    checks (.vcmp 0 0 false 0 0 0 0 false 0) [.vcmp 8 0 false 0 0 0 0 false 0, .vcmp 0 32 false 0 0 0 0 false 0, .vcmp 0 0 false 4 0 0 0 false 0, .vcmp 0 0 false 0 32 0 0 false 0, .vcmp 0 0 false 0 0 32 0 false 0, .vcmp 0 0 false 0 0 0 4 false 0, .vcmp 0 0 false 0 0 0 0 false 8] = true ∧
    checks (.vsel 0 0 false 0 0 0 0) [.vsel 8 0 false 0 0 0 0, .vsel 0 32 false 0 0 0 0, .vsel 0 0 false 32 0 0 0, .vsel 0 0 false 0 32 0 0, .vsel 0 0 false 0 0 32 0, .vsel 0 0 false 0 0 0 4] = true ∧
    checks (.vrnd 0 0 false 0 0 0 false) [.vrnd 8 0 false 0 0 0 false, .vrnd 0 32 false 0 0 0 false, .vrnd 0 0 false 32 0 0 false, .vrnd 0 0 false 0 8 0 false, .vrnd 0 0 false 0 0 4 false] = true ∧
    checks (.vglide 0 0 false 0 0 0 0) [.vglide 8 0 false 0 0 0 0, .vglide 0 32 false 0 0 0 0, .vglide 0 0 false 32 0 0 0, .vglide 0 0 false 0 32 0 0, .vglide 0 0 false 0 0 32 0, .vglide 0 0 false 0 0 0 4] = true ∧
    checks (.rcps 0 0 false 0 0 0) [.rcps 8 0 false 0 0 0, .rcps 0 32 false 0 0 0, .rcps 0 0 false 32 0 0, .rcps 0 0 false 0 32 0, .rcps 0 0 false 0 0 4] = true ∧
    checks (.divi 0 0 false 0 0 0 0) [.divi 8 0 false 0 0 0 0, .divi 0 32 false 0 0 0 0, .divi 0 0 false 32 0 0 0, .divi 0 0 false 0 32 0 0, .divi 0 0 false 0 0 32 0, .divi 0 0 false 0 0 0 4] = true ∧
    checks (.divs 0 0 false 0 0 0) [.divs 8 0 false 0 0 0, .divs 0 32 false 0 0 0, .divs 0 0 false 32 0 0, .divs 0 0 false 0 32 0, .divs 0 0 false 0 0 4] = true ∧
    checks (.divf 0 0 false 0 0 0 0) [.divf 8 0 false 0 0 0 0, .divf 0 32 false 0 0 0 0, .divf 0 0 false 32 0 0 0, .divf 0 0 false 0 32 0 0, .divf 0 0 false 0 0 32 0, .divf 0 0 false 0 0 0 4] = true ∧
    checks (.vcvt 0 0 false 0 0 0 false 0) [.vcvt 8 0 false 0 0 0 false 0, .vcvt 0 32 false 0 0 0 false 0, .vcvt 0 0 false 32 0 0 false 0, .vcvt 0 0 false 0 32 0 false 0, .vcvt 0 0 false 0 0 4 false 0, .vcvt 0 0 false 0 0 0 false 32] = true := by decide +kernel

/-- Each check of these commands refuses a term. -/
theorem test_wellFormed3 :
    checks (.vld 0 0 false 0 0 0 0 0 0 0 ⟨0, 0, [], 0⟩) [.vld 8 0 false 0 0 0 0 0 0 0 ⟨0, 0, [], 0⟩, .vld 0 32 false 0 0 0 0 0 0 0 ⟨0, 0, [], 0⟩, .vld 0 0 false 32 0 0 0 0 0 0 ⟨0, 0, [], 0⟩, .vld 0 0 false 0 16 0 0 0 0 0 ⟨0, 0, [], 0⟩, .vld 0 0 false 0 0 4 0 0 0 0 ⟨0, 0, [], 0⟩, .vld 0 0 false 0 0 0 4 0 0 0 ⟨0, 0, [], 0⟩, .vld 0 0 false 0 0 0 0 4 0 0 ⟨0, 0, [], 0⟩, .vld 0 0 false 0 0 0 0 0 4 0 ⟨0, 0, [], 0⟩, .vld 0 0 false 0 0 0 0 0 0 128 ⟨0, 0, [], 0⟩, .vld 0 0 false 0 0 0 0 0 0 0 ⟨0, 0, [], 8⟩] = true ∧
    checks (.vst 0 0 false 0 0 0 0 0 0 0 ⟨0, 0, [], 0⟩) [.vst 8 0 false 0 0 0 0 0 0 0 ⟨0, 0, [], 0⟩, .vst 0 32 false 0 0 0 0 0 0 0 ⟨0, 0, [], 0⟩, .vst 0 0 false 32 0 0 0 0 0 0 ⟨0, 0, [], 0⟩, .vst 0 0 false 0 16 0 0 0 0 0 ⟨0, 0, [], 0⟩, .vst 0 0 false 0 0 4 0 0 0 0 ⟨0, 0, [], 0⟩, .vst 0 0 false 0 0 0 4 0 0 0 ⟨0, 0, [], 0⟩, .vst 0 0 false 0 0 0 0 4 0 0 ⟨0, 0, [], 0⟩, .vst 0 0 false 0 0 0 0 0 4 0 ⟨0, 0, [], 0⟩, .vst 0 0 false 0 0 0 0 0 0 128 ⟨0, 0, [], 0⟩, .vst 0 0 false 0 0 0 0 0 0 0 ⟨0, 0, [], 8⟩] = true ∧
    checks (.lds 0 0 false 0 0 0 0 ⟨0, 0, [], 0⟩) [.lds 8 0 false 0 0 0 0 ⟨0, 0, [], 0⟩, .lds 0 32 false 0 0 0 0 ⟨0, 0, [], 0⟩, .lds 0 0 false 16 0 0 0 ⟨0, 0, [], 0⟩, .lds 0 0 false 0 16 0 0 ⟨0, 0, [], 0⟩, .lds 0 0 false 0 0 4 0 ⟨0, 0, [], 0⟩, .lds 0 0 false 0 0 0 128 ⟨0, 0, [], 0⟩, .lds 0 0 false 0 0 0 0 ⟨0, 0, [], 8⟩] = true ∧
    checks (.sts 0 0 false 0 0 0 0 ⟨0, 0, [], 0⟩) [.sts 8 0 false 0 0 0 0 ⟨0, 0, [], 0⟩, .sts 0 32 false 0 0 0 0 ⟨0, 0, [], 0⟩, .sts 0 0 false 16 0 0 0 ⟨0, 0, [], 0⟩, .sts 0 0 false 0 16 0 0 ⟨0, 0, [], 0⟩, .sts 0 0 false 0 0 4 0 ⟨0, 0, [], 0⟩, .sts 0 0 false 0 0 0 128 ⟨0, 0, [], 0⟩, .sts 0 0 false 0 0 0 0 ⟨0, 0, [], 8⟩] = true ∧
    checks (.adda 0 0 false 0 0 0) [.adda 8 0 false 0 0 0, .adda 0 32 false 0 0 0, .adda 0 0 false 16 0 0, .adda 0 0 false 0 4 0, .adda 0 0 false 0 0 128] = true ∧
    checks (.nop 0 0 false) [.nop 8 0 false, .nop 0 32 false] = true ∧
    checks (.saluAdd 0 0 false 0 0 0) [.saluAdd 8 0 false 0 0 0, .saluAdd 0 32 false 0 0 0, .saluAdd 0 0 false 16 0 0, .saluAdd 0 0 false 0 16 0, .saluAdd 0 0 false 0 0 16] = true ∧
    checks (.saluSub 0 0 false 0 0 0) [.saluSub 8 0 false 0 0 0, .saluSub 0 32 false 0 0 0, .saluSub 0 0 false 16 0 0, .saluSub 0 0 false 0 16 0, .saluSub 0 0 false 0 0 16] = true ∧
    checks (.saluAnd 0 0 false 0 0 0) [.saluAnd 8 0 false 0 0 0, .saluAnd 0 32 false 0 0 0, .saluAnd 0 0 false 16 0 0, .saluAnd 0 0 false 0 16 0, .saluAnd 0 0 false 0 0 16] = true ∧
    checks (.saluOr 0 0 false 0 0 0) [.saluOr 8 0 false 0 0 0, .saluOr 0 32 false 0 0 0, .saluOr 0 0 false 16 0 0, .saluOr 0 0 false 0 16 0, .saluOr 0 0 false 0 0 16] = true ∧
    checks (.saluXor 0 0 false 0 0 0) [.saluXor 8 0 false 0 0 0, .saluXor 0 32 false 0 0 0, .saluXor 0 0 false 16 0 0, .saluXor 0 0 false 0 16 0, .saluXor 0 0 false 0 0 16] = true ∧
    checks (.saluShl 0 0 false 0 0 0) [.saluShl 8 0 false 0 0 0, .saluShl 0 32 false 0 0 0, .saluShl 0 0 false 16 0 0, .saluShl 0 0 false 0 16 0, .saluShl 0 0 false 0 0 16] = true ∧
    checks (.saluShr 0 0 false 0 0 0) [.saluShr 8 0 false 0 0 0, .saluShr 0 32 false 0 0 0, .saluShr 0 0 false 16 0 0, .saluShr 0 0 false 0 16 0, .saluShr 0 0 false 0 0 16] = true ∧
    checks (.saluSra 0 0 false 0 0 0) [.saluSra 8 0 false 0 0 0, .saluSra 0 32 false 0 0 0, .saluSra 0 0 false 16 0 0, .saluSra 0 0 false 0 16 0, .saluSra 0 0 false 0 0 16] = true ∧
    checks (.saluMul 0 0 false 0 0 0) [.saluMul 8 0 false 0 0 0, .saluMul 0 32 false 0 0 0, .saluMul 0 0 false 16 0 0, .saluMul 0 0 false 0 16 0, .saluMul 0 0 false 0 0 16] = true ∧
    checks (.saluMin 0 0 false 0 0 0) [.saluMin 8 0 false 0 0 0, .saluMin 0 32 false 0 0 0, .saluMin 0 0 false 16 0 0, .saluMin 0 0 false 0 16 0, .saluMin 0 0 false 0 0 16] = true ∧
    checks (.saluMax 0 0 false 0 0 0) [.saluMax 8 0 false 0 0 0, .saluMax 0 32 false 0 0 0, .saluMax 0 0 false 16 0 0, .saluMax 0 0 false 0 16 0, .saluMax 0 0 false 0 0 16] = true ∧
    checks (.saluSlt 0 0 false 0 0 0) [.saluSlt 8 0 false 0 0 0, .saluSlt 0 32 false 0 0 0, .saluSlt 0 0 false 16 0 0, .saluSlt 0 0 false 0 16 0, .saluSlt 0 0 false 0 0 16] = true ∧
    checks (.saluSltu 0 0 false 0 0 0) [.saluSltu 8 0 false 0 0 0, .saluSltu 0 32 false 0 0 0, .saluSltu 0 0 false 16 0 0, .saluSltu 0 0 false 0 16 0, .saluSltu 0 0 false 0 0 16] = true ∧
    checks (.saddi 0 0 false 0 0 0) [.saddi 8 0 false 0 0 0, .saddi 0 32 false 0 0 0, .saddi 0 0 false 16 0 0, .saddi 0 0 false 0 16 0, .saddi 0 0 false 0 0 65536] = true := by decide +kernel

/-- Each check of these commands refuses a term. -/
theorem test_wellFormed4 :
    checks (.ldil 0 0 false 0 0) [.ldil 8 0 false 0 0, .ldil 0 32 false 0 0, .ldil 0 0 false 16 0, .ldil 0 0 false 0 65536] = true ∧
    checks (.ldih 0 0 false 0 0) [.ldih 8 0 false 0 0, .ldih 0 32 false 0 0, .ldih 0 0 false 16 0, .ldih 0 0 false 0 65536] = true ∧
    checks (.movr 0 0 false 0 0 0 0) [.movr 8 0 false 0 0 0 0, .movr 0 32 false 0 0 0 0, .movr 0 0 false 8 0 0 0, .movr 0 0 false 0 16 0 0, .movr 0 0 false 0 0 8 0, .movr 0 0 false 0 0 0 16] = true ∧
    checks (.vext 0 0 false 0 0 0) [.vext 8 0 false 0 0 0, .vext 0 32 false 0 0 0, .vext 0 0 false 32 0 0, .vext 0 0 false 0 16 0, .vext 0 0 false 0 0 8] = true ∧
    checks (.vins 0 0 false 0 0 0) [.vins 8 0 false 0 0 0, .vins 0 32 false 0 0 0, .vins 0 0 false 32 0 0, .vins 0 0 false 0 16 0, .vins 0 0 false 0 0 8] = true ∧
    checks (.br 0 0 false 0) [.br 8 0 false 0, .br 0 32 false 0, .br 0 0 false 8192] = true ∧
    checks (.brc 0 0 false 0 0 0) [.brc 8 0 false 0 0 0, .brc 0 32 false 0 0 0, .brc 0 0 false 8 0 0, .brc 0 0 false 0 16 0, .brc 0 0 false 0 0 8192] = true ∧
    checks (.call 0 0 false 0) [.call 8 0 false 0, .call 0 32 false 0, .call 0 0 false 8192] = true ∧
    checks (.ret 0 0 false) [.ret 8 0 false, .ret 0 32 false] = true ∧
    checks (.rept 0 0 false false 0 0) [.rept 8 0 false false 0 0, .rept 0 32 false false 0 0, .rept 0 0 false false 16 0, .rept 0 0 false false 0 65536] = true ∧
    checks (.loopTop 0 0 false false 0 0) [.loopTop 8 0 false false 0 0, .loopTop 0 32 false false 0 0, .loopTop 0 0 false false 1024 0, .loopTop 0 0 false false 0 8192] = true ∧
    checks (.endl 0 0 false) [.endl 8 0 false, .endl 0 32 false] = true ∧
    checks (.sig 0 0 false 0 0) [.sig 8 0 false 0 0, .sig 0 32 false 0 0, .sig 0 0 false 16 0, .sig 0 0 false 0 16] = true ∧
    checks (.done 0 0 false) [.done 8 0 false, .done 0 32 false] = true ∧
    checks (.halt 0 0 false) [.halt 8 0 false, .halt 0 32 false] = true ∧
    checks (.completionReport 0 0) [.completionReport 8 0, .completionReport 0 32] = true ∧
    checks (.parkReq 0 0) [.parkReq 8 0, .parkReq 0 32] = true ∧
    checks (.unpark 0 0) [.unpark 8 0, .unpark 0 32] = true ∧
    checks (.haltReq 0 0) [.haltReq 8 0, .haltReq 0 32] = true ∧
    checks (.resume 0 0) [.resume 8 0, .resume 0 32] = true := by decide +kernel

/-- Each check of these commands refuses a term. -/
theorem test_wellFormed5 :
    checks (.step 0 0) [.step 8 0, .step 0 32] = true ∧
    checks (.abort 0 0) [.abort 8 0, .abort 0 32] = true ∧
    checks (.newtClrCnt 0 0) [.newtClrCnt 8 0, .newtClrCnt 0 32] = true ∧
    checks (.dbgRegisterAccess 0 0 0 false 0) [.dbgRegisterAccess 8 0 0 false 0, .dbgRegisterAccess 0 32 0 false 0, .dbgRegisterAccess 0 0 (2^40) false 0, .dbgRegisterAccess 0 0 0 false (2^32)] = true ∧
    checks (.newtReset 0 0) [.newtReset 8 0, .newtReset 0 32] = true ∧
    checks (.postArrival 0 0 0 0 0 0 0) [.postArrival 8 0 0 0 0 0 0, .postArrival 0 32 0 0 0 0 0, .postArrival 0 0 8 0 0 0 0, .postArrival 0 0 0 4 0 0 0, .postArrival 0 0 0 0 256 0 0, .postArrival 0 0 0 0 0 (2 ^ 31) 0, .postArrival 0 0 0 0 0 0 4] = true ∧
    checks (.dispatchDecision 0 0 []) [.dispatchDecision 8 0 [], .dispatchDecision 0 4 [], .dispatchDecision 0 0 [24]] = true ∧
    checks (.flowClaim 0 0 0 0 []) [.flowClaim 8 0 0 0 [], .flowClaim 0 4 0 0 [], .flowClaim 0 0 256 0 [], .flowClaim 0 0 0 1024 [], .flowClaim 0 0 0 0 [24]] = true ∧
    checks (.claimResponse 0 0 0 0 false) [.claimResponse 8 0 0 0 false, .claimResponse 0 4 0 0 false, .claimResponse 0 0 256 0 false, .claimResponse 0 0 0 1024 false] = true ∧
    checks (.flowRelease 0 0 0) [.flowRelease 1024 0 0, .flowRelease 0 8 0, .flowRelease 0 0 4] = true ∧
    checks (.flowReplicaUpdate 0 0 false) [.flowReplicaUpdate 8 0 false, .flowReplicaUpdate 0 1024 false] = true ∧
    checks (.lateMarkerReceipt 0 0) [.lateMarkerReceipt 8 0, .lateMarkerReceipt 0 3] = true ∧
    checks (.croakEntryWrite 0 0 false) [.croakEntryWrite 8 0 false, .croakEntryWrite 0 4 false] = true ∧
    checks (.croakFreeze 0 0) [.croakFreeze 8 0, .croakFreeze 0 4] = true ∧
    checks (.croakFrozen 0 0) [.croakFrozen 8 0, .croakFrozen 0 4] = true ∧
    checks (.croakResume 0 0) [.croakResume 8 0, .croakResume 0 4] = true ∧
    checks (.slotEnable 0 0 0 0 0 0 0) [.slotEnable 8 0 0 0 0 0 0, .slotEnable 0 4 0 0 0 0 0, .slotEnable 0 0 256 0 0 0 0, .slotEnable 0 0 0 2 0 0 0, .slotEnable 0 0 0 0 32 0 0, .slotEnable 0 0 0 0 0 3 0, .slotEnable 0 0 0 0 0 0 1024] = true ∧
    checks (.slotDisable 0 0 0) [.slotDisable 8 0 0, .slotDisable 0 4 0, .slotDisable 0 0 256] = true ∧
    checks (.slotClrFlags 0 0 0) [.slotClrFlags 8 0 0, .slotClrFlags 0 4 0, .slotClrFlags 0 0 256] = true ∧
    checks (.slotClrPend 0 0 0) [.slotClrPend 8 0 0, .slotClrPend 0 4 0, .slotClrPend 0 0 256] = true := by decide +kernel

/-- Each check of these commands refuses a term. -/
theorem test_wellFormed6 :
    checks (.slotClrAff 0 0 0) [.slotClrAff 8 0 0, .slotClrAff 0 4 0, .slotClrAff 0 0 256] = true ∧
    checks (.tongueClrCnt 0 0) [.tongueClrCnt 8 0, .tongueClrCnt 0 4] = true ∧
    checks (.chorusKick 0 0) [.chorusKick 6 0, .chorusKick 0 256] = true ∧
    checks (.groupRunStart 0) [.groupRunStart 6] = true ∧
    checks (.groupRunEnd 0) [.groupRunEnd 6] = true ∧
    checks (.partialRelease 0 0 0) [.partialRelease 6 0 0, .partialRelease 0 3 0, .partialRelease 0 0 8] = true ∧
    checks (.partialArrival 0 0 0 0 [] 0 false false) [.partialArrival 6 0 0 0 [] 0 false false, .partialArrival 0 512 0 0 [] 0 false false, .partialArrival 0 0 3 0 [] 0 false false, .partialArrival 0 0 0 (2 ^ 64) [] 0 false false, .partialArrival 0 0 0 0 [2 ^ 96] 0 false false, .partialArrival 0 0 0 0 [] (2 ^ 32) false false] = true ∧
    checks (.busBlockComplete 0 0 0) [.busBlockComplete 6 0 0, .busBlockComplete 0 512 0, .busBlockComplete 0 0 (2 ^ 64)] = true ∧
    checks (.releaseOrderReceipt 0 0 0) [.releaseOrderReceipt 8 0 0, .releaseOrderReceipt 0 3 0, .releaseOrderReceipt 0 0 (2 ^ 64)] = true ∧
    checks (.bankAccess 0 0 ⟨.none, 0, 0, 0, false⟩ ⟨.none, 0, 0, 0, false⟩) [.bankAccess 8 0 ⟨.none, 0, 0, 0, false⟩ ⟨.none, 0, 0, 0, false⟩, .bankAccess 0 (2 ^ 25) ⟨.none, 0, 0, 0, false⟩ ⟨.none, 0, 0, 0, false⟩, .bankAccess 0 0 ⟨.none, 64, 0, 0, false⟩ ⟨.none, 0, 0, 0, false⟩, .bankAccess 0 0 ⟨.none, 0, 0, 0, false⟩ ⟨.none, 64, 0, 0, false⟩] = true ∧
    checks (.aliasWrite 0 0 0 false ⟨.none, 0, 0, 0, false⟩ ⟨.none, 0, 0, 0, false⟩) [.aliasWrite 8 0 0 false ⟨.none, 0, 0, 0, false⟩ ⟨.none, 0, 0, 0, false⟩, .aliasWrite 0 (2 ^ 25) 0 false ⟨.none, 0, 0, 0, false⟩ ⟨.none, 0, 0, 0, false⟩, .aliasWrite 0 0 2 false ⟨.none, 0, 0, 0, false⟩ ⟨.none, 0, 0, 0, false⟩, .aliasWrite 0 0 0 false ⟨.none, 64, 0, 0, false⟩ ⟨.none, 0, 0, 0, false⟩, .aliasWrite 0 0 0 false ⟨.none, 0, 0, 0, false⟩ ⟨.none, 64, 0, 0, false⟩] = true ∧
    checks (.busyRetry 0 0 0 ⟨.none, 0, 0, 0, false⟩) [.busyRetry 8 0 0 ⟨.none, 0, 0, 0, false⟩, .busyRetry 0 (2 ^ 25) 0 ⟨.none, 0, 0, 0, false⟩, .busyRetry 0 0 2 ⟨.none, 0, 0, 0, false⟩, .busyRetry 0 0 0 ⟨.none, 64, 0, 0, false⟩] = true ∧
    checks (.lfStart 0 0 0 0 0) [.lfStart 8 0 0 0 0, .lfStart 0 2 0 0 0, .lfStart 0 0 2 0 0, .lfStart 0 0 0 2 0, .lfStart 0 0 0 0 256] = true ∧
    checks (.lfAbort 0) [.lfAbort 8] = true ∧
    checks (.lfDone 0 [] 0 0 0) [.lfDone 8 [] 0 0 0, .lfDone 0 [⟨256, [], 0, 0, 0, 0⟩] 0 0 0, .lfDone 0 [] (2 ^ 32) 0 0, .lfDone 0 [] 0 (2^21) 0, .lfDone 0 [] 0 0 144] = true ∧
    checks (.fuseBurn 0 0) [.fuseBurn 8 0, .fuseBurn 0 256] = true ∧
    checks (.fuseBurnDone 0 0) [.fuseBurnDone 8 0, .fuseBurnDone 0 16] = true ∧
    checks (.fabParkApply 0 0) [.fabParkApply 8 0, .fabParkApply 0 11] = true ∧
    checks (.dmaAbort 0 0 0 0 0 []) [.dmaAbort 8 0 0 0 0 [], .dmaAbort 0 8 0 0 0 [], .dmaAbort 0 0 (2 ^ 24) 0 0 [], .dmaAbort 0 0 0 17 0 [], .dmaAbort 0 0 0 0 17 []] = true ∧
    checks (.dmaStart 0 0 0 0) [.dmaStart 8 0 0 0, .dmaStart 0 8 0 0, .dmaStart 0 0 (2 ^ 20) 0, .dmaStart 0 0 0 10] = true := by decide +kernel

/-- Each check of these commands refuses a term. -/
theorem test_wellFormed7 :
    checks (.dmaDescriptorRead 0 0) [.dmaDescriptorRead 8 0, .dmaDescriptorRead 0 8] = true ∧
    checks (.dmaDescriptorComplete 0 0 []) [.dmaDescriptorComplete 8 0 [], .dmaDescriptorComplete 0 8 []] = true ∧
    checks (.dmaError 0 0) [.dmaError 8 0, .dmaError 0 8] = true ∧
    checks (.linkRetrain 0 0 []) [.linkRetrain 8 0 [], .linkRetrain 0 4 []] = true ∧
    checks (.linkTrainingDone 0 0 0) [.linkTrainingDone 8 0 0, .linkTrainingDone 0 4 0, .linkTrainingDone 0 0 64] = true ∧
    checks (.flitReceipt 0 0 false [] []) [.flitReceipt 8 0 false [] [], .flitReceipt 0 4 false [] [], .flitReceipt 0 0 false [2 ^ 96] []] = true ∧
    checks (.sapEnable 6 0 0 1) [.sapEnable 5 0 0 1, .sapEnable 8 0 0 1, .sapEnable 6 32 0 1, .sapEnable 6 0 2 1, .sapEnable 6 0 0 (2 ^ 19), .sapEnable 6 0 0 2] = true ∧
    checks (.sapDisable 6 0 0) [.sapDisable 5 0 0, .sapDisable 8 0 0, .sapDisable 6 32 0, .sapDisable 6 0 2] = true ∧
    checks (.sapStop 6 0 0) [.sapStop 5 0 0, .sapStop 8 0 0, .sapStop 6 32 0, .sapStop 6 0 2] = true ∧
    checks (.sapFrameStart 6 0 0 0 0) [.sapFrameStart 5 0 0 0 0, .sapFrameStart 8 0 0 0 0, .sapFrameStart 6 32 0 0 0, .sapFrameStart 6 0 2 0 0, .sapFrameStart 6 0 0 (2^32) 0, .sapFrameStart 6 0 0 0 2] = true ∧
    checks (.sapRxFrame 6 0 []) [.sapRxFrame 5 0 [], .sapRxFrame 8 0 [], .sapRxFrame 6 32 [], .sapRxFrame 6 0 [2 ^ 96]] = true ∧
    checks (.sapTxFrameStart 6 0) [.sapTxFrameStart 5 0, .sapTxFrameStart 8 0, .sapTxFrameStart 6 32] = true ∧
    checks (.groupSlipMessage 6 0 false) [.groupSlipMessage 5 0 false, .groupSlipMessage 8 0 false, .groupSlipMessage 6 16 false] = true ∧
    checks (.sapLostTimeout 6 0 0) [.sapLostTimeout 5 0 0, .sapLostTimeout 8 0 0, .sapLostTimeout 6 32 0, .sapLostTimeout 6 0 2] = true ∧
    checks (.slotmaskStage 6 0 0 0) [.slotmaskStage 5 0 0 0, .slotmaskStage 8 0 0 0, .slotmaskStage 6 32 0 0, .slotmaskStage 6 0 2 0, .slotmaskStage 6 0 0 (2^32)] = true ∧
    checks (.mediaClockLockStart 0 0 0) [.mediaClockLockStart 3 0 0, .mediaClockLockStart 0 16 0, .mediaClockLockStart 0 0 2] = true ∧
    checks (.mediaClockStop 0 0 0) [.mediaClockStop 3 0 0, .mediaClockStop 0 16 0, .mediaClockStop 0 0 2] = true ∧
    checks (.mediaClockLocked 0) [.mediaClockLocked 3] = true ∧
    checks (.bridgeEnable 6 0 1) [.bridgeEnable 5 0 1, .bridgeEnable 8 0 1, .bridgeEnable 6 128 1, .bridgeEnable 6 0 (2 ^ 10), .bridgeEnable 6 0 2] = true ∧
    checks (.bridgeDisable 6 0) [.bridgeDisable 5 0, .bridgeDisable 8 0, .bridgeDisable 6 128] = true := by decide +kernel

/-- Each check of these commands refuses a term. -/
theorem test_wellFormed8 :
    checks (.bridgeOff 6 0) [.bridgeOff 5 0, .bridgeOff 8 0, .bridgeOff 6 128] = true ∧
    checks (.bridgeTrackLock 6 0 0) [.bridgeTrackLock 5 0 0, .bridgeTrackLock 8 0 0, .bridgeTrackLock 6 128 0, .bridgeTrackLock 6 0 (2^32)] = true ∧
    checks (.refRawChange 0 6 0 0) [.refRawChange 2 6 0 0, .refRawChange 0 5 0 0, .refRawChange 0 8 0 0, .refRawChange 0 6 8 0, .refRawChange 0 6 0 2] = true ∧
    checks (.inputEdgeAccept 0 6 0 0 []) [.inputEdgeAccept 2 6 0 0 [], .inputEdgeAccept 0 5 0 0 [], .inputEdgeAccept 0 8 0 0 [], .inputEdgeAccept 0 6 10 0 [], .inputEdgeAccept 0 6 0 (2^32) [], .inputEdgeAccept 0 6 0 0 [(4, 0)], .inputEdgeAccept 0 6 0 0 [(0, 2 ^ 32)]] = true ∧
    checks (.refLos 0) [.refLos 10] = true ∧
    checks (.refStuck 0 6 0) [.refStuck 2 6 0, .refStuck 0 5 0, .refStuck 0 8 0, .refStuck 0 6 8] = true ∧
    checks (.monitorGateEnd 0 6 0 0) [.monitorGateEnd 2 6 0 0, .monitorGateEnd 0 5 0 0, .monitorGateEnd 0 8 0 0, .monitorGateEnd 0 6 10 0, .monitorGateEnd 0 6 0 (2^32)] = true ∧
    checks (.refQualify 0) [.refQualify 10] = true ∧
    checks (.refselConfigWrite 0 0) [.refselConfigWrite 11 0, .refselConfigWrite 0 16] = true ∧
    checks (.refEnable 0 0 0) [.refEnable 10 0 0, .refEnable 0 2 0, .refEnable 0 0 16] = true ∧
    checks (.xoRestore 0) [.xoRestore (2^32)] = true ∧
    checks (.frameOutEnable 0 0 0 0) [.frameOutEnable 4 0 0 0, .frameOutEnable 0 2 0 0, .frameOutEnable 0 0 2 0, .frameOutEnable 0 0 0 16] = true ∧
    checks (.frameOutDisable 0) [.frameOutDisable 4] = true ∧
    checks (.frameOutRealign 0 0 0) [.frameOutRealign 4 0 0, .frameOutRealign 0 2 0, .frameOutRealign 0 0 (2^32)] = true ∧
    checks (.mdllRelock 0 []) [.mdllRelock 8 [], .mdllRelock 0 [(4, .lateMarker 0 0)]] = true ∧
    checks (.mdllSearchEnd 0 0 0) [.mdllSearchEnd 8 0 0, .mdllSearchEnd 0 16 0, .mdllSearchEnd 0 0 2] = true ∧
    checks (.mdllLockComplete 0 0) [.mdllLockComplete 8 0, .mdllLockComplete 0 (2^16)] = true ∧
    checks (.mdllLol 0 []) [.mdllLol 8 [], .mdllLol 0 [(4, .lateMarker 0 0)]] = true ∧
    checks (.mdllRefloss 0 []) [.mdllRefloss 8 [], .mdllRefloss 0 [(4, .lateMarker 0 0)]] = true ∧
    checks (.refclkReturn 0) [.refclkReturn 8] = true := by decide +kernel

/-- Each check of these commands refuses a term. -/
theorem test_wellFormed9 :
    checks (.macModeWrite 6 0 0) [.macModeWrite 5 0 0, .macModeWrite 8 0 0, .macModeWrite 6 4 0, .macModeWrite 6 0 (2^22)] = true ∧
    checks (.anrestart 6 0) [.anrestart 5 0, .anrestart 8 0, .anrestart 6 4] = true ∧
    checks (.macLinkChange 6 0 0) [.macLinkChange 5 0 0, .macLinkChange 8 0 0, .macLinkChange 6 4 0, .macLinkChange 6 0 2] = true ∧
    checks (.txqPiWrite 6 0 0 0) [.txqPiWrite 5 0 0 0, .txqPiWrite 8 0 0 0, .txqPiWrite 6 4 0 0, .txqPiWrite 6 0 8 0, .txqPiWrite 6 0 0 4096] = true ∧
    checks (.macFrameAdmit 6 0 0 0) [.macFrameAdmit 5 0 0 0, .macFrameAdmit 8 0 0 0, .macFrameAdmit 6 4 0 0, .macFrameAdmit 6 0 8 0, .macFrameAdmit 6 0 0 129] = true ∧
    checks (.macTxStart 6 0 0) [.macTxStart 5 0 0, .macTxStart 8 0 0, .macTxStart 6 4 0, .macTxStart 6 0 11] = true ∧
    checks (.macTxComplete 6 0) [.macTxComplete 5 0, .macTxComplete 8 0, .macTxComplete 6 4] = true ∧
    checks (.pauseExpiry 6 0) [.pauseExpiry 5 0, .pauseExpiry 8 0, .pauseExpiry 6 4] = true ∧
    checks (.launchTimeReached 6 0 0) [.launchTimeReached 5 0 0, .launchTimeReached 8 0 0, .launchTimeReached 6 4 0, .launchTimeReached 6 0 8] = true ∧
    checks (.macReset 6 0 0 0 []) [.macReset 5 0 0 0 [], .macReset 8 0 0 0 [], .macReset 6 4 0 0 [], .macReset 6 0 (2^24) 0 [], .macReset 6 0 0 17 [], .macReset 6 0 0 0 (List.replicate 17 0), .macReset 6 0 0 0 [2 ^ 128]] = true ∧
    checks (.clrTsovf 6 0) [.clrTsovf 5 0, .clrTsovf 8 0, .clrTsovf 6 4] = true ∧
    checks (.tsfPop 6 0) [.tsfPop 5 0, .tsfPop 8 0, .tsfPop 6 4] = true ∧
    checks (.macRxFrame 6 0 [] 0 0 0) [.macRxFrame 5 0 [] 0 0 0, .macRxFrame 8 0 [] 0 0 0, .macRxFrame 6 4 [] 0 0 0, .macRxFrame 6 0 [256] 0 0 0, .macRxFrame 6 0 [] 2 0 0, .macRxFrame 6 0 [] 0 2 0, .macRxFrame 6 0 [] 0 0 11] = true ∧
    checks (.streamTxEnable 6 0 0 0 0) [.streamTxEnable 5 0 0 0 0, .streamTxEnable 8 0 0 0 0, .streamTxEnable 6 128 0 0 0, .streamTxEnable 6 0 4 0 0, .streamTxEnable 6 0 0 4 0, .streamTxEnable 6 0 0 0 8] = true ∧
    checks (.streamRxEnable 6 0 0 0 0) [.streamRxEnable 5 0 0 0 0, .streamRxEnable 8 0 0 0 0, .streamRxEnable 6 128 0 0 0, .streamRxEnable 6 0 4 0 0, .streamRxEnable 6 0 0 16 0, .streamRxEnable 6 0 0 0 2] = true ∧
    checks (.streamDisable 6 0 0) [.streamDisable 5 0 0, .streamDisable 8 0 0, .streamDisable 6 2 0, .streamDisable 6 0 128] = true ∧
    checks (.streamStop 6 0 0) [.streamStop 5 0 0, .streamStop 8 0 0, .streamStop 6 2 0, .streamStop 6 0 128] = true ∧
    checks (.servoOffsetWrite 0 false) [.servoOffsetWrite (2^64) false] = true ∧
    checks (.phcSet 6) [.phcSet 5, .phcSet 8] = true ∧
    checks (.phcSnap 6) [.phcSnap 5, .phcSnap 8] = true := by decide +kernel

/-- Each check of these commands refuses a term. -/
theorem test_wellFormed10 :
    checks (.phcChangeApply 0) [.phcChangeApply 4] = true ∧
    checks (.tsyncArm 0 0 0) [.tsyncArm 4 0 0, .tsyncArm 0 2 0, .tsyncArm 0 0 2] = true ∧
    checks (.tsyncDisable 0) [.tsyncDisable 4] = true ∧
    checks (.tsyncFire 0) [.tsyncFire 4] = true ∧
    checks (.tsyncPulseEnd 0) [.tsyncPulseEnd 4] = true ∧
    checks (.birayLinkUp 6) [.birayLinkUp 5, .birayLinkUp 8] = true ∧
    checks (.birayLinkDown 6 0) [.birayLinkDown 5 0, .birayLinkDown 8 0, .birayLinkDown 6 16] = true ∧
    checks (.birayRetrain 6) [.birayRetrain 5, .birayRetrain 8] = true ∧
    checks (.keepaliveSend 6) [.keepaliveSend 5, .keepaliveSend 8] = true ∧
    checks (.frameCrcFail 6) [.frameCrcFail 5, .frameCrcFail 8] = true ∧
    checks (.keepalive 0) [.keepalive 2] = true ∧
    checks (.delay 0 0 0) [.delay 2 0 0, .delay 0 2 0, .delay 0 0 (2^32)] = true ∧
    checks (.enum 0 ⟨0, 0, 0, 0, [], []⟩) [.enum 2 ⟨0, 0, 0, 0, [], []⟩, .enum 0 ⟨16, 0, 0, 0, [], []⟩] = true ∧
    checks (.join 0 ⟨0, 0, 0, 0, [], []⟩) [.join 2 ⟨0, 0, 0, 0, [], []⟩, .join 0 ⟨16, 0, 0, 0, [], []⟩] = true ∧
    checks (.assign 0 ⟨0, 0, 0, 0, [], []⟩) [.assign 2 ⟨0, 0, 0, 0, [], []⟩, .assign 0 ⟨16, 0, 0, 0, [], []⟩] = true ∧
    checks (.time 0 ⟨0, 0, 0, 0, [], []⟩ 0 0) [.time 2 ⟨0, 0, 0, 0, [], []⟩ 0 0, .time 0 ⟨16, 0, 0, 0, [], []⟩ 0 0, .time 0 ⟨0, 0, 0, 0, [], []⟩ (2^64) 0, .time 0 ⟨0, 0, 0, 0, [], []⟩ 0 (2^32)] = true ∧
    checks (.health 0 ⟨0, 0, 0, 0, [], []⟩) [.health 2 ⟨0, 0, 0, 0, [], []⟩, .health 0 ⟨16, 0, 0, 0, [], []⟩] = true ∧
    checks (.commitFrame 0 ⟨0, 0, 0, 0, [], []⟩) [.commitFrame 2 ⟨0, 0, 0, 0, [], []⟩, .commitFrame 0 ⟨16, 0, 0, 0, [], []⟩] = true ∧
    checks (.partialFrame 0 ⟨0, 0, 0, 0, [], []⟩) [.partialFrame 2 ⟨0, 0, 0, 0, [], []⟩, .partialFrame 0 ⟨16, 0, 0, 0, [], []⟩] = true ∧
    checks (.mreq 0 ⟨0, 0, 0, 0, [], []⟩ 0) [.mreq 2 ⟨0, 0, 0, 0, [], []⟩ 0, .mreq 0 ⟨16, 0, 0, 0, [], []⟩ 0, .mreq 0 ⟨0, 0, 0, 0, [], []⟩ (256 + 1)] = true := by decide +kernel

/-- Each check of these commands refuses a term. -/
theorem test_wellFormed11 :
    checks (.mrsp 0 ⟨0, 0, 0, 0, [], []⟩) [.mrsp 2 ⟨0, 0, 0, 0, [], []⟩, .mrsp 0 ⟨16, 0, 0, 0, [], []⟩] = true ∧
    checks (.mirror 0 ⟨0, 0, 0, 0, [], []⟩) [.mirror 2 ⟨0, 0, 0, 0, [], []⟩, .mirror 0 ⟨16, 0, 0, 0, [], []⟩] = true ∧
    checks (.undefinedFrameType 0 12 ⟨0, 0, 0, 0, [], []⟩) [.undefinedFrameType 2 12 ⟨0, 0, 0, 0, [], []⟩, .undefinedFrameType 0 11 ⟨0, 0, 0, 0, [], []⟩, .undefinedFrameType 0 16 ⟨0, 0, 0, 0, [], []⟩, .undefinedFrameType 0 12 ⟨16, 0, 0, 0, [], []⟩] = true ∧
    checks (.timeFrameSend 0 0 0) [.timeFrameSend (2^32) 0 0, .timeFrameSend 0 (2^32) 0, .timeFrameSend 0 0 (2^32)] = true ∧
    checks (.ringUnwrap 6) [.ringUnwrap 5, .ringUnwrap 8] = true ∧
    checks (.remoteAccessTimeout 0) [.remoteAccessTimeout 256] = true ∧
    checks (.domcntAlign 0 []) [.domcntAlign 3 [], .domcntAlign 0 [⟨256, 0⟩], .domcntAlign 0 [⟨0, 2 ^ 32⟩]] = true ∧
    checks (.pairidWrite 0 0 0) [.pairidWrite 256 0 0, .pairidWrite 0 2 0, .pairidWrite 0 0 2] = true ∧
    checks (.mirrorApply 0) [.mirrorApply 3] = true ∧
    checks (.tailShed 0 0 []) [.tailShed (2^40) 0 [], .tailShed 0 17 [], .tailShed 0 0 (List.replicate 17 0), .tailShed 0 0 [2 ^ 128]] = true ∧
    checks (.tailImageLoaded (List.replicate 12 0) false [] []) [.tailImageLoaded [] false [] [], .tailImageLoaded [2 ^ 32] false [] [], .tailImageLoaded (List.replicate 12 0) false [256] [], .tailImageLoaded (List.replicate 12 0) false [] [256]] = true ∧
    checks (.pcieMemoryRequest 0 false 0 0 0) [.pcieMemoryRequest (2^64) false 0 0 0, .pcieMemoryRequest 0 false (128 + 1) 0 0, .pcieMemoryRequest 0 false 0 1 0, .pcieMemoryRequest 0 false 0 0 1] = true ∧
    checks (.flr 0 0 []) [.flr (2^40) 0 [], .flr 0 17 [], .flr 0 0 (List.replicate 17 0), .flr 0 0 [2 ^ 128]] = true ∧
    checks (.pciePerst 0 0 0 []) [.pciePerst 2 0 0 [], .pciePerst 0 (2^40) 0 [], .pciePerst 0 0 17 [], .pciePerst 0 0 0 (List.replicate 17 0), .pciePerst 0 0 0 [2 ^ 128]] = true ∧
    checks (.msixUnmask 0) [.msixUnmask 33] = true ∧
    checks (.hostIpendClear 0 0) [.hostIpendClear (2^32) 0, .hostIpendClear 0 (2^32)] = true ∧
    checks (.hostEvtWrite 0) [.hostEvtWrite (2^14)] = true ∧
    checks (.rd0 0 0 0 []) [.rd0 (2^32) 0 0 [], .rd0 0 0 8 [], .rd0 0 0 0 [0]] = true ∧
    checks (.wr0 0 [] 0) [.wr0 (2^32) [] 0, .wr0 0 [2 ^ 32] 0, .wr0 0 [] 8] = true ∧
    checks (.rd2 0 0 0 []) [.rd2 (2^32) 0 0 [], .rd2 0 0 8 [], .rd2 0 0 0 [0]] = true := by decide +kernel

/-- Each check of these commands refuses a term. -/
theorem test_wellFormed12 :
    checks (.wr2 0 [] 0) [.wr2 (2^32) [] 0, .wr2 0 [2 ^ 32] 0, .wr2 0 [] 8] = true ∧
    checks (.stat 0) [.stat 8] = true ∧
    checks (.badCommand 0) [.badCommand 256] = true ∧
    checks (.mbxPiWrite 0 0 0 false) [.mbxPiWrite 32 0 0 false, .mbxPiWrite 0 128 0 false, .mbxPiWrite 0 0 16 false] = true ∧
    checks (.mbxCiWrite 0 0 0 false) [.mbxCiWrite 32 0 0 false, .mbxCiWrite 0 128 0 false, .mbxCiWrite 0 0 16 false] = true ∧
    checks (.unknownOpcode 0) [.unknownOpcode 16] = true ∧
    checks (.sysInfo 0) [.sysInfo 16] = true ∧
    checks (.sysStatus 0) [.sysStatus 16] = true ∧
    checks (.sysEvents 0) [.sysEvents 16] = true ∧
    checks (.sysRestartTail 0) [.sysRestartTail 16] = true ∧
    checks (.sysEcho 0) [.sysEcho 16] = true ∧
    checks (.graphLoadBegin 0) [.graphLoadBegin 16] = true ∧
    checks (.graphLoadData 0) [.graphLoadData 16] = true ∧
    checks (.graphLoadEnd 0 ⟨[], [], [], [], [], [], []⟩ false false) [.graphLoadEnd 16 ⟨[], [], [], [], [], [], []⟩ false false, .graphLoadEnd 0 ⟨[⟨0, 3, 0, 0, 0, []⟩], [], [], [], [], [], []⟩ false false] = true ∧
    checks (.graphStart 0) [.graphStart 16] = true ∧
    checks (.graphStop 0) [.graphStop 16] = true ∧
    checks (.graphQueryLatency 0) [.graphQueryLatency 16] = true ∧
    checks (.graphQueryBridge 0) [.graphQueryBridge 16] = true ∧
    checks (.txBegin 0) [.txBegin 16] = true ∧
    checks (.txSet 0) [.txSet 16] = true := by decide +kernel

/-- Each check of these commands refuses a term. -/
theorem test_wellFormed13 :
    checks (.txCommitAt 0 []) [.txCommitAt 16 [], .txCommitAt 0 [.data (2 ^ 32)]] = true ∧
    checks (.txArm 0 []) [.txArm 3 [], .txArm 0 [.data (2 ^ 32)]] = true ∧
    checks (.catchUp 0 []) [.catchUp 3 [], .catchUp 0 [.data (2 ^ 32)]] = true ∧
    checks (.txAbort 0 []) [.txAbort 16 [], .txAbort 0 [.data (2 ^ 32)]] = true ∧
    checks (.txStatus 0) [.txStatus 16] = true ∧
    checks (.paramGet 0) [.paramGet 16] = true ∧
    checks (.sceneStore 0 []) [.sceneStore 16 [], .sceneStore 0 [.data (2 ^ 32)]] = true ∧
    checks (.sceneRecall 0 []) [.sceneRecall 16 [], .sceneRecall 0 [.data (2 ^ 32)]] = true ∧
    checks (.sceneDelete 0) [.sceneDelete 16] = true ∧
    checks (.sceneList 0) [.sceneList 16] = true ∧
    checks (.routeSet 0 []) [.routeSet 16 [], .routeSet 0 [.data (2 ^ 32)]] = true ∧
    checks (.routeGet 0) [.routeGet 16] = true ∧
    checks (.routeXflen 0 []) [.routeXflen 16 [], .routeXflen 0 [.data (2 ^ 32)]] = true ∧
    checks (.meterSnapshot 0) [.meterSnapshot 16] = true ∧
    checks (.meterRead 0) [.meterRead 16] = true ∧
    checks (.clkDomainSet 0) [.clkDomainSet 16] = true ∧
    checks (.clkRefSet 0) [.clkRefSet 16] = true ∧
    checks (.clkSelSet 0) [.clkSelSet 16] = true ∧
    checks (.clkStatus 0) [.clkStatus 16] = true ∧
    checks (.netMacSet 0) [.netMacSet 16] = true := by decide +kernel

/-- Each check of these commands refuses a term. -/
theorem test_wellFormed14 :
    checks (.netPtpSet 0) [.netPtpSet 16] = true ∧
    checks (.netStreamTx 0 []) [.netStreamTx 16 [], .netStreamTx 0 [.data (2 ^ 32)]] = true ∧
    checks (.netStreamRx 0) [.netStreamRx 16] = true ∧
    checks (.netStatus 0) [.netStatus 16] = true ∧
    checks (.pairSet 0) [.pairSet 16] = true ∧
    checks (.pairActivate 0) [.pairActivate 16] = true ∧
    checks (.pairTakeover 0) [.pairTakeover 16] = true ∧
    checks (.pairResync 0) [.pairResync 16] = true ∧
    checks (.pairStatus 0) [.pairStatus 16] = true ∧
    checks (.faultList 0) [.faultList 16] = true ∧
    checks (.faultAck 0) [.faultAck 16] = true ∧
    checks (.faultInject 0) [.faultInject 16] = true ∧
    checks (.faultClear 0) [.faultClear 16] = true ∧
    checks (.faultService 0 0) [.faultService 8 0, .faultService 0 1152] = true ∧
    checks (.fltStatusAck 0 0 false false) [.fltStatusAck 8 0 false false, .fltStatusAck 0 1152 false false] = true ∧
    checks (.ack2 0 0 false) [.ack2 8 0 false, .ack2 0 1152 false] = true ∧
    checks (.clr3 0 0) [.clr3 8 0, .clr3 0 1152] = true ∧
    checks (.graceT1Expiry 0 0) [.graceT1Expiry 8 0, .graceT1Expiry 0 1152] = true ∧
    checks (.graceT2Expiry 0 0) [.graceT2Expiry 8 0, .graceT2Expiry 0 1152] = true ∧
    checks (.gillL2Check 0 0) [.gillL2Check 8 0, .gillL2Check 0 1152] = true := by decide +kernel

/-- Each check of these commands refuses a term. -/
theorem test_wellFormed15 :
    checks (.thermTrip 0 0 0 []) [.thermTrip 8 0 0 [], .thermTrip 0 8 0 [], .thermTrip 0 0 (2^12) []] = true ∧
    checks (.thermalThreshold 0 0 0 []) [.thermalThreshold 8 0 0 [], .thermalThreshold 0 8 0 [], .thermalThreshold 0 0 (2^12) []] = true ∧
    checks (.vmonThreshold 0 0 0) [.vmonThreshold 8 0 0, .vmonThreshold 0 4 0, .vmonThreshold 0 0 (2^12)] = true ∧
    checks (.porstRelease 0 0 0 0 false false []) [.porstRelease 4 0 0 0 false false [], .porstRelease 0 2 0 0 false false [], .porstRelease 0 0 2 0 false false [], .porstRelease 0 0 0 2 false false [], .porstRelease 0 0 0 0 false false [256]] = true ∧
    checks (.pcieLinkChange 0 0 0 false) [.pcieLinkChange 2 0 0 false, .pcieLinkChange 0 4 0 false, .pcieLinkChange 0 0 8 false] = true ∧
    checks (.pcieConfigRequest 0 false 0) [.pcieConfigRequest 1024 false 0, .pcieConfigRequest 0 false (2^32)] = true ∧
    checks (.ringPresentExpiry 0) [.ringPresentExpiry 16] = true ∧
    checks (.frameOutEdge 0) [.frameOutEdge 4] = true ∧
    checks (.mdllLockTimeout 0) [.mdllLockTimeout 8] = true ∧
    checks (.sensorSelfCheckFailure 0 0) [.sensorSelfCheckFailure 8 0, .sensorSelfCheckFailure 0 8] = true := by decide +kernel

/-- The checks of the records a command carries. -/
theorem test_wellFormedRecords :
    ([⟨.read, 63, 65535, 2 ^ 128 - 1, true⟩, ⟨.none, 64, 0, 0, false⟩, ⟨.none, 0, 65536, 0, false⟩, ⟨.none, 0, 0, 2 ^ 128, false⟩] : List PortAccess).map PortAccess.ok =
      [true, false, false, false] ∧
    ([⟨255, [511], 15, 515, 15, 143⟩, ⟨256, [], 0, 0, 0, 0⟩, ⟨0, [512], 0, 0, 0, 0⟩, ⟨0, [], 16, 0, 0, 0⟩, ⟨0, [], 0, 516, 0, 0⟩,
      ⟨0, [], 0, 0, 16, 0⟩, ⟨0, [], 0, 0, 0, 144⟩] : List BankTest).map BankTest.ok = true :: List.replicate 6 false ∧
    ([⟨255, 255, [⟨16, ⟨.read, 0, 0, 0, false⟩⟩], 7⟩, ⟨256, 0, [], 0⟩, ⟨0, 256, [], 0⟩, ⟨0, 0, [⟨8, ⟨.read, 0, 0, 0, false⟩⟩], 0⟩,
      ⟨0, 0, [⟨2 ^ 25, ⟨.read, 0, 0, 0, false⟩⟩], 0⟩, ⟨0, 0, [⟨0, ⟨.read, 64, 0, 0, false⟩⟩], 0⟩, ⟨0, 0, [], 8⟩,
      ⟨0, 0, List.replicate 9 ⟨0, ⟨.read, 0, 0, 0, false⟩⟩, 0⟩] : List AccessMeets).map AccessMeets.ok = true :: List.replicate 7 false ∧
    ([⟨15, 15, 1, 63, [5], List.replicate 16 255⟩, ⟨16, 0, 0, 0, [], []⟩, ⟨0, 16, 0, 0, [], []⟩, ⟨0, 0, 2, 0, [], []⟩, ⟨0, 0, 0, 64, [], []⟩,
      ⟨0, 0, 0, 0, List.replicate 8 0, []⟩, ⟨0, 0, 0, 0, [2 ^ 32], []⟩, ⟨0, 0, 0, 0, [], List.replicate 1040 0⟩,
      ⟨0, 0, 0, 0, [], [0]⟩, ⟨0, 0, 0, 0, [], List.replicate 16 256⟩] : List BFrame).map BFrame.ok =
      true :: List.replicate 9 false ∧
    (GraphImage.ok ⟨[⟨0, 3, 0, 0, 0, []⟩], [], [], [], [], [], []⟩ || GraphImage.ok ⟨[], [⟨0, 0, 6, 0, [0, 0, 0, 0]⟩], [], [], [], [], []⟩ ||
      GraphImage.ok ⟨[], [⟨0, 0, 0, 0, [0]⟩], [], [], [], [], []⟩ || GraphImage.ok ⟨[], [], [⟨0, 0, 8, 0, 1⟩], [], [], [], []⟩ ||
      GraphImage.ok ⟨[], [], [], [⟨0, 0, 0, [256], [], []⟩], [], [], []⟩ || GraphImage.ok ⟨[], [], [], [⟨0, 0, 0, [], [256], []⟩], [], [], []⟩ ||
      GraphImage.ok ⟨[], [], [], [⟨0, 0, 0, [], [], [256]⟩], [], [], []⟩ ||
      GraphImage.ok ⟨[], [], [], [], [⟨2 ^ 24, 0, 0⟩], [], []⟩ || GraphImage.ok ⟨[], [], [], [], [], [⟨0, 0, [256]⟩], []⟩ ||
      GraphImage.ok ⟨[], [], [], [], [], [], [⟨0, 3, true, true⟩]⟩) = false ∧
    GraphImage.ok ⟨[], [], [], [], [], [], []⟩ = true := by decide +kernel

end Sys2Proof.Machine
end

section
/-! Every operation of the machine keeps the canonical forms, the queue and the raises owed, one lemma an operation in the order of the
model's files; with it every command and the idle step. -/

namespace Sys2Proof.Machine

/-- A raise of block `b` on die 6 of the block type of fault `n`. -/
def owedBy (n : FaultName) (b : Nat) (c : Cond) : Prop := c.die = 6 ∧ c.set = n.set b

/-- `p` names what the reference selector, or the PTP servo, owes within a command. -/
abbrev MayOweRef (p : Cond → Prop) : Prop := ∀ c, owedBy .REFSEL_EVENT refBlock c → p c
abbrev MayOwePtp (p : Cond → Prop) : Prop := ∀ c, owedBy .PTP_FSAT 0 c → p c

/-- `t` keeps what a step keeps of `s`: canonical forms, the queue, and no raise beyond those of `s` waits but such as `p` names. -/
structure State.Keeps (s : State) (p : Cond → Prop) (t : State) : Prop where
  canonical : s.canonical = true → t.canonical = true
  pending : t.pending = s.pending
  due : ∀ c, c ∈ t.due → c ∈ s.due ∨ p c

/-- A meaning answers a next state, and it keeps these. -/
def Result.Keeps (s : State) (p : Cond → Prop) (r : Result) : Prop := ∃ t, r = .next t ∧ s.Keeps p t

variable {s t : State} {p : Cond → Prop} {f : Fld} {d i v n : Nat}

theorem Result.Keeps.next (h : s.Keeps p t) : Result.Keeps s p (.next t) := ⟨t, rfl, h⟩

theorem Result.Keeps.ite {c : Prop} [Decidable c] {a b : Result} (ha : Result.Keeps s p a) (hb : Result.Keeps s p b) :
    Result.Keeps s p (if c then a else b) := by
  split <;> assumption

namespace State.Keeps

theorem refl : s.Keeps p s := ⟨id, rfl, fun _ => .inl⟩

/-- More may be owed. -/
theorem owed {q : Cond → Prop} (h : s.Keeps p t) : s.Keeps (fun c => p c ∨ q c) t :=
  ⟨h.canonical, h.pending, fun c hc => (h.due c hc).imp id .inl⟩

/-- Cells and memory in their forms, and the queue and the raises owed of a state that keeps them. -/
theorem of_canonical {u : State} (h : s.Keeps p t) (hc : t.canonical = true → u.canonical = true)
    (hp : u.pending = t.pending) (hd : u.due = t.due) : s.Keeps p u :=
  ⟨hc ∘ h.canonical, hp.trans h.pending, hd ▸ h.due⟩

theorem put (h : s.Keeps p t) : s.Keeps p (t.put f d i v) :=
  h.of_canonical (State.put_canonical _ _ _ _) (by simp) (by simp)

theorem inc (h : s.Keeps p t) : s.Keeps p (t.inc f d i n) := h.put
theorem incSat (h : s.Keeps p t) : s.Keeps p (t.incSat f d i n) := h.put
theorem dec (h : s.Keeps p t) : s.Keeps p (t.dec f d i n) := h.put
theorem raiseTo (h : s.Keeps p t) : s.Keeps p (t.raiseTo f d i v) := h.put

theorem ite {c : Prop} [Decidable c] {a b : State} (ha : s.Keeps p a) (hb : s.Keeps p b) :
    s.Keeps p (if c then a else b) := by
  split <;> assumption

theorem when {c : Prop} [Decidable c] {g : State → State} (h : s.Keeps p t)
    (hg : ∀ u, s.Keeps p u → s.Keeps p (g u)) : s.Keeps p (t.when c g) := .ite (hg t h) h

theorem foldl {α : Type} {g : State → α → State} {l : List α} (h : s.Keeps p t)
    (hg : ∀ u a, s.Keeps p u → s.Keeps p (g u a)) : s.Keeps p (l.foldl g t) := by
  induction l generalizing t with
  | nil => exact h
  | cons a l ih => exact ih (hg t a h)

/-- The same of updates that carry more along. -/
theorem foldl_fst {α β : Type} {g : State × β → α → State × β} {l : List α} {q : State × β} (h : s.Keeps p q.1)
    (hg : ∀ q a, s.Keeps p q.1 → s.Keeps p (g q a).1) : s.Keeps p (l.foldl g q).1 := by
  induction l generalizing q with
  | nil => exact h
  | cons a l ih => exact ih (hg q a h)

theorem each {α : Type} {g : α → State → State} {l : List α} (h : s.Keeps p t)
    (hg : ∀ a u, s.Keeps p u → s.Keeps p (g a u)) : s.Keeps p (t.each l g) := h.foldl fun u a => hg a u

theorem update {errs conds sent queue claims croak ready kicks busyAcc locks badFlits resp answer deferred bundles boards blocks ports
    sapBlks phc hists macTx macLine tsf built stx mirror remote hostQ image snaps txs scenes events faultLog starts freeCtr}
    (h : s.Keeps p t) : s.Keeps p ⟨t.cells, t.mem, errs, conds, t.due, sent, queue, claims, croak, ready, kicks, busyAcc, locks, badFlits,
      resp, answer, deferred, bundles, boards, blocks, ports, sapBlks, phc, hists, macTx, macLine, tsf, built, stx, mirror, remote, hostQ,
      image, snaps, txs, scenes, events, faultLog, starts, freeCtr, t.pending⟩ :=
  h.of_canonical (State.canonical_of rfl rfl) rfl rfl

theorem run {g : State → Result} (h : s.Keeps p t) (hg : ∀ u, s.Keeps p u → Result.Keeps s p (g u)) : s.Keeps p (t.run g) := by
  obtain ⟨u, hu, hk⟩ := hg t h
  unfold State.run
  rw [hu]
  exact hk

theorem send {m : Msg} (h : s.Keeps p t) : s.Keeps p (t.send m) := h.update
theorem arrived {m : Msg} (h : s.Keeps p t) : s.Keeps p (t.arrived m) := h.update

theorem receive {test : Msg → Bool} {g : Msg → State → State} (h : s.Keeps p t)
    (hg : ∀ m u, s.Keeps p u → s.Keeps p (g m u)) : s.Keeps p (t.receive test g) := by
  unfold State.receive
  split
  · exact h
  · exact hg _ _ h.arrived

theorem filterCells {q : Loc × Nat → Bool} (h : s.Keeps p t) : s.Keeps p { t with cells := t.cells.filter q } :=
  h.of_canonical (fun c => by rw [State.canonical_iff] at *; exact ⟨Cells.wf_filter q c.1, c.2⟩) rfl rfl

theorem filterMem {q : Host.Cell → Bool} {errs} (h : s.Keeps p t) : s.Keeps p { t with mem := t.mem.filter q, errs := errs } :=
  h.of_canonical (fun c => by rw [State.canonical_iff] at *; exact ⟨c.1, Memory.wf_filter q c.2⟩) rfl rfl

end State.Keeps

/-! ### Machine/Ops -/

theorem State.Keeps.putAll {f : Fld} {d n v : Nat} (h : s.Keeps p t) : s.Keeps p (t.putAll f d n v) := h.each fun _ _ k => k.put

theorem State.Keeps.setByte {d a : Nat} {x : Byte} (h : s.Keeps p t) : s.Keeps p (t.setByte d a x) :=
  h.of_canonical (State.setByte_canonical _ _ _) rfl rfl

theorem State.Keeps.store {d a n v : Nat} (h : s.Keeps p t) : s.Keeps p (t.store d a n v) := by
  induction n generalizing t a v with
  | zero => exact h
  | succ n ih => exact ih h.setByte

theorem State.Keeps.storeBytes {d a : Nat} {l : List Nat} (h : s.Keeps p t) : s.Keeps p (t.storeBytes d a l) := by
  induction l generalizing t a with
  | nil => exact h
  | cons b l ih => exact ih h.setByte

theorem State.Keeps.setWord {d a v : Nat} (h : s.Keeps p t) : s.Keeps p (t.setWord d a v) := h.store
theorem State.Keeps.drawn (h : s.Keeps p t) : s.Keeps p t.drawn := h.update

/-! ### Machine/Faults -/

theorem State.Keeps.recordFault {d x : Nat} {r : Raise} {several : Bool} {stamp : Nat} (h : s.Keeps p t) : s.Keeps p (t.recordFault
    d x r several stamp) := h.put.put.put.put.put.put.put.put

theorem State.Keeps.noteRaises {d x : Nat} {r : Raise} {several : Bool} {stamp : Nat} (h : s.Keeps p t) : s.Keeps p (t.noteRaises d
    x r several stamp) := h.put.put.put.put

theorem State.Keeps.recordLast {d x : Nat} (h : s.Keeps p t) : s.Keeps p (t.recordLast d x) := by
  dsimp only [State.recordLast]
  split
  · exact h
  · exact h.recordFault

theorem State.Keeps.enterL1 {d x : Nat} (h : s.Keeps p t) : s.Keeps p (t.enterL1 d x) := h.put.put.put

theorem State.Keeps.raisesAt {stamp d b : Nat} {l : List Raise} (h : s.Keeps p t) : s.Keeps p (t.raisesAt stamp d b l) := by
  dsimp only [State.raisesAt]
  split
  · exact h
  · exact .when (.when (h.put.incSat.noteRaises.when fun _ k => k.recordFault) fun _ k => k.put) fun _ k => k.enterL1

theorem State.Keeps.raises {d b : Nat} {l : List Raise} (h : s.Keeps p t) : s.Keeps p (t.raises d b l) := h.raisesAt
theorem State.Keeps.fault {n : FaultName} {d b j : Nat} (h : s.Keeps p t) : s.Keeps p (t.fault n d b j) := h.raises
theorem State.Keeps.condMark {d b : Nat} {r : Raise} (h : s.Keeps p t) : s.Keeps p (t.condMark d b r) := .put (.ite h h.update)

theorem State.Keeps.signal {d b : Nat} {events conds : List Raise} (h : s.Keeps p t) : s.Keeps p (t.signal d b events conds) :=
  .raises (h.each fun _ _ k => k.condMark)

theorem State.Keeps.condBegin {n : FaultName} {d b j : Nat} (h : s.Keeps p t) : s.Keeps p (t.condBegin n d b j) :=
  .ite h.condMark h.condMark.fault

theorem State.Keeps.condEnd {n : FaultName} {d b j : Nat} (h : s.Keeps p t) : s.Keeps p (t.condEnd n d b j) :=
  .ite h.update (h.update.put.when fun _ k => k.put)

theorem State.Keeps.owe {m : FaultName} {b j : Nat} (h : s.Keeps p t) (hp : ∀ c, owedBy m b c → p c) : s.Keeps p (t.owe m 6 b j) :=
  ⟨h.canonical, h.pending, fun c hc => by
    rcases List.mem_append.1 hc with hc | hc
    · exact h.due c hc
    · rw [List.mem_singleton.1 hc]; exact .inr (hp _ ⟨rfl, rfl⟩)⟩

theorem State.Keeps.oweCond {m : FaultName} {b j : Nat} (h : s.Keeps p t) (hp : ∀ c, owedBy m b c → p c) :
    s.Keeps p (t.oweCond m 6 b j) :=
  .ite h.condMark (h.condMark.owe hp)

theorem State.Keeps.settle {m : FaultName} {b : Nat} (h : s.Keeps (fun c => p c ∨ owedBy m b c) t) : s.Keeps p (t.settle m 6 b) := by
  unfold State.settle
  refine .raises ⟨h.canonical, h.pending, fun c hc => ?_⟩
  obtain ⟨hc, hm⟩ := List.mem_filter.1 hc
  rcases h.due c hc with hs | hs | ⟨hd, hx⟩
  · exact .inl hs
  · exact .inr hs
  · simp [hd, hx] at hm

theorem State.Keeps.condSet {n : FaultName} {d b j : Nat} {holds : Bool} (h : s.Keeps p t) : s.Keeps p (t.condSet n d b j holds) :=
  .ite h.condBegin h.condEnd

theorem State.Keeps.firstRead {d x : Nat} (h : s.Keeps p t) : s.Keeps p (t.firstRead d x) := h.when fun _ k => k.put
theorem State.Keeps.toL0 {d x : Nat} (h : s.Keeps p t) : s.Keeps p (t.toL0 d x) := h.put.put.put.put

theorem State.Keeps.ackDown {d x : Nat} {raise : Bool} (h : s.Keeps p t) : s.Keeps p (t.ackDown d x raise) :=
  .ite h.toL0.enterL1 h.toL0

theorem State.Keeps.ackStatus {d x : Nat} {raise expiry : Bool} (h : s.Keeps p t) : s.Keeps p (t.ackStatus d x raise expiry) := by
  dsimp only [State.ackStatus]
  split
  · exact h
  · exact h.ackDown
  · exact h.put.put.when fun _ k => k.put
  · exact h.put

theorem State.Keeps.ackL2 {d x : Nat} {raise : Bool} (h : s.Keeps p t) : s.Keeps p (t.ackL2 d x raise) :=
  h.when fun _ k => k.ackDown

theorem State.Keeps.clearL3 {d x : Nat} (h : s.Keeps p t) : s.Keeps p (t.clearL3 d x) := h.when fun _ k => k.toL0
theorem State.Keeps.enterL2 {d x : Nat} (h : s.Keeps p t) : s.Keeps p (t.enterL2 d x) := h.put.put.put

/-! ### Machine/Epoch -/

theorem State.Keeps.setRun {D v : Nat} (h : s.Keeps p t) : s.Keeps p (t.setRun D v) := h.put.each fun _ _ k => k.put

theorem State.Keeps.haltEpochs {D : Nat} (h : s.Keeps p t) : s.Keeps p (t.haltEpochs D) :=
  .put (h.setRun.each fun _ _ k => k.when fun _ l => l.put)

theorem State.Keeps.countSkips {D n : Nat} (h : s.Keeps p t) : s.Keeps p (t.countSkips D n) := h.when fun _ k => k.inc.put.fault

theorem State.Keeps.broadcastStart {D b : Nat} {commit : Bool} (h : s.Keeps p t) : s.Keeps p (t.broadcastStart D b commit) :=
  h.each fun _ _ k => k.send

theorem State.Keeps.enableEpochs {D : Nat} (h : s.Keeps p t) : s.Keeps p (t.enableEpochs D) :=
  h.when fun _ k => k.put.when fun _ l => l.put.put

theorem State.Keeps.stopEpochs {D : Nat} (h : s.Keeps p t) : s.Keeps p (t.stopEpochs D) :=
  h.when fun _ k => k.put.when fun _ l => l.haltEpochs

theorem execEpochEnable_keeps {D : Nat} (h : s.Keeps p t) : Result.Keeps s p (execEpochEnable D t) :=
  .next (h.when fun _ k => k.enableEpochs)

theorem execEpochStop_keeps {D : Nat} (h : s.Keeps p t) : Result.Keeps s p (execEpochStop D t) :=
  .next (h.when fun _ k => k.stopEpochs)

theorem State.Keeps.refuseCommit {D T : Nat} (h : s.Keeps p t) : s.Keeps p (t.refuseCommit D T) :=
  .when (.when (h.when fun _ k => k.put) fun _ k => k.put) fun _ k => k.put

theorem State.Keeps.commitPend {D T own : Nat} (h : s.Keeps p t) : s.Keeps p (t.commitPend D T own) := h.put.put.put.put
theorem State.Keeps.refuseSnap {D : Nat} (h : s.Keeps p t) : s.Keeps p (t.refuseSnap D) := h.put
theorem State.Keeps.snapPend {D T : Nat} (h : s.Keeps p t) : s.Keeps p (t.snapPend D T) := h.put.put

theorem execCommitAckDeadline_keeps {D : Nat} (h : s.Keeps p t) : Result.Keeps s p (execCommitAckDeadline D t) :=
  .next (h.when fun _ k => k.put.fault)

/-! ### Machine/Ring -/

theorem State.Keeps.msgGranted {d q e : Nat} (h : s.Keeps p t) : s.Keeps p (t.msgGranted d q e) := .ite h h.put
theorem State.Keeps.takeAddr {a : Nat} (h : s.Keeps p t) : s.Keeps p (t.takeAddr a) := h.put.put.put
theorem State.Keeps.portSend {d ty : Nat} {f : BFrame} (h : s.Keeps p t) : s.Keeps p (t.portSend d ty f) := h.when fun _ k => k.send

theorem State.Keeps.birayEast {ty : Nat} {f : BFrame} (h : s.Keeps p t) : s.Keeps p (t.birayEast ty f) :=
  .ite (h.when fun _ k => k.portSend) h.portSend

theorem State.Keeps.birayOwn {ty dst : Nat} {w payload : List Nat} (h : s.Keeps p t) : s.Keeps p (t.birayOwn ty dst w payload) :=
  h.when fun _ k => k.birayEast

theorem State.Keeps.birayFrom {d ty dst : Nat} {w payload : List Nat} (h : s.Keeps p t) : s.Keeps p (t.birayFrom d ty dst w payload) :=
  h.when fun _ k => k.birayOwn

theorem State.Keeps.remoteReq {d port unit tdie loc : Nat} {write : Bool} {len data dom : Nat} (h : s.Keeps p t) : s.Keeps p
    (t.remoteReq d port unit tdie loc write len data dom) := h.put.update.birayFrom

/-! ### Machine/Tongue -/

theorem State.Keeps.refreshIdle {d c D : Nat} (h : s.Keeps p t) : s.Keeps p (t.refreshIdle d c D) :=
  .ite (h.when fun _ k => k.put.put.raiseTo) h.put

theorem State.Keeps.slotMove {d c k new : Nat} (h : s.Keeps p t) : s.Keeps p (t.slotMove d c k new) :=
  .refreshIdle (.when (.when (.when (h.put.when fun _ k => k.dec) fun _ k => k.dec.dec) fun _ k => k.inc) fun _ k => k.inc.inc)

theorem State.Keeps.queueGrow {d c k : Nat} (h : s.Keeps p t) : s.Keeps p (t.queueGrow d c k) := h.inc.inc.raiseTo
theorem State.Keeps.queueShrink {d c k : Nat} (h : s.Keeps p t) : s.Keeps p (t.queueShrink d c k) := h.dec.dec

theorem State.Keeps.enqueue {d c k later : Nat} (h : s.Keeps p t) : s.Keeps p (t.enqueue d c k later) := by
  dsimp only [State.enqueue]
  exact h.update.inc.queueGrow.slotMove

theorem State.Keeps.evalSlot {d c k : Nat} (h : s.Keeps p t) : s.Keeps p (t.evalSlot d c k) := h.when fun _ k => k.enqueue

theorem State.Keeps.withdrawDrain {src d D : Nat} (h : s.Keeps p t) : s.Keeps p (t.withdrawDrain src d D) :=
  h.when fun _ k => k.put.send

theorem State.Keeps.checkUndrained {src d c D : Nat} (h : s.Keeps p t) : s.Keeps p (t.checkUndrained src d c D) :=
  .ite h h.withdrawDrain

theorem State.Keeps.postedAgain {d c k flags : Nat} (h : s.Keeps p t) : s.Keeps p (t.postedAgain d c k flags) := h.update

theorem State.Keeps.acceptPost {src d c k flags srcDom : Nat} (h : s.Keeps p t) : s.Keeps p (t.acceptPost src d c k flags srcDom) :=
  .ite h.incSat.fault (.ite h.put.postedAgain.evalSlot.checkUndrained h.put)

theorem State.Keeps.setFlowBusy {f : Nat} {busy : Bool} (h : s.Keeps p t) : s.Keeps p (t.setFlowBusy f busy) :=
  h.put.each fun _ _ k => k.send

theorem State.Keeps.giveFlow {d c f : Nat} (h : s.Keeps p t) : s.Keeps p (t.giveFlow d c f) :=
  .ite h (.ite h.setFlowBusy h.msgGranted.send)

theorem State.Keeps.croakTake {d c w0 w1 w2 : Nat} (h : s.Keeps p t) : s.Keeps p (t.croakTake d c w0 w1 w2) :=
  .ite h (.ite h.inc.put.incSat.fault h.inc.put.update)

theorem State.Keeps.croakLog {e : QEntry} {newt reason skipped time wait : Nat} (h : s.Keeps p t) : s.Keeps p (t.croakLog e newt
    reason skipped time wait) := h.croakTake

theorem State.Keeps.logPassed {l : List QEntry} (h : s.Keeps p t) : s.Keeps p (t.logPassed l) :=
  h.each fun _ _ k => k.update.when fun _ l => l.croakLog

theorem State.Keeps.logDecision {d c : Nat} {choice : Option (Nat × QEntry)} (h : s.Keeps p t) : s.Keeps p (t.logDecision d c
    choice) := by
  dsimp only [State.logDecision]
  split
  · exact h.each fun _ _ k => k.logPassed
  · exact .logPassed (h.each fun _ _ k => k.logPassed)

theorem State.Keeps.clearRegs {d n : Nat} (h : s.Keeps p t) : s.Keeps p (t.clearRegs d n) :=
  .update (h.filterCells (q := fun c => !(c.1.die == d && isNewtReg n c.1)))

theorem State.Keeps.startTask {d c i k flags : Nat} (h : s.Keeps p t) : s.Keeps p (t.startTask d c i k flags) := by
  dsimp only [State.startTask]
  exact h.clearRegs.put.put.put.put.put.put.put.put.put.put.put.put.put.put.put.put.put.when fun _ k => k.put.put.put.put

theorem State.Keeps.countDispatch {e : QEntry} {i reason wait : Nat} (h : s.Keeps p t) : s.Keeps p (t.countDispatch e i reason wait) :=
  .ite h.raiseTo.inc.inc.inc (.ite h.raiseTo.inc.inc h.raiseTo.inc.inc.inc)

theorem State.Keeps.grant {e : QEntry} {i taken again reason skipped time wait : Nat} (h : s.Keeps p t) : s.Keeps p (t.grant e i
    taken again reason skipped time wait) := h.put.put.put.put.countDispatch.slotMove.startTask.croakLog

theorem State.Keeps.unqueue {e : QEntry} (h : s.Keeps p t) : s.Keeps p (t.unqueue e) := h.update.queueShrink
theorem State.Keeps.requeue {e : QEntry} (h : s.Keeps p t) : s.Keeps p (t.requeue e) := h.update.queueGrow
theorem State.Keeps.grantFlow {f z : Nat} (h : s.Keeps p t) : s.Keeps p (t.grantFlow f z) := h.put.setFlowBusy

theorem execDispatchDecision_keeps {d c : Nat} {rivals : List Nat} (h : s.Keeps p t) : Result.Keeps s p (execDispatchDecision d c
    rivals t) := by
  dsimp only [execDispatchDecision]
  refine .next (.ite h ?_)
  split
  · exact h.logDecision
  · exact .ite h.logDecision.unqueue.grant (.ite (.ite h.logDecision.croakLog h.logDecision.unqueue.grantFlow.grant)
      h.logDecision.unqueue.update.msgGranted.send)

theorem State.Keeps.acceptBack {src d srcDom also : Nat} (h : s.Keeps p t) : s.Keeps p (t.acceptBack src d srcDom also) :=
  h.each fun _ _ k => k.when fun _ l => l.raiseTo

theorem State.Keeps.postTaken {m : Msg} (h : s.Keeps p t) : s.Keeps p (t.postTaken m) := by
  dsimp only [State.postTaken]
  split
  · exact h.acceptBack.acceptPost
  · exact h

theorem execPostArrival_keeps {src q d c k flags srcDom : Nat} (h : s.Keeps p t) : Result.Keeps s p (execPostArrival src q d c k
    flags srcDom t) := .next (h.receive fun _ _ k => k.postTaken)

theorem execFlowClaim_keeps {d c k f : Nat} {rivals : List Nat} (h : s.Keeps p t) : Result.Keeps s p (execFlowClaim d c k f rivals
    t) := .next (h.receive fun _ _ k => .ite k.grantFlow.send k.send)

theorem State.Keeps.claimEnds {q : Claim} {granted : Bool} (h : s.Keeps p t) : s.Keeps p (t.claimEnds q granted) :=
  .ite (.ite h.update.giveFlow h.update) (.ite h.update.grant h.update.requeue.croakLog)

theorem execClaimResponse_keeps {d c k f : Nat} {granted : Bool} (h : s.Keeps p t) : Result.Keeps s p (execClaimResponse d c k f
    granted t) := by
  dsimp only [execClaimResponse]
  refine .next (h.receive fun _ _ k => ?_)
  split
  · exact k
  · exact k.claimEnds

theorem execFlowRelease_keeps {f d c : Nat} (h : s.Keeps p t) : Result.Keeps s p (execFlowRelease f d c t) :=
  .next (h.receive fun _ _ k => k.setFlowBusy)

theorem execFlowReplicaUpdate_keeps {d f : Nat} {busy : Bool} (h : s.Keeps p t) : Result.Keeps s p (execFlowReplicaUpdate d f busy
    t) := .next (h.receive fun _ _ k => k.put)

theorem State.Keeps.abandonClaims {test : Claim → Bool} (h : s.Keeps p t) : s.Keeps p (t.abandonClaims test) :=
  h.update.each fun _ _ k => .ite k.requeue k.slotMove

theorem State.Keeps.newtLeavesIdle {d n : Nat} (h : s.Keeps p t) : s.Keeps p (t.newtLeavesIdle d n) := h.abandonClaims

theorem execSlotEnable_keeps {d c k mode prio dom flow : Nat} (h : s.Keeps p t) : Result.Keeps s p (execSlotEnable d c k mode prio
    dom flow t) := .next (h.when fun _ k => .ite k (.ite k.put.put.put.put.put.put.put.put.slotMove k.put))

theorem execSlotDisable_keeps {d c k : Nat} (h : s.Keeps p t) : Result.Keeps s p (execSlotDisable d c k t) := by
  dsimp only [execSlotDisable]
  refine .next (h.when fun _ k => ?_)
  split
  · exact h.put.slotMove
  · split
    · exact h.put.unqueue.slotMove
    · exact h.put.abandonClaims
  · exact h.put

theorem execSlotClrFlags_keeps {d c k : Nat} (h : s.Keeps p t) : Result.Keeps s p (execSlotClrFlags d c k t) :=
  .next (h.when fun _ k => k.put)

theorem execSlotClrPend_keeps {d c k : Nat} (h : s.Keeps p t) : Result.Keeps s p (execSlotClrPend d c k t) :=
  .next (h.when fun _ k => k.put)

theorem execSlotClrAff_keeps {d c k : Nat} (h : s.Keeps p t) : Result.Keeps s p (execSlotClrAff d c k t) :=
  .next (h.when fun _ k => k.put)

theorem execTongueClrCnt_keeps {d c : Nat} (h : s.Keeps p t) : Result.Keeps s p (execTongueClrCnt d c t) :=
  .next (h.when fun _ k => .each (.each (k.each fun _ _ l => l.put.put) fun _ _ l => l.put.put) fun _ _ l => l.put)

theorem State.Keeps.freezeCroak {d c : Nat} (h : s.Keeps p t) : s.Keeps p (t.freezeCroak d c) := h.when fun _ k => k.put

theorem execLateMarkerReceipt_keeps {d D : Nat} (h : s.Keeps p t) : Result.Keeps s p (execLateMarkerReceipt d D t) :=
  .next (h.receive fun _ _ k => k.each fun _ _ l => .when (l.when fun _ m => m.inc) fun _ m => m.freezeCroak)

theorem execCroakFreeze_keeps {d c : Nat} (h : s.Keeps p t) : Result.Keeps s p (execCroakFreeze d c t) :=
  .next (h.when fun _ k => k.freezeCroak)

theorem execCroakFrozen_keeps {d c : Nat} (h : s.Keeps p t) : Result.Keeps s p (execCroakFrozen d c t) :=
  .next (h.when fun _ k => k.put.put)

theorem execCroakResume_keeps {d c : Nat} (h : s.Keeps p t) : Result.Keeps s p (execCroakResume d c t) :=
  .next (h.when fun _ k => k.put)

theorem State.Keeps.tongueEpochStart {d c D : Nat} (h : s.Keeps p t) : s.Keeps p (t.tongueEpochStart d c D) :=
  .each (h.put.put.when fun _ k => k.inc) fun _ _ k => k.put.put.evalSlot

/-! ### Machine/BankRead -/

theorem State.Keeps.clearErr {d a : Nat} (h : s.Keeps p t) : s.Keeps p (t.clearErr d a) := h.update
theorem State.Keeps.setErr {d a m : Nat} (h : s.Keeps p t) : s.Keeps p (t.setErr d a m) := .ite h.clearErr h.update

theorem State.Keeps.eccLog {d a port merge inj : Nat} {c : Check} (h : s.Keeps p t) : s.Keeps p (t.eccLog d a port merge inj c) :=
  h.when fun _ k => k.put.put.put.put.put.put.put.put

theorem State.Keeps.countCheck {d a port merge inj : Nat} {c : Check} (h : s.Keeps p t) : s.Keeps p (t.countCheck d a port merge inj
    c) := by
  dsimp only [State.countCheck]
  split
  · exact h
  · exact h.incSat.eccLog
  · exact h.incSat.put.eccLog

theorem State.Keeps.afterCheck {d a port merge : Nat} (h : s.Keeps p t) : s.Keeps p (t.afterCheck d a port merge) := by
  dsimp only [State.afterCheck]
  exact .countCheck (h.when fun _ k => k.dec)

theorem State.Keeps.readHalves {d w port halves merge : Nat} (h : s.Keeps p t) : s.Keeps p (t.readHalves d w port halves merge).st :=
  .ite (.afterCheck (.ite h.afterCheck h)) (.ite h.afterCheck h)

theorem State.Keeps.bankReadRaw {d w port halves : Nat} (h : s.Keeps p t) : s.Keeps p (t.bankReadRaw d w port halves).st := by
  dsimp only [State.bankReadRaw]
  simp only [apply_ite WordRead.st]
  exact .ite h h.readHalves

theorem State.Keeps.bankRead {d w port halves : Nat} (h : s.Keeps p t) : s.Keeps p (t.bankRead d w port halves).1 :=
  h.bankReadRaw.raises

theorem State.Keeps.collide {d w kind am bm : Nat} (h : s.Keeps p t) : s.Keeps p (t.collide d w kind am bm) :=
  .ite h.put.put.put.put.put h.incSat

theorem State.Keeps.collideLock {d w port mine other : Nat} (h : s.Keeps p t) : s.Keeps p (t.collideLock d w port mine other) :=
  h.collide

theorem State.Keeps.setLock {d w port master later : Nat} (h : s.Keeps p t) : s.Keeps p (t.setLock d w port master later) :=
  h.update

theorem State.Keeps.passLock {d w port master : Nat} (h : s.Keeps p t) : s.Keeps p (t.passLock d w port master) :=
  h.when fun _ k => k.collideLock

theorem State.Keeps.wordRead {d w port master halves : Nat} (h : s.Keeps p t) : s.Keeps p (t.wordRead d w port master halves).1 :=
  h.passLock.bankRead

/-! ### Machine/Kick -/

theorem State.Keeps.groupReady {d g : Nat} (h : s.Keeps p t) : s.Keeps p (t.groupReady d g) := .ite h h.update

theorem State.Keeps.chorusKick {d g : Nat} (h : s.Keeps p t) : s.Keeps p (t.chorusKick d g) :=
  .ite h.incSat.fault (h.incSat.when fun _ k => k.groupReady)

theorem State.Keeps.dmaBegin {k : Kick} (h : s.Keeps p t) : s.Keeps p (t.dmaBegin k) := h.put.put.put.put.put.put

theorem State.Keeps.readAhead {k : Kick} (h : s.Keeps p t) : s.Keeps p (t.readAhead k).1 := by
  dsimp only [State.readAhead]
  simp only [apply_ite Prod.fst]
  exact .ite h h.wordRead

theorem State.Keeps.dmaKick {k : Kick} (h : s.Keeps p t) : s.Keeps p (t.dmaKick k) :=
  .ite h.readAhead.dmaBegin (.ite h.readAhead.inc.update h.put.fault)

theorem State.Keeps.kickWord {d a v : Nat} (h : s.Keeps p t) : s.Keeps p (t.kickWord d a v) :=
  .when (h.when fun _ k => k.chorusKick) fun _ k => k.dmaKick

/-! ### Machine/Bank -/

theorem State.Keeps.writeHalf {d a kind en old new : Nat} (h : s.Keeps p t) : s.Keeps p (t.writeHalf d a kind en old new) :=
  .ite h h.store.clearErr

theorem State.Keeps.kickWords {d w en : Nat} (h : s.Keeps p t) : s.Keeps p (t.kickWords d w en) :=
  h.each fun _ _ k => k.when fun _ l => l.kickWord

theorem State.Keeps.bankWriteRaw {d w port kind en data : Nat} (h : s.Keeps p t) : s.Keeps p (t.bankWriteRaw d w port kind en
    data).st := by
  dsimp only [State.bankWriteRaw]
  simp only [apply_ite WordRead.st]
  exact .ite h h.readHalves.writeHalf.writeHalf

theorem State.Keeps.bankWrite {d w port kind en data : Nat} (h : s.Keeps p t) : s.Keeps p (t.bankWrite d w port kind en data).1 :=
  .ite h.bankWriteRaw.raises h.bankWriteRaw.raises.kickWords

theorem State.Keeps.wordWrite {d w port master later kind en data : Nat} (h : s.Keeps p t) : s.Keeps p (t.wordWrite d w port master
    later kind en data).1 := by
  dsimp only [State.wordWrite]
  simp only [apply_ite Prod.fst]
  exact .ite h (.ite h.passLock.bankWrite h.passLock.bankWrite.setLock)

theorem State.Keeps.bankReadBytes {d port master a fuel n : Nat} (h : s.Keeps p t) : s.Keeps p (t.bankReadBytes d port master a fuel
    n).1 := by
  induction fuel generalizing t a n with
  | zero => exact h
  | succ n ih =>
    dsimp only [State.bankReadBytes]
    simp only [apply_ite Prod.fst]
    exact .ite h (ih h.wordRead)

theorem State.Keeps.bankWriteBytes {d port master later kind a fuel n v : Nat} (h : s.Keeps p t) : s.Keeps p (t.bankWriteBytes d
    port master later kind a fuel n v).1 := by
  induction fuel generalizing t later a n v with
  | zero => exact h
  | succ n ih =>
    dsimp only [State.bankWriteBytes]
    simp only [apply_ite Prod.fst]
    exact .ite h (ih h.wordWrite)

theorem State.Keeps.busy {d w port : Nat} {q : PortAccess} (h : s.Keeps p t) : s.Keeps p (t.busy d w port q) :=
  h.update.when fun _ k => k.inc

theorem State.Keeps.writeResp {port : Nat} {err : Bool} (h : s.Keeps p t) : s.Keeps p (t.writeResp port err) := h.update

theorem State.Keeps.perform {d w port : Nat} {q : PortAccess} (h : s.Keeps p t) : s.Keeps p (t.perform d w port q).1 := by
  dsimp only [State.perform]
  split
  · exact h
  · exact .ite h.bankReadRaw.update h.bankReadRaw.update
  · exact .writeResp (.ite h.bankWriteRaw h.bankWriteRaw.kickWords)
  · exact .writeResp (.ite h.bankWriteRaw h.bankWriteRaw.kickWords.setLock)
  · exact .writeResp (.ite h.bankWriteRaw h.bankWriteRaw.kickWords.setLock)

theorem State.Keeps.performOne {d w port : Nat} {q : PortAccess} (h : s.Keeps p t) : s.Keeps p (t.performOne d w port q) :=
  h.perform.raises

theorem State.Keeps.performBoth {d w : Nat} {a b : PortAccess} (h : s.Keeps p t) : s.Keeps p (t.performBoth d w a b) :=
  h.perform.perform.raises

theorem State.Keeps.undefRead (h : s.Keeps p t) : s.Keeps p t.undefRead := h.drawn.update
theorem State.Keeps.clearResp (h : s.Keeps p t) : s.Keeps p t.clearResp := h.update

theorem State.Keeps.lockedAccess {d w port : Nat} {q : PortAccess} (h : s.Keeps p t) : s.Keeps p (t.lockedAccess d w port q) :=
  .ite h h.collideLock.busy

theorem State.Keeps.twoPorts {d w : Nat} {a b : PortAccess} (h : s.Keeps p t) : s.Keeps p (t.twoPorts d w a b) :=
  .ite h.performBoth (.ite h.performOne.collide.busy (.ite h.performOne.collide.busy (.ite h.performOne.collide.undefRead
    h.performBoth)))

theorem State.Keeps.portsMeet {d w : Nat} {a b : PortAccess} (h : s.Keeps p t) : s.Keeps p (t.portsMeet d w a b) :=
  .ite (.ite h.clearResp.lockedAccess h.clearResp.lockedAccess) h.clearResp.twoPorts

theorem execBankAccess_keeps {d w : Nat} {a b : PortAccess} (h : s.Keeps p t) : Result.Keeps s p (execBankAccess d w a b t) :=
  .next (h.when fun _ k => k.portsMeet)

theorem execAliasWrite_keeps {d w port : Nat} {clear : Bool} {q o : PortAccess} (h : s.Keeps p t) : Result.Keeps s p (execAliasWrite
    d w port clear q o t) := .next (h.when fun _ k => .ite k.portsMeet k.portsMeet)

theorem execBusyRetry_keeps {d w port : Nat} {o : PortAccess} (h : s.Keeps p t) : Result.Keeps s p (execBusyRetry d w port o t) := by
  dsimp only [execBusyRetry]
  refine .next ?_
  split
  · exact h
  · exact h.when fun _ k => k.clearResp.update.performOne.when fun _ l => l.collideLock.busy.when fun _ m => m.inc

theorem State.Keeps.tornBurst {d a master len written : Nat} (h : s.Keeps p t) : s.Keeps p (t.tornBurst d a master len written) :=
  .fault (.put (h.when fun _ k => k.put.put.put.put.put))

theorem State.Keeps.repPut {d b e row fused valid : Nat} (h : s.Keeps p t) : s.Keeps p (t.repPut d b e row fused valid) :=
  .ite h.put.put.put h.put.put.put

theorem State.Keeps.repClear {d b : Nat} (h : s.Keeps p t) : s.Keeps p (t.repClear d b) := h.each fun _ _ k => .ite k k.repPut

theorem State.Keeps.repairRows {d b spareBad : Nat} {l : List Nat} (h : s.Keeps p t) : s.Keeps p (t.repairRows d b spareBad l).1 := by
  induction l generalizing t with
  | nil => exact h
  | cons x l ih =>
    dsimp only [State.repairRows]
    simp only [apply_ite Prod.fst]
    refine .ite (ih h) ?_
    split
    · exact ih h
    · exact ih h.repPut

theorem State.Keeps.zeroRange {d a n : Nat} (h : s.Keeps p t) : s.Keeps p (t.zeroRange d a n) := h.filterMem

theorem State.Keeps.openRange {d a n : Nat} {check : Bool} (h : s.Keeps p t) : s.Keeps p (t.openRange d a n check) :=
  .drawn (.drawn (.when (h.zeroRange.each fun _ _ k => k.setByte) fun _ k => k.each fun _ _ l => l.setErr))

theorem execLfStart_keeps {d mode all newts bank : Nat} (h : s.Keeps p t) : Result.Keeps s p (execLfStart d mode all newts bank t) :=
  .next (h.when fun _ _ => .ite h.put.put.put.put.put (.each (h.put.put.put.put.put.put.put.put.put.put.when fun _ l => l.drawn) fun
    _ _ l => l.put))

theorem State.Keeps.lfEnd {d : Nat} (h : s.Keeps p t) : s.Keeps p (t.lfEnd d) := h.put.put.each fun _ _ k => k.put

theorem execLfAbort_keeps {d : Nat} (h : s.Keeps p t) : Result.Keeps s p (execLfAbort d t) :=
  .next (h.when fun _ k => .put (.lfEnd (k.each fun _ _ l => l.put.put.openRange)))

theorem State.Keeps.lfDestructive {d : Nat} {o : BankTest} (h : s.Keeps p t) : s.Keeps p (t.lfDestructive d o).1 :=
  h.zeroRange.repClear.repairRows.put.put

theorem State.Keeps.lfScrub {d b : Nat} (h : s.Keeps p t) : s.Keeps p (t.lfScrub d b) :=
  h.each fun _ _ k => .clearErr (.store (k.when fun _ l => l.eccLog))

theorem State.Keeps.lfPreserving {d : Nat} {o : BankTest} (h : s.Keeps p t) : s.Keeps p (t.lfPreserving d o).1 := by
  dsimp only [State.lfPreserving]
  exact .put (.put (h.lfScrub.each fun _ _ k => k.openRange))

theorem State.Keeps.lfBanksDone {d : Nat} {l : List BankTest} (h : s.Keeps p t) : s.Keeps p (t.lfBanksDone d l).1 := by
  induction l generalizing t with
  | nil => exact h
  | cons x l ih =>
    dsimp only [State.lfBanksDone]
    refine ih ?_
    split
    · exact h.lfDestructive
    · exact h.lfPreserving

theorem State.Keeps.lfPlace {d waddr bit : Nat} (h : s.Keeps p t) : s.Keeps p (t.lfPlace d waddr bit) :=
  h.when fun _ k => k.put.put.put

theorem State.Keeps.lfRecord {d : Nat} {l : List BankTest} {fail waddr bit : Nat} (h : s.Keeps p t) : s.Keeps p (t.lfRecord d l fail
    waddr bit) := by
  dsimp only [State.lfRecord]
  split
  · exact .ite h.lfPlace.drawn h.lfPlace
  · exact .ite h h.lfPlace

theorem State.Keeps.lfNewts {d fail : Nat} (h : s.Keeps p t) : s.Keeps p (t.lfNewts d fail) :=
  .put (h.each fun _ _ k => k.zeroRange)

theorem execFuseBurn_keeps {d bank : Nat} (h : s.Keeps p t) : Result.Keeps s p (execFuseBurn d bank t) :=
  .next (h.when fun _ k => k.put.put.put)

theorem execFuseBurnDone_keeps {d verified : Nat} (h : s.Keeps p t) : Result.Keeps s p (execFuseBurnDone d verified t) :=
  .next (h.when fun _ k => .put (.put (.when (k.each fun _ _ l => .ite l.repPut.put l.put) fun _ l => l.put.fault)))

/-! ### Machine/NewtMem -/

theorem State.Keeps.newtRaise {d n : Nat} {l : List Raise} (h : s.Keeps p t) : s.Keeps p (t.newtRaise d n l) :=
  .ite h (.ite h.update h.raises)

theorem State.Keeps.afterNewtCheck {d n off : Nat} (h : s.Keeps p t) : s.Keeps p (t.afterNewtCheck d n off) := by
  dsimp only [State.afterNewtCheck]
  exact .ite (h.when fun _ k => k.dec) (.ite (.incSat (h.when fun _ k => k.dec)) (.ite (.put (h.when fun _ k => k.dec)) (.put
    (h.when fun _ k => k.dec))))

theorem State.Keeps.newtReadWords {d n j : Nat} {l : List Nat} (h : s.Keeps p t) : s.Keeps p (t.newtReadWords d n j l).1 := by
  induction l generalizing t with
  | nil => exact h
  | cons x l ih =>
    dsimp only [State.newtReadWords]
    exact ih h.afterNewtCheck

theorem State.Keeps.newtFabRead {d n off len : Nat} (h : s.Keeps p t) : s.Keeps p (t.newtFabRead d n off len).1 :=
  h.newtReadWords.newtRaise

theorem State.Keeps.newtWriteWord {d n off en data j : Nat} (h : s.Keeps p t) : s.Keeps p (t.newtWriteWord d n off en data j).1 := by
  dsimp only [State.newtWriteWord]
  simp only [apply_ite Prod.fst]
  exact .ite h (.ite h.store.clearErr h.afterNewtCheck.store.clearErr)

theorem State.Keeps.newtWriteWords {d n j : Nat} {l : List Nat} {en data : Nat} (h : s.Keeps p t) : s.Keeps p (t.newtWriteWords d n
    j l en data).1 := by
  induction l generalizing t en data with
  | nil => exact h
  | cons x l ih =>
    dsimp only [State.newtWriteWords]
    exact ih h.newtWriteWord

theorem State.Keeps.newtFabWrite {d n off len data : Nat} (h : s.Keeps p t) : s.Keeps p (t.newtFabWrite d n off len data).1 := by
  dsimp only [State.newtFabWrite]
  simp only [apply_ite Prod.fst]
  exact .ite h.newtRaise h.newtWriteWords.newtRaise

/-! ### Machine/Fabric -/

theorem State.Keeps.reply {data : Nat} {err : Bool} (h : s.Keeps p t) : s.Keeps p (t.reply data err) := h.update

theorem State.Keeps.logDecode {r : FabReq} {d cause : Nat} (h : s.Keeps p t) : s.Keeps p (t.logDecode r d cause) :=
  .reply (.fault (.ite h.put.put.put.put.put.put.put.put.put h.incSat))

theorem State.Keeps.logPerm {r : FabReq} {q : Place} {cause : Nat} (h : s.Keeps p t) : s.Keeps p (t.logPerm r q cause) :=
  .reply (.fault (.ite h.put.put.put.put.put.put.put.put.put h.incSat))

theorem State.Keeps.fabTarget {r : FabReq} (h : s.Keeps p t) : s.Keeps p (t.fabTarget r).1 := by
  dsimp only [State.fabTarget]
  simp only [apply_ite Prod.fst]
  exact .ite h.logPerm (.ite h.logDecode (.ite h.logDecode (.ite h.logPerm h)))

theorem State.Keeps.takeFlits {r : FabReq} (h : s.Keeps p t) : s.Keeps p (t.takeFlits r) := h.update.each fun _ _ k => k.put

theorem State.Keeps.fabFar {r : FabReq} (h : s.Keeps p t) : s.Keeps p (t.fabFar r).1 := by
  dsimp only [State.fabFar]
  simp only [apply_ite Prod.fst]
  exact .ite h.fabTarget.takeFlits h.fabTarget

theorem State.Keeps.fabCheck {r : FabReq} (h : s.Keeps p t) : s.Keeps p (t.fabCheck r).1 := by
  dsimp only [State.fabCheck]
  simp only [apply_ite Prod.fst]
  exact .ite (.ite h.fabTarget h.reply) (.ite h.logDecode (.ite (.ite h.logDecode (.ite h h.logDecode)) (.ite h.logDecode
    h.fabFar)))

theorem State.Keeps.granted {r : FabReq} (h : s.Keeps p t) : s.Keeps p (t.granted r) := h.when fun _ k => k.each fun _ _ l => l.put
theorem State.Keeps.fabEnter {r : FabReq} (h : s.Keeps p t) : s.Keeps p (t.fabEnter r).1 := h.granted.fabCheck

theorem State.Keeps.memAccess {r : FabReq} {q : Place} (h : s.Keeps p t) : s.Keeps p (t.memAccess r q) := by
  dsimp only [State.memAccess]
  split
  · exact .ite h.bankWriteBytes.reply h.bankReadBytes.reply
  · exact .ite h.newtFabWrite.reply h.newtFabRead.reply
  · exact .ite h.store.reply h.reply
  · exact h.reply

theorem State.Keeps.overLinks {r : FabReq} {f : FabReq → State → State} (h : s.Keeps p t)
    (hf : ∀ q u, s.Keeps p u → s.Keeps p (f q u)) : s.Keeps p (t.overLinks r f) := by
  dsimp only [State.overLinks]
  exact .ite (hf _ _ h.takeFlits) (.reply (hf _ _ h.takeFlits))

theorem State.Keeps.sramEngineRead {d port master a n : Nat} (h : s.Keeps p t) : s.Keeps p (t.sramEngineRead d port master a n).1 := by
  dsimp only [State.sramEngineRead]
  simp only [apply_ite Prod.fst]
  exact .ite h.bankReadBytes h

theorem State.Keeps.fabMem {r : FabReq} (h : s.Keeps p t) : s.Keeps p (t.fabMem r) := by
  have k := h.fabEnter (r := r)
  unfold State.fabMem
  generalize t.fabEnter r = q at k ⊢
  obtain ⟨u, _ | _ | _⟩ := q
  · exact k
  · exact k.overLinks fun _ _ k => k.memAccess
  · exact k.reply

theorem State.Keeps.post {d q target flags dom also : Nat} (h : s.Keeps p t) : s.Keeps p (t.post d q target flags dom also) :=
  .ite h.granted.logDecode (.ite (.ite (.ite h.granted.remoteReq h.granted.logDecode) h.granted.logDecode) (.ite h.granted.logDecode
    (.ite h.granted.logDecode (.ite h.granted.logPerm h.granted.send))))

theorem execFabParkApply_keeps {d target : Nat} (h : s.Keeps p t) : Result.Keeps s p (execFabParkApply d target t) :=
  .next (h.when fun _ k => k.put.put)

theorem State.Keeps.linkState {d l v : Nat} (h : s.Keeps p t) : s.Keeps p (t.linkState d l v) := h.put.put

theorem State.Keeps.linkBoth {d l v : Nat} (h : s.Keeps p t) : s.Keeps p (t.linkBoth d l v) := by
  dsimp only [State.linkBoth]
  split
  · exact h
  · exact h.linkState.linkState

theorem State.Keeps.linkFail {d l : Nat} {holds : Bool} (h : s.Keeps p t) : s.Keeps p (t.linkFail d l holds) := by
  dsimp only [State.linkFail]
  split
  · exact h
  · exact h.condSet.condSet

theorem State.Keeps.loseMsg {m : Msg} (h : s.Keeps p t) : s.Keeps p (t.loseMsg m) := by
  dsimp only [State.loseMsg]
  split
  · exact h.logDecode
  · exact h

theorem State.Keeps.loseMsgs {d l : Nat} {lost : List Msg} (h : s.Keeps p t) : s.Keeps p (t.loseMsgs d l lost) :=
  .raises (h.each fun _ _ k => k.arrived.loseMsg)

theorem State.Keeps.trainLink {d l : Nat} {lost : List Msg} (h : s.Keeps p t) : s.Keeps p (t.trainLink d l lost) := by
  dsimp only [State.trainLink]
  split
  · exact h
  · exact h.when fun _ k => k.loseMsgs.linkFail.linkBoth.put.put.put.put

theorem execLinkRetrain_keeps {d l : Nat} {lost : List Msg} (h : s.Keeps p t) : Result.Keeps s p (execLinkRetrain d l lost t) :=
  .next (h.when fun _ k => k.trainLink)

theorem execLinkTrainingDone_keeps {d l cyc : Nat} (h : s.Keeps p t) : Result.Keeps s p (execLinkTrainingDone d l cyc t) := by
  dsimp only [execLinkTrainingDone]
  refine .next ?_
  split
  · exact h
  · exact h.when fun _ k => .ite k.put.put.put.put.put.put.linkBoth (.ite k.put.put.put.put.put.put
      k.put.put.put.put.put.put.linkBoth.linkFail)

theorem State.Keeps.spoil {m : Msg} {wrong : Nat} (h : s.Keeps p t) : s.Keeps p (t.spoil m wrong) := by
  dsimp only [State.spoil]
  split
  · exact h.update
  · exact h.update.drawn
  · exact h

theorem execFlitReceipt_keeps {d l : Nat} {isData : Bool} {masks : List Nat} {msg : List Msg} (h : s.Keeps p t) : Result.Keeps s p
    (execFlitReceipt d l isData masks msg t) :=
  .next (h.when fun _ _ => .ite (.ite (.each (.raises (.when (.when (h.when fun _ l => l.dec) fun _ l => l.incSat) fun _ l =>
    l.incSat)) fun _ _ l => l.arrived) (.raises (.when (.when (h.when fun _ l => l.dec) fun _ l => l.incSat) fun _ l => l.incSat)))
    (.ite (.when (.raises (.when (.when (h.when fun _ l => l.dec) fun _ l => l.incSat) fun _ l => l.incSat)) fun _ l => l.each fun _
    _ m => m.spoil) (.inc (.when (.raises (.when (.when (h.when fun _ l => l.dec) fun _ l => l.incSat) fun _ l => l.incSat)) fun _ l
    => l.update))))

/-! ### Machine/Dma -/

theorem State.Keeps.readBeats {r : FabReq} {i n : Nat} (h : s.Keeps p t) : s.Keeps p (t.readBeats r i n).st := by
  induction n generalizing t i with
  | zero => exact h
  | succ n ih =>
    dsimp only [State.readBeats]
    exact ih h.memAccess

theorem State.Keeps.writeBeats {r : FabReq} {i : Nat} {l : List Nat} (h : s.Keeps p t) : s.Keeps p (t.writeBeats r i l).st := by
  induction l generalizing t i with
  | nil => exact h
  | cons x l ih =>
    dsimp only [State.writeBeats]
    exact ih h.memAccess

theorem State.Keeps.burstRead {r : FabReq} {far : List (Nat × Bool)} (h : s.Keeps p t) : s.Keeps p (t.burstRead r far).1.st := by
  have k := h.fabEnter (r := r)
  unfold State.burstRead
  generalize t.fabEnter r = q at k ⊢
  obtain ⟨u, _ | _ | _⟩ := q
  · exact k
  · exact k.takeFlits.readBeats
  · exact k.remoteReq

theorem State.Keeps.burstWrite {r : FabReq} {beats : List Nat} {far : List (Nat × Bool)} (h : s.Keeps p t) :
    s.Keeps p (t.burstWrite r beats far).1.st := by
  have k := h.fabEnter (r := r)
  unfold State.burstWrite
  generalize t.fabEnter r = q at k ⊢
  obtain ⟨u, _ | _ | _⟩ := q
  · exact k
  · exact k.takeFlits.writeBeats
  · exact k.remoteReq

theorem State.Keeps.dmaFail {d e addr : Nat} (h : s.Keeps p t) : s.Keeps p (t.dmaFail d e addr) := h.put.put

theorem State.Keeps.dmaNext {d e : Nat} (h : s.Keeps p t) : s.Keeps p (t.dmaNext d e) := by
  dsimp only [State.dmaNext]
  split
  · exact h.put.put
  · exact h.dec.update.dmaBegin

theorem execDmaStart_keeps {d e desc cls : Nat} (h : s.Keeps p t) : Result.Keeps s p (execDmaStart d e desc cls t) :=
  .next (h.when fun _ k => k.dmaKick)

theorem execDmaDescriptorRead_keeps {d e : Nat} (h : s.Keeps p t) : Result.Keeps s p (execDmaDescriptorRead d e t) := by
  dsimp only [execDmaDescriptorRead]
  refine .next (h.when fun _ k => ?_)
  split
  · exact k.burstRead.dmaFail
  · exact .ite (.dmaFail (k.burstRead.each fun _ _ k => k.put)) (.put (.put (k.burstRead.each fun _ _ k => k.put)))

theorem State.Keeps.dmaMove {d e : Nat} {far : List (Nat × Bool)} {fuel a n : Nat} (h : s.Keeps p t) : s.Keeps p (t.dmaMove d e far
    fuel a n) := by
  induction fuel generalizing t far a n with
  | zero => exact h
  | succ n ih =>
    dsimp only [State.dmaMove]
    refine .ite h ?_
    split
    · exact h.burstRead.dmaFail
    · split
      · exact h.burstRead.burstWrite.dmaFail
      · exact ih h.burstRead.burstWrite

theorem State.Keeps.dmaFinish {d e : Nat} (h : s.Keeps p t) : s.Keeps p (t.dmaFinish d e) :=
  .ite (.put (.put (.put (h.when fun _ k => k.post)))) (.dmaNext (h.when fun _ k => k.post))

theorem execDmaDescriptorComplete_keeps {d e : Nat} {far : List (Nat × Bool)} (h : s.Keeps p t) : Result.Keeps s p
    (execDmaDescriptorComplete d e far t) := .next (h.when fun _ k => .ite k.dmaMove k.dmaMove.dmaFinish)

theorem execDmaError_keeps {d e : Nat} (h : s.Keeps p t) : Result.Keeps s p (execDmaError d e t) :=
  .next (h.when fun _ k => .dmaNext (.fault (.put (k.when fun _ l => l.put.put))))

theorem State.Keeps.tornAt {r : FabReq} {d : Nat} (h : s.Keeps p t) : s.Keeps p (t.tornAt r d) := h.incSat.fault

theorem State.Keeps.torn {r : FabReq} {len written : Nat} (h : s.Keeps p t) : s.Keeps p (t.torn r len written) := by
  dsimp only [State.torn]
  split
  · exact h.tornAt.tornBurst
  · exact h.tornAt
  · exact h.tornAt
  · exact .ite h.tornAt h.tornAt

theorem State.Keeps.truncate {r : FabReq} {len : Nat} {beats : List Nat} (h : s.Keeps p t) : s.Keeps p (t.truncate r len beats) :=
  h.when fun _ k => .torn (.ite k k.fabMem)

theorem State.Keeps.dmaDrop {d e : Nat} (h : s.Keeps p t) : s.Keeps p (t.dmaDrop d e) := h.put.put.put.update

theorem execDmaAbort_keeps {d e moved len written : Nat} {far : List (Nat × Bool)} (h : s.Keeps p t) : Result.Keeps s p
    (execDmaAbort d e moved len written far t) :=
  .next (h.when fun _ k => .ite (.dmaDrop (k.dmaMove.when fun _ l => l.torn)) k.dmaDrop)

theorem execCroakEntryWrite_keeps {d c : Nat} {readout : Bool} (h : s.Keeps p t) : Result.Keeps s p (execCroakEntryWrite d c readout
    t) := by
  dsimp only [execCroakEntryWrite]
  refine .next (h.when fun _ k => ?_)
  split
  · exact k
  · exact .ite k.update (k.update.fabMem.when fun _ k => k.incSat.raises)

/-! ### Machine/Chorus -/

theorem State.Keeps.chorusRead {d a n : Nat} (h : s.Keeps p t) : s.Keeps p (t.chorusRead d a n).1 := h.bankReadBytes

theorem State.Keeps.chorusBlocks {d B : Nat} {l : List Nat} (h : s.Keeps p t) : s.Keeps p (t.chorusBlocks d B l).1 := by
  induction l generalizing t with
  | nil => exact h
  | cons x l ih =>
    dsimp only [State.chorusBlocks]
    exact ih h.chorusRead

theorem State.Keeps.addTerms {d k : Nat} {l : List Term} (h : s.Keeps p t) : s.Keeps p (t.addTerms d k l) :=
  h.each fun _ _ k => k.when fun _ l => l.put

theorem State.Keeps.addSamples {d k : Nat} {l : List (List Term)} (h : s.Keeps p t) : s.Keeps p (t.addSamples d k l) := by
  induction l generalizing t k with
  | nil => exact h
  | cons x l ih =>
    dsimp only [State.addSamples]
    exact ih h.addTerms

theorem State.Keeps.runXp {d D E B copy x : Nat} {l : RunLog} (h : s.Keeps p t) : s.Keeps p (t.runXp d D E B copy x l).1 := by
  dsimp only [State.runXp]
  simp only [apply_ite Prod.fst]
  exact .ite h (.ite h.chorusRead.chorusRead (.ite h.chorusRead.chorusRead (.bankWriteBytes (.each
    (h.chorusRead.chorusRead.chorusBlocks.addSamples.each fun _ _ k => k.when fun _ l => l.inc) fun _ _ k => .when (k.when fun _ l
    => l.put) fun _ l => l.put))))

theorem State.Keeps.runXps {d D E B copy n x : Nat} {l : RunLog} (h : s.Keeps p t) : s.Keeps p (t.runXps d D E B copy n x l).1 := by
  induction n generalizing t x l with
  | zero => exact h
  | succ n ih =>
    dsimp only [State.runXps]
    exact ih h.runXp

theorem State.Keeps.runFaults {d g : Nat} {l : RunLog} (h : s.Keeps p t) : s.Keeps p (t.runFaults d g l) :=
  .each (.each (h.incSat.incSat.incSat.each fun _ _ k => k.fault) fun _ _ k => k.fault) fun _ _ k => k.fault

theorem State.Keeps.reduceSet {d D b x : Nat} {incomplete : Bool} (h : s.Keeps p t) : s.Keeps p (t.reduceSet d D b x incomplete) :=
  .raises (.update (.when (h.put.when fun _ k => k.put.incSat) fun _ k => k.put.incSat))

theorem State.Keeps.discardParts {d b n : Nat} (h : s.Keeps p t) : s.Keeps p (t.discardParts d b n) :=
  h.incSat.each fun _ _ k => k.fault

theorem State.Keeps.takeSet {d D b x k : Nat} (h : s.Keeps p t) : s.Keeps p (t.takeSet d D b x k) :=
  .each (.put (.put (.put (.put (h.when fun _ k => k.discardParts))))) fun _ _ k => k.put

theorem State.Keeps.dropPartial {d b : Nat} {late : Bool} (h : s.Keeps p t) : s.Keeps p (t.dropPartial d b late) :=
  .discardParts (h.when fun _ k => k.put)

theorem State.Keeps.addSums {d x i : Nat} {l : List Nat} (h : s.Keeps p t) : s.Keeps p (t.addSums d x i l) := by
  induction l generalizing t i with
  | nil => exact h
  | cons x l ih =>
    dsimp only [State.addSums]
    exact ih h.put

theorem State.Keeps.joinSet {d D b k : Nat} {sums : List Nat} {terms : Nat} {sat nan : Bool} (h : s.Keeps p t) : s.Keeps p
    (t.joinSet d D b k sums terms sat nan) :=
  .when (.when (.when (h.addSums.inc.incSat.when fun _ k => k.put) fun _ k => k.put) fun _ k => k.put) fun _ k => k.reduceSet

theorem State.Keeps.partialIn {d D b k : Nat} {sums : List Nat} {terms : Nat} {sat nan : Bool} (h : s.Keeps p t) : s.Keeps p
    (t.partialIn d D b k sums terms sat nan) :=
  .ite h.dropPartial (.ite h.dropPartial (.ite h.joinSet (.joinSet (.takeSet (h.when fun _ k => k.reduceSet)))))

theorem State.Keeps.writeBlock {d fuel a : Nat} {data : List Nat} (h : s.Keeps p t) : s.Keeps p (t.writeBlock d fuel a data) := by
  induction fuel generalizing t a data with
  | zero => exact h
  | succ n ih =>
    dsimp only [State.writeBlock]
    exact .ite h (ih h.fabMem)

theorem State.Keeps.finishBlock {d b k : Nat} {data : List Nat} (h : s.Keeps p t) : s.Keeps p (t.finishBlock d b k data) :=
  .when (h.writeBlock.put.when fun _ k => k.post) fun _ k => k.chorusKick

theorem State.Keeps.releaseBus {d D b : Nat} (h : s.Keeps p t) : s.Keeps p (t.releaseBus d D b) :=
  .ite (.ite h.put.partialIn h.put.msgGranted.send) (h.put.when fun _ k => k.msgGranted.put.birayFrom)

theorem State.Keeps.releaseAll {d D : Nat} {stage : Option Nat} (h : s.Keeps p t) : s.Keeps p (t.releaseAll d D stage) :=
  h.each fun _ _ k => k.when fun _ l => l.releaseBus

theorem State.Keeps.orderGo {d D : Nat} (h : s.Keeps p t) : s.Keeps p (t.orderGo d D) :=
  h.releaseAll.each fun _ _ k => .when (.ite k k.takeSet) fun _ l => l.reduceSet

theorem execChorusKick_keeps {d g : Nat} (h : s.Keeps p t) : Result.Keeps s p (execChorusKick d g t) :=
  .next (h.when fun _ k => k.chorusKick)

theorem execGroupRunStart_keeps {d : Nat} (h : s.Keeps p t) : Result.Keeps s p (execGroupRunStart d t) := by
  dsimp only [execGroupRunStart]
  refine .next (h.when fun _ k => ?_)
  split
  · exact k
  · exact k.update.put.put.put

theorem execGroupRunEnd_keeps {d : Nat} (h : s.Keeps p t) : Result.Keeps s p (execGroupRunEnd d t) :=
  .next (h.when fun _ k => k.runXps.runFaults.inc.put.put.each fun _ _ l => .put (l.when fun _ m => m.orderGo))

theorem execPartialRelease_keeps {d D stage : Nat} (h : s.Keeps p t) : Result.Keeps s p (execPartialRelease d D stage t) :=
  .next (h.when fun _ k => k.releaseAll)

theorem execPartialArrival_keeps {d b D k : Nat} {sums : List Nat} {terms : Nat} {sat nan : Bool} (h : s.Keeps p t) : Result.Keeps s
    p (execPartialArrival d b D k sums terms sat nan t) := .next (h.receive fun _ _ k => k.partialIn)

theorem execBusBlockComplete_keeps {d b k : Nat} (h : s.Keeps p t) : Result.Keeps s p (execBusBlockComplete d b k t) := by
  dsimp only [execBusBlockComplete]
  refine .next (h.when fun _ k => ?_)
  split
  · exact k
  · exact k.update.finishBlock

theorem execReleaseOrderReceipt_keeps {d D k : Nat} (h : s.Keeps p t) : Result.Keeps s p (execReleaseOrderReceipt d D k t) :=
  .next (h.receive fun _ _ k => k.when fun _ l => .ite (.put (.raises (.incSat (.update (l.each fun _ _ m => m.put.put)))))
    (.orderGo (.raises (.incSat (.update (l.each fun _ _ m => m.put.put))))))

theorem State.Keeps.chorusEpochStart {d D k : Nat} (h : s.Keeps p t) : s.Keeps p (t.chorusEpochStart d D k) := by
  dsimp only [State.chorusEpochStart]
  refine .each (.each (.filterCells (.each (.each h.update fun _ _ k => ?_) fun _ _ k => ?_)) fun _ _ k => ?_) fun _ _ k => ?_
  · exact k.put.put.put.put
  · exact k.when fun _ l => l.groupReady
  · exact k.put.put.put.put.put
  · exact .ite k.put.takeSet.put.finishBlock (k.put.when fun _ l => l.reduceSet)

/-! ### Machine/Mdll -/

theorem State.Keeps.mdllEnd {n : FaultName} {d : Nat} (h : s.Keeps p t) : s.Keeps p (t.mdllEnd n d) := h.when fun _ k => k.condEnd
theorem State.Keeps.mdllOut {d v : Nat} (h : s.Keeps p t) : s.Keeps p (t.mdllOut d v) := h.put
theorem State.Keeps.mdllUnbypass {d v : Nat} (h : s.Keeps p t) : s.Keeps p (t.mdllUnbypass d v) := h.mdllOut.mdllEnd
theorem State.Keeps.mdllBypass {d : Nat} (h : s.Keeps p t) : s.Keeps p (t.mdllBypass d) := .ite h h.mdllOut.put.condBegin
theorem State.Keeps.mdllAct {d lolact : Nat} (h : s.Keeps p t) : s.Keeps p (t.mdllAct d lolact) := .ite h.mdllBypass h.mdllUnbypass
theorem State.Keeps.mdllStart {d after : Nat} (h : s.Keeps p t) : s.Keeps p (t.mdllStart d after) := h.put.put.put.put

theorem State.Keeps.linksDown {d : Nat} {lost : List (Nat × Msg)} (h : s.Keeps p t) : s.Keeps p (t.linksDown d lost) :=
  h.each fun _ _ k => k.loseMsgs.linkFail.linkBoth

theorem State.Keeps.linksTrain {d : Nat} (h : s.Keeps p t) : s.Keeps p (t.linksTrain d) := by
  dsimp only [State.linksTrain]
  refine h.when fun _ k => k.each fun _ _ l => ?_
  split
  · exact l
  · exact l.when fun _ k => k.trainLink

theorem execMdllRelock_keeps {d : Nat} {lost : List (Nat × Msg)} (h : s.Keeps p t) : Result.Keeps s p (execMdllRelock d lost t) :=
  .next (h.when fun _ k => k.mdllAct.linksDown.mdllStart)

theorem execMdllSearchEnd_keeps {d band limit : Nat} (h : s.Keeps p t) : Result.Keeps s p (execMdllSearchEnd d band limit t) :=
  .next (h.when fun _ k => .when (k.put.incSat.when fun _ l => l.put.fault) fun _ l => l.put)

theorem execMdllLol_keeps {d : Nat} {lost : List (Nat × Msg)} (h : s.Keeps p t) : Result.Keeps s p (execMdllLol d lost t) :=
  .next (h.when fun _ k => k.put.put.signal.mdllAct.linksDown.mdllStart)

theorem execMdllRefloss_keeps {d : Nat} {lost : List (Nat × Msg)} (h : s.Keeps p t) : Result.Keeps s p (execMdllRefloss d lost t) :=
  .next (h.when fun _ k => k.put.put.put.signal.mdllUnbypass.linksDown.put.put)

theorem execRefclkReturn_keeps {d : Nat} (h : s.Keeps p t) : Result.Keeps s p (execRefclkReturn d t) :=
  .next (h.when fun _ k => k.put.mdllEnd.mdllStart.when fun _ l => l.mdllBypass)

theorem State.Keeps.stallTick {d : Nat} (h : s.Keeps p t) : s.Keeps p (t.stallTick d) :=
  h.when fun _ k => k.incSat.when fun _ l => l.inc

/-! ### Machine/FaultCmd -/

theorem execFltStatusAck_keeps {d set : Nat} {raise expiry : Bool} (h : s.Keeps p t) : Result.Keeps s p (execFltStatusAck d set
    raise expiry t) := .next (h.when fun _ k => k.ackStatus)

theorem execAck2_keeps {d set : Nat} {raise : Bool} (h : s.Keeps p t) : Result.Keeps s p (execAck2 d set raise t) :=
  .next (h.when fun _ k => k.ackL2)

theorem execClr3_keeps {d set : Nat} (h : s.Keeps p t) : Result.Keeps s p (execClr3 d set t) := .next (h.when fun _ k => k.clearL3)

theorem execGraceT1Expiry_keeps {d set : Nat} (h : s.Keeps p t) : Result.Keeps s p (execGraceT1Expiry d set t) :=
  .next (h.when fun _ k => k.enterL2)

theorem execGraceT2Expiry_keeps {d set : Nat} (h : s.Keeps p t) : Result.Keeps s p (execGraceT2Expiry d set t) :=
  .next (h.when fun _ k => k.put)

theorem execGillL2Check_keeps {d set : Nat} (h : s.Keeps p t) : Result.Keeps s p (execGillL2Check d set t) :=
  .next (h.when fun _ k => k.ackL2)

theorem State.Keeps.thermRead {d sensor tj : Nat} (h : s.Keeps p t) : s.Keeps p (t.thermRead d sensor tj) :=
  h.put.put.condEnd.when fun _ k => k.put

theorem State.Keeps.thermLow {n : FaultName} {d sensor tj limit : Nat} (h : s.Keeps p t) : s.Keeps p (t.thermLow n d sensor tj
    limit) := .ite h.condEnd h

theorem State.Keeps.thermEnds {d sensor tj : Nat} (h : s.Keeps p t) : s.Keeps p (t.thermEnds d sensor tj) := h.thermLow.thermLow

theorem State.Keeps.thermLevels {d sensor tj : Nat} {more : List Raise} (h : s.Keeps p t) : s.Keeps p (t.thermLevels d sensor tj
    more) := h.thermEnds.signal

theorem State.Keeps.thermJudge {d : Nat} (h : s.Keeps p t) : s.Keeps p (t.thermJudge d) := .signal (h.each fun _ _ k => k.thermEnds)

theorem State.Keeps.thermTrip {d sensor tj : Nat} {lost : List (Nat × Msg)} (h : s.Keeps p t) : s.Keeps p (t.thermTrip d sensor tj
    lost) := h.thermRead.put.put.mdllUnbypass.linksDown.thermLevels.put

theorem execThermalThreshold_keeps {d sensor tj : Nat} {lost : List (Nat × Msg)} (h : s.Keeps p t) : Result.Keeps s p
    (execThermalThreshold d sensor tj lost t) := .next (h.when fun _ k => .ite k.thermTrip k.thermRead.thermLevels)

theorem execThermTrip_keeps {d sensor tj : Nat} {lost : List (Nat × Msg)} (h : s.Keeps p t) : Result.Keeps s p (execThermTrip d
    sensor tj lost t) := .next (h.when fun _ k => k.thermTrip)

theorem execSensorSelfCheckFailure_keeps {d sensor : Nat} (h : s.Keeps p t) : Result.Keeps s p (execSensorSelfCheckFailure d sensor
    t) := .next (h.when fun _ k => k.put.condBegin)

/-! ### Machine/Mailbox -/

theorem State.Keeps.msixSend {v : Nat} (h : s.Keeps p t) : s.Keeps p (t.msixSend v) := .ite h (.ite h.put h.send)
theorem State.Keeps.hostEvent {v : Nat} (h : s.Keeps p t) : s.Keeps p (t.hostEvent v) := .put (h.when fun _ k => k.msixSend)

theorem execHostEvtWrite_keeps {evt : Nat} (h : s.Keeps p t) : Result.Keeps s p (execHostEvtWrite evt t) :=
  .next (h.when fun _ k => k.each fun _ _ l => l.hostEvent)

theorem execHostIpendClear_keeps {mask events : Nat} (h : s.Keeps p t) : Result.Keeps s p (execHostIpendClear mask events t) :=
  .next (h.when fun _ k => k.put.each fun _ _ l => l.hostEvent)

theorem State.Keeps.msixRelease {v : Nat} (h : s.Keeps p t) : s.Keeps p (t.msixRelease v) :=
  h.when fun _ k => k.put.when fun _ l => l.msixSend

theorem execMsixUnmask_keeps {vector : Nat} (h : s.Keeps p t) : Result.Keeps s p (execMsixUnmask vector t) :=
  .next (h.when fun _ k => .ite (k.put.each fun _ _ l => l.msixRelease) k.put.msixRelease)

theorem State.Keeps.mbxStat {r : Nat} (h : s.Keeps p t) : s.Keeps p (t.mbxStat r) := h.put
theorem State.Keeps.mbxWrong {r : Nat} (h : s.Keeps p t) : s.Keeps p (t.mbxWrong r) := h.put.fault.reply
theorem State.Keeps.mbxBad {r : Nat} (h : s.Keeps p t) : s.Keeps p (t.mbxBad r) := h.put.fault.reply
theorem State.Keeps.mbxBell {r : Nat} (h : s.Keeps p t) : s.Keeps p (t.mbxBell r) := .ite h.put h.hostEvent

theorem State.Keeps.mbxPiWrite {r idx cls : Nat} {tie : Bool} (h : s.Keeps p t) : s.Keeps p (t.mbxPiWrite r idx cls tie) :=
  .ite h.mbxWrong (.ite h.mbxBad (h.put.put.mbxStat.reply.when fun _ k => k.mbxBell))

theorem State.Keeps.mbxCiWrite {r idx cls : Nat} {tie : Bool} (h : s.Keeps p t) : s.Keeps p (t.mbxCiWrite r idx cls tie) :=
  .ite h.mbxWrong (.ite h.mbxBad h.put.put.mbxStat.reply)

theorem execMbxPiWrite_keeps {ring idx cls : Nat} {tie : Bool} (h : s.Keeps p t) : Result.Keeps s p (execMbxPiWrite ring idx cls tie
    t) := .next (h.when fun _ k => k.mbxPiWrite)

/-! ### Machine/CsfRing -/

theorem State.Keeps.publish {q op seq txid status : Nat} {payload : List Nat} (h : s.Keeps p t) : s.Keeps p (t.publish q op seq txid
    status payload) := h.storeBytes.mbxPiWrite

theorem State.Keeps.turned {q : Nat} (h : s.Keeps p t) : s.Keeps p (t.turned q) := h.put

theorem State.Keeps.respond {q status txid : Nat} {payload : List Nat} (h : s.Keeps p t) : s.Keeps p (t.respond q status txid
    payload) := h.publish.mbxCiWrite

theorem CsfMsg.refuse_keeps {m : CsfMsg} {status : Nat} (h : s.Keeps p t) : s.Keeps p (CsfMsg.refuse m t status).st := h
theorem CsfMsg.ok_keeps {m : CsfMsg} {payload : List Nat} (h : s.Keeps p t) : s.Keeps p (CsfMsg.ok m t payload).st := h

theorem State.Keeps.serve {i op : Nat} {layout : CsfMsg → Bool} {act : CsfMsg → State → CsfReply} (h : s.Keeps p t)
    (ha : ∀ m u, s.Keeps p u → s.Keeps p (act m u).st) : s.Keeps p (t.serve i op layout act) := by
  dsimp only [State.serve]
  exact .ite h (.ite h.turned.respond (.ite h.turned.respond (.ite (ha _ _ h.turned.store) (.respond (ha _ _ h.turned.store)))))

theorem State.Keeps.eventSend {q code txid : Nat} {payload : List Nat} (h : s.Keeps p t) : s.Keeps p (t.eventSend q code txid
    payload) := h.publish.inc

theorem State.Keeps.eventFlush {q n : Nat} (h : s.Keeps p t) : s.Keeps p (t.eventFlush q n) := by
  induction n generalizing t with
  | zero => exact h
  | succ n ih =>
    dsimp only [State.eventFlush]
    split
    · exact h
    · exact .ite h (.ite (ih h.eventSend.put) (ih h.update.eventSend))

theorem State.Keeps.deliver {q : Nat} (h : s.Keeps p t) : s.Keeps p (t.deliver q) := h.when fun _ k => k.eventFlush

theorem State.Keeps.eventQueue {q code txid : Nat} {payload : List Nat} (h : s.Keeps p t) : s.Keeps p (t.eventQueue q code txid
    payload) := by
  dsimp only [State.eventQueue]
  refine .deliver (.update ?_)
  split
  · exact h
  · exact .ite h.inc.update h

theorem State.Keeps.csfEvent {code txid : Nat} {payload : List Nat} (h : s.Keeps p t) : s.Keeps p (t.csfEvent code txid payload) :=
  h.when fun _ k => k.each fun _ _ l => l.eventQueue

theorem execMbxCiWrite_keeps {ring idx cls : Nat} {tie : Bool} (h : s.Keeps p t) : Result.Keeps s p (execMbxCiWrite ring idx cls tie
    t) := .next (h.when fun _ k => k.mbxCiWrite.when fun _ l => l.deliver)

theorem State.Keeps.startGo {q : CsfStart} (h : s.Keeps p t) : s.Keeps p (t.startGo q) :=
  .ite h.update.respond (.ite (.respond (.update (h.each fun _ _ k => k.enableEpochs))) (.update (h.each fun _ _ k =>
    k.enableEpochs)))

theorem State.Keeps.startsGo (h : s.Keeps p t) : s.Keeps p t.startsGo := h.when fun _ k => k.each fun _ _ l => l.startGo

/-! ### Machine/CsfFault -/

theorem State.Keeps.faultLogged {l : List FaultRec} (h : s.Keeps p t) : s.Keeps p (t.faultLogged l) := h.update
theorem State.Keeps.clkEvent (h : s.Keeps p t) : s.Keeps p t.clkEvent := h.csfEvent
theorem State.Keeps.pairEvent (h : s.Keeps p t) : s.Keeps p t.pairEvent := .ite (.csfEvent (h.when fun _ k => k.put)) h.csfEvent
theorem State.Keeps.setRead {d x : Nat} (h : s.Keeps p t) : s.Keeps p (t.setRead d x) := h.firstRead.put

theorem State.Keeps.serviceSet {d x : Nat} (h : s.Keeps p t) : s.Keeps p (t.serviceSet d x) :=
  .ite h.setRead.faultLogged.put.put.put.put h.setRead.faultLogged.put.put.put.ackStatus

theorem execFaultService_keeps {d set : Nat} (h : s.Keeps p t) : Result.Keeps s p (execFaultService d set t) :=
  .next (h.when fun _ k => .when (.when (k.serviceSet.each fun _ _ l => l.csfEvent) fun _ l => l.clkEvent) fun _ l => l.pairEvent)

theorem execFaultList_keeps {pair : Nat} (h : s.Keeps p t) : Result.Keeps s p (execFaultList pair t) :=
  .next (h.serve fun _ _ k => CsfMsg.ok_keeps k)

theorem State.Keeps.setCheck {m : CsfMsg} {act : State → CsfReply} (h : s.Keeps p t)
    (ha : ∀ u, s.Keeps p u → s.Keeps p (act u).st) : s.Keeps p (t.setCheck m act).st := by
  simp only [State.setCheck, apply_ite CsfReply.st]
  exact .ite (CsfMsg.refuse_keeps h) (.ite (CsfMsg.refuse_keeps h) (ha t h))

theorem execFaultAck_keeps {pair : Nat} (h : s.Keeps p t) : Result.Keeps s p (execFaultAck pair t) :=
  .next (h.serve fun _ _ k => k.setCheck fun _ l => CsfMsg.ok_keeps l.ackStatus)

theorem execFaultInject_keeps {pair : Nat} (h : s.Keeps p t) : Result.Keeps s p (execFaultInject pair t) := by
  dsimp only [execFaultInject]
  refine .next (h.serve fun _ _ k => k.setCheck fun _ l => ?_)
  split
  · exact CsfMsg.ok_keeps l.put
  · exact CsfMsg.refuse_keeps l

theorem execFaultClear_keeps {pair : Nat} (h : s.Keeps p t) : Result.Keeps s p (execFaultClear pair t) := by
  dsimp only [execFaultClear]
  refine .next (h.when fun _ k => k.serve fun _ _ l => l.setCheck fun _ m => ?_)
  split
  · exact CsfMsg.refuse_keeps m
  · exact CsfMsg.ok_keeps (m.put.put.when fun _ k => k.clearL3)

/-! ### Machine/Axo -/

theorem State.Keeps.zeroKeys {lo n : Nat} (h : s.Keeps p t) : s.Keeps p (t.zeroKeys lo n) := h.filterMem

theorem State.Keeps.csfLost (h : s.Keeps p t) : s.Keeps p t.csfLost :=
  .each (h.update.put.put.put.put.put.zeroKeys.when fun _ k => k.put) fun _ _ k => k.put.put.put

theorem State.Keeps.zeroCarve (h : s.Keeps p t) : s.Keeps p t.zeroCarve := .raises (h.each fun _ _ k => k.zeroRange)

theorem State.Keeps.gillStore {a : Nat} {l : List Nat} (h : s.Keeps p t) : s.Keeps p (t.gillStore a l) :=
  h.each fun _ _ k => k.memAccess

theorem State.Keeps.shed (h : s.Keeps p t) : s.Keeps p t.shed :=
  h.put.put.inc.hostEvent.condEnd.condBegin.put.put.put.zeroKeys.zeroCarve.csfLost

theorem execTailShed_keeps {addr len : Nat} {beats : List Nat} (h : s.Keeps p t) : Result.Keeps s p (execTailShed addr len beats t) :=
  .next (h.when fun _ k => k.truncate.shed)

theorem execTailImageLoaded_keeps {hash : List Nat} {good : Bool} {priv carve : List Nat} (h : s.Keeps p t) : Result.Keeps s p
    (execTailImageLoaded hash good priv carve t) :=
  .next (h.when fun _ k => .ite (.condBegin (.condEnd (.put (.put (.when (k.each fun _ _ l => l.put) fun _ l =>
    l.storeBytes.gillStore))))) (.put (.when (k.each fun _ _ l => l.put) fun _ l => l.storeBytes.gillStore)))

theorem State.Keeps.csfRead {d a : Nat} (h : s.Keeps p t) : s.Keeps p (t.csfRead d a).1 := h.fabMem
theorem State.Keeps.csfWrite {d a v : Nat} (h : s.Keeps p t) : s.Keeps p (t.csfWrite d a v) := h.fabMem
theorem State.Keeps.restoreElem {d D a0 a1 : Nat} (h : s.Keeps p t) : s.Keeps p (t.restoreElem d D a0 a1) := h.csfRead.csfWrite

theorem State.Keeps.shedReplies {q n : Nat} (h : s.Keeps p t) : s.Keeps p (t.shedReplies q n) := by
  induction n generalizing t with
  | zero => exact h
  | succ n ih =>
    dsimp only [State.shedReplies]
    exact .ite h (ih h.respond)

theorem State.Keeps.csfIen (h : s.Keeps p t) : s.Keeps p t.csfIen := h.put.put.put.put
theorem State.Keeps.logRebuilt (h : s.Keeps p t) : s.Keeps p t.logRebuilt := h.each fun _ _ k => k.faultLogged.setRead
theorem State.Keeps.snapKept (h : s.Keeps p t) : s.Keeps p t.snapKept := h.put.put.put.put

theorem State.Keeps.csfStart (h : s.Keeps p t) : s.Keeps p t.csfStart :=
  .csfEvent (.put (.put (.ite (.logRebuilt (.each (h.csfIen.each fun _ _ k => k.restoreElem) fun _ _ k => k.shedReplies)) (.snapKept
    (.faultLogged (.each (h.csfIen.each fun _ _ k => k.restoreElem) fun _ _ k => k.shedReplies))))))

theorem State.Keeps.tailGrants (h : s.Keeps p t) : s.Keeps p t.tailGrants := .put (h.each fun _ _ k => k.put)
theorem State.Keeps.readyDue (h : s.Keeps p t) : s.Keeps p t.readyDue := h.when fun _ k => k.csfStart

theorem State.Keeps.release (h : s.Keeps p t) : s.Keeps p t.release :=
  .readyDue (.put (h.put.put.put.condEnd.fault.hostEvent.when fun _ k => k.tailGrants))

theorem execTailResetRelease_keeps (h : s.Keeps p t) : Result.Keeps s p (execTailResetRelease t) :=
  .next (h.when fun _ k => k.release)

theorem State.Keeps.restartTail (h : s.Keeps p t) : s.Keeps p t.restartTail := h.when fun _ k => k.put
theorem execRestartTail_keeps (h : s.Keeps p t) : Result.Keeps s p (execRestartTail t) := .next (h.when fun _ k => k.restartTail)

/-! ### Machine/Refsel -/

theorem State.Keeps.sput {f : Fld} {d i : Nat} {x : Int} (h : s.Keeps p t) : s.Keeps p (t.sput f d i x) := h.put

theorem State.Keeps.refHist {g ie : Fld} {r j : Nat} (h : s.Keeps p t) (hp : MayOweRef p) : s.Keeps p (t.refHist g ie r j) :=
  .ite h (h.put.when fun _ k => k.owe hp)

theorem State.Keeps.refSettle (h : s.Keeps (fun c => p c ∨ owedBy .REFSEL_EVENT refBlock c) t) : s.Keeps p t.refSettle := h.settle

theorem State.Keeps.refHist1 {g ie : Fld} {r : Nat} (h : s.Keeps p t) (hp : MayOweRef p) : s.Keeps p (t.refHist1 g ie r) :=
  h.refHist hp

theorem State.Keeps.dpllHist {g ie : Fld} (h : s.Keeps p t) (hp : MayOweRef p) : s.Keeps p (t.dpllHist g ie) := h.refHist hp
theorem State.Keeps.dpllLeave (h : s.Keeps p t) : s.Keeps p t.dpllLeave := h.when fun _ k => k.condEnd

theorem State.Keeps.dpllEnter {st : Nat} (h : s.Keeps p t) (hp : MayOweRef p) : s.Keeps p (t.dpllEnter st) := by
  dsimp only [State.dpllEnter]
  refine .ite h ?_
  split <;> exact h.dpllLeave.put.dpllHist hp

theorem State.Keeps.bwRefresh (h : s.Keeps p t) : s.Keeps p t.bwRefresh := h.when fun _ k => k.put
theorem State.Keeps.dpllCoast (h : s.Keeps p t) : s.Keeps p t.dpllCoast := h.when fun _ k => k.put

theorem State.Keeps.switchStart {r : Nat} (h : s.Keeps p t) (hp : MayOweRef p) : s.Keeps p (t.switchStart r) :=
  .owe (.dpllCoast (.put (.incSat (.dpllEnter (h.put.put.when fun _ k => k.put) hp)))) hp

theorem State.Keeps.selectNone (h : s.Keeps p t) (hp : MayOweRef p) : s.Keeps p t.selectNone := by
  dsimp only [State.selectNone]
  split
  · exact (h.put.dpllEnter hp).put
  · exact h.put.when fun _ k => (k.dpllEnter hp).dpllCoast
  · exact h.put.when fun _ k => ((k.dpllEnter hp).dpllCoast).oweCond hp

theorem State.Keeps.evaluate (h : s.Keeps p t) (hp : MayOweRef p) : s.Keeps p t.evaluate :=
  .ite h (.ite (h.selectNone hp) (h.when fun _ k => k.switchStart hp))

theorem State.Keeps.switchEnd {none : Bool} (h : s.Keeps p t) (hp : MayOweRef p) : s.Keeps p (t.switchEnd none) :=
  .ite (h.put.put.evaluate hp) (h.put.bwRefresh.evaluate hp)

theorem State.Keeps.refUpdates {l : List Nat} (h : s.Keeps p t) (hp : MayOweRef p) : s.Keeps p (t.refUpdates l) :=
  .ite (.each (h.each fun _ _ k => k.put.put.put) fun _ _ k => k.put) (.ite (.ite (.switchEnd (.owe (.each (h.each fun _ _ k =>
    k.put.put.put) fun _ _ k => k.put) hp) hp) (.evaluate (.owe (.each (h.each fun _ _ k => k.put.put.put) fun _ _ k => k.put) hp)
    hp)) (.evaluate (.each (h.each fun _ _ k => k.put.put.put) fun _ _ k => k.put) hp))

theorem State.Keeps.refUpdate {r : Nat} (h : s.Keeps p t) (hp : MayOweRef p) : s.Keeps p (t.refUpdate r) := h.refUpdates hp
theorem State.Keeps.refFreeze {r : Nat} (h : s.Keeps p t) : s.Keeps p (t.refFreeze r) := h.when fun _ k => k.put
theorem State.Keeps.refHoldTick {r : Nat} (h : s.Keeps p t) : s.Keeps p (t.refHoldTick r) := h.when fun _ k => k.put

theorem State.Keeps.foFlywheel {r : Nat} (h : s.Keeps p t) : s.Keeps p (t.foFlywheel r) :=
  h.each fun _ _ k => k.when fun _ l => l.put

theorem State.Keeps.refDisable {r : Nat} (h : s.Keeps p t) : s.Keeps p (t.refDisable r) :=
  .refSettle (.refUpdate (.foFlywheel (.put (.put (.put (.put (.put (.put (.put (.put (.put (h.owed.put.when fun _ k =>
    k.condEnd))))))))))) fun _ => .inr)

theorem execRefselConfigWrite_keeps {target value : Nat} (h : s.Keeps p t) : Result.Keeps s p (execRefselConfigWrite target value t) :=
  .next (h.when fun _ k => .ite (.refSettle (.evaluate (k.owed.put.refUpdate fun _ => .inr) fun _ => .inr)) (.refSettle
    (k.owed.put.put.put.evaluate fun _ => .inr)))

theorem execRefEnable_keeps {r pol rank : Nat} (h : s.Keeps p t) : Result.Keeps s p (execRefEnable r pol rank t) :=
  .next (h.when fun _ k => .ite (.refSettle (k.owed.refHist1 fun _ => .inr)) (.ite (.refSettle (.evaluate (k.owed.put.refUpdate fun
    _ => .inr) fun _ => .inr)) (.refSettle (k.owed.put.put.put.put.put.put.put.put.evaluate fun _ => .inr))))

theorem execRefQualify_keeps {r : Nat} (h : s.Keeps p t) : Result.Keeps s p (execRefQualify r t) :=
  .next (h.when fun _ k => .refSettle (k.owed.put.put.evaluate fun _ => .inr))

theorem State.Keeps.rawChange {en live ovr grej rawp rawt raw : Fld} {d i level : Nat} (h : s.Keeps p t) : s.Keeps p (t.rawChange en
    live ovr grej rawp rawt raw d i level) :=
  .ite h (.ite h.put (.ite (.put (.inc (h.put.when fun _ k => k.incSat))) (.put (.put (h.put.when fun _ k => k.incSat)))))

theorem execRefRawChange_keeps {gpio d i level : Nat} (h : s.Keeps p t) : Result.Keeps s p (execRefRawChange gpio d i level t) :=
  .next (.ite h.rawChange h.rawChange)

theorem State.Keeps.foStart {o e : Nat} (h : s.Keeps p t) : s.Keeps p (t.foStart o e) := h.put.put.put
theorem State.Keeps.foRealign {o e : Nat} (h : s.Keeps p t) : s.Keeps p (t.foRealign o e) := h.put.put

theorem State.Keeps.foMeasure {o err : Nat} (h : s.Keeps p t) (hp : MayOweRef p) : s.Keeps p (t.foMeasure o err) :=
  h.put.when fun _ k => k.put.owe hp

theorem State.Keeps.foSource {o e : Nat} {errs : List (Nat × Nat)} (h : s.Keeps p t) (hp : MayOweRef p) : s.Keeps p (t.foSource o e
    errs) := by
  dsimp only [State.foSource]
  split
  · exact h
  · exact h.foStart
  · refine .when ?_ fun _ k => k.foRealign
    split
    · exact h.put.foMeasure hp
    · exact h.put

theorem execFrameOutEnable_keeps {o pol square src : Nat} (h : s.Keeps p t) : Result.Keeps s p (execFrameOutEnable o pol square src
    t) := .next (h.when fun _ k => .ite k.put (.ite k k.put.put.put.put.put.put))

theorem execFrameOutDisable_keeps {o : Nat} (h : s.Keeps p t) : Result.Keeps s p (execFrameOutDisable o t) :=
  .next (h.when fun _ k => k.put.put)

theorem execFrameOutRealign_keeps {o write offset : Nat} (h : s.Keeps p t) : Result.Keeps s p (execFrameOutRealign o write offset t) :=
  .next (h.when fun _ k => .when (k.when fun _ l => l.put) fun _ l => l.put)

theorem execFrameOutEdge_keeps {o : Nat} (h : s.Keeps p t) : Result.Keeps s p (execFrameOutEdge o t) :=
  .next (.ite h.put (h.when fun _ k => k.put.put.put))

theorem State.Keeps.refEdges {r e : Nat} {hit : Bool} (h : s.Keeps p t) : s.Keeps p (t.refEdges r e hit) :=
  .ite h.put.put h.put.put.put

theorem State.Keeps.refHit {r : Nat} {jump : Int} (h : s.Keeps p t) (hp : MayOweRef p) : s.Keeps p (t.refHit r jump) := by
  dsimp only [State.refHit]
  exact (h.put.put.refHist1 hp).when fun _ k => k.sput

theorem State.Keeps.switchEdge {r : Nat} {phase : Int} (h : s.Keeps p t) (hp : MayOweRef p) : s.Keeps p (t.switchEdge r phase) :=
  h.when fun _ k => .ite k.sput.put (k.switchEnd hp)

theorem State.Keeps.dpllSteer {r : Nat} (h : s.Keeps p t) : s.Keeps p (t.dpllSteer r) := h.when fun _ k => k.put.drawn

theorem State.Keeps.refEdge {r e : Nat} {phase : Int} {errs : List (Nat × Nat)} (h : s.Keeps p t) (hp : MayOweRef p) : s.Keeps p
    (t.refEdge r e phase errs) :=
  .each (.when (.dpllSteer (.sput (.switchEdge (h.put.inc.refEdges.when fun _ k => k.refHit hp) hp))) fun _ k => k.put) fun _ _ k =>
    k.foSource hp

theorem State.Keeps.refInternal {r e : Nat} (h : s.Keeps p t) : s.Keeps p (t.refInternal r e) := h.put.put

theorem State.Keeps.refAccept {r : Nat} {phase : Int} {errs : List (Nat × Nat)} (h : s.Keeps p t) (hp : MayOweRef p) : s.Keeps p
    (t.refAccept r phase errs) :=
  h.when fun _ k => .ite (k.put.when fun _ l => l.refEdge hp) (.ite k.put (.ite (k.put.put.refEdge hp) k.put.put.put))

theorem State.Keeps.gpioAccept {d i : Nat} (h : s.Keeps p t) : s.Keeps p (t.gpioAccept d i) :=
  h.when fun _ k => .ite k.put (.when (.ite k.put.put.put.put.put.inc (k.put.put.put.put.put.when fun _ l => l.put.condEnd)) fun _ l
    => l.fault)

theorem execInputEdgeAccept_keeps {gpio d i phase : Nat} {errs : List (Nat × Nat)} (h : s.Keeps p t) : Result.Keeps s p
    (execInputEdgeAccept gpio d i phase errs t) := .next (.ite (.refSettle (h.owed.refAccept fun _ => .inr)) h.gpioAccept)

theorem State.Keeps.refLos {r : Nat} (h : s.Keeps p t) (hp : MayOweRef p) : s.Keeps p (t.refLos r) :=
  .refUpdate (.refFreeze (.foFlywheel (.refHist1 (h.put.when fun _ k => k.put) hp))) hp

theorem State.Keeps.refDead {r : Nat} (h : s.Keeps p t) : s.Keeps p (t.refDead r) :=
  h.when fun _ k => .refSettle (k.owed.refLos fun _ => .inr)

theorem execRefLos_keeps {r : Nat} (h : s.Keeps p t) : Result.Keeps s p (execRefLos r t) :=
  .next (h.when fun _ k => .refSettle (k.owed.refLos fun _ => .inr))

theorem execRefStuck_keeps {gpio d i : Nat} (h : s.Keeps p t) : Result.Keeps s p (execRefStuck gpio d i t) :=
  .next (.ite (h.when fun _ k => .refSettle (.refUpdate (.refFreeze (k.owed.put.refHist1 fun _ => .inr)) fun _ => .inr)) (h.when fun
    _ k => k.put.put.condBegin))

theorem State.Keeps.refJudgeRate {r : Nat} (h : s.Keeps p t) (hp : MayOweRef p) : s.Keeps p (t.refJudgeRate r) :=
  .ite ((h.put.put.refHist1 hp).refFreeze) h.put

theorem State.Keeps.refJudgeFreq {r freq : Nat} (h : s.Keeps p t) (hp : MayOweRef p) : s.Keeps p (t.refJudgeFreq r freq) :=
  .ite ((h.put.put.refHist1 hp).refFreeze) h.put.put

theorem State.Keeps.refJudgeHit {r : Nat} (h : s.Keeps p t) : s.Keeps p (t.refJudgeHit r) := .ite (.ite h.put.put h.put) h

theorem State.Keeps.refGateStart {r : Nat} (h : s.Keeps p t) (hp : MayOweRef p) : s.Keeps p (t.refGateStart r) :=
  .put (.put (.put ((h.refUpdate hp).when fun _ k => k.put.put.put)))

theorem State.Keeps.refDiscrepancy {r : Nat} {u : State} (h : s.Keeps p t) (_ : s.Keeps p u) (hp : MayOweRef p) : s.Keeps p
    (t.refDiscrepancy u r) :=
  .ite h (.ite (h.put.when fun _ k => k.put.condEnd) ((h.put.refHist1 hp).when fun _ k => (k.put.refHist1 hp).oweCond hp))

theorem State.Keeps.refCompare (h : s.Keeps p t) (hp : MayOweRef p) : s.Keeps p t.refCompare :=
  h.each fun _ _ k => k.refDiscrepancy h hp

theorem State.Keeps.refGateEnd {r freq : Nat} (h : s.Keeps p t) (hp : MayOweRef p) : s.Keeps p (t.refGateEnd r freq) :=
  h.when fun _ k => (((((k.refJudgeRate hp).refJudgeFreq hp).refJudgeHit).refCompare hp).refUpdates hp).refGateStart hp

theorem State.Keeps.gpioGateEnd {d i : Nat} (h : s.Keeps p t) : s.Keeps p (t.gpioGateEnd d i) :=
  h.when fun _ k => .put (.put (.ite k.put.put.put.condBegin (k.when fun _ l => l.put.condEnd)))

theorem execMonitorGateEnd_keeps {gpio d i freq : Nat} (h : s.Keeps p t) : Result.Keeps s p (execMonitorGateEnd gpio d i freq t) :=
  .next (.ite (.refSettle (h.owed.refGateEnd fun _ => .inr)) h.gpioGateEnd)

theorem State.Keeps.hoClear (h : s.Keeps p t) : s.Keeps p t.hoClear := h.put.put

theorem execDpllLock_keeps (h : s.Keeps p t) : Result.Keeps s p (execDpllLock t) :=
  .next (h.when fun _ k => .refSettle (.hoClear (.put (.put (k.owed.dpllEnter fun _ => .inr)))))

theorem execDpllUnlock_keeps (h : s.Keeps p t) : Result.Keeps s p (execDpllUnlock t) :=
  .next (h.when fun _ k => .refSettle (.put (k.owed.dpllEnter fun _ => .inr)))

theorem execHoldoverUpdate_keeps (h : s.Keeps p t) : Result.Keeps s p (execHoldoverUpdate t) :=
  .next (h.when fun _ k => k.put.sput.put.hoClear.when fun _ l => l.sput.put)

theorem State.Keeps.hoTick (h : s.Keeps p t) : s.Keeps p t.hoTick := h.when fun _ k => k.put.inc

theorem execXoLost_keeps (h : s.Keeps p t) : Result.Keeps s p (execXoLost t) :=
  .next (h.when fun _ k => .refSettle (.oweCond (k.owed.put.dpllHist fun _ => .inr) fun _ => .inr))

theorem execXoRestore_keeps {phase : Nat} (h : s.Keeps p t) : Result.Keeps s p (execXoRestore phase t) :=
  .next (h.when fun _ k => k.put.sput.condEnd)

theorem State.Keeps.slewTick (h : s.Keeps p t) : s.Keeps p t.slewTick := .ite h.put (.ite h.put.put h.put.put.sput)

/-! ### Machine/Ptp -/

theorem State.Keeps.phcAdvance {d : Nat} (h : s.Keeps p t) : s.Keeps p (t.phcAdvance d) :=
  .ite h.put.put (h.put.put.inc.when fun _ k => k.refInternal)

theorem State.Keeps.phcLoad {d sec ns frac : Nat} (h : s.Keeps p t) : s.Keeps p (t.phcLoad d sec ns frac) := h.put.put.put

theorem execPhcSnap_keeps {d : Nat} (h : s.Keeps p t) : Result.Keeps s p (execPhcSnap d t) :=
  .next (h.when fun _ k => k.put.put.put.put)

theorem State.Keeps.phcPend {d : Nat} (h : s.Keeps p t) : s.Keeps p (t.phcPend d) := h.put

theorem State.Keeps.phcSchedule {c : PhcChange} (h : s.Keeps p t) : s.Keeps p (t.phcSchedule c) :=
  h.each fun _ _ k => k.update.phcPend

theorem State.Keeps.setFreq {offset : Bool} {f : Int} (h : s.Keeps p t) : s.Keeps p (t.setFreq offset f) :=
  h.sput.update.phcSchedule

theorem State.Keeps.setStep {kind val sec ns : Nat} (h : s.Keeps p t) : s.Keeps p (t.setStep kind val sec ns) := h.phcSchedule
theorem State.Keeps.phcStep {c : PhcChange} (h : s.Keeps p t) : s.Keeps p (t.phcStep c) := .ite h.phcLoad h.phcLoad
theorem State.Keeps.stepReqEnd (h : s.Keeps p t) : s.Keeps p t.stepReqEnd := h.put.when fun _ k => k.condEnd
theorem State.Keeps.servoUnlock (h : s.Keeps p t) : s.Keeps p t.servoUnlock := h.put.put.refDead
theorem State.Keeps.servoLock (h : s.Keeps p t) : s.Keeps p t.servoLock := h.put.when fun _ k => k.put
theorem State.Keeps.servoLoad (h : s.Keeps p t) : s.Keeps p t.servoLoad := h.put.put
theorem State.Keeps.servoSat (h : s.Keeps p t) (hp : MayOwePtp p) : s.Keeps p t.servoSat := h.put.owe hp

theorem State.Keeps.servoJudge {theta : Int} (h : s.Keeps p t) : s.Keeps p (t.servoJudge theta) :=
  .ite (h.put.when fun _ k => k.servoLock) h.servoUnlock

theorem State.Keeps.servoMove {theta : Int} (h : s.Keeps p t) (hp : MayOwePtp p) : s.Keeps p (t.servoMove theta) :=
  .servoJudge (h.sput.setFreq.when fun _ k => k.servoSat hp)

theorem State.Keeps.stepCancel (h : s.Keeps p t) (hp : MayOwePtp p) : s.Keeps p t.stepCancel := h.stepReqEnd.put.owe hp
theorem State.Keeps.servoUnhold (h : s.Keeps p t) : s.Keeps p t.servoUnhold := h.when fun _ k => k.put.condEnd
theorem State.Keeps.stepAck (h : s.Keeps p t) : s.Keeps p t.stepAck := h.when fun _ k => k.setStep.stepReqEnd

theorem execServoOffsetWrite_keeps {theta : Nat} {ack : Bool} (h : s.Keeps p t) : Result.Keeps s p (execServoOffsetWrite theta ack
    t) :=
  .next (h.when fun _ k => .ite (.put (k.when fun _ l => l.stepAck)) (.ite (.settle (.servoMove (.when (.servoUnhold (.put
    (k.owed.when fun _ l => l.stepAck))) fun _ l => l.stepCancel fun _ => .inr) fun _ => .inr)) (.ite (.put (.servoUnhold (.put
    (k.when fun _ l => l.stepAck)))) (.condBegin (.servoUnlock (.put (.put (.servoUnhold (.put (k.when fun _ l =>
    l.stepAck))))))))))

theorem execStepAck_keeps (h : s.Keeps p t) : Result.Keeps s p (execStepAck t) := .next (h.when fun _ k => k.stepAck)
theorem execServoClr_keeps (h : s.Keeps p t) : Result.Keeps s p (execServoClr t) := .next (h.when fun _ k => k.servoLoad)

theorem execPhcSet_keeps {d : Nat} (h : s.Keeps p t) : Result.Keeps s p (execPhcSet d t) :=
  .next (h.when fun _ k => k.setStep.stepReqEnd.servoUnlock)

theorem execServoHold_keeps (h : s.Keeps p t) : Result.Keeps s p (execServoHold t) :=
  .next (h.when fun _ k => k.put.servoUnlock.condBegin)

theorem State.Keeps.servoCfgWrite {en : Nat} (h : s.Keeps p t) : s.Keeps p (t.servoCfgWrite en) :=
  .when (h.put.when fun _ k => k.put) fun _ k => k.setFreq

theorem State.Keeps.servoFbaseWrite {v : Nat} (h : s.Keeps p t) : s.Keeps p (t.servoFbaseWrite v) :=
  h.when fun _ k => k.sput.setFreq

theorem State.Keeps.tsPlan {o w : Nat} (h : s.Keeps p t) : s.Keeps p (t.tsPlan o w) := h.put.put
theorem State.Keeps.tsPulse {o : Nat} (h : s.Keeps p t) : s.Keeps p (t.tsPulse o) := .put (.put (h.when fun _ k => k.inc))
theorem State.Keeps.tsLate {o : Nat} (h : s.Keeps p t) : s.Keeps p (t.tsLate o) := h.tsPulse.put.put.put.fault

theorem execTsyncArm_keeps {o periodic pol : Nat} (h : s.Keeps p t) : Result.Keeps s p (execTsyncArm o periodic pol t) :=
  .next (h.when fun _ k => .ite k (.ite k.put.fault (.ite k.put.put.put.put.tsPlan (.ite k.put.put.put.tsLate
    k.put.put.put.put.put))))

theorem execTsyncFire_keeps {o : Nat} (h : s.Keeps p t) : Result.Keeps s p (execTsyncFire o t) := by
  dsimp only [execTsyncFire]
  refine .next ?_
  split
  · exact h.when fun _ k => .ite k.tsLate k.tsPulse.put
  · exact h.when fun _ k => k.tsPulse.tsPlan
  · exact h

theorem execTsyncPulseEnd_keeps {o : Nat} (h : s.Keeps p t) : Result.Keeps s p (execTsyncPulseEnd o t) :=
  .next (h.when fun _ k => k.put)

theorem execTsyncDisable_keeps {o : Nat} (h : s.Keeps p t) : Result.Keeps s p (execTsyncDisable o t) :=
  .next (h.when fun _ k => k.put.put)

theorem State.Keeps.tsAdjust {o : Nat} {u : State} (h : s.Keeps p t) : s.Keeps p (t.tsAdjust u o) := by
  dsimp only [State.tsAdjust]
  split
  · exact h.put
  · exact h.tsPlan
  · exact h

theorem State.Keeps.stepEffects {acked : Bool} {u : State} (h : s.Keeps p t) (_ : s.Keeps p u) : s.Keeps p (t.stepEffects u acked) :=
  .each (.when (h.servoLoad.incSat.put.putAll.when fun _ k => k.fault) fun _ k => k.put) fun _ _ k => k.tsAdjust

theorem State.Keeps.phcChange {c : PhcChange} (h : s.Keeps p t) : s.Keeps p (t.phcChange c) :=
  .ite h.put (h.phcStep.when fun _ k => k.stepEffects h)

theorem execPhcChangeApply_keeps {what : Nat} (h : s.Keeps p t) : Result.Keeps s p (execPhcChangeApply what t) :=
  .next (.phcPend (.phcPend (h.update.each fun _ _ k => k.phcChange)))

theorem execPhcSlaveCheck_keeps (h : s.Keeps p t) : Result.Keeps s p (execPhcSlaveCheck t) :=
  .next (h.when fun _ k => .ite k.phcLoad.put (k.when fun _ l => l.put.put.fault))

theorem State.Keeps.mapCapture {D n : Nat} (h : s.Keeps p t) : s.Keeps p (t.mapCapture D n) :=
  h.when fun _ k => k.put.put.put.put.put.put.inc

/-! ### Machine/Sap -/

theorem State.Keeps.sapMod {d x : Nat} {f : SapPort → SapPort} (h : s.Keeps p t) : s.Keeps p (t.sapMod d x f) := h.update
theorem State.Keeps.sapLevel {d x : Nat} (h : s.Keeps p t) : s.Keeps p (t.sapLevel d x) := h.put
theorem State.Keeps.blkMod {d x n0 : Nat} {f : SapBlk → SapBlk} (h : s.Keeps p t) : s.Keeps p (t.blkMod d x n0 f) := h.update
theorem State.Keeps.blkOpen {b : SapBlk} {B : Nat} (h : s.Keeps p t) : s.Keeps p (t.blkOpen b B) := h.update
theorem State.Keeps.blkClose {d x n0 : Nat} (h : s.Keeps p t) : s.Keeps p (t.blkClose d x n0) := h.update
theorem State.Keeps.engineWrite {d a len data : Nat} (h : s.Keeps p t) : s.Keeps p (t.engineWrite d a len data) := h.fabMem.update
theorem State.Keeps.engineRead {d a len : Nat} (h : s.Keeps p t) : s.Keeps p (t.engineRead d a len).1 := h.fabMem.update

theorem State.Keeps.writeHeaders {b : SapBlk} {base B : Nat} (h : s.Keeps p t) : s.Keeps p (t.writeHeaders b base B) :=
  h.each fun _ _ k => k.engineWrite

theorem State.Keeps.pgApply {d g : Nat} {drop : Bool} {n : SapPort → Nat} (h : s.Keeps p t) : s.Keeps p (t.pgApply d g drop n) :=
  .ite h (.fault (.ite (.incSat (h.each fun _ _ k => k.sapMod)) (.incSat (h.each fun _ _ k => k.sapMod))))

theorem State.Keeps.groupSlip {d g : Nat} {drop : Bool} (h : s.Keeps p t) : s.Keeps p (t.groupSlip d g drop) := h.pgApply.send

theorem State.Keeps.soloSlip {d x : Nat} {drop : Bool} (h : s.Keeps p t) : s.Keeps p (t.soloSlip d x drop) :=
  .ite (.raises (.put (.put (.ite h.incSat h.incSat)))) (.fault (.ite h.incSat h.incSat))

theorem State.Keeps.pgRefresh {d g : Nat} (h : s.Keeps p t) : s.Keeps p (t.pgRefresh d g) := h.put.put

theorem execGroupSlipMessage_keeps {d g : Nat} {drop : Bool} (h : s.Keeps p t) : Result.Keeps s p (execGroupSlipMessage d g drop t) :=
  .next (h.receive fun _ _ k => k.pgApply)

theorem State.Keeps.sapCfgFields {d x w : Nat} (h : s.Keeps p t) : s.Keeps p (t.sapCfgFields d x w) :=
  h.put.put.put.put.put.put.put.put

theorem State.Keeps.sapEnd {d x : Nat} (h : s.Keeps p t) : s.Keeps p (t.sapEnd d x) :=
  h.condEnd.update.put.put.put.put.put.put.put.pgRefresh

theorem State.Keeps.sapStart {d x : Nat} (h : s.Keeps p t) : s.Keeps p (t.sapStart d x) :=
  .pgRefresh (.sapLevel (h.update.put.put.put.put.when fun _ k => k.put))

theorem execSapEnable_keeps {d q sec cfg : Nat} (h : s.Keeps p t) : Result.Keeps s p (execSapEnable d q sec cfg t) :=
  .next (h.when fun _ k => .ite k (.ite k.put.fault (k.sapCfgFields.put.when fun _ l => l.sapStart)))

theorem execSapDisable_keeps {d q sec : Nat} (h : s.Keeps p t) : Result.Keeps s p (execSapDisable d q sec t) :=
  .next (h.when fun _ k => .ite k.put (.ite k.put.put.put k.put.sapEnd))

theorem execSlotmaskStage_keeps {d q sec mask : Nat} (h : s.Keeps p t) : Result.Keeps s p (execSlotmaskStage d q sec mask t) :=
  .next (h.when fun _ _ => .ite h.put.put.put h.put.put)

theorem State.Keeps.latchMasks {D T : Nat} (h : s.Keeps p t) : s.Keeps p (t.latchMasks D T) :=
  h.each fun _ _ k => .ite k.put.put k.put.sapMod.put

theorem State.Keeps.unlatchMasks {D T : Nat} (h : s.Keeps p t) : s.Keeps p (t.unlatchMasks D T) := h.each fun _ _ k => k.sapMod.put

theorem State.Keeps.masksLive {d x n : Nat} (h : s.Keeps p t) : s.Keeps p (t.masksLive d x n) := by
  dsimp only [State.masksLive]
  split
  · exact h
  · split
    · exact h
    · exact h.sapMod.put.put

theorem State.Keeps.fifoPop {d x : Nat} (h : s.Keeps p t) : s.Keeps p (t.fifoPop d x).2 := by
  dsimp only [State.fifoPop]
  split
  · exact h
  · split
    · exact h
    · simp only [apply_ite Prod.snd]
      exact .ite h h.sapMod.sapLevel

theorem State.Keeps.fifoPut {d x : Nat} {f : SapFrame} (h : s.Keeps p t) : s.Keeps p (t.fifoPut d x f) := h.sapMod.sapLevel

theorem State.Keeps.takeGsample {d x : Nat} (h : s.Keeps p t) : s.Keeps p (t.takeGsample d x).2 := by
  dsimp only [State.takeGsample]
  split
  · exact h
  · exact h.sapMod

theorem State.Keeps.takeGframe {d x : Nat} (h : s.Keeps p t) : s.Keeps p (t.takeGframe d x).2 := by
  dsimp only [State.takeGframe]
  split
  · exact h
  · exact h.sapMod

theorem State.Keeps.rxFrameFor {d x n0 n : Nat} (h : s.Keeps p t) : s.Keeps p (t.rxFrameFor d x n0 n).2 := by
  have k := (h.takeGsample (d := d) (x := x)).fifoPop (d := d) (x := x)
  simp only [State.rxFrameFor, apply_ite Prod.snd]
  refine .ite h.takeGsample.blkMod ?_
  generalize (t.takeGsample d x).2.fifoPop d x = q at k ⊢
  obtain ⟨_ | f, u⟩ := q
  · exact k.soloSlip.blkMod
  · exact k.sapMod

theorem State.Keeps.rxEarlier {d x n0 n : Nat} (h : s.Keeps p t) : s.Keeps p (t.rxEarlier d x n0 n) :=
  h.blkMod.each fun _ _ k => k.engineWrite

theorem State.Keeps.sapRxTake {d x n : Nat} (h : s.Keeps p t) : s.Keeps p (t.sapRxTake d x n) := by
  dsimp only [State.sapRxTake]
  refine .ite (.blkClose ?_) (.each (.blkMod (.when ?_ fun _ k => k.blkMod)) fun _ _ k => k.engineWrite)
  · split
    · refine .each (.blkMod (.when ?_ fun _ k => k.blkMod)) fun _ _ k => k.engineWrite
      split
      · refine .rxFrameFor ?_
        split
        · exact h.masksLive.blkOpen.sapMod.when fun _ k => k.rxEarlier
        · exact h.masksLive
      · refine .blkMod (.incSat ?_)
        split
        · exact h.masksLive.blkOpen.sapMod.when fun _ k => k.rxEarlier
        · exact h.masksLive
      · refine .blkMod ?_
        split
        · exact h.masksLive.blkOpen.sapMod.when fun _ k => k.rxEarlier
        · exact h.masksLive
    · refine .writeHeaders (.each (.blkMod (.when ?_ fun _ k => k.blkMod)) fun _ _ k => k.engineWrite)
      split
      · refine .rxFrameFor ?_
        split
        · exact h.masksLive.blkOpen.sapMod.when fun _ k => k.rxEarlier
        · exact h.masksLive
      · refine .blkMod (.incSat ?_)
        split
        · exact h.masksLive.blkOpen.sapMod.when fun _ k => k.rxEarlier
        · exact h.masksLive
      · refine .blkMod ?_
        split
        · exact h.masksLive.blkOpen.sapMod.when fun _ k => k.rxEarlier
        · exact h.masksLive
  · split
    · refine .rxFrameFor ?_
      split
      · exact h.masksLive.blkOpen.sapMod.when fun _ k => k.rxEarlier
      · exact h.masksLive
    · refine .blkMod (.incSat ?_)
      split
      · exact h.masksLive.blkOpen.sapMod.when fun _ k => k.rxEarlier
      · exact h.masksLive
    · refine .blkMod ?_
      split
      · exact h.masksLive.blkOpen.sapMod.when fun _ k => k.rxEarlier
      · exact h.masksLive

theorem State.Keeps.txDone {d x n : Nat} (h : s.Keeps p t) : s.Keeps p (t.txDone d x n) :=
  h.each fun _ _ k => k.writeHeaders.blkClose

theorem State.Keeps.sapFrameEnd {d x : Nat} (h : s.Keeps p t) : s.Keeps p (t.sapFrameEnd d x) := by
  dsimp only [State.sapFrameEnd]
  refine .when (.sapEnd ?_) fun _ k => k.sapStart
  split
  · exact h
  · exact h.when fun _ k => k.txDone

theorem execSapStop_keeps {d q sec : Nat} (h : s.Keeps p t) : Result.Keeps s p (execSapStop d q sec t) :=
  .next (h.when fun _ k => k.sapFrameEnd)

theorem State.Keeps.txWords {d x n0 n : Nat} {play : Bool} (h : s.Keeps p t) : s.Keeps p (t.txWords d x n0 n play).1 := by
  dsimp only [State.txWords]
  refine foldl_fst (q := (t, _)) h fun acc c k => ?_
  simp only [apply_ite Prod.fst]
  exact .ite k.put.engineRead k.put

theorem State.Keeps.digestAdd {D : Nat} {crcs : List Nat} (h : s.Keeps p t) : s.Keeps p (t.digestAdd D crcs) := h.inc

theorem State.Keeps.sapDigest {d x n0 n : Nat} {vals : List Nat} (h : s.Keeps p t) : s.Keeps p (t.sapDigest d x n0 n vals) :=
  h.sapMod.when fun _ k => k.digestAdd

theorem State.Keeps.txMake {d x n0 n : Nat} (h : s.Keeps p t) : s.Keeps p (t.txMake d x n0 n).1 := by
  dsimp only [State.txMake]
  simp only [apply_ite Prod.fst]
  exact .ite (.when (.blkMod (.incSat (h.txWords.sapDigest.when fun _ k => k.incSat))) fun _ k => k.fault) h.txWords.sapDigest

theorem State.Keeps.txPut {d x n0 : Nat} {f : SapFrame} (h : s.Keeps p t) : s.Keeps p (t.txPut d x n0 f) :=
  .ite h.takeGsample.blkMod (.ite h.takeGsample.sapMod.fifoPut h.takeGsample.soloSlip.blkMod)

theorem State.Keeps.txDiscarded {d x n : Nat} (h : s.Keeps p t) : s.Keeps p (t.txDiscarded d x n) := by
  dsimp only [State.txDiscarded]
  split
  · exact h
  · exact h.txDone

theorem State.Keeps.sapTxTake {d x n : Nat} (h : s.Keeps p t) : s.Keeps p (t.sapTxTake d x n) := by
  dsimp only [State.sapTxTake]
  split
  · exact .txDiscarded (.blkMod (.incSat (.sapMod (.txMake (.blkMod (h.masksLive.when fun _ k => k.blkOpen))))))
  · exact .txPut (.sapMod (.txMake (.blkMod (h.masksLive.when fun _ k => k.blkOpen))))
  · exact .ite (.when (.fifoPut (.sapMod (.sapMod (.txMake (.blkMod (h.masksLive.when fun _ k => k.blkOpen)))))) fun _ k => k.put)
      (.txDiscarded (.sapMod (.txMake (.blkMod (h.masksLive.when fun _ k => k.blkOpen)))))

theorem State.Keeps.groupsAtSample {D : Nat} (h : s.Keeps p t) : s.Keeps p (t.groupsAtSample D) :=
  h.each fun _ _ k => k.when fun _ l => l.groupSlip

theorem State.Keeps.rxMark {d x flags drop lag : Nat} (h : s.Keeps p t) : s.Keeps p (t.rxMark d x flags drop lag) :=
  .ite h.blkMod h.sapMod

theorem State.Keeps.txMark {d x flags rep : Nat} (h : s.Keeps p t) : s.Keeps p (t.txMark d x flags rep) := by
  dsimp only [State.txMark]
  split
  · exact h
  · exact .ite h h.blkMod

theorem State.Keeps.rxPut {d x : Nat} {f : SapFrame} (h : s.Keeps p t) : s.Keeps p (t.rxPut d x f).2 := by
  dsimp only [State.rxPut]
  simp only [apply_ite Prod.snd]
  exact .ite h.sapMod.fifoPut h.soloSlip.rxMark

theorem State.Keeps.slipDecide {d x : Nat} (h : s.Keeps p t) : s.Keeps p (t.slipDecide d x) := h.sapMod

theorem State.Keeps.rxComplete {d x : Nat} {f : SapFrame} (h : s.Keeps p t) : s.Keeps p (t.rxComplete d x f).2 := by
  dsimp only [State.rxComplete]
  simp only [apply_ite Prod.snd]
  exact .ite (.rxMark (.takeGframe (.slipDecide (h.when fun _ k => k.groupSlip)))) (.rxPut (.takeGframe (.slipDecide (h.when fun _ k
    => k.groupSlip))))

theorem State.Keeps.rxFill {d x : Nat} {f : SapFrame} (h : s.Keeps p t) : s.Keeps p (t.rxFill d x f) :=
  .ite h.sapMod.sapMod.sapLevel (h.sapMod.when fun _ k => k.fifoPut.when fun _ l => l.put)

theorem State.Keeps.sapRxFrame {d x : Nat} {words : List Nat} (h : s.Keeps p t) : s.Keeps p (t.sapRxFrame d x words) := by
  dsimp only [State.sapRxFrame]
  split
  · exact h
  · exact .ite h (.ite h.sapMod.fifoPut (.ite h.rxComplete.sapMod h.rxFill))

theorem State.Keeps.framingError {d x : Nat} (h : s.Keeps p t) : s.Keeps p (t.framingError d x) := by
  dsimp only [State.framingError]
  refine .ite h.incSat.fault (.ite h.incSat.fault.txMark ?_)
  split
  · exact h.incSat.fault.rxMark
  · split
    · exact .ite h.incSat.fault.rxMark h.incSat.fault.rxMark.sapMod.fifoPut
    · exact .ite h.incSat.fault.rxMark h.incSat.fault.rxMark.sapMod
    · exact h.incSat.fault.rxMark

theorem State.Keeps.sapResync {d x : Nat} (h : s.Keeps p t) : s.Keeps p (t.sapResync d x) :=
  h.condEnd.put.put.when fun _ k => k.sapMod.sapLevel

theorem State.Keeps.sapProgress {d x good : Nat} (h : s.Keeps p t) : s.Keeps p (t.sapProgress d x good) :=
  .ite (h.put.when fun _ k => k.sapResync) (h.put.when fun _ k => k.put)

theorem State.Keeps.sapFrameStart {d x bclks fs : Nat} (h : s.Keeps p t) : s.Keeps p (t.sapFrameStart d x bclks fs) := by
  dsimp only [State.sapFrameStart]
  split
  · exact h.when fun _ k => k.sapFrameEnd
  · exact .ite (h.when fun _ k => k.sapFrameEnd) (.sapMod (.when (.when (h.when fun _ k => k.sapFrameEnd) fun _ k => k.framingError)
      fun _ k => k.sapProgress))

theorem State.Keeps.txNext {d x : Nat} (h : s.Keeps p t) : s.Keeps p (t.txNext d x).2 := by
  simp only [State.txNext, apply_ite Prod.snd]
  refine .ite (.txMark (.takeGframe (.slipDecide (h.when fun _ k => k.groupSlip)))) ?_
  generalize hq : State.fifoPop _ d x = q
  have k : s.Keeps p q.2 := hq ▸ .fifoPop (.takeGframe (.slipDecide (h.when fun _ k => k.groupSlip)))
  obtain ⟨_ | f, u⟩ := q
  · exact k.soloSlip.txMark
  · exact k

theorem State.Keeps.txStamp {d x : Nat} {f : SapFrame} (h : s.Keeps p t) : s.Keeps p (t.txStamp d x f) :=
  .ite h (h.sapMod.when fun _ k => k.blkMod)

theorem State.Keeps.sapTxFrame {d x : Nat} (h : s.Keeps p t) : s.Keeps p (t.sapTxFrame d x) := by
  dsimp only [State.sapTxFrame]
  split
  · exact h
  · exact .ite h.txNext.txDone.txStamp.sapMod.put h.sapMod.put

theorem execSapTxFrameStart_keeps {d q : Nat} (h : s.Keeps p t) : Result.Keeps s p (execSapTxFrameStart d q t) :=
  .next (h.when fun _ k => .when (k.when fun _ l => l.sapFrameEnd) fun _ l => l.sapTxFrame)

theorem State.Keeps.masterFrame {d x : Nat} (h : s.Keeps p t) : s.Keeps p (t.masterFrame d x) :=
  .ite (h.when fun _ k => k.sapFrameEnd) (.ite (.sapTxFrame (.put (h.when fun _ k => k.sapFrameEnd))) (.put (.sapMod (.put (h.when
    fun _ k => k.sapFrameEnd)))))

theorem State.Keeps.sectionSample {d x n : Nat} (h : s.Keeps p t) : s.Keeps p (t.sectionSample d x n) :=
  .ite (h.masksLive.when fun _ k => k.incSat) (.ite (.ite h.masterFrame (.ite h.sapTxTake.masterFrame h.sapRxTake.masterFrame))
    (.ite h.sapTxTake h.sapRxTake))

theorem State.Keeps.sapSample {D n : Nat} (h : s.Keeps p t) : s.Keeps p (t.sapSample D n) :=
  h.groupsAtSample.each fun _ _ k => k.when fun _ l => l.sectionSample

/-! ### Machine/Rate -/

theorem State.Keeps.setRatio {d b : Nat} (h : s.Keeps p t) : s.Keeps p (t.setRatio d b) := h.put

theorem State.Keeps.brLockExact {d b : Nat} (h : s.Keeps p t) : s.Keeps p (t.brLockExact d b) :=
  .setRatio (.put (.put (.put (.put (h.when fun _ k => k.put.put)))))

theorem State.Keeps.brPush {d b m v : Nat} {missed : Bool} (h : s.Keeps p t) : s.Keeps p (t.brPush d b m v missed) := h.update

theorem State.Keeps.brToAcquire {d b : Nat} (h : s.Keeps p t) : s.Keeps p (t.brToAcquire d b) :=
  .ite h.condEnd.put.brLockExact h.condEnd.put

theorem State.Keeps.brToLost {d b : Nat} (h : s.Keeps p t) : s.Keeps p (t.brToLost d b) := h.when fun _ k => k.put.condBegin
theorem State.Keeps.brCfgFields {d b w : Nat} (h : s.Keeps p t) : s.Keeps p (t.brCfgFields d b w) := h.put.put.put.put
theorem State.Keeps.brStart {d b : Nat} (h : s.Keeps p t) : s.Keeps p (t.brStart d b) := h.put.update.brToAcquire

theorem execBridgeEnable_keeps {d b cfg : Nat} (h : s.Keeps p t) : Result.Keeps s p (execBridgeEnable d b cfg t) :=
  .next (h.when fun _ k => .ite k (.ite k.put.fault (k.brCfgFields.put.when fun _ l => l.brStart)))

theorem execBridgeDisable_keeps {d b : Nat} (h : s.Keeps p t) : Result.Keeps s p (execBridgeDisable d b t) :=
  .next (h.when fun _ k => k.put.when fun _ l => l.put.put)

theorem execBridgeOff_keeps {d b : Nat} (h : s.Keeps p t) : Result.Keeps s p (execBridgeOff d b t) :=
  .next (h.when fun _ k => k.condEnd.put.put.when fun _ l => l.brStart)

theorem execBridgeTrackLock_keeps {d b ratio : Nat} (h : s.Keeps p t) : Result.Keeps s p (execBridgeTrackLock d b ratio t) :=
  .next (h.when fun _ k => k.put.put.put.drawn)

theorem State.Keeps.brFeed {d x b word : Nat} (h : s.Keeps p t) : s.Keeps p (t.brFeed d x b word) :=
  .ite h.fault (.ite h.put.fault (h.when fun _ k => k.brPush))

theorem State.Keeps.brDeliver {d x : Nat} {words : List Nat} (h : s.Keeps p t) : s.Keeps p (t.brDeliver d x words) :=
  h.each fun _ _ k => k.brFeed

theorem State.Keeps.brFrame {d x : Nat} {words : List Nat} (h : s.Keeps p t) : s.Keeps p (t.brFrame d x words) :=
  h.when fun _ k => k.brDeliver

theorem State.Keeps.brenFrame {d x : Nat} {words : List Nat} (h : s.Keeps p t) : s.Keeps p (t.brenFrame d x words) := by
  dsimp only [State.brenFrame]
  split
  · exact h
  · exact h.when fun _ k => k.sapMod.brFrame

theorem execSapRxFrame_keeps {d q : Nat} {words : List Nat} (h : s.Keeps p t) : Result.Keeps s p (execSapRxFrame d q words t) :=
  .next (.ite h.brenFrame h.sapRxFrame)

theorem State.Keeps.brCut {d x bclks fs : Nat} (h : s.Keeps p t) : s.Keeps p (t.brCut d x bclks fs) := by
  dsimp only [State.brCut]
  split
  · exact h
  · exact h.when fun _ k => k.brFrame

theorem execSapFrameStart_keeps {d q sec bclks fs : Nat} (h : s.Keeps p t) : Result.Keeps s p (execSapFrameStart d q sec bclks fs t) :=
  .next (.when (.sapFrameStart (h.when fun _ k => k.brCut)) fun _ k => k.each fun _ _ l => l.brToAcquire)

theorem execSapLostTimeout_keeps {d q sec : Nat} (h : s.Keeps p t) : Result.Keeps s p (execSapLostTimeout d q sec t) :=
  .next (.ite h (.ite h.sapFrameEnd (h.when fun _ k => k.put.put.condBegin.sapMod.when fun _ l => l.each fun _ _ m => m.brToLost)))

theorem State.Keeps.brInput {d b m : Nat} (h : s.Keeps p t) : s.Keeps p (t.brInput d b m) := by
  dsimp only [State.brInput]
  split
  · exact .brPush (h.when fun _ k => k.put.put)
  · exact .when (.ite (.brPush (.engineRead (h.when fun _ k => k.put.put))) (.when (.brPush (.put (h.when fun _ k => k.put.put)))
      fun _ k => k.incSat.fault)) fun _ k => k.engineWrite

theorem State.Keeps.brOpen {d b base n0 n : Nat} (h : s.Keeps p t) : s.Keeps p (t.brOpen d b base n0 n) :=
  h.put.put.put.when fun _ k => k.engineWrite

theorem State.Keeps.brTrackDelay {d b : Nat} (h : s.Keeps p t) : s.Keeps p (t.brTrackDelay d b) := h.when fun _ k => k.put.drawn

theorem State.Keeps.brOutput {d b n : Nat} (h : s.Keeps p t) : s.Keeps p (t.brOutput d b n) :=
  .ite h.put (.when (.engineWrite (.when (.put (.brTrackDelay (h.when fun _ k => k.brOpen))) fun _ k => k.incSat)) fun _ k =>
    k.engineWrite.put)

theorem State.Keeps.brMeasure {d b : Nat} {meas : List BridgeRatio} (h : s.Keeps p t) : s.Keeps p (t.brMeasure d b meas) := by
  dsimp only [State.brMeasure]
  split
  · exact h
  · exact h.put

theorem State.Keeps.brRange1 {d b : Nat} (h : s.Keeps p t) : s.Keeps p (t.brRange1 d b) :=
  .ite (h.when fun _ k => k.put.brToLost) (h.when fun _ k => k.brToAcquire)

theorem State.Keeps.brSample {D n : Nat} {meas : List BridgeRatio} (h : s.Keeps p t) : s.Keeps p (t.brSample D n meas) :=
  h.each fun _ _ k => .ite (.brOutput (k.when fun _ l => l.brMeasure.brRange1)) (k.when fun _ l => l.brInput)

theorem State.Keeps.brRelock {D : Nat} (h : s.Keeps p t) : s.Keeps p (t.brRelock D) := h.each fun _ _ k => k.brToAcquire
theorem State.Keeps.pktLoads (h : s.Keeps p t) : s.Keeps p t.pktLoads := h.each fun _ _ k => k.put.put
theorem State.Keeps.domLocal {D : Nat} (h : s.Keeps p t) : s.Keeps p (t.domLocal D) := h.put.put.put.condEnd.condEnd

theorem State.Keeps.domCfgWrite {D rate ring mcen : Nat} (h : s.Keeps p t) : s.Keeps p (t.domCfgWrite D rate ring mcen) :=
  .ite h.put.fault (.ite h (.ite (.put (.when (h.put.put.put.when fun _ k => k.domLocal) fun _ k => k.pktLoads)) (.ite (.brRelock
    (.put (.when (h.put.put.put.when fun _ k => k.domLocal) fun _ k => k.pktLoads))) (.when (h.put.put.put.when fun _ k =>
    k.domLocal) fun _ k => k.pktLoads))))

theorem execMediaClockLockStart_keeps {D rate ring : Nat} (h : s.Keeps p t) : Result.Keeps s p (execMediaClockLockStart D rate ring
    t) := .next (h.when fun _ k => k.domCfgWrite)

theorem execMediaClockStop_keeps {D rate ring : Nat} (h : s.Keeps p t) : Result.Keeps s p (execMediaClockStop D rate ring t) :=
  .next (h.when fun _ k => k.domCfgWrite)

theorem execMediaClockLocked_keeps {D : Nat} (h : s.Keeps p t) : Result.Keeps s p (execMediaClockLocked D t) :=
  .next (h.when fun _ k => k.put.brRelock)

/-! ### Machine/Biray -/

theorem State.Keeps.birayForward {dir ty : Nat} {f : BFrame} (h : s.Keeps p t) : s.Keeps p (t.birayForward dir ty f) :=
  .ite h.incSat h.birayEast

theorem State.Keeps.birayIn {dir ty : Nat} {f : BFrame} {act : State → State} (h : s.Keeps p t)
    (ha : ∀ u, s.Keeps p u → s.Keeps p (act u)) : s.Keeps p (t.birayIn dir ty f act) :=
  .ite h (.ite h (.ite (h.when fun _ k => k.portSend) (.ite h (ha t h))))

theorem State.Keeps.birayUnicast {dir ty : Nat} {f : BFrame} {act : State → State} (h : s.Keeps p t)
    (ha : ∀ u, s.Keeps p u → s.Keeps p (act u)) : s.Keeps p (t.birayUnicast dir ty f act) :=
  h.birayIn fun u k => .ite (ha u k) k.birayForward

theorem State.Keeps.birayBroadcast {dir ty : Nat} {f g : BFrame} {noaddr : Bool} {act : State → State} (h : s.Keeps p t)
    (ha : ∀ u, s.Keeps p u → s.Keeps p (act u)) : s.Keeps p (t.birayBroadcast dir ty f g noaddr act) :=
  h.birayIn fun u k => .ite (.birayForward (.ite (ha u k) k)) (.ite k (ha u k).birayForward)

theorem State.Keeps.portState {d v : Nat} (h : s.Keeps p t) : s.Keeps p (t.portState d v) := h.when fun _ k => k.put.put
theorem State.Keeps.wrapFollow (h : s.Keeps p t) : s.Keeps p t.wrapFollow := .ite h.put.condBegin (h.put.when fun _ k => k.condEnd)

theorem State.Keeps.portDown {d lanes st : Nat} (h : s.Keeps p t) : s.Keeps p (t.portDown d lanes st) :=
  .ite (.when (.wrapFollow (h.portState.put.condBegin.put.inc.when fun _ k => k.put)) fun _ k => k.put) h.portState.put

theorem State.Keeps.enumToken {next announce : Nat} (h : s.Keeps p t) : s.Keeps p (t.enumToken next announce) := h.birayOwn
theorem State.Keeps.enumStart (h : s.Keeps p t) : s.Keeps p t.enumStart := h.takeAddr.put.put.enumToken

theorem execBirayLinkUp_keeps {d : Nat} (h : s.Keeps p t) : Result.Keeps s p (execBirayLinkUp d t) :=
  .next (h.when fun _ k => .when (.portSend (.put (.put (k.portState.put.when fun _ l => l.condEnd)))) fun _ l => l.enumStart)

theorem execBirayLinkDown_keeps {d lanes : Nat} (h : s.Keeps p t) : Result.Keeps s p (execBirayLinkDown d lanes t) :=
  .next (h.when fun _ k => k.portDown)

theorem execBirayRetrain_keeps {d : Nat} (h : s.Keeps p t) : Result.Keeps s p (execBirayRetrain d t) :=
  .next (h.when fun _ k => k.portDown)

theorem execRingUnwrap_keeps {d : Nat} (h : s.Keeps p t) : Result.Keeps s p (execRingUnwrap d t) :=
  .next (h.when fun _ k => .wrapFollow (k.put.when fun _ l => l.put))

theorem execKeepaliveSend_keeps {d : Nat} (h : s.Keeps p t) : Result.Keeps s p (execKeepaliveSend d t) := .next h.portSend

theorem execFrameCrcFail_keeps {d : Nat} (h : s.Keeps p t) : Result.Keeps s p (execFrameCrcFail d t) :=
  .next (h.when fun _ k => k.incSat.fault)

theorem execKeepalive_keeps {dir : Nat} (h : s.Keeps p t) : Result.Keeps s p (execKeepalive dir t) := .next h

theorem execDelay_keeps {dir reply trip : Nat} (h : s.Keeps p t) : Result.Keeps s p (execDelay dir reply trip t) :=
  .next (h.when fun _ k => .ite k.portSend (k.when fun _ l => l.put.put))

theorem execUndefinedFrameType_keeps {dir type : Nat} {f : BFrame} (h : s.Keeps p t) : Result.Keeps s p (execUndefinedFrameType dir
    type f t) := .next (h.birayIn fun _ k => k.incSat)

theorem State.Keeps.ringTrouble {f : Fld} (h : s.Keeps p t) : s.Keeps p (t.ringTrouble f) := h.put.fault

theorem State.Keeps.enumReturn {f : BFrame} (h : s.Keeps p t) : s.Keeps p (t.enumReturn f) :=
  .enumToken (.put (.put (.put (.each (h.each fun _ _ k => k.put) fun _ _ k => k.when fun _ l => l.put.put))))

theorem State.Keeps.oversize (h : s.Keeps p t) : s.Keeps p t.oversize := h.put.put.put.ringTrouble

theorem State.Keeps.enumTake {dir : Nat} {f : BFrame} (h : s.Keeps p t) : s.Keeps p (t.enumTake dir f) :=
  .ite h.takeAddr.birayForward h.oversize.refDead.birayForward

theorem execEnum_keeps {dir : Nat} {f : BFrame} (h : s.Keeps p t) : Result.Keeps s p (execEnum dir f t) :=
  .next (h.birayIn fun _ k => .ite (.ite k.ringTrouble (k.when fun _ l => l.enumReturn)) (.ite k.put.put.birayForward k.enumTake))

theorem execEnumTimeout_keeps (h : s.Keeps p t) : Result.Keeps s p (execEnumTimeout t) :=
  .next (h.when fun _ k => .ite k.inc.enumToken k.put.ringTrouble)

theorem execEnumWaitTimeout_keeps (h : s.Keeps p t) : Result.Keeps s p (execEnumWaitTimeout t) :=
  .next (h.when fun _ k => k.ringTrouble)

theorem execRingReenumerate_keeps (h : s.Keeps p t) : Result.Keeps s p (execRingReenumerate t) :=
  .next (h.when fun _ k => k.enumStart)

theorem execJoin_keeps {dir : Nat} {f : BFrame} (h : s.Keeps p t) : Result.Keeps s p (execJoin dir f t) :=
  .next (h.birayUnicast fun _ k => .birayOwn (k.when fun _ l => l.put))

theorem execAssign_keeps {dir : Nat} {f : BFrame} (h : s.Keeps p t) : Result.Keeps s p (execAssign dir f t) :=
  .next (h.birayBroadcast fun _ k => k.when fun _ l => .ite l.oversize l.takeAddr)

theorem execRingPresentExpiry_keeps {addr : Nat} (h : s.Keeps p t) : Result.Keeps s p (execRingPresentExpiry addr t) := .next h.put

theorem execTimeFrameSend_keeps {pa pb pc : Nat} (h : s.Keeps p t) : Result.Keeps s p (execTimeFrameSend pa pb pc t) :=
  .next (h.when fun _ k => k.birayOwn)

theorem State.Keeps.timeTake {D : Nat} {x : List Nat} (h : s.Keeps p t) : s.Keeps p (t.timeTake D x) :=
  .when (.when (.condSet (h.put.put.condSet.when fun _ k => k.put)) fun _ k => k.put) fun _ k => k.put.put.put

theorem execTime_keeps {dir : Nat} {f : BFrame} {stamp resid : Nat} (h : s.Keeps p t) : Result.Keeps s p (execTime dir f stamp resid
    t) :=
  .next (h.birayBroadcast fun _ k => .when (k.put.refInternal.each fun _ _ l => l.when fun _ m => m.timeTake) fun _ l => l.birayOwn)

theorem State.Keeps.commitFrame {D cancel snap T : Nat} (h : s.Keeps p t) : s.Keeps p (t.commitFrame D cancel snap T) :=
  h.when fun _ k => k.birayOwn

theorem State.Keeps.commitTake {D cancel snap T : Nat} (h : s.Keeps p t) : s.Keeps p (t.commitTake D cancel snap T).1 := by
  dsimp only [State.commitTake]
  simp only [apply_ite Prod.fst]
  exact .ite (.ite h.refuseCommit h.commitPend.latchMasks) (.ite (.ite h (.ite h.put.unlatchMasks h.put)) (.ite (.ite h.refuseSnap
    h.snapPend) (.ite h (.ite h.put h.put))))

theorem execCommitFrame_keeps {dir : Nat} {f : BFrame} (h : s.Keeps p t) : Result.Keeps s p (execCommitFrame dir f t) :=
  .next (.ite (h.birayUnicast fun _ k => k.when fun _ l => l.put) (h.birayBroadcast fun _ k => k.when fun _ l => l.commitTake.when
    fun _ m => m.birayOwn))

theorem execPartialFrame_keeps {dir : Nat} {f : BFrame} (h : s.Keeps p t) : Result.Keeps s p (execPartialFrame dir f t) :=
  .next (h.birayUnicast fun _ k => k.when fun _ l => l.send)

theorem State.Keeps.setRole {r : Nat} (h : s.Keeps p t) : s.Keeps p (t.setRole r) := h.put.put.put

theorem execPairidWrite_keeps {pairid auto isoyield : Nat} (h : s.Keeps p t) : Result.Keeps s p (execPairidWrite pairid auto
    isoyield t) :=
  .next (h.when fun _ _ => .ite h.put.put (.put (.put (.put (h.put.put.put.put.put.setRole.when fun _ l => l.each fun _ _ m =>
    m.put)))))

theorem execActivate_keeps (h : s.Keeps p t) : Result.Keeps s p (execActivate t) := .next (h.when fun _ k => .ite k.put k.put)
theorem execTakeover_keeps (h : s.Keeps p t) : Result.Keeps s p (execTakeover t) := .next (h.when fun _ k => k.put)
theorem State.Keeps.becomeActive {b : Nat} (h : s.Keeps p t) : s.Keeps p (t.becomeActive b) := h.setRole.put.put.put.put
theorem State.Keeps.becomeStandby {b : Nat} (h : s.Keeps p t) : s.Keeps p (t.becomeStandby b) := h.setRole.put.put.put.fault
theorem State.Keeps.yieldFor {since : Nat} (h : s.Keeps p t) : s.Keeps p (t.yieldFor since) := h.when fun _ k => k.put.put

theorem State.Keeps.digestEqual {D b : Nat} (h : s.Keeps p t) : s.Keeps p (t.digestEqual D b) :=
  .when (h.when fun _ k => k.put) fun _ k => k.put

theorem State.Keeps.digestDiffers {D : Nat} (h : s.Keeps p t) : s.Keeps p (t.digestDiffers D) :=
  h.incSat.put.when fun _ k => k.put.fault

theorem State.Keeps.digestCompare {D k : Nat} (h : s.Keeps p t) : s.Keeps p (t.digestCompare D k) :=
  .ite h (.ite h.put.put.put.put.digestEqual h.put.put.put.put.digestDiffers)

theorem State.Keeps.digestClose {D k : Nat} (h : s.Keeps p t) : s.Keeps p (t.digestClose D k) := h.put.put.put.put.put.digestCompare
theorem State.Keeps.digestTake {D k v : Nat} (h : s.Keeps p t) : s.Keeps p (t.digestTake D k v) := h.put.put.digestCompare
theorem State.Keeps.healthSend {b : Nat} (h : s.Keeps p t) : s.Keeps p (t.healthSend b) := h.when fun _ k => k.birayOwn
theorem execHealthTimer_keeps (h : s.Keeps p t) : Result.Keeps s p (execHealthTimer t) := .next (h.when fun _ k => k.healthSend)

theorem execHealthCopySend_keeps (h : s.Keeps p t) : Result.Keeps s p (execHealthCopySend t) :=
  .next (h.when fun _ k => k.healthSend)

theorem State.Keeps.resyncDrop (h : s.Keeps p t) : s.Keeps p t.resyncDrop := h.put.put.put.putAll.putAll.putAll.update.fault
theorem State.Keeps.scramble (h : s.Keeps p t) : s.Keeps p t.scramble := h.each fun _ _ k => k.each fun _ _ l => l.store.drawn
theorem State.Keeps.resyncFail (h : s.Keeps p t) : s.Keeps p t.resyncFail := h.resyncDrop.when fun _ k => k.scramble

theorem State.Keeps.healthRoles {f : BFrame} (h : s.Keeps p t) : s.Keeps p (t.healthRoles f) :=
  .ite h (.ite h.yieldFor (.ite h.yieldFor.put.fault h))

theorem State.Keeps.healthPartner {f : BFrame} (h : s.Keeps p t) : s.Keeps p (t.healthPartner f) :=
  .healthRoles (.when (.each (h.put.put.put.put.put.put.put.put.when fun _ k => k.put) fun _ _ k => k.digestTake) fun _ k =>
    k.resyncFail)

theorem execHealth_keeps {dir : Nat} {f : BFrame} (h : s.Keeps p t) : Result.Keeps s p (execHealth dir f t) :=
  .next (h.birayBroadcast fun _ k => k.put.put.when fun _ l => l.healthPartner)

theorem execPairSnapArm_keeps (h : s.Keeps p t) : Result.Keeps s p (execPairSnapArm t) :=
  .next (h.when fun _ k => .ite (.when (.when (k.when fun _ l => l.put) fun _ l => l.put) fun _ l => l.put)
    k.put.put.putAll.put.put.birayOwn)

theorem execPairSnapCancel_keeps (h : s.Keeps p t) : Result.Keeps s p (execPairSnapCancel t) :=
  .next (h.when fun _ k => .ite k.put.putAll k.put)

theorem execResyncAckDeadline_keeps (h : s.Keeps p t) : Result.Keeps s p (execResyncAckDeadline t) :=
  .next (h.when fun _ k => k.put.put.putAll)

theorem State.Keeps.mirrorRead {die a n : Nat} (h : s.Keeps p t) : s.Keeps p (t.mirrorRead die a n).1 := h.sramEngineRead

theorem State.Keeps.mirrorRegion {D die a fuel n : Nat} (h : s.Keeps p t) : s.Keeps p (t.mirrorRegion D die a fuel n).1 := by
  induction fuel generalizing t a n with
  | zero => exact h
  | succ n ih =>
    dsimp only [State.mirrorRegion]
    simp only [apply_ite Prod.fst]
    exact .ite h (ih h.mirrorRead.birayOwn)

theorem State.Keeps.mirrorRegions {D : Nat} {l : List (Nat × Nat × Nat × Nat)} (h : s.Keeps p t) :
    s.Keeps p (t.mirrorRegions D l).1 := by
  induction l generalizing t with
  | nil => exact h
  | cons x l ih =>
    dsimp only [State.mirrorRegions]
    exact ih h.mirrorRegion

theorem State.Keeps.mirrorSend {D : Nat} (h : s.Keeps p t) : s.Keeps p (t.mirrorSend D) := h.mirrorRead.mirrorRegions.birayOwn
theorem State.Keeps.pairDrained {D : Nat} (h : s.Keeps p t) : s.Keeps p (t.pairDrained D) := h.when fun _ k => k.mirrorSend

theorem State.Keeps.resyncMoment {n : Nat} (h : s.Keeps p t) : s.Keeps p (t.resyncMoment n) :=
  .ite h (h.each fun _ _ k => .ite k.put.put.pairDrained (k.when fun _ l => l.put.put))

theorem State.Keeps.mirrorEnd {D T gen crc : Nat} (h : s.Keeps p t) : s.Keeps p (t.mirrorEnd D T gen crc) :=
  .ite h.put.put.put.put h.resyncFail

theorem execMirror_keeps {dir : Nat} {f : BFrame} (h : s.Keeps p t) : Result.Keeps s p (execMirror dir f t) :=
  .next (h.birayUnicast fun _ k => .ite (k.when fun _ l => l.put) (.ite k (.ite (.ite
    k.putAll.putAll.putAll.update.put.put.put.birayOwn k) (.ite k (.ite k.mirrorEnd (.ite k.resyncFail k.put.put.update))))))

theorem State.Keeps.mirrorWrite {die a fuel : Nat} {l : List Nat} (h : s.Keeps p t) : s.Keeps p (t.mirrorWrite die a fuel l) := by
  induction fuel generalizing t a l with
  | zero => exact h
  | succ n ih =>
    dsimp only [State.mirrorWrite]
    exact .ite h (ih h.bankWriteBytes)

theorem execMirrorApply_keeps {D : Nat} (h : s.Keeps p t) : Result.Keeps s p (execMirrorApply D t) :=
  .next (h.when fun _ k => .put (.update (k.each fun _ _ l => l.mirrorWrite)))

theorem State.Keeps.resyncSkip {D b n : Nat} (h : s.Keeps p t) : s.Keeps p (t.resyncSkip D b n) := h.when fun _ k => k.resyncFail

theorem State.Keeps.resyncBoundary {D b : Nat} (h : s.Keeps p t) : s.Keeps p (t.resyncBoundary D b) :=
  h.when fun _ k => k.resyncFail

theorem State.Keeps.healthJudge {b : Nat} (h : s.Keeps p t) : s.Keeps p (t.healthJudge b) := .ite h (.ite h.put h.put.incSat.fault)
theorem State.Keeps.quietMore (h : s.Keeps p t) : s.Keeps p t.quietMore := h.put.put.put

theorem State.Keeps.rolesAt {b : Nat} (h : s.Keeps p t) : s.Keeps p (t.rolesAt b) :=
  .ite (.ite h.becomeActive.fault (h.when fun _ k => k.becomeActive)) (.ite (.ite h.becomeStandby (h.when fun _ k =>
    k.becomeStandby)) h)

theorem State.Keeps.triggersAt {b : Nat} (h : s.Keeps p t) : s.Keeps p (t.triggersAt b) := h.put.when fun _ k => k.put.put
theorem State.Keeps.resyncAt {b : Nat} (h : s.Keeps p t) : s.Keeps p (t.resyncAt b) := h.when fun _ k => k.put.put.putAll

theorem State.Keeps.pairBoundary {b : Nat} (h : s.Keeps p t) : s.Keeps p (t.pairBoundary b) :=
  h.healthJudge.quietMore.rolesAt.triggersAt.resyncAt

/-! ### Machine/Mac -/

theorem State.Keeps.macWrite {d m a len data : Nat} (h : s.Keeps p t) : s.Keeps p (t.macWrite d m a len data) := h.fabMem.update
theorem State.Keeps.macRead {d m a len : Nat} (h : s.Keeps p t) : s.Keeps p (t.macRead d m a len).1 := h.fabMem.update

theorem State.Keeps.macReadBytes {d m a fuel n : Nat} (h : s.Keeps p t) : s.Keeps p (t.macReadBytes d m a fuel n).1 := by
  induction fuel generalizing t a n with
  | zero => exact h
  | succ n ih =>
    dsimp only [State.macReadBytes]
    simp only [apply_ite Prod.fst]
    exact .ite h.macRead (ih h.macRead)

theorem State.Keeps.macWriteBytes {d m a fuel : Nat} {l : List Nat} (h : s.Keeps p t) : s.Keeps p (t.macWriteBytes d m a fuel l) := by
  induction fuel generalizing t a l with
  | zero => exact h
  | succ n ih =>
    dsimp only [State.macWriteBytes]
    exact .ite h (ih h.macWrite)

theorem State.Keeps.linkLevel {d m up : Nat} (h : s.Keeps p t) : s.Keeps p (t.linkLevel d m up) :=
  .ite h (.ite h.put.put.condBegin (h.put.put.when fun _ k => k.condEnd))

theorem State.Keeps.macEmpty {d m : Nat} (h : s.Keeps p t) : s.Keeps p (t.macEmpty d m) := h.update
theorem State.Keeps.macUnpause {d m : Nat} (h : s.Keeps p t) : s.Keeps p (t.macUnpause d m) := h.put.put

theorem State.Keeps.macOff {d m : Nat} (h : s.Keeps p t) : s.Keeps p (t.macOff d m) :=
  h.macEmpty.linkLevel.macUnpause.put.put.put.each fun _ _ k => k.put

theorem execMacModeWrite_keeps {d m cfg : Nat} (h : s.Keeps p t) : Result.Keeps s p (execMacModeWrite d m cfg t) :=
  .next (h.when fun _ k => .ite k.put (.ite (k.put.put.put.put.put.put.when fun _ l => l.macOff) (k.put.put.put.put.put.put.when fun
    _ l => l.put)))

theorem execAnrestart_keeps {d m : Nat} (h : s.Keeps p t) : Result.Keeps s p (execAnrestart d m t) :=
  .next (h.when fun _ k => k.put.put)

theorem State.Keeps.txComplete {f : MacFrame} {status : Nat} (h : s.Keeps p t) : s.Keeps p (t.txComplete f status) :=
  .ite h (.put (h.macWrite.when fun _ k => k.drawn))

theorem State.Keeps.macSettle {d m n : Nat} (h : s.Keeps p t) : s.Keeps p (t.macSettle d m n) := by
  induction n generalizing t with
  | zero => exact h
  | succ n ih =>
    dsimp only [State.macSettle]
    split
    · exact h
    · exact ih (.ite h.update.txComplete h.update.incSat.txComplete)

theorem State.Keeps.macSettled {d m : Nat} (h : s.Keeps p t) : s.Keeps p (t.macSettled d m) := h.macSettle

theorem execMacLinkChange_keeps {d m up : Nat} (h : s.Keeps p t) : Result.Keeps s p (execMacLinkChange d m up t) :=
  .next (h.when fun _ k => .macSettled (k.linkLevel.when fun _ l => l.put.put))

theorem execTxqPiWrite_keeps {d m q idx : Nat} (h : s.Keeps p t) : Result.Keeps s p (execTxqPiWrite d m q idx t) :=
  .next (h.when fun _ k => k.put)

theorem State.Keeps.txFrame {d m q idx : Nat} {l : List Nat} (h : s.Keeps p t) : s.Keeps p (t.txFrame d m q idx l).1 := by
  dsimp only [State.txFrame]
  simp only [apply_ite Prod.fst]
  exact .ite h h.macReadBytes

theorem State.Keeps.admitHost {d m q : Nat} (h : s.Keeps p t) : s.Keeps p (t.admitHost d m q) :=
  .ite h (.ite h.macReadBytes.txFrame.update.put.macSettled h)

theorem State.Keeps.admitStream {d m q i : Nat} (h : s.Keeps p t) : s.Keeps p (t.admitStream d m q i) := by
  dsimp only [State.admitStream]
  split
  · exact h
  · exact .ite h.update.incSat (.ite h.update.macSettled h.update.incSat.fault)

theorem execMacFrameAdmit_keeps {d m q stream : Nat} (h : s.Keeps p t) : Result.Keeps s p (execMacFrameAdmit d m q stream t) :=
  .next (h.when fun _ k => .ite k.admitHost k.admitStream)

theorem execLaunchTimeReached_keeps {d m q : Nat} (h : s.Keeps p t) : Result.Keeps s p (execLaunchTimeReached d m q t) := by
  dsimp only [execLaunchTimeReached]
  refine .next ?_
  split
  · exact h
  · exact .ite h.update h

theorem State.Keeps.stampFrame {f : MacFrame} {sec ns : Nat} (h : s.Keeps p t) : s.Keeps p (t.stampFrame f sec ns) :=
  .ite (.ite h.inc.update h.inc.incSat.put.fault) h

theorem execMacTxStart_keeps {d m dev : Nat} (h : s.Keeps p t) : Result.Keeps s p (execMacTxStart d m dev t) := by
  dsimp only [execMacTxStart]
  refine .next (h.when fun _ k => ?_)
  split
  · exact .ite k (k.update.stampFrame.when fun _ k => k.incSat.fault)
  · exact k

theorem State.Keeps.macPause {d m quanta : Nat} (h : s.Keeps p t) : s.Keeps p (t.macPause d m quanta) := h.put.put
theorem State.Keeps.pauseWaiting {d m : Nat} (h : s.Keeps p t) : s.Keeps p (t.pauseWaiting d m) := h.when fun _ k => k.macPause.put

theorem execMacTxComplete_keeps {d m : Nat} (h : s.Keeps p t) : Result.Keeps s p (execMacTxComplete d m t) := by
  dsimp only [execMacTxComplete]
  refine .next (h.when fun _ k => ?_)
  split
  · exact k
  · exact k.update.inc.txComplete.pauseWaiting.macSettled

theorem execPauseExpiry_keeps {d m : Nat} (h : s.Keeps p t) : Result.Keeps s p (execPauseExpiry d m t) :=
  .next (h.when fun _ k => k.macUnpause)

theorem execMacReset_keeps {d m addr len : Nat} {beats : List Nat} (h : s.Keeps p t) : Result.Keeps s p (execMacReset d m addr len
    beats t) :=
  .next (h.when fun _ k => .each (.pauseWaiting (k.truncate.macEmpty.foldl fun _ _ l => l.incSat.txComplete)) fun _ _ l =>
    l.put.put)

theorem execClrTsovf_keeps {d m : Nat} (h : s.Keeps p t) : Result.Keeps s p (execClrTsovf d m t) := .next (h.when fun _ k => k.put)

theorem execTsfPop_keeps {d m : Nat} (h : s.Keeps p t) : Result.Keeps s p (execTsfPop d m t) := by
  dsimp only [execTsfPop]
  refine .next (h.when fun _ k => ?_)
  split
  · exact k.put.put.put
  · exact k.update.put.put.put.put.put.put

theorem State.Keeps.hostDeliver {d m : Nat} {l : List Nat} {sec ns : Nat} (h : s.Keeps p t) : s.Keeps p (t.hostDeliver d m l sec ns) :=
  .ite h.incSat h.macRead.macWriteBytes.macWrite.put

theorem State.Keeps.macControl {d m : Nat} {l : List Nat} (h : s.Keeps p t) : s.Keeps p (t.macControl d m l) :=
  .ite (.ite (.ite h.incSat.put h.incSat.macPause) h.incSat) h.incSat

theorem State.Keeps.wakeMatch {l : List Nat} (h : s.Keeps p t) : s.Keeps p (t.wakeMatch l) :=
  .when (h.put.when fun _ k => k.put) fun _ k => k.put

/-! ### Machine/Streams -/

theorem State.Keeps.stxPut {r : StxRun} (h : s.Keeps p t) : s.Keeps p (t.stxPut r) := h.update
theorem State.Keeps.stxDrop {d i : Nat} (h : s.Keeps p t) : s.Keeps p (t.stxDrop d i) := h.update

theorem execStreamTxEnable_keeps {d i D m q : Nat} (h : s.Keeps p t) : Result.Keeps s p (execStreamTxEnable d i D m q t) :=
  .next (h.when fun _ k => .ite k (.ite k.put.fault k.put.put.put.put.stxDrop.update.put.put.put))

theorem State.Keeps.srxForget {d i : Nat} (h : s.Keeps p t) : s.Keeps p (t.srxForget d i) := h.filterCells

theorem execStreamRxEnable_keeps {d i D mask srcchk : Nat} (h : s.Keeps p t) : Result.Keeps s p (execStreamRxEnable d i D mask
    srcchk t) := .next (h.when fun _ k => .ite k (.ite k.put.fault k.put.put.put.put.srxForget.put.put.put.put.put))

theorem execStreamDisable_keeps {d rx i : Nat} (h : s.Keeps p t) : Result.Keeps s p (execStreamDisable d rx i t) :=
  .next (h.when fun _ k => .ite (k.when fun _ l => l.put.put.put) k.put.put)

theorem execStreamStop_keeps {d rx i : Nat} (h : s.Keeps p t) : Result.Keeps s p (execStreamStop d rx i t) :=
  .next (.ite (h.when fun _ k => k.stxDrop.put.put) (h.when fun _ k => k.put))

theorem State.Keeps.engineBytes {d a fuel n : Nat} (h : s.Keeps p t) : s.Keeps p (t.engineBytes d a fuel n).1 := by
  induction fuel generalizing t a n with
  | zero => exact h
  | succ n ih =>
    dsimp only [State.engineBytes]
    simp only [apply_ite Prod.fst]
    exact .ite h.engineRead (ih h.engineRead)

theorem State.Keeps.stxBuild {d i n : Nat} {words : List Nat} (h : s.Keeps p t) : s.Keeps p (t.stxBuild d i n words) := by
  dsimp only [State.stxBuild]
  refine .update (.inc ?_)
  split
  · exact h.engineBytes.engineBytes
  · exact h.engineBytes

theorem State.Keeps.stxTake {r : StxRun} {D n dec : Nat} (h : s.Keeps p t) : s.Keeps p (t.stxTake r D n dec).1 := by
  simp only [State.stxTake, apply_ite Prod.fst]
  exact .ite h (.ite h (foldl_fst (q := (t, _)) h fun acc c k => k.engineRead))

theorem State.Keeps.streamHeaders {d base ch B stamp n0 flags nrep : Nat} (h : s.Keeps p t) : s.Keeps p (t.streamHeaders d base ch B
    stamp n0 flags nrep) := h.each fun _ _ k => k.engineWrite

theorem State.Keeps.stxJoin {r : StxRun} {n : Nat} {samples : List Nat} (h : s.Keeps p t) : s.Keeps p (t.stxJoin r n samples) :=
  .ite h.stxPut (.ite h.stxPut h.stxPut.stxBuild)

theorem State.Keeps.stxSample {r : StxRun} {D n : Nat} (h : s.Keeps p t) : s.Keeps p (t.stxSample r D n) := by
  dsimp only [State.stxSample]
  exact .when (.when (.stxJoin (.stxTake (h.when fun _ k => k.incSat))) fun _ k => k.digestAdd) fun _ k => k.streamHeaders

theorem State.Keeps.srxStore {d i n : Nat} {frame : List Nat} (h : s.Keeps p t) : s.Keeps p (t.srxStore d i n frame) :=
  .put (h.each fun _ _ k => k.engineWrite)

theorem State.Keeps.srxPlace {d i n0 : Nat} {payload : List Nat} (h : s.Keeps p t) : s.Keeps p (t.srxPlace d i n0 payload) :=
  .when (.when (.when (h.each fun _ _ k => k.srxStore) fun _ k => k.inc.put) fun _ k => k.incSat) fun _ k => k.incSat.fault

theorem State.Keeps.srxTake {d i : Nat} {ip : List Nat} (h : s.Keeps p t) : s.Keeps p (t.srxTake d i ip) :=
  .ite h.incSat (.srxPlace (.put (.put (h.when fun _ k => k.incSat))))

theorem State.Keeps.srxOpen {d i base n0 n : Nat} (h : s.Keeps p t) : s.Keeps p (t.srxOpen d i base n0 n) := by
  dsimp only [State.srxOpen]
  exact h.put.put.put.put.when fun _ k => k.each fun _ _ l => l.engineWrite

theorem State.Keeps.srxSample {d i D n : Nat} (h : s.Keeps p t) : s.Keeps p (t.srxSample d i D n) := by
  dsimp only [State.srxSample]
  exact .when (.ite (.put (.each (h.when fun _ k => k.srxOpen) fun _ _ k => k.engineRead.engineWrite)) (.ite (.when (.put (.incSat
    (.each (h.when fun _ k => k.srxOpen) fun _ _ k => k.engineWrite))) fun _ k => k.put.fault) (.put (.each (h.when fun _ k =>
    k.srxOpen) fun _ _ k => k.engineWrite)))) fun _ k => k.streamHeaders

theorem State.Keeps.streamSample {D n : Nat} (h : s.Keeps p t) : s.Keeps p (t.streamSample D n) :=
  .each (h.each fun _ _ k => k.stxSample) fun _ _ k => k.srxSample

theorem State.Keeps.macDeliver {d m : Nat} {l : List Nat} {sec ns : Nat} (h : s.Keeps p t) : s.Keeps p (t.macDeliver d m l sec ns) := by
  dsimp only [State.macDeliver]
  refine .ite h.inc.macControl ?_
  split
  · exact h.inc.srxTake
  · exact .ite h.inc.hostDeliver h

theorem execMacRxFrame_keeps {d m : Nat} {frame : List Nat} {err full dev : Nat} (h : s.Keeps p t) : Result.Keeps s p
    (execMacRxFrame d m frame err full dev t) :=
  .next (.ite (h.when fun _ k => k.wakeMatch) (.ite h (.ite h.incSat (.ite h.incSat (.ite h.incSat (.ite h.incSat (.ite
    h.incSat.fault h.macDeliver)))))))

/-! ### Machine/Media -/

theorem State.Keeps.judgeSlot {D n : Nat} (h : s.Keeps p t) : s.Keeps p (t.judgeSlot D n) := h.when fun _ k => k.put

theorem State.Keeps.domSample {D n : Nat} {meas : List BridgeRatio} (h : s.Keeps p t) : s.Keeps p (t.domSample D n meas) :=
  h.sapSample.brSample.streamSample

theorem State.Keeps.mediaEdge {D n : Nat} {meas : List BridgeRatio} (h : s.Keeps p t) : s.Keeps p (t.mediaEdge D n meas) :=
  .startsGo (.when (h.put.put.put.domSample.when fun _ k => k.judgeSlot.digestClose.mapCapture) fun _ k => k.resyncMoment)

theorem State.Keeps.mediaTick {D : Nat} {meas : List BridgeRatio} (h : s.Keeps p t) : s.Keeps p (t.mediaTick D meas) :=
  .ite h.put.put.put.mediaEdge h.mediaEdge

theorem execDomcntIncrement_keeps {D : Nat} {meas : List BridgeRatio} (h : s.Keeps p t) : Result.Keeps s p (execDomcntIncrement D
    meas t) := .next (h.when fun _ k => k.mediaTick)

theorem execDomcntAlign_keeps {D : Nat} {meas : List BridgeRatio} (h : s.Keeps p t) : Result.Keeps s p (execDomcntAlign D meas t) :=
  .next (h.when fun _ k => k.mediaTick)

theorem State.Keeps.meterRead {m : MeterDef} (h : s.Keeps p t) : s.Keeps p (t.meterRead m).1 := h.sramEngineRead
theorem State.Keeps.meterCopy {m : MeterDef} (h : s.Keeps p t) : s.Keeps p (t.meterCopy m) := h.meterRead.update

theorem State.Keeps.takeSnapshot {D : Nat} (h : s.Keeps p t) : s.Keeps p (t.takeSnapshot D) :=
  .each (h.put.put.put.each fun _ _ k => k.put) fun _ _ k => k.meterCopy

theorem State.Keeps.drainEpoch {D : Nat} (h : s.Keeps p t) : s.Keeps p (t.drainEpoch D) := by
  dsimp only [State.drainEpoch]
  exact .when (h.put.put.raiseTo.put.when fun _ k => k.takeSnapshot) fun _ k => k.haltEpochs

theorem State.Keeps.lateAt {D c m : Nat} (h : s.Keeps p t) : s.Keeps p (t.lateAt D c m) :=
  .ite (.inc (.put (h.each fun _ _ k => k.send))) (.ite (.each (h.each fun _ _ k => k.send) fun _ _ k => k.send) (.when (h.each fun
    _ _ k => k.send) fun _ k => k.put.fault))

theorem execEpochBoundary_keeps {D : Nat} (h : s.Keeps p t) : Result.Keeps s p (execEpochBoundary D t) :=
  .next (h.when fun _ k => .resyncBoundary (.when (.when (.when (k.put.put.when fun _ l => l.put) fun _ l => l.put) fun _ l =>
    l.lateAt) fun _ l => l.pairBoundary))

theorem execEpochDispatch_keeps {D : Nat} (h : s.Keeps p t) : Result.Keeps s p (execEpochDispatch D t) :=
  .next (h.when fun _ k => k.countSkips.resyncSkip.put.put.put.put.put.put.put.put.setRun.broadcastStart)

theorem State.Keeps.txCommitted {D b : Nat} (h : s.Keeps p t) : s.Keeps p (t.txCommitted D b) := h.update

theorem State.Keeps.commitApply {d D b : Nat} (h : s.Keeps p t) : s.Keeps p (t.commitApply d D b) :=
  h.inc.when fun _ k => k.put.put.txCommitted

theorem execEpochStartReceipt_keeps {d D b : Nat} {commit : Bool} (h : s.Keeps p t) : Result.Keeps s p (execEpochStartReceipt d D b
    commit t) :=
  .next (h.receive fun _ _ k => .when (.when (.put (.put (.when (.put (.put (k.when fun _ l => l.put))) fun _ l => l.commitApply)))
    fun _ l => .chorusEpochStart (l.each fun _ _ m => m.tongueEpochStart)) fun _ l => l.healthSend)

theorem execDieDrainReport_keeps {d D : Nat} (h : s.Keeps p t) : Result.Keeps s p (execDieDrainReport d D t) :=
  .next (h.when fun _ k => k.put.send)

theorem State.Keeps.meterReady {D : Nat} (h : s.Keeps p t) : s.Keeps p (t.meterReady D) := h.csfEvent

theorem execDrainReportReceipt_keeps {d D b : Nat} {withdrawn : Bool} (h : s.Keeps p t) : Result.Keeps s p (execDrainReportReceipt d
    D b withdrawn t) :=
  .next (h.receive fun _ _ k => k.when fun _ l => l.put.when fun _ m => m.drainEpoch.pairDrained.when fun _ o => o.meterReady)

theorem execCommitArm_keeps {D : Nat} (h : s.Keeps p t) : Result.Keeps s p (execCommitArm D t) :=
  .next (h.when fun _ k => .ite k.refuseCommit k.commitPend.latchMasks.commitFrame)

theorem execCommitCancel_keeps {D : Nat} (h : s.Keeps p t) : Result.Keeps s p (execCommitCancel D t) :=
  .next (h.when fun _ k => .ite k.put.unlatchMasks.commitFrame k.put)

theorem execSnapArm_keeps {D : Nat} (h : s.Keeps p t) : Result.Keeps s p (execSnapArm D t) :=
  .next (h.when fun _ k => .ite k.refuseSnap k.snapPend.commitFrame)

theorem execSnapCancel_keeps {D : Nat} (h : s.Keeps p t) : Result.Keeps s p (execSnapCancel D t) :=
  .next (h.when fun _ k => .ite k.put.commitFrame k.put)

/-! ### Machine/Scoreboard -/

theorem State.Keeps.setBoard {b : Board} (h : s.Keeps p t) : s.Keeps p (t.setBoard b) := h.update
theorem State.Keeps.boardWait {d n k : Nat} (h : s.Keeps p t) : s.Keeps p (t.boardWait d n k) := h.setBoard

/-! ### Machine/Newt -/

theorem State.Keeps.newtGo {d n st : Nat} (h : s.Keeps p t) : s.Keeps p (t.newtGo d n st) := h.put.put
theorem State.Keeps.newtFlush {d n : Nat} (h : s.Keeps p t) : s.Keeps p (t.newtFlush d n) := h.update.each fun _ _ k => k.raisesAt
theorem State.Keeps.reptEnd {d n : Nat} (h : s.Keeps p t) : s.Keeps p (t.reptEnd d n) := h.put.put.newtFlush
theorem State.Keeps.dropBundle {d n : Nat} (h : s.Keeps p t) : s.Keeps p (t.dropBundle d n) := h.update
theorem State.Keeps.newtHalts {d n : Nat} (h : s.Keeps p t) : s.Keeps p (t.newtHalts d n) := h.newtGo.put.put.put.put.dropBundle

theorem State.Keeps.newtFaults {f : FaultName} {others : List Raise} {d n : Nat} (h : s.Keeps p t) : s.Keeps p (t.newtFaults f
    others d n) := h.dropBundle.reptEnd.newtGo.put.signal

theorem State.Keeps.newtFaultEnds {d n : Nat} (h : s.Keeps p t) : s.Keeps p (t.newtFaultEnds d n) := h.condEnd.condEnd

theorem State.Keeps.slotLeaves {d c k : Nat} (h : s.Keeps p t) : s.Keeps p (t.slotLeaves d c k) :=
  .ite h.slotMove (.ite h.enqueue h.slotMove)

theorem State.Keeps.taskEnds {d n : Nat} (h : s.Keeps p t) : s.Keeps p (t.taskEnds d n) := h.giveFlow.slotLeaves

theorem execCompletionReport_keeps {d n : Nat} (h : s.Keeps p t) : Result.Keeps s p (execCompletionReport d n t) :=
  .next (h.when fun _ k => k.inc.newtGo.put.taskEnds)

theorem State.Keeps.newtLeaves {d n st : Nat} (h : s.Keeps p t) : s.Keeps p (t.newtLeaves d n st) := h.newtGo.put
theorem State.Keeps.newtDrains {d n : Nat} (h : s.Keeps p t) : s.Keeps p (t.newtDrains d n) := h.newtGo.put.put
theorem State.Keeps.newtGoesOn {d n : Nat} (h : s.Keeps p t) : s.Keeps p (t.newtGoesOn d n) := h.newtLeaves.put.boardWait

theorem execParkReq_keeps {d n : Nat} (h : s.Keeps p t) : Result.Keeps s p (execParkReq d n t) :=
  .next (h.when fun _ k => .ite k.newtGo.newtLeavesIdle (k.when fun _ l => l.put))

theorem execUnpark_keeps {d n : Nat} (h : s.Keeps p t) : Result.Keeps s p (execUnpark d n t) := .next (h.when fun _ k => k.newtGo)

theorem execHaltReq_keeps {d n : Nat} (h : s.Keeps p t) : Result.Keeps s p (execHaltReq d n t) :=
  .next (h.when fun _ k => .ite k (.ite k.newtHalts k.put))

theorem execResume_keeps {d n : Nat} (h : s.Keeps p t) : Result.Keeps s p (execResume d n t) :=
  .next (h.when fun _ k => k.newtGoesOn.put)

theorem execStep_keeps {d n : Nat} (h : s.Keeps p t) : Result.Keeps s p (execStep d n t) :=
  .next (h.when fun _ k => k.newtGoesOn.put)

theorem execAbort_keeps {d n : Nat} (h : s.Keeps p t) : Result.Keeps s p (execAbort d n t) :=
  .next (h.when fun _ k => k.newtFaultEnds.newtLeaves.newtDrains.put)

theorem execNewtClrCnt_keeps {d n : Nat} (h : s.Keeps p t) : Result.Keeps s p (execNewtClrCnt d n t) :=
  .next (h.when fun _ k => k.put.put.put.put.put.put.put)

theorem State.Keeps.resetNewtCells {d n : Nat} (h : s.Keeps p t) : s.Keeps p (t.resetNewtCells d n) := h.filterCells

theorem State.Keeps.newtReset {d n : Nat} (h : s.Keeps p t) : s.Keeps p (t.newtReset d n) :=
  .newtLeavesIdle (.clearRegs (.resetNewtCells (h.dropBundle.newtFlush.newtFaultEnds.when fun _ k => k.taskEnds)))

theorem execNewtReset_keeps {d n : Nat} (h : s.Keeps p t) : Result.Keeps s p (execNewtReset d n t) :=
  .next (h.when fun _ k => k.newtReset)

theorem execInstructionFetch_keeps {d n : Nat} {stalled : Bool} (h : s.Keeps p t) : Result.Keeps s p (execInstructionFetch d n
    stalled t) := .next (h.when fun _ k => .ite k.inc.boardWait (.ite k.newtReadWords.newtFaults k.newtReadWords.newtRaise))

theorem execBreakpointMatch_keeps {d n : Nat} (h : s.Keeps p t) : Result.Keeps s p (execBreakpointMatch d n t) :=
  .next (h.when fun _ k => .ite k.put (k.when fun _ l => l.newtHalts))

/-! ### Machine/Access -/

theorem State.Keeps.fieldStore {d i v : Nat} {locked : Bool} {f : FieldRow} (h : s.Keeps p t) : s.Keeps p (t.fieldStore d i v locked
    f) := by
  dsimp only [State.fieldStore]
  split
  · exact h.put
  · exact h.when fun _ k => k.put
  · exact h.put
  · exact h.put
  · exact h
  · exact h
  · exact h

theorem State.Keeps.regPlain {d : Nat} {g : RegHit} {v : Nat} (h : s.Keeps p t) : s.Keeps p (t.regPlain d g v) :=
  h.foldl fun _ _ k => k.fieldStore

theorem State.Keeps.bitActs {v k : Nat} {l : List (State → State)} (h : s.Keeps p t)
    (hl : l.Forall fun f => ∀ u, s.Keeps p u → s.Keeps p (f u)) : s.Keeps p (t.bitActs v k l) := by
  induction l generalizing t k with
  | nil => exact h
  | cons f l ih =>
    obtain ⟨hf, hl⟩ := List.forall_cons _ f l |>.1 hl
    exact ih (.ite (hf t h) h) hl

theorem State.Keeps.newtCtl {d n v : Nat} (h : s.Keeps p t) : s.Keeps p (t.newtCtl d n v) := by
  dsimp only [State.newtCtl]
  split
  · exact h.run fun _ k => execParkReq_keeps k
  · exact h.run fun _ k => execUnpark_keeps k
  · exact h.run fun _ k => execHaltReq_keeps k
  · exact h.run fun _ k => execResume_keeps k
  · exact h.run fun _ k => execStep_keeps k
  · exact h.run fun _ k => execAbort_keeps k
  · exact h.run fun _ k => execNewtClrCnt_keeps k
  · exact h

theorem State.Keeps.dbgLoop {d i v : Nat} {f : Fld} {isPc : Bool} (h : s.Keeps p t) : s.Keeps p (t.dbgLoop d i v f isPc) := by
  dsimp only [State.dbgLoop]
  split
  · exact h.put
  · exact h.when fun _ k => k.put

theorem State.Keeps.slotCtrl {d : Nat} {g : RegHit} {v : Nat} (h : s.Keeps p t) : s.Keeps p (t.slotCtrl d g v) :=
  .ite (h.run fun _ k => execSlotEnable_keeps k) (.ite (h.run fun _ k => execSlotDisable_keeps k) h.regPlain)

theorem State.Keeps.lfCtl {d : Nat} {g : RegHit} {v : Nat} (h : s.Keeps p t) : s.Keeps p (t.lfCtl d g v) :=
  .when (.ite (h.run fun _ k => execLfStart_keeps k) h.regPlain) fun _ k => k.run fun _ l => execLfAbort_keeps l

theorem State.Keeps.enReg {d v : Nat} {r : RegHit} {start stop : State → State} (h : s.Keeps p t)
    (hs : ∀ u, s.Keeps p u → s.Keeps p (start u)) (he : ∀ u, s.Keeps p u → s.Keeps p (stop u)) :
    s.Keeps p (t.enReg d r v start stop) :=
  .ite (.ite h (he t h)) (.ite (hs t h) h.regPlain)

theorem State.Keeps.refCfg {r v : Nat} (h : s.Keeps p t) : s.Keeps p (t.refCfg r v) :=
  .ite (h.run fun _ k => execRefEnable_keeps k) (.ite h.put.refDisable (h.put.when fun _ k => k.put))

theorem State.Keeps.gpioCfg {d : Nat} {g : RegHit} {v : Nat} (h : s.Keeps p t) : s.Keeps p (t.gpioCfg d g v) :=
  .ite h.regPlain (.ite h.regPlain.put.put.put.put.put h.regPlain.put.put.condEnd.condEnd)

theorem State.Keeps.ctlStore {d cls : Nat} {g : RegHit} {v : Nat} (h : s.Keeps p t) : s.Keeps p (t.ctlStore d cls g v) := by
  dsimp only [State.ctlStore]
  split
  · exact h.run fun _ k => execHostIpendClear_keeps k
  · exact h.run fun _ k => execHostEvtWrite_keeps k
  · exact h.bitActs fun _ k => k.restartTail
  · exact h.run fun _ k => execMbxPiWrite_keeps k
  · exact h.run fun _ k => execMbxCiWrite_keeps k
  · exact .ite h.put (h.run fun _ k => execMsixUnmask_keeps k)
  · exact .ite (h.run fun _ k => execTailShed_keeps k) (h.run fun _ k => execTailResetRelease_keeps k)
  · exact h.when fun _ k => k.regPlain
  · exact h.put
  · exact h.regPlain.bitActs fun _ k => k.run fun _ l => execFltStatusAck_keeps l
  · exact h.regPlain.bitActs ⟨fun _ k => k.run fun _ l => execAck2_keeps l, fun _ k => k.run fun _ l => execClr3_keeps l⟩
  · exact h.regPlain.thermJudge
  · exact h.regPlain

theorem State.Keeps.netStore {d cls : Nat} {g : RegHit} {v : Nat} (h : s.Keeps p t) : s.Keeps p (t.netStore d cls g v) := by
  dsimp only [State.netStore]
  split
  · exact h.run fun _ k => execRefselConfigWrite_keeps k
  · exact h.refCfg
  · exact h.regPlain.bwRefresh
  · exact .ite (h.run fun _ k => execFrameOutEnable_keeps k) (h.enReg (fun _ k => k) fun _ k => k.run fun _ l =>
      execFrameOutDisable_keeps l)
  · exact h.run fun _ k => execFrameOutRealign_keeps k
  · exact h.bitActs fun _ k => k.run fun _ l => execFrameOutRealign_keeps l
  · exact h.gpioCfg
  · exact h.bitActs fun _ k => k.run fun _ l => execMdllRelock_keeps l
  · exact h.run fun _ k => execMacModeWrite_keeps k
  · exact h.bitActs ⟨fun _ k => k.run fun _ l => execMacReset_keeps l, fun _ k => k.run fun _ l => execClrTsovf_keeps l, fun _ k =>
      k.run fun _ l => execAnrestart_keeps l⟩
  · exact h.run fun _ k => execTxqPiWrite_keeps k
  · exact h.regPlain.put.put.put
  · exact h.regPlain.put.put
  · exact h.put
  · exact h.enReg (fun _ k => k.run fun _ l => execStreamTxEnable_keeps l) fun _ k => k.run fun _ l => execStreamDisable_keeps l
  · exact h.enReg (fun _ k => k.run fun _ l => execStreamRxEnable_keeps l) fun _ k => k.run fun _ l => execStreamDisable_keeps l
  · exact h.bitActs ⟨fun _ k => k.run fun _ l => execPhcSnap_keeps l, fun _ k => k.run fun _ l => execPhcSet_keeps l⟩
  · exact h.servoCfgWrite
  · exact h.bitActs ⟨fun _ k => k.run fun _ l => execStepAck_keeps l, fun _ k => k.run fun _ l => execServoClr_keeps l⟩
  · exact h.run fun _ k => execServoOffsetWrite_keeps k
  · exact h.servoFbaseWrite
  · exact h.enReg (fun _ k => k.run fun _ l => execTsyncArm_keeps l) fun _ k => k.run fun _ l => execTsyncDisable_keeps l
  · exact h.bitActs fun _ k => k.run fun _ l => execBirayRetrain_keeps l
  · exact h.bitActs fun _ k => k.run fun _ l => execRingReenumerate_keeps l
  · exact h.run fun _ k => execPairidWrite_keeps k
  · exact h.bitActs ⟨fun _ k => k.run fun _ l => execActivate_keeps l, fun _ k => k.run fun _ l => execTakeover_keeps l, fun _ k =>
      k.run fun _ l => execPairSnapArm_keeps l, fun _ k => k.run fun _ l => execPairSnapCancel_keeps l⟩
  · exact h.ctlStore

theorem State.Keeps.regStore {d cls : Nat} {g : RegHit} {v : Nat} (h : s.Keeps p t) : s.Keeps p (t.regStore d cls g v) := by
  dsimp only [State.regStore]
  split
  · exact .ite (.enableEpochs (h.when fun _ k => k.put)) (.stopEpochs (h.when fun _ k => k.put))
  · exact h.bitActs ⟨fun _ k => k.run fun _ l => execCommitArm_keeps l, fun _ k => k.run fun _ l => execCommitCancel_keeps l, fun _
      k => k.run fun _ l => execSnapArm_keeps l, fun _ k => k.run fun _ l => execSnapCancel_keeps l⟩
  · exact h.domCfgWrite
  · exact .ite (h.when fun _ k => k.run fun _ l => execBridgeDisable_keeps l) (.ite (h.run fun _ k => execBridgeEnable_keeps k)
      h.brCfgFields)
  · exact h.newtCtl
  · exact h.regPlain.when fun _ k => k.put
  · exact h.bitActs fun _ k => k.run fun _ l => execNewtReset_keeps l
  · exact h.put
  · exact h.dbgLoop
  · exact h.dbgLoop
  · exact h.dbgLoop
  · exact h.when fun _ k => k.put
  · exact h.acceptPost
  · exact h.regPlain.bitActs fun _ k => k.run fun _ l => execTongueClrCnt_keeps l
  · exact h.regPlain.bitActs fun _ k => k.freezeCroak
  · exact h.slotCtrl
  · exact h.bitActs ⟨fun _ k => k.run fun _ l => execSlotClrFlags_keeps l, fun _ k => k.run fun _ l => execSlotClrPend_keeps l, fun
      _ k => k.run fun _ l => execSlotClrAff_keeps l⟩
  · exact h.when fun _ k => k.regPlain
  · exact h.when fun _ k => k.regPlain
  · exact h.chorusKick
  · exact h.when fun _ k => k.regPlain
  · exact h.when fun _ k => k.regPlain
  · exact h.when fun _ k => k.regPlain
  · exact h.lfCtl
  · exact h.regPlain.bitActs fun _ k => k.run fun _ l => execFuseBurn_keeps l
  · exact h.enReg (fun _ k => k.run fun _ l => execSapEnable_keeps l) fun _ k => k.run fun _ l => execSapDisable_keeps l
  · exact h.run fun _ k => execSlotmaskStage_keeps k
  · exact h.regPlain.pgRefresh
  · exact h.bitActs fun _ k => k.trainLink
  · exact .ite (h.run fun _ k => execDmaAbort_keeps k) (h.run fun _ k => execDmaStart_keeps k)
  · exact h.regPlain.put
  · exact h.when fun _ k => k.put
  · exact h.netStore

theorem State.Keeps.keepTied {d tie : Nat} {g : RegHit} {u : State} (h : s.Keeps p t) (_ : s.Keeps p u) : s.Keeps p (t.keepTied u d
    tie g) := h.each fun _ _ k => .ite k (.ite (k.when fun _ l => l.recordLast) (.ite k.put (k.when fun _ l => l.put)))

theorem State.Keeps.readClears {d tie : Nat} {g : RegHit} (h : s.Keeps p t) : s.Keeps p (t.readClears d tie g) := by
  dsimp only [State.readClears]
  split
  · exact h.firstRead
  · exact h
  · exact h.foldl fun _ _ k => k.when fun _ l => l.put

theorem State.Keeps.hold {r : FabReq} {kind key v : Nat} (h : s.Keeps p t) : s.Keeps p (t.hold r kind key v) := h.put.put.put

theorem State.Keeps.regRead {r : FabReq} {g : RegHit} (h : s.Keeps p t) : s.Keeps p (t.regRead r g) :=
  .ite h.reply (.ite (.reply (.readClears (h.when fun _ k => k.run fun _ l => execTsfPop_keeps l))) (.ite (.reply (.hold (h.when fun
    _ k => k.run fun _ l => execTsfPop_keeps l))) (.ite (.reply (.hold (h.when fun _ k => k.run fun _ l => execTsfPop_keeps l)))
    (.reply (h.when fun _ k => k.run fun _ l => execTsfPop_keeps l)))))

theorem State.Keeps.regTake {r : FabReq} {g : RegHit} {v : Nat} (h : s.Keeps p t) : s.Keeps p (t.regTake r g v) :=
  .ite (h.run fun _ k => execHostIpendClear_keeps k) (h.regStore.keepTied h)

theorem State.Keeps.regWrite {r : FabReq} {g : RegHit} (h : s.Keeps p t) : s.Keeps p (t.regWrite r g) :=
  .ite h.reply (.ite h.reply.regTake (.ite h.reply.hold (.ite h.reply.hold.regTake h.reply.regTake)))

theorem State.Keeps.regAccess {r : FabReq} {b : Block} {bi off : Nat} (h : s.Keeps p t) : s.Keeps p (t.regAccess r b bi off) := by
  dsimp only [State.regAccess]
  refine .ite (.ite h.store.reply h.reply) ?_
  split
  · exact h.reply
  · exact .ite h.regWrite h.regRead

theorem State.Keeps.serveAt {r : FabReq} {q : Place} (h : s.Keeps p t) : s.Keeps p (t.serveAt r q) := by
  dsimp only [State.serveAt]
  split
  · exact h.regAccess
  · exact h.memAccess

theorem State.Keeps.access {r : FabReq} (h : s.Keeps p t) : s.Keeps p (t.access r) := by
  have k := h.fabEnter (r := r)
  unfold State.access
  generalize t.fabEnter r = q at k ⊢
  obtain ⟨u, _ | _ | _⟩ := q
  · exact k
  · exact k.overLinks fun _ _ k => k.serveAt
  · exact k.overLinks fun _ _ k => k.remoteReq

theorem State.Keeps.remoteLost {q : RemoteAcc} (h : s.Keeps p t) : s.Keeps p (t.remoteLost q) := h.update.logDecode.incSat.fault

theorem State.Keeps.regCommand {d q addr : Nat} {write : Bool} {data tie before : Nat} {test : FabReq → Bool} (h : s.Keeps p t) :
    s.Keeps p (t.regCommand d q addr write data tie before test) := h.when fun _ k => k.access

theorem execRegisterWrite_keeps {mdie port addr data tie : Nat} (h : s.Keeps p t) : Result.Keeps s p (execRegisterWrite mdie port
    addr data tie t) := .next h.regCommand

theorem execRcRegisterRead_keeps {mdie port addr tie before : Nat} (h : s.Keeps p t) : Result.Keeps s p (execRcRegisterRead mdie
    port addr tie before t) := .next h.regCommand

theorem execReg64LowRead_keeps {mdie port addr tie : Nat} (h : s.Keeps p t) : Result.Keeps s p (execReg64LowRead mdie port addr tie
    t) := .next h.regCommand

theorem execReg64LowWrite_keeps {mdie port addr data : Nat} (h : s.Keeps p t) : Result.Keeps s p (execReg64LowWrite mdie port addr
    data t) := .next h.regCommand

theorem execReg64HighWrite_keeps {mdie port addr data tie : Nat} (h : s.Keeps p t) : Result.Keeps s p (execReg64HighWrite mdie port
    addr data tie t) := .next h.regCommand

theorem execDbgRegisterAccess_keeps {mdie port addr : Nat} {write : Bool} {data : Nat} (h : s.Keeps p t) : Result.Keeps s p
    (execDbgRegisterAccess mdie port addr write data t) := .next h.regCommand

theorem execFabricAccess_keeps {mdie port addr : Nat} {write : Bool} {len data : Nat} {rivals far : List Nat} {tie before : Nat} (h
    : s.Keeps p t) : Result.Keeps s p (execFabricAccess mdie port addr write len data rivals far tie before t) :=
  .next (h.when fun _ k => k.access)

/-! ### Machine/BootStep -/

theorem State.Keeps.bootStep {k : Nat} {dies : List Nat} (h : s.Keeps p t) : s.Keeps p (t.bootStep k dies) := h.put.put
theorem State.Keeps.bootLinks (h : s.Keeps p t) : s.Keeps p t.bootLinks := h.bootStep.each fun _ _ k => k.linksTrain

theorem State.Keeps.bootRelock (h : s.Keeps p t) : s.Keeps p t.bootRelock :=
  .bootStep (h.each fun _ _ k => k.run fun _ l => execMdllRelock_keeps l)

theorem State.Keeps.bootLeapfrog (h : s.Keeps p t) : s.Keeps p t.bootLeapfrog :=
  .ite h.bootRelock (.bootStep (h.each fun _ _ k => k.run fun _ l => execLfStart_keeps l))

theorem State.Keeps.bootNext (h : s.Keeps p t) : s.Keeps p t.bootNext := by
  dsimp only [State.bootNext]
  split
  · exact h.bootLeapfrog
  · exact h.bootRelock
  · exact h.bootLinks

theorem State.Keeps.bootPass {d : Nat} {steps : List Nat} (h : s.Keeps p t) : s.Keeps p (t.bootPass d steps) :=
  h.when fun _ k => k.put.when fun _ l => l.bootNext

theorem execMdllLockComplete_keeps {d pherr : Nat} (h : s.Keeps p t) : Result.Keeps s p (execMdllLockComplete d pherr t) :=
  .next (h.when fun _ k => .bootPass (.linksTrain (.put (k.put.inc.put.put.mdllUnbypass.mdllEnd.when fun _ l => l.fault))))

theorem execMdllLockTimeout_keeps {d : Nat} (h : s.Keeps p t) : Result.Keeps s p (execMdllLockTimeout d t) :=
  .next (h.when fun _ k => k.mdllUnbypass.condBegin.bootPass)

theorem execLfDone_keeps {d : Nat} {outcomes : List BankTest} {newtFail newtWaddr newtBit : Nat} (h : s.Keeps p t) : Result.Keeps s
    p (execLfDone d outcomes newtFail newtWaddr newtBit t) :=
  .next (h.when fun _ k => k.lfRecord.lfBanksDone.lfNewts.raises.lfEnd.put.bootPass)

/-! ### Machine/HostPort -/

theorem State.Keeps.hostAccess {bar o : Nat} {write : Bool} {len data : Nat} (h : s.Keeps p t) : s.Keeps p (t.hostAccess bar o write
    len data).1 := by
  dsimp only [State.hostAccess]
  split
  · simp only [apply_ite Prod.fst]
    exact .ite h.drawn.logDecode h.drawn.reply
  · simp only [apply_ite Prod.fst]
    exact .ite h.reply h.access

theorem State.Keeps.hostErr {a : Nat} (h : s.Keeps p t) : s.Keeps p (t.hostErr a) := .fault (h.when fun _ k => k.put.put)
theorem State.Keeps.complete {status data : Nat} (h : s.Keeps p t) : s.Keeps p (t.complete status data) := h.send
theorem State.Keeps.aerLog {bit : Nat} (h : s.Keeps p t) : s.Keeps p (t.aerLog bit) := h.put

theorem State.Keeps.unsupported {posted : Bool} (h : s.Keeps p t) : s.Keeps p (t.unsupported posted) :=
  h.aerLog.put.when fun _ k => k.complete

theorem State.Keeps.hostTook {k : HostTask} {i a : Nat} (h : s.Keeps p t) : s.Keeps p (t.hostTook k i a).1 :=
  h.when fun _ k => k.put.hostErr

theorem State.Keeps.qspiLate {v : Nat} {l : List Nat} (h : s.Keeps p t) : s.Keeps p (t.qspiLate v l).1 := by
  induction l generalizing t v with
  | nil => exact h
  | cons x l ih =>
    dsimp only [State.qspiLate]
    exact ih h.drawn

theorem State.Keeps.hostEnd {k : HostTask} (h : s.Keeps p t) : s.Keeps p (t.hostEnd k) := by
  dsimp only [State.hostEnd]
  refine .ite (h.when fun _ k => k.qspiLate.reply) ?_
  split
  · exact h.hostErr.when fun _ k => k.aerLog.complete
  · exact h.when fun _ k => k.complete

theorem State.Keeps.hostServe {k : HostTask} {l : List (Nat × Nat)} (h : s.Keeps p t) : s.Keeps p (t.hostServe k l) := by
  induction l generalizing t k with
  | nil =>
    dsimp only [State.hostServe]
    exact h.hostEnd
  | cons x l ih =>
    dsimp only [State.hostServe]
    split
    · exact h.hostAccess.update
    · exact ih h.hostAccess.hostTook

theorem State.Keeps.hostTake {k : HostTask} (h : s.Keeps p t) : s.Keeps p (t.hostTake k) := .ite h.hostServe h.update

theorem State.Keeps.hostNext {n : Nat} (h : s.Keeps p t) : s.Keeps p (t.hostNext n) := by
  induction n generalizing t with
  | zero => exact h
  | succ n ih =>
    dsimp only [State.hostNext]
    split
    · exact h
    · exact .ite h (ih h.update.hostServe)

theorem State.Keeps.hostResume {tag : Nat} (h : s.Keeps p t) : s.Keeps p (t.hostResume tag) := by
  dsimp only [State.hostResume]
  split
  · exact h
  · exact .ite h.update.hostTook.hostServe.hostNext h

theorem execPcieMemoryRequest_keeps {addr : Nat} {write : Bool} {n en data : Nat} (h : s.Keeps p t) : Result.Keeps s p
    (execPcieMemoryRequest addr write n en data t) := by
  dsimp only [execPcieMemoryRequest]
  refine .next (h.when fun _ k => ?_)
  split
  · exact k.unsupported
  · exact k.hostTake

theorem State.Keeps.endpointReset (h : s.Keeps p t) : s.Keeps p t.endpointReset :=
  .fault (.put (.put (.put (.put (.each (h.each fun _ _ k => k.put) fun _ _ k => k.put.put.put.put)))))

theorem State.Keeps.hostEnds {addr len : Nat} {beats : List Nat} (h : s.Keeps p t) : s.Keeps p (t.hostEnds addr len beats) :=
  h.update.truncate

theorem State.Keeps.configWrite {v a : Nat} (h : s.Keeps p t) : s.Keeps p (t.configWrite v a) := by
  dsimp only [State.configWrite]
  split
  · exact h.put
  · exact h.put
  · exact h.put
  · exact h.put
  · exact h.put
  · exact .ite h.put (h.when fun _ k => k.put)
  · exact .ite h.put.put (h.put.run fun _ k => execMsixUnmask_keeps k)
  · exact .when (h.put.when fun _ k => k.put) fun _ k => k.hostEnds.endpointReset
  · exact h.put
  · exact h.put
  · exact h.put
  · exact h

theorem execPcieConfigRequest_keeps {reg : Nat} {write : Bool} {data : Nat} (h : s.Keeps p t) : Result.Keeps s p
    (execPcieConfigRequest reg write data t) := .next (h.when fun _ k => .ite k.configWrite.complete k.complete)

theorem execPcieLinkChange_keeps {up speed width : Nat} {byReset : Bool} (h : s.Keeps p t) : Result.Keeps s p (execPcieLinkChange up
    speed width byReset t) := .next (h.when fun _ k => .ite k.put.put.put.condEnd (k.put.put.put.when fun _ l => l.condBegin))

theorem execFlr_keeps {addr len : Nat} {beats : List Nat} (h : s.Keeps p t) : Result.Keeps s p (execFlr addr len beats t) :=
  .next (h.when fun _ k => k.hostEnds.endpointReset)

theorem execPciePerst_keeps {level addr len : Nat} {beats : List Nat} (h : s.Keeps p t) : Result.Keeps s p (execPciePerst level addr
    len beats t) := .next (.ite h.put (.put (h.when fun _ k => k.hostEnds.endpointReset.put.put.put)))

theorem State.Keeps.qspiBegin {cmd nibbles : Nat} (h : s.Keeps p t) : s.Keeps p (t.qspiBegin cmd nibbles) := h.put.put
theorem State.Keeps.qspiBad {cmd : Nat} (h : s.Keeps p t) : s.Keeps p (t.qspiBad cmd) := h.qspiBegin.put.put.fault

theorem State.Keeps.qspiRead {cmd bar o n nibbles : Nat} {late : List Nat} (h : s.Keeps p t) : s.Keeps p (t.qspiRead cmd bar o n
    nibbles late) := h.when fun _ k => .ite k.qspiBad k.qspiBegin.hostTake

theorem State.Keeps.qspiWrite {cmd bar o : Nat} {words : List Nat} {nibbles : Nat} (h : s.Keeps p t) : s.Keeps p (t.qspiWrite cmd
    bar o words nibbles) := h.when fun _ k => .ite k.qspiBad k.qspiBegin.hostTake

theorem execRd0_keeps {offset words nibbles : Nat} {late : List Nat} (h : s.Keeps p t) : Result.Keeps s p (execRd0 offset words
    nibbles late t) := .next h.qspiRead

theorem execRd2_keeps {offset words nibbles : Nat} {late : List Nat} (h : s.Keeps p t) : Result.Keeps s p (execRd2 offset words
    nibbles late t) := .next h.qspiRead

theorem execWr0_keeps {offset : Nat} {data : List Nat} {nibbles : Nat} (h : s.Keeps p t) : Result.Keeps s p (execWr0 offset data
    nibbles t) := .next h.qspiWrite

theorem execWr2_keeps {offset : Nat} {data : List Nat} {nibbles : Nat} (h : s.Keeps p t) : Result.Keeps s p (execWr2 offset data
    nibbles t) := .next h.qspiWrite

theorem execStat_keeps {nibbles : Nat} (h : s.Keeps p t) : Result.Keeps s p (execStat nibbles t) :=
  .next (h.when fun _ k => k.qspiBegin.reply)

theorem execBadCommand_keeps {cmd : Nat} (h : s.Keeps p t) : Result.Keeps s p (execBadCommand cmd t) :=
  .next (h.when fun _ k => k.qspiBad)

theorem execQspiCsRise_keeps (h : s.Keeps p t) : Result.Keeps s p (execQspiCsRise t) :=
  .next (h.put.put.put.update.hostNext.when fun _ k => k.put.fault)

/-! ### Machine/Boot -/

theorem State.Keeps.burnsCut (h : s.Keeps p t) : s.Keeps p t.burnsCut := h.each fun _ _ k => k.each fun _ _ l => l.put

theorem State.Keeps.powerOn (h : s.Keeps p t) : s.Keeps p t.powerOn := by
  refine ⟨fun c => ?_, h.pending, by simp [State.powerOn, State.reset]⟩
  rw [State.canonical_iff]
  exact ⟨Cells.wf_filter _ ((State.canonical_iff _).1 (h.burnsCut.canonical c)).1,
    Memory.wf_filter _ ((State.canonical_iff _).1 (h.canonical c)).2⟩

theorem State.Keeps.openPage {q : Nat} (h : s.Keeps p t) : s.Keeps p (t.openPage q) := h.storeBytes.drawn
theorem State.Keeps.cutPage {q : Nat} (h : s.Keeps p t) : s.Keeps p (t.cutPage q) := h.openPage.put.store.drawn

theorem execPorstAssert_keeps (h : s.Keeps p t) : Result.Keeps s p (execPorstAssert t) :=
  .next (.put (.powerOn (h.when fun _ k => k.cutPage)))

theorem State.Keeps.loadRepair (h : s.Keeps p t) : s.Keeps p t.loadRepair :=
  .each (h.each fun _ _ k => k.when fun _ l => l.repPut) fun _ _ k => k.raises

theorem State.Keeps.bootBegin {set : Nat} {stage2 : List Nat} (h : s.Keeps p t) : s.Keeps p (t.bootBegin set stage2) :=
  h.loadRepair.put.when fun _ k => k.storeBytes.bootStep

theorem execPorstRelease_keeps {bootsrc head hostsel test : Nat} {good1 good2 : Bool} {stage2 : List Nat} (h : s.Keeps p t) :
    Result.Keeps s p (execPorstRelease bootsrc head hostsel test good1 good2 stage2 t) :=
  .next (.when (h.powerOn.put.put.put.put.put.put.put.put.each fun _ _ k => k.mdllStart) fun _ k => k.bootBegin.condBegin)

theorem execRingStep_keeps (h : s.Keeps p t) : Result.Keeps s p (execRingStep t) :=
  .next (h.when fun _ k => .readyDue (k.put.put.put.when fun _ l => l.enumStart))

theorem State.Keeps.scanned (h : s.Keeps p t) : s.Keeps p t.scanned := h.each fun _ _ k => k.setRead

theorem State.Keeps.snapshot (h : s.Keeps p t) : s.Keeps p t.snapshot := by
  dsimp only [State.snapshot]
  refine .ite h (.ite h.put ?_)
  split
  · exact h
  · exact h.scanned.storeBytes.drawn.drawn.put.put

theorem execPfailAccept_keeps (h : s.Keeps p t) : Result.Keeps s p (execPfailAccept t) :=
  .next (h.when fun _ k => k.put.when fun _ l => l.snapshot)

theorem State.Keeps.sleepAck (h : s.Keeps p t) : s.Keeps p t.sleepAck := .put (.put (.put (h.when fun _ k => k.put)))

theorem execSnapshotProgramDone_keeps (h : s.Keeps p t) : Result.Keeps s p (execSnapshotProgramDone t) :=
  .next (h.when fun _ k => k.storeBytes.put.put.when fun _ l => l.sleepAck)

theorem execSnapshotErase_keeps (h : s.Keeps p t) : Result.Keeps s p (execSnapshotErase t) := by
  dsimp only [execSnapshotErase]
  refine .next (h.when fun _ k => k.put.when fun _ l => ?_)
  split
  · exact l
  · exact l.cutPage.put.put

theorem execSnapshotEraseDone_keeps (h : s.Keeps p t) : Result.Keeps s p (execSnapshotEraseDone t) :=
  .next (h.when fun _ k => k.storeBytes.put.put)

theorem execSleepEntry_keeps (h : s.Keeps p t) : Result.Keeps s p (execSleepEntry t) :=
  .next (h.when fun _ k => .ite k.snapshot.put k.snapshot.sleepAck)

/-! ### Machine/Csf -/

theorem State.Keeps.csfReg {d : Nat} {b : Block} {bi off : Nat} (h : s.Keeps p t) : s.Keeps p (t.csfReg d b bi off).1 := by
  dsimp only [State.csfReg]
  split
  · exact h
  · exact h.readClears

theorem State.Keeps.csfRegs {d : Nat} {b : Block} {bi w : Nat} {l : List Nat} (h : s.Keeps p t) : s.Keeps p (t.csfRegs d b bi w l).1 := by
  induction l generalizing t with
  | nil => exact h
  | cons x l ih =>
    dsimp only [State.csfRegs]
    exact ih h.csfReg

theorem State.Keeps.csfWords {d : Nat} {l : List Nat} (h : s.Keeps p t) : s.Keeps p (t.csfWords d l).1 := by
  induction l generalizing t with
  | nil => exact h
  | cons x l ih =>
    dsimp only [State.csfWords]
    exact ih h.csfRead

theorem execUnknownOpcode_keeps {pair : Nat} (h : s.Keeps p t) : Result.Keeps s p (execUnknownOpcode pair t) :=
  .next (h.when fun _ k => k.turned.respond)

theorem execSysInfo_keeps {pair : Nat} (h : s.Keeps p t) : Result.Keeps s p (execSysInfo pair t) :=
  .next (h.serve fun _ _ k => CsfMsg.ok_keeps k.drawn)

theorem execSysStatus_keeps {pair : Nat} (h : s.Keeps p t) : Result.Keeps s p (execSysStatus pair t) :=
  .next (h.serve fun _ _ k => CsfMsg.ok_keeps k)

theorem execSysEvents_keeps {pair : Nat} (h : s.Keeps p t) : Result.Keeps s p (execSysEvents pair t) :=
  .next (h.serve fun _ _ k => CsfMsg.ok_keeps k.put)

theorem execSysRestartTail_keeps {pair : Nat} (h : s.Keeps p t) : Result.Keeps s p (execSysRestartTail pair t) :=
  .next (h.serve fun _ _ k => CsfMsg.ok_keeps k.restartTail)

theorem execSysEcho_keeps {pair : Nat} (h : s.Keeps p t) : Result.Keeps s p (execSysEcho pair t) :=
  .next (h.serve fun _ _ k => CsfMsg.ok_keeps k)

theorem execGraphLoadBegin_keeps {pair : Nat} (h : s.Keeps p t) : Result.Keeps s p (execGraphLoadBegin pair t) := by
  dsimp only [execGraphLoadBegin]
  refine .next (h.when fun _ k => k.serve fun _ _ l => ?_)
  split
  · exact CsfMsg.refuse_keeps l
  · simp only [apply_ite CsfReply.st]
    exact .ite (CsfMsg.refuse_keeps l) (CsfMsg.ok_keeps (.put (.put (.put (.zeroKeys (.update (l.each fun _ _ k => k.run fun _ l =>
      execNewtReset_keeps l)))))))

theorem execGraphLoadData_keeps {pair : Nat} (h : s.Keeps p t) : Result.Keeps s p (execGraphLoadData pair t) := by
  dsimp only [execGraphLoadData]
  refine .next (h.serve fun _ _ k => ?_)
  split
  · exact CsfMsg.refuse_keeps k
  · simp only [apply_ite CsfReply.st]
    exact .ite (CsfMsg.refuse_keeps k) (CsfMsg.ok_keeps k.storeBytes)

theorem State.Keeps.placeBytes {q : PlaceDef} (h : s.Keeps p t) : s.Keeps p (t.placeBytes q) := h.each fun _ _ k => k.access

theorem State.Keeps.placeElems {d : Nat} {l : List (Nat × Nat)} {init : List Nat} (h : s.Keeps p t) : s.Keeps p (t.placeElems d l
    init) := h.each fun _ _ k => k.csfWrite.csfWrite

theorem State.Keeps.grantSram {d cls w : Nat} (h : s.Keeps p t) : s.Keeps p (t.grantSram d cls w) := h.when fun _ k => k.put

theorem State.Keeps.grantElems {g : GraphImage} (h : s.Keeps p t) : s.Keeps p (t.grantElems g) :=
  .each (h.each fun _ _ k => k.each fun _ _ l => l.grantSram) fun _ _ k => .when (k.when fun _ l => l.grantSram) fun _ l =>
    l.grantSram

theorem State.Keeps.placeImage {g : GraphImage} (h : s.Keeps p t) : s.Keeps p (t.placeImage g) :=
  .put (.grantElems (.each (.each (.update (h.each fun _ _ k => k.placeBytes)) fun _ _ k => k.placeElems) fun _ _ k =>
    k.placeElems))

theorem execGraphLoadEnd_keeps {pair : Nat} {image : GraphImage} {fits partnerOk : Bool} (h : s.Keeps p t) : Result.Keeps s p
    (execGraphLoadEnd pair image fits partnerOk t) := by
  dsimp only [execGraphLoadEnd]
  refine .next (h.when fun _ k => k.serve fun _ _ l => ?_)
  split
  · exact CsfMsg.refuse_keeps l
  · simp only [apply_ite CsfReply.st]
    exact .ite (CsfMsg.refuse_keeps l) (.ite (CsfMsg.refuse_keeps l) (.ite (CsfMsg.refuse_keeps l) (CsfMsg.ok_keeps l.placeImage)))

theorem execGraphStart_keeps {pair : Nat} (h : s.Keeps p t) : Result.Keeps s p (execGraphStart pair t) := by
  dsimp only [execGraphStart]
  refine .next (h.serve fun _ _ k => ?_)
  split
  · exact CsfMsg.refuse_keeps k
  · simp only [apply_ite CsfReply.st]
    exact .ite (CsfMsg.ok_keeps (k.each fun _ _ k => k.enableEpochs)) (.ite (CsfMsg.refuse_keeps k) (.ite (CsfMsg.refuse_keeps k)
      k.update.startGo))

theorem execGraphStop_keeps {pair : Nat} (h : s.Keeps p t) : Result.Keeps s p (execGraphStop pair t) := by
  dsimp only [execGraphStop]
  refine .next (h.serve fun _ _ k => ?_)
  split
  · exact CsfMsg.refuse_keeps k
  · exact CsfMsg.ok_keeps (k.each fun _ _ k => k.stopEpochs)

theorem execGraphQueryLatency_keeps {pair : Nat} (h : s.Keeps p t) : Result.Keeps s p (execGraphQueryLatency pair t) := by
  dsimp only [execGraphQueryLatency]
  refine .next (h.serve fun _ _ k => ?_)
  split
  · exact CsfMsg.refuse_keeps k
  · exact CsfMsg.ok_keeps k

theorem execGraphQueryBridge_keeps {pair : Nat} (h : s.Keeps p t) : Result.Keeps s p (execGraphQueryBridge pair t) := by
  dsimp only [execGraphQueryBridge]
  refine .next (h.serve fun _ _ k => ?_)
  split
  · exact CsfMsg.refuse_keeps k
  · simp only [apply_ite CsfReply.st]
    exact .ite (CsfMsg.refuse_keeps k) (CsfMsg.ok_keeps k)

theorem execParamGet_keeps {pair : Nat} (h : s.Keeps p t) : Result.Keeps s p (execParamGet pair t) := by
  dsimp only [execParamGet]
  refine .next (h.serve fun _ _ k => ?_)
  split
  · exact CsfMsg.refuse_keeps k
  · simp only [apply_ite CsfReply.st]
    exact .ite (CsfMsg.refuse_keeps k) (.ite (CsfMsg.refuse_keeps k.csfWords) (CsfMsg.ok_keeps k.csfWords))

theorem execMeterSnapshot_keeps {pair : Nat} (h : s.Keeps p t) : Result.Keeps s p (execMeterSnapshot pair t) := by
  dsimp only [execMeterSnapshot]
  refine .next (h.serve fun _ _ k => ?_)
  split
  · exact CsfMsg.refuse_keeps k
  · simp only [apply_ite CsfReply.st]
    exact .ite (CsfMsg.refuse_keeps k) (.ite (CsfMsg.refuse_keeps k) (.ite (CsfMsg.refuse_keeps k) (.ite (CsfMsg.refuse_keeps k)
      (CsfMsg.ok_keeps (k.put.run fun _ k => execSnapArm_keeps k)))))

theorem execMeterRead_keeps {pair : Nat} (h : s.Keeps p t) : Result.Keeps s p (execMeterRead pair t) := by
  dsimp only [execMeterRead]
  refine .next (h.serve fun _ _ k => ?_)
  split
  · exact CsfMsg.refuse_keeps k
  · simp only [apply_ite CsfReply.st]
    refine .ite (CsfMsg.refuse_keeps k) ?_
    split
    · exact CsfMsg.ok_keeps k.drawn
    · exact CsfMsg.ok_keeps k

/-! ### Machine/CsfTx -/

theorem State.Keeps.txPrune (h : s.Keeps p t) : s.Keeps p t.txPrune := h.update
theorem State.Keeps.txMove {x : CsfTx} (h : s.Keeps p t) : s.Keeps p (t.txMove x) := h.update.txPrune
theorem State.Keeps.txKeep {x : CsfTx} (h : s.Keeps p t) : s.Keeps p (t.txKeep x) := h.update
theorem State.Keeps.txNew {D : Nat} {elems : List TxElem} (h : s.Keeps p t) : s.Keeps p (t.txNew D elems).1 := h.put.update

theorem State.Keeps.csfRemote {w d a v : Nat} {write : Bool} {far : List FarAnswer} (h : s.Keeps p t) :
    s.Keeps p (t.csfRemote w d a write v far).1 := by
  have k := h.fabEnter (r := t.request 6 17 (w * 2 ^ 36 + d * 2 ^ 32 + a) write 4 v)
  unfold State.csfRemote
  generalize t.fabEnter (t.request 6 17 (w * 2 ^ 36 + d * 2 ^ 32 + a) write 4 v) = q at k ⊢
  obtain ⟨u, _ | _ | _⟩ := q
  · exact k
  · exact k
  · dsimp only
    split <;> dsimp only
    · exact k.remoteReq.update.reply
    · exact k.remoteReq.update.reply
    · exact k.remoteReq.remoteLost
    · exact k.remoteReq

theorem State.Keeps.wordPut {w d a v : Nat} {far : List FarAnswer} (h : s.Keeps p t) : s.Keeps p (t.wordPut w d a v far).1 := by
  dsimp only [State.wordPut]
  simp only [apply_ite Prod.fst]
  exact .ite h.csfWrite h.csfRemote

theorem State.Keeps.wordGet {w d a : Nat} {far : List FarAnswer} (h : s.Keeps p t) : s.Keeps p (t.wordGet w d a far).1 := by
  dsimp only [State.wordGet]
  simp only [apply_ite Prod.fst]
  exact .ite h.csfRead h.csfRemote

theorem State.Keeps.farPuts {w : Nat} {far : List FarAnswer} {l : List (Nat × Nat × Nat)} (h : s.Keeps p t) : s.Keeps p (t.farPuts w
    far l).1 := by
  induction l generalizing t far with
  | nil => exact h
  | cons x l ih =>
    dsimp only [State.farPuts]
    simp only [apply_ite Prod.fst]
    exact .ite (ih h.wordPut) h.wordPut

theorem State.Keeps.genGet {w d D : Nat} {far : List FarAnswer} (h : s.Keeps p t) : s.Keeps p (t.genGet w d D far).1 := by
  dsimp only [State.genGet]
  simp only [apply_ite Prod.fst]
  exact .ite h h.csfRemote

theorem State.Keeps.stageCopies {D : Nat} {far : List FarAnswer} {l : List (TxElem × Nat)} (h : s.Keeps p t) : s.Keeps p
    (t.stageCopies D far l).st := by
  induction l generalizing t far with
  | nil => exact h
  | cons x l ih =>
    dsimp only [State.stageCopies]
    split
    · exact h.genGet
    · simp only [apply_ite Staging.st]
      exact .ite h.genGet.wordPut (ih h.genGet.wordPut)

theorem State.Keeps.catchCopies {D : Nat} {far : List FarAnswer} {l : List (TxElem × Nat)} (h : s.Keeps p t) : s.Keeps p
    (t.catchCopies D far l) := by
  induction l generalizing t far with
  | nil => exact h
  | cons x l ih =>
    dsimp only [State.catchCopies]
    exact ih h.stageCopies

theorem State.Keeps.restoreCopies {D : Nat} {far : List FarAnswer} {l : List (TxElem × Nat)} (h : s.Keeps p t) : s.Keeps p
    (t.restoreCopies D far l) := by
  induction l generalizing t far with
  | nil => exact h
  | cons x l ih =>
    dsimp only [State.restoreCopies]
    split
    · exact ih h.genGet
    · split
      · exact ih h.genGet.wordGet
      · exact ih h.genGet.wordGet.wordPut

theorem State.Keeps.txFail {x : CsfTx} {status : Nat} (h : s.Keeps p t) : s.Keeps p (t.txFail x status) := h.txMove.csfEvent

theorem State.Keeps.txArm {x : CsfTx} {far : List FarAnswer} (h : s.Keeps p t) : s.Keeps p (t.txArm x far).1 := by
  dsimp only [State.txArm]
  simp only [apply_ite Prod.fst]
  exact .ite h.stageCopies.restoreCopies.txFail (.ite h.stageCopies.restoreCopies.txFail (.ite (.txFail (.restoreCopies
    (h.stageCopies.put.run fun _ k => execCommitArm_keeps k))) (.txMove (h.stageCopies.put.run fun _ k => execCommitArm_keeps k))))

theorem State.Keeps.commitAt {x : CsfTx} {T : Nat} {far : List FarAnswer} (h : s.Keeps p t) : s.Keeps p (t.commitAt x T far).st := by
  dsimp only [State.commitAt]
  simp only [apply_ite CsfReply.st]
  exact .ite h (.ite h.txMove (.ite h.txArm h.txArm))

theorem CsfMsg.withTx_keeps {m : CsfMsg} {act : CsfTx → CsfReply} (h : s.Keeps p t)
    (ha : ∀ x, s.Keeps p (act x).st) : s.Keeps p (m.withTx t act).st := by
  unfold CsfMsg.withTx
  split
  · exact CsfMsg.refuse_keeps h
  · exact ha _

theorem execTxBegin_keeps {pair : Nat} (h : s.Keeps p t) : Result.Keeps s p (execTxBegin pair t) := by
  dsimp only [execTxBegin]
  refine .next (h.serve fun _ _ k => ?_)
  split
  · exact CsfMsg.refuse_keeps k
  · simp only [apply_ite CsfReply.st]
    exact .ite (CsfMsg.refuse_keeps k) (.ite (CsfMsg.refuse_keeps k) k.txNew)

theorem State.Keeps.txBuffer {m : CsfMsg} {x : CsfTx} {new evts : List TxElem} (h : s.Keeps p t) : s.Keeps p (t.txBuffer m x new
    evts).st := by
  dsimp only [State.txBuffer]
  simp only [apply_ite CsfReply.st]
  exact .ite (CsfMsg.refuse_keeps h) (CsfMsg.ok_keeps h.txKeep)

theorem execTxSet_keeps {pair : Nat} (h : s.Keeps p t) : Result.Keeps s p (execTxSet pair t) := by
  dsimp only [execTxSet]
  refine .next (h.serve fun _ _ k => CsfMsg.withTx_keeps k (fun _ => ?_))
  split
  · exact CsfMsg.refuse_keeps k
  · split
    · exact CsfMsg.refuse_keeps k
    · simp only [apply_ite CsfReply.st]
      exact .ite (CsfMsg.refuse_keeps k) k.txBuffer

theorem execTxCommitAt_keeps {pair : Nat} {far : List FarAnswer} (h : s.Keeps p t) : Result.Keeps s p (execTxCommitAt pair far t) := by
  dsimp only [execTxCommitAt]
  refine .next (h.serve fun _ _ k => CsfMsg.withTx_keeps k (fun _ => ?_))
  split
  · exact CsfMsg.refuse_keeps k
  · exact k.commitAt

theorem execTxArm_keeps {D : Nat} {far : List FarAnswer} (h : s.Keeps p t) : Result.Keeps s p (execTxArm D far t) := by
  dsimp only [execTxArm]
  refine .next (h.when fun _ k => ?_)
  split
  · exact k
  · exact k.txArm

theorem execCatchUp_keeps {D : Nat} {far : List FarAnswer} (h : s.Keeps p t) : Result.Keeps s p (execCatchUp D far t) := by
  dsimp only [execCatchUp]
  refine .next (h.when fun _ k => ?_)
  split
  · exact k
  · exact k.catchCopies.put.put.txMove.csfEvent

theorem execTxAbort_keeps {pair : Nat} {far : List FarAnswer} (h : s.Keeps p t) : Result.Keeps s p (execTxAbort pair far t) := by
  dsimp only [execTxAbort]
  refine .next (h.serve fun _ _ k => CsfMsg.withTx_keeps k (fun _ => ?_))
  split
  · exact CsfMsg.ok_keeps k.txMove
  · simp only [apply_ite CsfReply.st]
    exact .ite (.ite (CsfMsg.refuse_keeps (k.run fun _ k => execCommitCancel_keeps k)) (CsfMsg.ok_keeps (.txMove (.restoreCopies
      (k.run fun _ k => execCommitCancel_keeps k))))) (CsfMsg.refuse_keeps k)

theorem execTxStatus_keeps {pair : Nat} (h : s.Keeps p t) : Result.Keeps s p (execTxStatus pair t) :=
  .next (h.serve fun _ _ k => CsfMsg.withTx_keeps k (fun _ => CsfMsg.ok_keeps k))

theorem State.Keeps.busCheck {w d b D : Nat} {far : List FarAnswer} (h : s.Keeps p t) : s.Keeps p (t.busCheck w d b D far).1 := by
  dsimp only [State.busCheck]
  simp only [apply_ite Prod.fst]
  exact .ite h h.csfRemote

theorem execRouteSet_keeps {pair : Nat} {far : List FarAnswer} (h : s.Keeps p t) : Result.Keeps s p (execRouteSet pair far t) := by
  dsimp only [execRouteSet]
  refine .next (h.serve fun _ _ k => CsfMsg.withTx_keeps k (fun _ => ?_))
  split
  · exact CsfMsg.refuse_keeps k
  · split
    · simp only [apply_ite CsfReply.st]
      refine .ite (CsfMsg.refuse_keeps k) ?_
      split
      · exact CsfMsg.refuse_keeps k.busCheck
      · exact CsfMsg.refuse_keeps k.busCheck
      · exact k.busCheck.txBuffer
    · exact CsfMsg.refuse_keeps k

theorem State.Keeps.sourceHandle {d a : Nat} (h : s.Keeps p t) : s.Keeps p (t.sourceHandle d a).1 := by
  dsimp only [State.sourceHandle]
  split
  · exact h.drawn
  · exact h

theorem State.Keeps.routeRecord {g d : Nat} {w : List Nat} (h : s.Keeps p t) : s.Keeps p (t.routeRecord g d w).1 :=
  h.sourceHandle.drawn

theorem execRouteGet_keeps {pair : Nat} (h : s.Keeps p t) : Result.Keeps s p (execRouteGet pair t) := by
  dsimp only [execRouteGet]
  refine .next (h.serve fun _ _ k => ?_)
  split
  · exact CsfMsg.refuse_keeps k
  · simp only [apply_ite CsfReply.st]
    exact .ite (CsfMsg.refuse_keeps k.csfWords) (CsfMsg.ok_keeps k.csfWords.routeRecord)

theorem execRouteXflen_keeps {pair : Nat} {far : List FarAnswer} (h : s.Keeps p t) : Result.Keeps s p (execRouteXflen pair far t) := by
  dsimp only [execRouteXflen]
  refine .next (h.serve fun _ _ k => ?_)
  split
  · exact CsfMsg.refuse_keeps k
  · simp only [apply_ite CsfReply.st]
    refine .ite (CsfMsg.refuse_keeps k) (.ite (CsfMsg.refuse_keeps ?_) (CsfMsg.ok_keeps (.each ?_ fun _ _ k => k.put)))
    · split
      · exact k
      · exact k.farPuts
    · split
      · exact k
      · exact k.farPuts

theorem State.Keeps.livePass {gen : Nat} {far : List FarAnswer} {l : List TxElem} (h : s.Keeps p t) : s.Keeps p (t.livePass gen far
    l).st := by
  induction l generalizing t far with
  | nil => exact h
  | cons x l ih =>
    dsimp only [State.livePass]
    exact ih h.wordGet

theorem State.Keeps.liveGroup {D w d : Nat} {far : List FarAnswer} {l : List TxElem} {n : Nat} (h : s.Keeps p t) : s.Keeps p
    (t.liveGroup D w d far l n).st := by
  induction n generalizing t far with
  | zero => exact h
  | succ n ih =>
    dsimp only [State.liveGroup]
    split
    · exact h.genGet
    · simp only [apply_ite LiveRead.st]
      exact .ite h.genGet.livePass.genGet (.ite h.genGet.livePass.genGet (ih h.genGet.livePass.genGet))

theorem State.Keeps.liveGroups {D : Nat} {far : List FarAnswer} {l : List (List TxElem)} (h : s.Keeps p t) :
    s.Keeps p (t.liveGroups D far l).st := by
  induction l generalizing t far with
  | nil => exact h
  | cons g l ih =>
    cases g with
    | nil => exact ih h
    | cons => exact ih h.liveGroup

theorem State.Keeps.liveElems {D : Nat} {far : List FarAnswer} {l : List TxElem} (h : s.Keeps p t) : s.Keeps p (t.liveElems D far
    l).st := h.liveGroups

theorem State.Keeps.liveRoutes {D : Nat} {far : List FarAnswer} {l : List (List TxElem)} (h : s.Keeps p t) : s.Keeps p (t.liveRoutes
    D far l).1 := by
  induction l generalizing t far with
  | nil => exact h
  | cons x l ih =>
    dsimp only [State.liveRoutes]
    exact ih h.liveElems

theorem execSceneStore_keeps {pair : Nat} {far : List FarAnswer} (h : s.Keeps p t) : Result.Keeps s p (execSceneStore pair far t) := by
  dsimp only [execSceneStore]
  refine .next (h.serve fun _ _ k => ?_)
  split
  · exact CsfMsg.refuse_keeps k
  · split
    · exact CsfMsg.refuse_keeps k
    · simp only [apply_ite CsfReply.st]
      exact .ite (CsfMsg.refuse_keeps k.liveElems.liveRoutes) (.ite (CsfMsg.refuse_keeps k.liveElems.liveRoutes) (CsfMsg.ok_keeps
        k.liveElems.liveRoutes.update))

theorem execSceneRecall_keeps {pair : Nat} {far : List FarAnswer} (h : s.Keeps p t) : Result.Keeps s p (execSceneRecall pair far t) := by
  dsimp only [execSceneRecall]
  refine .next (h.serve fun _ _ k => ?_)
  split
  · exact CsfMsg.refuse_keeps k
  · split
    · exact CsfMsg.refuse_keeps k
    · simp only [apply_ite CsfReply.st]
      exact .ite (CsfMsg.refuse_keeps k) (.ite (CsfMsg.refuse_keeps k) (.ite (CsfMsg.refuse_keeps k.liveElems.liveRoutes) (.ite
        (CsfMsg.refuse_keeps k.liveElems.liveRoutes) k.liveElems.liveRoutes.txNew.commitAt)))

theorem execSceneDelete_keeps {pair : Nat} (h : s.Keeps p t) : Result.Keeps s p (execSceneDelete pair t) := by
  dsimp only [execSceneDelete]
  refine .next (h.serve fun _ _ k => ?_)
  split
  · exact CsfMsg.refuse_keeps k
  · simp only [apply_ite CsfReply.st]
    exact .ite (CsfMsg.refuse_keeps k) (CsfMsg.ok_keeps k.update)

theorem execSceneList_keeps {pair : Nat} (h : s.Keeps p t) : Result.Keeps s p (execSceneList pair t) :=
  .next (h.serve fun _ _ k => CsfMsg.ok_keeps k)

/-! ### Machine/CsfNet -/

theorem execClkDomainSet_keeps {pair : Nat} (h : s.Keeps p t) : Result.Keeps s p (execClkDomainSet pair t) := by
  dsimp only [execClkDomainSet]
  refine .next (h.serve fun _ _ k => ?_)
  split
  · exact CsfMsg.refuse_keeps k
  · simp only [apply_ite CsfReply.st]
    exact .ite (CsfMsg.refuse_keeps k) (CsfMsg.ok_keeps k.put.domCfgWrite)

theorem State.Keeps.refNominal {r pol num den : Nat} (h : s.Keeps p t) : s.Keeps p (t.refNominal r pol num den) :=
  h.when fun _ k => k.put.put.put

theorem execClkRefSet_keeps {pair : Nat} (h : s.Keeps p t) : Result.Keeps s p (execClkRefSet pair t) := by
  dsimp only [execClkRefSet]
  refine .next (h.serve fun _ _ k => ?_)
  split
  · exact CsfMsg.refuse_keeps k
  · simp only [apply_ite CsfReply.st]
    exact .ite (CsfMsg.refuse_keeps k) (.ite (CsfMsg.ok_keeps (.refNominal (.put (k.put.put.when fun _ k => k.refDisable)))) (.ite
      (CsfMsg.refuse_keeps k) (CsfMsg.ok_keeps (.run (k.put.put.when fun _ k => k.refNominal) fun _ k => execRefEnable_keeps k))))

theorem execClkSelSet_keeps {pair : Nat} (h : s.Keeps p t) : Result.Keeps s p (execClkSelSet pair t) := by
  dsimp only [execClkSelSet]
  refine .next (h.serve fun _ _ k => ?_)
  split
  · exact CsfMsg.refuse_keeps k
  · exact CsfMsg.ok_keeps (k.put.put.put.bwRefresh.run fun _ k => execRefselConfigWrite_keeps k)

theorem execClkStatus_keeps {pair : Nat} (h : s.Keeps p t) : Result.Keeps s p (execClkStatus pair t) :=
  .next (h.serve fun _ _ k => CsfMsg.ok_keeps k)

theorem execNetMacSet_keeps {pair : Nat} (h : s.Keeps p t) : Result.Keeps s p (execNetMacSet pair t) := by
  dsimp only [execNetMacSet]
  refine .next (h.serve fun _ _ k => ?_)
  split
  · exact CsfMsg.refuse_keeps k
  · simp only [apply_ite CsfReply.st]
    exact .ite (CsfMsg.refuse_keeps k) (CsfMsg.ok_keeps (.put (k.run fun _ k => execMacModeWrite_keeps k)))

theorem execNetPtpSet_keeps {pair : Nat} (h : s.Keeps p t) : Result.Keeps s p (execNetPtpSet pair t) :=
  .next (h.serve fun _ _ k => CsfMsg.ok_keeps k.put.put.put)

theorem execNetStatus_keeps {pair : Nat} (h : s.Keeps p t) : Result.Keeps s p (execNetStatus pair t) := by
  dsimp only [execNetStatus]
  refine .next (h.serve fun _ _ k => ?_)
  split
  · exact CsfMsg.refuse_keeps k
  · simp only [apply_ite CsfReply.st]
    exact .ite (CsfMsg.refuse_keeps k) (CsfMsg.ok_keeps k.csfRegs)

theorem State.Keeps.putTemplate {d a : Nat} {l : List Nat} (h : s.Keeps p t) : s.Keeps p (t.putTemplate d a l) :=
  h.each fun _ _ k => k.fabMem

theorem State.Keeps.stxFields {d i : Nat} {m : CsfMsg} {seq ts : Nat} (h : s.Keeps p t) : s.Keeps p (t.stxFields d i m seq ts) :=
  h.put.put.put.put.put.put.put.put.put.putTemplate

theorem execNetStreamTx_keeps {pair : Nat} {far : List FarAnswer} (h : s.Keeps p t) : Result.Keeps s p (execNetStreamTx pair far t) := by
  dsimp only [execNetStreamTx]
  refine .next (h.serve fun _ _ k => ?_)
  split
  · exact CsfMsg.refuse_keeps k
  · simp only [apply_ite CsfReply.st]
    refine .ite (CsfMsg.refuse_keeps k) (.ite (CsfMsg.ok_keeps (k.run fun _ k => execStreamDisable_keeps k)) (.ite
      (CsfMsg.refuse_keeps k) (.ite (CsfMsg.refuse_keeps ?_) (CsfMsg.ok_keeps (.ite (.run (.stxFields ?_) fun _ k =>
      execStreamTxEnable_keeps k) (.stxFields ?_))))))
    · split
      · exact k.drawn
      · exact k.drawn.farPuts
    · split
      · exact k.drawn
      · exact k.drawn.farPuts
    · split
      · exact k.drawn
      · exact k.drawn.farPuts

theorem execNetStreamRx_keeps {pair : Nat} (h : s.Keeps p t) : Result.Keeps s p (execNetStreamRx pair t) := by
  dsimp only [execNetStreamRx]
  refine .next (h.serve fun _ _ k => ?_)
  split
  · exact CsfMsg.refuse_keeps k
  · simp only [apply_ite CsfReply.st]
    exact .ite (CsfMsg.refuse_keeps k) (.ite (CsfMsg.ok_keeps (k.run fun _ k => execStreamDisable_keeps k)) (.ite
      (CsfMsg.refuse_keeps k) (CsfMsg.ok_keeps (.ite (k.put.put.put.put.put.put.put.put.put.put.put.put.run fun _ k =>
      execStreamRxEnable_keeps k) k.put.put.put.put.put.put.put.put.put.put.put.put))))

theorem execPairSet_keeps {pair : Nat} (h : s.Keeps p t) : Result.Keeps s p (execPairSet pair t) := by
  dsimp only [execPairSet]
  refine .next (h.serve fun _ _ k => ?_)
  split
  · exact CsfMsg.refuse_keeps k
  · simp only [apply_ite CsfReply.st]
    exact .ite (CsfMsg.refuse_keeps k) (CsfMsg.ok_keeps (k.run fun _ k => execPairidWrite_keeps k))

theorem execPairActivate_keeps {pair : Nat} (h : s.Keeps p t) : Result.Keeps s p (execPairActivate pair t) := by
  dsimp only [execPairActivate]
  refine .next (h.serve fun _ _ k => ?_)
  split
  · exact CsfMsg.refuse_keeps k
  · simp only [apply_ite CsfReply.st]
    exact .ite (CsfMsg.ok_keeps (k.run fun _ k => execActivate_keeps k)) (CsfMsg.refuse_keeps (k.run fun _ k => execActivate_keeps
      k))

theorem execPairTakeover_keeps {pair : Nat} (h : s.Keeps p t) : Result.Keeps s p (execPairTakeover pair t) := by
  dsimp only [execPairTakeover]
  refine .next (h.serve fun _ _ k => ?_)
  split
  · exact CsfMsg.refuse_keeps k
  · exact CsfMsg.ok_keeps (k.run fun _ k => execTakeover_keeps k)

theorem execPairResync_keeps {pair : Nat} (h : s.Keeps p t) : Result.Keeps s p (execPairResync pair t) := by
  dsimp only [execPairResync]
  refine .next (h.serve fun _ _ k => ?_)
  split
  · exact CsfMsg.refuse_keeps k
  · simp only [apply_ite CsfReply.st]
    exact .ite (CsfMsg.refuse_keeps (k.each fun _ _ k => k.csfReg)) (.ite (CsfMsg.ok_keeps (.run (.put (k.each fun _ _ k =>
      k.csfReg)) fun _ k => execPairSnapArm_keeps k)) (CsfMsg.refuse_keeps (.run (.put (k.each fun _ _ k => k.csfReg)) fun _ k =>
      execPairSnapArm_keeps k)))

theorem execPairStatus_keeps {pair : Nat} (h : s.Keeps p t) : Result.Keeps s p (execPairStatus pair t) :=
  .next (h.serve fun _ _ k => CsfMsg.ok_keeps k.csfRegs.csfRegs.csfRegs)

/-! ### Machine/NewtExec -/

theorem State.Keeps.setV {d n r k x : Nat} (h : s.Keeps p t) : s.Keeps p (t.setV d n r k x) := h.put
theorem State.Keeps.setAcc {d n r k x : Nat} (h : s.Keeps p t) : s.Keeps p (t.setAcc d n r k x) := h.put
theorem State.Keeps.setS {d n r x : Nat} (h : s.Keeps p t) : s.Keeps p (t.setS d n r x) := h.put
theorem State.Keeps.setP {d n r x : Nat} (h : s.Keeps p t) : s.Keeps p (t.setP d n r x) := .ite h h.put
theorem State.Keeps.clearFpFlags {d n w : Nat} (h : s.Keeps p t) : s.Keeps p (t.clearFpFlags d n w) := h.put.put.put

theorem State.Keeps.setFlags {d n k : Nat} {r : FpRes} (h : s.Keeps p t) : s.Keeps p (t.setFlags d n k r) :=
  .when (.when (h.when fun _ k => k.put) fun _ k => k.put) fun _ k => k.put

theorem State.Keeps.laneOut {d n r k : Nat} {x : FpRes} (h : s.Keeps p t) : s.Keeps p (t.laneOut d n r k x) := h.setV.setFlags

theorem State.Keeps.mSlot {d n : Nat} {a : MIns} {u : State} (h : s.Keeps p t) (_ : s.Keeps p u) : s.Keeps p (t.mSlot u d n a) := by
  dsimp only [State.mSlot]
  split
  · exact h.each fun _ _ k => k.setAcc.setFlags
  · exact h.each fun _ _ k => k.laneOut
  · exact h.each fun _ _ k => k.laneOut
  · exact h.each fun _ _ k => k.setP.setFlags
  · exact h.each fun _ _ k => k.setV
  · exact h.each fun _ _ k => k.laneOut.when fun _ l => l.setAcc
  · exact h.each fun _ _ k => k.setV.setV.setFlags
  · exact h.each fun _ _ k => k.setV.setV
  · exact h.each fun _ _ k => k.setV.setV
  · exact h.each fun _ _ k => k.laneOut
  · exact h.each fun _ _ k => k.laneOut

theorem State.Keeps.postUpdate {d n ar um w : Nat} {u : State} (h : s.Keeps p t) (_ : s.Keeps p u) : s.Keeps p (t.postUpdate u d n
    ar um w) := h.when fun _ k => k.put

theorem State.Keeps.addrFaults {d n : Nat} {l : List (Nat × Nat)} (h : s.Keeps p t) : s.Keeps p (t.addrFaults d n l).1 := by
  dsimp only [State.addrFaults]
  refine .when ?_ fun _ k => k.put
  split
  · exact h
  · exact h.put

theorem State.Keeps.loadTo {d n : Nat} {vec : Bool} {r k x : Nat} (h : s.Keeps p t) : s.Keeps p (t.loadTo d n vec r k x) :=
  .ite h.setV h.setS

theorem State.Keeps.newtWord {d n w later : Nat} {io : AccessMeets} {kind : PortKind} {en data : Nat} (h : s.Keeps p t) : s.Keeps p
    (t.newtWord d n w later io kind en data).1 := by
  dsimp only [State.newtWord]
  split
  · exact h.passLock.clearResp.twoPorts
  · simp only [apply_ite Prod.fst]
    exact .ite h.wordRead h.wordWrite

theorem State.Keeps.loadSlot {d n : Nat} {vec : Bool} {r : Nat} {l : List (Nat × Nat)} {io : AccessMeets} (h : s.Keeps p t) :
    s.Keeps p (t.loadSlot d n vec r l io) :=
  .each (.each (h.addrFaults.newtReadWords.newtRaise.each fun _ _ k => k.loadTo) fun _ _ k => k.loadTo) fun _ _ k => k.newtWord.each
    fun _ _ l => l.loadTo

theorem State.Keeps.storeDmem {d n : Nat} {l : List (Nat × Nat)} {ws : List Nat} (h : s.Keeps p t) : s.Keeps p (t.storeDmem d n l
    ws).1 := by
  induction ws generalizing t with
  | nil => exact h
  | cons x l ih =>
    dsimp only [State.storeDmem]
    exact ih h.newtWriteWord

theorem State.Keeps.storeWords {o : State} {d n r later : Nat} {vec : Bool} {sl : List (Nat × Nat × Nat)} {io : AccessMeets}
    {ws : List (Nat × Nat)} (h : s.Keeps p t) : s.Keeps p (t.storeWords o d n vec r sl io later ws) := by
  induction ws generalizing t later with
  | nil => exact h
  | cons w ws ih => exact ih h.newtWord

theorem State.Keeps.storeSlot {d n : Nat} {vec : Bool} {r : Nat} {l : List (Nat × Nat)} {io : AccessMeets} {u : State} (h : s.Keeps
    p t) : s.Keeps p (t.storeSlot u d n vec r l io) := h.addrFaults.storeDmem.newtRaise.storeWords

theorem State.Keeps.lSlot {d n : Nat} {io : AccessMeets} {a : LIns} {u : State} (h : s.Keeps p t) (k : s.Keeps p u) : s.Keeps p
    (t.lSlot u d n io a) := by
  dsimp only [State.lSlot]
  split
  · exact .loadSlot (h.postUpdate k)
  · exact .storeSlot (h.postUpdate k)
  · exact .loadSlot (h.postUpdate k)
  · exact .storeSlot (h.postUpdate k)
  · exact h.postUpdate k

theorem State.Keeps.movrDst {d n df di x : Nat} (h : s.Keeps p t) : s.Keeps p (t.movrDst d n df di x) := by
  dsimp only [State.movrDst]
  split
  · exact h.setS
  · exact h.put
  · exact h.put
  · exact h.put
  · exact h.put
  · exact h.setP
  · exact h.clearFpFlags

theorem State.Keeps.cMove {d n next : Nat} {a : CIns} {u : State} (h : s.Keeps p t) : s.Keeps p (t.cMove u d n next a) := by
  dsimp only [State.cMove]
  split
  · exact h.setS
  · exact h.setS
  · exact h.setS
  · exact h.setS
  · exact h.movrDst
  · exact h.setS
  · exact h.setV
  · exact h.setS
  · exact h
  · exact h
  · exact h
  · exact h
  · exact h
  · exact h
  · exact h
  · exact h
  · exact h
  · exact h

theorem State.Keeps.pushLevel {d n start stop count : Nat} (h : s.Keeps p t) : s.Keeps p (t.pushLevel d n start stop count) :=
  h.put.put.put.put

theorem State.Keeps.popLevel {d n : Nat} (h : s.Keeps p t) : s.Keeps p (t.popLevel d n) := h.put.put.put.put

theorem State.Keeps.popOutside {d n tgt fuel : Nat} (h : s.Keeps p t) : s.Keeps p (t.popOutside d n tgt fuel) := by
  induction fuel generalizing t with
  | zero => exact h
  | succ n ih =>
    dsimp only [State.popOutside]
    exact .ite h (ih h.popLevel)

theorem State.Keeps.control {d n next : Nat} {a : CIns} {u : State} (h : s.Keeps p t) (_ : s.Keeps p u) : s.Keeps p (t.control u d n
    next a).1 := by
  dsimp only [State.control]
  split
  · exact h.popOutside
  · simp only [apply_ite Prod.fst]
    exact .ite h.popOutside h
  · exact h
  · exact h
  · simp only [apply_ite Prod.fst]
    exact .ite h h.put.put
  · simp only [apply_ite Prod.fst]
    exact .ite h h.pushLevel
  · simp only [apply_ite Prod.fst]
    exact .ite h.dec h.popLevel
  · exact h.when fun _ k => k.post
  · exact h.newtDrains
  · exact .ite h.put h.put.newtRaise
  · exact h
  · exact h
  · exact h
  · exact h
  · exact h
  · exact h
  · exact h
  · exact h

theorem State.Keeps.bundleEnd {d n pc next : Nat} {repeating : Bool} (h : s.Keeps p t) : s.Keeps p (t.bundleEnd d n pc next
    repeating) :=
  .ite (.ite (.ite (.put (.reptEnd (h.put.put.put.when fun _ k => k.put))) (.dec (h.put.put.put.when fun _ k => k.put)))
    h.put.put.put.put) (.when (.when (.ite (.ite (.put (.reptEnd (h.put.put.put.when fun _ k => k.put))) (.dec (h.put.put.put.when
    fun _ k => k.put))) h.put.put.put.put) fun _ k => k.put.put) fun _ k => k.newtHalts)

theorem State.Keeps.stalls {b : Bundle} {next tgt : Nat} {u : State} (h : s.Keeps p t) : s.Keeps p (t.stalls u b next tgt) :=
  h.inc.inc.inc.setBoard

theorem State.Keeps.issueBundle {b : Bundle} {pc : Nat} (h : s.Keeps p t) : s.Keeps p (t.issueBundle b pc) := by
  dsimp only [State.issueBundle]
  refine .when (.bundleEnd (.stalls ?_)) fun _ k => k.newtReset
  split
  · split
    · split
      · split
        · exact h
        · exact h.cMove
      · refine .lSlot ?_ h
        split
        · exact h
        · exact h.cMove
    · refine .mSlot ?_ h
      split
      · split
        · exact h
        · exact h.cMove
      · refine .lSlot ?_ h
        split
        · exact h
        · exact h.cMove
  · refine .control ?_ h
    split
    · split
      · split
        · exact h
        · exact h.cMove
      · refine .lSlot ?_ h
        split
        · exact h
        · exact h.cMove
    · refine .mSlot ?_ h
      split
      · split
        · exact h
        · exact h.cMove
      · refine .lSlot ?_ h
        split
        · exact h
        · exact h.cMove

theorem State.Keeps.runBundle {b : Bundle} (h : s.Keeps p t) : s.Keeps p (t.runBundle b) :=
  .ite h.dropBundle.issueBundle h.dropBundle.newtFaults

theorem State.Keeps.issue {d n : Nat} {e : Bool} {op : NewtOp} {io : Option AccessMeets} (h : s.Keeps p t) : s.Keeps p (t.issue d n
    e op io) := by
  dsimp only [State.issue]
  refine .ite h (.ite h.newtHalts ?_)
  split
  · exact h.newtFaults
  · exact .ite h.runBundle (.ite h.newtFaults h.dropBundle.update)

theorem State.Keeps.issueM {d n : Nat} {e : Bool} {i : MIns} (h : s.Keeps p t) : s.Keeps p (t.issueM d n e i) := h.issue

theorem State.Keeps.issueL {d n : Nat} {e : Bool} {i : LIns} {io : AccessMeets} (h : s.Keeps p t) : s.Keeps p (t.issueL d n e i io) :=
  h.issue

theorem State.Keeps.issueC {d n : Nat} {e : Bool} {i : CIns} (h : s.Keeps p t) : s.Keeps p (t.issueC d n e i) := h.issue

theorem execIllegalEncoding_keeps {d n : Nat} (h : s.Keeps p t) : Result.Keeps s p (execIllegalEncoding d n t) :=
  .next (h.when fun _ k => k.newtFaults)

/-! ### Machine/NewtIns -/

theorem execVmac_keeps {die newt : Nat} {e : Bool} {d a b q : Nat} {bs z neg : Bool} (h : s.Keeps p t) : Result.Keeps s p (execVmac
    die newt e d a b q bs z neg t) := .next h.issueM

theorem execVfma_keeps {die newt : Nat} {e : Bool} {d a b q : Nat} {bs : Bool} (h : s.Keeps p t) : Result.Keeps s p (execVfma die
    newt e d a b q bs t) := .next h.issueM

theorem execVmul_keeps {die newt : Nat} {e : Bool} {d a b q : Nat} {bs : Bool} (h : s.Keeps p t) : Result.Keeps s p (execVmul die
    newt e d a b q bs t) := .next h.issueM

theorem execVadd_keeps {die newt : Nat} {e : Bool} {d a b q : Nat} {bs : Bool} (h : s.Keeps p t) : Result.Keeps s p (execVadd die
    newt e d a b q bs t) := .next h.issueM

theorem execVsub_keeps {die newt : Nat} {e : Bool} {d a b q : Nat} {bs : Bool} (h : s.Keeps p t) : Result.Keeps s p (execVsub die
    newt e d a b q bs t) := .next h.issueM

theorem execVmin_keeps {die newt : Nat} {e : Bool} {d a b q : Nat} {bs : Bool} (h : s.Keeps p t) : Result.Keeps s p (execVmin die
    newt e d a b q bs t) := .next h.issueM

theorem execVmax_keeps {die newt : Nat} {e : Bool} {d a b q : Nat} {bs : Bool} (h : s.Keeps p t) : Result.Keeps s p (execVmax die
    newt e d a b q bs t) := .next h.issueM

theorem execVabs_keeps {die newt : Nat} {e : Bool} {d a q : Nat} (h : s.Keeps p t) : Result.Keeps s p (execVabs die newt e d a q t) :=
  .next h.issueM

theorem execVneg_keeps {die newt : Nat} {e : Bool} {d a q : Nat} (h : s.Keeps p t) : Result.Keeps s p (execVneg die newt e d a q t) :=
  .next h.issueM

theorem execVcmp_keeps {die newt : Nat} {e : Bool} {d a b q : Nat} {bs : Bool} {cond : Nat} (h : s.Keeps p t) : Result.Keeps s p
    (execVcmp die newt e d a b q bs cond t) := .next h.issueM

theorem execVsel_keeps {die newt : Nat} {e : Bool} {d a b q : Nat} (h : s.Keeps p t) : Result.Keeps s p (execVsel die newt e d a b q
    t) := .next h.issueM

theorem execVrnd_keeps {die newt : Nat} {e : Bool} {d a q : Nat} {clr : Bool} (h : s.Keeps p t) : Result.Keeps s p (execVrnd die
    newt e d a q clr t) := .next h.issueM

theorem execVglide_keeps {die newt : Nat} {e : Bool} {d a b q : Nat} (h : s.Keeps p t) : Result.Keeps s p (execVglide die newt e d a
    b q t) := .next h.issueM

theorem execRcps_keeps {die newt : Nat} {e : Bool} {d a q : Nat} (h : s.Keeps p t) : Result.Keeps s p (execRcps die newt e d a q t) :=
  .next h.issueM

theorem execDivi_keeps {die newt : Nat} {e : Bool} {d a b q : Nat} (h : s.Keeps p t) : Result.Keeps s p (execDivi die newt e d a b q
    t) := .next h.issueM

theorem execDivs_keeps {die newt : Nat} {e : Bool} {d b q : Nat} (h : s.Keeps p t) : Result.Keeps s p (execDivs die newt e d b q t) :=
  .next h.issueM

theorem execDivf_keeps {die newt : Nat} {e : Bool} {d a b q : Nat} (h : s.Keeps p t) : Result.Keeps s p (execDivf die newt e d a b q
    t) := .next h.issueM

theorem execVcvt_keeps {die newt : Nat} {e : Bool} {d a q : Nat} {dir : Bool} {shift : Nat} (h : s.Keeps p t) : Result.Keeps s p
    (execVcvt die newt e d a q dir shift t) := .next h.issueM

theorem execVld_keeps {die newt : Nat} {e : Bool} {r ar q sm smi um w : Nat} {io : AccessMeets} (h : s.Keeps p t) : Result.Keeps s p
    (execVld die newt e r ar q sm smi um w io t) := .next h.issueL

theorem execVst_keeps {die newt : Nat} {e : Bool} {r ar q sm smi um w : Nat} {io : AccessMeets} (h : s.Keeps p t) : Result.Keeps s p
    (execVst die newt e r ar q sm smi um w io t) := .next h.issueL

theorem execLds_keeps {die newt : Nat} {e : Bool} {r ar um w : Nat} {io : AccessMeets} (h : s.Keeps p t) : Result.Keeps s p (execLds
    die newt e r ar um w io t) := .next h.issueL

theorem execSts_keeps {die newt : Nat} {e : Bool} {r ar um w : Nat} {io : AccessMeets} (h : s.Keeps p t) : Result.Keeps s p (execSts
    die newt e r ar um w io t) := .next h.issueL

theorem execAdda_keeps {die newt : Nat} {e : Bool} {ar um w : Nat} (h : s.Keeps p t) : Result.Keeps s p (execAdda die newt e ar um w
    t) := .next h.issueL

theorem execNop_keeps {die newt : Nat} {e : Bool} (h : s.Keeps p t) : Result.Keeps s p (execNop die newt e t) := .next h.issueC

theorem execSaluAdd_keeps {die newt : Nat} {e : Bool} {d a b : Nat} (h : s.Keeps p t) : Result.Keeps s p (execSaluAdd die newt e d a
    b t) := .next h.issueC

theorem execSaluSub_keeps {die newt : Nat} {e : Bool} {d a b : Nat} (h : s.Keeps p t) : Result.Keeps s p (execSaluSub die newt e d a
    b t) := .next h.issueC

theorem execSaluAnd_keeps {die newt : Nat} {e : Bool} {d a b : Nat} (h : s.Keeps p t) : Result.Keeps s p (execSaluAnd die newt e d a
    b t) := .next h.issueC

theorem execSaluOr_keeps {die newt : Nat} {e : Bool} {d a b : Nat} (h : s.Keeps p t) : Result.Keeps s p (execSaluOr die newt e d a b
    t) := .next h.issueC

theorem execSaluXor_keeps {die newt : Nat} {e : Bool} {d a b : Nat} (h : s.Keeps p t) : Result.Keeps s p (execSaluXor die newt e d a
    b t) := .next h.issueC

theorem execSaluShl_keeps {die newt : Nat} {e : Bool} {d a b : Nat} (h : s.Keeps p t) : Result.Keeps s p (execSaluShl die newt e d a
    b t) := .next h.issueC

theorem execSaluShr_keeps {die newt : Nat} {e : Bool} {d a b : Nat} (h : s.Keeps p t) : Result.Keeps s p (execSaluShr die newt e d a
    b t) := .next h.issueC

theorem execSaluSra_keeps {die newt : Nat} {e : Bool} {d a b : Nat} (h : s.Keeps p t) : Result.Keeps s p (execSaluSra die newt e d a
    b t) := .next h.issueC

theorem execSaluMul_keeps {die newt : Nat} {e : Bool} {d a b : Nat} (h : s.Keeps p t) : Result.Keeps s p (execSaluMul die newt e d a
    b t) := .next h.issueC

theorem execSaluMin_keeps {die newt : Nat} {e : Bool} {d a b : Nat} (h : s.Keeps p t) : Result.Keeps s p (execSaluMin die newt e d a
    b t) := .next h.issueC

theorem execSaluMax_keeps {die newt : Nat} {e : Bool} {d a b : Nat} (h : s.Keeps p t) : Result.Keeps s p (execSaluMax die newt e d a
    b t) := .next h.issueC

theorem execSaluSlt_keeps {die newt : Nat} {e : Bool} {d a b : Nat} (h : s.Keeps p t) : Result.Keeps s p (execSaluSlt die newt e d a
    b t) := .next h.issueC

theorem execSaluSltu_keeps {die newt : Nat} {e : Bool} {d a b : Nat} (h : s.Keeps p t) : Result.Keeps s p (execSaluSltu die newt e d
    a b t) := .next h.issueC

theorem execSaddi_keeps {die newt : Nat} {e : Bool} {d a imm : Nat} (h : s.Keeps p t) : Result.Keeps s p (execSaddi die newt e d a
    imm t) := .next h.issueC

theorem execLdil_keeps {die newt : Nat} {e : Bool} {d imm : Nat} (h : s.Keeps p t) : Result.Keeps s p (execLdil die newt e d imm t) :=
  .next h.issueC

theorem execLdih_keeps {die newt : Nat} {e : Bool} {d imm : Nat} (h : s.Keeps p t) : Result.Keeps s p (execLdih die newt e d imm t) :=
  .next h.issueC

theorem execMovr_keeps {die newt : Nat} {e : Bool} {df di sf si : Nat} (h : s.Keeps p t) : Result.Keeps s p (execMovr die newt e df
    di sf si t) := .next h.issueC

theorem execVext_keeps {die newt : Nat} {e : Bool} {v sreg lane : Nat} (h : s.Keeps p t) : Result.Keeps s p (execVext die newt e v
    sreg lane t) := .next h.issueC

theorem execVins_keeps {die newt : Nat} {e : Bool} {v sreg lane : Nat} (h : s.Keeps p t) : Result.Keeps s p (execVins die newt e v
    sreg lane t) := .next h.issueC

theorem execBr_keeps {die newt : Nat} {e : Bool} {tgt : Nat} (h : s.Keeps p t) : Result.Keeps s p (execBr die newt e tgt t) :=
  .next h.issueC

theorem execBrc_keeps {die newt : Nat} {e : Bool} {cond a tgt : Nat} (h : s.Keeps p t) : Result.Keeps s p (execBrc die newt e cond a
    tgt t) := .next h.issueC

theorem execCall_keeps {die newt : Nat} {e : Bool} {tgt : Nat} (h : s.Keeps p t) : Result.Keeps s p (execCall die newt e tgt t) :=
  .next h.issueC

theorem execRet_keeps {die newt : Nat} {e : Bool} (h : s.Keeps p t) : Result.Keeps s p (execRet die newt e t) := .next h.issueC

theorem execRept_keeps {die newt : Nat} {e rs : Bool} {a n : Nat} (h : s.Keeps p t) : Result.Keeps s p (execRept die newt e rs a n
    t) := .next h.issueC

theorem execLoopTop_keeps {die newt : Nat} {e byReg : Bool} {n tgt : Nat} (h : s.Keeps p t) : Result.Keeps s p (execLoopTop die newt
    e byReg n tgt t) := .next h.issueC

theorem execEndl_keeps {die newt : Nat} {e : Bool} (h : s.Keeps p t) : Result.Keeps s p (execEndl die newt e t) := .next h.issueC

theorem execSig_keeps {die newt : Nat} {e : Bool} {a b : Nat} (h : s.Keeps p t) : Result.Keeps s p (execSig die newt e a b t) :=
  .next h.issueC

theorem execDone_keeps {die newt : Nat} {e : Bool} (h : s.Keeps p t) : Result.Keeps s p (execDone die newt e t) := .next h.issueC
theorem execHalt_keeps {die newt : Nat} {e : Bool} (h : s.Keeps p t) : Result.Keeps s p (execHalt die newt e t) := .next h.issueC

/-! ### Machine/Rails -/

theorem State.Keeps.railLost {d rail : Nat} (h : s.Keeps p t) : s.Keeps p (t.railLost d rail) :=
  .drawn (.each (h.each fun _ _ k => k.put) fun _ _ k => k.setByte)

theorem State.Keeps.vmonRead {d rail mv : Nat} (h : s.Keeps p t) : s.Keeps p (t.vmonRead d rail mv) := h.put.condSet.condSet

theorem execVmonThreshold_keeps {d rail mv : Nat} (h : s.Keeps p t) : Result.Keeps s p (execVmonThreshold d rail mv t) :=
  .next (h.when fun _ k => .when (k.when fun _ l => l.railLost) fun _ l => l.vmonRead)

/-! ### Machine/Remote -/

theorem execMreq_keeps {dir : Nat} {f : BFrame} {len : Nat} (h : s.Keeps p t) : Result.Keeps s p (execMreq dir f len t) :=
  .next (h.birayUnicast fun _ k => k.access.birayFrom)

theorem execMrsp_keeps {dir : Nat} {f : BFrame} (h : s.Keeps p t) : Result.Keeps s p (execMrsp dir f t) := by
  dsimp only [execMrsp]
  refine .next (h.birayUnicast fun _ k => ?_)
  split
  · exact k
  · exact k.update.reply.hostResume

theorem execRemoteAccessTimeout_keeps {tag : Nat} (h : s.Keeps p t) : Result.Keeps s p (execRemoteAccessTimeout tag t) := by
  dsimp only [execRemoteAccessTimeout]
  refine .next ?_
  split
  · exact h
  · exact h.remoteLost.hostResume

/-! ### Machine/Time -/

theorem State.Keeps.newtTick {d n : Nat} (h : s.Keeps p t) : s.Keeps p (t.newtTick d n) :=
  .ite (h.when fun _ k => k.inc.when fun _ l => l.inc) h

theorem State.Keeps.sysTick {d : Nat} (h : s.Keeps p t) : s.Keeps p (t.sysTick d) :=
  .ite h (.ite h.inc (h.put.inc.when fun _ k => k.phcAdvance))

theorem State.Keeps.tick (h : s.Keeps p t) : s.Keeps p t.tick :=
  h.when fun _ k => .each (.each (.hoTick (.slewTick (.each (k.each fun _ _ l => l.newtTick) fun _ _ l => l.stallTick))) fun _ _ l
    => l.sysTick) fun _ _ l => l.refHoldTick

/-! ### Machine/Dispatch -/

/-- Every command is answered in every state, and its answer keeps the forms, the queue and the raises owed. -/
theorem exec_keeps (i : Instr) (h : s.Keeps p t) : Result.Keeps s p (exec i t) := by
  cases i with
  | registerWrite => exact execRegisterWrite_keeps h
  | rcRegisterRead => exact execRcRegisterRead_keeps h
  | reg64LowRead => exact execReg64LowRead_keeps h
  | reg64LowWrite => exact execReg64LowWrite_keeps h
  | reg64HighWrite => exact execReg64HighWrite_keeps h
  | fabricAccess => exact execFabricAccess_keeps h
  | domcntIncrement => exact execDomcntIncrement_keeps h
  | epochBoundary => exact execEpochBoundary_keeps h
  | epochDispatch => exact execEpochDispatch_keeps h
  | epochStartReceipt => exact execEpochStartReceipt_keeps h
  | dieDrainReport => exact execDieDrainReport_keeps h
  | drainReportReceipt => exact execDrainReportReceipt_keeps h
  | epochEnable => exact execEpochEnable_keeps h
  | epochStop => exact execEpochStop_keeps h
  | commitArm => exact execCommitArm_keeps h
  | commitCancel => exact execCommitCancel_keeps h
  | snapArm => exact execSnapArm_keeps h
  | snapCancel => exact execSnapCancel_keeps h
  | commitAckDeadline => exact execCommitAckDeadline_keeps h
  | instructionFetch => exact execInstructionFetch_keeps h
  | illegalEncoding => exact execIllegalEncoding_keeps h
  | breakpointMatch => exact execBreakpointMatch_keeps h
  | vmac => exact execVmac_keeps h
  | vfma => exact execVfma_keeps h
  | vmul => exact execVmul_keeps h
  | vadd => exact execVadd_keeps h
  | vsub => exact execVsub_keeps h
  | vmin => exact execVmin_keeps h
  | vmax => exact execVmax_keeps h
  | vabs => exact execVabs_keeps h
  | vneg => exact execVneg_keeps h
  | vcmp => exact execVcmp_keeps h
  | vsel => exact execVsel_keeps h
  | vrnd => exact execVrnd_keeps h
  | vglide => exact execVglide_keeps h
  | rcps => exact execRcps_keeps h
  | divi => exact execDivi_keeps h
  | divs => exact execDivs_keeps h
  | divf => exact execDivf_keeps h
  | vcvt => exact execVcvt_keeps h
  | vld => exact execVld_keeps h
  | vst => exact execVst_keeps h
  | lds => exact execLds_keeps h
  | sts => exact execSts_keeps h
  | adda => exact execAdda_keeps h
  | nop => exact execNop_keeps h
  | saluAdd => exact execSaluAdd_keeps h
  | saluSub => exact execSaluSub_keeps h
  | saluAnd => exact execSaluAnd_keeps h
  | saluOr => exact execSaluOr_keeps h
  | saluXor => exact execSaluXor_keeps h
  | saluShl => exact execSaluShl_keeps h
  | saluShr => exact execSaluShr_keeps h
  | saluSra => exact execSaluSra_keeps h
  | saluMul => exact execSaluMul_keeps h
  | saluMin => exact execSaluMin_keeps h
  | saluMax => exact execSaluMax_keeps h
  | saluSlt => exact execSaluSlt_keeps h
  | saluSltu => exact execSaluSltu_keeps h
  | saddi => exact execSaddi_keeps h
  | ldil => exact execLdil_keeps h
  | ldih => exact execLdih_keeps h
  | movr => exact execMovr_keeps h
  | vext => exact execVext_keeps h
  | vins => exact execVins_keeps h
  | br => exact execBr_keeps h
  | brc => exact execBrc_keeps h
  | call => exact execCall_keeps h
  | ret => exact execRet_keeps h
  | rept => exact execRept_keeps h
  | loopTop => exact execLoopTop_keeps h
  | endl => exact execEndl_keeps h
  | sig => exact execSig_keeps h
  | done => exact execDone_keeps h
  | halt => exact execHalt_keeps h
  | completionReport => exact execCompletionReport_keeps h
  | parkReq => exact execParkReq_keeps h
  | unpark => exact execUnpark_keeps h
  | haltReq => exact execHaltReq_keeps h
  | resume => exact execResume_keeps h
  | step => exact execStep_keeps h
  | abort => exact execAbort_keeps h
  | newtClrCnt => exact execNewtClrCnt_keeps h
  | dbgRegisterAccess => exact execDbgRegisterAccess_keeps h
  | newtReset => exact execNewtReset_keeps h
  | postArrival => exact execPostArrival_keeps h
  | dispatchDecision => exact execDispatchDecision_keeps h
  | flowClaim => exact execFlowClaim_keeps h
  | claimResponse => exact execClaimResponse_keeps h
  | flowRelease => exact execFlowRelease_keeps h
  | flowReplicaUpdate => exact execFlowReplicaUpdate_keeps h
  | lateMarkerReceipt => exact execLateMarkerReceipt_keeps h
  | croakEntryWrite => exact execCroakEntryWrite_keeps h
  | croakFreeze => exact execCroakFreeze_keeps h
  | croakFrozen => exact execCroakFrozen_keeps h
  | croakResume => exact execCroakResume_keeps h
  | slotEnable => exact execSlotEnable_keeps h
  | slotDisable => exact execSlotDisable_keeps h
  | slotClrFlags => exact execSlotClrFlags_keeps h
  | slotClrPend => exact execSlotClrPend_keeps h
  | slotClrAff => exact execSlotClrAff_keeps h
  | tongueClrCnt => exact execTongueClrCnt_keeps h
  | chorusKick => exact execChorusKick_keeps h
  | groupRunStart => exact execGroupRunStart_keeps h
  | groupRunEnd => exact execGroupRunEnd_keeps h
  | partialRelease => exact execPartialRelease_keeps h
  | partialArrival => exact execPartialArrival_keeps h
  | busBlockComplete => exact execBusBlockComplete_keeps h
  | releaseOrderReceipt => exact execReleaseOrderReceipt_keeps h
  | bankAccess => exact execBankAccess_keeps h
  | aliasWrite => exact execAliasWrite_keeps h
  | busyRetry => exact execBusyRetry_keeps h
  | lfStart => exact execLfStart_keeps h
  | lfAbort => exact execLfAbort_keeps h
  | lfDone => exact execLfDone_keeps h
  | fuseBurn => exact execFuseBurn_keeps h
  | fuseBurnDone => exact execFuseBurnDone_keeps h
  | fabParkApply => exact execFabParkApply_keeps h
  | dmaAbort => exact execDmaAbort_keeps h
  | dmaStart => exact execDmaStart_keeps h
  | dmaDescriptorRead => exact execDmaDescriptorRead_keeps h
  | dmaDescriptorComplete => exact execDmaDescriptorComplete_keeps h
  | dmaError => exact execDmaError_keeps h
  | linkRetrain => exact execLinkRetrain_keeps h
  | linkTrainingDone => exact execLinkTrainingDone_keeps h
  | flitReceipt => exact execFlitReceipt_keeps h
  | sapEnable => exact execSapEnable_keeps h
  | sapDisable => exact execSapDisable_keeps h
  | sapStop => exact execSapStop_keeps h
  | sapFrameStart => exact execSapFrameStart_keeps h
  | sapRxFrame => exact execSapRxFrame_keeps h
  | sapTxFrameStart => exact execSapTxFrameStart_keeps h
  | groupSlipMessage => exact execGroupSlipMessage_keeps h
  | sapLostTimeout => exact execSapLostTimeout_keeps h
  | slotmaskStage => exact execSlotmaskStage_keeps h
  | mediaClockLockStart => exact execMediaClockLockStart_keeps h
  | mediaClockStop => exact execMediaClockStop_keeps h
  | mediaClockLocked => exact execMediaClockLocked_keeps h
  | bridgeEnable => exact execBridgeEnable_keeps h
  | bridgeDisable => exact execBridgeDisable_keeps h
  | bridgeOff => exact execBridgeOff_keeps h
  | bridgeTrackLock => exact execBridgeTrackLock_keeps h
  | refRawChange => exact execRefRawChange_keeps h
  | inputEdgeAccept => exact execInputEdgeAccept_keeps h
  | refLos => exact execRefLos_keeps h
  | refStuck => exact execRefStuck_keeps h
  | monitorGateEnd => exact execMonitorGateEnd_keeps h
  | refQualify => exact execRefQualify_keeps h
  | refselConfigWrite => exact execRefselConfigWrite_keeps h
  | refEnable => exact execRefEnable_keeps h
  | dpllLock => exact execDpllLock_keeps h
  | dpllUnlock => exact execDpllUnlock_keeps h
  | holdoverUpdate => exact execHoldoverUpdate_keeps h
  | xoLost => exact execXoLost_keeps h
  | xoRestore => exact execXoRestore_keeps h
  | frameOutEnable => exact execFrameOutEnable_keeps h
  | frameOutDisable => exact execFrameOutDisable_keeps h
  | frameOutRealign => exact execFrameOutRealign_keeps h
  | mdllRelock => exact execMdllRelock_keeps h
  | mdllSearchEnd => exact execMdllSearchEnd_keeps h
  | mdllLockComplete => exact execMdllLockComplete_keeps h
  | mdllLol => exact execMdllLol_keeps h
  | mdllRefloss => exact execMdllRefloss_keeps h
  | refclkReturn => exact execRefclkReturn_keeps h
  | macModeWrite => exact execMacModeWrite_keeps h
  | anrestart => exact execAnrestart_keeps h
  | macLinkChange => exact execMacLinkChange_keeps h
  | txqPiWrite => exact execTxqPiWrite_keeps h
  | macFrameAdmit => exact execMacFrameAdmit_keeps h
  | macTxStart => exact execMacTxStart_keeps h
  | macTxComplete => exact execMacTxComplete_keeps h
  | pauseExpiry => exact execPauseExpiry_keeps h
  | launchTimeReached => exact execLaunchTimeReached_keeps h
  | macReset => exact execMacReset_keeps h
  | clrTsovf => exact execClrTsovf_keeps h
  | tsfPop => exact execTsfPop_keeps h
  | macRxFrame => exact execMacRxFrame_keeps h
  | streamTxEnable => exact execStreamTxEnable_keeps h
  | streamRxEnable => exact execStreamRxEnable_keeps h
  | streamDisable => exact execStreamDisable_keeps h
  | streamStop => exact execStreamStop_keeps h
  | servoOffsetWrite => exact execServoOffsetWrite_keeps h
  | stepAck => exact execStepAck_keeps h
  | servoClr => exact execServoClr_keeps h
  | phcSet => exact execPhcSet_keeps h
  | phcSnap => exact execPhcSnap_keeps h
  | phcChangeApply => exact execPhcChangeApply_keeps h
  | phcSlaveCheck => exact execPhcSlaveCheck_keeps h
  | servoHold => exact execServoHold_keeps h
  | tsyncArm => exact execTsyncArm_keeps h
  | tsyncDisable => exact execTsyncDisable_keeps h
  | tsyncFire => exact execTsyncFire_keeps h
  | tsyncPulseEnd => exact execTsyncPulseEnd_keeps h
  | birayLinkUp => exact execBirayLinkUp_keeps h
  | birayLinkDown => exact execBirayLinkDown_keeps h
  | birayRetrain => exact execBirayRetrain_keeps h
  | keepaliveSend => exact execKeepaliveSend_keeps h
  | frameCrcFail => exact execFrameCrcFail_keeps h
  | keepalive dir => exact execKeepalive_keeps (dir := dir) h
  | delay => exact execDelay_keeps h
  | enum => exact execEnum_keeps h
  | join => exact execJoin_keeps h
  | assign => exact execAssign_keeps h
  | time => exact execTime_keeps h
  | health => exact execHealth_keeps h
  | commitFrame => exact execCommitFrame_keeps h
  | partialFrame => exact execPartialFrame_keeps h
  | mreq => exact execMreq_keeps h
  | mrsp => exact execMrsp_keeps h
  | mirror => exact execMirror_keeps h
  | undefinedFrameType => exact execUndefinedFrameType_keeps h
  | ringStep => exact execRingStep_keeps h
  | enumTimeout => exact execEnumTimeout_keeps h
  | enumWaitTimeout => exact execEnumWaitTimeout_keeps h
  | ringReenumerate => exact execRingReenumerate_keeps h
  | timeFrameSend => exact execTimeFrameSend_keeps h
  | healthTimer => exact execHealthTimer_keeps h
  | ringUnwrap => exact execRingUnwrap_keeps h
  | remoteAccessTimeout => exact execRemoteAccessTimeout_keeps h
  | domcntAlign => exact execDomcntAlign_keeps h
  | healthCopySend => exact execHealthCopySend_keeps h
  | activate => exact execActivate_keeps h
  | takeover => exact execTakeover_keeps h
  | pairSnapArm => exact execPairSnapArm_keeps h
  | pairSnapCancel => exact execPairSnapCancel_keeps h
  | pairidWrite => exact execPairidWrite_keeps h
  | resyncAckDeadline => exact execResyncAckDeadline_keeps h
  | mirrorApply => exact execMirrorApply_keeps h
  | tailShed => exact execTailShed_keeps h
  | tailImageLoaded => exact execTailImageLoaded_keeps h
  | tailResetRelease => exact execTailResetRelease_keeps h
  | restartTail => exact execRestartTail_keeps h
  | pcieMemoryRequest => exact execPcieMemoryRequest_keeps h
  | flr => exact execFlr_keeps h
  | pciePerst => exact execPciePerst_keeps h
  | msixUnmask => exact execMsixUnmask_keeps h
  | hostIpendClear => exact execHostIpendClear_keeps h
  | hostEvtWrite => exact execHostEvtWrite_keeps h
  | rd0 => exact execRd0_keeps h
  | wr0 => exact execWr0_keeps h
  | rd2 => exact execRd2_keeps h
  | wr2 => exact execWr2_keeps h
  | stat => exact execStat_keeps h
  | badCommand => exact execBadCommand_keeps h
  | qspiCsRise => exact execQspiCsRise_keeps h
  | mbxPiWrite => exact execMbxPiWrite_keeps h
  | mbxCiWrite => exact execMbxCiWrite_keeps h
  | unknownOpcode => exact execUnknownOpcode_keeps h
  | sysInfo => exact execSysInfo_keeps h
  | sysStatus => exact execSysStatus_keeps h
  | sysEvents => exact execSysEvents_keeps h
  | sysRestartTail => exact execSysRestartTail_keeps h
  | sysEcho => exact execSysEcho_keeps h
  | graphLoadBegin => exact execGraphLoadBegin_keeps h
  | graphLoadData => exact execGraphLoadData_keeps h
  | graphLoadEnd => exact execGraphLoadEnd_keeps h
  | graphStart => exact execGraphStart_keeps h
  | graphStop => exact execGraphStop_keeps h
  | graphQueryLatency => exact execGraphQueryLatency_keeps h
  | graphQueryBridge => exact execGraphQueryBridge_keeps h
  | txBegin => exact execTxBegin_keeps h
  | txSet => exact execTxSet_keeps h
  | txCommitAt => exact execTxCommitAt_keeps h
  | txArm => exact execTxArm_keeps h
  | catchUp => exact execCatchUp_keeps h
  | txAbort => exact execTxAbort_keeps h
  | txStatus => exact execTxStatus_keeps h
  | paramGet => exact execParamGet_keeps h
  | sceneStore => exact execSceneStore_keeps h
  | sceneRecall => exact execSceneRecall_keeps h
  | sceneDelete => exact execSceneDelete_keeps h
  | sceneList => exact execSceneList_keeps h
  | routeSet => exact execRouteSet_keeps h
  | routeGet => exact execRouteGet_keeps h
  | routeXflen => exact execRouteXflen_keeps h
  | meterSnapshot => exact execMeterSnapshot_keeps h
  | meterRead => exact execMeterRead_keeps h
  | clkDomainSet => exact execClkDomainSet_keeps h
  | clkRefSet => exact execClkRefSet_keeps h
  | clkSelSet => exact execClkSelSet_keeps h
  | clkStatus => exact execClkStatus_keeps h
  | netMacSet => exact execNetMacSet_keeps h
  | netPtpSet => exact execNetPtpSet_keeps h
  | netStreamTx => exact execNetStreamTx_keeps h
  | netStreamRx => exact execNetStreamRx_keeps h
  | netStatus => exact execNetStatus_keeps h
  | pairSet => exact execPairSet_keeps h
  | pairActivate => exact execPairActivate_keeps h
  | pairTakeover => exact execPairTakeover_keeps h
  | pairResync => exact execPairResync_keeps h
  | pairStatus => exact execPairStatus_keeps h
  | faultList => exact execFaultList_keeps h
  | faultAck => exact execFaultAck_keeps h
  | faultInject => exact execFaultInject_keeps h
  | faultClear => exact execFaultClear_keeps h
  | faultService => exact execFaultService_keeps h
  | fltStatusAck => exact execFltStatusAck_keeps h
  | ack2 => exact execAck2_keeps h
  | clr3 => exact execClr3_keeps h
  | graceT1Expiry => exact execGraceT1Expiry_keeps h
  | graceT2Expiry => exact execGraceT2Expiry_keeps h
  | gillL2Check => exact execGillL2Check_keeps h
  | thermTrip => exact execThermTrip_keeps h
  | thermalThreshold => exact execThermalThreshold_keeps h
  | vmonThreshold => exact execVmonThreshold_keeps h
  | porstAssert => exact execPorstAssert_keeps h
  | porstRelease => exact execPorstRelease_keeps h
  | pfailAccept => exact execPfailAccept_keeps h
  | snapshotProgramDone => exact execSnapshotProgramDone_keeps h
  | snapshotErase => exact execSnapshotErase_keeps h
  | sleepEntry => exact execSleepEntry_keeps h
  | pcieLinkChange => exact execPcieLinkChange_keeps h
  | pcieConfigRequest => exact execPcieConfigRequest_keeps h
  | ringPresentExpiry => exact execRingPresentExpiry_keeps h
  | snapshotEraseDone => exact execSnapshotEraseDone_keeps h
  | frameOutEdge => exact execFrameOutEdge_keeps h
  | mdllLockTimeout => exact execMdllLockTimeout_keeps h
  | sensorSelfCheckFailure => exact execSensorSelfCheckFailure_keeps h

theorem State.canonical_pending (s : State) (q : List Instr) : ({ s with pending := q } : State).canonical = s.canonical := rfl

/-- A step keeps the canonical forms, takes the front command alone and leaves no more raises owed. -/
theorem step_keeps {s t : State} (ht : step s = .next t) : { s with pending := s.pending.tail }.Keeps (fun _ => False) t := by
  cases hq : s.pending with
  | nil =>
    have hs : { s with pending := s.pending.tail } = s := by rw [hq, List.tail_nil, ← hq]
    have hn : t = s.tick := by simpa [step, hq] using ht.symm
    rw [← hq, hs, hn]
    exact State.Keeps.refl.tick
  | cons c rest =>
    obtain ⟨u, hu, hk⟩ := exec_keeps c (State.Keeps.refl (s := { s with pending := rest }) (p := fun _ => False))
    have hn : t = u := by simpa [step, hq, hu] using ht.symm
    rw [hn]
    exact hk

end Sys2Proof.Machine

open Sys2Proof.Machine

/-- Settles O2: every operation keeps the forms (`exec_keeps`), and so does a nanosecond (`State.Keeps.tick`). -/
theorem stepKeepsTheCanonicalForms : Obligations.StepKeepsTheCanonicalForms := by
  intro s t hc ht
  have k := step_keeps ht
  refine ⟨k.canonical (by rw [State.canonical_pending]; exact hc), k.pending, fun hd => List.eq_nil_iff_forall_not_mem.2 fun c hm => ?_⟩
  rcases k.due c hm with hs | hs
  · simp [hd] at hs
  · exact hs

/-- Settles O1: the step by its definition; every command is answered by `exec_keeps`. -/
theorem stepTakesTheFrontCommand : Obligations.StepTakesTheFrontCommand := by
  intro s c rest
  refine ⟨fun hq => by simp [step, hq], ?_, fun hq => by simp [step, hq]⟩
  obtain ⟨t, ht, -⟩ := exec_keeps c (State.Keeps.refl (s := s) (p := fun _ => False))
  exact ⟨t, ht⟩

/-- Settles O3: nothing is listed after reset, so every cell reads its reset value. -/
theorem resetIsCanonical : Obligations.ResetIsCanonical := by
  have hg : ∀ f d i, State.reset.get f d i = f.reset d i := fun _ _ _ => rfl
  refine ⟨rfl, rfl, rfl, hg, fun d D => ⟨?_, ?_, ?_⟩⟩ <;> rw [hg] <;> rfl
end

section
/-! SUPPORT. What an access to a register meets and leaves: the table's rows, the state that enters the fabric, the register that answers. -/

namespace Sys2Proof.Machine

/-! ### Bits -/

theorem bitAt_eq_one_iff (v k : Nat) : bitAt v k = 1 ↔ v.testBit k = true := by
  rw [Nat.testBit_eq_decide_div_mod_eq, decide_eq_true_iff, bitAt]

theorem bitAt_eq_zero_iff (v k : Nat) : bitAt v k = 0 ↔ v.testBit k = false := by
  rw [← Bool.not_eq_true, ← bitAt_eq_one_iff, bitAt]; omega

theorem testBit_bitsAt (v lo w k : Nat) : (bitsAt v lo w).testBit k = (decide (k < w) && v.testBit (lo + k)) := by
  rw [bitsAt, Nat.testBit_mod_two_pow, Nat.testBit_div_two_pow, Nat.add_comm]

theorem bitsAt_lt (v lo w : Nat) : bitsAt v lo w < 2 ^ w := Nat.mod_lt _ (Nat.two_pow_pos w)

@[simp] theorem bitsAt_zero (lo w : Nat) : bitsAt 0 lo w = 0 := by simp [bitsAt]

/-- The complement of `x` in `w` bits. -/
theorem testBit_complement {w x : Nat} (hx : x < 2 ^ w) (k : Nat) : (2 ^ w - 1 - x).testBit k = (decide (k < w) && !x.testBit k) := by
  rw [Nat.sub_sub, Nat.add_comm, Nat.testBit_two_pow_sub_succ hx]

/-! ### The register table -/

/-- The cells of `State.fabCells`: the rounds of the crossbars and the flit counts. -/
def wayFlds : List Fld := [.FAB_RR, .LINK_FLITS]

/-- Cells that an access writes and no register shows: those of its way, and the holding registers. -/
def unlisted : List Fld := wayFlds ++ [.HOLD_KIND, .HOLD_REG, .HOLD_VAL]

/-- The fields of FLT_FIRST (R436). -/
def firstFields : List FieldRow := [⟨.FLT_FIRST_CODE, 0, .RO⟩, ⟨.FLT_FIRST_SEV, 5, .RO⟩, ⟨.FLT_FIRST_VALID, 7, .W1C⟩,
  ⟨.FLT_FIRST_CONCURRENT, 8, .RO⟩, ⟨.FLT_FIRST_CLEARED_BEFORE_READ, 9, .RO⟩, ⟨.FLT_FIRST_INSTANCE, 16, .RO⟩]

/-- What holds of every row: its fields are listed cells, no write takes the count of corrected errors, and FLT_FIRST alone has VALID. -/
def RegRow.regular (r : RegRow) : Bool :=
  (r.fields.all fun f => !unlisted.contains f.fld && (f.fld != .NEWT_ECC_CE_CNT || f.acc == .RO) &&
    (f.fld != .FLT_FIRST_VALID || r.fields == firstFields)) &&
  ((r.fields.headD ⟨.TB_SYSCNT, 0, .RO⟩).fld != .FLT_FIRST_CODE || r.fields == firstFields)

theorem fltRegs_regular : fltRegs.all RegRow.regular = true := by decide
theorem regs_regular (b : Block) : b.regs.all RegRow.regular = true := by
  cases b <;> decide

theorem findRow_mem {off : Nat} {l : List RegRow} {q : RegRow × Nat × Bool} (h : findRow off l = some q) : q.1 ∈ l := by
  induction l with
  | nil => cases h
  | cons r l ih =>
    rw [findRow] at h
    split at h
    · cases h; exact List.mem_cons_self
    · exact List.mem_cons_of_mem _ (ih h)

theorem regFind_regular {d bi off : Nat} {b : Block} {h : RegHit} (hf : regFind d b bi off = some h) : h.row.regular = true := by
  unfold regFind at hf
  split at hf
  · obtain ⟨q, hq, rfl⟩ := Option.map_eq_some_iff.1 hf
    exact List.all_eq_true.1 fltRegs_regular _ (findRow_mem hq)
  · split at hf
    · cases hf
    · next q hq =>
      split at hf
      · cases hf; exact List.all_eq_true.1 (regs_regular b) _ (findRow_mem hq)
      · cases hf

theorem register_regular {r : FabReq} {h : RegHit} (hr : r.register = some h) : h.row.regular = true := by
  unfold FabReq.register at hr
  split at hr
  · exact regFind_regular hr
  · cases hr

section
variable {r : RegRow} {f : FieldRow}

theorem RegRow.listed (h : r.regular = true) (hf : f ∈ r.fields) : f.fld ∉ unlisted := by
  have := List.all_eq_true.1 (Bool.and_eq_true_iff.1 h).1 f hf
  simp_all

theorem RegRow.readOnly_of_count (h : r.regular = true) (hf : f ∈ r.fields) (he : f.fld = .NEWT_ECC_CE_CNT) : f.acc = .RO := by
  have := List.all_eq_true.1 (Bool.and_eq_true_iff.1 h).1 f hf
  simp_all

theorem RegRow.first_of_valid (h : r.regular = true) (hf : f ∈ r.fields) (he : f.fld = .FLT_FIRST_VALID) : r.fields = firstFields := by
  have := List.all_eq_true.1 (Bool.and_eq_true_iff.1 h).1 f hf
  simp_all

theorem RegRow.first_of_head {i : Nat} {b : Bool} (h : r.regular = true) (he : (RegHit.mk r i b).head = .FLT_FIRST_CODE) :
    r.fields = firstFields := by
  have := (Bool.and_eq_true_iff.1 h).2
  simp_all [RegHit.head]

end


/-! ### What reads no unlisted cell -/

namespace State.SameBut
variable {s t u : State} {l : List Fld}

theorem refl : s.SameBut s l := fun _ _ _ _ => rfl

theorem trans (h : s.SameBut t l) (k : t.SameBut u l) : s.SameBut u l := fun f d i hf => (k f d i hf).trans (h f d i hf)

theorem mono {m : List Fld} (h : s.SameBut t l) (hm : l ⊆ m) : s.SameBut t m := fun f d i hf => h f d i fun k => hf (hm k)

theorem put {f : Fld} {d i v : Nat} (h : s.SameBut t l) (hf : f ∈ l) : s.SameBut (t.put f d i v) l := fun g e j hg => by
  rw [State.get_put_fld _ (ne_of_mem_of_not_mem hf hg).symm, h g e j hg]

theorem reply {v : Nat} {e : Bool} (h : s.SameBut t l) : s.SameBut (t.reply v e) l := h

variable (h : s.SameBut t unlisted)
include h

theorem get_listed (f : Fld) (d i : Nat) (hf : unlisted.contains f = false) : t.get f d i = s.get f d i :=
  h f d i (by simpa using hf)

theorem dieClocked (d : Nat) : t.dieClocked d = s.dieClocked d := by
  unfold State.dieClocked; rw [h.get_listed _ _ _ rfl]

theorem ownUnit (n : Nat) : t.ownUnit n = s.ownUnit n := by
  unfold State.ownUnit; rw [h.get_listed _ _ _ rfl]

theorem routeUp (a b : Nat) : t.routeUp a b = s.routeUp a b := by
  unfold State.routeUp State.linkUp; simp (disch := decide) only [h.get_listed]

theorem permits (d c k : Nat) (w : Bool) : t.permits d c k w = s.permits d c k w := by
  unfold State.permits; rw [h.get_listed _ _ _ rfl]

theorem dataLinks (r : FabReq) : t.dataLinks r = s.dataLinks r := by
  unfold State.dataLinks; rw [h.ownUnit]

theorem dbgBarred (d : Nat) (g : RegHit) : t.dbgBarred d g = s.dbgBarred d g := by
  unfold State.dbgBarred State.newtIs; simp (disch := decide) only [h.get_listed]

theorem regLocked (d : Nat) (g : RegHit) : t.regLocked d g = s.regLocked d g := by
  unfold State.regLocked State.on; simp (disch := decide) only [h.get_listed]

theorem fieldValue (d i : Nat) {f : FieldRow} (hf : f.fld ∉ unlisted) : t.fieldValue d i f = s.fieldValue d i f := by
  unfold State.fieldValue State.on; simp (disch := decide) only [h.get_listed, h _ d i hf]

theorem tied (d i tie : Nat) {f : FieldRow} (hf : f.fld ∉ unlisted) : t.tied d i tie f = s.tied d i tie f := by
  unfold State.tied; simp only [h _ d i hf]

theorem earlier (d i tie before : Nat) {f : FieldRow} (hf : f.fld ∉ unlisted) : t.earlier d i tie before f = s.earlier d i tie before f := by
  unfold State.earlier; simp only [h _ d i hf, h.tied d i tie hf]

theorem shown (d tie before : Nat) {g : RegHit} (hg : g.row.regular = true) : t.shown d tie before g = s.shown d tie before g := by
  unfold State.shown
  refine List.foldl_ext _ _ _ fun v f hf => ?_
  rw [h.tied _ _ _ (RegRow.listed hg hf), h.fieldValue _ _ (RegRow.listed hg hf), h.earlier _ _ _ _ (RegRow.listed hg hf)]

theorem lowKept (d : Nat) {g : RegHit} (hg : g.row.regular = true) : t.lowKept d g = s.lowKept d g := by
  unfold State.lowKept
  congr 1
  refine List.foldl_ext _ _ _ fun v f hf => ?_
  rw [h _ _ _ (RegRow.listed hg hf)]

end State.SameBut


/-! ### What an access leaves -/

/-- Beside the answer, which is `a`, only the cells of `l` differ. -/
structure State.Serves (s t : State) (a : FabResp) (l : List Loc) : Prop where
  within : s.Within { t with answer := s.answer } l
  answer_eq : t.answer = a

namespace State.Serves
variable {s t : State} {a : FabResp} {l : List Loc}

theorem refl : s.Serves s s.answer l := ⟨⟨fun _ _ => rfl, rfl⟩, rfl⟩

theorem get_eq (h : s.Serves t a l) {f : Fld} {d i : Nat} (hm : ⟨f, d, i⟩ ∉ l) : t.get f d i = s.get f d i := h.within.1 ⟨f, d, i⟩ hm

theorem put {f : Fld} {d i v : Nat} (h : s.Serves t a l) (hm : ⟨f, d, i⟩ ∈ l) : s.Serves (t.put f d i v) a l := by
  obtain ⟨⟨hget, hrest⟩, hans⟩ := h
  refine ⟨⟨fun c hc => ?_, ?_⟩, by rw [State.put_answer, hans]⟩
  · refine Eq.trans (State.get_put_ne t ?_ v) (hget c hc)
    rintro ⟨rfl, rfl, rfl⟩
    exact hc hm
  · refine Eq.trans ?_ hrest
    unfold State.put
    split <;> rfl

theorem reply {v : Nat} {e : Bool} (h : s.Serves t a l) : s.Serves (t.reply v e) ⟨v, e⟩ l := ⟨h.within, rfl⟩

theorem when {c : Prop} [Decidable c] {g : State → State} (h : s.Serves t a l) (hg : s.Serves (g t) a l) : s.Serves (t.when c g) a l :=
  State.when_keeps (P := fun u => s.Serves u a l) _ h hg

theorem each {α : Type} {g : α → State → State} {m : List α} (h : s.Serves t a l)
    (hg : ∀ b ∈ m, ∀ u, s.Serves u a l → s.Serves (g b u) a l) : s.Serves (t.each m g) a l :=
  State.each_keeps (P := fun u => s.Serves u a l) _ h hg

theorem hold {r : FabReq} {kind key v : Nat} (h : s.Serves t a l) (hm : holdCells r.die r.port ⊆ l) : s.Serves (t.hold r kind key v) a l :=
  ((h.put (hm (by simp [holdCells]))).put (hm (by simp [holdCells]))).put (hm (by simp [holdCells]))

theorem fieldStore {d i v : Nat} {b : Bool} {f : FieldRow} (h : s.Serves t a l) (hm : ⟨f.fld, d, i⟩ ∈ l) :
    s.Serves (t.fieldStore d i v b f) a l := by
  unfold State.fieldStore
  cases f.acc with
  | RW | W1C | W1S => exact h.put hm
  | RWL => exact h.when (h.put hm)
  | RO | WO | RC => exact h

theorem regPlain {d v : Nat} {g : RegHit} (h : s.Serves t a l) (hm : g.locs d ⊆ l) : s.Serves (t.regPlain d g v) a l :=
  h.each fun _ hf _ k => k.fieldStore (hm (List.mem_map_of_mem hf))

end State.Serves

/-! ### The state that enters the fabric -/

/-- The request's grants are taken, and its flits. -/
def State.entered (s : State) (r : FabReq) : State := (s.granted r).takeFlits r

theorem State.granted_sameBut_way (s : State) (r : FabReq) : s.SameBut (s.granted r) wayFlds :=
  have hs : s.SameBut s wayFlds := State.SameBut.refl
  State.when_keeps (P := fun t => s.SameBut t wayFlds) s hs <|
    State.each_keeps (P := fun t => s.SameBut t wayFlds) s hs fun _ _ _ k => k.put (by decide)

theorem State.takeFlits_sameBut_way (s : State) (r : FabReq) : s.SameBut (s.takeFlits r) wayFlds :=
  State.each_keeps (P := fun t => s.SameBut t wayFlds) _ (fun _ _ _ _ => rfl) fun _ _ _ k => k.put (by decide)

theorem State.entered_sameBut_way (s : State) (r : FabReq) : s.SameBut (s.entered r) wayFlds :=
  (s.granted_sameBut_way r).trans ((s.granted r).takeFlits_sameBut_way r)

theorem State.granted_sameBut (s : State) (r : FabReq) : s.SameBut (s.granted r) unlisted :=
  (s.granted_sameBut_way r).mono (List.subset_append_left ..)

theorem State.entered_sameBut (s : State) (r : FabReq) : s.SameBut (s.entered r) unlisted :=
  (s.entered_sameBut_way r).mono (List.subset_append_left ..)

theorem State.granted_badFlits (s : State) (r : FabReq) : (s.granted r).badFlits = s.badFlits :=
  State.when_keeps (P := fun t => t.badFlits = s.badFlits) s rfl
    (State.each_keeps (P := fun t => t.badFlits = s.badFlits) s rfl fun _ _ _ k => by rw [State.put_badFlits, k])

theorem State.granted_flitsOf (s : State) (r : FabReq) : (s.granted r).flitsOf r = s.flitsOf r := by
  unfold State.flitsOf
  rw [s.granted_badFlits, (s.granted_sameBut r).dataLinks]

/-- Without bad flits a request writes on its way the cells of `fabCells` alone. -/
theorem State.entered_serves {s : State} {r : FabReq} {l : List Loc} (hb : s.flitsOf r = []) (hm : s.fabCells r ⊆ l) :
    s.Serves (s.entered r) s.answer l := by
  have hl := (s.granted_sameBut r).dataLinks r
  have hg : s.Serves (s.granted r) s.answer l := State.Serves.refl.when <| State.Serves.refl.each fun q hq _ k =>
    k.put (hm (List.mem_append_left _ (List.mem_map.2 ⟨q, hq, rfl⟩)))
  have hf : ((s.granted r).badFlits.filter fun f => !((s.granted r).dataLinks r).contains (f.die, f.link)) = (s.granted r).badFlits := by
    refine List.filter_eq_self.2 fun f hf => ?_
    rw [← s.granted_flitsOf r] at hb
    simpa using List.filter_eq_nil_iff.1 hb f hf
  unfold State.entered State.takeFlits
  rw [hf]
  exact hg.each fun q hq _ k => k.put (hm (List.mem_append_right _ (List.mem_map_of_mem (hl ▸ hq))))

/-! ### The register answers -/

section
variable {s : State} {r : FabReq} {h : RegHit} (hr : s.Reaches r h) (hlen : r.len = 4)
include hr

theorem State.Reaches.regular : h.row.regular = true := by
  obtain ⟨-, -, hreg, -⟩ := hr
  exact register_regular hreg

theorem State.Reaches.flitsOf : s.flitsOf r = [] := by
  obtain ⟨⟨-, -, -, -, -, -, hflits, -⟩, -⟩ := hr
  exact hflits

theorem State.Reaches.mayIssue : s.mayIssue r.die r.port = true := by
  obtain ⟨⟨hmay, -⟩, -⟩ := hr
  exact hmay

theorem State.Reaches.register : r.register = some h := by
  obtain ⟨-, -, hreg, -⟩ := hr
  exact hreg

/-- The place is a register's, of no tail memory window. -/
theorem State.Reaches.place_eq : ∃ b i off, place r.tdie r.loc = .reg b i off ∧ regFind r.tdie b i off = some h ∧
    ¬ (b = .axo ∧ 0x10000 ≤ off ∧ off < 0x20000) := by
  obtain ⟨-, -, hreg, -, hwin⟩ := hr
  unfold FabReq.register at hreg
  split at hreg
  · next b i off hp => exact ⟨b, i, off, hp, hreg, hwin b i off hp⟩
  · cases hreg

theorem State.Reaches.dbgBarred : (s.entered r).dbgBarred r.tdie h = false := by
  obtain ⟨-, -, -, hdbg, -⟩ := hr
  rw [(s.entered_sameBut r).dbgBarred, hdbg]

include hlen

/-- Every check passes, also in the state that has the grants. -/
theorem State.Reaches.fabEnter : s.fabEnter r = (s.granted r, .here (place r.tdie r.loc)) := by
  obtain ⟨b, i, off, hp, hfind, hwin⟩ := hr.place_eq
  obtain ⟨⟨-, hdie, htdie, hlt, hown, hroute, -, hgill, hperm⟩, hal, -⟩ := hr
  have hsame := s.granted_sameBut r
  have hmiss : (s.granted r).missing r.tdie (place r.tdie r.loc) = false := by simp [State.missing, hp, hwin, hfind]
  have htake : (place r.tdie r.loc).takes r = true := by simp [hp, Place.takes, FabReq.isWord, hlen, hal]
  have hgill' : ¬ (gillOnly (place r.tdie r.loc) r.write = true ∧ r.cls ≠ 7) := fun k => k.2 (hgill k.1)
  have htarget : (s.granted r).fabTarget r = (s.granted r, .here (place r.tdie r.loc)) := by
    unfold State.fabTarget
    rw [if_neg hgill', if_neg (by rw [hmiss, hp]; simp), if_neg (by simp [htake]), hsame.permits, if_neg (by simp [hperm])]
  unfold State.fabEnter State.fabCheck
  simp [hsame.dieClocked, hsame.ownUnit, hsame.routeUp, hdie, htdie, hown, hroute, Nat.not_le.2 hlt, State.fabFar, htarget]

/-- The access is the register's read or write, in the state that has entered. -/
theorem State.Reaches.access : s.access r = if r.write then (s.entered r).regWrite r h else (s.entered r).regRead r h := by
  obtain ⟨b, i, off, hp, hfind, hwin⟩ := hr.place_eq
  unfold State.access
  rw [hr.fabEnter hlen]
  simp only [State.overLinks, s.granted_flitsOf, hr.flitsOf, if_true, hp, State.serveAt, State.regAccess, if_neg hwin, hfind]
  rfl

theorem State.Reaches.access_write (hw : r.write = true) : s.access r = (s.entered r).regWrite r h := by
  rw [hr.access hlen, if_pos hw]

theorem State.Reaches.access_read (hw : r.write = false) : s.access r = (s.entered r).regRead r h := by
  rw [hr.access hlen, if_neg (by simp [hw])]

end

end Sys2Proof.Machine
end

section
/-! SUPPORT. What a write and a read leave in the fields of a register. -/

namespace Sys2Proof.Machine

/-! ### Updates of which each has its own cell -/

section
variable {φ : FieldRow → State → State} {l : List FieldRow} {d i : Nat}
  (hother : ∀ f ∈ l, ∀ (t : State) (g : Fld), g ≠ f.fld → (φ f t).get g d i = t.get g d i)
include hother

theorem State.get_each_other {g : Fld} (hg : g ∉ l.map fun f => f.fld) (t : State) : (t.each l φ).get g d i = t.get g d i :=
  State.each_keeps (P := fun u => u.get g d i = t.get g d i) t rfl fun f hf u k =>
    (hother f hf u g fun he => hg (he ▸ List.mem_map_of_mem hf)).trans k

/-- A field's cell takes the value that the field's own update gives it. -/
theorem State.get_each_own {F : FieldRow → Nat → Nat}
    (hown : ∀ f ∈ l, ∀ t : State, (φ f t).get f.fld d i = F f (t.get f.fld d i)) (hn : (l.map fun f => f.fld).Nodup)
    {f : FieldRow} (hf : f ∈ l) (t : State) : (t.each l φ).get f.fld d i = F f (t.get f.fld d i) := by
  induction l generalizing t with
  | nil => cases hf
  | cons a l ih =>
    obtain ⟨ha, hn⟩ := List.nodup_cons.1 hn
    have hl : ∀ g ∈ l, ∀ (t : State) (x : Fld), x ≠ g.fld → (φ g t).get x d i = t.get x d i :=
      fun g hg => hother g (List.mem_cons_of_mem _ hg)
    rcases List.mem_cons.1 hf with rfl | hf
    · exact (State.get_each_other hl ha _).trans (hown f List.mem_cons_self t)
    · have hne : f.fld ≠ a.fld := fun he => ha (List.mem_map.2 ⟨f, hf, he⟩)
      rw [← hother a List.mem_cons_self t f.fld hne]
      exact ih hl (fun g hg => hown g (List.mem_cons_of_mem _ hg)) hn hf (φ a t)

end

/-! ### A write by access code (R7) -/

/-- The value of a field that held `x`, after a write of `v`. -/
def FieldRow.stored (f : FieldRow) (v : Nat) (locked : Bool) (x : Nat) : Nat :=
  let w := f.fld.width
  let b := bitsAt v f.lo w
  match f.acc with
  | .RW => b
  | .RWL => if locked then x else b
  | .W1C => (x &&& (2 ^ w - 1 - b)) % 2 ^ w
  | .W1S => (x ||| b) % 2 ^ w
  | .RO | .WO | .RC => x

theorem State.get_fieldStore_same (t : State) (d i v : Nat) (locked : Bool) (f : FieldRow) :
    (t.fieldStore d i v locked f).get f.fld d i = f.stored v locked (t.get f.fld d i) := by
  unfold State.fieldStore FieldRow.stored
  cases f.acc with
  | RW => exact (State.get_put_same ..).trans (Nat.mod_eq_of_lt (bitsAt_lt ..))
  | RWL =>
    cases locked with
    | true => rfl
    | false => exact (State.get_put_same ..).trans (Nat.mod_eq_of_lt (bitsAt_lt ..))
  | W1C | W1S => exact State.get_put_same ..
  | RO | WO | RC => rfl

theorem State.get_fieldStore_other (t : State) (d i v : Nat) (locked : Bool) (f : FieldRow) {g : Fld} (hg : g ≠ f.fld) :
    (t.fieldStore d i v locked f).get g d i = t.get g d i := by
  unfold State.fieldStore
  cases f.acc with
  | RW | W1C | W1S => exact State.get_put_fld _ hg ..
  | RWL =>
    cases locked with
    | true => rfl
    | false => exact State.get_put_fld _ hg ..
  | RO | WO | RC => rfl

theorem State.get_regPlain {h : RegHit} (hn : h.cells.Nodup) {f : FieldRow} (hf : f ∈ h.row.fields) (t : State) (d v : Nat) :
    (t.regPlain d h v).get f.fld d h.inst = f.stored v (t.regLocked d h) (t.get f.fld d h.inst) :=
  State.get_each_own (fun f _ u _ => u.get_fieldStore_other d h.inst v (t.regLocked d h) f)
    (F := fun f => f.stored v (t.regLocked d h)) (fun f _ u => u.get_fieldStore_same d h.inst v (t.regLocked d h) f) hn hf t

/-! ### What hardware set in the cycle of a write (R8) -/

theorem State.tied_zero (s : State) (d i : Nat) (f : FieldRow) : s.tied d i 0 f = 0 := by
  simp [State.tied]

/-- A count at 0 that stops at its limit cannot have counted. -/
theorem State.tied_of_count {s : State} {d i tie : Nat} {f : FieldRow} (he : f.fld = .NEWT_ECC_CE_CNT) (ha : f.acc = .RO)
    (h0 : s.get .NEWT_ECC_CE_CNT d i = 0) : s.tied d i tie f = 0 := by
  simp [State.tied, he, ha, h0, FieldRow.saturates, Fld.roCounter]

/-- The value of a field that a write has brought to `y`, with what hardware set of it, `x`. -/
def FieldRow.kept (f : FieldRow) (tie x y : Nat) : Nat :=
  if tie = 0 ∨ f.fld = .FLT_FIRST_VALID then y
  else if f.acc = .W1C then (y ||| x) % 2 ^ f.fld.width
  else if f.fld = .NEWT_ECC_CE_CNT ∧ y = 0 then x % 2 ^ f.fld.width
  else y

/-- No first-fault record is written in the cycle. -/
def State.Unrecorded (s : State) (d tie : Nat) (h : RegHit) : Prop :=
  ∀ f, f ∈ h.row.fields → f.fld = .FLT_FIRST_VALID → s.tied d h.inst tie f ≠ 1

theorem State.get_keepTied {s s0 : State} {d tie : Nat} {h : RegHit} (hv : s0.Unrecorded d tie h) (hn : h.cells.Nodup)
    {f : FieldRow} (hf : f ∈ h.row.fields) :
    (s.keepTied s0 d tie h).get f.fld d h.inst = f.kept tie (s0.tied d h.inst tie f) (s.get f.fld d h.inst) := by
  refine State.get_each_own (F := fun f => f.kept tie (s0.tied d h.inst tie f)) ?_ ?_ hn hf s
  · intro f hf t g hg
    dsimp only
    split
    · rfl
    · split
      · next he => rw [State.when_false _ (hv f hf he)]
      · split
        · exact State.get_put_fld _ hg ..
        · exact State.when_keeps (P := fun u => u.get g d h.inst = t.get g d h.inst) t rfl (State.get_put_fld _ hg ..)
  · intro f hf t
    unfold FieldRow.kept
    dsimp only
    by_cases ht : tie = 0
    · simp [ht]
    · by_cases he : f.fld = .FLT_FIRST_VALID
      · rw [if_neg ht, if_pos he, if_pos (Or.inr he), State.when_false _ (hv f hf he)]
      · rw [if_neg ht, if_neg he, if_neg (not_or.2 ⟨ht, he⟩)]
        split
        · exact State.get_put_same ..
        · unfold State.when
          split
          · exact State.get_put_same ..
          · rfl

theorem State.Serves.keepTied {s t s0 : State} {d tie : Nat} {g : RegHit} {a : FabResp} {l : List Loc} (h : s.Serves t a l)
    (hm : g.locs d ⊆ l) (hv : s0.Unrecorded d tie g) : s.Serves (t.keepTied s0 d tie g) a l := by
  refine h.each fun f hf u k => ?_
  have hcell : (⟨f.fld, d, g.inst⟩ : Loc) ∈ l := hm (List.mem_map_of_mem hf)
  dsimp only
  split
  · exact k
  · split
    · next he => rw [State.when_false _ (hv f hf he)]; exact k
    · split
      · exact k.put hcell
      · exact k.when (k.put hcell)

/-- The value that a write leaves is what the access code says of the field. -/
theorem State.fieldTaken_of_get {s t : State} {d v tie : Nat} {h : RegHit} {f : FieldRow}
    (hget : t.get f.fld d h.inst = f.kept tie (s.tied d h.inst tie f) (f.stored v (s.regLocked d h) (s.get f.fld d h.inst)))
    (hcount : f.fld = .NEWT_ECC_CE_CNT → f.acc = .RO) (hvalid : f.fld = .FLT_FIRST_VALID → f.acc = .W1C ∧ bitAt tie f.lo = 0) :
    s.FieldTaken t d h v tie f := by
  have hplain (ha : f.acc ≠ .RO) (hc : f.acc ≠ .W1C) (x y : Nat) : f.kept tie x y = y := by
    have hne : ¬ (f.fld = .NEWT_ECC_CE_CNT ∧ y = 0) := fun k => ha (hcount k.1)
    unfold FieldRow.kept
    rw [if_neg hc, if_neg hne, ite_self]
  unfold State.FieldTaken
  cases ha : f.acc with
  | RW | WO | RC => rw [hget, hplain (by simp [ha]) (by simp [ha])]; simp [FieldRow.stored, ha]
  | RWL => rw [hget, hplain (by simp [ha]) (by simp [ha])]; simp [FieldRow.stored, ha]
  | W1S =>
    intro k hk
    rw [hget, hplain (by simp [ha]) (by simp [ha])]
    simp only [FieldRow.stored, ha, bitAt_eq_one_iff]
    simp [testBit_bitsAt, hk]
  | RO =>
    rw [hget]
    simp only [FieldRow.kept, FieldRow.stored, ha]
    split
    · rfl
    · split
      · contradiction
      · split
        · next hz => rw [State.tied_of_count hz.1 ha (hz.1 ▸ hz.2), hz.2, Nat.zero_mod]
        · rfl
  | W1C =>
    intro k hk
    have htied : s.tied d h.inst tie f = s.get f.fld d h.inst &&& bitsAt tie f.lo f.fld.width := by simp [State.tied, ha]
    have hquiet (hq : tie = 0 ∨ f.fld = .FLT_FIRST_VALID) : tie.testBit (f.lo + k) = false := by
      rcases hq with rfl | he
      · exact Nat.zero_testBit _
      · rw [he] at hk
        obtain rfl : k = 0 := by simpa using hk
        exact (bitAt_eq_zero_iff ..).1 (hvalid he).2
    rw [hget, htied]
    simp only [FieldRow.kept, FieldRow.stored, ha, bitAt_eq_one_iff, bitAt_eq_zero_iff, if_true]
    split
    · next hq => simp [testBit_complement (bitsAt_lt ..), testBit_bitsAt, hk, hquiet hq]
    · simp only [Nat.testBit_mod_two_pow, Nat.testBit_or, Nat.testBit_and, testBit_complement (bitsAt_lt ..), testBit_bitsAt, hk,
        decide_true, Bool.true_and]
      cases (s.get f.fld d h.inst).testBit k <;> cases v.testBit (f.lo + k) <;> simp


/-! ### A write takes effect -/

theorem RegHit.first_of_head {h : RegHit} (hreg : h.row.regular = true) (he : h.head = .FLT_FIRST_CODE) : h.row.fields = firstFields :=
  RegRow.first_of_head hreg he

theorem RegHit.valid_row {h : RegHit} (hreg : h.row.regular = true) {f : FieldRow} (hf : f ∈ h.row.fields) (he : f.fld = .FLT_FIRST_VALID) :
    h.head = .FLT_FIRST_CODE ∧ f.acc = .W1C ∧ f.lo = 7 := by
  have hrow := RegRow.first_of_valid hreg hf he
  rw [hrow] at hf
  refine ⟨by simp [RegHit.head, hrow, firstFields], ?_⟩
  simp only [firstFields, List.mem_cons, List.not_mem_nil, or_false] at hf
  rcases hf with rfl | rfl | rfl | rfl | rfl | rfl <;> simp_all

theorem State.unrecorded_of_tie {s : State} {d tie : Nat} {h : RegHit} (hreg : h.row.regular = true)
    (htie : h.head = .FLT_FIRST_CODE → bitAt tie 7 = 0) : s.Unrecorded d tie h := by
  intro f hf he
  obtain ⟨hhead, hacc, hlo⟩ := RegHit.valid_row hreg hf he
  have hbit : bitsAt tie f.lo f.fld.width = 0 := by simpa [he, hlo, bitsAt, bitAt] using htie hhead
  simp [State.tied, hacc, hbit]

section
variable {s t : State} {r : FabReq} {h : RegHit} {a : FabResp} {l : List Loc} {v : Nat}
  (hreg : h.row.regular = true) (hipend : h.head ≠ .HOST_IPEND)
  (hplain : ∀ (t : State) (c v : Nat), t.regStore r.tdie c h v = t.regPlain r.tdie h v)
  (htie : h.head = .FLT_FIRST_CODE → bitAt r.tie 7 = 0)
include hipend hplain

theorem State.regTake_plain : t.regTake r h v = (t.regPlain r.tdie h v).keepTied t r.tdie r.tie h := by
  unfold State.regTake
  rw [if_neg hipend, hplain]

include hreg htie

theorem State.Serves.regTake (hs : s.Serves t a l) (hm : h.locs r.tdie ⊆ l) : s.Serves (t.regTake r h v) a l := by
  rw [State.regTake_plain hipend hplain]
  exact (hs.regPlain hm).keepTied hm (State.unrecorded_of_tie hreg htie)

/-- Every field is taken by its access code, where the listed cells are those of `s`. -/
theorem State.regTake_fieldTaken (hs : s.SameBut t unlisted) (hn : h.cells.Nodup) {f : FieldRow} (hf : f ∈ h.row.fields) :
    s.FieldTaken (t.regTake r h v) r.tdie h v r.tie f := by
  have hlisted := RegRow.listed hreg hf
  refine State.fieldTaken_of_get ?_ (RegRow.readOnly_of_count hreg hf) fun he => ?_
  · rw [State.regTake_plain hipend hplain, State.get_keepTied (State.unrecorded_of_tie hreg htie) hn hf, State.get_regPlain hn hf,
      hs.tied _ _ _ hlisted, hs.regLocked, hs _ _ _ hlisted]
  · obtain ⟨hhead, hacc, hlo⟩ := RegHit.valid_row hreg hf he
    exact ⟨hacc, hlo ▸ htie hhead⟩

end

/-! ### The commands -/

section
variable {s : State} {d p addr data tie before : Nat} {h : RegHit} {test : FabReq → Bool}

/-- A command for a register where the access reaches one that the command takes. -/
theorem State.regCommand_write (hr : s.Reaches (s.request d p addr true 4 data) h)
    (htest : test { s.request d p addr true 4 data with tie, before } = true) :
    s.regCommand d p addr true data tie before test =
      (s.entered (s.request d p addr true 4 data)).regWrite { s.request d p addr true 4 data with tie, before } h := by
  have hr' : s.Reaches { s.request d p addr true 4 data with tie, before } h := hr
  unfold State.regCommand
  dsimp only
  rw [State.when_true _ ⟨hr.mayIssue, htest⟩, hr'.access_write rfl rfl]
  rfl

theorem State.regCommand_read (hr : s.Reaches (s.request d p addr false 4 data) h)
    (htest : test { s.request d p addr false 4 data with tie, before } = true) :
    s.regCommand d p addr false data tie before test =
      (s.entered (s.request d p addr false 4 data)).regRead { s.request d p addr false 4 data with tie, before } h := by
  have hr' : s.Reaches { s.request d p addr false 4 data with tie, before } h := hr
  unfold State.regCommand
  dsimp only
  rw [State.when_true _ ⟨hr.mayIssue, htest⟩, hr'.access_read rfl rfl]
  rfl

end


section
variable {s t : State} {d p addr data tie before : Nat} {r : FabReq} {h : RegHit}

theorem State.regWrite_narrow (hdbg : t.dbgBarred r.tdie h = false) (hwide : h.row.wide = false) (hdata : r.data < 2 ^ 32) :
    t.regWrite r h = (t.reply 0 false).regTake r h r.data := by
  unfold State.regWrite
  dsimp only
  rw [if_neg (by simp [hdbg]), if_pos hwide, Nat.mod_eq_of_lt hdata]

theorem FabReq.narrow_of_register (hr : r.register = some h) (hwide : h.row.wide = false) : r.narrow = true := by
  simp [FabReq.narrow, hr, hwide]

/-- REGISTER_WRITE at a 32-bit register is the write's effect where it has entered. -/
theorem exec_registerWrite (hr : s.Reaches (s.request d p addr true 4 data) h) (hwide : h.row.wide = false) (hdata : data < 2 ^ 32) :
    exec (.registerWrite d p addr data tie) s = .next
      (((s.entered (s.request d p addr true 4 data)).reply 0 false).regTake { s.request d p addr true 4 data with tie := tie } h data) := by
  have htest : FabReq.narrow { s.request d p addr true 4 data with tie, before := 0 } = true :=
    FabReq.narrow_of_register (h := h) hr.register hwide
  refine congrArg (fun u => (.next u : Result)) ((State.regCommand_write hr htest).trans ?_)
  exact State.regWrite_narrow hr.dbgBarred hwide hdata

/-- An access that reaches a register writes on its way the cells of `fabCells` alone. -/
theorem State.Reaches.entered_serves {l : List Loc} (hr : s.Reaches r h) : s.Serves (s.entered r) s.answer (s.fabCells r ++ l) :=
  State.entered_serves hr.flitsOf (List.subset_append_left ..)

/-! ### A first-fault record freed in the cycle of a raise (R440) -/

theorem Cells.find_mem {c : Loc} {x : Nat} {l : List (Loc × Nat)} (hf : Cells.find c l = some x) : (c, x) ∈ l := by
  induction l with
  | nil => cases hf
  | cons e l ih =>
    rw [Cells.find] at hf
    split at hf
    · next he => cases hf; exact he ▸ List.mem_cons_self
    · exact List.mem_cons_of_mem _ (ih hf)

/-- In canonical form a cell that is 0 at reset keeps within its width. -/
theorem State.get_lt {f : Fld} {d i : Nat} (hc : s.canonical = true) (hz : f.reset d i = 0) : s.get f d i < 2 ^ f.width := by
  unfold State.get
  cases hf : Cells.find ⟨f, d, i⟩ s.cells with
  | none => exact hz ▸ Nat.two_pow_pos _
  | some x =>
    have hfits := ((Cells.wf_iff _).1 ((State.canonical_iff s).1 hc).1).2 _ (Cells.find_mem hf)
    simp only [Cells.fits, Bool.and_eq_true, decide_eq_true_eq] at hfits
    exact hfits.1

theorem faultOf_code {ty c : Nat} {n : FaultName} (hf : faultOf ty c = some n) : n.code = c := by
  have := List.find?_some hf
  simp_all

/-- A write of VALID = 1 in the cycle of a raise leaves the record of that raise. -/
theorem State.keepTied_first (hrow : h.row.fields = firstFields) (htie : bitAt tie 7 = 1) (hv : s.get .FLT_FIRST_VALID d h.inst = 1) (v : Nat) :
    (s.regPlain d h v).keepTied s d tie h =
      (s.put .FLT_FIRST_VALID d h.inst (1 &&& (1 - bitAt v 7))).recordLast d h.inst := by
  have hne : tie ≠ 0 := by rintro rfl; simp [bitAt] at htie
  have htied : s.tied d h.inst tie ⟨.FLT_FIRST_VALID, 7, .W1C⟩ = 1 := by simpa [State.tied, hv, bitsAt, bitAt] using htie
  simp [State.regPlain, State.keepTied, State.each, State.fieldStore, hrow, firstFields, hne, htied, State.when, hv, bitsAt, bitAt]

theorem State.recordLast_of_fault {n : FaultName} {x : Nat} (hf : faultOf (x / 64) (s.get .FLT_LASTC d x) = some n) :
    s.recordLast d x = s.recordFault d x ⟨n, s.get .FLT_LASTI d x⟩ (s.on .FLT_LASTN d x) (s.get .FLT_LASTT d x) := by
  unfold State.recordLast
  rw [hf]

/-- The record that the cycle's raises leave in their set. -/
theorem State.get_recordLast {n : FaultName} {x : Nat} (hc : s.canonical = true)
    (hf : faultOf (x / 64) (s.get .FLT_LASTC d x) = some n) :
    let t := s.recordLast d x
    t.get .FLT_FIRST_VALID d x = 1 ∧ t.get .FLT_FIRST_CODE d x = n.code ∧ t.get .FLT_FIRST_INSTANCE d x = s.get .FLT_LASTI d x ∧
      t.get .FLT_FIRST_CONCURRENT d x = s.get .FLT_LASTN d x ∧ t.get .FLT_FIRST_STAMP d x = s.get .FLT_LASTT d x := by
  have hlc : n.code < 2 ^ 5 := faultOf_code hf ▸ State.get_lt (f := .FLT_LASTC) hc rfl
  have hli : s.get .FLT_LASTI d x < 2 ^ 16 := State.get_lt (f := .FLT_LASTI) hc rfl
  have hln : s.get .FLT_LASTN d x < 2 ^ 1 := State.get_lt (f := .FLT_LASTN) hc rfl
  have hlt : s.get .FLT_LASTT d x < 2 ^ 64 := State.get_lt (f := .FLT_LASTT) hc rfl
  have hflag : flag (s.on .FLT_LASTN d x) = s.get .FLT_LASTN d x := by
    unfold flag State.on
    rcases Nat.lt_or_ge (s.get .FLT_LASTN d x) 1 with h0 | h1
    · simp [Nat.lt_one_iff.1 h0]
    · simp [Nat.le_antisymm (Nat.le_of_lt_succ hln) h1]
  dsimp only
  rw [State.recordLast_of_fault hf]
  refine ⟨?_, ?_, ?_, ?_, ?_⟩
  · simp [State.recordFault, State.get_put]
  · simpa [State.recordFault, State.get_put] using hlc
  · simpa [State.recordFault, State.get_put] using hli
  · simpa [State.recordFault, State.get_put, hflag] using Nat.le_of_lt_succ hln
  · simpa [State.recordFault, State.get_put] using hlt

end

end Sys2Proof.Machine
end

section
/-! SUPPORT. Reads that clear, and the holding registers of R5. -/

namespace Sys2Proof.Machine

/-! ### What a read shows and clears -/

section
variable {s t : State} {d tie before : Nat} {h : RegHit}

/-- Where hardware has set nothing in its cycle a read shows the register's value. -/
theorem State.shown_zero (s : State) (d before : Nat) (h : RegHit) : s.shown d 0 before h = s.regValue d h := by
  unfold State.shown State.regValue
  refine List.foldl_ext _ _ _ fun v f _ => ?_
  rw [if_pos (.inr (s.tied_zero d h.inst f))]

/-- Below its limit an RC field has counted what `tie` says. -/
theorem State.tied_of_rc {i : Nat} {f : FieldRow} (ha : f.acc = .RC) (hle : bitsAt tie f.lo f.fld.width ≤ s.get f.fld d i) :
    s.tied d i tie f = bitsAt tie f.lo f.fld.width := by
  simp [State.tied, ha, hle]

/-- A counter alone in its register, below its limit, shows what it held before the counts of its cycle. -/
theorem State.shown_of_rc {f : FieldRow} (hrow : h.row.fields = [f]) (ha : f.acc = .RC) (hlo : f.lo = 0) (hmax : f.fld.maximum = false)
    (hlim : s.get f.fld d h.inst + 1 < 2 ^ f.fld.width) (hle : bitsAt tie 0 f.fld.width ≤ s.get f.fld d h.inst)
    (hval : s.fieldValue d h.inst f = s.get f.fld d h.inst) :
    s.shown d tie before h = s.get f.fld d h.inst - bitsAt tie 0 f.fld.width := by
  have htied : s.tied d h.inst tie f = bitsAt tie 0 f.fld.width := hlo ▸ State.tied_of_rc ha (hlo ▸ hle)
  have hsat : f.saturates = true := by simp [FieldRow.saturates, ha]
  have hearlier : s.earlier d h.inst tie before f = s.get f.fld d h.inst - bitsAt tie 0 f.fld.width := by
    simp [State.earlier, hmax, hsat, hlim, htied]
  simp only [State.shown, hrow, List.foldl_cons, List.foldl_nil, htied, ha, hearlier, hlo, hval]
  split
  · next h0 => simp [h0.resolve_left (by simp)]
  · simp

/-- What a read clears, where it is no read of FLT_FIRST and takes no timestamp. -/
theorem State.readClears_eq (hfirst : h.head ≠ .FLT_FIRST_CODE) (htsf : h.head ≠ .MAC_TSF_INFO_SEQ) :
    t.readClears d tie h = t.each h.row.fields fun f u => u.when (f.acc = .RC) fun w => w.put f.fld d h.inst (t.tied d h.inst tie f) := by
  unfold State.readClears
  split
  · contradiction
  · contradiction
  · rfl

theorem State.Serves.readClears {a : FabResp} {l : List Loc} (hs : s.Serves t a l) (hm : h.locs d ⊆ l) (hfirst : h.head ≠ .FLT_FIRST_CODE)
    (htsf : h.head ≠ .MAC_TSF_INFO_SEQ) : s.Serves (t.readClears d tie h) a l := by
  rw [State.readClears_eq hfirst htsf]
  exact hs.each fun _ hf _ k => k.when (k.put (hm (List.mem_map_of_mem hf)))

/-- An RC field is left with what its own cycle added. -/
theorem State.get_readClears (hfirst : h.head ≠ .FLT_FIRST_CODE) (htsf : h.head ≠ .MAC_TSF_INFO_SEQ) (hn : h.cells.Nodup) {f : FieldRow}
    (hf : f ∈ h.row.fields) (ha : f.acc = .RC) :
    (t.readClears d tie h).get f.fld d h.inst = t.tied d h.inst tie f % 2 ^ f.fld.width := by
  rw [State.readClears_eq hfirst htsf]
  refine (State.get_each_own (F := fun f x => if f.acc = .RC then t.tied d h.inst tie f % 2 ^ f.fld.width else x) ?_ ?_ hn hf t).trans
    (if_pos ha)
  · intro f _ u g hg
    exact State.when_keeps (P := fun w => w.get g d h.inst = u.get g d h.inst) u rfl (State.get_put_fld _ hg ..)
  · intro f _ u
    unfold State.when
    split
    · exact State.get_put_same ..
    · rfl

end

/-! ### The holding registers (R5) -/

section
variable {s t : State} {r : FabReq} {h : RegHit} {kind key v : Nat}

theorem State.get_hold_kind : (t.hold r kind key v).get .HOLD_KIND r.die r.port = kind % 4 := by
  simp [State.hold, State.get_put]

theorem State.get_hold_reg : (t.hold r kind key v).get .HOLD_REG r.die r.port = key % 2 ^ 36 := by
  simp [State.hold, State.get_put]

theorem State.get_hold_val : (t.hold r kind key v).get .HOLD_VAL r.die r.port = v % 2 ^ 32 := by
  simp [State.hold]

theorem FabReq.regKey_lt (ht : r.tdie < 8) (hl : r.loc < 2 ^ 32) : r.regKey h < 2 ^ 36 := by
  unfold FabReq.regKey
  omega

theorem State.SameBut.held (hs : s.SameBut t wayFlds) : t.held r kind key = s.held r kind key := by
  unfold State.held
  rw [hs _ _ _ (by decide), hs _ _ _ (by decide)]

theorem State.SameBut.hold (hs : s.SameBut t unlisted) : s.SameBut (t.hold r kind key v) unlisted :=
  ((hs.put (by decide)).put (by decide)).put (by decide)

/-! ### A register's read and write, case by case -/

section
variable (hdbg : t.dbgBarred r.tdie h = false)
include hdbg

theorem State.regRead_narrow (hwide : h.row.wide = false) (htsf : h.head ≠ .MAC_TSF_INFO_SEQ) :
    t.regRead r h = (t.readClears r.tdie r.tie h).reply (t.shown r.tdie r.tie r.before h) false := by
  unfold State.regRead
  dsimp only
  rw [if_neg (by simp [hdbg]), State.when_false _ htsf, if_pos hwide]

theorem State.regRead_low (hwide : h.row.wide = true) (hhigh : h.high = false) (htsf : h.head ≠ .MAC_TSF_INFO_SEQ) :
    t.regRead r h = (t.hold r 1 (r.regKey h) (t.shown r.tdie r.tie r.before h / 2 ^ 32)).reply
      (t.shown r.tdie r.tie r.before h % 2 ^ 32) false := by
  unfold State.regRead
  dsimp only
  rw [if_neg (by simp [hdbg]), State.when_false _ htsf, if_neg (by simp [hwide]), if_pos hhigh]

theorem State.regRead_high (hwide : h.row.wide = true) (hhigh : h.high = true) (htsf : h.head ≠ .MAC_TSF_INFO_SEQ) :
    t.regRead r h = if t.held r 1 (r.regKey h) then (t.hold r 0 0 0).reply (t.get .HOLD_VAL r.die r.port) false
      else t.reply (t.shown r.tdie r.tie r.before h / 2 ^ 32) false := by
  unfold State.regRead
  dsimp only
  rw [if_neg (by simp [hdbg]), State.when_false _ htsf, if_neg (by simp [hwide]), if_neg (by simp [hhigh])]

variable (hdata : r.data < 2 ^ 32)
include hdata

theorem State.regWrite_low (hwide : h.row.wide = true) (hhigh : h.high = false) :
    t.regWrite r h = (t.reply 0 false).hold r 2 (r.regKey h) r.data := by
  unfold State.regWrite
  dsimp only
  rw [if_neg (by simp [hdbg]), if_neg (by simp [hwide]), if_pos hhigh, Nat.mod_eq_of_lt hdata]

theorem State.regWrite_high (hwide : h.row.wide = true) (hhigh : h.high = true) :
    t.regWrite r h = if t.held r 2 (r.regKey h)
      then ((t.reply 0 false).hold r 0 0 0).regTake r h (t.get .HOLD_VAL r.die r.port + r.data * 2 ^ 32)
      else (t.reply 0 false).regTake r h (t.lowKept r.tdie h + r.data * 2 ^ 32) := by
  unfold State.regWrite
  dsimp only
  rw [if_neg (by simp [hdbg]), if_neg (by simp [hwide]), if_neg (by simp [hhigh]), Nat.mod_eq_of_lt hdata]
  rfl

end

theorem FabReq.readClear_of_register (hr : r.register = some h) (hrc : (h.row.fields.any fun f => f.acc == .RC) = true) :
    r.readClear = true := by
  unfold FabReq.readClear
  rw [hr]
  exact hrc

theorem FabReq.wideWord_of_register (hr : r.register = some h) (hwide : h.row.wide = true) : r.wideWord h.high = true := by
  simp [FabReq.wideWord, hr, hwide]

theorem State.wins_alone (s : State) (r : FabReq) : s.wins r [] [] = true := by
  unfold State.wins
  split <;> simp [State.beats]

end


/-! ### The commands that read and write by R5 -/

section
variable {s : State} {d p addr data tie before : Nat} {h : RegHit}

theorem State.request_regKey_lt {w : Bool} (hr : s.Reaches (s.request d p addr w 4 data) h) :
    (s.request d p addr w 4 data).regKey h < 2 ^ 36 := by
  obtain ⟨⟨-, -, -, hlt, -⟩, -⟩ := hr
  exact FabReq.regKey_lt hlt (bitsAt_lt addr 0 32)

/-- RC_REGISTER_READ: the answer, the cleared fields, and all else. -/
theorem rcRegisterRead_clears (hr : s.Reaches (s.request d p addr false 4 0) h) (hwide : h.row.wide = false)
    (hrc : (h.row.fields.any fun f => f.acc == .RC) = true) (hn : h.cells.Nodup) (htsf : h.head ≠ .MAC_TSF_INFO_SEQ)
    (hfirst : h.head ≠ .FLT_FIRST_CODE) :
    let r := s.request d p addr false 4 0
    Completes (.rcRegisterRead d p addr tie before) s fun t => t.answer = ⟨s.shown r.tdie tie before h, false⟩ ∧
      (∀ f, f ∈ h.row.fields → f.acc = .RC → bitsAt tie f.lo f.fld.width ≤ s.get f.fld r.tdie h.inst →
        t.get f.fld r.tdie h.inst = bitsAt tie f.lo f.fld.width) ∧
      s.OnlyServed t r (h.locs r.tdie) := by
  intro r
  have hsame := s.entered_sameBut r
  have htest : FabReq.readClear { r with tie, before } = true := FabReq.readClear_of_register (h := h) hr.register hrc
  have hexec : exec (.rcRegisterRead d p addr tie before) s =
      .next (((s.entered r).readClears r.tdie tie h).reply ((s.entered r).shown r.tdie tie before h) false) :=
    congrArg (fun u => (.next u : Result)) ((State.regCommand_read hr htest).trans (State.regRead_narrow hr.dbgBarred hwide htsf))
  have hserves := ((hr.entered_serves (l := h.locs r.tdie)).readClears (d := r.tdie) (tie := tie) (List.subset_append_right ..) hfirst
    htsf).reply (v := (s.entered r).shown r.tdie tie before h) (e := false)
  refine ⟨_, hexec, ?_, fun f hf ha hle => ?_, hserves.within⟩
  · rw [hserves.answer_eq, hsame.shown _ _ _ hr.regular]
  · rw [State.reply_get, State.get_readClears hfirst htsf hn hf ha, hsame.tied _ _ _ (RegRow.listed hr.regular hf), State.tied_of_rc ha hle,
      Nat.mod_eq_of_lt (bitsAt_lt ..)]

/-- A read of MAC_TSF_INFO takes the next entry, then shows it. -/
theorem rcRegisterRead_pops (hr : s.Reaches (s.request d p addr false 4 0) h) (hwide : h.row.wide = false)
    (hrc : (h.row.fields.any fun f => f.acc == .RC) = true) (htsf : h.head = .MAC_TSF_INFO_SEQ) :
    let r := s.request d p addr false 4 0
    Completes (.rcRegisterRead d p addr 0 0) s fun t =>
      ∃ u, execTsfPop r.tdie h.inst (s.entered r) = .next u ∧ t = u.reply (u.regValue r.tdie h) false := by
  intro r
  have htest : FabReq.readClear r = true := FabReq.readClear_of_register hr.register hrc
  refine ⟨_, congrArg (fun u => (.next u : Result)) (State.regCommand_read hr htest), _, rfl, ?_⟩
  unfold State.regRead
  dsimp only
  rw [if_neg (by rw [hr.dbgBarred]; simp), State.when_true _ htsf, if_pos hwide]
  have hkeep (u : State) : u.readClears r.tdie 0 h = u := by simp [State.readClears, htsf]
  rw [hkeep, State.shown_zero]
  rfl

/-- REG64_LOW_READ holds the high word. -/
theorem reg64LowRead_holds (hr : s.Reaches (s.request d p addr false 4 0) h) (hwide : h.row.wide = true) (hhigh : h.high = false)
    (htsf : h.head ≠ .MAC_TSF_INFO_SEQ) :
    let r := s.request d p addr false 4 0
    let v := s.shown r.tdie tie 0 h
    Completes (.reg64LowRead d p addr tie) s fun t => t.answer = ⟨v % 2 ^ 32, false⟩ ∧ t.get .HOLD_KIND d p = 1 ∧
      t.get .HOLD_REG d p = r.regKey h ∧ t.get .HOLD_VAL d p = v / 2 ^ 32 % 2 ^ 32 ∧ s.OnlyServed t r (holdCells d p) := by
  intro r v
  have hv : (s.entered r).shown r.tdie tie 0 h = v := (s.entered_sameBut r).shown _ _ _ hr.regular
  have hexec : exec (.reg64LowRead d p addr tie) s =
      .next (((s.entered r).hold r 1 (r.regKey h) (v / 2 ^ 32)).reply (v % 2 ^ 32) false) := by
    rw [← hv]
    exact congrArg (fun u => (.next u : Result)) ((State.regCommand_read hr (hhigh ▸ FabReq.wideWord_of_register hr.register hwide)).trans
      (State.regRead_low hr.dbgBarred hwide hhigh htsf))
  have hserves := ((hr.entered_serves (l := holdCells d p)).hold (r := r) (kind := 1) (key := r.regKey h) (v := v / 2 ^ 32)
    (List.subset_append_right ..)).reply (v := v % 2 ^ 32) (e := false)
  refine ⟨_, hexec, hserves.answer_eq, ?_, ?_, ?_, hserves.within⟩
  · exact State.get_hold_kind (r := r)
  · exact (State.get_hold_reg (r := r)).trans (Nat.mod_eq_of_lt (State.request_regKey_lt hr))
  · exact State.get_hold_val (r := r)

/-- A read of a high word is served from the master's own holding register, and empties it, or from the register. -/
theorem fabricAccess_highRead (hr : s.Reaches (s.request d p addr false 4 0) h) (hwide : h.row.wide = true) (hhigh : h.high = true)
    (htsf : h.head ≠ .MAC_TSF_INFO_SEQ) :
    let r := s.request d p addr false 4 0
    Completes (.fabricAccess d p addr false 4 0 [] [] tie 0) s fun t =>
      (s.held r 1 (r.regKey h) = true → t.answer = ⟨s.get .HOLD_VAL d p, false⟩ ∧ t.get .HOLD_KIND d p = 0) ∧
      (s.held r 1 (r.regKey h) = false → t.answer = ⟨s.shown r.tdie tie 0 h / 2 ^ 32, false⟩ ∧
        t.get .HOLD_KIND d p = s.get .HOLD_KIND d p) ∧
      s.OnlyServed t r (holdCells d p) := by
  intro r
  have hr' : s.Reaches { r with tie, before := 0 } h := hr
  have hway := s.entered_sameBut_way r
  have hv : (s.entered r).shown r.tdie tie 0 h = s.shown r.tdie tie 0 h := (s.entered_sameBut r).shown _ _ _ hr.regular
  have hexec : exec (.fabricAccess d p addr false 4 0 [] [] tie 0) s = .next (if s.held r 1 (r.regKey h)
      then ((s.entered r).hold r 0 0 0).reply (s.get .HOLD_VAL d p) false
      else (s.entered r).reply (s.shown r.tdie tie 0 h / 2 ^ 32) false) := by
    rw [← hv, ← hway.held, ← hway .HOLD_VAL d p (by decide)]
    refine congrArg (fun u => (.next u : Result)) ((State.when_true _ ⟨hr.mayIssue, s.wins_alone _⟩ _).trans ?_)
    exact (hr'.access_read rfl rfl).trans (State.regRead_high hr.dbgBarred hwide hhigh htsf)
  have hserves := hr.entered_serves (l := holdCells d p)
  refine ⟨_, hexec, ?_⟩
  cases hheld : s.held r 1 (r.regKey h) with
  | true =>
    refine ⟨fun _ => ⟨rfl, State.get_hold_kind (r := r)⟩, by simp, ?_⟩
    exact ((hserves.hold (r := r) (List.subset_append_right ..)).reply (v := s.get .HOLD_VAL d p) (e := false)).within
  | false =>
    refine ⟨by simp, fun _ => ⟨rfl, hway .HOLD_KIND d p (by decide)⟩, ?_⟩
    exact (hserves.reply (v := s.shown r.tdie tie 0 h / 2 ^ 32) (e := false)).within

/-- REG64_LOW_WRITE is held and leaves the register. -/
theorem reg64LowWrite_holds (hr : s.Reaches (s.request d p addr true 4 data) h) (hdata : data < 2 ^ 32) (hwide : h.row.wide = true)
    (hhigh : h.high = false) :
    let r := s.request d p addr true 4 data
    Completes (.reg64LowWrite d p addr data) s fun t => t.answer.err = false ∧ t.get .HOLD_KIND d p = 2 ∧
      t.get .HOLD_REG d p = r.regKey h ∧ t.get .HOLD_VAL d p = data ∧ s.OnlyServed t r (holdCells d p) := by
  intro r
  have hexec : exec (.reg64LowWrite d p addr data) s = .next (((s.entered r).reply 0 false).hold r 2 (r.regKey h) data) :=
    congrArg (fun u => (.next u : Result)) ((State.regCommand_write hr (hhigh ▸ FabReq.wideWord_of_register hr.register hwide)).trans
      (State.regWrite_low hr.dbgBarred hdata hwide hhigh))
  have hserves := (hr.entered_serves (l := holdCells d p)).reply (v := 0) (e := false) |>.hold (r := r) (kind := 2) (key := r.regKey h)
    (v := data) (List.subset_append_right ..)
  refine ⟨_, hexec, by rw [hserves.answer_eq], ?_, ?_, ?_, hserves.within⟩
  · exact State.get_hold_kind (r := r)
  · exact (State.get_hold_reg (r := r)).trans (Nat.mod_eq_of_lt (State.request_regKey_lt hr))
  · exact (State.get_hold_val (r := r)).trans (Nat.mod_eq_of_lt hdata)

/-- REG64_HIGH_WRITE takes the held low word and empties the holding register, or keeps the register's low word. -/
theorem exec_reg64HighWrite (hr : s.Reaches (s.request d p addr true 4 data) h) (hdata : data < 2 ^ 32) (hwide : h.row.wide = true)
    (hhigh : h.high = true) :
    let r := { s.request d p addr true 4 data with tie := tie }
    let g := (s.entered r).reply 0 false
    exec (.reg64HighWrite d p addr data tie) s = .next (if s.held r 2 (r.regKey h)
      then (g.hold r 0 0 0).regTake r h (s.get .HOLD_VAL d p + data * 2 ^ 32)
      else g.regTake r h (s.lowKept r.tdie h + data * 2 ^ 32)) := by
  intro r g
  have hway := s.entered_sameBut_way r
  rw [← hway.held, ← hway .HOLD_VAL d p (by decide), ← (s.entered_sameBut r).lowKept r.tdie hr.regular]
  exact congrArg (fun u => (.next u : Result)) ((State.regCommand_write hr (hhigh ▸ FabReq.wideWord_of_register hr.register hwide)).trans
    (State.regWrite_high hr.dbgBarred hdata hwide hhigh))

/-- The fields of a register that does not act take the two words by their access codes. -/
theorem reg64HighWrite_takes (hr : s.Reaches (s.request d p addr true 4 data) h) (hdata : data < 2 ^ 32) (hwide : h.row.wide = true)
    (hhigh : h.high = true) :
    let r := { s.request d p addr true 4 data with tie := tie }
    (∀ (t : State) (c v : Nat), t.regStore r.tdie c h v = t.regPlain r.tdie h v) → h.head ≠ .HOST_IPEND → h.head ≠ .FLT_FIRST_CODE →
    h.cells.Nodup → Completes (.reg64HighWrite d p addr data tie) s fun t =>
      (∀ f, f ∈ h.row.fields → s.FieldTaken t r.tdie h
        ((if s.held r 2 (r.regKey h) = true then s.get .HOLD_VAL d p else s.lowKept r.tdie h) + data * 2 ^ 32) tie f) ∧
      t.answer.err = false ∧ s.OnlyServed t r (holdCells d p ++ h.locs r.tdie) := by
  intro r hplain hipend hfirst hn
  have hreg := hr.regular
  have hr' : s.Reaches r h := hr
  have htie : h.head = .FLT_FIRST_CODE → bitAt r.tie 7 = 0 := fun he => absurd he hfirst
  have hlocs : h.locs r.tdie ⊆ s.fabCells r ++ (holdCells d p ++ h.locs r.tdie) :=
    List.subset_append_of_subset_right _ (List.subset_append_right ..)
  have hhold : holdCells d p ⊆ s.fabCells r ++ (holdCells d p ++ h.locs r.tdie) :=
    List.subset_append_of_subset_right _ (List.subset_append_left ..)
  have hsame : s.SameBut ((s.entered r).reply 0 false) unlisted := (s.entered_sameBut r).reply
  have hserves : s.Serves ((s.entered r).reply 0 false) ⟨0, false⟩ (s.fabCells r ++ (holdCells d p ++ h.locs r.tdie)) :=
    hr'.entered_serves.reply
  refine ⟨_, exec_reg64HighWrite hr hdata hwide hhigh, ?_⟩
  split
  · have htake := (hserves.hold (r := r) (kind := 0) (key := 0) (v := 0) hhold).regTake (r := r)
      (v := s.get .HOLD_VAL d p + data * 2 ^ 32) hreg hipend hplain htie hlocs
    exact ⟨fun f hf => State.regTake_fieldTaken (r := r) hreg hipend hplain htie hsame.hold hn hf, by rw [htake.answer_eq], htake.within⟩
  · have htake := hserves.regTake (r := r) (v := s.lowKept r.tdie h + data * 2 ^ 32) hreg hipend hplain htie hlocs
    exact ⟨fun f hf => State.regTake_fieldTaken (r := r) hreg hipend hplain htie hsame hn hf, by rw [htake.answer_eq], htake.within⟩

end

end Sys2Proof.Machine

open Sys2Proof Sys2Proof.Machine

/-- Settles O5: clause by clause, from what a register's read and write do where the access has entered. -/
theorem readsClearAndHold : Obligations.ReadsClearAndHold := by
  unfold Obligations.ReadsClearAndHold
  intro s d p addr data tie before h hdata rd wr e key v
  refine ⟨s.shown_zero e before h, fun f hrow ha hlo hmax hlim hle hval => State.shown_of_rc hrow ha hlo hmax hlim hle hval,
    fun hr hwide hrc hn _ => ⟨fun htsf hfirst => rcRegisterRead_clears hr hwide hrc hn htsf hfirst,
      fun htsf => rcRegisterRead_pops hr hwide hrc htsf⟩,
    fun hr hwide hhigh htsf => reg64LowRead_holds hr hwide hhigh htsf, fun hr hwide hhigh htsf => fabricAccess_highRead hr hwide hhigh htsf,
    fun hr hwide hhigh => reg64LowWrite_holds hr hdata hwide hhigh, fun hr hwide hhigh => ?_⟩
  have hexec := exec_reg64HighWrite (d := d) (p := p) (addr := addr) (tie := tie) hr hdata hwide hhigh
  exact ⟨fun hheld => hexec.trans (congrArg _ (if_pos hheld)),
    fun hheld => hexec.trans (congrArg _ (if_neg (ne_true_of_eq_false hheld))),
    fun hplain hipend hfirst _ hn => reg64HighWrite_takes hr hdata hwide hhigh hplain hipend hfirst hn⟩

end

section

open Sys2Proof Sys2Proof.Machine

/-- Settles O4: the fields of the register fold over cells of their own, each by its access code, and what the cycle set stays. -/
theorem registerWriteByAccessCode : Obligations.RegisterWriteByAccessCode := by
  unfold Obligations.RegisterWriteByAccessCode
  intro s d p addr data tie h hc hdata hn r hr hwide hipend hplain
  let e := (s.entered r).reply 0 false
  have hreg := hr.regular
  have hsame : s.SameBut e unlisted := (s.entered_sameBut r).reply
  have hexec := exec_registerWrite (tie := tie) hr hwide hdata
  refine ⟨fun f hf htie => ⟨_, hexec, ?_⟩, fun n hhead hfield htie hv hfault => ⟨_, hexec, ?_⟩⟩
  · have hserves : s.Serves e ⟨0, false⟩ (s.fabCells r ++ h.locs r.tdie) := hr.entered_serves.reply
    have htake := hserves.regTake (r := { r with tie := tie }) (v := data) hreg hipend hplain htie (List.subset_append_right ..)
    exact ⟨State.regTake_fieldTaken (r := { r with tie := tie }) hreg hipend hplain htie hsame hn hf, by rw [htake.answer_eq],
      htake.within⟩
  · have hrow := RegHit.first_of_head hreg hhead
    have hec : e.canonical = true := (State.Keeps.refl (p := fun _ => True)).granted.takeFlits.reply.canonical hc
    have hev : e.get .FLT_FIRST_VALID r.tdie h.inst = 1 := (hsame _ _ _ (by decide)).trans hv
    have htake := State.regTake_plain (t := e) (r := { r with tie := tie }) (v := data) hipend hplain
    have hput (g : Fld) (hne : g ≠ .FLT_FIRST_VALID) (hg : g ∉ unlisted) :
        (e.put .FLT_FIRST_VALID r.tdie h.inst (1 &&& (1 - bitAt data 7))).get g r.tdie h.inst = s.get g r.tdie h.inst :=
      (State.get_put_fld _ hne ..).trans (hsame g _ _ hg)
    have hrecord := State.get_recordLast (State.put_canonical .FLT_FIRST_VALID r.tdie h.inst (1 &&& (1 - bitAt data 7)) hec)
      (by rw [hput .FLT_LASTC (by decide) (by decide)]; exact hfault)
    rw [hput .FLT_LASTI (by decide) (by decide), hput .FLT_LASTN (by decide) (by decide), hput .FLT_LASTT (by decide) (by decide)] at hrecord
    rw [htake, State.keepTied_first hrow htie hev]
    exact hrecord

end

section
/-! SUPPORT. What a raise of faults writes, and the cells of the ring that faults, conditions and the reference selector leave. -/

namespace Sys2Proof.Machine

/-! ### What leaves the ring as it is -/

/-- Cells that the ring's commands read or set, and that no fault, condition or reference changes. -/
def ringFlds : List Fld := [.RING_STATUS_ADDR, .RING_STATUS_HEAD, .RING_STATUS_N, .RING_STATUS_UP, .RING_STATUS_ENUMFAIL,
  .RING_STATUS_OVERSIZE, .RING_STATUS_NOHEAD, .RING_STATUS_MULTIHEAD, .RING_HASADDR, .RING_OVER, .RING_TOKEN, .RING_TRIES, .RING_STEPPED,
  .RING_UPSTEP, .RING_DEVID, .RING_TH, .BIRAY_STATUS_STATE, .BIRAY_STATUS_WRAP, .MDLL_STATUS_OUT, .STRAP_TESTMODE, .IN_PORST,
  .DOM_RPHASE, .DOM_EDGET, .DOM_CFG_RATE, .DOM_CFG_RING, .TB_DOMCNT, .EPOCH_CFG_EN, .EPOCH_CSTAT_COMMIT_PEND, .COMMIT_T, .RING_ASGNT,
  .AXO_STATUS_TAIL, .CSF_READY]

/-- `t` has the ring cells and the memory of `s`, every message on its way in `s`, and every fault raised in `s`. -/
structure State.Quiet (s t : State) : Prop where
  ring : ∀ f ∈ ringFlds, ∀ d i, t.get f d i = s.get f d i
  mem : t.mem = s.mem
  sent : s.sent <+: t.sent
  sticky : ∀ d x k, k < 32 → bitAt (s.get .FLT_STICKY d x) k = 1 → bitAt (t.get .FLT_STICKY d x) k = 1

/-! ### What a raise writes (R438, R440, R444) -/

namespace State.Within
variable {s t : State} {l : List Loc}

theorem refl : s.Within s l := ⟨fun _ _ => rfl, rfl⟩

theorem put {f : Fld} {d i v : Nat} (h : s.Within t l) (hm : ⟨f, d, i⟩ ∈ l) : s.Within (t.put f d i v) l := by
  obtain ⟨hget, hrest⟩ := h
  refine ⟨fun c hc => (State.get_put_ne t ?_ v).trans (hget c hc), ?_⟩
  · rintro ⟨rfl, rfl, rfl⟩
    exact hc hm
  · refine Eq.trans ?_ hrest
    unfold State.put
    split <;> rfl

theorem incSat {f : Fld} {d i n : Nat} (h : s.Within t l) (hm : ⟨f, d, i⟩ ∈ l) : s.Within (t.incSat f d i n) l := h.put hm

theorem when {c : Prop} [Decidable c] {g : State → State} (h : s.Within t l) (hg : ∀ u, s.Within u l → s.Within (g u) l) :
    s.Within (t.when c g) l :=
  State.when_keeps (P := fun u => s.Within u l) t h (hg t h)

end State.Within

theorem mem_raiseCells {f : Fld} (d x : Nat) (hf : f ∈ raiseFlds) : ⟨f, d, x⟩ ∈ raiseCells d x := List.mem_map_of_mem hf

theorem fld_of_mem_raiseCells {c : Loc} {d x : Nat} (hc : c ∈ raiseCells d x) : c.fld ∈ raiseFlds := by
  obtain ⟨f, hf, rfl⟩ := List.mem_map.1 hc
  exact hf

/-- The raises of one cycle write cells of the set of the raise that the record takes, and nothing else. -/
theorem State.raisesAt_within (s : State) (stamp d b : Nat) {l : List Raise} {r : Raise} (hr : Raise.first (Raise.join l) = some r) :
    s.Within (s.raisesAt stamp d b l) (raiseCells d (r.name.set b)) := by
  have cell (f : Fld) (hf : f ∈ raiseFlds) := mem_raiseCells d (r.name.set b) hf
  unfold State.raisesAt
  rw [hr]
  refine .when (.when (.when ?_ fun u hu => ?_) fun u hu => hu.put (cell .FLT_STATUS_NOTE (by decide))) fun u hu => ?_
  · exact (((((Within.refl.put (cell .FLT_STICKY (by decide))).incSat (cell .FLT_CNT (by decide))).put (cell .FLT_LASTC (by decide))).put
      (cell .FLT_LASTI (by decide))).put (cell .FLT_LASTN (by decide))).put (cell .FLT_LASTT (by decide))
  · exact (((((((hu.put (cell .FLT_FIRST_CODE (by decide))).put (cell .FLT_FIRST_SEV (by decide))).put (cell .FLT_FIRST_INSTANCE (by decide))).put
      (cell .FLT_FIRST_VALID (by decide))).put (cell .FLT_FIRST_CONCURRENT (by decide))).put (cell .FLT_FIRST_CLEARED_BEFORE_READ (by decide))).put
      (cell .FLT_FIRST_STAMP (by decide))).put (cell .FLT_READT (by decide))
  · exact ((hu.put (cell .FLT_STATUS_LEVEL (by decide))).put (cell .FLT_STATUS_TIRQ (by decide))).put (cell .FLT_T0 (by decide))

/-- STICKY takes the bits of the raises. -/
theorem State.get_sticky_raisesAt (s : State) (stamp d b : Nat) {l : List Raise} {r : Raise}
    (hr : Raise.first (Raise.join l) = some r) :
    (s.raisesAt stamp d b l).get .FLT_STICKY d (r.name.set b) =
      (s.get .FLT_STICKY d (r.name.set b) ||| Raise.bits l) % 2 ^ 32 := by
  unfold State.raisesAt
  rw [hr]
  simp only [State.when]
  split_ifs <;> simp [State.enterL1, State.recordFault, State.noteRaises, State.incSat, State.get_put]

theorem FaultName.code_lt (n : FaultName) : n.code < 32 := by cases n <;> decide

section
variable (s : State) (n : FaultName) (d b i : Nat)

theorem State.fault_within : s.Within (s.fault n d b i) (raiseCells d (n.set b)) := s.raisesAt_within (s.capture d) d b (r := ⟨n, i⟩) rfl

theorem State.fault_get {f : Fld} (hf : f ∉ raiseFlds) (e j : Nat) : (s.fault n d b i).get f e j = s.get f e j :=
  (s.fault_within n d b i).1 ⟨f, e, j⟩ fun h => hf (fld_of_mem_raiseCells h)

theorem State.fault_raised : (s.fault n d b i).Raised n d b := by
  have h : (s.fault n d b i).get .FLT_STICKY d (n.set b) = (s.get .FLT_STICKY d (n.set b) ||| Raise.bits [⟨n, i⟩]) % 2 ^ 32 :=
    s.get_sticky_raisesAt (s.capture d) d b (r := ⟨n, i⟩) rfl
  rw [State.Raised, h, bitAt_eq_one_iff, Nat.testBit_mod_two_pow, decide_eq_true n.code_lt]
  simp [Raise.bits]

theorem State.fault_answer : (s.fault n d b i).answer = s.answer := (congrArg State.answer (s.fault_within n d b i).2 :)
theorem State.fault_remote : (s.fault n d b i).remote = s.remote := (congrArg State.remote (s.fault_within n d b i).2 :)
theorem State.fault_mem : (s.fault n d b i).mem = s.mem := (congrArg State.mem (s.fault_within n d b i).2 :)
theorem State.fault_hostQ : (s.fault n d b i).hostQ = s.hostQ := (congrArg State.hostQ (s.fault_within n d b i).2 :)

end

/-! ### What is quiet -/

namespace State.Quiet
variable {s t u : State} {f : Fld} {d i v n : Nat}

theorem refl : s.Quiet s := ⟨fun _ _ _ _ => rfl, rfl, List.prefix_rfl, fun _ _ _ _ => id⟩

theorem trans (h : s.Quiet t) (k : t.Quiet u) : s.Quiet u :=
  ⟨fun f hf d i => (k.ring f hf d i).trans (h.ring f hf d i), k.mem.trans h.mem, h.sent.trans k.sent,
    fun d x j hj hs => k.sticky d x j hj (h.sticky d x j hj hs)⟩

/-- A state with the cells and the memory of a quiet one, and its messages and perhaps more. -/
theorem of_cells (h : s.Quiet t) (hc : u.cells = t.cells) (hm : u.mem = t.mem) (hs : t.sent <+: u.sent) : s.Quiet u := by
  have hget (f : Fld) (d i : Nat) : u.get f d i = t.get f d i := by unfold State.get; rw [hc]
  exact h.trans ⟨fun f _ d i => hget f d i, hm, hs, fun d x k _ => by rw [hget]; exact id⟩

theorem put (h : s.Quiet t) (hf : (Fld.FLT_STICKY :: ringFlds).contains f = false) : s.Quiet (t.put f d i v) := by
  have hne (g : Fld) (hg : g ∈ Fld.FLT_STICKY :: ringFlds) : g ≠ f := by
    rintro rfl
    simp [hg] at hf
  refine h.trans ⟨fun g hg e j => t.get_put_fld (hne g (List.mem_cons_of_mem _ hg)) .., by simp, by simp, fun e x k _ => ?_⟩
  rw [t.get_put_fld (hne _ List.mem_cons_self)]
  exact id

theorem ite {c : Prop} [Decidable c] {a b : State} (ha : s.Quiet a) (hb : s.Quiet b) : s.Quiet (if c then a else b) := by
  split <;> assumption

theorem when {c : Prop} [Decidable c] {g : State → State} (h : s.Quiet t) (hg : ∀ u, s.Quiet u → s.Quiet (g u)) :
    s.Quiet (t.when c g) := .ite (hg t h) h

theorem each {α : Type} {g : α → State → State} {l : List α} (h : s.Quiet t) (hg : ∀ a u, s.Quiet u → s.Quiet (g a u)) :
    s.Quiet (t.each l g) := State.each_keeps (P := fun u => s.Quiet u) t h fun a _ u => hg a u

theorem update {errs conds due queue claims croak ready kicks busyAcc locks badFlits resp answer deferred bundles boards blocks ports
    sapBlks phc hists macTx macLine tsf built stx mirror remote hostQ image snaps txs scenes events faultLog starts freeCtr pending}
    (h : s.Quiet t) : s.Quiet ⟨t.cells, t.mem, errs, conds, due, t.sent, queue, claims, croak, ready, kicks, busyAcc, locks, badFlits,
      resp, answer, deferred, bundles, boards, blocks, ports, sapBlks, phc, hists, macTx, macLine, tsf, built, stx, mirror, remote, hostQ,
      image, snaps, txs, scenes, events, faultLog, starts, freeCtr, pending⟩ := h.of_cells rfl rfl List.prefix_rfl

theorem send {m : Msg} (h : s.Quiet t) : s.Quiet (t.send m) := h.of_cells rfl rfl (List.prefix_append ..)

theorem raisesAt {stamp b : Nat} {l : List Raise} (h : s.Quiet t) : s.Quiet (t.raisesAt stamp d b l) := by
  refine h.trans ?_
  cases hr : Raise.first (Raise.join l) with
  | none => unfold State.raisesAt; rw [hr]; exact refl
  | some r =>
    obtain ⟨hget, hrest⟩ := t.raisesAt_within stamp d b hr
    have hsent : (t.raisesAt stamp d b l).sent = t.sent := (congrArg State.sent hrest :)
    have hother {c : Loc} (hc : c ∉ raiseCells d (r.name.set b)) := hget c hc
    refine ⟨fun f hf e j => hother (c := ⟨f, e, j⟩) fun hm => ?_, (congrArg State.mem hrest :), hsent ▸ List.prefix_rfl,
      fun e x k hk hs => ?_⟩
    · have hdis : ∀ f ∈ ringFlds, f ∉ raiseFlds := by decide
      exact hdis f hf (fld_of_mem_raiseCells hm)
    · by_cases hx : e = d ∧ x = r.name.set b
      · obtain ⟨rfl, rfl⟩ := hx
        rw [bitAt_eq_one_iff] at hs ⊢
        rw [t.get_sticky_raisesAt stamp e b hr, Nat.testBit_mod_two_pow, Nat.testBit_or, hs, decide_eq_true hk]
        rfl
      · rw [hother (c := ⟨.FLT_STICKY, e, x⟩) ?_]
        · exact hs
        · intro hm
          obtain ⟨f, -, hf⟩ := List.mem_map.1 hm
          cases hf
          exact hx ⟨rfl, rfl⟩

/-! ### Machine/Faults -/

theorem raises {b : Nat} {l : List Raise} (h : s.Quiet t) : s.Quiet (t.raises d b l) := h.raisesAt
theorem fault {m : FaultName} {b : Nat} (h : s.Quiet t) : s.Quiet (t.fault m d b i) := h.raises
theorem condMark {b : Nat} {r : Raise} (h : s.Quiet t) : s.Quiet (t.condMark d b r) := .put (.ite h h.update) (by decide)
theorem condBegin {m : FaultName} {b : Nat} (h : s.Quiet t) : s.Quiet (t.condBegin m d b i) := .ite h.condMark h.condMark.fault
theorem condEnd {m : FaultName} {b : Nat} (h : s.Quiet t) : s.Quiet (t.condEnd m d b i) :=
  .ite h.update ((h.update.put (by decide)).when fun _ k => k.put (by decide))
theorem condSet {m : FaultName} {b : Nat} {c : Bool} (h : s.Quiet t) : s.Quiet (t.condSet m d b i c) := .ite h.condBegin h.condEnd
theorem owe {m : FaultName} {b : Nat} (h : s.Quiet t) : s.Quiet (t.owe m d b i) := h.update
theorem oweCond {m : FaultName} {b : Nat} (h : s.Quiet t) : s.Quiet (t.oweCond m d b i) := .ite h.condMark h.condMark.owe
theorem settle {m : FaultName} {b : Nat} (h : s.Quiet t) : s.Quiet (t.settle m d b) := .raises h.update

/-! ### Machine/Refsel -/

theorem refHist {a e : Fld} {r : Nat} (h : s.Quiet t) (ha : (Fld.FLT_STICKY :: ringFlds).contains a = false) :
    s.Quiet (t.refHist a e r i) := .ite h ((h.put ha).when fun _ k => k.owe)

theorem dpllLeave (h : s.Quiet t) : s.Quiet t.dpllLeave := h.when fun _ k => k.condEnd

theorem dpllEnter {st : Nat} (h : s.Quiet t) : s.Quiet (t.dpllEnter st) := by
  unfold State.dpllEnter
  split
  · exact h
  · dsimp only
    split
    · exact (h.dpllLeave.put (by decide)).refHist (by decide)
    · exact (h.dpllLeave.put (by decide)).refHist (by decide)
    · exact (h.dpllLeave.put (by decide)).refHist (by decide)
    · exact (h.dpllLeave.put (by decide)).refHist (by decide)

theorem bwRefresh (h : s.Quiet t) : s.Quiet t.bwRefresh := h.when fun _ k => k.put (by decide)
theorem dpllCoast (h : s.Quiet t) : s.Quiet t.dpllCoast := h.when fun _ k => k.put (by decide)

theorem switchStart {r : Nat} (h : s.Quiet t) : s.Quiet (t.switchStart r) :=
  have hsel := ((h.put (by decide)).put (by decide)).when fun _ k => k.put (by decide)
  .owe (.dpllCoast (.put (.put hsel.dpllEnter (by decide)) (by decide)))

theorem selectNone (h : s.Quiet t) : s.Quiet t.selectNone := by
  unfold State.selectNone
  dsimp only
  split
  · exact (h.put (by decide)).dpllEnter.put (by decide)
  · exact (h.put (by decide)).when fun _ k => k.dpllEnter.dpllCoast
  · exact (h.put (by decide)).when fun _ k => k.dpllEnter.dpllCoast.oweCond

theorem evaluate (h : s.Quiet t) : s.Quiet t.evaluate := .ite h (.ite h.selectNone (h.when fun _ k => k.switchStart))
theorem switchEnd {none : Bool} (h : s.Quiet t) : s.Quiet (t.switchEnd none)  :=
  .ite ((h.put (by decide)).put (by decide)).evaluate (h.put (by decide)).bwRefresh.evaluate

theorem refUpdates {l : List Nat} (h : s.Quiet t) : s.Quiet (t.refUpdates l) := by
  have hgone {m g : List Nat} : s.Quiet ((t.each m fun r u => ((u.put .REF_GDIRTY 6 r 1).put .REF_GCLEAN 6 r 0).put .REF_HOLD 6 r 0).each g
      fun r u => u.put .REF_LIVE_QUAL 6 r 0) :=
    .each (h.each fun _ _ k => ((k.put (by decide)).put (by decide)).put (by decide)) fun _ _ k => k.put (by decide)
  exact .ite hgone (.ite (.ite hgone.owe.switchEnd hgone.owe.evaluate) hgone.evaluate)

theorem refUpdate {r : Nat} (h : s.Quiet t) : s.Quiet (t.refUpdate r) := h.refUpdates
theorem refFreeze {r : Nat} (h : s.Quiet t) : s.Quiet (t.refFreeze r) := h.when fun _ k => k.put (by decide)
theorem foFlywheel {r : Nat} (h : s.Quiet t) : s.Quiet (t.foFlywheel r) :=
  h.each fun _ _ k => k.when fun _ l => l.put (by decide)

theorem refLos {r : Nat} (h : s.Quiet t) : s.Quiet (t.refLos r) :=
  .refUpdate (.refFreeze (.foFlywheel (.refHist ((h.put (by decide)).when fun _ k => k.put (by decide)) (by decide))))

theorem refDead {r : Nat} (h : s.Quiet t) : s.Quiet (t.refDead r) := h.when fun _ k => k.refLos.settle
theorem refInternal {r e : Nat} (h : s.Quiet t) : s.Quiet (t.refInternal r e) := (h.put (by decide)).put (by decide)

/-! ### Machine/Sap -/

theorem sapMod {x : Nat} {g : SapPort → SapPort} (h : s.Quiet t) : s.Quiet (t.sapMod d x g) := h.update
theorem latchMasks {D T : Nat} (h : s.Quiet t) : s.Quiet (t.latchMasks D T) :=
  h.each fun _ _ k => .ite ((k.put (by decide)).put (by decide)) ((k.put (by decide)).sapMod.put (by decide))

end State.Quiet

end Sys2Proof.Machine
end

section
/-! SUPPORT. The cells that an access to memory writes, those of a mailbox entry, and what the start of CSF leaves. -/

namespace Sys2Proof.Machine

namespace State.SameBut
variable {s t u : State} {l : List Fld} {f : Fld} {d i n b : Nat}

/-- Whatever else of the state changes. -/
theorem update {mem errs conds due sent queue claims croak ready kicks busyAcc locks badFlits resp answer deferred bundles boards blocks
    ports sapBlks phc hists macTx macLine tsf built stx mirror remote hostQ image snaps txs scenes events faultLog starts freeCtr pending}
    (h : s.SameBut t l) : s.SameBut ⟨t.cells, mem, errs, conds, due, sent, queue, claims, croak, ready, kicks, busyAcc, locks, badFlits,
      resp, answer, deferred, bundles, boards, blocks, ports, sapBlks, phc, hists, macTx, macLine, tsf, built, stx, mirror, remote, hostQ,
      image, snaps, txs, scenes, events, faultLog, starts, freeCtr, pending⟩ l := h

theorem ite {c : Prop} [Decidable c] {a b : State} (ha : s.SameBut a l) (hb : s.SameBut b l) : s.SameBut (if c then a else b) l := by
  split <;> assumption

theorem when {c : Prop} [Decidable c] {g : State → State} (h : s.SameBut t l) (hg : ∀ u, s.SameBut u l → s.SameBut (g u) l) :
    s.SameBut (t.when c g) l := .ite (hg t h) h

theorem each {α : Type} {g : α → State → State} {m : List α} (h : s.SameBut t l)
    (hg : ∀ a u, s.SameBut u l → s.SameBut (g a u) l) : s.SameBut (t.each m g) l :=
  State.each_keeps (P := fun u => s.SameBut u l) t h fun a _ u => hg a u

theorem raises {m : List Raise} (h : s.SameBut t l) (hl : raiseFlds ⊆ l) : s.SameBut (t.raises d b m) l := by
  cases hr : Raise.first (Raise.join m) with
  | none => unfold State.raises State.raisesAt; rw [hr]; exact h
  | some r =>
    exact h.trans fun f e j hf => (t.raisesAt_within (t.capture d) d b hr).1 ⟨f, e, j⟩ fun hm => hf (hl (fld_of_mem_raiseCells hm))

theorem setByte {e a : Nat} {x : Byte} (h : s.SameBut t l) : s.SameBut (t.setByte e a x) l := h

theorem store {e a v : Nat} (h : s.SameBut t l) : s.SameBut (t.store e a n v) l := by
  induction n generalizing t a v with
  | zero => exact h
  | succ n ih => exact ih h.setByte

theorem storeBytes {e a : Nat} {m : List Nat} (h : s.SameBut t l) : s.SameBut (t.storeBytes e a m) l := by
  induction m generalizing t a with
  | nil => exact h
  | cons x m ih => exact ih h.setByte

theorem faultLogged {m : List FaultRec} (h : s.SameBut t l) : s.SameBut (t.faultLogged m) l := h.update

end State.SameBut

/-! ### Accesses to memory -/

/-- Cells of the banks' and newts' checks, of collisions, of the kicks a write makes, and of the records of refused accesses. -/
def checkFlds : List Fld := [.BANK_ECCLOG_WADDR, .BANK_ECCLOG_HALF, .BANK_ECCLOG_VALID, .BANK_ECCLOG_BIT,
  .BANK_ECCLOG_UE, .BANK_ECCLOG_PORT, .BANK_ECCLOG_MERGE, .BANK_ECCLOG_INJ, .BANK_CE_CE_CNT, .BANK_CE_UE_CNT, .BANK_STAT_UE,
  .FLT_INJ_COUNT, .BANK_COLL_WADDR, .BANK_COLL_KIND, .BANK_COLL_VALID, .BANK_COLL_AMASTER, .BANK_COLL_BMASTER, .BANK_COLL_OVF,
  .CHORUS_XKICK_CNT, .GRP_STAT_KICKS, .DMA_STATUS_BUSY, .DMA_CUR, .DMA_PHASE, .DMA_CLASS, .DMA_DOM, .DMA_BYREG, .DMA_STATUS_QDEPTH,
  .DMA_STATUS_KOVF, .NEWT_ECC_CE_CNT, .NEWT_ECC_DMEM_UE, .NEWT_ECC_PMEM_UE, .FAB_DERR_ADDR, .FAB_DERR_DIE, .FAB_DERR_UNIT,
  .FAB_DERR_PORT, .FAB_DERR_ORIGIN, .FAB_DERR_CLASS, .FAB_DERR_WRITE, .FAB_DERR_CAUSE, .FAB_DERR_VALID, .FAB_DERR_OVF, .FAB_PERR_ADDR,
  .FAB_PERR_DIE, .FAB_PERR_UNIT, .FAB_PERR_PORT, .FAB_PERR_ORIGIN, .FAB_PERR_CLASS, .FAB_PERR_WRITE, .FAB_PERR_CAUSE, .FAB_PERR_VALID,
  .FAB_PERR_OVF]

/-- Cells that an access to memory writes: those of its way and of its checks, and of the faults raised. -/
def memFlds : List Fld := wayFlds ++ raiseFlds ++ checkFlds

/-- Only cells that accesses to memory write differ. -/
def State.Accessed (s t : State) : Prop := s.SameBut t memFlds

namespace State.Accessed
variable {s t u : State} {f : Fld} {d i v n w a port : Nat}

theorem refl : s.Accessed s := State.SameBut.refl
theorem update {mem errs conds due sent queue claims croak ready kicks busyAcc locks badFlits resp answer deferred bundles boards blocks ports
    sapBlks phc hists macTx macLine tsf built stx mirror remote hostQ image snaps txs scenes events faultLog starts freeCtr pending}
    (h : s.Accessed t) : s.Accessed ⟨t.cells, mem, errs, conds, due, sent, queue, claims, croak, ready, kicks, busyAcc, locks, badFlits, resp,
      answer, deferred, bundles, boards, blocks, ports, sapBlks, phc, hists, macTx, macLine, tsf, built, stx, mirror, remote, hostQ,
      image, snaps, txs, scenes, events, faultLog, starts, freeCtr, pending⟩ := h
theorem put (h : s.Accessed t) (hf : memFlds.contains f = true) : s.Accessed (t.put f d i v) :=
  State.SameBut.put h (List.contains_iff_mem.1 hf)
theorem inc (h : s.Accessed t) (hf : memFlds.contains f = true) : s.Accessed (t.inc f d i n) := h.put hf
theorem incSat (h : s.Accessed t) (hf : memFlds.contains f = true) : s.Accessed (t.incSat f d i n) := h.put hf
theorem dec (h : s.Accessed t) (hf : memFlds.contains f = true) : s.Accessed (t.dec f d i n) := h.put hf
theorem ite {c : Prop} [Decidable c] {a b : State} (ha : s.Accessed a) (hb : s.Accessed b) : s.Accessed (if c then a else b) :=
  State.SameBut.ite ha hb
theorem when {c : Prop} [Decidable c] {g : State → State} (h : s.Accessed t) (hg : ∀ u, s.Accessed u → s.Accessed (g u)) :
    s.Accessed (t.when c g) := State.SameBut.when h hg
theorem each {α : Type} {g : α → State → State} {m : List α} (h : s.Accessed t) (hg : ∀ a u, s.Accessed u → s.Accessed (g a u)) :
    s.Accessed (t.each m g) := State.SameBut.each h hg
theorem raises {b : Nat} {l : List Raise} (h : s.Accessed t) : s.Accessed (t.raises d b l) :=
  State.SameBut.raises h fun _ hf => List.mem_append_left _ (List.mem_append_right _ hf)
theorem fault {m : FaultName} {b : Nat} (h : s.Accessed t) : s.Accessed (t.fault m d b i) := h.raises
theorem store (h : s.Accessed t) : s.Accessed (t.store d a n v) := State.SameBut.store h
theorem clearErr (h : s.Accessed t) : s.Accessed (t.clearErr d a) := h.update
theorem reply {e : Bool} (h : s.Accessed t) : s.Accessed (t.reply v e) := h.update

/-! ### Machine/BankRead -/

theorem eccLog {merge inj : Nat} {c : Check} (h : s.Accessed t) : s.Accessed (t.eccLog d a port merge inj c) :=
  h.when fun _ k => by
    iterate 8 refine .put ?_ (by decide)
    exact k

theorem countCheck {merge inj : Nat} {c : Check} (h : s.Accessed t) : s.Accessed (t.countCheck d a port merge inj c) := by
  unfold State.countCheck
  split
  · exact h
  · exact (h.incSat (by decide)).eccLog
  · exact ((h.incSat (by decide)).put (by decide)).eccLog

theorem afterCheck {merge : Nat} (h : s.Accessed t) : s.Accessed (t.afterCheck d a port merge) := by
  dsimp only [State.afterCheck]
  exact .countCheck (h.when fun _ k => k.dec (by decide))

theorem readHalves {halves merge : Nat} (h : s.Accessed t) : s.Accessed (t.readHalves d w port halves merge).st :=
  .ite (.afterCheck (.ite h.afterCheck h)) (.ite h.afterCheck h)

theorem bankRead {halves : Nat} (h : s.Accessed t) : s.Accessed (t.bankRead d w port halves).1 := by
  refine .raises ?_
  unfold State.bankReadRaw
  rw [apply_ite WordRead.st]
  exact .ite h h.readHalves

theorem collide {kind am bm : Nat} (h : s.Accessed t) : s.Accessed (t.collide d w kind am bm) := by
  refine .ite ?_ (h.incSat (by decide))
  iterate 5 refine .put ?_ (by decide)
  exact h
theorem passLock {master : Nat} (h : s.Accessed t) : s.Accessed (t.passLock d w port master) := h.when fun _ k => k.collide
theorem wordRead {master halves : Nat} (h : s.Accessed t) : s.Accessed (t.wordRead d w port master halves).1 := h.passLock.bankRead

/-! ### Machine/Kick -/

theorem chorusKick {g : Nat} (h : s.Accessed t) : s.Accessed (t.chorusKick d g) :=
  .ite (h.incSat (by decide)).fault ((h.incSat (by decide)).when fun _ k => .ite k k.update)

theorem dmaBegin {k : Kick} (h : s.Accessed t) : s.Accessed (t.dmaBegin k) := by
  iterate 6 refine .put ?_ (by decide)
  exact h

theorem readAhead {k : Kick} (h : s.Accessed t) : s.Accessed (t.readAhead k).1 := by
  unfold State.readAhead
  rw [apply_ite Prod.fst]
  exact .ite h h.wordRead

theorem dmaKick {k : Kick} (h : s.Accessed t) : s.Accessed (t.dmaKick k) :=
  .ite h.readAhead.dmaBegin (.ite (.update ((h.readAhead (k := k)).inc (by decide))) (h.put (by decide)).fault)

theorem kickWord (h : s.Accessed t) : s.Accessed (t.kickWord d a v) := .when (h.when fun _ k => k.chorusKick) fun _ k => k.dmaKick

/-! ### Machine/Bank -/

theorem writeHalf {kind en old new : Nat} (h : s.Accessed t) : s.Accessed (t.writeHalf d a kind en old new) := .ite h h.store.clearErr

theorem kickWords {en : Nat} (h : s.Accessed t) : s.Accessed (t.kickWords d w en) := h.each fun _ _ k => k.when fun _ l => l.kickWord

theorem bankWrite {kind en data : Nat} (h : s.Accessed t) : s.Accessed (t.bankWrite d w port kind en data).1 := by
  have hraw : s.Accessed (t.bankWriteRaw d w port kind en data).st := by
    unfold State.bankWriteRaw
    rw [apply_ite WordRead.st]
    exact .ite h h.readHalves.writeHalf.writeHalf
  exact .ite hraw.raises hraw.raises.kickWords

theorem wordWrite {master later kind en data : Nat} (h : s.Accessed t) : s.Accessed (t.wordWrite d w port master later kind en data).1 := by
  unfold State.wordWrite
  rw [apply_ite Prod.fst]
  exact .ite h (.ite h.passLock.bankWrite (.update (h.passLock.bankWrite (w := w))))

theorem bankReadBytes {master fuel : Nat} (h : s.Accessed t) : s.Accessed (t.bankReadBytes d port master a fuel n).1 := by
  induction fuel generalizing t a n with
  | zero => exact h
  | succ fuel ih =>
    rw [State.bankReadBytes, apply_ite Prod.fst]
    exact .ite h (ih h.wordRead)

theorem bankWriteBytes {master later kind fuel : Nat} (h : s.Accessed t) :
    s.Accessed (t.bankWriteBytes d port master later kind a fuel n v).1 := by
  induction fuel generalizing t later a n v with
  | zero => exact h
  | succ fuel ih =>
    rw [State.bankWriteBytes, apply_ite Prod.fst]
    exact .ite h (ih h.wordWrite)

/-! ### Machine/NewtMem -/

theorem newtRaise {l : List Raise} (h : s.Accessed t) : s.Accessed (t.newtRaise d n l) := .ite h (.ite h.update h.raises)

theorem afterNewtCheck (h : s.Accessed t) : s.Accessed (t.afterNewtCheck d n a) := by
  have hdec : s.Accessed (t.when (t.newtInjects d n a = true) fun u => u.dec .FLT_INJ_COUNT d (newtSet n) 1) :=
    h.when fun _ k => k.dec (by decide)
  dsimp only [State.afterNewtCheck]
  exact .ite hdec (.ite (hdec.incSat (by decide)) (.ite (hdec.put (by decide)) (hdec.put (by decide))))

theorem newtReadWords {j : Nat} {l : List Nat} (h : s.Accessed t) : s.Accessed (t.newtReadWords d n j l).1 := by
  induction l generalizing t with
  | nil => exact h
  | cons x l ih =>
    dsimp only [State.newtReadWords]
    exact ih h.afterNewtCheck

theorem newtWriteWord {en data j : Nat} (h : s.Accessed t) : s.Accessed (t.newtWriteWord d n a en data j).1 := by
  unfold State.newtWriteWord
  simp only [apply_ite Prod.fst]
  exact .ite h (.ite h.store.clearErr h.afterNewtCheck.store.clearErr)

theorem newtWriteWords {j : Nat} {l : List Nat} {en data : Nat} (h : s.Accessed t) : s.Accessed (t.newtWriteWords d n j l en data).1 := by
  induction l generalizing t en data with
  | nil => exact h
  | cons x l ih =>
    dsimp only [State.newtWriteWords]
    exact ih h.newtWriteWord

theorem newtFabWrite {len data : Nat} (h : s.Accessed t) : s.Accessed (t.newtFabWrite d n a len data).1 := by
  unfold State.newtFabWrite
  simp only [apply_ite Prod.fst]
  exact .ite h.newtRaise h.newtWriteWords.newtRaise

/-! ### Machine/Fabric -/

variable {r : FabReq}

theorem logDecode {cause : Nat} (h : s.Accessed t) : s.Accessed (t.logDecode r d cause) := by
  refine .reply (.fault (.ite ?_ (h.incSat (by decide))))
  iterate 9 refine .put ?_ (by decide)
  exact h

theorem logPerm {q : Place} {cause : Nat} (h : s.Accessed t) : s.Accessed (t.logPerm r q cause) := by
  refine .reply (.fault (.ite ?_ (h.incSat (by decide))))
  iterate 9 refine .put ?_ (by decide)
  exact h

theorem fabTarget (h : s.Accessed t) : s.Accessed (t.fabTarget r).1 := by
  unfold State.fabTarget
  simp only [apply_ite Prod.fst]
  exact .ite h.logPerm (.ite h.logDecode (.ite h.logDecode (.ite h.logPerm h)))

theorem takeFlits (h : s.Accessed t) : s.Accessed (t.takeFlits r) := .each h.update fun _ _ k => k.put (by decide)

theorem fabFar (h : s.Accessed t) : s.Accessed (t.fabFar r).1 := by
  unfold State.fabFar
  simp only [apply_ite Prod.fst]
  exact .ite h.fabTarget.takeFlits h.fabTarget

theorem fabCheck (h : s.Accessed t) : s.Accessed (t.fabCheck r).1 := by
  unfold State.fabCheck
  simp only [apply_ite Prod.fst]
  exact .ite (.ite h.fabTarget h.reply) (.ite h.logDecode (.ite (.ite h.logDecode (.ite h h.logDecode)) (.ite h.logDecode h.fabFar)))

theorem fabEnter (h : s.Accessed t) : s.Accessed (t.fabEnter r).1 :=
  .fabCheck (h.when fun _ k => k.each fun _ _ l => l.put (by decide))

theorem memAccess {q : Place} (h : s.Accessed t) : s.Accessed (t.memAccess r q) := by
  unfold State.memAccess
  split
  · exact .ite h.bankWriteBytes.reply h.bankReadBytes.reply
  · exact .ite h.newtFabWrite.reply (.reply (.newtRaise h.newtReadWords))
  · exact .ite h.store.reply h.reply
  · exact h.reply

theorem overLinks {g : FabReq → State → State} (h : s.Accessed t) (hg : ∀ q u, s.Accessed u → s.Accessed (g q u)) :
    s.Accessed (t.overLinks r g) :=
  .ite (hg _ _ h.takeFlits) (.reply (hg _ _ h.takeFlits))

theorem fabMem (h : s.Accessed t) : s.Accessed (t.fabMem r) := by
  have k := h.fabEnter (r := r)
  unfold State.fabMem
  generalize t.fabEnter r = q at k ⊢
  obtain ⟨u, _ | _ | _⟩ := q
  · exact k
  · exact k.overLinks fun _ _ k => k.memAccess
  · exact k.reply

/-- CSF copies the live element over the staged one by two accesses of its own. -/
theorem restoreElem {D a0 a1 : Nat} (h : s.Accessed t) : s.Accessed (t.restoreElem d D a0 a1) := h.fabMem.fabMem

end State.Accessed

/-! ### Entries of the mailboxes -/

/-- Cells of the mailbox rings' indices and of their records, and of the interrupts of both sides. -/
def entryFlds : List Fld := [.MBX_PI, .MBX_CI, .MBX_PIOLD, .MBX_CIOLD, .MBX_STAT_FILL, .MBX_STAT_WRONGSIDE, .MBX_STAT_BADIDX,
  .HP_TPEND_CMD, .HOST_IPEND, .MSIX_PBA, .CSF_EVSEQ, .CSF_EVLOST]

/-- Cells that an entry of a mailbox ring writes: those, and the cells of the faults raised. -/
def mailFlds : List Fld := raiseFlds ++ entryFlds

/-- Only cells that mailbox entries write differ. -/
def State.Mailed (s t : State) : Prop := s.SameBut t mailFlds

namespace State.Mailed
variable {s t u : State} {f : Fld} {d i v n p : Nat}

theorem refl : s.Mailed s := State.SameBut.refl
theorem update {mem errs conds due sent queue claims croak ready kicks busyAcc locks badFlits resp answer deferred bundles boards blocks ports
    sapBlks phc hists macTx macLine tsf built stx mirror remote hostQ image snaps txs scenes events faultLog starts freeCtr pending}
    (h : s.Mailed t) : s.Mailed ⟨t.cells, mem, errs, conds, due, sent, queue, claims, croak, ready, kicks, busyAcc, locks, badFlits, resp,
      answer, deferred, bundles, boards, blocks, ports, sapBlks, phc, hists, macTx, macLine, tsf, built, stx, mirror, remote, hostQ,
      image, snaps, txs, scenes, events, faultLog, starts, freeCtr, pending⟩ := h
theorem reply {e : Bool} (h : s.Mailed t) : s.Mailed (t.reply v e) := h.update
theorem put (h : s.Mailed t) (hf : mailFlds.contains f = true) : s.Mailed (t.put f d i v) :=
  State.SameBut.put h (List.contains_iff_mem.1 hf)
theorem ite {c : Prop} [Decidable c] {a b : State} (ha : s.Mailed a) (hb : s.Mailed b) : s.Mailed (if c then a else b) :=
  State.SameBut.ite ha hb
theorem when {c : Prop} [Decidable c] {g : State → State} (h : s.Mailed t) (hg : ∀ u, s.Mailed u → s.Mailed (g u)) :
    s.Mailed (t.when c g) := State.SameBut.when h hg
theorem fault {m : FaultName} {b : Nat} (h : s.Mailed t) : s.Mailed (t.fault m d b i) :=
  State.SameBut.raises h (List.subset_append_left ..)

theorem hostEvent (h : s.Mailed t) : s.Mailed (t.hostEvent v) :=
  .put (h.when fun _ k => .ite k (.ite (k.put (by decide)) k.update)) (by decide)

theorem mbxPiWrite {r idx cls : Nat} {tie : Bool} (h : s.Mailed t) : s.Mailed (t.mbxPiWrite r idx cls tie) :=
  .ite (h.put (by decide)).fault.reply (.ite (h.put (by decide)).fault.reply
    ((((h.put (by decide)).put (by decide)).put (by decide)).reply.when fun _ k => .ite (k.put (by decide)) k.hostEvent))

theorem mbxCiWrite {r idx cls : Nat} {tie : Bool} (h : s.Mailed t) : s.Mailed (t.mbxCiWrite r idx cls tie) :=
  .ite (h.put (by decide)).fault.reply (.ite (h.put (by decide)).fault.reply
    (((h.put (by decide)).put (by decide)).put (by decide)).reply)

theorem publish {op seq txid status : Nat} {l : List Nat} (h : s.Mailed t) : s.Mailed (t.publish p op seq txid status l) :=
  .mbxPiWrite (State.SameBut.storeBytes h)

theorem respond {status txid : Nat} {l : List Nat} (h : s.Mailed t) : s.Mailed (t.respond p status txid l) := h.publish.mbxCiWrite

theorem shedReplies (h : s.Mailed t) : s.Mailed (t.shedReplies p n) := by
  induction n generalizing t with
  | zero => exact h
  | succ n ih => exact .ite h (ih h.respond)

theorem eventSend {code txid : Nat} {l : List Nat} (h : s.Mailed t) : s.Mailed (t.eventSend p code txid l) := h.publish.put (by decide)

theorem eventFlush (h : s.Mailed t) : s.Mailed (t.eventFlush p n) := by
  induction n generalizing t with
  | zero => exact h
  | succ n ih =>
    rw [State.eventFlush]
    split
    · exact h
    · exact .ite h (.ite (ih (h.eventSend.put (by decide))) (ih h.update.eventSend))

theorem eventQueue {code txid : Nat} {l : List Nat} (h : s.Mailed t) : s.Mailed (t.eventQueue p code txid l) := by
  unfold State.eventQueue
  refine .when (.update ?_) fun _ k => k.eventFlush
  split
  · exact h
  · exact .ite (.update (h.put (by decide))) h

theorem csfEvent {code txid : Nat} {l : List Nat} (h : s.Mailed t) : s.Mailed (t.csfEvent code txid l) :=
  h.when fun _ k => State.SameBut.each k fun _ _ (q : s.Mailed _) => q.eventQueue

theorem faultLogged {l : List FaultRec} (h : s.Mailed t) : s.Mailed (t.faultLogged l) := SameBut.faultLogged h
theorem setRead {x : Nat} (h : s.Mailed t) : s.Mailed (t.setRead d x) := .put (h.when fun _ k => k.put (by decide)) (by decide)

end State.Mailed

/-! ### CSF starts -/

/-- Cells in which CSF keeps its interrupts, the snapshot it reports and what pairs subscribe to. -/
def keptFlds : List Fld := [.FLT_IEN, .CSF_SNAPEV, .CSF_SNAPROLE, .CSF_SNAPSYNC, .CSF_SNAPSINCE, .CSF_EVMASK]

/-- Cells that the start of CSF writes beside READY. -/
def startFlds : List Fld := memFlds ++ mailFlds ++ keptFlds

theorem memFlds_subset : memFlds ⊆ startFlds := fun _ hf => List.mem_append_left _ (List.mem_append_left _ hf)
theorem mailFlds_subset : mailFlds ⊆ startFlds := fun _ hf => List.mem_append_left _ (List.mem_append_right _ hf)

/-- CSF starts: it is READY then, and beside that only cells of `startFlds` differ. -/
theorem State.csfStart_ready (s : State) : ∃ u, s.SameBut u startFlds ∧ (u.put .CSF_READY 6 0 1).SameBut s.csfStart startFlds := by
  have hien : s.SameBut s.csfIen startFlds :=
    (((SameBut.refl.put (by decide)).put (by decide)).put (by decide)).put (by decide)
  have helems {l : List (Nat × Nat × Nat × Nat)} :
      s.SameBut (s.csfIen.each l fun q t => t.restoreElem q.1 q.2.1 q.2.2.1 q.2.2.2) startFlds :=
    hien.each fun _ u k => k.trans ((Accessed.refl (s := u)).restoreElem.mono memFlds_subset)
  have hreplies {l : List (Nat × Nat × Nat × Nat)} {m : List Nat} :=
    (helems (l := l)).each (m := m) fun p u k => k.trans ((Mailed.refl (s := u)).shedReplies (p := p) (n := 64) |>.mono mailFlds_subset)
  have hlog {t : State} (ht : s.SameBut t startFlds) : s.SameBut t.logRebuilt startFlds :=
    ht.each fun q u k => k.trans ((Mailed.refl (s := u)).faultLogged.setRead.mono mailFlds_subset)
  have hsnap {t : State} (ht : s.SameBut t startFlds) : s.SameBut t.snapKept startFlds :=
    (((ht.put (by decide)).put (by decide)).put (by decide)).put (by decide)
  unfold State.csfStart
  refine ⟨_, ?_, (SameBut.refl.put (f := .CSF_EVMASK) (by decide)).trans (Mailed.refl.csfEvent.mono mailFlds_subset)⟩
  exact .ite (hlog hreplies) (hsnap hreplies.faultLogged)

/-- The ring step and READY after CSF has started. -/
theorem State.csfStart_get (s : State) {f : Fld} (hf : f ∉ startFlds) (hr : f ≠ .CSF_READY) (d i : Nat) :
    s.csfStart.get f d i = s.get f d i := by
  obtain ⟨u, hu, ht⟩ := s.csfStart_ready
  rw [ht f d i hf, State.get_put_fld _ hr, hu f d i hf]

theorem State.csfStart_get_ready (s : State) : s.csfStart.get .CSF_READY 6 0 = 1 := by
  obtain ⟨u, -, ht⟩ := s.csfStart_ready
  rw [ht _ _ _ (by decide)]
  simp

end Sys2Proof.Machine
end

section
/-! SUPPORT. Frames: their words and payloads, their way, and what a unit's own frames leave. -/

namespace Sys2Proof.Machine

/-! ### Words and payloads -/

theorem bytesNat_natBytes (n v : Nat) : bytesNat (natBytes n v) = v % 256 ^ n := by
  induction n generalizing v with
  | zero => simp [natBytes, bytesNat, Nat.mod_one]
  | succ n ih => rw [natBytes, bytesNat, ih, Nat.pow_succ', Nat.mod_mul]

@[simp] theorem natBytes_length (n v : Nat) : (natBytes n v).length = n := by
  induction n generalizing v with
  | zero => rfl
  | succ n ih => rw [natBytes, List.length_cons, ih]

theorem bytesNat_natBytes_of_lt {n v : Nat} (hv : v < 256 ^ n) : bytesNat (natBytes n v) = v := by
  rw [bytesNat_natBytes, Nat.mod_eq_of_lt hv]

theorem pad16_take {l : List Nat} {n : Nat} (hn : n ≤ l.length) : (pad16 l).take n = l.take n := List.take_append_of_le_length hn

theorem pad16_eq {l : List Nat} (hl : l.length % 16 = 0) : pad16 l = l := by simp [pad16, hl]

theorem slice_append_left {l m : List Nat} {a n : Nat} (h : a + n ≤ l.length) : slice (l ++ m) a n = slice l a n := by
  unfold slice
  rw [List.drop_append_of_le_length (by omega), List.take_append_of_le_length (by rw [List.length_drop]; omega)]

theorem slice_append_right {l m : List Nat} {a n : Nat} (h : l.length ≤ a) : slice (l ++ m) a n = slice m (a - l.length) n := by
  unfold slice
  rw [List.drop_append, List.drop_eq_nil_of_le h, List.nil_append]

theorem slice_all {l : List Nat} {n : Nat} (h : l.length = n) : slice l 0 n = l := by simp [slice, ← h]

theorem slice_slice {l : List Nat} {a n b m : Nat} (h : b + m ≤ n) : slice (slice l a n) b m = slice l (a + b) m := by
  unfold slice
  rw [List.drop_take, List.take_take, List.drop_drop, Nat.min_eq_left (by omega)]

theorem frWord_lt {f : BFrame} (hw : ∀ x, x ∈ f.w → x < 2 ^ 32) (i : Nat) : frWord f i < 2 ^ 32 := by
  unfold frWord
  by_cases h : i - 1 < f.w.length
  · rw [List.getD_eq_getElem _ _ h]; exact hw _ (List.getElem_mem h)
  · rw [List.getD_eq_default _ _ (Nat.le_of_not_lt h)]; decide

theorem frLong_lt {f : BFrame} (hw : ∀ x, x ∈ f.w → x < 2 ^ 32) (i : Nat) : frLong f i < 2 ^ 64 := by
  have hlo := frWord_lt hw i
  have hhi := frWord_lt hw (i + 1)
  unfold frLong
  omega

/-- The words of a 64-bit field give it back. -/
theorem words64_join (v : Nat) : v % 2 ^ 32 + v / 2 ^ 32 % 2 ^ 32 * 2 ^ 32 = v % 2 ^ 64 := by omega

theorem frLong_words64 (a b c d x v : Nat) (l p : List Nat) : frLong ⟨a, b, c, d, [x] ++ words64 v ++ l, p⟩ 2 = v % 2 ^ 64 :=
  words64_join v

/-- The 64-bit field of a frame of three words. -/
theorem frLong_two {v : Nat} (hv : v < 2 ^ 64) (a b c d x : Nat) (p : List Nat) : frLong ⟨a, b, c, d, [x] ++ words64 v, p⟩ 2 = v :=
  (words64_join v).trans (Nat.mod_eq_of_lt hv)

/-! ### Cells within their width -/

/-- In canonical form a cell whose reset value fits its width keeps within it. -/
theorem State.get_lt_width {s : State} {f : Fld} {d i : Nat} (hc : s.canonical = true) (hz : f.reset d i < 2 ^ f.width) :
    s.get f d i < 2 ^ f.width := by
  unfold State.get
  cases hf : Cells.find ⟨f, d, i⟩ s.cells with
  | none => exact hz
  | some x =>
    have hfits := ((Cells.wf_iff _).1 ((State.canonical_iff s).1 hc).1).2 _ (Cells.find_mem hf)
    simp only [Cells.fits, Bool.and_eq_true, decide_eq_true_eq] at hfits
    exact hfits.1

theorem State.devId_lt {s : State} (hc : s.canonical = true) : s.get .RING_DEVID 6 0 < 2 ^ 64 :=
  State.get_lt_width (f := .RING_DEVID) hc (Nat.mod_lt _ (by decide))

theorem State.domcnt_lt {s : State} (hc : s.canonical = true) (D : Nat) : s.domcnt D < 2 ^ 64 := State.get_lt (f := .TB_DOMCNT) hc rfl

theorem State.on_eq_true {s : State} {f : Fld} {d i : Nat} : s.on f d i = true ↔ s.get f d i = 1 := beq_iff_eq

theorem State.on_eq_false {s : State} {f : Fld} {d i : Nat} : s.on f d i = false ↔ s.get f d i ≠ 1 := by
  rw [← Bool.not_eq_true, State.on_eq_true]

/-! ### A frame's way east (R357, R363) -/

/-- The east port is UP and runs, and does not wrap. -/
def State.East (s : State) : Prop :=
  s.get .BIRAY_STATUS_STATE 6 0 = 2 ∧ s.serdesRuns 6 = true ∧ s.get .BIRAY_STATUS_WRAP 6 0 = 0

/-- The cells that decide it. -/
def eastFlds : List Fld := [.BIRAY_STATUS_STATE, .MDLL_STATUS_OUT, .STRAP_TESTMODE, .IN_PORST, .BIRAY_STATUS_WRAP]

section
variable {s t : State}

theorem State.East.of_same (h : s.East) (hs : ∀ f ∈ eastFlds, ∀ d i, t.get f d i = s.get f d i) : t.East := by
  unfold State.East State.serdesRuns State.pinsFloat State.on at *
  simp only [hs .BIRAY_STATUS_STATE (by decide), hs .MDLL_STATUS_OUT (by decide), hs .STRAP_TESTMODE (by decide),
    hs .IN_PORST (by decide), hs .BIRAY_STATUS_WRAP (by decide)]
  exact h

theorem State.East.put {f : Fld} {d i v : Nat} (h : s.East) (hf : eastFlds.contains f = false) : (s.put f d i v).East :=
  h.of_same fun g hg d i => s.get_put_fld (by rintro rfl; simp [hg] at hf) ..

theorem State.Quiet.east (q : s.Quiet t) (h : s.East) : t.East :=
  h.of_same fun f hf => q.ring f ((by decide : ∀ f ∈ eastFlds, f ∈ ringFlds) f hf)

theorem State.East.birayEast (h : s.East) (ty : Nat) (f : BFrame) : s.birayEast ty f = s.send (.biray 6 ty f) := by
  obtain ⟨hup, hrun, hwrap⟩ := h
  simp [State.birayEast, State.portSend, State.portLive, State.portUp, State.on, State.when, hup, hrun, hwrap]

theorem State.East.birayOwn (h : s.East) (ho : s.get .RING_OVER 6 0 = 0) (ty dst : Nat) (w p : List Nat) :
    s.birayOwn ty dst w p = s.send (.biray 6 ty ⟨s.ringAddr, dst, 0, 0, w, pad16 p⟩) :=
  (s.when_true ho _).trans (h.birayEast ty _)

theorem State.East.birayForward (h : s.East) {f : BFrame} (hh : f.hops < 62) (dir ty : Nat) :
    s.birayForward dir ty f = s.send (.biray 6 ty { f with hops := f.hops + 1 }) :=
  (if_neg (by omega)).trans (h.birayEast ty _)

theorem State.East.birayForward_mem (h : s.East) {f : BFrame} (hh : f.hops < 62) (dir ty : Nat) :
    .biray 6 ty { f with hops := f.hops + 1 } ∈ (s.birayForward dir ty f).sent := by
  rw [h.birayForward hh, State.send_sent]
  simp

/-! ### What frames leave -/

/-- `t` is `s`, or `s` with a message more on its way. -/
def State.Emits (s t : State) : Prop := t = s ∨ ∃ m, t = s.send m

theorem State.Emits.when {c : Prop} [Decidable c] {g : State → State} (h : s.Emits (g s)) : s.Emits (s.when c g) :=
  State.when_keeps (P := s.Emits) s (.inl rfl) h

theorem State.Emits.of_cells (h : s.Emits t) : t.cells = s.cells := by
  rcases h with rfl | ⟨m, rfl⟩ <;> rfl

theorem State.Emits.get (h : s.Emits t) (f : Fld) (d i : Nat) : t.get f d i = s.get f d i := by
  unfold State.get; rw [h.of_cells]

theorem State.Emits.mem (h : s.Emits t) : t.mem = s.mem := by
  rcases h with rfl | ⟨m, rfl⟩ <;> rfl

theorem State.Emits.quiet (h : s.Emits t) : s.Quiet t := by
  rcases h with rfl | ⟨m, rfl⟩
  · exact .refl
  · exact State.Quiet.refl.send

theorem State.Emits.sent_length (h : s.Emits t) : t.sent.length ≤ s.sent.length + 1 := by
  rcases h with rfl | ⟨m, rfl⟩
  · exact Nat.le_succ _
  · simp

theorem State.portSend_emits (s : State) (d ty : Nat) (f : BFrame) : s.Emits (s.portSend d ty f) := .when (.inr ⟨_, rfl⟩)

theorem State.birayEast_emits (s : State) (ty : Nat) (f : BFrame) : s.Emits (s.birayEast ty f) := by
  unfold State.birayEast
  split
  · exact .when (s.portSend_emits ..)
  · exact s.portSend_emits ..

theorem State.birayOwn_emits (s : State) (ty dst : Nat) (w p : List Nat) : s.Emits (s.birayOwn ty dst w p) := .when (s.birayEast_emits ..)

theorem State.birayFrom_emits (s : State) (d ty dst : Nat) (w p : List Nat) : s.Emits (s.birayFrom d ty dst w p) :=
  .when (s.birayOwn_emits ..)

theorem State.enumToken_emits (s : State) (next announce : Nat) : s.Emits (s.enumToken next announce) := s.birayOwn_emits ..

/-- A frame forwarded counts a discard, or goes on. -/
theorem State.birayForward_cases (s : State) (dir ty : Nat) (f : BFrame) :
    s.birayForward dir ty f = s.incSat .BIRAY_DISC (birayDie dir) 0 1 ∨ s.Emits (s.birayForward dir ty f) := by
  unfold State.birayForward
  split
  · exact .inl rfl
  · exact .inr (s.birayEast_emits ..)

theorem State.birayForward_quiet (s : State) (dir ty : Nat) (f : BFrame) : s.Quiet (s.birayForward dir ty f) := by
  rcases s.birayForward_cases dir ty f with h | h
  · rw [h]; exact State.Quiet.refl.put (by decide)
  · exact h.quiet

theorem State.birayForward_sameBut (s : State) (dir ty : Nat) (f : BFrame) : s.SameBut (s.birayForward dir ty f) [.BIRAY_DISC] := by
  rcases s.birayForward_cases dir ty f with h | h
  · rw [h]; exact State.SameBut.refl.put (by decide)
  · exact fun g d i _ => h.get g d i

theorem State.birayForward_sent_length (s : State) (dir ty : Nat) (f : BFrame) :
    (s.birayForward dir ty f).sent.length ≤ s.sent.length + 1 := by
  rcases s.birayForward_cases dir ty f with h | h
  · rw [h, State.incSat, State.put_sent]; exact Nat.le_succ _
  · exact h.sent_length

theorem State.Quiet.sameMem (q : s.Quiet t) : s.SameMem t := fun d a => by unfold State.byte; rw [q.mem]

theorem State.Quiet.mem_sent (q : s.Quiet t) {m : Msg} (hm : m ∈ s.sent) : m ∈ t.sent := q.sent.subset hm

theorem State.Quiet.get (q : s.Quiet t) (f : Fld) (hf : ringFlds.contains f = true) (d i : Nat) : t.get f d i = s.get f d i :=
  q.ring f (List.contains_iff_mem.1 hf) d i

theorem State.Quiet.raised (q : s.Quiet t) {n : FaultName} {d b : Nat} (h : s.Raised n d b) : t.Raised n d b :=
  q.sticky d (n.set b) n.code n.code_lt h

theorem SameMem.of_mem {s t : State} (h : t.mem = s.mem) : s.SameMem t := fun d a => by unfold State.byte; rw [h]

/-! ### A frame that arrives (R358, R363, R364) -/

variable {dir ty : Nat} {f g : BFrame} {act : State → State}

/-- A frame of this direction arrives for processing: its port is UP and runs, no wrap discards it or passes it through, and it
reaches die 6. -/
def State.Arrives (s : State) (dir : Nat) (f : BFrame) : Prop :=
  s.get .BIRAY_STATUS_STATE (birayDie dir) 0 = 2 ∧ s.serdesRuns (birayDie dir) = true ∧
    (f.wrap ≠ 1 ∨ s.get .BIRAY_STATUS_WRAP 7 0 = 1 ∨ s.get .BIRAY_DISCW 7 0 = 0) ∧ (dir = 1 → s.get .BIRAY_STATUS_WRAP 7 0 = 1) ∧
    (dir = 0 → s.routeUp 7 6 = true)

theorem State.Arrives.birayIn (h : s.Arrives dir f) : s.birayIn dir ty f act = act s := by
  obtain ⟨hup, hrun, hwrap, hrev, hroute⟩ := h
  have hlive : ¬ s.portLive (birayDie dir) = false := by simp [State.portLive, State.portUp, hup, hrun]
  have hkept : ¬ (f.wrap = 1 ∧ s.on .BIRAY_STATUS_WRAP 7 0 = false ∧ s.on .BIRAY_DISCW 7 0 = true) := by
    rw [State.on_eq_false, State.on_eq_true]; omega
  have hpass : ¬ (dir = 1 ∧ s.on .BIRAY_STATUS_WRAP 7 0 = false) := fun ⟨hd, hw⟩ => State.on_eq_false.1 hw (hrev hd)
  have hreach : ¬ (dir = 0 ∧ s.routeUp 7 6 = false) := fun ⟨hd, hr⟩ => by rw [hroute hd] at hr; cases hr
  unfold State.birayIn
  dsimp only
  rw [if_neg hlive, if_neg hkept, if_neg hpass, if_neg hreach]

/-- A unicast frame for this unit is processed. -/
theorem State.Arrives.birayUnicast (h : s.Arrives dir f) (ha : s.get .RING_HASADDR 6 0 = 1) (hd : f.dst = s.get .RING_STATUS_ADDR 6 0) :
    s.birayUnicast dir ty f act = act s :=
  h.birayIn.trans (if_pos ⟨State.on_eq_true.2 ha, hd⟩)

/-- A broadcast frame of another unit is processed and forwarded. -/
theorem State.Arrives.birayBroadcast (h : s.Arrives dir g) (ha : s.get .RING_HASADDR 6 0 = 1) (hs : f.src ≠ s.get .RING_STATUS_ADDR 6 0)
    {noaddr : Bool} : s.birayBroadcast dir ty f g noaddr act = (act s).birayForward dir ty g :=
  h.birayIn.trans ((if_neg (by rw [State.addressed, State.on_eq_false]; exact not_not.2 ha)).trans (if_neg hs))

/-- A unit without an address does the same where the frame's kind says so. -/
theorem State.Arrives.birayBroadcast_unaddressed (h : s.Arrives dir g) (ha : s.get .RING_HASADDR 6 0 = 0) :
    s.birayBroadcast dir ty f g true act = (act s).birayForward dir ty g :=
  h.birayIn.trans (if_pos (State.on_eq_false.2 (by omega)))

end

/-! ### Addresses and tokens (R360, R384) -/

section
variable {s : State}

/-- A bit of RING_STATUS sets and RING_ENUM is raised. -/
theorem State.ringTrouble_spec (s : State) {b : Fld} (hb : b ∉ raiseFlds) :
    (s.ringTrouble b).get b 6 0 = 1 % 2 ^ b.width ∧ (s.ringTrouble b).Raised .RING_ENUM 6 0 ∧ s.SameMem (s.ringTrouble b) := by
  unfold State.ringTrouble
  refine ⟨?_, State.fault_raised .., SameMem.of_mem ?_⟩
  · rw [State.fault_get _ _ _ _ _ hb, State.get_put_same]
  · rw [State.fault_mem, State.put_mem]

/-- The head's token, or its announcement, as its east port sends it. -/
theorem State.East.enumToken (h : s.East) (ho : s.get .RING_OVER 6 0 = 0) (hc : s.get .RING_DEVID 6 0 < 2 ^ 64) (next announce : Nat) :
    ∃ g, .biray 6 frEnum g ∈ (s.enumToken next announce).sent ∧ g.src = s.get .RING_STATUS_ADDR 6 0 ∧
      frWord g 1 = next + announce * 32 ∧ bytesNat (g.payload.take 8) = s.get .RING_DEVID 6 0 := by
  unfold State.enumToken
  dsimp only
  rw [h.birayOwn ho]
  refine ⟨_, by rw [State.send_sent]; exact List.mem_append_right _ List.mem_cons_self, rfl, rfl, ?_⟩
  rw [pad16_take (by simp), List.take_of_length_le (by simp), bytesNat_natBytes_of_lt hc]

end

end Sys2Proof.Machine
end

section
/-! SUPPORT. The ring step, enumeration by the head and its time limits, clause by clause (R360 to R362, R463). -/

namespace Sys2Proof.Machine

section
variable {s t : State}

theorem State.put_mod (s : State) (f : Fld) (d i v : Nat) : s.put f d i (v % 2 ^ f.width) = s.put f d i v := by
  unfold State.put; rw [Nat.mod_mod]

theorem next_when {P : Prop} [Decidable P] {g : State → State} (h : P) : (Host.Outcome.next (s.when P g) : Result) = .next (g s) :=
  congrArg Host.Outcome.next (s.when_true h g)

theorem next_when_not {P : Prop} [Decidable P] {g : State → State} (h : ¬ P) : (Host.Outcome.next (s.when P g) : Result) = .next s :=
  congrArg Host.Outcome.next (s.when_false h g)

/-- The list of changes in another order. -/
theorem State.Changes.congr {l m : List (Loc × Nat)} (h : s.Changes t l) (hf : ∀ c, Cells.find c m = Cells.find c l) : s.Changes t m :=
  ⟨fun c => by rw [hf]; exact h.1 c, h.2⟩

/-! ### The head enumerates -/

/-- The head has taken address 0 and awaits its first token, which its east port has sent with NEXT = 1. -/
def State.Enumerates (s t : State) : Prop :=
  t.get .RING_STATUS_ADDR 6 0 = 0 ∧ t.get .RING_HASADDR 6 0 = 1 ∧ t.get .RING_TOKEN 6 0 = 1 ∧ t.get .RING_TRIES 6 0 = 1 ∧ s.SameMem t ∧
    (s.East → ∃ g, .biray 6 2 g ∈ t.sent ∧ g.src = 0 ∧ frWord g 1 = 1 ∧ bytesNat (g.payload.take 8) = s.get .RING_DEVID 6 0)

/-- A bit of RING_STATUS has set and RING_ENUM is raised. -/
def State.Troubles (s : State) (b : Fld) (t : State) : Prop := t.get b 6 0 = 1 ∧ t.Raised .RING_ENUM 6 0 ∧ s.SameMem t

theorem State.enumStart_enumerates (hc : s.canonical = true) : s.Enumerates s.enumStart := by
  let u := ((s.takeAddr 0).put .RING_TRIES 6 0 1).put .RING_TOKEN 6 0 1
  have hemits : u.Emits s.enumStart := u.enumToken_emits 1 0
  have hdev : u.get .RING_DEVID 6 0 = s.get .RING_DEVID 6 0 := by simp [u, State.takeAddr, State.get_put]
  refine ⟨?_, ?_, ?_, ?_, SameMem.of_mem (hemits.mem.trans (by simp [u, State.takeAddr])), fun he => ?_⟩
  · simp [hemits.get, u, State.takeAddr, State.get_put]
  · simp [hemits.get, u, State.takeAddr, State.get_put]
  · simp [hemits.get, u]
  · simp [hemits.get, u, State.get_put]
  · have heast : u.East := ((((he.put (by decide)).put (by decide)).put (by decide)).put (by decide)).put (by decide)
    obtain ⟨g, hg, hsrc, hnext, hid⟩ := heast.enumToken (by simp [u, State.takeAddr, State.get_put]) (hdev ▸ State.devId_lt hc) 1 0
    exact ⟨g, hg, hsrc.trans (by simp [u, State.takeAddr, State.get_put]), hnext, hid.trans hdev⟩

/-- The cells that the start of an enumeration sets. -/
theorem State.enumStart_sameBut (s : State) :
    s.SameBut s.enumStart [.RING_STATUS_ADDR, .RING_HASADDR, .RING_OVER, .RING_TRIES, .RING_TOKEN] := by
  have hcells : s.SameBut (((s.takeAddr 0).put .RING_TRIES 6 0 1).put .RING_TOKEN 6 0 1)
      [.RING_STATUS_ADDR, .RING_HASADDR, .RING_OVER, .RING_TRIES, .RING_TOKEN] :=
    ((((State.SameBut.refl.put (by decide)).put (by decide)).put (by decide)).put (by decide)).put (by decide)
  exact hcells.trans fun f d i _ => (State.enumToken_emits _ 1 0).get f d i

theorem exec_ringReenumerate_ignored (h : s.get .RING_STATUS_HEAD 6 0 ≠ 1 ∨ s.dieClocked 6 = false) : exec .ringReenumerate s = .next s := by
  refine next_when_not ?_
  rintro ⟨hclk, hhead⟩
  rw [State.on_eq_true] at hhead
  simp [hclk, hhead] at h

theorem exec_ringReenumerate_head (hc : s.canonical = true) (hh : s.get .RING_STATUS_HEAD 6 0 = 1) (hclk : s.dieClocked 6 = true) :
    Completes .ringReenumerate s s.Enumerates :=
  ⟨_, next_when ⟨hclk, State.on_eq_true.2 hh⟩, State.enumStart_enumerates hc⟩

/-! ### The ring step -/

/-- The ring step is due: after boot step 5, once, with both ports UP or 0.6 s after the release. -/
def State.StepDue (s : State) : Prop :=
  5 ≤ s.get .BOOT_STEP 6 0 ∧ s.get .RING_STEPPED 6 0 = 0 ∧
    ((s.get .BIRAY_STATUS_STATE 6 0 = 2 ∧ s.get .BIRAY_STATUS_STATE 7 0 = 2) ∨ 6 * 10 ^ 8 ≤ s.capture 6)

/-- CSF waits for the ring step alone. -/
def State.ReadyWaits (s : State) : Prop := s.get .AXO_STATUS_TAIL 6 0 = 2 ∧ s.get .CSF_READY 6 0 = 0

/-- A port is UP. -/
abbrev State.SomeUp (s : State) : Prop := s.get .BIRAY_STATUS_STATE 6 0 = 2 ∨ s.get .BIRAY_STATUS_STATE 7 0 = 2

/-- The ring step is noted: that it was, whether a port was UP, and when. -/
def State.stepNoted (s : State) : State :=
  ((s.put .RING_STEPPED 6 0 1).put .RING_UPSTEP 6 0 (flag (s.portUp 6 || s.portUp 7))).put .RING_STEPT 6 0 (s.capture 6)

theorem State.someUp_iff : (s.portUp 6 || s.portUp 7) = true ↔ s.SomeUp := by simp [State.portUp, State.SomeUp]

theorem State.flag_someUp (s : State) : flag (s.portUp 6 || s.portUp 7) = if s.SomeUp then 1 else 0 :=
  if_congr State.someUp_iff rfl rfl

theorem State.stepDue_iff : (5 ≤ s.get .BOOT_STEP 6 0 ∧ s.get .RING_STEPPED 6 0 = 0 ∧
    ((s.portUp 6 = true ∧ s.portUp 7 = true) ∨ 600000000 ≤ s.capture 6)) ↔ s.StepDue := by
  simp [State.StepDue, State.portUp]

theorem State.stepNoted_changes (s : State) : s.Changes s.stepNoted [(⟨.RING_STEPPED, 6, 0⟩, 1),
    (⟨.RING_UPSTEP, 6, 0⟩, if s.SomeUp then 1 else 0), (⟨.RING_STEPT, 6, 0⟩, s.capture 6 % 2 ^ Fld.width .RING_STEPT)] := by
  unfold State.stepNoted
  rw [s.flag_someUp, ← State.put_mod _ .RING_STEPT]
  refine State.Changes.congr (((State.Changes.refl s).put .RING_STEPPED 6 0 1 (by decide)).put .RING_UPSTEP 6 0 _ ?_ |>.put .RING_STEPT 6 0 _
    (Nat.mod_lt _ (Nat.two_pow_pos _))) fun c => ?_
  · split <;> decide
  · have hne : (⟨.RING_STEPPED, 6, 0⟩ : Loc) ≠ ⟨.RING_STEPT, 6, 0⟩ ∧ (⟨.RING_UPSTEP, 6, 0⟩ : Loc) ≠ ⟨.RING_STEPT, 6, 0⟩ ∧
        (⟨.RING_STEPPED, 6, 0⟩ : Loc) ≠ ⟨.RING_UPSTEP, 6, 0⟩ := by decide
    simp only [Cells.find]
    grind

theorem State.readyDue_waits (h : s.get .RING_STEPPED 6 0 = 1) (hr : s.ReadyWaits) : s.readyDue = s.csfStart :=
  s.when_true ⟨hr.1, h, hr.2⟩ _

theorem State.readyDue_of_not (hr : ¬ s.ReadyWaits) : s.readyDue = s := s.when_false (fun h => hr ⟨h.1, h.2.2⟩) _

theorem exec_ringStep_notDue (h : ¬ s.StepDue) : exec .ringStep s = .next s :=
  next_when_not fun k => h (State.stepDue_iff.1 k)

/-- The ring step: a head with a port UP enumerates, and CSF starts if it waits. -/
theorem exec_ringStep_due (h : s.StepDue) :
    exec .ringStep s = .next ((s.stepNoted.when (s.get .RING_STATUS_HEAD 6 0 = 1 ∧ s.SomeUp) State.enumStart).readyDue) := by
  refine (next_when (State.stepDue_iff.2 h)).trans (congrArg (fun t => Host.Outcome.next (State.readyDue t)) ?_)
  refine if_congr (and_congr ?_ State.someUp_iff) rfl rfl
  rw [State.on_eq_true]
  simp [State.get_put]

theorem State.stepNoted_readyWaits : s.stepNoted.ReadyWaits ↔ s.ReadyWaits := by
  simp [State.ReadyWaits, State.stepNoted, State.get_put]

theorem State.enumStart_readyWaits : s.enumStart.ReadyWaits ↔ s.ReadyWaits := by
  unfold State.ReadyWaits
  rw [s.enumStart_sameBut _ _ _ (by decide), s.enumStart_sameBut _ _ _ (by decide)]

theorem State.stepNoted_stepped (s : State) : s.stepNoted.get .RING_STEPPED 6 0 = 1 := by simp [State.stepNoted, State.get_put]

theorem exec_ringStep_alone (h : s.StepDue) (hr : ¬ s.ReadyWaits) (ha : ¬ (s.get .RING_STATUS_HEAD 6 0 = 1 ∧ s.SomeUp)) :
    Does .ringStep s [(⟨.RING_STEPPED, 6, 0⟩, 1), (⟨.RING_UPSTEP, 6, 0⟩, if s.SomeUp then 1 else 0),
      (⟨.RING_STEPT, 6, 0⟩, s.capture 6 % 2 ^ Fld.width .RING_STEPT)] := by
  refine ⟨s.stepNoted, (exec_ringStep_due h).trans (congrArg _ ?_), s.stepNoted_changes⟩
  rw [State.when_false _ ha, State.readyDue_of_not (State.stepNoted_readyWaits.not.2 hr)]

theorem exec_ringStep_head (hc : s.canonical = true) (h : s.StepDue) (hr : ¬ s.ReadyWaits) (hh : s.get .RING_STATUS_HEAD 6 0 = 1)
    (hup : s.SomeUp) :
    Completes .ringStep s fun t => s.Enumerates t ∧ t.get .RING_STEPPED 6 0 = 1 ∧ t.get .RING_UPSTEP 6 0 = 1 := by
  refine ⟨s.stepNoted.enumStart, (exec_ringStep_due h).trans (congrArg _ ?_), ?_, ?_, ?_⟩
  · rw [State.when_true _ ⟨hh, hup⟩, State.readyDue_of_not]
    rwa [State.enumStart_readyWaits, State.stepNoted_readyWaits]
  · have hcan : s.stepNoted.canonical = true := State.put_canonical _ _ _ _ (State.put_canonical _ _ _ _ (State.put_canonical _ _ _ _ hc))
    obtain ⟨haddr, hhas, htoken, htries, hmem, hsends⟩ := State.enumStart_enumerates hcan
    have hnoted : s.SameMem s.stepNoted := SameMem.of_mem (by simp [State.stepNoted])
    refine ⟨haddr, hhas, htoken, htries, fun d a => (hmem d a).trans (hnoted d a), fun he => ?_⟩
    rw [show s.get .RING_DEVID 6 0 = s.stepNoted.get .RING_DEVID 6 0 by simp [State.stepNoted, State.get_put]]
    exact hsends (((he.put (by decide)).put (by decide)).put (by decide))
  · rw [State.enumStart_sameBut _ _ _ _ (by decide), s.stepNoted_stepped]
  · rw [State.enumStart_sameBut _ _ _ _ (by decide), State.stepNoted, s.flag_someUp, if_pos hup]
    simp [State.get_put]

/-- READY follows the ring step where the tail runs already. -/
theorem exec_ringStep_ready (h : s.StepDue) (hr : s.ReadyWaits) :
    Completes .ringStep s fun t => t.get .RING_STEPPED 6 0 = 1 ∧ t.get .CSF_READY 6 0 = 1 := by
  let u := s.stepNoted.when (s.get .RING_STATUS_HEAD 6 0 = 1 ∧ s.SomeUp) State.enumStart
  have hstep : u.get .RING_STEPPED 6 0 = 1 := State.when_keeps (P := fun t => t.get .RING_STEPPED 6 0 = 1) _ s.stepNoted_stepped
    ((State.enumStart_sameBut _ _ _ _ (by decide)).trans s.stepNoted_stepped)
  have hwaits : u.ReadyWaits := State.when_keeps (P := State.ReadyWaits) _ (State.stepNoted_readyWaits.2 hr)
    (State.enumStart_readyWaits.2 (State.stepNoted_readyWaits.2 hr))
  refine ⟨u.csfStart, (exec_ringStep_due h).trans (congrArg _ (State.readyDue_waits hstep hwaits)), ?_, u.csfStart_get_ready⟩
  rw [u.csfStart_get (by decide) (by decide), hstep]

/-! ### Time limits of enumeration -/

theorem exec_enumTimeout_idle (h : s.get .RING_TOKEN 6 0 = 0) : exec .enumTimeout s = .next s :=
  next_when_not (by rw [State.on_eq_true]; omega)

theorem exec_enumTimeout_again (hc : s.canonical = true) (ht : s.get .RING_TOKEN 6 0 = 1) (hn : s.get .RING_TRIES 6 0 < 3) :
    Completes .enumTimeout s fun t => t.get .RING_TRIES 6 0 = s.get .RING_TRIES 6 0 + 1 ∧ t.get .RING_TOKEN 6 0 = 1 ∧
      s.SameBut t [.RING_TRIES] ∧ (s.East ∧ s.get .RING_OVER 6 0 = 0 → ∃ g, .biray 6 2 g ∈ t.sent ∧ frWord g 1 = 1) := by
  let u := s.inc .RING_TRIES 6 0 1
  have hemits : u.Emits (u.enumToken 1 0) := u.enumToken_emits 1 0
  have hexec : exec .enumTimeout s = .next (u.enumToken 1 0) :=
    (next_when (State.on_eq_true.2 ht)).trans (congrArg Host.Outcome.next (if_pos hn))
  have hother {f : Fld} (hf : f ≠ .RING_TRIES) (d i : Nat) : u.get f d i = s.get f d i := s.get_put_fld hf ..
  refine ⟨_, hexec, ?_, ?_, fun f d i hf => ?_, fun ⟨he, ho⟩ => ?_⟩
  · rw [hemits.get]
    simp only [u, State.inc, State.get_put_same, width_RING_TRIES]
    omega
  · rw [hemits.get, hother (by decide), ht]
  · rw [hemits.get, hother (by simpa using hf)]
  · have heast : u.East := he.put (by decide)
    obtain ⟨g, hg, -, hnext, -⟩ := heast.enumToken ((hother (by decide) ..).trans ho)
      (hother (f := .RING_DEVID) (by decide) 6 0 ▸ State.devId_lt hc) 1 0
    exact ⟨g, hg, hnext⟩

/-- The third token has not returned. -/
theorem exec_enumTimeout_last (ht : s.get .RING_TOKEN 6 0 = 1) (hn : s.get .RING_TRIES 6 0 = 3) :
    exec .enumTimeout s = .next ((s.put .RING_TOKEN 6 0 0).ringTrouble .RING_STATUS_ENUMFAIL) :=
  (next_when (State.on_eq_true.2 ht)).trans (congrArg Host.Outcome.next (if_neg (show ¬ s.get .RING_TRIES 6 0 < 3 by omega)))

theorem exec_enumTimeout_fails (ht : s.get .RING_TOKEN 6 0 = 1) (hn : s.get .RING_TRIES 6 0 = 3) :
    Completes .enumTimeout s (s.Troubles .RING_STATUS_ENUMFAIL) ∧ Completes .enumTimeout s fun t => t.get .RING_TOKEN 6 0 = 0 := by
  have hexec := exec_enumTimeout_last ht hn
  obtain ⟨hbit, hraised, hmem⟩ := (s.put .RING_TOKEN 6 0 0).ringTrouble_spec (b := .RING_STATUS_ENUMFAIL) (by decide)
  refine ⟨⟨_, hexec, hbit, hraised, fun d a => (hmem d a).trans (by simp)⟩, _, hexec, ?_⟩
  show (State.fault _ _ _ _ _).get .RING_TOKEN 6 0 = 0
  rw [State.fault_get _ _ _ _ _ (by decide), State.get_put_fld _ (by decide), State.get_put_same]
  rfl

/-- A unit that had a port UP at the ring step, is no head, and has seen no ENUM for 100 ms. -/
def State.Alone (s : State) : Prop :=
  s.get .RING_STATUS_HEAD 6 0 ≠ 1 ∧ s.get .RING_HASADDR 6 0 = 0 ∧ s.get .RING_STATUS_UP 6 0 = 0 ∧ s.get .RING_STATUS_OVERSIZE 6 0 = 0 ∧
    s.get .RING_STEPPED 6 0 = 1 ∧ s.get .RING_UPSTEP 6 0 = 1 ∧ s.get .RING_STEPT 6 0 + 10 ^ 8 ≤ s.capture 6

/-- In canonical form a unit without HASADDR reads it as 0. -/
theorem State.alone_iff (hc : s.canonical = true) : (s.on .RING_STATUS_HEAD 6 0 = false ∧ s.addressed = false ∧
    s.get .RING_STATUS_UP 6 0 = 0 ∧ s.get .RING_STATUS_OVERSIZE 6 0 = 0 ∧ s.get .RING_STEPPED 6 0 = 1 ∧ s.get .RING_UPSTEP 6 0 = 1 ∧
    s.get .RING_STEPT 6 0 + 100000000 ≤ s.capture 6) ↔ s.Alone := by
  have hlt : s.get .RING_HASADDR 6 0 < 2 ^ 1 := State.get_lt (f := .RING_HASADDR) hc rfl
  unfold State.Alone State.addressed
  rw [State.on_eq_false, State.on_eq_false]
  refine and_congr Iff.rfl (and_congr (by omega) ?_)
  norm_num

theorem exec_enumWaitTimeout_alone (hc : s.canonical = true) (h : s.Alone) : Completes .enumWaitTimeout s (s.Troubles .RING_STATUS_NOHEAD) :=
  ⟨_, next_when ((State.alone_iff hc).2 h), s.ringTrouble_spec (by decide)⟩

theorem exec_enumWaitTimeout_else (hc : s.canonical = true) (h : ¬ s.Alone) : exec .enumWaitTimeout s = .next s :=
  next_when_not fun k => h ((State.alone_iff hc).1 k)

theorem clearBit_le (v k : Nat) : clearBit v k ≤ v := by
  unfold clearBit; split
  · exact Nat.sub_le ..
  · exact Nat.le_refl v

theorem exec_ringPresentExpiry_does (hc : s.canonical = true) (a : Nat) :
    Does (.ringPresentExpiry a) s [(⟨.RING_PRESENT, 6, 0⟩, clearBit (s.get .RING_PRESENT 6 0) a)] :=
  ⟨_, rfl, (State.Changes.refl s).put .RING_PRESENT 6 0 _ (Nat.lt_of_le_of_lt (clearBit_le ..) (State.get_lt (f := .RING_PRESENT) hc rfl))⟩

end

end Sys2Proof.Machine
end

section
/-! SUPPORT. A token, an announcement, a joining unit and the address it is given, clause by clause (R360 to R362). -/

namespace Sys2Proof.Machine

section
variable {s t u : State} {b : Fld} {dir n : Nat} {f : BFrame} {l : List Nat}

theorem State.Troubles.quiet (h : s.Troubles b t) (q : t.Quiet u) (hb : ringFlds.contains b = true) : s.Troubles b u := by
  obtain ⟨hbit, hraised, hmem⟩ := h
  exact ⟨(q.get b hb 6 0).trans hbit, q.raised hraised, fun d a => (q.sameMem d a).trans (hmem d a)⟩

theorem State.oversize_troubles (s : State) : s.Troubles .RING_STATUS_OVERSIZE s.oversize := by
  obtain ⟨hbit, hraised, hmem⟩ := State.ringTrouble_spec (b := .RING_STATUS_OVERSIZE)
    (((s.put .RING_STATUS_ADDR 6 0 15).put .RING_HASADDR 6 0 0).put .RING_OVER 6 0 1) (by decide)
  exact ⟨hbit, hraised, fun d a => (hmem d a).trans (by simp)⟩

theorem State.oversize_cells (s : State) : s.oversize.get .RING_HASADDR 6 0 = 0 ∧ s.oversize.get .RING_STATUS_ADDR 6 0 = 15 ∧
    s.oversize.get .RING_OVER 6 0 = 1 := by
  unfold State.oversize State.ringTrouble
  simp only [State.fault_get _ _ _ _ _ (show Fld.RING_HASADDR ∉ raiseFlds by decide),
    State.fault_get _ _ _ _ _ (show Fld.RING_STATUS_ADDR ∉ raiseFlds by decide),
    State.fault_get _ _ _ _ _ (show Fld.RING_OVER ∉ raiseFlds by decide)]
  simp [State.get_put]

theorem State.East.oversize (h : s.East) : s.oversize.East :=
  State.Quiet.refl.fault.east ((((h.put (by decide)).put (by decide)).put (by decide)).put (by decide))

theorem State.East.takeAddr (h : s.East) (a : Nat) : (s.takeAddr a).East := ((h.put (by decide)).put (by decide)).put (by decide)

theorem State.takeAddr_addr (s : State) {a : Nat} (ha : a < 16) : (s.takeAddr a).get .RING_STATUS_ADDR 6 0 = a := by
  simp [State.takeAddr, State.get_put]; omega

theorem State.takeAddr_hasaddr (s : State) (a : Nat) : (s.takeAddr a).get .RING_HASADDR 6 0 = 1 := by
  simp [State.takeAddr, State.get_put]

/-- The MAXDOM field of a domain in the token that goes on. -/
theorem State.frLong_maxDoms (hc : s.canonical = true) (hw : ∀ x, x ∈ f.w → x < 2 ^ 32) {D : Nat} (hD : D < 3)
    (a b c d x : Nat) (p : List Nat) :
    frLong ⟨a, b, c, d, [x] ++ s.maxDoms f, p⟩ (2 * D + 2) =
      if s.get .EPOCH_CFG_EN 6 D = 0 then max (frLong f (2 * D + 2)) (s.get .TB_DOMCNT 6 D) else frLong f (2 * D + 2) := by
  have hlong := frLong_lt hw (2 * D + 2)
  have hcnt : s.get .TB_DOMCNT 6 D < 2 ^ 64 := State.domcnt_lt hc D
  refine Eq.trans (b := (if s.get .EPOCH_CFG_EN 6 D = 0 then max (frLong f (2 * D + 2)) (s.domcnt D) else frLong f (2 * D + 2)) % 2 ^ 64) ?_
    (Nat.mod_eq_of_lt ?_)
  · obtain rfl | rfl | rfl : D = 0 ∨ D = 1 ∨ D = 2 := by omega
    · exact words64_join _
    · exact words64_join _
    · exact words64_join _
  · split
    · exact max_lt hlong hcnt
    · exact hlong

/-! ### ENUM at a unit that is not the head -/

theorem exec_enum_token (h : s.Arrives dir f) (hh : s.get .RING_STATUS_HEAD 6 0 ≠ 1) (ha : bitAt (frWord f 1) 5 = 0) :
    exec (.enum dir f) s = .next (s.enumTake dir f) := by
  refine congrArg Host.Outcome.next (h.birayIn.trans ?_)
  dsimp only
  rw [State.on_eq_false.2 hh, ha]
  rfl

/-- A token gives its NEXT as the address, and goes on with NEXT + 1. -/
theorem exec_enum_address (hc : s.canonical = true) (hw : ∀ x, x ∈ f.w → x < 2 ^ 32) (h : s.Arrives dir f)
    (hh : s.get .RING_STATUS_HEAD 6 0 ≠ 1) (ha : bitAt (frWord f 1) 5 = 0) (hn : frWord f 1 % 32 ≤ 15) :
    Completes (.enum dir f) s fun t => t.get .RING_STATUS_ADDR 6 0 = frWord f 1 % 32 ∧ t.get .RING_HASADDR 6 0 = 1 ∧ s.SameMem t ∧
      (s.East → f.hops < 62 → ∃ g, .biray 6 2 g ∈ t.sent ∧ g.hops = f.hops + 1 ∧ frWord g 1 = frWord f 1 % 32 + 1 ∧ g.src = f.src ∧
        g.payload = f.payload ∧ ∀ D, D < 3 → frLong g (2 * D + 2) = if s.get .EPOCH_CFG_EN 6 D = 0 then
          max (frLong f (2 * D + 2)) (s.get .TB_DOMCNT 6 D) else frLong f (2 * D + 2)) := by
  let g : BFrame := { f with w := [frWord f 1 % 32 + 1] ++ s.maxDoms f }
  let u := s.takeAddr (frWord f 1 % 32)
  have hquiet : u.Quiet (u.birayForward dir frEnum g) := u.birayForward_quiet ..
  refine ⟨_, (exec_enum_token h hh ha).trans (congrArg Host.Outcome.next (if_pos hn)), ?_, ?_, fun d a => ?_, fun he hh => ?_⟩
  · exact (hquiet.get .RING_STATUS_ADDR (by decide) 6 0).trans (s.takeAddr_addr (by omega))
  · exact (hquiet.get .RING_HASADDR (by decide) 6 0).trans (s.takeAddr_hasaddr _)
  · exact (hquiet.sameMem d a).trans (by simp [u, State.takeAddr])
  · exact ⟨{ g with hops := f.hops + 1 }, (he.takeAddr _).birayForward_mem (f := g) hh dir frEnum, rfl, rfl, rfl, rfl,
      fun D hD => State.frLong_maxDoms hc hw hD ..⟩

theorem exec_enum_oversize_eq (h : s.Arrives dir f) (hh : s.get .RING_STATUS_HEAD 6 0 ≠ 1) (ha : bitAt (frWord f 1) 5 = 0)
    (hn : 16 ≤ frWord f 1 % 32) : exec (.enum dir f) s = .next ((s.oversize.refDead 9).birayForward dir frEnum f) :=
  (exec_enum_token h hh ha).trans (congrArg Host.Outcome.next (if_neg (show ¬ frWord f 1 % 32 ≤ 15 by omega)))

/-- At NEXT = 16 the unit is OVERSIZE, and the token goes on as it is. -/
theorem exec_enum_oversize (h : s.Arrives dir f) (hh : s.get .RING_STATUS_HEAD 6 0 ≠ 1) (ha : bitAt (frWord f 1) 5 = 0)
    (hn : 16 ≤ frWord f 1 % 32) : Completes (.enum dir f) s (s.Troubles .RING_STATUS_OVERSIZE) ∧
      Completes (.enum dir f) s fun t => t.get .RING_HASADDR 6 0 = 0 ∧ t.get .RING_STATUS_ADDR 6 0 = 15 ∧ t.get .RING_OVER 6 0 = 1 ∧
        (s.East → f.hops < 62 → .biray 6 2 { f with hops := f.hops + 1 } ∈ t.sent) := by
  have hexec := exec_enum_oversize_eq h hh ha hn
  have hdead : s.oversize.Quiet (s.oversize.refDead 9) := State.Quiet.refl.refDead
  have hquiet := hdead.trans ((s.oversize.refDead 9).birayForward_quiet dir frEnum f)
  obtain ⟨hhas, haddr, hover⟩ := s.oversize_cells
  exact ⟨⟨_, hexec, s.oversize_troubles.quiet hquiet (by decide)⟩, _, hexec, (hquiet.get .RING_HASADDR (by decide) 6 0).trans hhas,
    (hquiet.get .RING_STATUS_ADDR (by decide) 6 0).trans haddr, (hquiet.get .RING_OVER (by decide) 6 0).trans hover,
    fun he hh => (hdead.east he.oversize).birayForward_mem hh dir frEnum⟩

theorem exec_enum_announcement (h : s.Arrives dir f) (hh : s.get .RING_STATUS_HEAD 6 0 ≠ 1) (ha : bitAt (frWord f 1) 5 = 1) :
    Completes (.enum dir f) s fun t => t.get .RING_STATUS_UP 6 0 = 1 ∧ t.get .RING_STATUS_N 6 0 = frWord f 1 % 32 ∧
      (s.East → f.hops < 62 → .biray 6 2 { f with hops := f.hops + 1 } ∈ t.sent) := by
  let u := (s.put .RING_STATUS_UP 6 0 1).put .RING_STATUS_N 6 0 (frWord f 1 % 32)
  have hexec : exec (.enum dir f) s = .next (u.birayForward dir frEnum f) := by
    refine congrArg Host.Outcome.next (h.birayIn.trans ?_)
    dsimp only
    rw [State.on_eq_false.2 hh, ha]
    rfl
  have hquiet := u.birayForward_quiet dir frEnum f
  refine ⟨_, hexec, (hquiet.get .RING_STATUS_UP (by decide) 6 0).trans ?_, (hquiet.get .RING_STATUS_N (by decide) 6 0).trans ?_,
    fun he hh => ((he.put (by decide)).put (by decide)).birayForward_mem hh dir frEnum⟩
  · simp [u, State.get_put]
  · simp [u]

/-! ### ENUM at the head -/

theorem exec_enum_multihead (h : s.Arrives dir f) (hh : s.get .RING_STATUS_HEAD 6 0 = 1)
    (hd : bytesNat (f.payload.take 8) ≠ s.get .RING_DEVID 6 0) : Completes (.enum dir f) s (s.Troubles .RING_STATUS_MULTIHEAD) :=
  ⟨_, congrArg Host.Outcome.next (h.birayIn.trans ((if_pos (State.on_eq_true.2 hh)).trans (if_pos hd))), s.ringTrouble_spec (by decide)⟩

/-- The head's own token, or its announcement. -/
theorem exec_enum_own (h : s.Arrives dir f) (hh : s.get .RING_STATUS_HEAD 6 0 = 1)
    (hd : bytesNat (f.payload.take 8) = s.get .RING_DEVID 6 0) :
    exec (.enum dir f) s = .next (s.when (bitAt (frWord f 1) 5 = 0 ∧ s.on .RING_TOKEN 6 0 = true) fun u => u.enumReturn f) :=
  congrArg Host.Outcome.next (h.birayIn.trans ((if_pos (State.on_eq_true.2 hh)).trans (if_neg (not_not.2 hd))))

theorem exec_enum_ignored (h : s.Arrives dir f) (hh : s.get .RING_STATUS_HEAD 6 0 = 1)
    (hd : bytesNat (f.payload.take 8) = s.get .RING_DEVID 6 0) (ha : bitAt (frWord f 1) 5 = 1 ∨ s.get .RING_TOKEN 6 0 = 0) :
    exec (.enum dir f) s = .next s :=
  (exec_enum_own h hh hd).trans (next_when_not (by rw [State.on_eq_true]; omega))

/-- The addresses a token gave, marked as assigned. -/
def State.assigned (s : State) (l : List Nat) : State := s.each l fun a t => t.put .RING_ASGNT 6 a (t.capture 6 + 1)

/-- The count of a stopped domain, no smaller than the token's. -/
def State.domRaised (s : State) (f : BFrame) (D : Nat) : State :=
  s.when (s.get .EPOCH_CFG_EN 6 D = 0) fun u =>
    (u.put .TB_DOMCNT 6 D (max (u.domcnt D) (frLong f (2 * D + 2)))).put .TB_DOMCNT 7 D (max (u.domcnt D) (frLong f (2 * D + 2)))

theorem State.assigned_sameBut (s : State) (l : List Nat) : s.SameBut (s.assigned l) [.RING_ASGNT] :=
  State.SameBut.refl.each fun _ _ k => k.put (by decide)

theorem State.SameBut.capture {m : List Fld} (h : s.SameBut t m) (d : Nat)
    (hm : m.contains .TB_SYSCNT = false ∧ m.contains .SUBNS = false) :
    t.capture d = s.capture d := by
  simp only [List.contains_eq_mem, decide_eq_false_iff_not] at hm
  unfold State.capture
  rw [h _ _ _ hm.1, h _ _ _ hm.2]

theorem State.get_assigned (s : State) (l : List Nat) (a : Nat) : (s.assigned l).get .RING_ASGNT 6 a =
    if a ∈ l then (s.capture 6 + 1) % 2 ^ Fld.width .RING_ASGNT else s.get .RING_ASGNT 6 a := by
  induction l generalizing s with
  | nil => rfl
  | cons x l ih =>
    refine (ih (s.put .RING_ASGNT 6 x (s.capture 6 + 1))).trans ?_
    rw [(State.SameBut.refl.put (l := [.RING_ASGNT]) (by decide)).capture 6 (by decide)]
    by_cases hx : a = x
    · subst hx; simp
    · simp [State.get_put, hx]

theorem State.domRaised_sameBut (s : State) (f : BFrame) (D : Nat) : s.SameBut (s.domRaised f D) [.TB_DOMCNT] :=
  State.SameBut.refl.when fun _ k => (k.put (by decide)).put (by decide)

theorem State.get_domRaised (s : State) (f : BFrame) (D E : Nat) : (s.domRaised f D).get .TB_DOMCNT 6 E =
    if E = D ∧ s.get .EPOCH_CFG_EN 6 D = 0 then max (s.get .TB_DOMCNT 6 D) (frLong f (2 * D + 2)) % 2 ^ 64 else s.get .TB_DOMCNT 6 E := by
  unfold State.domRaised State.when
  by_cases hen : s.get .EPOCH_CFG_EN 6 D = 0
  · simp [hen, State.get_put, State.domcnt]
  · simp [hen]

/-- The counts after the token's return. -/
theorem State.get_domsRaised (hc : s.canonical = true) (hw : ∀ x, x ∈ f.w → x < 2 ^ 32) {D : Nat} (hD : D < 3) :
    (s.each [0, 1, 2] fun D t => t.domRaised f D).get .TB_DOMCNT 6 D =
      if s.get .EPOCH_CFG_EN 6 D = 0 then max (s.get .TB_DOMCNT 6 D) (frLong f (2 * D + 2)) else s.get .TB_DOMCNT 6 D := by
  have hen (t : State) (D E : Nat) : (t.domRaised f D).get .EPOCH_CFG_EN 6 E = t.get .EPOCH_CFG_EN 6 E :=
    t.domRaised_sameBut f D _ _ _ (by decide)
  have hmod : max (s.get .TB_DOMCNT 6 D) (frLong f (2 * D + 2)) % 2 ^ 64 = max (s.get .TB_DOMCNT 6 D) (frLong f (2 * D + 2)) :=
    Nat.mod_eq_of_lt (max_lt (State.domcnt_lt hc D) (frLong_lt hw _))
  have hstep : (s.each [0, 1, 2] fun D t => t.domRaised f D).get .TB_DOMCNT 6 D =
      if s.get .EPOCH_CFG_EN 6 D = 0 then max (s.get .TB_DOMCNT 6 D) (frLong f (2 * D + 2)) % 2 ^ 64 else s.get .TB_DOMCNT 6 D := by
    obtain rfl | rfl | rfl : D = 0 ∨ D = 1 ∨ D = 2 := by omega
    · simp [State.each, State.get_domRaised, hen]
    · simp [State.each, State.get_domRaised, hen]
    · simp [State.each, State.get_domRaised, hen]
  rw [hstep, hmod]

/-- The head's token has returned. -/
theorem exec_enum_returned (hc : s.canonical = true) (hw : ∀ x, x ∈ f.w → x < 2 ^ 32) (h : s.Arrives dir f)
    (hh : s.get .RING_STATUS_HEAD 6 0 = 1) (hd : bytesNat (f.payload.take 8) = s.get .RING_DEVID 6 0) (ha : bitAt (frWord f 1) 5 = 0)
    (ht : s.get .RING_TOKEN 6 0 = 1) :
    Completes (.enum dir f) s fun t => t.get .RING_STATUS_N 6 0 = frWord f 1 % 32 ∧ t.get .RING_STATUS_UP 6 0 = 1 ∧
      t.get .RING_TOKEN 6 0 = 0 ∧
      (∀ D, D < 3 → t.get .TB_DOMCNT 6 D = if s.get .EPOCH_CFG_EN 6 D = 0 then max (s.get .TB_DOMCNT 6 D) (frLong f (2 * D + 2)) else
        s.get .TB_DOMCNT 6 D) ∧
      (∀ a, a < frWord f 1 % 32 → t.get .RING_ASGNT 6 a = (s.capture 6 + 1) % 2 ^ Fld.width .RING_ASGNT) ∧
      (s.East ∧ s.get .RING_OVER 6 0 = 0 → ∃ g, .biray 6 2 g ∈ t.sent ∧ frWord g 1 = frWord f 1 % 32 + 32) := by
  let v := s.assigned (List.range (frWord f 1 % 32))
  let w := v.each [0, 1, 2] fun D t => t.domRaised f D
  let u := ((w.put .RING_TOKEN 6 0 0).put .RING_STATUS_N 6 0 (frWord f 1 % 32)).put .RING_STATUS_UP 6 0 1
  have hexec : exec (.enum dir f) s = .next (u.enumToken (frWord f 1 % 32) 1) :=
    (exec_enum_own h hh hd).trans (next_when ⟨ha, State.on_eq_true.2 ht⟩)
  have hemits : u.Emits (u.enumToken (frWord f 1 % 32) 1) := u.enumToken_emits ..
  have hv : s.SameBut v [.RING_ASGNT] := s.assigned_sameBut _
  have hvcan : v.canonical = true := State.each_canonical (fun _ _ k => State.put_canonical _ _ _ _ k) _ hc
  have hvw : v.SameBut w [.TB_DOMCNT] := State.SameBut.refl.each fun D t k => k.trans (t.domRaised_sameBut f D)
  have hwu : w.SameBut u [.RING_TOKEN, .RING_STATUS_N, .RING_STATUS_UP] :=
    ((State.SameBut.refl.put (by decide)).put (by decide)).put (by decide)
  have hsame {g : Fld} (hg : [Fld.RING_ASGNT, .TB_DOMCNT, .RING_TOKEN, .RING_STATUS_N, .RING_STATUS_UP].contains g = false) (d i : Nat) :
      u.get g d i = s.get g d i := by
    simp only [List.contains_eq_mem, decide_eq_false_iff_not, List.mem_cons, not_or] at hg
    obtain ⟨h1, h2, h3⟩ := hg
    rw [hwu _ _ _ (by simpa using h3), hvw _ _ _ (by simpa using h2), hv _ _ _ (by simpa using h1)]
  refine ⟨_, hexec, ?_, ?_, ?_, fun D hD => ?_, fun a ha => ?_, fun ⟨he, ho⟩ => ?_⟩
  · rw [hemits.get]; simp [u, State.get_put]
  · rw [hemits.get]; simp [u]
  · rw [hemits.get]; simp [u, State.get_put]
  · rw [hemits.get, hwu _ _ _ (by decide), State.get_domsRaised hvcan hw hD, hv _ _ _ (by decide), hv _ _ _ (by decide)]
  · rw [hemits.get, hwu _ _ _ (by decide), hvw _ _ _ (by decide), State.get_assigned, if_pos (List.mem_range.2 ha)]
  · have heast : u.East := he.of_same fun g hg => hsame ((by decide : ∀ x ∈ eastFlds,
      [Fld.RING_ASGNT, .TB_DOMCNT, .RING_TOKEN, .RING_STATUS_N, .RING_STATUS_UP].contains x = false) g hg)
    have hdev : u.get .RING_DEVID 6 0 < 2 ^ 64 := hsame (g := .RING_DEVID) (by decide) 6 0 ▸ State.devId_lt hc
    obtain ⟨g, hg, -, hword, -⟩ := heast.enumToken ((hsame (by decide) ..).trans ho) hdev (frWord f 1 % 32) 1
    exact ⟨g, hg, hword⟩

/-! ### JOIN and ASSIGN -/

/-- An address is free for a joining unit: not the own one, of no unit whose HEALTH frames come, and not assigned within 10 ms. -/
def State.FreeFor (s : State) (a : Nat) : Prop :=
  a ≠ s.get .RING_STATUS_ADDR 6 0 ∧ bitAt (s.get .RING_PRESENT 6 0) a = 0 ∧
    (s.get .RING_ASGNT 6 a = 0 ∨ s.get .RING_ASGNT 6 a + 10 ^ 7 ≤ s.capture 6)

/-- The model's test of an address. -/
def State.freeTest (s : State) (a : Nat) : Bool :=
  a != s.ringAddr && bitAt (s.get .RING_PRESENT 6 0) a == 0 &&
    (s.get .RING_ASGNT 6 a == 0 || s.get .RING_ASGNT 6 a + 10000000 ≤ s.capture 6)

theorem State.freeTest_iff (s : State) (a : Nat) : s.freeTest a = true ↔ s.FreeFor a := by
  simp [State.freeTest, State.FreeFor, State.ringAddr, and_assoc]

/-- The address of the answer is the lowest free one, or 15. -/
theorem State.freeAddr_lowest (s : State) :
    s.freeAddr ≤ 15 ∧ (s.freeAddr < 15 → s.FreeFor s.freeAddr) ∧ ∀ b, b < s.freeAddr → ¬ s.FreeFor b := by
  have hfree : s.freeAddr = ((List.range 15).find? s.freeTest).getD 15 := rfl
  cases hfind : (List.range 15).find? s.freeTest with
  | none =>
    rw [hfree, hfind]
    rw [List.find?_range_eq_none] at hfind
    refine ⟨Nat.le_refl 15, fun h => absurd h (Nat.lt_irrefl 15), fun b hb => ?_⟩
    rw [← State.freeTest_iff]
    simpa using hfind b hb
  | some a =>
    rw [hfree, hfind]
    obtain ⟨ha, hmem, hlow⟩ := List.find?_range_eq_some.1 hfind
    refine ⟨Nat.le_of_lt (List.mem_range.1 hmem), fun _ => (s.freeTest_iff a).1 ha, fun b hb => ?_⟩
    rw [← State.freeTest_iff]
    simpa using hlow b hb

/-- Unit 0 has answered a JOIN with address `a`. -/
def State.joinAnswered (s : State) (a id : Nat) : State :=
  (s.when (a ≠ 15) fun u => u.put .RING_ASGNT 6 a (u.capture 6 + 1)).birayOwn frAssign 15 ([a] ++ words64 id) []

theorem exec_join_eq (h : s.Arrives dir f) (ha : s.get .RING_HASADDR 6 0 = 1) (hd : f.dst = s.get .RING_STATUS_ADDR 6 0) :
    exec (.join dir f) s = .next (s.joinAnswered s.freeAddr (frLong f 2)) := congrArg Host.Outcome.next (h.birayUnicast ha hd)

theorem State.joinAnswered_spec (s : State) (a : Nat) {id : Nat} (hid : id < 2 ^ 64) :
    s.SameMem (s.joinAnswered a id) ∧ s.SameBut (s.joinAnswered a id) [.RING_ASGNT] ∧
      (s.East ∧ s.get .RING_OVER 6 0 = 0 → ∃ g, .biray 6 4 g ∈ (s.joinAnswered a id).sent ∧ frWord g 1 = a ∧ frLong g 2 = id) := by
  let u := s.when (a ≠ 15) fun u => u.put .RING_ASGNT 6 a (u.capture 6 + 1)
  have hsame : s.SameBut u [.RING_ASGNT] := State.SameBut.refl.when fun _ k => k.put (by decide)
  have hmem : u.mem = s.mem := State.when_keeps (P := fun t => t.mem = s.mem) s rfl (by simp)
  have hemits : u.Emits (s.joinAnswered a id) := u.birayOwn_emits ..
  refine ⟨SameMem.of_mem (hemits.mem.trans hmem), fun g d i hg => (hemits.get g d i).trans (hsame g d i hg), fun ⟨he, ho⟩ => ?_⟩
  have heast : u.East := he.of_same fun g hg d i => hsame g d i ((by decide : ∀ g ∈ eastFlds, g ∉ [Fld.RING_ASGNT]) g hg)
  refine ⟨⟨u.ringAddr, 15, 0, 0, [a] ++ words64 id, pad16 []⟩, ?_, rfl, frLong_two hid ..⟩
  have hsent : s.joinAnswered a id = u.send (.biray 6 4 ⟨u.ringAddr, 15, 0, 0, [a] ++ words64 id, pad16 []⟩) :=
    heast.birayOwn ((hsame _ _ _ (by decide)).trans ho) ..
  rw [hsent]
  simp

theorem exec_join_answered (hw : ∀ x, x ∈ f.w → x < 2 ^ 32) (h : s.Arrives dir f) (ha : s.get .RING_HASADDR 6 0 = 1)
    (hd : f.dst = s.get .RING_STATUS_ADDR 6 0) :
    Completes (.join dir f) s fun t => s.SameMem t ∧ s.SameBut t [.RING_ASGNT] ∧
      (s.East ∧ s.get .RING_OVER 6 0 = 0 → ∃ g, .biray 6 4 g ∈ t.sent ∧ frWord g 1 = s.freeAddr ∧ frLong g 2 = frLong f 2) :=
  ⟨_, exec_join_eq h ha hd, s.joinAnswered_spec _ (frLong_lt hw 2)⟩

/-- An ASSIGN that names this unit. -/
theorem exec_assign_own (h : s.Arrives dir f) (ha : s.get .RING_HASADDR 6 0 = 0) (hd : frLong f 2 = s.get .RING_DEVID 6 0) :
    exec (.assign dir f) s = .next ((if frWord f 1 % 16 = 15 then s.oversize else s.takeAddr (frWord f 1 % 16)).birayForward dir frAssign f) := by
  have hact : ¬ s.on .RING_HASADDR 6 0 = true := by rw [State.on_eq_true]; omega
  exact congrArg Host.Outcome.next ((h.birayBroadcast_unaddressed ha).trans
    (congrArg (fun t => State.birayForward t dir frAssign f) (s.when_true ⟨Bool.eq_false_iff.2 hact, hd⟩ _)))

theorem exec_assign_none (h : s.Arrives dir f) (ha : s.get .RING_HASADDR 6 0 = 0) (hd : frLong f 2 = s.get .RING_DEVID 6 0)
    (hn : frWord f 1 % 16 = 15) : Completes (.assign dir f) s (s.Troubles .RING_STATUS_OVERSIZE) ∧
      Completes (.assign dir f) s fun t => t.get .RING_OVER 6 0 = 1 := by
  have hexec := exec_assign_own h ha hd
  rw [if_pos hn] at hexec
  have hquiet := s.oversize.birayForward_quiet dir frAssign f
  obtain ⟨-, -, hover⟩ := s.oversize_cells
  exact ⟨⟨_, hexec, s.oversize_troubles.quiet hquiet (by decide)⟩, _, hexec, (hquiet.get .RING_OVER (by decide) 6 0).trans hover⟩

theorem exec_assign_address (h : s.Arrives dir f) (ha : s.get .RING_HASADDR 6 0 = 0) (hd : frLong f 2 = s.get .RING_DEVID 6 0)
    (hn : frWord f 1 % 16 ≠ 15) :
    Completes (.assign dir f) s fun t => t.get .RING_STATUS_ADDR 6 0 = frWord f 1 % 16 ∧ t.get .RING_HASADDR 6 0 = 1 ∧
      (s.East → f.hops < 62 → .biray 6 4 { f with hops := f.hops + 1 } ∈ t.sent) := by
  have hexec := exec_assign_own h ha hd
  rw [if_neg hn] at hexec
  have hquiet := (s.takeAddr (frWord f 1 % 16)).birayForward_quiet dir frAssign f
  exact ⟨_, hexec, (hquiet.get .RING_STATUS_ADDR (by decide) 6 0).trans (s.takeAddr_addr (Nat.mod_lt _ (by decide))),
    (hquiet.get .RING_HASADDR (by decide) 6 0).trans (s.takeAddr_hasaddr _), fun he hh => (he.takeAddr _).birayForward_mem hh dir frAssign⟩

end

end Sys2Proof.Machine
end

section
/-! SUPPORT. TIME frames: what the head sends, and what a unit takes from one (R265, R366, R367). -/

namespace Sys2Proof.Machine

/-! ### Phases -/

/-- A phase in 2⁻³² sample, taken between the start and the end of a nanosecond. -/
theorem phase_within {n m dt x : Nat} (hm : 0 < m) (h : (dt + 1) * n < 2 ^ 32 * m) :
    dt * n < (min (dt * n / m + x % (n / m + 1)) (2 ^ 32 - 1) + 1) * m ∧
      min (dt * n / m + x % (n / m + 1)) (2 ^ 32 - 1) * m ≤ (dt + 1) * n := by
  have hx : x % (n / m + 1) ≤ n / m := Nat.le_of_lt_succ (Nat.mod_lt _ (Nat.succ_pos _))
  have hq : dt * n / m < 2 ^ 32 := (Nat.div_lt_iff_lt_mul hm).2 (lt_of_le_of_lt (Nat.mul_le_mul_right n (Nat.le_succ dt)) h)
  constructor
  · calc dt * n < (dt * n / m + 1) * m := by rw [Nat.add_mul, one_mul]; exact Nat.lt_div_mul_add hm
      _ ≤ _ := Nat.mul_le_mul_right m (by omega)
  · calc _ ≤ (dt * n / m + n / m) * m := Nat.mul_le_mul_right m (by omega)
      _ = dt * n / m * m + n / m * m := Nat.add_mul ..
      _ ≤ dt * n + n := Nat.add_le_add (Nat.div_mul_le_self ..) (Nat.div_mul_le_self ..)
      _ = (dt + 1) * n := (Nat.succ_mul ..).symm

theorem signed_unsigned {q : Int} (hlo : -2 ^ 31 ≤ q) (hhi : q < 2 ^ 31) : signed 32 (unsigned 32 q % 2 ^ 32) = q := by
  simp only [signed, unsigned]
  split_ifs <;> omega

/-- The representative of `z` within half a period. -/
def centred (z per : Int) : Int := if per ≤ 2 * (z % per) then z % per - per else z % per

theorem centred_eq_add (z per : Int) : ∃ k, centred z per = z + k * per := by
  have hdiv := Int.mul_ediv_add_emod z per
  unfold centred
  split
  · exact ⟨-(z / per) - 1, by linear_combination hdiv⟩
  · exact ⟨-(z / per), by linear_combination hdiv⟩

theorem centred_half {per : Int} (hper : 0 < per) (z : Int) : 2 * centred z per < per ∧ 0 ≤ 2 * centred z per + per := by
  have hlo := Int.emod_nonneg z hper.ne'
  have hhi := Int.emod_lt_of_pos z hper
  unfold centred
  split <;> omega

/-! ### Rates -/

/-- A rate is a positive fraction, and its sample is no longer than 2³¹ ns. -/
theorem rateFs_bounds (r : Nat) : 0 < (rateFs r).1 ∧ 0 < (rateFs r).2 ∧ (rateFs r).2 * 1000000000 ≤ (rateFs r).1 * 2 ^ 31 := by
  unfold rateFs
  split <;> decide

/-! ### The head sends -/

section
variable {s t u v : State} {dir : Nat} {f : BFrame}

/-- Three fields of 16 bytes each. -/
theorem slice_three {x : Nat → List Nat} (hx : ∀ D, (x D).length = 16) {D k n : Nat} (hD : D < 3) (hk : k + n ≤ 16) :
    slice (x 0 ++ x 1 ++ x 2) (16 * D + k) n = slice (x D) k n := by
  have h0 := hx 0
  have h1 := hx 1
  obtain rfl | rfl | rfl : D = 0 ∨ D = 1 ∨ D = 2 := by omega
  · rw [List.append_assoc, slice_append_left (by omega), mul_zero, zero_add]
  · rw [slice_append_left (by rw [List.length_append]; omega), slice_append_right (by omega)]
    congr 1
    omega
  · rw [slice_append_right (by rw [List.length_append]; omega), List.length_append]
    congr 1
    omega

@[simp] theorem State.timeDom_length (s : State) (D p : Nat) : (s.timeDom D p).length = 16 := by simp [State.timeDom]

theorem State.timeDom_count (hc : s.canonical = true) (D p : Nat) : bytesNat (slice (s.timeDom D p) 0 8) = s.get .TB_DOMCNT 6 D := by
  unfold State.timeDom
  rw [List.append_assoc, slice_append_left (by simp), slice_all (by simp)]
  exact bytesNat_natBytes_of_lt (State.domcnt_lt hc D)

theorem State.timeDom_phase (s : State) (D : Nat) {p : Nat} (hp : p < 2 ^ 32) : bytesNat (slice (s.timeDom D p) 8 4) = p := by
  unfold State.timeDom
  rw [List.append_assoc, slice_append_right (by simp), natBytes_length, slice_append_left (by simp), slice_all (by simp)]
  exact bytesNat_natBytes_of_lt hp

theorem State.timeDom_mode (hc : s.canonical = true) {D : Nat} (hD : D < 3) (p : Nat) : bytesNat (slice (s.timeDom D p) 12 4) =
    s.get .DOM_CFG_RATE 6 D + s.get .EPOCH_CFG_BSIZE 6 D * 16 + s.get .DOM_CFG_RING 6 D * 64 + s.get .EPOCH_STATUS_RUN 6 D * 128 := by
  have hrate : s.get .DOM_CFG_RATE 6 D < 2 ^ 4 :=
    State.get_lt_width (f := .DOM_CFG_RATE) hc ((by decide : ∀ D < 3, Fld.reset .DOM_CFG_RATE 6 D < 2 ^ Fld.width .DOM_CFG_RATE) D hD)
  have hbsize : s.get .EPOCH_CFG_BSIZE 6 D < 2 ^ 2 :=
    State.get_lt_width (f := .EPOCH_CFG_BSIZE) hc ((by decide : ∀ D < 3, Fld.reset .EPOCH_CFG_BSIZE 6 D < 2 ^ Fld.width .EPOCH_CFG_BSIZE) D hD)
  have hring : s.get .DOM_CFG_RING 6 D < 2 ^ 1 :=
    State.get_lt_width (f := .DOM_CFG_RING) hc ((by decide : ∀ D < 3, Fld.reset .DOM_CFG_RING 6 D < 2 ^ Fld.width .DOM_CFG_RING) D hD)
  have hrun : s.get .EPOCH_STATUS_RUN 6 D < 2 ^ 1 :=
    State.get_lt_width (f := .EPOCH_STATUS_RUN) hc ((by decide : ∀ D < 3, Fld.reset .EPOCH_STATUS_RUN 6 D < 2 ^ Fld.width .EPOCH_STATUS_RUN) D hD)
  unfold State.timeDom
  rw [slice_append_right (by simp), List.length_append, natBytes_length, natBytes_length, slice_all (by simp)]
  exact bytesNat_natBytes_of_lt (by omega)

/-- The TIME frame's phase of a domain. -/
theorem State.samplePhase_lt (s : State) (D x : Nat) : s.samplePhase D x < 2 ^ 32 :=
  Nat.lt_of_le_of_lt (Nat.min_le_right ..) (by decide)

theorem State.samplePhase_within (s : State) (D x : Nat) (h : (s.capture 6 - s.get .DOM_EDGET 6 D + 1) * ((s.domFs D).1 * 2 ^ 32) <
      2 ^ 32 * ((s.domFs D).2 * 10 ^ 9)) :
    (s.capture 6 - s.get .DOM_EDGET 6 D) * ((s.domFs D).1 * 2 ^ 32) < (s.samplePhase D x + 1) * ((s.domFs D).2 * 10 ^ 9) ∧
      s.samplePhase D x * ((s.domFs D).2 * 10 ^ 9) ≤ (s.capture 6 - s.get .DOM_EDGET 6 D + 1) * ((s.domFs D).1 * 2 ^ 32) := by
  obtain ⟨-, hpos, -⟩ := rateFs_bounds (s.get .DOM_CFG_RATE 6 D)
  have hm : 0 < (s.domFs D).2 * 10 ^ 9 := Nat.mul_pos hpos (by decide)
  have hten : (1000000000 : Nat) = 10 ^ 9 := by norm_num
  unfold State.samplePhase
  dsimp only
  rw [hten]
  exact phase_within hm h

/-- The bytes of a TIME frame. -/
def State.timeBytes (s : State) (x : Nat → Nat) : List Nat :=
  s.timeDom 0 (s.samplePhase 0 (x 0)) ++ s.timeDom 1 (s.samplePhase 1 (x 1)) ++ s.timeDom 2 (s.samplePhase 2 (x 2))

theorem State.slice_timeBytes (s : State) (x : Nat → Nat) {D k n : Nat} (hD : D < 3) (hk : k + n ≤ 16) :
    slice (s.timeBytes x) (16 * D + k) n = slice (s.timeDom D (s.samplePhase D (x D))) k n :=
  slice_three (x := fun D => s.timeDom D (s.samplePhase D (x D))) (fun D => s.timeDom_length D _) hD hk

theorem exec_timeFrameSend_idle {pa pb pc : Nat} (h : s.get .RING_STATUS_HEAD 6 0 ≠ 1 ∨ s.get .RING_HASADDR 6 0 = 0) :
    exec (.timeFrameSend pa pb pc) s = .next s := by
  refine next_when_not ?_
  rw [State.addressed, State.on_eq_true, State.on_eq_true]
  omega

theorem exec_timeFrameSend_head {pa pb pc : Nat} (hc : s.canonical = true) (hh : s.get .RING_STATUS_HEAD 6 0 = 1)
    (ha : s.get .RING_HASADDR 6 0 = 1) (he : s.East) (ho : s.get .RING_OVER 6 0 = 0) :
    ∃ g, exec (.timeFrameSend pa pb pc) s = .next (s.send (.biray 6 5 g)) ∧ g.src = s.get .RING_STATUS_ADDR 6 0 ∧
      g.payload.length = 48 ∧ frLong g 2 = 0 ∧ ∀ D, D < 3 →
        bytesNat (slice g.payload (16 * D) 8) = s.get .TB_DOMCNT 6 D ∧
        ((s.capture 6 - s.get .DOM_EDGET 6 D + 1) * ((s.domFs D).1 * 2 ^ 32) < 2 ^ 32 * ((s.domFs D).2 * 10 ^ 9) →
          (s.capture 6 - s.get .DOM_EDGET 6 D) * ((s.domFs D).1 * 2 ^ 32) <
            (bytesNat (slice g.payload (16 * D + 8) 4) + 1) * ((s.domFs D).2 * 10 ^ 9) ∧
          bytesNat (slice g.payload (16 * D + 8) 4) * ((s.domFs D).2 * 10 ^ 9) ≤
            (s.capture 6 - s.get .DOM_EDGET 6 D + 1) * ((s.domFs D).1 * 2 ^ 32)) ∧
        bytesNat (slice g.payload (16 * D + 12) 4) = s.get .DOM_CFG_RATE 6 D + s.get .EPOCH_CFG_BSIZE 6 D * 16 +
          s.get .DOM_CFG_RING 6 D * 64 + s.get .EPOCH_STATUS_RUN 6 D * 128 := by
  let x (D : Nat) : Nat := [pa, pb, pc].getD D 0
  have hlen : (s.timeBytes x).length = 48 := by simp [State.timeBytes]
  have hexec : exec (.timeFrameSend pa pb pc) s =
      .next (s.send (.biray 6 5 ⟨s.ringAddr, 15, 0, 0, [0, 0, 0], pad16 (s.timeBytes x)⟩)) :=
    (next_when ⟨State.on_eq_true.2 hh, State.on_eq_true.2 ha⟩).trans (congrArg Host.Outcome.next (he.birayOwn ho ..))
  rw [pad16_eq (by rw [hlen])] at hexec
  refine ⟨_, hexec, rfl, hlen, by simp [frLong, frWord], fun D hD => ⟨?_, fun h => ?_, ?_⟩⟩
  · exact (congrArg bytesNat (s.slice_timeBytes x (k := 0) hD (by omega))).trans (State.timeDom_count hc D _)
  · rw [s.slice_timeBytes x hD (by omega), s.timeDom_phase D (s.samplePhase_lt D _)]
    exact s.samplePhase_within D _ h
  · rw [s.slice_timeBytes x hD (by omega)]
    exact State.timeDom_mode hc hD _

/-! ### A unit takes a TIME frame -/

/-- `t` has the ring cells of `s`, but for the phases a TIME frame gives. -/
def State.Timed (s t : State) : Prop := ∀ f ∈ ringFlds, f ≠ .DOM_RPHASE → ∀ d i, t.get f d i = s.get f d i

theorem State.Quiet.timed (q : s.Quiet t) : s.Timed t := fun f hf _ => q.ring f hf

theorem State.Timed.trans (h : s.Timed t) (k : t.Timed u) : s.Timed u := fun f hf hn d i => (k f hf hn d i).trans (h f hf hn d i)

theorem State.Timed.get (h : s.Timed t) (f : Fld) (hf : ringFlds.contains f = true ∧ f ≠ .DOM_RPHASE) (d i : Nat) :
    t.get f d i = s.get f d i := h f (List.contains_iff_mem.1 hf.1) hf.2 d i

theorem State.Timed.east (h : s.Timed t) (he : s.East) : t.East :=
  he.of_same fun f hf => h f ((by decide : ∀ f ∈ eastFlds, f ∈ ringFlds) f hf) ((by decide : ∀ f ∈ eastFlds, f ≠ Fld.DOM_RPHASE) f hf)

theorem State.Timed.ringPhase (h : s.Timed t) (D p : Nat) : t.ringPhase D p = s.ringPhase D p := by
  unfold State.ringPhase State.domFs
  rw [h.get .DOM_CFG_RATE (by decide), h.get .RING_TH (by decide), h.get .DOM_EDGET (by decide)]

/-- The cells that a domain's fields of a TIME frame set first. -/
def State.phased (s : State) (D : Nat) (x : List Nat) : State :=
  (s.put .RING_MIS 6 D (flag (!(bytesNat (slice x 12 4) % 16 == s.get .DOM_CFG_RATE 6 D &&
    bitsAt (bytesNat (slice x 12 4)) 4 2 == s.get .EPOCH_CFG_BSIZE 6 D)))).put .DOM_RPHASE 6 D
      (unsigned 32 (s.ringPhase D (bytesNat (slice x 8 4))))

theorem State.timeTake_quiet (s : State) (D : Nat) (x : List Nat) : (s.phased D x).Quiet (s.timeTake D x) := by
  unfold State.timeTake
  dsimp only
  refine State.Quiet.when (.when (.condSet (.when (.condSet .refl) ?_)) ?_) ?_
  · exact fun _ k => k.put (by decide)
  · exact fun _ k => k.put (by decide)
  · exact fun _ k => ((k.put (by decide)).put (by decide)).put (by decide)

theorem State.timeTake_timed (s : State) (D : Nat) (x : List Nat) : s.Timed (s.timeTake D x) := by
  refine State.Timed.trans (fun f hf hn d i => ?_) (s.timeTake_quiet D x).timed
  have hmis : f ≠ .RING_MIS := by rintro rfl; exact absurd hf (by decide)
  unfold State.phased
  rw [State.get_put_fld _ hn, State.get_put_fld _ hmis]

theorem State.timeTake_rphase (s : State) (D E : Nat) (x : List Nat) : (s.timeTake D x).get .DOM_RPHASE 6 E =
    if E = D then unsigned 32 (s.ringPhase D (bytesNat (slice x 8 4))) % 2 ^ 32 else s.get .DOM_RPHASE 6 E := by
  rw [(s.timeTake_quiet D x).get .DOM_RPHASE (by decide), State.phased]
  simp [State.get_put]

/-- What a TIME frame's bytes tell of a domain that follows the ring. -/
def State.domTimed (s : State) (payload : List Nat) (D : Nat) : State :=
  s.when (s.ringWide D = true ∧ s.on .RING_OVER 6 0 = false) fun x => x.timeTake D (slice payload (16 * D) 16)

theorem State.domTimed_timed (s : State) (payload : List Nat) (D : Nat) : s.Timed (s.domTimed payload D) :=
  State.when_keeps (P := s.Timed) s (fun _ _ _ _ _ => rfl) (s.timeTake_timed D _)

theorem State.domTimed_rphase {payload : List Nat} {D : Nat} (hr : s.get .DOM_CFG_RING 6 D = 1) (ho : s.get .RING_OVER 6 0 = 0) :
    (s.domTimed payload D).get .DOM_RPHASE 6 D =
      unsigned 32 (s.ringPhase D (bytesNat (slice payload (16 * D + 8) 4))) % 2 ^ 32 := by
  have hover : s.on .RING_OVER 6 0 = false := State.on_eq_false.2 (by omega)
  unfold State.domTimed
  rw [State.when_true _ ⟨State.on_eq_true.2 hr, hover⟩, State.timeTake_rphase, if_pos rfl, slice_slice (by omega)]

theorem State.domTimed_rphase_other (s : State) (payload : List Nat) {D E : Nat} (h : E ≠ D) :
    (s.domTimed payload D).get .DOM_RPHASE 6 E = s.get .DOM_RPHASE 6 E :=
  State.when_keeps (P := fun t => t.get .DOM_RPHASE 6 E = s.get .DOM_RPHASE 6 E) s rfl (by rw [State.timeTake_rphase, if_neg h])

/-- What a TIME frame's bytes tell of the three domains. -/
def State.domsTimed (s : State) (payload : List Nat) : State := s.each [0, 1, 2] fun D v => v.domTimed payload D

theorem State.domsTimed_timed (s : State) (payload : List Nat) : s.Timed (s.domsTimed payload) :=
  State.each_keeps (P := s.Timed) s (fun _ _ _ _ _ => rfl) fun D _ v h => h.trans (v.domTimed_timed payload D)

theorem State.domsTimed_rphase {payload : List Nat} {D : Nat} (hD : D < 3) (hr : s.get .DOM_CFG_RING 6 D = 1) (ho : s.get .RING_OVER 6 0 = 0) :
    (s.domsTimed payload).get .DOM_RPHASE 6 D =
      unsigned 32 (s.ringPhase D (bytesNat (slice payload (16 * D + 8) 4))) % 2 ^ 32 := by
  have hown {v : State} (h : s.Timed v) : (v.domTimed payload D).get .DOM_RPHASE 6 D =
      unsigned 32 (s.ringPhase D (bytesNat (slice payload (16 * D + 8) 4))) % 2 ^ 32 := by
    rw [State.domTimed_rphase ((h.get _ (by decide) ..).trans hr) ((h.get _ (by decide) ..).trans ho), h.ringPhase]
  have h0 := s.domTimed_timed payload 0
  have h1 := h0.trans ((s.domTimed payload 0).domTimed_timed payload 1)
  show (((s.domTimed payload 0).domTimed payload 1).domTimed payload 2).get .DOM_RPHASE 6 D = _
  obtain rfl | rfl | rfl : D = 0 ∨ D = 1 ∨ D = 2 := by omega
  · rw [State.domTimed_rphase_other _ _ (by decide), State.domTimed_rphase_other _ _ (by decide), hown fun _ _ _ _ _ => rfl]
  · rw [State.domTimed_rphase_other _ _ (by decide), hown h0]
  · exact hown h1

/-- The state in which a TIME frame's bytes are taken: t_h is known. -/
def State.thTaken (s : State) (th : Nat) : State := (s.put .RING_TH 6 0 th).refInternal 9 th

/-- The state after a TIME frame, before it goes on. -/
def State.timed (s : State) (th : Nat) (payload : List Nat) : State :=
  ((s.thTaken th).domsTimed payload).when (s.addressed = false) fun u =>
    u.birayOwn frJoin 0 ([0] ++ words64 (u.get .RING_DEVID 6 0)) []

/-- The frame that goes on, with its new CORR. -/
def timeOn (f : BFrame) (corr : Nat) : BFrame := { f with w := [frWord f 1] ++ words64 corr ++ f.w.drop 3 }

/-- t_h of a TIME frame that arrives now. -/
def State.timeTh (s : State) (dir : Nat) (f : BFrame) (stamp : Nat) : Nat := ((stamp : Int) - s.timeCorr dir f / 2 ^ 16).toNat

theorem exec_time_taken {stamp resid : Nat} (hc : s.canonical = true) (h : s.Arrives dir f)
    (ha : s.get .RING_HASADDR 6 0 = 0 ∨ f.src ≠ s.get .RING_STATUS_ADDR 6 0) :
    exec (.time dir f stamp resid) s = .next ((s.timed (s.timeTh dir f stamp) f.payload).birayForward dir frTime
      (timeOn f (unsigned 64 (s.timeCorr dir f + resid)))) := by
  have harr : s.Arrives dir (timeOn f (unsigned 64 (s.timeCorr dir f + resid))) := h
  have hbit : s.get .RING_HASADDR 6 0 < 2 ^ 1 := State.get_lt (f := .RING_HASADDR) hc rfl
  by_cases h0 : s.get .RING_HASADDR 6 0 = 0
  · exact congrArg Host.Outcome.next (harr.birayBroadcast_unaddressed h0)
  · exact congrArg Host.Outcome.next (harr.birayBroadcast (f := timeOn f (unsigned 64 (s.timeCorr dir f + resid))) (by omega)
      (ha.resolve_left h0))

theorem State.thTaken_th (s : State) (th : Nat) : (s.thTaken th).get .RING_TH 6 0 = th % 2 ^ 64 := by
  have hq : (s.put .RING_TH 6 0 th).Quiet (s.thTaken th) := State.Quiet.refl.refInternal
  rw [hq.get .RING_TH (by decide)]
  simp

theorem State.thTaken_get (s : State) (th : Nat) (f : Fld) (hf : ringFlds.contains f = true ∧ f ≠ .RING_TH) (d i : Nat) :
    (s.thTaken th).get f d i = s.get f d i := by
  have hq : (s.put .RING_TH 6 0 th).Quiet (s.thTaken th) := State.Quiet.refl.refInternal
  rw [hq.get f hf.1 d i, State.get_put_fld _ hf.2]

theorem State.East.thTaken (h : s.East) (th : Nat) : (s.thTaken th).East :=
  (State.Quiet.refl.refInternal : (s.put .RING_TH 6 0 th).Quiet _).east (h.put (by decide))

/-- After the frame, the unit's own ring cells and phases are those that its bytes gave. -/
theorem State.timed_quiet (s : State) (th : Nat) (payload : List Nat) : ((s.thTaken th).domsTimed payload).Quiet (s.timed th payload) :=
  .when .refl fun _ k => k.trans (State.birayOwn_emits ..).quiet

theorem State.timed_th (s : State) (th : Nat) (payload : List Nat) : (s.timed th payload).get .RING_TH 6 0 = th % 2 ^ 64 := by
  rw [(s.timed_quiet th payload).get .RING_TH (by decide), ((s.thTaken th).domsTimed_timed payload).get .RING_TH (by decide), s.thTaken_th]

theorem State.East.timed (h : s.East) (th : Nat) (payload : List Nat) : (s.timed th payload).East :=
  (s.timed_quiet th payload).east (((s.thTaken th).domsTimed_timed payload).east (h.thTaken th))

/-- t_h is the arrival less CORR, to the nanosecond. -/
theorem timeTh_within {stamp : Nat} {corr : Int} (hlo : corr ≤ Int.ofNat stamp * 2 ^ 16)
    (hhi : Int.ofNat stamp * 2 ^ 16 - corr ≤ (2 ^ 64 - 1) * 2 ^ 16) {th : Nat} (hth : th = ((stamp : Int) - corr / 2 ^ 16).toNat % 2 ^ 64) :
    (2 ^ 16 : Int) * (Int.ofNat stamp - Int.ofNat th) ≤ corr ∧ corr < (2 ^ 16 : Int) * (Int.ofNat stamp - Int.ofNat th + 1) := by
  simp only [Int.ofNat_eq_natCast] at *
  omega

/-- The phase is that of t_h less the head's, within half a sample, in whole ns. -/
theorem State.ringPhase_within (s : State) (D p : Nat) :
    ∃ k : Int, let y := (Int.ofNat (s.get .RING_TH 6 0) - Int.ofNat (s.get .DOM_EDGET 6 D)) * Int.ofNat ((s.domFs D).1 * 2 ^ 32) -
        Int.ofNat (p * (s.domFs D).2 * 10 ^ 9) + k * Int.ofNat ((s.domFs D).2 * 10 ^ 9 * 2 ^ 32)
      2 * y < Int.ofNat ((s.domFs D).2 * 10 ^ 9 * 2 ^ 32) ∧ 0 ≤ 2 * y + Int.ofNat ((s.domFs D).2 * 10 ^ 9 * 2 ^ 32) ∧
        signed 32 (unsigned 32 (s.ringPhase D p) % 2 ^ 32) * Int.ofNat ((s.domFs D).1 * 2 ^ 32) ≤ y ∧
        y < (signed 32 (unsigned 32 (s.ringPhase D p) % 2 ^ 32) + 1) * Int.ofNat ((s.domFs D).1 * 2 ^ 32) := by
  have hbounds := rateFs_bounds (s.get .DOM_CFG_RATE 6 D)
  rw [show rateFs (s.get .DOM_CFG_RATE 6 D) = s.domFs D from rfl] at hbounds
  obtain ⟨hn, hm, hle⟩ := hbounds
  let z : Int := (Int.ofNat (s.get .RING_TH 6 0) - Int.ofNat (s.get .DOM_EDGET 6 D)) * Int.ofNat ((s.domFs D).1 * 2 ^ 32) -
    Int.ofNat (p * (s.domFs D).2 * 10 ^ 9)
  let per : Int := Int.ofNat ((s.domFs D).2 * 10 ^ 9 * 2 ^ 32)
  let n : Int := Int.ofNat ((s.domFs D).1 * 2 ^ 32)
  have hq : s.ringPhase D p = centred z per / n := rfl
  have hnpos : 0 < n := Int.natCast_pos.2 (Nat.mul_pos hn (Nat.two_pow_pos _))
  have hper : 0 < per := Int.natCast_pos.2 (Nat.mul_pos (Nat.mul_pos hm (by norm_num)) (Nat.two_pow_pos _))
  have hpern : per ≤ n * 2 ^ 31 := by
    have hnat : (s.domFs D).2 * 10 ^ 9 * 2 ^ 32 ≤ (s.domFs D).1 * 2 ^ 32 * 2 ^ 31 := by
      calc (s.domFs D).2 * 10 ^ 9 * 2 ^ 32 ≤ (s.domFs D).1 * 2 ^ 31 * 2 ^ 32 := Nat.mul_le_mul_right _ (by norm_num at hle ⊢; exact hle)
        _ = (s.domFs D).1 * 2 ^ 32 * 2 ^ 31 := Nat.mul_right_comm ..
    have hcast : ((((s.domFs D).1 * 2 ^ 32 * 2 ^ 31 : Nat)) : Int) = n * 2 ^ 31 := by rw [Nat.cast_mul, Nat.cast_pow]; rfl
    exact (Int.ofNat_le.2 hnat).trans_eq hcast
  obtain ⟨k, hk⟩ := centred_eq_add z per
  obtain ⟨hhalf, hneg⟩ := centred_half hper z
  have hlo : s.ringPhase D p * n ≤ centred z per := hq ▸ Int.ediv_mul_le _ hnpos.ne'
  have hhi : centred z per < (s.ringPhase D p + 1) * n := hq ▸ Int.lt_ediv_add_one_mul_self _ hnpos
  have hsmall : -2 ^ 31 ≤ s.ringPhase D p ∧ s.ringPhase D p < 2 ^ 31 := by
    constructor <;> nlinarith
  refine ⟨k, ?_⟩
  rw [signed_unsigned hsmall.1 hsmall.2]
  show 2 * (z + k * per) < per ∧ 0 ≤ 2 * (z + k * per) + per ∧ s.ringPhase D p * n ≤ z + k * per ∧ z + k * per < (s.ringPhase D p + 1) * n
  rw [← hk]
  exact ⟨hhalf, hneg, hlo, hhi⟩

theorem State.timed_rphase {payload : List Nat} {D : Nat} (th : Nat) (hD : D < 3) (hr : s.get .DOM_CFG_RING 6 D = 1)
    (ho : s.get .RING_OVER 6 0 = 0) : (s.timed th payload).get .DOM_RPHASE 6 D =
      unsigned 32 ((s.thTaken th).ringPhase D (bytesNat (slice payload (16 * D + 8) 4))) % 2 ^ 32 := by
  rw [(s.timed_quiet th payload).get .DOM_RPHASE (by decide),
    State.domsTimed_rphase hD ((s.thTaken_get _ _ (by decide) ..).trans hr) ((s.thTaken_get _ _ (by decide) ..).trans ho)]

/-- A unit without an address asks for one. -/
theorem State.timed_join {payload : List Nat} (hc : s.canonical = true) (th : Nat) (ha : s.get .RING_HASADDR 6 0 = 0) (he : s.East)
    (ho : s.get .RING_OVER 6 0 = 0) :
    ∃ g, .biray 6 3 g ∈ (s.timed th payload).sent ∧ g.dst = 0 ∧ frLong g 2 = s.get .RING_DEVID 6 0 := by
  let u := (s.thTaken th).domsTimed payload
  have hget (f : Fld) (hf : ringFlds.contains f = true ∧ f ≠ .RING_TH ∧ f ≠ .DOM_RPHASE) (d i : Nat) :
      u.get f d i = s.get f d i := by
    obtain ⟨hf, hth, hph⟩ := hf
    exact (((s.thTaken th).domsTimed_timed payload).get f ⟨hf, hph⟩ d i).trans (s.thTaken_get th f ⟨hf, hth⟩ d i)
  have heast : u.East := ((s.thTaken th).domsTimed_timed payload).east (he.thTaken th)
  have hnone : s.addressed = false := State.on_eq_false.2 (by omega)
  have hsent : s.timed th payload = u.send (.biray 6 3 ⟨u.ringAddr, 0, 0, 0, [0] ++ words64 (u.get .RING_DEVID 6 0), pad16 []⟩) :=
    (State.when_true _ hnone _).trans (heast.birayOwn ((hget _ (by decide) ..).trans ho) ..)
  have hdev : u.get .RING_DEVID 6 0 = s.get .RING_DEVID 6 0 := hget _ (by decide) ..
  rw [hdev] at hsent
  exact ⟨_, by rw [hsent, State.send_sent]; exact List.mem_append_right _ List.mem_cons_self, rfl, frLong_two (State.devId_lt hc) ..⟩

end

end Sys2Proof.Machine
end

section
/-! SUPPORT. COMMIT, PARTIAL, MREQ and MRSP frames and the time limit of a request (R365, R368, R369). -/

namespace Sys2Proof.Machine

section
variable {s t u : State} {dir : Nat} {f : BFrame}

/-! ### COMMIT -/

/-- A ring-wide domain that is neither ahead of the ring nor unlike the head's follows the ring, unless the unit is oversize. -/
theorem State.ringPart_of {D : Nat} (hr : s.get .DOM_CFG_RING 6 D = 1) (ha : s.get .RING_AHEAD 6 D = 0) (hm : s.get .RING_MIS 6 D = 0)
    (ho : s.get .RING_OVER 6 0 = 0) : s.ringPart D = true := by
  simp [State.ringPart, State.ringOut, State.ringWide, State.on, hr, ha, hm, ho]

theorem bitAt_of_bitsAt {w : Nat} (h : bitsAt w 2 2 = 0) : bitAt w 2 = 0 ∧ bitAt w 3 = 0 := by
  unfold bitsAt at h
  unfold bitAt
  omega

/-- An accepted commit of another unit: it is pending here, and the masks latch. -/
def State.commitTaken (s : State) (D T : Nat) : State := (s.commitPend D T 0).latchMasks D T

/-- A commit is judged where the unit follows the ring in its domain. -/
theorem State.commitTake_commit {w : Nat} (h : bitsAt w 2 2 = 0) (s : State) (D T : Nat) :
    s.commitTake D (bitAt w 2) (bitAt w 3) T = if s.commitRefused D T then (s.refuseCommit D T, false) else (s.commitTaken D T, true) :=
  if_pos ⟨(bitAt_of_bitsAt h).2, (bitAt_of_bitsAt h).1⟩

theorem exec_commitFrame_broadcast (h : s.Arrives dir f) (ha : s.get .RING_HASADDR 6 0 = 1) (hs : f.src ≠ s.get .RING_STATUS_ADDR 6 0)
    (hb : bitAt (frWord f 1) 4 = 0) (hk : bitsAt (frWord f 1) 2 2 = 0) (hD : frWord f 1 % 4 < 3) (hp : s.ringPart (frWord f 1 % 4) = true) :
    exec (.commitFrame dir f) s = .next (State.birayForward
      (if s.commitRefused (frWord f 1 % 4) (frLong f 2) then s.refuseCommit (frWord f 1 % 4) (frLong f 2)
        else (s.commitTaken (frWord f 1 % 4) (frLong f 2)).birayOwn frCommit f.src ([frWord f 1 % 16 + 16] ++ words64 (frLong f 2)) [])
      dir frCommit f) := by
  refine congrArg Host.Outcome.next ((if_neg (by rw [hb]; decide)).trans ((h.birayBroadcast ha hs).trans
    (congrArg (fun t => State.birayForward t dir frCommit f) ((s.when_true ⟨hD, hp⟩ _).trans ?_))))
  rw [State.commitTake_commit hk]
  split
  · exact State.when_false _ Bool.false_ne_true _
  · exact State.when_true _ rfl _

theorem State.commitTaken_cells {D T : Nat} (s : State) (hT : T < 2 ^ 64) :
    (s.commitTaken D T).get .EPOCH_CSTAT_COMMIT_PEND 6 D = 1 ∧ (s.commitTaken D T).get .COMMIT_T 6 D = T := by
  have hq : (s.commitPend D T 0).Quiet (s.commitTaken D T) := State.Quiet.refl.latchMasks
  rw [hq.get .EPOCH_CSTAT_COMMIT_PEND (by decide), hq.get .COMMIT_T (by decide)]
  constructor
  · simp [State.commitPend, State.get_put]
  · simp [State.commitPend, State.get_put]; omega

theorem State.commitTaken_over (s : State) (D T : Nat) : (s.commitTaken D T).get .RING_OVER 6 0 = s.get .RING_OVER 6 0 := by
  have hq : (s.commitPend D T 0).Quiet (s.commitTaken D T) := State.Quiet.refl.latchMasks
  rw [hq.get .RING_OVER (by decide)]
  simp [State.commitPend, State.get_put]

theorem State.East.commitTaken (h : s.East) (D T : Nat) : (s.commitTaken D T).East :=
  (State.Quiet.refl.latchMasks : (s.commitPend D T 0).Quiet (s.commitTaken D T)).east
    ((((h.put (by decide)).put (by decide)).put (by decide)).put (by decide))

/-- The words of an acknowledgement. -/
theorem ack_word (w : Nat) : bitAt (w % 16 + 16) 4 = 1 ∧ (w % 16 + 16) % 16 = w % 16 := by
  unfold bitAt; omega

theorem exec_commitFrame_accepted (hw : ∀ x, x ∈ f.w → x < 2 ^ 32) (h : s.Arrives dir f) (ha : s.get .RING_HASADDR 6 0 = 1)
    (hs : f.src ≠ s.get .RING_STATUS_ADDR 6 0) (hb : bitAt (frWord f 1) 4 = 0) (hk : bitsAt (frWord f 1) 2 2 = 0)
    (hD : frWord f 1 % 4 < 3) (hp : s.ringPart (frWord f 1 % 4) = true) (hr : s.commitRefused (frWord f 1 % 4) (frLong f 2) = false) :
    Completes (.commitFrame dir f) s fun t => t.get .EPOCH_CSTAT_COMMIT_PEND 6 (frWord f 1 % 4) = 1 ∧
      t.get .COMMIT_T 6 (frWord f 1 % 4) = frLong f 2 ∧ (s.East → f.hops < 62 → .biray 6 7 { f with hops := f.hops + 1 } ∈ t.sent) ∧
      (s.East ∧ s.get .RING_OVER 6 0 = 0 → ∃ g, .biray 6 7 g ∈ t.sent ∧ g.dst = f.src ∧ bitAt (frWord g 1) 4 = 1 ∧
        frWord g 1 % 16 = frWord f 1 % 16 ∧ frLong g 2 = frLong f 2) := by
  let a := s.commitTaken (frWord f 1 % 4) (frLong f 2)
  let v := a.birayOwn frCommit f.src ([frWord f 1 % 16 + 16] ++ words64 (frLong f 2)) []
  have hexec := exec_commitFrame_broadcast h ha hs hb hk hD hp
  rw [if_neg (by rw [hr]; exact Bool.false_ne_true)] at hexec
  have hown : a.Quiet v := (a.birayOwn_emits ..).quiet
  have hon : v.Quiet (v.birayForward dir frCommit f) := v.birayForward_quiet ..
  obtain ⟨hpend, hT⟩ := s.commitTaken_cells (D := frWord f 1 % 4) (frLong_lt hw 2)
  refine ⟨_, hexec, ((hown.trans hon).get .EPOCH_CSTAT_COMMIT_PEND (by decide) ..).trans hpend,
    ((hown.trans hon).get .COMMIT_T (by decide) ..).trans hT,
    fun he hh => (hown.east (he.commitTaken _ _)).birayForward_mem hh dir frCommit, fun ⟨he, ho⟩ => ?_⟩
  have hsent : v = a.send (.biray 6 7 ⟨a.ringAddr, f.src, 0, 0, [frWord f 1 % 16 + 16] ++ words64 (frLong f 2), pad16 []⟩) :=
    (he.commitTaken _ _).birayOwn ((s.commitTaken_over _ _).trans ho) ..
  refine ⟨⟨a.ringAddr, f.src, 0, 0, [frWord f 1 % 16 + 16] ++ words64 (frLong f 2), pad16 []⟩,
    hon.mem_sent (by rw [hsent, State.send_sent]; exact List.mem_append_right _ List.mem_cons_self), rfl, (ack_word _).1,
    (ack_word _).2, frLong_two (frLong_lt hw 2) ..⟩

theorem State.refuseCommit_sameBut (s : State) (D T : Nat) :
    s.SameBut (s.refuseCommit D T) [.EPOCH_CSTAT_BADALIGN, .EPOCH_CSTAT_TOOLATE, .EPOCH_CSTAT_REFUSED] :=
  ((State.SameBut.refl.when fun _ k => k.put (by decide)).when fun _ k => k.put (by decide)).when fun _ k => k.put (by decide)

theorem State.refuseCommit_sent (s : State) (D T : Nat) : (s.refuseCommit D T).sent = s.sent := by
  unfold State.refuseCommit State.when
  split_ifs <;> simp only [State.put_sent]

theorem exec_commitFrame_refused (h : s.Arrives dir f) (ha : s.get .RING_HASADDR 6 0 = 1)
    (hs : f.src ≠ s.get .RING_STATUS_ADDR 6 0) (hb : bitAt (frWord f 1) 4 = 0) (hk : bitsAt (frWord f 1) 2 2 = 0)
    (hD : frWord f 1 % 4 < 3) (hp : s.ringPart (frWord f 1 % 4) = true) (hr : s.commitRefused (frWord f 1 % 4) (frLong f 2) = true) :
    Completes (.commitFrame dir f) s fun t => s.SameBut t [.EPOCH_CSTAT_BADALIGN, .EPOCH_CSTAT_TOOLATE, .EPOCH_CSTAT_REFUSED, .BIRAY_DISC] ∧
      t.sent.length ≤ s.sent.length + 1 := by
  have hexec := exec_commitFrame_broadcast h ha hs hb hk hD hp
  rw [if_pos hr] at hexec
  refine ⟨_, hexec, ((s.refuseCommit_sameBut _ _).mono (by simp)).trans ((State.birayForward_sameBut _ dir frCommit f).mono (by simp)), ?_⟩
  rw [← s.refuseCommit_sent (frWord f 1 % 4) (frLong f 2)]
  exact State.birayForward_sent_length ..

/-- An acknowledgement for this unit. -/
theorem exec_commitFrame_ack (h : s.Arrives dir f) (ha : s.get .RING_HASADDR 6 0 = 1) (hd : f.dst = s.get .RING_STATUS_ADDR 6 0)
    (hb : bitAt (frWord f 1) 4 = 1) :
    exec (.commitFrame dir f) s = .next (s.when (s.get .EPOCH_CSTAT_COMMIT_PEND 6 (frWord f 1 % 4) = 1 ∧ bitsAt (frWord f 1) 2 2 = 0 ∧
      frLong f 2 = s.get .COMMIT_T 6 (frWord f 1 % 4)) fun u =>
        u.put .COMMIT_ACKS 6 (frWord f 1 % 4) (setBit (u.get .COMMIT_ACKS 6 (frWord f 1 % 4)) f.src)) :=
  congrArg Host.Outcome.next ((if_pos hb).trans (h.birayUnicast ha hd))

theorem setBit_lt {v k n : Nat} (hv : v < 2 ^ n) (hk : k < n) : setBit v k < 2 ^ n :=
  Nat.or_lt_two_pow hv (Nat.pow_lt_pow_right (by decide) hk)

theorem exec_commitFrame_acked (hc : s.canonical = true) (hsrc : f.src < 16) (h : s.Arrives dir f) (ha : s.get .RING_HASADDR 6 0 = 1)
    (hd : f.dst = s.get .RING_STATUS_ADDR 6 0) (hb : bitAt (frWord f 1) 4 = 1) (hk : bitsAt (frWord f 1) 2 2 = 0)
    (hp : s.get .EPOCH_CSTAT_COMMIT_PEND 6 (frWord f 1 % 4) = 1) (hT : frLong f 2 = s.get .COMMIT_T 6 (frWord f 1 % 4)) :
    Does (.commitFrame dir f) s
      [(⟨.COMMIT_ACKS, 6, frWord f 1 % 4⟩, setBit (s.get .COMMIT_ACKS 6 (frWord f 1 % 4)) f.src)] :=
  ⟨_, (exec_commitFrame_ack h ha hd hb).trans (next_when ⟨hp, hk, hT⟩), (State.Changes.refl s).put .COMMIT_ACKS 6 _ _
    (setBit_lt (State.get_lt (f := .COMMIT_ACKS) hc rfl) hsrc)⟩

theorem exec_commitFrame_ackIdle (h : s.Arrives dir f) (ha : s.get .RING_HASADDR 6 0 = 1)
    (hd : f.dst = s.get .RING_STATUS_ADDR 6 0) (hb : bitAt (frWord f 1) 4 = 1)
    (hn : s.get .EPOCH_CSTAT_COMMIT_PEND 6 (frWord f 1 % 4) = 0 ∨ frLong f 2 ≠ s.get .COMMIT_T 6 (frWord f 1 % 4)) :
    exec (.commitFrame dir f) s = .next s :=
  (exec_commitFrame_ack h ha hd hb).trans (next_when_not (by rintro ⟨hp, -, hT⟩; omega))

/-- A commit of a domain in which the unit does not follow the ring. -/
theorem exec_commitFrame_apart (h : s.Arrives dir f) (hb : bitAt (frWord f 1) 4 = 0)
    (hn : frWord f 1 % 4 = 3 ∨ s.ringPart (frWord f 1 % 4) = false) :
    Completes (.commitFrame dir f) s fun t => s.SameBut t [.BIRAY_DISC] := by
  have hnot : ¬ (frWord f 1 % 4 < 3 ∧ s.ringPart (frWord f 1 % 4) = true) := by
    rintro ⟨hD, hp⟩
    rcases hn with hn | hn
    · omega
    · rw [hp] at hn; cases hn
  refine ⟨_, congrArg Host.Outcome.next ((if_neg (by rw [hb]; decide)).trans h.birayIn), ?_⟩
  dsimp only
  rw [State.when_false _ hnot]
  exact .ite ((s.birayForward_sameBut dir frCommit f : _)) (.ite .refl (s.birayForward_sameBut dir frCommit f : _))

/-! ### PARTIAL -/

theorem exec_partialFrame_apart (h : s.Arrives dir f) (ha : s.get .RING_HASADDR 6 0 = 1) (hd : f.dst = s.get .RING_STATUS_ADDR 6 0)
    (hp : s.ringPart (bitsAt (frWord f 1) 9 2) = false) : exec (.partialFrame dir f) s = .next s :=
  congrArg Host.Outcome.next ((h.birayUnicast ha hd).trans (s.when_false (by rw [hp]; decide) _))

theorem exec_partialFrame_passed (h : s.Arrives dir f) (ha : s.get .RING_HASADDR 6 0 = 1) (hd : f.dst = s.get .RING_STATUS_ADDR 6 0)
    (hp : s.ringPart (bitsAt (frWord f 1) 9 2) = true) :
    exec (.partialFrame dir f) s = .next (s.send (.partialSum (8 + f.src) (bitsAt (frWord f 1) 13 3) (bitsAt (frWord f 1) 0 9)
      (bitsAt (frWord f 1) 9 2) (frLong f 2) ((List.range (f.payload.length / 12)).map fun i => bytesNat (slice f.payload (12 * i) 12))
      (frWord f 4) (bitAt (frWord f 1) 11 == 1) (bitAt (frWord f 1) 12 == 1))) :=
  congrArg Host.Outcome.next ((h.birayUnicast ha hd).trans (s.when_true hp _))

/-! ### Accesses of other units, and answers from them -/

/-- The state in which the request of an MREQ has been served. -/
def State.mreqServed (s : State) (f : BFrame) (len : Nat) : State :=
  s.access (s.request 7 15 (15 * 2 ^ 36 + frLong f 2 % 2 ^ 36) (bitAt (frWord f 1) 8 == 1) len (bytesNat (f.payload.take len)))

/-- The payload of the MRSP to an MREQ. -/
def State.mrspBytes (s : State) (f : BFrame) (len : Nat) : List Nat := if bitAt (frWord f 1) 8 == 1 then [] else s.answerBytes len

theorem exec_mreq_served (h : s.Arrives dir f) (ha : s.get .RING_HASADDR 6 0 = 1) (hd : f.dst = s.get .RING_STATUS_ADDR 6 0) (len : Nat) :
    exec (.mreq dir f len) s = .next ((s.mreqServed f len).birayFrom 7 frMrsp f.src
      [frWord f 1 % 256 + flag (s.mreqServed f len).answer.err * 256] ((s.mreqServed f len).mrspBytes f len)) := by
  have hbits : bitsAt (frLong f 2) 0 36 = frLong f 2 % 2 ^ 36 := by rw [bitsAt, Nat.pow_zero, Nat.div_one]
  unfold State.mreqServed
  rw [← hbits]
  exact congrArg Host.Outcome.next (h.birayUnicast ha hd)

theorem exec_mreq_leaves (h : s.Arrives dir f) (ha : s.get .RING_HASADDR 6 0 = 1) (hd : f.dst = s.get .RING_STATUS_ADDR 6 0) (len : Nat) :
    Completes (.mreq dir f len) s fun t => { t with sent := (s.mreqServed f len).sent } = s.mreqServed f len := by
  refine ⟨_, exec_mreq_served h ha hd len, ?_⟩
  rcases State.birayFrom_emits (s.mreqServed f len) 7 frMrsp f.src [frWord f 1 % 256 + flag (s.mreqServed f len).answer.err * 256]
    ((s.mreqServed f len).mrspBytes f len) with hsame | ⟨m, hsent⟩
  · rw [hsame]
  · rw [hsent]; rfl

theorem exec_mreq_answered (h : s.Arrives dir f) (ha : s.get .RING_HASADDR 6 0 = 1) (hd : f.dst = s.get .RING_STATUS_ADDR 6 0) {len : Nat}
    (hu : s.mreqServed f len = u) (hroute : u.routeUp 7 6 = true) (he : u.East) (ho : u.get .RING_OVER 6 0 = 0) :
    ∃ g, exec (.mreq dir f len) s = .next (u.send (.biray 6 10 g)) ∧ g.dst = f.src ∧
      frWord g 1 = frWord f 1 % 256 + flag u.answer.err * 256 ∧ (bitAt (frWord f 1) 8 = 1 ∨ u.answer.err = true → g.payload = []) ∧
      (bitAt (frWord f 1) 8 = 0 → u.answer.err = false → g.payload.take len = natBytes len u.answer.data) := by
  have hexec := exec_mreq_served h ha hd len
  rw [hu, State.birayFrom, State.when_true _ hroute, he.birayOwn ho] at hexec
  refine ⟨_, hexec, rfl, rfl, fun hnone => ?_, fun hb herr => ?_⟩
  · have hbytes : u.mrspBytes f len = [] := by
      rcases hnone with hb | herr
      · simp [State.mrspBytes, hb]
      · simp [State.mrspBytes, State.answerBytes, herr]
    simp [hbytes, pad16]
  · have hbytes : u.mrspBytes f len = natBytes len u.answer.data := by simp [State.mrspBytes, State.answerBytes, hb, herr]
    show (pad16 (u.mrspBytes f len)).take len = _
    rw [hbytes, pad16_take (by simp), List.take_of_length_le (by simp)]

theorem State.hostResume_idle (h : s.hostQ = []) (tag : Nat) : s.hostResume tag = s := by
  unfold State.hostResume; rw [h]

theorem exec_mrsp_unasked (h : s.Arrives dir f) (ha : s.get .RING_HASADDR 6 0 = 1) (hd : f.dst = s.get .RING_STATUS_ADDR 6 0)
    (hq : (s.remote.find? fun q => q.tag == frWord f 1 % 256 && q.unit == f.src) = none) : exec (.mrsp dir f) s = .next s := by
  refine congrArg Host.Outcome.next ((h.birayUnicast ha hd).trans ?_)
  rw [hq]

theorem exec_mrsp_answers (h : s.Arrives dir f) (ha : s.get .RING_HASADDR 6 0 = 1) (hd : f.dst = s.get .RING_STATUS_ADDR 6 0)
    (hh : s.hostQ = []) {r : RemoteAcc} (hq : (s.remote.find? fun q => q.tag == frWord f 1 % 256 && q.unit == f.src) = some r) :
    exec (.mrsp dir f) s =
      .next { s with remote := s.remote.erase r, answer := ⟨if r.write then 0 else bytesNat f.payload, bitAt (frWord f 1) 8 == 1⟩ } := by
  refine congrArg Host.Outcome.next ((h.birayUnicast ha hd).trans ?_)
  rw [hq]
  exact State.hostResume_idle (s := { s with remote := s.remote.erase r, answer := _ }) hh r.tag

/-! ### The time limit of a request -/

theorem exec_remoteAccessTimeout_none {tag : Nat} (hq : (s.remote.find? fun q => q.tag == tag) = none) :
    exec (.remoteAccessTimeout tag) s = .next s := by
  refine congrArg Host.Outcome.next ?_
  rw [hq]

/-- A refused access is logged where no record stands. -/
theorem State.logDecode_record (s : State) (r : FabReq) {d cause : Nat} (h : s.get .FAB_DERR_VALID d 0 = 0) :
    (s.logDecode r d cause).get .FAB_DERR_VALID d 0 = 1 ∧
      (s.logDecode r d cause).get .FAB_DERR_CAUSE d 0 = cause % 2 ^ Fld.width .FAB_DERR_CAUSE := by
  unfold State.logDecode
  dsimp only
  rw [if_pos h, State.reply_get, State.reply_get, State.fault_get _ _ _ _ _ (by decide), State.fault_get _ _ _ _ _ (by decide)]
  simp [State.get_put]

/-- A refused access is answered with an error, and leaves memory, the requests to other units and the host port's. -/
theorem State.logDecode_rest (s : State) (r : FabReq) (d cause : Nat) : (s.logDecode r d cause).answer = ⟨0, true⟩ ∧
    (s.logDecode r d cause).mem = s.mem ∧ (s.logDecode r d cause).remote = s.remote ∧ (s.logDecode r d cause).hostQ = s.hostQ := by
  unfold State.logDecode
  refine ⟨rfl, ?_, ?_, ?_⟩
  · show (State.fault _ _ _ _ _).mem = _
    rw [State.fault_mem]; split <;> simp [State.incSat]
  · show (State.fault _ _ _ _ _).remote = _
    rw [State.fault_remote]; split <;> simp [State.incSat]
  · show (State.fault _ _ _ _ _).hostQ = _
    rw [State.fault_hostQ]; split <;> simp [State.incSat]

theorem exec_remoteAccessTimeout_lost {tag : Nat} (hh : s.hostQ = []) {r : RemoteAcc} (hq : (s.remote.find? fun q => q.tag == tag) = some r) :
    exec (.remoteAccessTimeout tag) s = .next (s.remoteLost r) ∧ (s.remoteLost r).remote = s.remote.erase r ∧
      (s.remoteLost r).answer = ⟨0, true⟩ ∧ s.SameMem (s.remoteLost r) := by
  let t : State := { s with remote := s.remote.erase r }
  let q := t.request r.die r.port r.addr r.write 4 0
  obtain ⟨hanswer, hmem, hremote, hhost⟩ := t.logDecode_rest q r.die 3
  have hlost : s.remoteLost r = ((t.logDecode q r.die 3).incSat .RING_TIMEOUT 6 0 1).fault .RING_TIMEOUT 6 0 r.unit := rfl
  have hq0 : (s.remoteLost r).hostQ = [] := by rw [hlost, State.fault_hostQ, State.incSat, State.put_hostQ, hhost, ← hh]
  refine ⟨?_, ?_, ?_, SameMem.of_mem ?_⟩
  · refine congrArg Host.Outcome.next ?_
    rw [hq]
    exact State.hostResume_idle hq0 tag
  · rw [hlost, State.fault_remote, State.incSat, State.put_remote, hremote]
  · rw [hlost, State.fault_answer, State.incSat, State.put_answer, hanswer]
  · rw [hlost, State.fault_mem, State.incSat, State.put_mem, hmem]

theorem State.remoteLost_counts (s : State) (r : RemoteAcc) : (s.remoteLost r).Raised .RING_TIMEOUT 6 0 ∧
    (s.remoteLost r).get .RING_TIMEOUT 6 0 = min (s.get .RING_TIMEOUT 6 0 + 1) (2 ^ 32 - 1) := by
  let t : State := { s with remote := s.remote.erase r }
  have hlog : t.Accessed (t.logDecode (t.request r.die r.port r.addr r.write 4 0) r.die 3) := State.Accessed.refl.logDecode
  unfold State.remoteLost
  refine ⟨State.fault_raised .., ?_⟩
  rw [State.fault_get _ _ _ _ _ (by decide), State.incSat, State.get_put_same, hlog _ _ _ (by decide)]
  exact Nat.mod_eq_of_lt (Nat.lt_of_le_of_lt (Nat.min_le_right ..) (by decide))

theorem State.remoteLost_record (s : State) (r : RemoteAcc) (h : s.get .FAB_DERR_VALID r.die 0 = 0) :
    (s.remoteLost r).get .FAB_DERR_VALID r.die 0 = 1 ∧ (s.remoteLost r).get .FAB_DERR_CAUSE r.die 0 = 3 := by
  let t : State := { s with remote := s.remote.erase r }
  obtain ⟨hvalid, hcause⟩ := t.logDecode_record (t.request r.die r.port r.addr r.write 4 0) (d := r.die) (cause := 3) h
  unfold State.remoteLost
  rw [State.fault_get _ _ _ _ _ (by decide), State.fault_get _ _ _ _ _ (by decide), State.incSat, State.get_put_fld _ (by decide),
    State.get_put_fld _ (by decide)]
  exact ⟨hvalid, hcause⟩

end

end Sys2Proof.Machine
end

section
/-! SUPPORT. A TIME frame as a whole. -/

namespace Sys2Proof.Machine

section
variable {s : State} {dir : Nat} {f : BFrame} {stamp resid : Nat}

theorem unsigned_lt (w : Nat) (x : Int) : unsigned w x < 2 ^ w := by
  have hpos : (0 : Int) < ((2 ^ w : Nat) : Int) := Int.natCast_pos.2 (Nat.two_pow_pos w)
  have hlt := Int.emod_lt_of_pos x hpos
  have hnn := Int.emod_nonneg x hpos.ne'
  unfold unsigned
  omega

/-- The state after a TIME frame. -/
def State.timeDone (s : State) (dir : Nat) (f : BFrame) (stamp resid : Nat) : State :=
  (s.timed (s.timeTh dir f stamp) f.payload).birayForward dir frTime (timeOn f (unsigned 64 (s.timeCorr dir f + resid)))

theorem State.timeDone_quiet (s : State) (dir : Nat) (f : BFrame) (stamp resid : Nat) :
    (s.timed (s.timeTh dir f stamp) f.payload).Quiet (s.timeDone dir f stamp resid) := State.birayForward_quiet ..

theorem State.timeDone_th (s : State) (dir : Nat) (f : BFrame) (stamp resid : Nat) :
    (s.timeDone dir f stamp resid).get .RING_TH 6 0 = s.timeTh dir f stamp % 2 ^ 64 :=
  ((s.timeDone_quiet dir f stamp resid).get .RING_TH (by decide) 6 0).trans (s.timed_th ..)

theorem State.timeDone_phase {D : Nat} (hD : D < 3) (hr : s.get .DOM_CFG_RING 6 D = 1) (ho : s.get .RING_OVER 6 0 = 0) :
    ∃ k : Int, let y := (Int.ofNat ((s.timeDone dir f stamp resid).get .RING_TH 6 0) - Int.ofNat (s.get .DOM_EDGET 6 D)) *
          Int.ofNat ((s.domFs D).1 * 2 ^ 32) -
        Int.ofNat (bytesNat (slice f.payload (16 * D + 8) 4) * (s.domFs D).2 * 10 ^ 9) + k * Int.ofNat ((s.domFs D).2 * 10 ^ 9 * 2 ^ 32)
      2 * y < Int.ofNat ((s.domFs D).2 * 10 ^ 9 * 2 ^ 32) ∧ 0 ≤ 2 * y + Int.ofNat ((s.domFs D).2 * 10 ^ 9 * 2 ^ 32) ∧
        signed 32 ((s.timeDone dir f stamp resid).get .DOM_RPHASE 6 D) * Int.ofNat ((s.domFs D).1 * 2 ^ 32) ≤ y ∧
        y < (signed 32 ((s.timeDone dir f stamp resid).get .DOM_RPHASE 6 D) + 1) * Int.ofNat ((s.domFs D).1 * 2 ^ 32) := by
  let u := s.thTaken (s.timeTh dir f stamp)
  have hth : (s.timeDone dir f stamp resid).get .RING_TH 6 0 = u.get .RING_TH 6 0 := (s.timeDone_th ..).trans (s.thTaken_th _).symm
  have hedge : s.get .DOM_EDGET 6 D = u.get .DOM_EDGET 6 D := (s.thTaken_get _ _ (by decide) ..).symm
  have hrate : s.domFs D = u.domFs D := congrArg rateFs (s.thTaken_get _ .DOM_CFG_RATE (by decide) 6 D).symm
  have hphase : (s.timeDone dir f stamp resid).get .DOM_RPHASE 6 D =
      unsigned 32 (u.ringPhase D (bytesNat (slice f.payload (16 * D + 8) 4))) % 2 ^ 32 :=
    ((s.timeDone_quiet dir f stamp resid).get .DOM_RPHASE (by decide) 6 D).trans (State.timed_rphase _ hD hr ho)
  rw [hth, hedge, hrate, hphase]
  exact u.ringPhase_within D _

theorem State.East.timeDone_goes (he : s.East) (hh : f.hops < 62) :
    ∃ g, .biray 6 5 g ∈ (s.timeDone dir f stamp resid).sent ∧ g.payload = f.payload ∧
      frLong g 2 = unsigned 64 (s.timeCorr dir f + resid) :=
  ⟨_, (he.timed _ _).birayForward_mem (f := timeOn f _) hh dir frTime, rfl,
    (frLong_words64 ..).trans (Nat.mod_eq_of_lt (unsigned_lt 64 _))⟩

theorem State.timeDone_join (hc : s.canonical = true) (ha : s.get .RING_HASADDR 6 0 = 0) (he : s.East) (ho : s.get .RING_OVER 6 0 = 0) :
    ∃ g, .biray 6 3 g ∈ (s.timeDone dir f stamp resid).sent ∧ g.dst = 0 ∧ frLong g 2 = s.get .RING_DEVID 6 0 := by
  obtain ⟨g, hg, hdst, hid⟩ := State.timed_join (payload := f.payload) hc (s.timeTh dir f stamp) ha he ho
  exact ⟨g, (s.timeDone_quiet dir f stamp resid).mem_sent hg, hdst, hid⟩

end

end Sys2Proof.Machine
end

section
/-! PROOF. -/

open Sys2Proof Sys2Proof.Machine

/-- Settles O52: each clause is the lemma of its command, over one notion of the way east (`State.East`), of a frame that arrives
(`State.Arrives`) and of what faults and conditions leave (`State.Quiet`). -/
theorem ringEnumeratesAndKeepsTime : Obligations.RingEnumeratesAndKeepsTime := by
  unfold Obligations.RingEnumeratesAndKeepsTime
  intro s hc _ addr up head east own starts trouble
  refine ⟨⟨exec_ringStep_notDue, fun hgo hr ha => exec_ringStep_alone hgo hr ha, fun hgo hr hh hup => exec_ringStep_head hc hgo hr hh hup,
    exec_ringStep_ready⟩, exec_ringReenumerate_ignored, exec_ringReenumerate_head hc, exec_enumTimeout_idle, exec_enumTimeout_again hc,
    exec_enumTimeout_fails, ⟨exec_enumWaitTimeout_alone hc, exec_enumWaitTimeout_else hc⟩, fun a _ => exec_ringPresentExpiry_does hc a,
    fun pa pb pc _ _ _ => ⟨exec_timeFrameSend_idle, fun hh ha ⟨he, ho⟩ => exec_timeFrameSend_head hc hh ha he ho⟩, ?_, ?_⟩
  · intro dir f _ hw _ hsrc d west arrives mine here n on
    refine ⟨exec_enum_address hc hw, exec_enum_oversize, exec_enum_announcement, exec_enum_multihead, exec_enum_ignored,
      exec_enum_returned hc hw, ?_, ?_, ?_, ?_, ?_, ?_, ?_, ?_, ?_⟩
    · rintro ⟨h, ha, hd⟩
      obtain ⟨hle, hfree, hlow⟩ := s.freeAddr_lowest
      exact ⟨s.freeAddr, hle, hfree, hlow, exec_join_answered hw h ha hd⟩
    · exact fun h ha hd => ⟨exec_assign_none h ha hd, exec_assign_address h ha hd⟩
    · intro stamp resid _ _ corr h ha
      refine ⟨s.timeDone dir f stamp resid, exec_time_taken hc h ha, fun hlo hhi => ?_, fun D hD hr ho => State.timeDone_phase hD hr ho,
        fun he hh => State.East.timeDone_goes he hh, fun ha ⟨he, ho⟩ => State.timeDone_join hc ha he ho⟩
      exact timeTh_within hlo hhi (s.timeDone_th dir f stamp resid)
    · intro D T hD hr hahead hmis ho
      have hp : s.ringPart D = true := State.ringPart_of hr hahead hmis ho
      exact ⟨fun hb hk ⟨h, ha, hs⟩ hrefused => exec_commitFrame_accepted hw h ha hs hb hk hD hp hrefused,
        fun hb hk ⟨h, ha, hs⟩ hrefused => exec_commitFrame_refused h ha hs hb hk hD hp hrefused,
        fun hb hk ⟨h, ha, hd⟩ => ⟨exec_commitFrame_acked hc hsrc h ha hd hb hk, exec_commitFrame_ackIdle h ha hd hb⟩⟩
    · exact fun hn ⟨h, _, _⟩ hb => exec_commitFrame_apart h hb hn
    · exact fun ⟨h, ha, hd⟩ hp => exec_partialFrame_apart h ha hd hp
    · exact fun ⟨h, ha, hd⟩ hp => exec_partialFrame_passed h ha hd hp
    · rintro len - ⟨h, ha, hd⟩ u
      exact ⟨exec_mreq_leaves h ha hd len, fun hroute hup hrun hwrap ho => exec_mreq_answered h ha hd rfl hroute ⟨hup, hrun, hwrap⟩ ho⟩
    · rintro ⟨h, ha, hd⟩ hh q
      exact ⟨exec_mrsp_unasked h ha hd, fun r hq => exec_mrsp_answers h ha hd hh hq⟩
  · intro tag _ hh q
    refine ⟨exec_remoteAccessTimeout_none, fun r hq => ?_⟩
    obtain ⟨hexec, hremote, hanswer, hmem⟩ := exec_remoteAccessTimeout_lost hh hq
    obtain ⟨hraised, hcount⟩ := s.remoteLost_counts r
    exact ⟨_, hexec, hremote, hanswer, hraised, hcount, hmem, s.remoteLost_record r⟩

end

section
/-! SUPPORT. Updates of cells alone, and messages that arrive. -/

namespace Sys2Proof.Machine

/-! ### Only cells of some names differ -/

/-- Only cells of the names in `l` differ: memory, queues and every other part of the state are those of `s`. -/
structure State.Writes (s t : State) (l : List Fld) : Prop where
  sameBut : s.SameBut t l
  rest : { t with cells := s.cells } = s

namespace State.Writes
variable {s t u : State} {l : List Fld} {f : Fld} {d i v b : Nat}

theorem refl : s.Writes s l := ⟨.refl, rfl⟩

theorem trans (h : s.Writes t l) (k : t.Writes u l) : s.Writes u l :=
  ⟨h.sameBut.trans k.sameBut, (congrArg (fun x : State => { x with cells := s.cells }) k.rest).trans h.rest⟩

theorem mono {m : List Fld} (h : s.Writes t l) (hm : l ⊆ m) : s.Writes t m := ⟨h.sameBut.mono hm, h.rest⟩

theorem put (h : s.Writes t l) (hf : f ∈ l) : s.Writes (t.put f d i v) l := by
  refine ⟨h.sameBut.put hf, Eq.trans ?_ h.rest⟩
  unfold State.put
  split <;> rfl

theorem fault {n : FaultName} (h : s.Writes t l) (hl : raiseFlds ⊆ l) : s.Writes (t.fault n d b i) l :=
  h.trans ⟨SameBut.raises .refl hl, (t.fault_within n d b i).2⟩

theorem ite {c : Prop} [Decidable c] {a b : State} (ha : s.Writes a l) (hb : s.Writes b l) : s.Writes (if c then a else b) l := by
  split <;> assumption

theorem when {c : Prop} [Decidable c] {g : State → State} (h : s.Writes t l) (hg : ∀ u, s.Writes u l → s.Writes (g u) l) :
    s.Writes (t.when c g) l := .ite (hg t h) h

theorem each {α : Type} {g : α → State → State} {m : List α} (h : s.Writes t l) (hg : ∀ a u, s.Writes u l → s.Writes (g a u) l) :
    s.Writes (t.each m g) l := State.each_keeps (P := fun u => s.Writes u l) t h fun a _ u => hg a u

theorem get (h : s.Writes t l) (f : Fld) (hf : f ∉ l) (d i : Nat) : t.get f d i = s.get f d i := h.sameBut f d i hf

theorem sameMem (h : s.Writes t l) : s.SameMem t := SameMem.of_mem (congrArg State.mem h.rest :)
theorem starts (h : s.Writes t l) : t.starts = s.starts := (congrArg State.starts h.rest :)

end State.Writes

/-! ### Lists of changes -/

section
variable {s t : State} {l : List (Loc × Nat)} {f : Fld} {d i v : Nat}

/-- A write under a condition of a cell not yet listed. -/
theorem State.Changes.put_if {c : Prop} [Decidable c] (h : s.Changes t l) (hv : v < 2 ^ f.width) (hl : Cells.find ⟨f, d, i⟩ l = none) :
    s.Changes (t.when c fun u => u.put f d i v) ((⟨f, d, i⟩, if c then v else s.get f d i) :: l) := by
  by_cases hc : c
  · rw [State.when_true _ hc, if_pos hc]
    exact h.put f d i v hv
  · rw [State.when_false _ hc, if_neg hc]
    refine ⟨fun k => ?_, h.2⟩
    rw [h.1, Cells.find]
    split
    · next he => subst he; simp [hl]
    · rfl

/-- Each die's cell of one name, updated on some dies. -/
theorem State.get_each_die {φ : Nat → Nat} {m : List Nat} (hm : m.Nodup) (s : State) (d : Nat) :
    (s.each m fun e t => t.put f e i (φ (t.get f e i))).get f d i = if d ∈ m then φ (s.get f d i) % 2 ^ f.width else s.get f d i := by
  induction m generalizing s with
  | nil => rfl
  | cons a m ih =>
    obtain ⟨ha, hm⟩ := List.nodup_cons.1 hm
    refine (ih hm (s.put f a i (φ (s.get f a i)))).trans ?_
    by_cases hd : d = a
    · subst hd
      rw [if_neg ha, State.get_put_same, if_pos List.mem_cons_self]
    · rw [State.get_put_ne _ fun h => hd h.2.1]
      simp only [List.mem_cons, hd, false_or]

end

/-! ### Messages that arrive (R15) -/

section
variable {s : State} {m n : Msg} {test : Msg → Bool} {g : Msg → State → State}

theorem State.first_of_nextOn (h : s.nextOn m = true) : (s.sent.find? fun q => Msg.path q == Msg.path m) = some m := by
  simp only [State.nextOn, Bool.and_eq_true, beq_iff_eq] at h
  obtain ⟨⟨⟨hfirst, -⟩, -⟩, -⟩ := h
  exact hfirst

/-- One message of a path arrives next. -/
theorem State.nextOn_unique (hm : s.nextOn m = true) (hn : s.nextOn n = true) (hp : Msg.path n = Msg.path m) : n = m := by
  have hfirst := State.first_of_nextOn hn
  rw [hp, State.first_of_nextOn hm] at hfirst
  exact (Option.some.inj hfirst).symm

/-- A message that arrives next is the one taken, where the test picks messages of its path alone. -/
theorem State.receive_next (hm : s.nextOn m = true) (ht : test m = true) (hp : ∀ n, test n = true → Msg.path n = Msg.path m) :
    s.receive test g = g m (s.arrived m) := by
  have hmem : m ∈ s.sent := List.mem_of_find?_eq_some (State.first_of_nextOn hm)
  have hsome : (s.sent.find? fun n => test n && s.nextOn n) = some m := by
    cases hf : s.sent.find? fun n => test n && s.nextOn n with
    | none => simpa [ht, hm] using List.find?_eq_none.1 hf m hmem
    | some n =>
      have hpick : (test n && s.nextOn n) = true := List.find?_some (p := fun n => test n && s.nextOn n) hf
      obtain ⟨hpick, hnext⟩ := Bool.and_eq_true_iff.1 hpick
      rw [State.nextOn_unique hm hnext (hp n hpick)]
  unfold State.receive
  rw [hsome]

/-- Nothing is taken where nothing that the test picks arrives next. -/
theorem State.receive_none (h : ∀ n, test n = true → s.nextOn n = false) : s.receive test g = s := by
  have hnone : (s.sent.find? fun n => test n && s.nextOn n) = none := List.find?_eq_none.2 fun n _ hn => by
    obtain ⟨ht, hnext⟩ := Bool.and_eq_true_iff.1 hn
    rw [h n ht] at hnext
    cases hnext
  unfold State.receive
  rw [hnone]

theorem Msg.isReport_path {d D b : Nat} {w : Bool} (h : Msg.isReport m d D b w = true) : Msg.path m = [1, d] := by
  unfold Msg.isReport at h
  split at h
  · simp only [Bool.and_eq_true, beq_iff_eq] at h
    obtain ⟨⟨⟨rfl, -⟩, -⟩, -⟩ := h
    rfl
  · cases h

end

end Sys2Proof.Machine
end

section
/-! SUPPORT. Enabling and stopping a domain's epochs, commits and snapshots (R45, R55, R56, R58, R61). -/

namespace Sys2Proof.Machine

section
variable {s t u : State} {D : Nat}

/-! ### EPOCH_CFG.EN (R45) -/

theorem exec_epochEnable (hclk : s.dieClocked 6 = true) : exec (.epochEnable D) s = .next (s.enableEpochs D) :=
  next_when (g := fun s => s.enableEpochs D) hclk

theorem exec_epochStop (hclk : s.dieClocked 6 = true) : exec (.epochStop D) s = .next (s.stopEpochs D) :=
  next_when (g := fun s => s.stopEpochs D) hclk

theorem State.enableEpochs_enabled (hen : s.get .EPOCH_CFG_EN 6 D = 1) : s.enableEpochs D = s := s.when_false (by omega) _

theorem State.enableEpochs_stopped (hen : s.get .EPOCH_CFG_EN 6 D = 0) (hrun : s.get .EPOCH_STATUS_RUN 6 D = 0) :
    s.enableEpochs D = ((s.put .EPOCH_CFG_EN 6 D 1).put .EP_OWED 6 D 0).put .EP_CURV 6 D 0 :=
  (s.when_true hen _).trans (State.when_true _ hrun _)

theorem State.enableEpochs_stopping (hen : s.get .EPOCH_CFG_EN 6 D = 0) (hrun : s.get .EPOCH_STATUS_RUN 6 D = 1) :
    s.enableEpochs D = s.put .EPOCH_CFG_EN 6 D 1 :=
  (s.when_true hen _).trans (State.when_false _ (by omega) _)

theorem State.stopEpochs_disabled (hen : s.get .EPOCH_CFG_EN 6 D = 0) : s.stopEpochs D = s := s.when_false (by omega) _

theorem State.stopEpochs_undrained (hen : s.get .EPOCH_CFG_EN 6 D = 1) (hrun : s.get .EPOCH_STATUS_RUN 6 D = 1)
    (hd : s.get .EPOCH_STATUS_DRAINED 6 D = 0) : s.stopEpochs D = s.put .EPOCH_CFG_EN 6 D 0 :=
  (s.when_true hen _).trans (State.when_false _ (by omega) _)

theorem State.stopEpochs_drained (hen : s.get .EPOCH_CFG_EN 6 D = 1)
    (hd : s.get .EPOCH_STATUS_RUN 6 D = 0 ∨ s.get .EPOCH_STATUS_DRAINED 6 D = 1) :
    s.stopEpochs D = (s.put .EPOCH_CFG_EN 6 D 0).haltEpochs D :=
  (s.when_true hen _).trans (State.when_true _ hd _)

/-! ### RUN (R45, R63) -/

/-- Cells in which RUN, its copies and the epochs assigned stand. -/
def runFlds : List Fld := [.EPOCH_STATUS_RUN, .TB_STATUS_RUN, .EP_ASGN, .EP_OWED]

theorem State.setRun_writes (s : State) (D v : Nat) : s.Writes (s.setRun D v) runFlds :=
  .each (.put .refl (by decide)) fun _ _ k => k.put (by decide)

theorem State.setRun_run (s : State) (D v : Nat) : (s.setRun D v).get .EPOCH_STATUS_RUN 6 D = v % 2 := by
  have hcopies : (s.put .EPOCH_STATUS_RUN 6 D v).Writes (s.setRun D v) [.TB_STATUS_RUN] := .each .refl fun _ _ k => k.put (by decide)
  rw [hcopies.get .EPOCH_STATUS_RUN (by decide), State.get_put_same]
  rfl

theorem bitAt_setBits_zero (v : Nat) (hD : D < 3) : bitAt (setBits v D 1 0 % 2 ^ 3) D = 0 := by
  unfold bitAt setBits bitsAt
  obtain rfl | rfl | rfl : D = 0 ∨ D = 1 ∨ D = 2 := by omega
  all_goals omega

theorem State.setRun_copy (s : State) (hD : D < 3) {d : Nat} (hd : d < 8) :
    bitAt ((s.setRun D 0).get .TB_STATUS_RUN d 0) D = 0 := by
  have hmem : d ∈ allDies := by
    have : ∀ d < 8, d ∈ allDies := by decide
    exact this d hd
  unfold State.setRun
  rw [State.get_each_die (φ := fun v => setBits v D 1 0) (by decide), if_pos hmem]
  exact bitAt_setBits_zero _ hD

theorem State.haltEpochs_after (s : State) (D : Nat) : (s.setRun D 0).Writes (s.haltEpochs D) [.EP_ASGN, .EP_OWED] :=
  .put (.each .refl fun _ _ k => k.when fun _ l => l.put (by decide)) (by decide)

theorem State.haltEpochs_writes (s : State) (D : Nat) : s.Writes (s.haltEpochs D) runFlds :=
  (s.setRun_writes D 0).trans ((s.haltEpochs_after D).mono (by decide))

theorem State.haltEpochs_run (s : State) (D : Nat) : (s.haltEpochs D).get .EPOCH_STATUS_RUN 6 D = 0 :=
  ((s.haltEpochs_after D).get .EPOCH_STATUS_RUN (by decide) ..).trans (s.setRun_run D 0)

theorem State.haltEpochs_copy (s : State) (hD : D < 3) {d : Nat} (hd : d < 8) :
    bitAt ((s.haltEpochs D).get .TB_STATUS_RUN d 0) D = 0 := by
  rw [(s.haltEpochs_after D).get .TB_STATUS_RUN (by decide), s.setRun_copy hD hd]

theorem State.haltEpochs_owed (s : State) (D : Nat) : (s.haltEpochs D).get .EP_OWED 6 D = 0 := State.get_put_same ..

/-! ### The last drain report of an epoch (R47) -/

/-- The drain of an epoch is noted: its time and its transmit slot. -/
def State.drainNoted (s : State) (D : Nat) : State :=
  let x := min (s.capture 6 - s.get .EP_T0 6 D) 0xFFFFFFFF
  let b := s.get .EPOCH_CUR 6 D
  (((s.put .EPOCH_STATUS_DRAINED 6 D 1).put .EPOCH_DRAIN_LAST 6 D x).raiseTo .EPOCH_DRAIN_MAX 6 D x).put .EP_RDY 6 (s.slotOf D b) (b + 1)

/-- Cells that the note of a drain writes. -/
def drainFlds : List Fld := [.EPOCH_STATUS_DRAINED, .EPOCH_DRAIN_LAST, .EPOCH_DRAIN_MAX, .EP_RDY]

theorem State.drainNoted_writes (s : State) (D : Nat) : s.Writes (s.drainNoted D) drainFlds :=
  (((State.Writes.refl.put (by decide)).put (by decide)).put (by decide)).put (by decide)

theorem State.drainNoted_drained (s : State) (D : Nat) : (s.drainNoted D).get .EPOCH_STATUS_DRAINED 6 D = 1 := by
  simp [State.drainNoted, State.raiseTo, State.get_put]

/-- The snapshot that is due at a drain noted. -/
def State.drainSnapped (s : State) (D : Nat) : State := s.when (s.snapDue D = true) fun t => t.takeSnapshot D

theorem State.drainEpoch_eq (s : State) (D : Nat) : s.drainEpoch D = ((s.drainNoted D).drainSnapped D).when
    (((s.drainNoted D).drainSnapped D).get .EPOCH_CFG_EN 6 D = 0) fun t => t.haltEpochs D := rfl

theorem State.drainEpoch_running (hen : ((s.drainNoted D).drainSnapped D).get .EPOCH_CFG_EN 6 D = 1) :
    s.drainEpoch D = (s.drainNoted D).drainSnapped D := by
  rw [State.drainEpoch_eq, State.when_false _ (by omega)]

theorem State.drainEpoch_stopping (hen : ((s.drainNoted D).drainSnapped D).get .EPOCH_CFG_EN 6 D = 0) :
    s.drainEpoch D = ((s.drainNoted D).drainSnapped D).haltEpochs D := by
  rw [State.drainEpoch_eq, State.when_true _ hen]

theorem State.snapDue_idle (h : s.get .EPOCH_CSTAT_SNAP_PEND 6 D = 0) : ¬ s.snapDue D = true := by
  simp [State.snapDue, State.on, h]

/-- The eight dies have reported: the epoch is drained, and what waits for its drain follows. -/
def State.allDrained (s : State) (D : Nat) : State :=
  ((s.drainEpoch D).pairDrained D).when (s.snapDue D = true) fun t => t.meterReady D

/-- The state in which the report of the last die has been taken. -/
def State.lastReport (s : State) (D : Nat) (m : Msg) : State := (s.arrived m).put .EPOCH_STATUS_DIE_DRAINED 6 D 255

theorem exec_drainReportReceipt_last {d q : Nat} (hv : s.get .EP_CURV 6 D = 1) (hd : s.get .EPOCH_STATUS_DRAINED 6 D = 0)
    (hn : s.nextOn (.drainReport d D (s.get .EPOCH_CUR 6 D) false q) = true)
    (hall : setBits (s.get .EPOCH_STATUS_DIE_DRAINED 6 D) d 1 1 = 255) :
    exec (.drainReportReceipt d D (s.get .EPOCH_CUR 6 D) false) s =
      .next ((s.lastReport D (.drainReport d D (s.get .EPOCH_CUR 6 D) false q)).allDrained D) := by
  refine congrArg Host.Outcome.next ((State.receive_next hn ?_ fun n => Msg.isReport_path).trans ?_)
  · simp [Msg.isReport]
  · refine (State.when_true _ ⟨hv, rfl, hd⟩ _).trans ?_
    have hall' : setBits ((s.arrived (.drainReport d D (s.get .EPOCH_CUR 6 D) false q)).get .EPOCH_STATUS_DIE_DRAINED 6 D) d 1
        (flag (!false)) = 255 := hall
    dsimp only
    rw [hall', State.when_true _ rfl]
    rfl

/-- The drain that ends a stopped domain's last epoch, where no snapshot waits and the unit has no partner. -/
theorem State.allDrained_stopping (hen : s.get .EPOCH_CFG_EN 6 D = 0) (hsnap : s.get .EPOCH_CSTAT_SNAP_PEND 6 D = 0)
    (hrole : s.get .PAIR_STATUS_ROLE 6 0 = 0) : s.allDrained D = (s.drainNoted D).haltEpochs D := by
  have hnote := s.drainNoted_writes D
  have hsnapped : (s.drainNoted D).drainSnapped D = s.drainNoted D :=
    State.when_false _ (State.snapDue_idle ((hnote.get .EPOCH_CSTAT_SNAP_PEND (by decide) ..).trans hsnap)) _
  have hdrain : s.drainEpoch D = (s.drainNoted D).haltEpochs D := by
    rw [State.drainEpoch_stopping, hsnapped]
    rw [hsnapped, hnote.get .EPOCH_CFG_EN (by decide), hen]
  have hpair : (s.drainEpoch D).pairDrained D = s.drainEpoch D := State.when_false _ (fun h => by
    have : (s.drainEpoch D).get .PAIR_STATUS_ROLE 6 0 = 0 := by
      rw [hdrain, ((s.drainNoted D).haltEpochs_writes D).get .PAIR_STATUS_ROLE (by decide),
        hnote.get .PAIR_STATUS_ROLE (by decide), hrole]
    simp [State.roleIs, this] at h) _
  rw [State.allDrained, State.when_false _ (State.snapDue_idle hsnap), hpair, hdrain]

/-! ### COMMIT_ARM and SNAP_ARM (R55, R61) -/

theorem State.badAlign_iff {T : Nat} : s.badAlign D T = true ↔ T % s.bsize D ≠ 0 := by simp [State.badAlign]

theorem State.tooLate_iff {T : Nat} : s.tooLate D T = true ↔ T < (s.get .TB_DOMCNT 6 D / s.bsize D + 2) * s.bsize D :=
  decide_eq_true_iff

theorem State.commitRefused_iff {T : Nat} : s.commitRefused D T = true ↔ T % s.bsize D ≠ 0 ∨
    T < (s.get .TB_DOMCNT 6 D / s.bsize D + 2) * s.bsize D ∨ s.get .EPOCH_CSTAT_COMMIT_PEND 6 D = 1 := by
  rw [State.commitRefused, Bool.or_eq_true, Bool.or_eq_true, State.badAlign_iff, State.tooLate_iff, State.on_eq_true, or_assoc]

/-- A refused commit sets the bit of each case that holds. -/
theorem State.refuseCommit_changes (s : State) (D T : Nat) : s.Changes (s.refuseCommit D T) [
    (⟨.EPOCH_CSTAT_BADALIGN, 6, D⟩, if T % s.bsize D ≠ 0 then 1 else s.get .EPOCH_CSTAT_BADALIGN 6 D),
    (⟨.EPOCH_CSTAT_TOOLATE, 6, D⟩,
      if T < (s.get .TB_DOMCNT 6 D / s.bsize D + 2) * s.bsize D then 1 else s.get .EPOCH_CSTAT_TOOLATE 6 D),
    (⟨.EPOCH_CSTAT_REFUSED, 6, D⟩, if s.get .EPOCH_CSTAT_COMMIT_PEND 6 D = 1 then 1 else s.get .EPOCH_CSTAT_REFUSED 6 D)] := by
  have hbad := (State.Changes.refl s).put_if (c := s.badAlign D T = true) (f := .EPOCH_CSTAT_BADALIGN) (d := 6) (i := D) (v := 1)
    (by decide) rfl
  have hlate := hbad.put_if (c := s.tooLate D T = true) (f := .EPOCH_CSTAT_TOOLATE) (d := 6) (i := D) (v := 1) (by decide)
    (by simp [Cells.find])
  have hpend : s.Changes (s.refuseCommit D T) _ := hlate.put_if (by decide) (by simp [Cells.find])
  refine hpend.congr fun c => ?_
  simp only [State.badAlign_iff, State.tooLate_iff, Cells.find]
  grind

theorem State.commitFrame_emits (s : State) (D cancel snap T : Nat) : s.Emits (s.commitFrame D cancel snap T) :=
  .when (s.birayOwn_emits ..)

/-- Cells that a commit, accepted or withdrawn, writes for the slot masks (R245). -/
def maskFlds : List Fld := [.SAP_STATUS_MASKPEND, .SAP_SLOTMASK, .SAP_DIRTY]

theorem State.latchMasks_sameBut (s : State) (D T : Nat) : s.SameBut (s.latchMasks D T) maskFlds :=
  SameBut.refl.each fun _ _ k => .ite ((k.put (by decide)).put (by decide)) (.put (SameBut.update (k.put (by decide))) (by decide))

theorem State.latchMasks_mem (s : State) (D T : Nat) : (s.latchMasks D T).mem = s.mem := (State.Quiet.refl.latchMasks).mem

theorem State.unlatchMasks_sameBut (s : State) (D T : Nat) : s.SameBut (s.unlatchMasks D T) [.SAP_STATUS_MASKPEND] :=
  SameBut.refl.each fun _ _ k => .put (SameBut.update k) (by decide)

theorem State.unlatchMasks_mem (s : State) (D T : Nat) : (s.unlatchMasks D T).mem = s.mem :=
  State.each_keeps (P := fun t => t.mem = s.mem) s rfl fun _ _ _ k => (State.put_mem ..).trans k

theorem exec_commitArm_refused (hclk : s.dieClocked 6 = true) (hr : s.commitRefused D (s.get .EPOCH_COMMIT_AT 6 D) = true) :
    exec (.commitArm D) s = .next (s.refuseCommit D (s.get .EPOCH_COMMIT_AT 6 D)) :=
  (next_when hclk).trans (congrArg Host.Outcome.next (if_pos hr))

theorem exec_commitArm_accepted (hclk : s.dieClocked 6 = true) (hr : ¬ s.commitRefused D (s.get .EPOCH_COMMIT_AT 6 D) = true)
    (hT : s.get .EPOCH_COMMIT_AT 6 D < 2 ^ 64) : Completes (.commitArm D) s fun t => t.get .EPOCH_CSTAT_COMMIT_PEND 6 D = 1 ∧
      t.get .COMMIT_T 6 D = s.get .EPOCH_COMMIT_AT 6 D ∧ s.SameMem t ∧
      s.SameBut t ([.EPOCH_CSTAT_COMMIT_PEND, .COMMIT_T, .COMMIT_ACKS, .COMMIT_OWN] ++ maskFlds) := by
  let T := s.get .EPOCH_COMMIT_AT 6 D
  let p := s.commitPend D T 1
  have hp : s.Writes p [.EPOCH_CSTAT_COMMIT_PEND, .COMMIT_T, .COMMIT_ACKS, .COMMIT_OWN] :=
    (((State.Writes.refl.put (by decide)).put (by decide)).put (by decide)).put (by decide)
  have hl := p.latchMasks_sameBut D T
  have hs := (p.latchMasks D T).commitFrame_emits D 0 0 T
  refine ⟨_, (next_when hclk).trans (congrArg Host.Outcome.next (if_neg hr)), ?_, ?_, ?_, ?_⟩
  · rw [hs.get, hl _ _ _ (by decide)]
    simp [p, State.commitPend, State.get_put]
  · rw [hs.get, hl _ _ _ (by decide)]
    simp [p, State.commitPend, State.get_put, T]
    omega
  · exact SameMem.of_mem (hs.mem.trans ((p.latchMasks_mem D T).trans (congrArg State.mem hp.rest :)))
  · intro f d i hf
    obtain ⟨hf, hm⟩ := not_or.1 (mt List.mem_append.2 hf)
    rw [hs.get, hl f d i hm, hp.get f hf]

theorem State.snapPend_writes (s : State) (D T : Nat) : s.Writes (s.snapPend D T) [.EPOCH_CSTAT_SNAP_PEND, .SNAP_T] :=
  (State.Writes.refl.put (by decide)).put (by decide)

theorem exec_snapArm_accepted (hclk : s.dieClocked 6 = true) (hr : s.snapRefused D (s.get .EPOCH_SNAP_AT 6 D) = false)
    (hT : s.get .EPOCH_SNAP_AT 6 D < 2 ^ 64) : Completes (.snapArm D) s fun t => t.get .EPOCH_CSTAT_SNAP_PEND 6 D = 1 ∧
      t.get .SNAP_T 6 D = s.get .EPOCH_SNAP_AT 6 D ∧ s.SameBut t [.EPOCH_CSTAT_SNAP_PEND, .SNAP_T] := by
  let T := s.get .EPOCH_SNAP_AT 6 D
  have hs := (s.snapPend D T).commitFrame_emits D 0 1 T
  refine ⟨_, (next_when hclk).trans (congrArg Host.Outcome.next (if_neg (by rw [hr]; decide))), ?_, ?_, fun f d i hf => ?_⟩
  · rw [hs.get]
    simp [State.snapPend, State.get_put]
  · rw [hs.get]
    simp [State.snapPend, T]
    omega
  · rw [hs.get, (s.snapPend_writes D T).get f hf]

/-! ### COMMIT_CANCEL and SNAP_CANCEL (R56, R64) -/

theorem State.cancelInTime_iff {T : Nat} : s.cancelInTime D T = true ↔ s.get .TB_DOMCNT 6 D + s.bsize D < T := decide_eq_true_iff

theorem exec_commitCancel_inTime (hclk : s.dieClocked 6 = true) (hp : s.get .EPOCH_CSTAT_COMMIT_PEND 6 D = 1)
    (ht : s.get .TB_DOMCNT 6 D + s.bsize D < s.get .COMMIT_T 6 D) : Completes (.commitCancel D) s fun t =>
      t.get .EPOCH_CSTAT_COMMIT_PEND 6 D = 0 ∧ s.SameMem t ∧ s.SameBut t [.EPOCH_CSTAT_COMMIT_PEND, .SAP_STATUS_MASKPEND] := by
  let T := s.get .COMMIT_T 6 D
  let p := s.put .EPOCH_CSTAT_COMMIT_PEND 6 D 0
  have hu := p.unlatchMasks_sameBut D T
  have hs := (p.unlatchMasks D T).commitFrame_emits D 1 0 T
  refine ⟨_, (next_when ⟨hclk, hp⟩).trans (congrArg Host.Outcome.next (if_pos (State.cancelInTime_iff.2 ht))), ?_, ?_, ?_⟩
  · rw [hs.get, hu _ _ _ (by decide)]
    exact State.get_put_same ..
  · exact SameMem.of_mem (hs.mem.trans ((p.unlatchMasks_mem D T).trans (State.put_mem ..)))
  · intro f d i hf
    rw [hs.get]
    exact ((State.SameBut.refl.put (by decide)).trans (hu.mono (by decide))) f d i hf

theorem exec_commitCancel_late (hclk : s.dieClocked 6 = true) (hp : s.get .EPOCH_CSTAT_COMMIT_PEND 6 D = 1)
    (ht : ¬ s.get .TB_DOMCNT 6 D + s.bsize D < s.get .COMMIT_T 6 D) :
    Does (.commitCancel D) s [(⟨.EPOCH_CSTAT_REFUSED, 6, D⟩, 1)] :=
  ⟨_, (next_when ⟨hclk, hp⟩).trans (congrArg Host.Outcome.next (if_neg (mt State.cancelInTime_iff.1 ht))),
    (State.Changes.refl s).put _ _ _ _ (by decide)⟩

theorem exec_snapCancel_inTime (hclk : s.dieClocked 6 = true) (hp : s.get .EPOCH_CSTAT_SNAP_PEND 6 D = 1)
    (ht : s.get .TB_DOMCNT 6 D + s.bsize D < s.get .SNAP_T 6 D) : Completes (.snapCancel D) s fun t =>
      t.get .EPOCH_CSTAT_SNAP_PEND 6 D = 0 ∧ s.SameMem t ∧ s.SameBut t [.EPOCH_CSTAT_SNAP_PEND] := by
  let p := s.put .EPOCH_CSTAT_SNAP_PEND 6 D 0
  have hs := p.commitFrame_emits D 1 1 (s.get .SNAP_T 6 D)
  refine ⟨_, (next_when ⟨hclk, hp⟩).trans (congrArg Host.Outcome.next (if_pos (State.cancelInTime_iff.2 ht))), ?_, ?_,
    fun f d i hf => ?_⟩
  · rw [hs.get]
    exact State.get_put_same ..
  · exact SameMem.of_mem (hs.mem.trans (State.put_mem ..))
  · rw [hs.get]
    exact (State.SameBut.refl.put (by decide) : s.SameBut p [.EPOCH_CSTAT_SNAP_PEND]) f d i hf

theorem exec_snapCancel_late (hclk : s.dieClocked 6 = true) (hp : s.get .EPOCH_CSTAT_SNAP_PEND 6 D = 1)
    (ht : ¬ s.get .TB_DOMCNT 6 D + s.bsize D < s.get .SNAP_T 6 D) :
    Does (.snapCancel D) s [(⟨.EPOCH_CSTAT_REFUSED, 6, D⟩, 1)] :=
  ⟨_, (next_when ⟨hclk, hp⟩).trans (congrArg Host.Outcome.next (if_neg (mt State.cancelInTime_iff.1 ht))),
    (State.Changes.refl s).put _ _ _ _ (by decide)⟩

/-! ### COMMIT_ACK_DEADLINE (R58) -/

theorem exec_commitAckDeadline_split (hp : s.get .EPOCH_CSTAT_COMMIT_PEND 6 D = 1) (ho : s.get .COMMIT_OWN 6 D = 1)
    (hr : s.ringPart D = true) (ha : s.commitAcked D = false) (ht : s.get .COMMIT_T 6 D ≤ s.get .TB_DOMCNT 6 D + s.bsize D) :
    exec (.commitAckDeadline D) s = .next ((s.put .EPOCH_CSTAT_SPLIT 6 D 1).fault .EPOCH_SPLIT 6 0 D) :=
  next_when ⟨hp, ho, hr, ha, ht⟩

theorem exec_commitAckDeadline_early (ht : s.get .TB_DOMCNT 6 D + s.bsize D < s.get .COMMIT_T 6 D) :
    exec (.commitAckDeadline D) s = .next s :=
  next_when_not fun ⟨_, _, _, _, h⟩ => Nat.not_lt.2 h ht

end

end Sys2Proof.Machine
end

section
/-! PROOF. -/

open Sys2Proof Sys2Proof.Machine

/-- Settles O7: each case of the write is one branch of `enableEpochs` or `stopEpochs`, and the last drain report halts the domain. -/
theorem epochEnableAndStop : Obligations.EpochEnableAndStop := by
  unfold Obligations.EpochEnableAndStop
  intro s D hD hclk
  have hstart := exec_epochEnable (D := D) hclk
  have hstop := exec_epochStop (D := D) hclk
  refine ⟨fun hen hrun => ⟨_, hstart, ?_⟩, fun hen hrun => ⟨_, hstart, ?_⟩, fun hen => ⟨_, hstart, ?_⟩,
    fun hen => ⟨_, hstop, ?_⟩, fun hen hrun hd => ⟨_, hstop, ?_⟩, fun hen hd => ⟨_, hstop, ?_⟩, fun d q _ hen hv hd hrole hsnap hn hall => ?_⟩
  · rw [State.enableEpochs_stopped hen hrun]
    exact (((State.Changes.refl s).put _ _ _ _ (by decide)).put _ _ _ _ (by decide)).put _ _ _ _ (by decide)
  · rw [State.enableEpochs_stopping hen hrun]
    exact (State.Changes.refl s).put _ _ _ _ (by decide)
  · rw [State.enableEpochs_enabled hen]
    exact State.Changes.refl s
  · rw [State.stopEpochs_disabled hen]
    exact State.Changes.refl s
  · rw [State.stopEpochs_undrained hen hrun hd]
    exact (State.Changes.refl s).put _ _ _ _ (by decide)
  · rw [State.stopEpochs_drained hen hd]
    let u := s.put .EPOCH_CFG_EN 6 D 0
    have hhalt : u.Writes (u.haltEpochs D) runFlds := u.haltEpochs_writes D
    have hall : s.Writes (u.haltEpochs D) (.EPOCH_CFG_EN :: runFlds) :=
      (State.Writes.refl.put (by decide)).trans (hhalt.mono (List.subset_cons_self ..))
    exact ⟨(hhalt.get .EPOCH_CFG_EN (by decide) ..).trans (State.get_put_same ..), u.haltEpochs_run D, hall.sameMem, hall.sameBut⟩
  · let x := s.lastReport D (.drainReport d D (s.get .EPOCH_CUR 6 D) false q)
    have hget (f : Fld) (hf : f ≠ .EPOCH_STATUS_DIE_DRAINED) (e i : Nat) : x.get f e i = s.get f e i :=
      State.get_put_fld (s.arrived _) hf ..
    have hend : x.allDrained D = (x.drainNoted D).haltEpochs D :=
      State.allDrained_stopping ((hget _ (by decide) ..).trans hen) ((hget _ (by decide) ..).trans hsnap)
        ((hget _ (by decide) ..).trans hrole)
    have hhalt := (x.drainNoted D).haltEpochs_writes D
    refine ⟨_, exec_drainReportReceipt_last hv hd hn hall, ?_⟩
    rw [show State.allDrained _ D = _ from hend]
    refine ⟨?_, State.haltEpochs_run .., fun e he => State.haltEpochs_copy _ hD he, State.haltEpochs_owed .., fun e a => ?_⟩
    · rw [hhalt.get .EPOCH_STATUS_DRAINED (by decide), State.drainNoted_drained]
    · rw [hhalt.sameMem e a, (x.drainNoted_writes D).sameMem e a]
      exact State.put_byte ..

/-- Settles O8: the refusal sets a bit for each case of R55 (`State.refuseCommit_changes`), and otherwise the commit is pending. -/
theorem commitArmChecks : Obligations.CommitArmChecks := by
  unfold Obligations.CommitArmChecks
  intro s D _ hclk T B bad late pend
  exact ⟨fun h => ⟨_, exec_commitArm_refused hclk (State.commitRefused_iff.2 h), s.refuseCommit_changes D T⟩,
    fun h hT => exec_commitArm_accepted hclk (mt State.commitRefused_iff.1 h) hT⟩

/-- Settles O9: both cancels ask `State.cancelInTime`, which is DOMCNT D < T − B. -/
theorem commitCancelInTime : Obligations.CommitCancelInTime := by
  unfold Obligations.CommitCancelInTime
  intro s D _ hclk c
  exact ⟨exec_commitCancel_inTime hclk, exec_commitCancel_late hclk, exec_snapCancel_inTime hclk, exec_snapCancel_late hclk⟩

end

section
/-! SUPPORT. The edges of a media clock (R39, R50, R261, R349, R367). -/

namespace Sys2Proof.Machine

/-! ### Entries of the cell list -/

theorem Cells.find_of_mem {k : Loc} {x : Nat} {l : List (Loc × Nat)} (w : Cells.wf l = true) (h : (k, x) ∈ l) :
    Cells.find k l = some x := by
  rw [Cells.wf_iff] at w
  obtain ⟨w, -⟩ := w
  induction l with
  | nil => cases h
  | cons c l ih =>
    obtain ⟨hlt, w⟩ := List.pairwise_cons.1 w
    rw [Cells.find]
    rcases List.mem_cons.1 h with rfl | h
    · exact if_pos rfl
    · rw [if_neg, ih h w]
      intro he
      have hk : c.1.before k = true := hlt (k, x) h
      rw [he, Loc.before_iff] at hk
      omega

section
variable {s t u : State} {D n d i v : Nat} {f : Fld} {meas : List BridgeRatio}

theorem State.get_of_mem {c : Loc × Nat} (hc : s.canonical = true) (h : c ∈ s.cells) : s.get c.1.fld c.1.die c.1.inst = c.2 := by
  unfold State.get
  rw [Cells.find_of_mem ((State.canonical_iff s).1 hc).1 h]
  rfl

theorem State.mem_cells_put {c : Loc × Nat} (h : c ∈ (s.put f d i v).cells) : c ∈ s.cells ∨ c.1.fld = f := by
  unfold State.put at h
  split at h
  · exact .inl ((Cells.erase_sublist ..).subset h)
  · rcases Cells.mem_insert _ _ _ _ h with rfl | h
    · exact .inr rfl
    · exact .inl h

/-! ### Where nothing takes samples -/

theorem State.liveBridges_eq_nil : s.liveBridges = [] ↔ ∀ c ∈ s.cells, c.1.fld ≠ .BR_STATUS_STATE := by
  simp [State.liveBridges, List.filter_eq_nil_iff]

theorem State.Still.put (h : s.Still) (hf : [Fld.BR_STATUS_STATE, .SRX_STAT_RUN, .PAIR_TDV].contains f = false) :
    (s.put f d i v).Still := by
  obtain ⟨hc, hports, hbr, hstx, hsrx, hstarts, htd⟩ := h
  have hne : ∀ g ∈ [Fld.BR_STATUS_STATE, .SRX_STAT_RUN, .PAIR_TDV], g ≠ f := by
    rintro g hg rfl
    simp [hg] at hf
  refine ⟨State.put_canonical _ _ _ _ hc, (State.put_ports ..).trans hports, State.liveBridges_eq_nil.2 fun c hm => ?_,
    (State.put_stx ..).trans hstx, fun e j => ?_, (State.put_starts ..).trans hstarts, ?_⟩
  · rcases State.mem_cells_put hm with hm | hm
    · exact State.liveBridges_eq_nil.1 hbr c hm
    · exact hm ▸ (hne _ (by decide)).symm
  · rw [State.get_put_fld _ (hne _ (by decide))]
    exact hsrx e j
  · rw [State.get_put_fld _ (hne _ (by decide)), htd]

theorem State.Still.sapSample (h : s.Still) : s.sapSample D n = s := by
  obtain ⟨-, hports, -⟩ := h
  have hdom : s.domPorts D = [] := by simp [State.domPorts, hports]
  have hgroups : s.groupsAtSample D = s := by
    unfold State.groupsAtSample
    rw [hdom]
    rfl
  unfold State.sapSample
  simp only [hgroups, hdom]
  rfl

theorem State.Still.brSample (h : s.Still) : s.brSample D n meas = s := by
  obtain ⟨-, -, hbr, -⟩ := h
  unfold State.brSample
  rw [hbr]
  rfl

theorem State.Still.streamSample (h : s.Still) : s.streamSample D n = s := by
  obtain ⟨hc, -, -, hstx, hsrx, -⟩ := h
  have htx {g : StxRun → State → State} {p : StxRun → Bool} : s.each (s.stx.filter p) g = s := by rw [hstx]; rfl
  have hrx : (s.cells.filter fun c => c.1.fld == .SRX_STAT_RUN && c.2 == 1 && s.on .PKT_CFG_EN c.1.die 0 &&
      s.dieClocked c.1.die && s.get .SRX_CFG_DOMAIN c.1.die c.1.inst == D) = [] := by
    refine List.filter_eq_nil_iff.2 fun c hm hon => ?_
    simp only [Bool.and_eq_true, beq_iff_eq] at hon
    obtain ⟨⟨⟨⟨hfld, hval⟩, -⟩, -⟩, -⟩ := hon
    exact hsrx c.1.die c.1.inst (by rw [← hfld, State.get_of_mem hc hm, hval])
  unfold State.streamSample
  simp only [htx, hrx]
  rfl

/-- Nothing takes a sample. -/
theorem State.Still.domSample (h : s.Still) : s.domSample D n meas = s := by
  unfold State.domSample
  rw [h.sapSample, h.brSample, h.streamSample]

theorem State.resyncMoment_off (h : s.get .PAIR_TDV 6 0 = 0) : s.resyncMoment n = s :=
  if_pos (.inl (State.on_eq_false.2 (by omega)))

theorem State.startsGo_nil (h : s.starts = []) : s.startsGo = s := by
  have hnone : (s.each s.starts fun q u => u.startGo q) = s := by rw [h]; rfl
  exact (congrArg (fun t => if s.tailRuns = true then t else s) hnone).trans (ite_self _)

/-! ### What an edge writes -/

/-- The count and the time of an edge. -/
def State.edged (s : State) (D n : Nat) : State :=
  ((s.put .TB_DOMCNT 6 D n).put .TB_DOMCNT 7 D n).put .DOM_EDGET 6 D (s.capture 6)

theorem State.edged_changes (hn : n < 2 ^ 64) (ht : s.capture 6 < 2 ^ 64) : s.Changes (s.edged D n)
    [(⟨.DOM_EDGET, 6, D⟩, s.capture 6), (⟨.TB_DOMCNT, 7, D⟩, n), (⟨.TB_DOMCNT, 6, D⟩, n)] :=
  (((State.Changes.refl s).put _ _ _ _ hn).put _ _ _ _ hn).put _ _ _ _ ht

theorem State.edged_writes (s : State) (D n : Nat) : s.Writes (s.edged D n) [.TB_DOMCNT, .DOM_EDGET] :=
  ((State.Writes.refl.put (by decide)).put (by decide)).put (by decide)

theorem State.edged_domcnt (hn : n < 2 ^ 64) (hd : d = 6 ∨ d = 7) : (s.edged D n).get .TB_DOMCNT d D = n := by
  rcases hd with rfl | rfl
  all_goals simp [State.edged, State.get_put]; omega

theorem State.Still.edged (h : s.Still) : (s.edged D n).Still := ((h.put (by decide)).put (by decide)).put (by decide)

/-- What a boundary adds to an edge: the slot that starts is decided, the digest of the slot before closes, the PHC is captured. -/
def State.slotEnds (s : State) (D n : Nat) : State := ((s.judgeSlot D n).digestClose D n).mapCapture D n

theorem State.mediaEdge_eq (s : State) (D n : Nat) (meas : List BridgeRatio) : s.mediaEdge D n meas =
    ((((s.edged D n).domSample D (n - 1) meas).when (n % s.bsize D = 0) fun t => t.slotEnds D n).when (D = 0) fun t =>
      t.resyncMoment n).startsGo := rfl

/-- Cells of the digests, with those of the fault they raise (R373). -/
def digestFlds : List Fld := raiseFlds ++ [.PAIR_DIG, .PAIR_DIGB, .PAIR_DIG_BND, .PAIR_DIG_OWN, .PAIR_DIG_PART, .PAIR_EQ,
  .PAIR_STATUS_SYNC, .PAIR_MISMATCH, .DIG_RING, .DIG_RINGB, .DIG_ACC, .DIG_CMP]

/-- Cells of the mapping (R349). -/
def mapFlds : List Fld := [.MAP_DOMCNT, .MAP_SEC, .MAP_NS, .MAP_FRAC, .MAP_STAT, .MAP_STEPD, .MAP_SEQ]

/-- Cells that a boundary's edge writes beside those of every edge. -/
def slotFlds : List Fld := .TX_MISS :: digestFlds ++ mapFlds

theorem State.judgeSlot_writes (s : State) (D n : Nat) : s.Writes (s.judgeSlot D n) [.TX_MISS] :=
  .when .refl fun _ k => k.put (by decide)

theorem State.Writes.digestEqual {b : Nat} (h : s.Writes t digestFlds) : s.Writes (t.digestEqual D b) digestFlds :=
  .when (h.when fun _ k => k.put (by decide)) fun _ k => k.put (by decide)

theorem State.Writes.digestDiffers (h : s.Writes t digestFlds) : s.Writes (t.digestDiffers D) digestFlds :=
  ((h.put (by decide)).put (by decide)).when fun _ k => (k.put (by decide)).fault (by decide)

theorem State.Writes.digestCompare {k : Nat} (h : s.Writes t digestFlds) : s.Writes (t.digestCompare D k) digestFlds := by
  have hnote {x own part : Nat} : s.Writes ((((t.put .DIG_CMP 6 x (k + 1)).put .PAIR_DIG_BND 6 D k).put .PAIR_DIG_OWN 6 D own).put
      .PAIR_DIG_PART 6 D part) digestFlds := (((h.put (by decide)).put (by decide)).put (by decide)).put (by decide)
  exact .ite h (.ite hnote.digestEqual hnote.digestDiffers)

theorem State.digestClose_writes (s : State) (D k : Nat) : s.Writes (s.digestClose D k) digestFlds :=
  .digestCompare (((((State.Writes.refl.put (by decide)).put (by decide)).put (by decide)).put (by decide)).put (by decide))

theorem State.mapCapture_writes (s : State) (D n : Nat) : s.Writes (s.mapCapture D n) mapFlds :=
  .when .refl fun _ k => ((((((k.put (by decide)).put (by decide)).put (by decide)).put (by decide)).put (by decide)).put
    (by decide)).put (by decide)

theorem State.slotEnds_writes (s : State) (D n : Nat) : s.Writes (s.slotEnds D n) slotFlds :=
  (((s.judgeSlot_writes D n).mono (by decide)).trans (((s.judgeSlot D n).digestClose_writes D n).mono (by decide))).trans
    (((s.judgeSlot D n).digestClose D n).mapCapture_writes D n |>.mono (by decide))

/-- The slot that starts is missed where its epoch was assigned and not drained (R50). -/
theorem State.judgeSlot_miss (s : State) (D : Nat) (hn : n < 2 ^ 64) : (s.judgeSlot D n).get .TX_MISS 6 D =
    if 2 * s.bsize D ≤ n ∧ s.get .EP_ASGN 6 (s.slotOf D (n - 2 * s.bsize D)) = n - 2 * s.bsize D + 1 ∧
        s.get .EP_RDY 6 (s.slotOf D (n - 2 * s.bsize D)) ≠ n - 2 * s.bsize D + 1 then n - 2 * s.bsize D + 1
      else s.get .TX_MISS 6 D := by
  unfold State.judgeSlot State.when
  dsimp only
  split
  · rw [State.get_put_same, width_TX_MISS]
    omega
  · rfl

theorem State.slotEnds_miss (s : State) (D n : Nat) : (s.slotEnds D n).get .TX_MISS 6 D = (s.judgeSlot D n).get .TX_MISS 6 D :=
  ((State.mapCapture_writes _ D n).get .TX_MISS (by decide) ..).trans ((State.digestClose_writes _ D n).get .TX_MISS (by decide) ..)

theorem State.mapCapture_cells (hm : s.get .DOM_STATUS_MLOCK 6 D = 1) (hn : n < 2 ^ 64) : (s.mapCapture D n).get .MAP_DOMCNT 6 D = n ∧
    (s.mapCapture D n).get .MAP_SEQ 6 D = (s.get .MAP_SEQ 6 D + 1) % 2 ^ Fld.width .MAP_SEQ := by
  rw [State.mapCapture, State.when_true _ hm]
  constructor
  · simp [State.inc, State.get_put]; omega
  · simp [State.inc, State.get_put]

theorem State.slotEnds_map (hm : s.get .DOM_STATUS_MLOCK 6 D = 1) (hn : n < 2 ^ 64) : (s.slotEnds D n).get .MAP_DOMCNT 6 D = n ∧
    (s.slotEnds D n).get .MAP_SEQ 6 D = (s.get .MAP_SEQ 6 D + 1) % 2 ^ Fld.width .MAP_SEQ := by
  have hleft (f : Fld) (hf : f ∉ Fld.TX_MISS :: digestFlds) (d i : Nat) :
      ((s.judgeSlot D n).digestClose D n).get f d i = s.get f d i := by
    obtain ⟨hmiss, hdig⟩ := not_or.1 (mt List.mem_cons.2 hf)
    rw [(State.digestClose_writes _ D n).get f hdig, (s.judgeSlot_writes D n).get f (by simpa using hmiss)]
  rw [← hleft .MAP_SEQ (by decide)]
  exact State.mapCapture_cells ((hleft _ (by decide) ..).trans hm) hn

/-- An edge where nothing takes samples. -/
theorem State.Still.mediaEdge (h : s.Still) : s.mediaEdge D n meas =
    (s.edged D n).when (n % s.bsize D = 0) fun t => t.slotEnds D n := by
  let v := (s.edged D n).when (n % s.bsize D = 0) fun t => t.slotEnds D n
  have hv : (s.edged D n).Writes v slotFlds := .when .refl fun _ k => k.trans (State.slotEnds_writes ..)
  have hedge : (s.edged D n).domSample D (n - 1) meas = s.edged D n := State.Still.domSample h.edged
  obtain ⟨-, -, -, -, -, hstarts, htd⟩ : (s.edged D n).Still := h.edged
  have hoff : v.resyncMoment n = v := State.resyncMoment_off ((hv.get .PAIR_TDV (by decide) ..).trans htd)
  have hmoment : (v.when (D = 0) fun t => t.resyncMoment n) = v :=
    (congrArg (fun t => if D = 0 then t else v) hoff).trans (ite_self _)
  rw [State.mediaEdge_eq, hedge]
  exact (congrArg State.startsGo hmoment).trans (State.startsGo_nil (hv.starts.trans hstarts))

/-! ### The commands -/

theorem exec_domcntIncrement (hm : s.get .DOM_STATUS_MLOCK 6 D = 1) (ha : s.mayAlign D = false) :
    exec (.domcntIncrement D meas) s = .next (s.mediaEdge D (s.get .TB_DOMCNT 6 D + 1) meas) :=
  (next_when hm).trans (congrArg Host.Outcome.next (if_neg (by rw [ha]; decide)))

theorem exec_domcntAlign_idle (h : s.get .RING_ALIGN 6 D = 0) : exec (.domcntAlign D meas) s = .next s :=
  next_when_not (by simp [State.mayAlign, State.on, h])

theorem State.mayAlign_of (ha : s.get .RING_ALIGN 6 D = 1) (hen : s.get .EPOCH_CFG_EN 6 D = 0) (hr : s.get .DOM_CFG_RING 6 D = 1)
    (hh : s.get .RING_STATUS_HEAD 6 0 = 0) : s.mayAlign D = true := by
  simp [State.mayAlign, State.ringWide, State.on, ha, hen, hr, hh]

/-- The alignment that waits is taken, and AHEAD tells whether the own count was the larger. -/
def State.alignTaken (s : State) (D : Nat) : State :=
  let ahead := flag ((s.alignCount D).2 < (s.alignCount D).1)
  ((s.put .RING_ALIGN 6 D 0).put .DOM_STATUS_AHEAD 6 D ahead).put .RING_AHEAD 6 D ahead

theorem exec_domcntAlign (hm : s.get .DOM_STATUS_MLOCK 6 D = 1) (ha : s.mayAlign D = true) : exec (.domcntAlign D meas) s =
    .next ((s.alignTaken D).mediaEdge D (max (s.alignCount D).1 (s.alignCount D).2) meas) :=
  (next_when ⟨hm, ha⟩).trans (congrArg Host.Outcome.next (if_pos ha))

theorem State.alignTaken_writes (s : State) (D : Nat) : s.Writes (s.alignTaken D) [.RING_ALIGN, .DOM_STATUS_AHEAD, .RING_AHEAD] :=
  ((State.Writes.refl.put (by decide)).put (by decide)).put (by decide)

theorem State.Still.alignTaken (h : s.Still) : (s.alignTaken D).Still := ((h.put (by decide)).put (by decide)).put (by decide)

theorem State.alignTaken_cells (s : State) (D : Nat) : (s.alignTaken D).get .RING_ALIGN 6 D = 0 ∧
    (s.alignTaken D).get .DOM_STATUS_AHEAD 6 D = if (s.alignCount D).2 < (s.alignCount D).1 then 1 else 0 := by
  constructor
  · simp [State.alignTaken, State.get_put]
  · by_cases hlt : (s.alignCount D).2 < (s.alignCount D).1
    · simp [State.alignTaken, State.get_put, flag, hlt]
    · simp [State.alignTaken, State.get_put, flag, hlt]

/-- An edge where nothing takes samples, whatever it ends: the counts, and what it leaves. -/
theorem State.Still.mediaEdge_count (h : s.Still) (hn : n < 2 ^ 64) (hd : d = 6 ∨ d = 7) :
    (s.mediaEdge D n meas).get .TB_DOMCNT d D = n := by
  have hv : (s.edged D n).Writes (s.mediaEdge D n meas) slotFlds := by
    rw [h.mediaEdge]
    exact .when .refl fun _ k => k.trans (State.slotEnds_writes ..)
  rw [hv.get .TB_DOMCNT (by decide), State.edged_domcnt hn hd]

theorem State.Still.mediaEdge_writes (h : s.Still) : s.Writes (s.mediaEdge D n meas) (.TB_DOMCNT :: .DOM_EDGET :: slotFlds) := by
  rw [h.mediaEdge]
  exact .when ((s.edged_writes D n).mono (by decide)) fun _ k => k.trans ((State.slotEnds_writes ..).mono (by decide))

theorem domcntIncrement_boundary (hm : s.get .DOM_STATUS_MLOCK 6 D = 1) (ha : s.mayAlign D = false) (h : s.Still)
    (hn : s.get .TB_DOMCNT 6 D + 1 < 2 ^ 64) (hb : (s.get .TB_DOMCNT 6 D + 1) % s.bsize D = 0) :
    Completes (.domcntIncrement D meas) s fun t =>
      let n := s.get .TB_DOMCNT 6 D + 1
      let j := n - 2 * s.bsize D
      t.get .TB_DOMCNT 6 D = n ∧ t.get .TB_DOMCNT 7 D = n ∧ s.SameMem t ∧
      t.get .TX_MISS 6 D = (if 2 * s.bsize D ≤ n ∧ s.get .EP_ASGN 6 (s.slotOf D j) = j + 1 ∧
        s.get .EP_RDY 6 (s.slotOf D j) ≠ j + 1 then j + 1 else s.get .TX_MISS 6 D) ∧
      t.get .MAP_DOMCNT 6 D = n ∧ t.get .MAP_SEQ 6 D = (s.get .MAP_SEQ 6 D + 1) % 2 ^ Fld.width .MAP_SEQ := by
  refine ⟨_, exec_domcntIncrement hm ha, h.mediaEdge_count hn (.inl rfl), h.mediaEdge_count hn (.inr rfl),
    h.mediaEdge_writes.sameMem, ?_⟩
  have hu := s.edged_writes D (s.get .TB_DOMCNT 6 D + 1)
  have hget (f : Fld) (hf : f ∉ [Fld.TB_DOMCNT, .DOM_EDGET]) (d i : Nat) := hu.get f hf d i
  have hsize : (s.edged D (s.get .TB_DOMCNT 6 D + 1)).bsize D = s.bsize D := by
    unfold State.bsize
    rw [hget _ (by decide)]
  rw [h.mediaEdge, State.when_true _ hb]
  refine ⟨?_, ?_⟩
  · rw [State.slotEnds_miss, State.judgeSlot_miss _ _ hn]
    simp only [State.slotOf, hsize, hget .EP_ASGN (by decide), hget .EP_RDY (by decide), hget .TX_MISS (by decide)]
    rfl
  · rw [← hget .MAP_SEQ (by decide)]
    exact State.slotEnds_map ((hget _ (by decide) ..).trans hm) hn

theorem domcntAlign_lands (hm : s.get .DOM_STATUS_MLOCK 6 D = 1) (ha : s.mayAlign D = true) (h : s.Still)
    (hn : max (s.alignCount D).1 (s.alignCount D).2 < 2 ^ 64) : Completes (.domcntAlign D meas) s fun t =>
      t.get .TB_DOMCNT 6 D = max (s.alignCount D).1 (s.alignCount D).2 ∧
      t.get .TB_DOMCNT 7 D = max (s.alignCount D).1 (s.alignCount D).2 ∧ t.get .RING_ALIGN 6 D = 0 ∧
      t.get .DOM_STATUS_AHEAD 6 D = (if (s.alignCount D).2 < (s.alignCount D).1 then 1 else 0) ∧ s.SameMem t := by
  have hstill : (s.alignTaken D).Still := h.alignTaken
  have hw := hstill.mediaEdge_writes (D := D) (n := max (s.alignCount D).1 (s.alignCount D).2) (meas := meas)
  obtain ⟨halign, hahead⟩ := s.alignTaken_cells D
  refine ⟨_, exec_domcntAlign hm ha, hstill.mediaEdge_count hn (.inl rfl), hstill.mediaEdge_count hn (.inr rfl),
    (hw.get _ (by decide) ..).trans halign, (hw.get _ (by decide) ..).trans hahead, fun e a => ?_⟩
  rw [hw.sameMem e a, (s.alignTaken_writes D).sameMem e a]

/-- The head's count with what has passed since its edge (R367). -/
theorem State.alignCount_head (s : State) (D : Nat) : (s.alignCount D).2 =
    ((s.get .RING_HDOM 6 D : Int) + (s.get .RING_HPH 6 D * (rateFs (s.get .DOM_CFG_RATE 6 D)).2 * 1000000000 +
      ((s.capture 6 : Int) - s.get .RING_TH 6 0) * ((rateFs (s.get .DOM_CFG_RATE 6 D)).1 * 2 ^ 32)) /
        (2 ^ 32 * (rateFs (s.get .DOM_CFG_RATE 6 D)).2 * 1000000000)).toNat := by
  unfold State.alignCount State.domFs
  push_cast
  rfl

end

end Sys2Proof.Machine
end

section
/-! SUPPORT. What the work at boundaries, epoch starts and drains leaves of media time and the epochs' own cells. -/

namespace Sys2Proof.Machine

/-- Cells of media time, of epoch starts and drains and of a pending commit, which the work that these cause leaves. -/
def paceFlds : List Fld := [.TB_DOMCNT, .TB_STATUS_SYNC, .EP_SEEN, .EP_PASSED, .EP_OWED, .EPOCH_CFG_EN, .EPOCH_STATUS_DRAINED,
  .EPOCH_CSTAT_COMMIT_PEND, .COMMIT_T]

/-- The cells of `paceFlds` read in `t` as in `s`. -/
def State.Paced (s t : State) : Prop := ∀ f ∈ paceFlds, ∀ d i, t.get f d i = s.get f d i

namespace State.Paced
variable {s t u : State} {f : Fld} {d i v n D b c k x p g a port master : Nat}

theorem refl : s.Paced s := fun _ _ _ _ => rfl
theorem trans (h : s.Paced t) (q : t.Paced u) : s.Paced u := fun f hf d i => (q f hf d i).trans (h f hf d i)

theorem get (h : s.Paced t) (f : Fld) (hf : paceFlds.contains f = true) (d i : Nat) : t.get f d i = s.get f d i :=
  h f (List.contains_iff_mem.1 hf) d i

theorem put (h : s.Paced t) (hf : paceFlds.contains f = false) : s.Paced (t.put f d i v) := by
  refine h.trans fun g hg e j => t.get_put_fld ?_ ..
  rintro rfl
  simp [hg] at hf

theorem inc (h : s.Paced t) (hf : paceFlds.contains f = false) : s.Paced (t.inc f d i n) := h.put hf
theorem incSat (h : s.Paced t) (hf : paceFlds.contains f = false) : s.Paced (t.incSat f d i n) := h.put hf
theorem dec (h : s.Paced t) (hf : paceFlds.contains f = false) : s.Paced (t.dec f d i n) := h.put hf
theorem raiseTo (h : s.Paced t) (hf : paceFlds.contains f = false) : s.Paced (t.raiseTo f d i v) := h.put hf

theorem update {mem errs conds due sent queue claims croak ready kicks busyAcc locks badFlits resp answer deferred bundles boards blocks ports
    sapBlks phc hists macTx macLine tsf built stx mirror remote hostQ image snaps txs scenes events faultLog starts freeCtr pending}
    (h : s.Paced t) : s.Paced ⟨t.cells, mem, errs, conds, due, sent, queue, claims, croak, ready, kicks, busyAcc, locks, badFlits, resp,
      answer, deferred, bundles, boards, blocks, ports, sapBlks, phc, hists, macTx, macLine, tsf, built, stx, mirror, remote, hostQ,
      image, snaps, txs, scenes, events, faultLog, starts, freeCtr, pending⟩ := h

theorem ite {c : Prop} [Decidable c] {a b : State} (ha : s.Paced a) (hb : s.Paced b) : s.Paced (if c then a else b) := by
  split <;> assumption

theorem when {c : Prop} [Decidable c] {g : State → State} (h : s.Paced t) (hg : ∀ u, s.Paced u → s.Paced (g u)) :
    s.Paced (t.when c g) := .ite (hg t h) h

theorem each {α : Type} {g : α → State → State} {l : List α} (h : s.Paced t) (hg : ∀ a u, s.Paced u → s.Paced (g a u)) :
    s.Paced (t.each l g) := State.each_keeps (P := fun u => s.Paced u) t h fun a _ u => hg a u

theorem putAll (h : s.Paced t) (hf : paceFlds.contains f = false) : s.Paced (t.putAll f d n v) := h.each fun _ _ k => k.put hf

theorem sameBut {l : List Fld} (h : s.Paced t) (q : t.SameBut u l) (hl : (paceFlds.all fun f => !l.contains f) = true) : s.Paced u :=
  h.trans fun f hf d i => q f d i (by simpa using List.all_eq_true.1 hl f hf)

theorem accessed (h : s.Paced t) (q : t.Accessed u) : s.Paced u := h.sameBut q (by decide)
theorem mailed (h : s.Paced t) (q : t.Mailed u) : s.Paced u := h.sameBut q (by decide)
theorem emits (h : s.Paced t) (q : t.Emits u) : s.Paced u := h.trans fun f _ d i => q.get f d i
theorem send {m : Msg} (h : s.Paced t) : s.Paced (t.send m) := h.update
theorem drawn (h : s.Paced t) : s.Paced t.drawn := h.update
theorem store (h : s.Paced t) : s.Paced (t.store d a n v) := h.sameBut (State.SameBut.refl (l := []) |>.store) (by decide)
theorem raises {l : List Raise} (h : s.Paced t) : s.Paced (t.raises d b l) :=
  h.sameBut (State.SameBut.refl.raises (List.Subset.refl _)) (by decide)
theorem fault {m : FaultName} (h : s.Paced t) : s.Paced (t.fault m d b i) := h.raises

/-- Entries of other cells leave the list. -/
theorem filterCells {p : Loc × Nat → Bool} (h : s.Paced t) (hp : ∀ q : Loc × Nat, paceFlds.contains q.1.fld = true → p q = true) :
    s.Paced { t with cells := t.cells.filter p } := by
  refine h.trans fun f hf d i => ?_
  have hfind (l : List (Loc × Nat)) : Cells.find ⟨f, d, i⟩ (l.filter p) = Cells.find ⟨f, d, i⟩ l := by
    induction l with
    | nil => rfl
    | cons q l ih =>
      rw [List.filter_cons]
      split
      · rw [Cells.find, Cells.find, ih]
      · next hq =>
        rw [ih, Cells.find, if_neg]
        rintro he
        exact hq (hp q (by rw [he]; exact List.contains_iff_mem.2 hf))
  unfold State.get
  rw [hfind]

/-! ### Machine/Tongue -/

theorem refreshIdle (h : s.Paced t) : s.Paced (t.refreshIdle d c D) :=
  .ite (h.when fun _ k => ((k.put (by decide)).put (by decide)).raiseTo (by decide)) (h.put (by decide))

theorem slotMove {new : Nat} (h : s.Paced t) : s.Paced (t.slotMove d c k new) :=
  .refreshIdle (.when (.when (.when ((h.put (by decide)).when fun _ k => k.dec (by decide))
    fun _ k => (k.dec (by decide)).dec (by decide)) fun _ k => k.inc (by decide)) fun _ k => (k.inc (by decide)).inc (by decide))

theorem queueGrow (h : s.Paced t) : s.Paced (t.queueGrow d c k) := ((h.inc (by decide)).inc (by decide)).raiseTo (by decide)

theorem enqueue {later : Nat} (h : s.Paced t) : s.Paced (t.enqueue d c k later) := by
  dsimp only [State.enqueue]
  exact (h.update.inc (by decide)).queueGrow.slotMove

theorem evalSlot (h : s.Paced t) : s.Paced (t.evalSlot d c k) := h.when fun _ k => k.enqueue

theorem tongueEpochStart (h : s.Paced t) : s.Paced (t.tongueEpochStart d c D) :=
  .each (((h.put (by decide)).put (by decide)).when fun _ k => k.inc (by decide)) fun _ _ k =>
    ((k.put (by decide)).put (by decide)).evalSlot

/-! ### Machine/Chorus -/

theorem groupReady (h : s.Paced t) : s.Paced (t.groupReady d g) := .ite h h.update

theorem discardParts (h : s.Paced t) : s.Paced (t.discardParts d b n) := (h.incSat (by decide)).each fun _ _ k => k.fault

theorem takeSet (h : s.Paced t) : s.Paced (t.takeSet d D b x k) :=
  .each (.put (.put (.put (.put (h.when fun _ k => k.discardParts) (by decide)) (by decide)) (by decide)) (by decide))
    fun _ _ k => k.put (by decide)

theorem reduceSet {incomplete : Bool} (h : s.Paced t) : s.Paced (t.reduceSet d D b x incomplete) :=
  .raises (.update (.when ((h.put (by decide)).when fun _ k => (k.put (by decide)).incSat (by decide))
    fun _ k => (k.put (by decide)).incSat (by decide)))

theorem fabMem {r : FabReq} (h : s.Paced t) : s.Paced (t.fabMem r) := h.accessed State.Accessed.refl.fabMem

theorem writeBlock {fuel : Nat} {data : List Nat} (h : s.Paced t) : s.Paced (t.writeBlock d fuel a data) := by
  induction fuel generalizing t a data with
  | zero => exact h
  | succ fuel ih =>
    dsimp only [State.writeBlock]
    exact .ite h (ih h.fabMem)

theorem remoteReq {unit tdie loc len data dom : Nat} {write : Bool} (h : s.Paced t) :
    s.Paced (t.remoteReq d port unit tdie loc write len data dom) :=
  (h.put (by decide)).update.emits (State.birayFrom_emits ..)

theorem logDecode {r : FabReq} {cause : Nat} (h : s.Paced t) : s.Paced (t.logDecode r d cause) :=
  h.accessed State.Accessed.refl.logDecode

theorem post {target flags dom also : Nat} (h : s.Paced t) : s.Paced (t.post d p target flags dom also) := by
  have hg {r : FabReq} : s.Paced (t.granted r) := h.sameBut (t.granted_sameBut r) (by decide)
  exact .ite hg.logDecode (.ite (.ite (.ite hg.remoteReq hg.logDecode) hg.logDecode) (.ite hg.logDecode (.ite hg.logDecode
    (.ite (hg.accessed State.Accessed.refl.logPerm) hg.send))))

theorem finishBlock {data : List Nat} (h : s.Paced t) : s.Paced (t.finishBlock d b k data) :=
  .when ((h.writeBlock.put (by decide)).when fun _ k => k.post) fun _ k => k.accessed State.Accessed.refl.chorusKick

theorem chorusEpochStart (h : s.Paced t) : s.Paced (t.chorusEpochStart d D k) := by
  dsimp only [State.chorusEpochStart]
  refine .each (.each (.filterCells (.each (.each h.update fun _ _ k => ?_) fun _ _ k => ?_) fun q hq => ?_) fun _ _ k => ?_)
    fun _ _ k => ?_
  · exact (((k.put (by decide)).put (by decide)).put (by decide)).put (by decide)
  · exact k.when fun _ l => l.groupReady
  · have hx : q.1.fld ≠ .XSUM := by
      intro he
      rw [he] at hq
      exact absurd hq (by decide)
    simp [hx]
  · exact ((((k.put (by decide)).put (by decide)).put (by decide)).put (by decide)).put (by decide)
  · exact .ite ((k.put (by decide)).takeSet.put (by decide)).finishBlock ((k.put (by decide)).when fun _ l => l.reduceSet)

/-! ### Machine/Epoch -/

theorem countSkips (h : s.Paced t) : s.Paced (t.countSkips D n) :=
  h.when fun _ k => ((k.inc (by decide)).put (by decide)).fault

/-! ### Machine/Biray -/

theorem resyncDrop (h : s.Paced t) : s.Paced t.resyncDrop :=
  .fault (.update (((((h.put (by decide)).put (by decide)).put (by decide)).putAll (by decide)).putAll (by decide) |>.putAll (by decide)))

theorem scramble (h : s.Paced t) : s.Paced t.scramble := h.each fun _ _ k => k.each fun _ _ l => l.store.drawn
theorem resyncFail (h : s.Paced t) : s.Paced t.resyncFail := h.resyncDrop.when fun _ k => k.scramble
theorem resyncSkip (h : s.Paced t) : s.Paced (t.resyncSkip D b n) := h.when fun _ k => k.resyncFail
theorem resyncBoundary (h : s.Paced t) : s.Paced (t.resyncBoundary D b) := h.when fun _ k => k.resyncFail

theorem setRole (h : s.Paced t) : s.Paced (t.setRole n) := ((h.put (by decide)).put (by decide)).put (by decide)

theorem becomeActive (h : s.Paced t) : s.Paced (t.becomeActive b) :=
  (((h.setRole.put (by decide)).put (by decide)).put (by decide)).put (by decide)

theorem becomeStandby (h : s.Paced t) : s.Paced (t.becomeStandby b) :=
  (((h.setRole.put (by decide)).put (by decide)).put (by decide)).fault

theorem healthJudge (h : s.Paced t) : s.Paced (t.healthJudge b) :=
  .ite h (.ite (h.put (by decide)) ((h.put (by decide)).incSat (by decide)).fault)

theorem quietMore (h : s.Paced t) : s.Paced t.quietMore := ((h.put (by decide)).put (by decide)).put (by decide)

theorem rolesAt (h : s.Paced t) : s.Paced (t.rolesAt b) :=
  .ite (.ite h.becomeActive.fault (h.when fun _ k => k.becomeActive))
    (.ite (.ite h.becomeStandby (h.when fun _ k => k.becomeStandby)) h)

theorem triggersAt (h : s.Paced t) : s.Paced (t.triggersAt b) :=
  (h.put (by decide)).when fun _ k => (k.put (by decide)).put (by decide)

theorem resyncAt (h : s.Paced t) : s.Paced (t.resyncAt b) :=
  h.when fun _ k => ((k.put (by decide)).put (by decide)).putAll (by decide)

theorem pairBoundary (h : s.Paced t) : s.Paced (t.pairBoundary b) := h.healthJudge.quietMore.rolesAt.triggersAt.resyncAt

theorem birayOwn {ty dst : Nat} {w l : List Nat} (h : s.Paced t) : s.Paced (t.birayOwn ty dst w l) := h.emits (t.birayOwn_emits ..)
theorem healthSend (h : s.Paced t) : s.Paced (t.healthSend b) := h.when fun _ k => k.birayOwn

theorem sramEngineRead (h : s.Paced t) : s.Paced (t.sramEngineRead d port master a n).1 := by
  unfold State.sramEngineRead
  rw [apply_ite Prod.fst]
  exact .ite (h.accessed State.Accessed.refl.bankReadBytes) h

theorem mirrorRead (h : s.Paced t) : s.Paced (t.mirrorRead d a n).1 := h.sramEngineRead

theorem mirrorRegion {fuel : Nat} (h : s.Paced t) : s.Paced (t.mirrorRegion D d a fuel n).1 := by
  induction fuel generalizing t a n with
  | zero => exact h
  | succ fuel ih =>
    dsimp only [State.mirrorRegion]
    rw [apply_ite Prod.fst]
    exact .ite h (ih h.mirrorRead.birayOwn)

theorem mirrorRegions {l : List (Nat × Nat × Nat × Nat)} (h : s.Paced t) : s.Paced (t.mirrorRegions D l).1 := by
  induction l generalizing t with
  | nil => exact h
  | cons r l ih =>
    dsimp only [State.mirrorRegions]
    exact ih h.mirrorRegion

theorem mirrorSend (h : s.Paced t) : s.Paced (t.mirrorSend D) := h.mirrorRead.mirrorRegions.birayOwn
theorem pairDrained (h : s.Paced t) : s.Paced (t.pairDrained D) := h.when fun _ k => k.mirrorSend

/-! ### Machine/Media -/

theorem lateAt (h : s.Paced t) : s.Paced (t.lateAt D c n) := by
  have hlate : s.Paced (t.each allDies fun d t => t.send (.lateMarker d D)) := h.each fun _ _ k => k.send
  exact .ite ((hlate.put (by decide)).inc (by decide)) (.ite (hlate.each fun _ _ k => k.send)
    (hlate.when fun _ k => (k.put (by decide)).fault))

theorem meterCopy {m : MeterDef} (h : s.Paced t) : s.Paced (t.meterCopy m) := h.sramEngineRead.update

theorem takeSnapshot (h : s.Paced t) : s.Paced (t.takeSnapshot D) :=
  .each ((((h.put (by decide)).put (by decide)).put (by decide)).each fun _ _ k => k.put (by decide)) fun _ _ k => k.meterCopy

theorem meterReady (h : s.Paced t) : s.Paced (t.meterReady D) := h.mailed State.Mailed.refl.csfEvent

end State.Paced

end Sys2Proof.Machine
end

section
/-! SUPPORT. Boundaries, epoch starts and drains, event by event (R41 to R50). -/

namespace Sys2Proof.Machine

section
variable {s t u : State} {D : Nat}

/-! ### EPOCH_BOUNDARY (R41, R45, R49) -/

/-- A boundary is noted: its time, the slot that begins, and the epoch it owes. -/
def State.boundaryNoted (s : State) (D : Nat) : State :=
  let m := s.domcnt D
  let s1 := (s.put .EP_PASSED 6 D m).put .EP_PASST 6 D (s.capture 6)
  let s2 := s1.when (s1.get .EPOCH_STATUS_RUN 6 D = 1) fun t => t.put .EP_ASGN 6 (t.slotOf D m) (m + 1)
  s2.when (s2.get .EPOCH_STATUS_RUN 6 D = 1 ∨ s2.get .EPOCH_CFG_EN 6 D = 1) fun t => t.put .EP_OWED 6 D 1

/-- What a boundary causes: lateness, the pair's work at a boundary of domain A, the end of a resync that is due. -/
def State.boundaryWorks (s : State) (D m : Nat) : State :=
  let s1 := s.when (s.get .EPOCH_STATUS_RUN 6 D = 1 ∧ s.get .EP_CURV 6 D = 1 ∧ s.get .EPOCH_STATUS_DRAINED 6 D = 0) fun t =>
    t.lateAt D (t.get .EPOCH_CUR 6 D) m
  (s1.when (D = 0) fun t => t.pairBoundary m).resyncBoundary D m

theorem exec_epochBoundary (hb : s.get .TB_DOMCNT 6 D % s.bsize D = 0) (hp : s.get .TB_DOMCNT 6 D ≠ s.get .EP_PASSED 6 D) :
    exec (.epochBoundary D) s = .next ((s.boundaryNoted D).boundaryWorks D (s.get .TB_DOMCNT 6 D)) := next_when ⟨hb, hp⟩

theorem State.boundaryWorks_paced (s : State) (D m : Nat) : s.Paced (s.boundaryWorks D m) :=
  .resyncBoundary (.when (.when .refl fun _ k => k.lateAt) fun _ k => k.pairBoundary)

theorem State.boundaryNoted_writes (s : State) (D : Nat) :
    s.Writes (s.boundaryNoted D) [.EP_PASSED, .EP_PASST, .EP_ASGN, .EP_OWED] :=
  .when (.when ((State.Writes.refl.put (by decide)).put (by decide)) fun _ k => k.put (by decide)) fun _ k => k.put (by decide)

theorem State.boundaryNoted_passed (hm : s.get .TB_DOMCNT 6 D < 2 ^ 64) :
    (s.boundaryNoted D).get .EP_PASSED 6 D = s.get .TB_DOMCNT 6 D := by
  have hrest : (s.put .EP_PASSED 6 D (s.domcnt D)).Writes (s.boundaryNoted D) [.EP_PASST, .EP_ASGN, .EP_OWED] :=
    .when (.when (State.Writes.refl.put (by decide)) fun _ k => k.put (by decide)) fun _ k => k.put (by decide)
  rw [hrest.get .EP_PASSED (by decide), State.get_put_same]
  exact Nat.mod_eq_of_lt hm

theorem State.boundaryNoted_owed (h : s.get .EPOCH_STATUS_RUN 6 D = 1 ∨ s.get .EPOCH_CFG_EN 6 D = 1) :
    (s.boundaryNoted D).get .EP_OWED 6 D = 1 := by
  let s1 := (s.put .EP_PASSED 6 D (s.domcnt D)).put .EP_PASST 6 D (s.capture 6)
  let s2 := s1.when (s1.get .EPOCH_STATUS_RUN 6 D = 1) fun t => t.put .EP_ASGN 6 (t.slotOf D (s.domcnt D)) (s.domcnt D + 1)
  have hs : s.Writes s2 [.EP_PASSED, .EP_PASST, .EP_ASGN] :=
    .when ((State.Writes.refl.put (by decide)).put (by decide)) fun _ k => k.put (by decide)
  have hrun : s2.get .EPOCH_STATUS_RUN 6 D = 1 ∨ s2.get .EPOCH_CFG_EN 6 D = 1 := by
    rw [hs.get .EPOCH_STATUS_RUN (by decide), hs.get .EPOCH_CFG_EN (by decide)]
    exact h
  have howes : s.boundaryNoted D = s2.when (s2.get .EPOCH_STATUS_RUN 6 D = 1 ∨ s2.get .EPOCH_CFG_EN 6 D = 1) fun t =>
    t.put .EP_OWED 6 D 1 := rfl
  rw [howes, State.when_true _ hrun, State.get_put_same]
  rfl

/-! ### EPOCH_DISPATCH (R43, R49) -/

theorem State.fault_sent (s : State) (n : FaultName) (d b i : Nat) : (s.fault n d b i).sent = s.sent :=
  (congrArg State.sent (s.fault_within n d b i).2 :)

theorem State.store_sent (s : State) (d a n v : Nat) : (s.store d a n v).sent = s.sent := by
  induction n generalizing s a v with
  | zero => rfl
  | succ n ih => exact ih ..

theorem State.each_sent {α : Type} {l : List α} {g : α → State → State} (s : State) (hg : ∀ a t, (g a t).sent = t.sent) :
    (s.each l g).sent = s.sent :=
  State.each_keeps (P := fun t => t.sent = s.sent) s rfl fun a _ t k => (hg a t).trans k

theorem State.when_sent {c : Prop} [Decidable c] {g : State → State} (s : State) (hg : ∀ t, (g t).sent = t.sent) :
    (s.when c g).sent = s.sent := State.when_keeps (P := fun t => t.sent = s.sent) s rfl (hg s)

theorem State.putAll_sent (s : State) (f : Fld) (d n v : Nat) : (s.putAll f d n v).sent = s.sent :=
  s.each_sent fun _ _ => State.put_sent ..

theorem State.resyncDrop_sent (s : State) : s.resyncDrop.sent = s.sent := by
  simp only [State.resyncDrop, State.fault_sent, State.putAll_sent, State.put_sent]

theorem State.scramble_sent (s : State) : s.scramble.sent = s.sent := by
  refine s.each_sent fun r t => t.each_sent fun i u => ?_
  rw [State.drawn_sent, State.store_sent]

theorem State.resyncFail_sent (s : State) : s.resyncFail.sent = s.sent := by
  unfold State.resyncFail
  rw [State.when_sent _ State.scramble_sent, State.resyncDrop_sent]

/-- Boundaries passed over are counted, and a resync that lies among them fails. -/
def State.skipsCounted (s : State) (D : Nat) : State :=
  let b := s.get .EP_PASSED 6 D
  (s.countSkips D (s.skippedBy D b)).resyncSkip D b (s.skippedBy D b)

theorem State.skipsCounted_paced (s : State) (D : Nat) : s.Paced (s.skipsCounted D) := State.Paced.refl.countSkips.resyncSkip

theorem State.skipsCounted_sent (s : State) (D : Nat) : (s.skipsCounted D).sent = s.sent :=
  (State.when_sent _ State.resyncFail_sent).trans
    (State.when_sent _ fun t => (State.fault_sent ..).trans (by rw [State.put_sent, State.inc, State.put_sent]))

/-- The epoch of boundary `b` is the current one, undrained. -/
def State.epochCurrent (s : State) (D b : Nat) : State :=
  let t := ((((s.put .EPOCH_CUR 6 D b).put .EPOCH_STATUS_DRAINED 6 D 0).put .EPOCH_STATUS_DIE_DRAINED 6 D 0).put
    .EPOCH_STATUS_LATE 6 D 0).put .EP_T0 6 D (s.get .EP_PASST 6 D)
  (((t.put .EP_OWED 6 D 0).put .EP_CURV 6 D 1).put .EP_ASGN 6 (t.slotOf D b) (b + 1))

/-- Cells of the epoch in progress. -/
def currentFlds : List Fld := [.EPOCH_CUR, .EPOCH_STATUS_DRAINED, .EPOCH_STATUS_DIE_DRAINED, .EPOCH_STATUS_LATE, .EP_T0, .EP_OWED,
  .EP_CURV, .EP_ASGN]

theorem State.epochCurrent_writes (s : State) (D b : Nat) : s.Writes (s.epochCurrent D b) currentFlds :=
  (((((((State.Writes.refl.put (by decide)).put (by decide)).put (by decide)).put (by decide)).put (by decide)).put (by decide)).put
    (by decide)).put (by decide)

theorem State.epochCurrent_cells (s : State) (D : Nat) {b : Nat} (hb : b < 2 ^ 64) :
    (s.epochCurrent D b).get .EPOCH_CUR 6 D = b ∧ (s.epochCurrent D b).get .EPOCH_STATUS_DRAINED 6 D = 0 := by
  constructor
  · simp [State.epochCurrent, State.get_put]; omega
  · simp [State.epochCurrent, State.get_put]

/-- The state in which the epoch starts go out. -/
def State.dispatched (s : State) (D : Nat) : State := ((s.skipsCounted D).epochCurrent D (s.get .EP_PASSED 6 D)).setRun D 1

theorem exec_epochDispatch (hm : s.mayDispatch D = true) (hh : s.resyncHolds D = false) : exec (.epochDispatch D) s =
    .next ((s.dispatched D).broadcastStart D (s.get .EP_PASSED 6 D) ((s.dispatched D).commitDue D (s.get .EP_PASSED 6 D))) :=
  next_when ⟨hm, hh⟩

theorem State.dispatched_sent (s : State) (D : Nat) : (s.dispatched D).sent = s.sent := by
  have hw := (((s.skipsCounted D).epochCurrent_writes D (s.get .EP_PASSED 6 D)).mono (List.subset_append_left _ runFlds)).trans
    ((State.setRun_writes _ D 1).mono (List.subset_append_right ..))
  exact (congrArg State.sent hw.rest :).trans (s.skipsCounted_sent D)

theorem State.dispatched_commitDue (s : State) (D b : Nat) : (s.dispatched D).commitDue D b = s.commitDue D b := by
  have hget (f : Fld) (hp : paceFlds.contains f = true) (hc : f ∉ currentFlds) (hr : f ∉ runFlds) :
      (s.dispatched D).get f 6 D = s.get f 6 D := by
    rw [State.dispatched, (State.setRun_writes _ D 1).get f hr, (State.epochCurrent_writes _ D _).get f hc,
      (s.skipsCounted_paced D).get f hp]
  unfold State.commitDue State.on
  rw [hget _ (by decide) (by decide) (by decide), hget _ (by decide) (by decide) (by decide)]

theorem State.broadcastStart_sent (s : State) (D b : Nat) (c : Bool) :
    (s.broadcastStart D b c).sent = s.sent ++ allDies.map fun d => Msg.epochStart d D b c := by
  simp [State.broadcastStart, State.each, allDies]

theorem State.broadcastStart_get (s : State) (D b : Nat) (c : Bool) (f : Fld) (d i : Nat) :
    (s.broadcastStart D b c).get f d i = s.get f d i :=
  State.each_keeps (P := fun t => t.get f d i = s.get f d i) s rfl fun _ _ _ k => k

theorem epochDispatch_starts (hm : s.mayDispatch D = true) (hh : s.resyncHolds D = false) (hb : s.get .EP_PASSED 6 D < 2 ^ 64) :
    Completes (.epochDispatch D) s fun t => t.get .EPOCH_CUR 6 D = s.get .EP_PASSED 6 D ∧ t.get .EPOCH_STATUS_DRAINED 6 D = 0 ∧
      t.get .EPOCH_STATUS_RUN 6 D = 1 ∧ t.sent = s.sent ++ allDies.map fun d =>
        Msg.epochStart d D (s.get .EP_PASSED 6 D) (s.commitDue D (s.get .EP_PASSED 6 D)) := by
  obtain ⟨hcur, hdrained⟩ := (s.skipsCounted D).epochCurrent_cells D hb
  have hrun := State.setRun_writes ((s.skipsCounted D).epochCurrent D (s.get .EP_PASSED 6 D)) D 1
  refine ⟨_, exec_epochDispatch hm hh, ?_, ?_, ?_, ?_⟩
  · rw [State.broadcastStart_get]
    exact (hrun.get _ (by decide) ..).trans hcur
  · rw [State.broadcastStart_get]
    exact (hrun.get _ (by decide) ..).trans hdrained
  · rw [State.broadcastStart_get]
    exact State.setRun_run ..
  · rw [State.broadcastStart_sent, s.dispatched_sent, s.dispatched_commitDue]

/-! ### EPOCH_START_RECEIPT (R43, R54) -/

section
variable {d b : Nat} {c : Bool}

/-- A die sees an epoch start: a gecko die's replica is loaded, and a commit that is due takes effect. -/
def State.startSeen (s : State) (d D b : Nat) (c : Bool) : State :=
  let s1 := (s.when (d < 6) fun t => t.put .TB_DOMCNT d D b).put .TB_STATUS_SYNC d 0 1
  let s2 := (s1.put .TB_GEN d D (s1.genAt d D b)).when (c = true) fun t => t.commitApply d D b
  (s2.put .EP_SEEN d D (b + 1)).put .DRAIN_SENT d D 0

/-- What the epoch start causes on a die. -/
def State.startWorks (s : State) (d D b : Nat) : State :=
  let s1 := s.when (d < 6) fun t => (t.each [0, 1, 2, 3] fun c u => u.tongueEpochStart d c D).chorusEpochStart d D b
  s1.when (d = 6 ∧ D = 0) fun t => t.healthSend b

theorem State.startWorks_paced (s : State) (d D b : Nat) : s.Paced (s.startWorks d D b) :=
  have hgecko : s.Paced (s.when (d < 6) fun t => (t.each [0, 1, 2, 3] fun c u => u.tongueEpochStart d c D).chorusEpochStart d D b) :=
    State.Paced.refl.when fun _ k => (k.each fun _ _ l => l.tongueEpochStart).chorusEpochStart
  State.Paced.when (c := d = 6 ∧ D = 0) (g := fun t => t.healthSend b) hgecko fun _ k => k.healthSend

theorem State.commitApply_sameBut (s : State) (d D b : Nat) :
    s.SameBut (s.commitApply d D b) [.TB_GEN, .EPOCH_CSTAT_COMMIT_PEND, .EPOCH_CSTAT_COMMIT_DONE] :=
  .when (State.SameBut.refl.put (by decide)) fun _ k => State.SameBut.update ((k.put (by decide)).put (by decide))

theorem State.startSeen_seen (s : State) (d D : Nat) (hb : b < 2 ^ 64) (c : Bool) : (s.startSeen d D b c).get .EP_SEEN d D = b + 1 := by
  unfold State.startSeen
  rw [State.get_put_fld _ (by decide), State.get_put_same]
  exact Nat.mod_eq_of_lt (by rw [width_EP_SEEN]; omega)

theorem State.startSeen_sameBut (s : State) (d D b : Nat) (c : Bool) :
    ((s.when (d < 6) fun t => t.put .TB_DOMCNT d D b).put .TB_STATUS_SYNC d 0 1).SameBut (s.startSeen d D b c)
      [.TB_GEN, .EPOCH_CSTAT_COMMIT_PEND, .EPOCH_CSTAT_COMMIT_DONE, .EP_SEEN, .DRAIN_SENT] :=
  .put (.put (.when (State.SameBut.refl.put (by decide)) fun u k => k.trans ((u.commitApply_sameBut d D b).mono (by decide)))
    (by decide)) (by decide)

theorem State.startSeen_count (s : State) (D : Nat) (hd : d < 6) (hb : b < 2 ^ 64) (c : Bool) :
    (s.startSeen d D b c).get .TB_DOMCNT d D = b := by
  rw [s.startSeen_sameBut d D b c _ _ _ (by decide), State.get_put_fld _ (by decide), State.when_true _ hd, State.get_put_same]
  exact Nat.mod_eq_of_lt hb

theorem State.startSeen_sync (s : State) (d D b : Nat) (c : Bool) : (s.startSeen d D b c).get .TB_STATUS_SYNC d 0 = 1 := by
  rw [s.startSeen_sameBut d D b c _ _ _ (by decide), State.get_put_same]
  rfl

theorem exec_epochStartReceipt (hn : s.nextOn (.epochStart d D b c) = true) : exec (.epochStartReceipt d D b c) s =
    .next (((s.arrived (.epochStart d D b c)).startSeen d D b c).startWorks d D b) :=
  congrArg Host.Outcome.next (State.receive_next hn (beq_self_eq_true _) fun n h => by rw [beq_iff_eq.1 h])

theorem exec_epochStartReceipt_waits (hn : s.nextOn (.epochStart d D b c) = false) : exec (.epochStartReceipt d D b c) s = .next s :=
  congrArg Host.Outcome.next (State.receive_none fun n h => by rw [beq_iff_eq.1 h, hn])

theorem epochStartReceipt_seen (hb : b < 2 ^ 64) (hn : s.nextOn (.epochStart d D b c) = true) :
    Completes (.epochStartReceipt d D b c) s fun t =>
      (d < 6 → t.get .TB_DOMCNT d D = b) ∧ t.get .EP_SEEN d D = b + 1 ∧ t.get .TB_STATUS_SYNC d 0 = 1 := by
  have hp := ((s.arrived (.epochStart d D b c)).startSeen d D b c).startWorks_paced d D b
  exact ⟨_, exec_epochStartReceipt hn, fun hd => (hp.get _ (by decide) ..).trans (State.startSeen_count _ D hd hb c),
    (hp.get _ (by decide) ..).trans (State.startSeen_seen _ d D hb c), (hp.get _ (by decide) ..).trans (State.startSeen_sync ..)⟩

/-! ### Drains (R46, R47) -/

theorem exec_dieDrainReport (hseen : s.get .EP_SEEN d D ≠ 0) (hsent : s.get .DRAIN_SENT d D = 0) (hclk : s.dieClocked d = true)
    (hd : s.dieDrained d D = true) : exec (.dieDrainReport d D) s =
      .next ((s.put .DRAIN_SENT d D 1).send (.drainReport d D (s.get .EP_SEEN d D - 1) false 8)) := next_when ⟨hseen, hsent, hclk, hd⟩

/-- The last report drains the epoch of an enabled domain, whatever waits for the drain. -/
theorem State.allDrained_running (hen : s.get .EPOCH_CFG_EN 6 D = 1) : (s.allDrained D).get .EPOCH_STATUS_DRAINED 6 D = 1 := by
  have hsnap : (s.drainNoted D).Paced ((s.drainNoted D).drainSnapped D) := .when .refl fun _ k => k.takeSnapshot
  have hdrain : s.drainEpoch D = (s.drainNoted D).drainSnapped D := State.drainEpoch_running (by
    rw [hsnap.get .EPOCH_CFG_EN (by decide), (s.drainNoted_writes D).get .EPOCH_CFG_EN (by decide), hen])
  have hall : (s.drainNoted D).Paced (s.allDrained D) := by
    unfold State.allDrained
    rw [hdrain]
    exact .when hsnap.pairDrained fun _ k => k.meterReady
  rw [hall.get .EPOCH_STATUS_DRAINED (by decide), State.drainNoted_drained]

end

end

end Sys2Proof.Machine
end

section
/-! PROOF. -/

open Sys2Proof Sys2Proof.Machine

/-- Settles O10: each clause is the lemma of its command; what the work at an event leaves of media time is `State.Paced`. -/
theorem epochProgress : Obligations.EpochProgress := by
  unfold Obligations.EpochProgress
  intro s D _
  refine ⟨?_, ?_, fun meas => exec_domcntAlign_idle, ?_, epochDispatch_starts, exec_snapArm_accepted, ?_, ?_, ?_, ?_⟩
  · intro meas hm ha ht hn n cells
    have hu : s.Changes (s.edged D n) cells := State.edged_changes hn ht
    have hexec : exec (.domcntIncrement D meas) s = .next (s.mediaEdge D n meas) := exec_domcntIncrement hm ha
    refine ⟨fun hb => ⟨_, hu, ?_⟩, fun hb h => ⟨_, ?_, hu⟩, fun hb h => domcntIncrement_boundary hm ha h hn hb⟩
    · rw [hexec, State.mediaEdge_eq, State.when_false _ hb]
    · rw [hexec, h.mediaEdge, State.when_false _ hb]
  · intro meas hm ha hen hr hh h fs own passed head hmax
    have hhead : (s.alignCount D).2 = head := s.alignCount_head D
    have hlands := domcntAlign_lands (meas := meas) hm (State.mayAlign_of ha hen hr hh) h (by rw [hhead]; exact hmax)
    rw [hhead] at hlands
    exact hlands
  · intro hb hp hm
    have hw := (s.boundaryNoted D).boundaryWorks_paced D (s.get .TB_DOMCNT 6 D)
    exact ⟨_, exec_epochBoundary hb hp, (hw.get _ (by decide) ..).trans (State.boundaryNoted_passed hm),
      fun h => (hw.get _ (by decide) ..).trans (State.boundaryNoted_owed h),
      (hw.get _ (by decide) ..).trans ((s.boundaryNoted_writes D).get _ (by decide) ..)⟩
  · exact fun d b c _ hb => ⟨epochStartReceipt_seen hb, exec_epochStartReceipt_waits⟩
  · exact fun d _ hseen hsent hclk hd =>
      ⟨_, (State.Changes.refl s).put _ _ _ _ (by decide), exec_dieDrainReport hseen hsent hclk hd⟩
  · intro d q _ hv hd hen hn hall
    exact ⟨_, exec_drainReportReceipt_last hv hd hn hall, State.allDrained_running ((State.get_put_fld _ (by decide) ..).trans hen)⟩
  · intro hp ho hr ha
    exact ⟨fun ht => ⟨_, (State.Changes.refl s).put _ _ _ _ (by decide), exec_commitAckDeadline_split hp ho hr ha ht⟩,
      exec_commitAckDeadline_early⟩

end

section
/-! SUPPORT. The state and the port-B access of O21's counterexample. -/

namespace Sys2Proof.Machine

/-- In a state that a command of a canonical one leaves, BANK_COLL_BMASTER keeps within its 8 bits. -/
theorem bankCollBmaster_lt {i : Instr} {s t : State} (hc : s.canonical = true) (ht : exec i s = .next t) (d : Nat) :
    t.get .BANK_COLL_BMASTER d 0 < 256 := by
  obtain ⟨u, hu, hk⟩ := exec_keeps i (State.Keeps.refl (s := s) (p := fun _ => False))
  obtain rfl : u = t := Host.Outcome.next.inj (hu.symm.trans ht)
  exact State.get_lt (hk.canonical hc) rfl

/-- A port-B write of no byte by a master whose number needs nine bits. -/
def strayWrite : PortAccess := ⟨.write, 256, 0, 0, false⟩

/-- The stray write meets a load of the first word of clutch 3's SRAM. -/
def strayMeets : AccessMeets := ⟨0, 0, [⟨0x1800000, strayWrite⟩], 0⟩

/-- Newt 31 of die 5 is about to load that word into s3, with no collision recorded yet. -/
def strayState : State := demoNewt [0xA2180000] [(⟨.DBG_A, 5, 372⟩, 0x01000000)]

theorem strayState_meetsPremises : strayState.Ready 5 31 ∧ strayState.Sound 5 0x1800000 ∧
    strayState.fetched (.lds 5 31 true 3 0 0 0 strayMeets) = true ∧ strayState.get .DBG_A 5 372 = 0x01000000 ∧
    strayState.get .FLT_INJ_COUNT 5 95 = 0 ∧ strayState.wordLocked 5 0x1800000 = false ∧
    strayState.get .BANK_COLL_VALID 5 0 = 0 := by decide +kernel

end Sys2Proof.Machine
end

section
/-! PROOF. -/

open Sys2Proof Sys2Proof.Machine

/-- Refutes O21: the statement lets a port-B write come from a master of any number and wants the number in the record, but
BANK_COLL_BMASTER holds 8 bits (R193), so master 256 is not recorded as such. -/
theorem not_newtReachesSramAndBadAddresses : ¬ Obligations.NewtReachesSramAndBadAddresses := by
  unfold Obligations.NewtReachesSramAndBadAddresses
  intro h
  obtain ⟨ready, sound, fetched, addr, noInject, unlocked, noRecord⟩ := strayState_meetsPremises
  have loads := (h strayState 5 31 3 0 0 0 strayMeets (by decide) (by decide) (by decide) (by decide) rfl ready rfl (by decide) sound
    noInject).1 fetched
  obtain ⟨-, meetsWrite, -⟩ := loads
  obtain ⟨t, ran, record⟩ := meetsWrite strayWrite addr rfl rfl unlocked
  rw [State.Collision, if_pos noRecord] at record
  obtain ⟨-, -, -, -, master⟩ := record
  have small := bankCollBmaster_lt sound.1 ran 5
  rw [master] at small
  exact absurd small (by decide)
end

section
/-! SUPPORT. Updates that keep memory and the bundles being decoded; what a slot that leaves service and a newt reset write (R91, R134,
R469, R513). -/

namespace Sys2Proof.Machine

/-! ### Memory and bundles stay -/

/-- Only cells of the names in `l` differ, and memory and the bundles being decoded are those of `s`; queues, claims, messages and
conditions may differ. -/
structure State.Touches (s t : State) (l : List Fld) : Prop where
  sameBut : s.SameBut t l
  mem : t.mem = s.mem
  bundles : t.bundles = s.bundles

/-- The cells that a raise and a condition that ceases write. -/
def faultFlds : List Fld := .FLT_LIVE :: raiseFlds

/-- The cells that follow a slot's state. -/
def countFlds : List Fld := [.TDOM_STATUS_QUEUED, .TDOM_STATUS_INSVC, .TONGUE_STATUS_INSVC, .TDOM_STATUS_IDLE, .DOM_DRAIN_LAST,
  .DOM_DRAIN_MAX]

/-- The cells that a slot's move, its queue and its flow write. -/
def tongueFlds : List Fld := .SLOT_STATE_STATE :: countFlds ++ [.TONGUE_TICKET, .Q_DEPTH, .TONGUE_STATUS_QUEUED, .Q_HWM, .FLOW_BUSY,
  .FAB_RR]

namespace State.Touches
variable {s t u : State} {l : List Fld} {f : Fld} {d i v b : Nat}

theorem refl : s.Touches s l := ⟨.refl, rfl, rfl⟩

theorem trans (h : s.Touches t l) (k : t.Touches u l) : s.Touches u l :=
  ⟨h.sameBut.trans k.sameBut, k.mem.trans h.mem, k.bundles.trans h.bundles⟩

theorem mono {m : List Fld} (h : s.Touches t l) (hm : l ⊆ m) : s.Touches t m := ⟨h.sameBut.mono hm, h.mem, h.bundles⟩

theorem get (h : s.Touches t l) (f : Fld) (hf : f ∉ l) (d i : Nat) : t.get f d i = s.get f d i := h.sameBut f d i hf

theorem sameMem (h : s.Touches t l) : s.SameMem t := SameMem.of_mem h.mem

theorem put (h : s.Touches t l) (hf : f ∈ l) : s.Touches (t.put f d i v) l :=
  ⟨h.sameBut.put hf, by rw [put_mem, h.mem], by rw [put_bundles, h.bundles]⟩

theorem inc (h : s.Touches t l) (hf : f ∈ l) : s.Touches (t.inc f d i v) l := h.put hf
theorem dec (h : s.Touches t l) (hf : f ∈ l) : s.Touches (t.dec f d i v) l := h.put hf
theorem raiseTo (h : s.Touches t l) (hf : f ∈ l) : s.Touches (t.raiseTo f d i v) l := h.put hf

theorem ite {c : Prop} [Decidable c] {a b : State} (ha : s.Touches a l) (hb : s.Touches b l) : s.Touches (if c then a else b) l := by
  split <;> assumption

theorem when {c : Prop} [Decidable c] {g : State → State} (h : s.Touches t l) (hg : ∀ u, s.Touches u l → s.Touches (g u) l) :
    s.Touches (t.when c g) l := .ite (hg t h) h

theorem each {α : Type} {g : α → State → State} {m : List α} (h : s.Touches t l) (hg : ∀ a u, s.Touches u l → s.Touches (g a u) l) :
    s.Touches (t.each m g) l := State.each_keeps (P := fun u => s.Touches u l) t h fun a _ u => hg a u

theorem raisesAt {m : List Raise} {stamp : Nat} (h : s.Touches t l) (hl : raiseFlds ⊆ l) : s.Touches (t.raisesAt stamp d b m) l := by
  refine h.trans ?_
  cases hr : Raise.first (Raise.join m) with
  | none => unfold State.raisesAt; rw [hr]; exact .refl
  | some r =>
    obtain ⟨hget, hrest⟩ := t.raisesAt_within stamp d b hr
    exact ⟨fun f e j hf => hget ⟨f, e, j⟩ fun hm => hf (hl (fld_of_mem_raiseCells hm)), (congrArg State.mem hrest :),
      (congrArg State.bundles hrest :)⟩

/-- Queues, claims, messages, conditions and reports not yet made may differ. -/
theorem update {conds sent queue claims deferred} (h : s.Touches t l) :
    s.Touches { t with conds := conds, sent := sent, queue := queue, claims := claims, deferred := deferred } l :=
  ⟨h.sameBut, h.mem, h.bundles⟩

theorem condEnd {n : FaultName} (h : s.Touches t l) (hl : faultFlds ⊆ l) : s.Touches (t.condEnd n d b i) l :=
  .ite h.update ((h.update.put (hl (by decide))).when fun _ k => k.put (hl (by decide)))

/-! ### The end of a task, and a reset -/

theorem refreshIdle {c D : Nat} (h : s.Touches t countFlds) : s.Touches (t.refreshIdle d c D) countFlds :=
  .ite (h.when fun _ k => ((k.put (by decide)).put (by decide)).raiseTo (by decide)) (h.put (by decide))

/-- Beside its own state, a slot's move writes counts and idleness alone. -/
theorem slotMove_counts {c k new : Nat} : (t.put .SLOT_STATE_STATE d (slotIx c k) new).Touches (t.slotMove d c k new) countFlds :=
  .refreshIdle (.when (.when (.when (refl.when fun _ k => k.dec (by decide)) fun _ k => (k.dec (by decide)).dec (by decide))
    fun _ k => k.inc (by decide)) fun _ k => (k.inc (by decide)).inc (by decide))

theorem slotMove {c k new : Nat} (h : s.Touches t tongueFlds) : s.Touches (t.slotMove d c k new) tongueFlds :=
  (h.put (by decide)).trans (slotMove_counts.mono (by decide))

theorem queueGrow {c k : Nat} (h : s.Touches t tongueFlds) : s.Touches (t.queueGrow d c k) tongueFlds :=
  ((h.inc (by decide)).inc (by decide)).raiseTo (by decide)

theorem enqueue {c k later : Nat} (h : s.Touches t tongueFlds) : s.Touches (t.enqueue d c k later) tongueFlds := by
  dsimp only [State.enqueue]
  exact (h.update.inc (by decide)).queueGrow.slotMove

theorem giveFlow {c : Nat} (h : s.Touches t tongueFlds) : s.Touches (t.giveFlow d c i) tongueFlds :=
  .ite h (.ite ((h.put (by decide)).each fun _ _ k => k.update) (update (.ite h (h.put (by decide)))))

theorem slotLeaves {c k : Nat} (h : s.Touches t tongueFlds) : s.Touches (t.slotLeaves d c k) tongueFlds :=
  .ite h.slotMove (.ite h.enqueue h.slotMove)

theorem taskEnds (h : s.Touches t tongueFlds) : s.Touches (t.taskEnds d i) tongueFlds := h.giveFlow.slotLeaves

theorem abandonClaims {p : Claim → Bool} (h : s.Touches t tongueFlds) : s.Touches (t.abandonClaims p) tongueFlds :=
  each h.update fun _ _ k => .ite k.update.queueGrow k.slotMove

theorem newtLeavesIdle (h : s.Touches t tongueFlds) : s.Touches (t.newtLeavesIdle d i) tongueFlds := h.abandonClaims

theorem newtFlush (h : s.Touches t l) (hl : raiseFlds ⊆ l) : s.Touches (t.newtFlush d i) l :=
  each h.update fun _ _ k => k.raisesAt hl

theorem newtFaultEnds (h : s.Touches t l) (hl : faultFlds ⊆ l) : s.Touches (t.newtFaultEnds d i) l := (h.condEnd hl).condEnd hl

end State.Touches

/-! ### Where a slot goes that leaves service -/

section
variable {s t : State} {d n : Nat}

theorem State.slotMove_state {new : Nat} (s : State) (d c k : Nat) (hn : new < 4) :
    (s.slotMove d c k new).get .SLOT_STATE_STATE d (slotIx c k) = new := by
  rw [State.Touches.slotMove_counts.get _ (by decide), State.get_put_same]
  exact Nat.mod_eq_of_lt hn

theorem State.enqueue_state (s : State) (d c k later : Nat) : (s.enqueue d c k later).get .SLOT_STATE_STATE d (slotIx c k) = slotQueued := by
  dsimp only [State.enqueue]
  exact State.slotMove_state _ d c k (by decide)

theorem State.slotLeaves_state (s : State) (d c k : Nat) : (s.slotLeaves d c k).get .SLOT_STATE_STATE d (slotIx c k) =
    if s.get .SLOT_CTRL_EN d (slotIx c k) = 0 then slotDisabled else if s.slotReady d (slotIx c k) then slotQueued else slotWait := by
  unfold State.slotLeaves
  split
  · exact s.slotMove_state d c k (by decide)
  · split
    · exact s.enqueue_state d c k 0
    · exact s.slotMove_state d c k (by decide)

/-- A task of no flow gives none back. -/
theorem State.taskEnds_of_noFlow (h : s.get .NEWT_TASK_FLOW d n = 0) : s.taskEnds d n = s.slotLeaves d (n / 8) (s.newtSlot d n) := by
  unfold State.taskEnds
  rw [h]
  rfl

/-- A slot's readiness depends on its own cells. -/
theorem State.SameBut.slotReady {l : List Fld} (h : s.SameBut t l) (hl : ∀ f ∈ l, f ∉ [.SLOT_MASK, .SLOT_FLAGS, .SLOT_CTRL_MODE])
    (d x : Nat) : t.slotReady d x = s.slotReady d x := by
  have same (f : Fld) (hf : f ∈ [Fld.SLOT_MASK, .SLOT_FLAGS, .SLOT_CTRL_MODE]) : t.get f d x = s.get f d x :=
    h f d x fun k => hl f k hf
  unfold State.slotReady State.on
  rw [same .SLOT_MASK (by decide), same .SLOT_FLAGS (by decide), same .SLOT_CTRL_MODE (by decide)]

/-- Without claims nothing is abandoned. -/
theorem State.newtLeavesIdle_of_noClaims (h : s.claims = []) : s.newtLeavesIdle d n = s := by
  unfold State.newtLeavesIdle State.abandonClaims State.each
  simp only [h, List.filter_nil, List.map_nil, List.foldl_nil]
  rw [← h]

/-! ### Changes in the order of the writes -/

theorem Cells.find_append (k : Loc) (l m : List (Loc × Nat)) : Cells.find k (l ++ m) = (Cells.find k l).or (Cells.find k m) := by
  induction l with
  | nil => rfl
  | cons q l ih =>
    rw [List.cons_append, Cells.find, Cells.find, ih]
    split <;> rfl

theorem Cells.find_reverse {l : List (Loc × Nat)} (hl : (l.map Prod.fst).Nodup) (k : Loc) : Cells.find k l.reverse = Cells.find k l := by
  induction l with
  | nil => rfl
  | cons q l ih =>
    rw [List.map_cons, List.nodup_cons] at hl
    obtain ⟨hq, hl⟩ := hl
    have last : Cells.find k [q] = if q.1 = k then some q.2 else none := rfl
    have first : Cells.find k (q :: l) = if q.1 = k then some q.2 else Cells.find k l := rfl
    rw [List.reverse_cons, Cells.find_append, ih hl, last, first]
    split
    · next he =>
      have gone : Cells.find k l = none := Option.eq_none_iff_forall_not_mem.2 fun v hv =>
        hq (he ▸ List.mem_map_of_mem (f := Prod.fst) (Cells.find_mem hv))
      rw [gone, Option.none_or]
    · exact Option.or_none

/-- Cells that each change once, in the order in which they are written. -/
theorem State.Changes.inOrder {l : List (Loc × Nat)} (h : s.Changes t l.reverse) (hl : (l.map Prod.fst).Nodup) : s.Changes t l :=
  h.congr fun c => (Cells.find_reverse hl c).symm

/-- A write of one cell more, its value cut to the width. -/
theorem State.Changes.putMod {l : List (Loc × Nat)} (h : s.Changes t l) (f : Fld) (d i v : Nat) :
    s.Changes (t.put f d i v) ((⟨f, d, i⟩, v % 2 ^ f.width) :: l) := by
  rw [← State.put_mod]
  exact h.put f d i _ (Nat.mod_lt _ (Nat.two_pow_pos _))

/-- A newt changes state. -/
theorem State.Changes.newtGo {l : List (Loc × Nat)} {st : Nat} (h : s.Changes t l) (hs : st < 8) : s.Changes (t.newtGo d n st)
    ((⟨.NEWT_STATUS_CFGLOCK, d, n⟩, flag (st != newtParked)) :: (⟨.NEWT_STATUS_STATE, d, n⟩, st) :: l) :=
  (h.put _ _ _ _ hs).put _ _ _ _ (by unfold flag; split <;> decide)

/-! ### What the completion report writes -/

/-- The newt's own part of a completion report. -/
def State.reported (s : State) (d n : Nat) : State :=
  ((s.inc .NEWT_TASKS d n 1).newtGo d n (if s.on .NEWT_STATUS_PARK_PEND d n then newtParked else newtIdle)).put .NEWT_STATUS_PARK_PEND d n 0

theorem State.reported_touches (s : State) (d n : Nat) :
    s.Touches (s.reported d n) [.NEWT_TASKS, .NEWT_STATUS_STATE, .NEWT_STATUS_CFGLOCK, .NEWT_STATUS_PARK_PEND] :=
  (((State.Touches.refl.inc (by decide)).put (by decide)).put (by decide)).put (by decide)

theorem State.reported_tasks (s : State) (d n : Nat) : (s.reported d n).get .NEWT_TASKS d n = (s.get .NEWT_TASKS d n + 1) % 2 ^ 32 := by
  simp [State.reported, State.newtGo, State.inc, State.get_put]

theorem State.reported_parkPend (s : State) (d n : Nat) : (s.reported d n).get .NEWT_STATUS_PARK_PEND d n = 0 :=
  State.get_put_same ..

theorem State.reported_state (s : State) (d n : Nat) : (s.reported d n).get .NEWT_STATUS_STATE d n =
    if s.get .NEWT_STATUS_PARK_PEND d n = 1 then newtParked else newtIdle := by
  by_cases hp : s.get .NEWT_STATUS_PARK_PEND d n = 1 <;> simp [State.reported, State.newtGo, State.get_put, State.on, hp, newtParked, newtIdle]

theorem execCompletionReport_reported (hs : s.newtIs d n newtDraining = true) (hc : s.dieClocked d = true) :
    execCompletionReport d n s = .next ((s.reported d n).taskEnds d n) := next_when ⟨hs, hc⟩

/-! ### What a newt reset leaves -/

/-- Without an entry in the list a cell reads its reset value. -/
theorem State.get_filterCells_removed {p : Loc × Nat → Bool} (s : State) (c : Loc) (hp : ∀ v, p (c, v) = false) :
    ({ s with cells := s.cells.filter p } : State).get c.fld c.die c.inst = c.fld.reset c.die c.inst := by
  have gone : Cells.find c (s.cells.filter p) = none := by
    induction s.cells with
    | nil => rfl
    | cons q l ih =>
      rw [List.filter_cons]
      split
      · next hq =>
        rw [Cells.find, if_neg, ih]
        rintro rfl
        exact absurd hq (by rw [hp q.2]; decide)
      · exact ih
  unfold State.get
  rw [gone]
  rfl

/-- The newt's registers are at their reset values: the cells that a newt reset clears. -/
theorem State.get_resetNewt (s : State) (d n : Nat) (c : Loc) (hd : c.die = d) (hc : isNewtCell n c = true ∨ isNewtReg n c = true) :
    ((s.resetNewtCells d n).clearRegs d n).get c.fld c.die c.inst = c.fld.reset c.die c.inst := by
  have both : ((s.resetNewtCells d n).clearRegs d n).get c.fld c.die c.inst = ({ s with cells := s.cells.filter fun q =>
      !(q.1.die == d && isNewtReg n q.1) && !(q.1.die == d && isNewtCell n q.1) } : State).get c.fld c.die c.inst := by
    rw [← List.filter_filter]
    rfl
  rw [both]
  refine s.get_filterCells_removed c fun v => ?_
  rcases hc with hc | hc <;> simp [hd, hc]

/-- The state in which a newt reset clears the newt's cells. -/
def State.newtStopped (s : State) (d n : Nat) : State :=
  (((s.dropBundle d n).newtFlush d n).newtFaultEnds d n).when
    ((((s.dropBundle d n).newtFlush d n).newtFaultEnds d n).inService d n = true) fun t => t.taskEnds d n

theorem State.newtStopped_touches (s : State) (d n : Nat) : (s.dropBundle d n).Touches (s.newtStopped d n) (faultFlds ++ tongueFlds) :=
  State.Touches.when (((State.Touches.refl.newtFlush (by decide)).newtFaultEnds (by decide)).mono (List.subset_append_left ..))
    fun _ k => k.trans (State.Touches.refl.taskEnds.mono (List.subset_append_right ..))

theorem State.bundleOf_dropBundle (s : State) (d n : Nat) : (s.dropBundle d n).bundleOf d n = none := by
  unfold State.bundleOf State.dropBundle
  rw [List.find?_eq_none]
  intro b hb
  obtain ⟨-, other⟩ := List.mem_filter.1 hb
  simpa [imp_iff_not_or] using other

theorem State.newtReset_touches (s : State) (d n : Nat) :
    (((s.newtStopped d n).resetNewtCells d n).clearRegs d n).Touches (s.newtReset d n) tongueFlds := State.Touches.refl.newtLeavesIdle

theorem State.newtReset_bundleOf (s : State) (d n : Nat) : (s.newtReset d n).bundleOf d n = none := by
  have same : (s.newtReset d n).bundles = (s.dropBundle d n).bundles :=
    (s.newtReset_touches d n).bundles.trans (s.newtStopped_touches d n).bundles
  rw [State.bundleOf, same]
  exact s.bundleOf_dropBundle d n

theorem State.newtReset_sameMem (s : State) (d n : Nat) : s.SameMem (s.newtReset d n) :=
  SameMem.of_mem ((s.newtReset_touches d n).mem.trans (s.newtStopped_touches d n).mem)

/-- A newt reset gives every register of the newt its reset value. -/
theorem State.newtReset_get (s : State) {d n : Nat} (f : Fld) (i : Nat) (hc : isNewtCell n ⟨f, d, i⟩ = true ∨ isNewtReg n ⟨f, d, i⟩ = true)
    (hf : f ∉ tongueFlds) : (s.newtReset d n).get f d i = f.reset d i := by
  rw [(s.newtReset_touches d n).get _ hf]
  exact State.get_resetNewt _ d n ⟨f, d, i⟩ rfl hc

end

end Sys2Proof.Machine
end

section
/-! PROOF. -/

open Sys2Proof Sys2Proof.Machine

/-- Settles O13: at the completion report the newt's own cells change (`State.reported`) and its slot leaves service
(`State.slotLeaves_state`); a newt reset clears the newt's cells (`State.newtReset_get`), and what goes before and after writes no cell
of the newt and no memory. -/
theorem tasksEndAndNewtsPark : Obligations.TasksEndAndNewtsPark := by
  unfold Obligations.TasksEndAndNewtsPark
  intro s d n hd hn hc st x
  have state {k : Nat} (h : st = k) : s.newtIs d n k = true := by simpa [State.newtIs] using h
  have stateNot {k : Nat} (h : st ≠ k) : s.newtIs d n k = false := by simpa [State.newtIs] using h
  refine ⟨fun hs hclk hflow hslot => ?_, fun hs => ?_, fun hclk hs hcl => ?_, fun hclk hi hp => ?_, fun hclk hs => ?_, fun hs => ?_,
    fun hclk => ?_, fun hg => ?_, fun hg hclk => ?_⟩
  · have own := s.reported_touches d n
    have slot : (s.reported d n).newtSlot d n = s.newtSlot d n := own.get _ (by decide) d n
    have ends : (s.reported d n).taskEnds d n = (s.reported d n).slotLeaves d (n / 8) (s.newtSlot d n) := by
      rw [State.taskEnds_of_noFlow (by rw [own.get _ (by decide), hflow]), slot]
    have later := (State.Touches.refl (s := s.reported d n)).slotLeaves (d := d) (c := n / 8) (k := s.newtSlot d n)
    have goes := (s.reported d n).slotLeaves_state d (n / 8) (s.newtSlot d n)
    rw [own.get _ (by decide), own.sameBut.slotReady (by decide)] at goes
    refine ⟨_, execCompletionReport_reported (state hs) hclk, ?_⟩
    rw [ends]
    refine ⟨?_, ?_, SameMem.of_mem (later.mem.trans own.mem), ?_, fun hen => ?_, fun hen hr => ?_, fun hen hr => ?_⟩
    · rw [later.get _ (by decide), s.reported_tasks]
    · rw [later.get _ (by decide), s.reported_parkPend]
    · rw [later.get _ (by decide), s.reported_state]
    · rw [goes, if_pos hen]
    · rw [goes, if_neg (by rw [hen]; decide), hr]; rfl
    · rw [goes, if_neg (by rw [hen]; decide), hr]; rfl
  · exact next_when_not fun h => by simp [stateNot hs] at h
  · have parks : (s.newtGo d n newtParked).newtLeavesIdle d n = s.newtGo d n newtParked :=
      State.newtLeavesIdle_of_noClaims (by simp [State.newtGo, hcl])
    refine ⟨s.newtGo d n newtParked, ?_, ((State.Changes.refl s).newtGo (by decide)).inOrder (by simp)⟩
    exact (next_when hclk).trans (by rw [if_pos (state hs), parks])
  · refine ⟨s.put .NEWT_STATUS_PARK_PEND d n 1, ?_, (State.Changes.refl s).put _ _ _ _ (by decide)⟩
    exact (next_when hclk).trans (by rw [if_neg (by simp [stateNot hi]), State.when_true _ (stateNot hp)])
  · exact ⟨_, next_when ⟨hclk, state hs⟩, ((State.Changes.refl s).newtGo (by decide)).inOrder (by simp)⟩
  · exact next_when_not fun h => by simp [stateNot hs] at h
  · refine ⟨_, next_when hclk, State.Changes.inOrder ?_ (by simp)⟩
    exact (((((((State.Changes.refl s).put _ _ _ _ (by decide)).put _ _ _ _ (by decide)).put _ _ _ _ (by decide)).put _ _ _ _
      (by decide)).put _ _ _ _ (by decide)).put _ _ _ _ (by decide)).putMod ..
  · exact next_when_not fun h => by simp [hg] at h
  · refine ⟨_, next_when ⟨hg, hclk⟩, ?_, ?_, ?_, s.newtReset_bundleOf d n, fun k hk => ?_, fun k hk => ?_, s.newtReset_sameMem d n⟩
    · exact s.newtReset_get .NEWT_STATUS_STATE n (.inl (by simp [isNewtCell])) (by decide)
    · exact s.newtReset_get .NEWT_PC n (.inl (by simp [isNewtCell])) (by decide)
    · exact s.newtReset_get .NEWT_CFG_DBGEN n (.inl (by simp [isNewtCell])) (by decide)
    · exact s.newtReset_get .DBG_V (n * 256 + k) (.inr (by simp [isNewtReg]; omega)) (by decide)
    · exact s.newtReset_get .DBG_S (n * 16 + k) (.inr (by simp [isNewtReg]; omega)) (by decide)
end

section
/-! SUPPORT. Checks of a newt's memory without an injection, raises of one cycle, and what stops and starts a newt (R71, R93, R94, R99,
R132, R438). -/

namespace Sys2Proof.Machine

/-! ### Checks of a newt's memory (R71, R511) -/

section
variable {s t : State} {d n o inst : Nat}

/-- Without an injection a check counts, or sets the UE bit of its memory. -/
def newtCheckFlds : List Fld := [.NEWT_ECC_CE_CNT, .NEWT_ECC_DMEM_UE, .NEWT_ECC_PMEM_UE]

theorem decodeCheck_zero (x : Nat) : decodeCheck x 0 = ⟨x, 0, 0⟩ := rfl

theorem State.newtInjects_of_noCount (hinj : s.get .FLT_INJ_COUNT d (newtSet n) = 0) : s.newtInjects d n o = false := by
  simp [State.newtInjects, hinj]

theorem State.newtCheck_sound (herr : s.errs = []) (hinj : s.get .FLT_INJ_COUNT d (newtSet n) = 0) :
    s.newtCheck d n o = ⟨s.load d (newtLocal n o) 8, 0, 0⟩ := by
  have mask : s.errMask d (newtLocal n o) = 0 := by unfold State.errMask; rw [herr]; rfl
  unfold State.newtCheck
  rw [mask, State.newtInjects_of_noCount hinj, if_neg Bool.false_ne_true, Nat.xor_zero, decodeCheck_zero]

/-- What a check leaves without an injection. -/
theorem State.afterNewtCheck_eq (hinj : s.get .FLT_INJ_COUNT d (newtSet n) = 0) : s.afterNewtCheck d n o =
    if (s.newtCheck d n o).kind = 0 then s else if (s.newtCheck d n o).kind = 1 then s.incSat .NEWT_ECC_CE_CNT d n 1
    else if o < 0x20000 then s.put .NEWT_ECC_DMEM_UE d n 1 else s.put .NEWT_ECC_PMEM_UE d n 1 := by
  unfold State.afterNewtCheck
  dsimp only
  rw [State.when_false _ (by rw [State.newtInjects_of_noCount hinj]; decide)]

theorem State.afterNewtCheck_sound (herr : s.errs = []) (hinj : s.get .FLT_INJ_COUNT d (newtSet n) = 0) : s.afterNewtCheck d n o = s := by
  rw [State.afterNewtCheck_eq hinj, State.newtCheck_sound herr hinj, if_pos rfl]

/-- Sound words are read as memory holds them, and nothing changes. -/
theorem State.newtReadWords_sound (herr : s.errs = []) (hinj : s.get .FLT_INJ_COUNT d (newtSet n) = 0) (l : List Nat) :
    s.newtReadWords d n inst l = (s, l.map fun o => s.load d (newtLocal n o) 8, [], false) := by
  induction l with
  | nil => rfl
  | cons o l ih =>
    rw [State.newtReadWords, State.afterNewtCheck_sound herr hinj, State.newtCheck_sound herr hinj, ih]
    rfl

theorem State.afterNewtCheck_writes (hinj : s.get .FLT_INJ_COUNT d (newtSet n) = 0) : s.Writes (s.afterNewtCheck d n o) newtCheckFlds := by
  rw [State.afterNewtCheck_eq hinj]
  exact .ite .refl (.ite (State.Writes.refl.put (by decide)) (.ite (State.Writes.refl.put (by decide)) (State.Writes.refl.put (by decide))))

/-- Checks depend on memory, check words and injection. -/
theorem State.Writes.newtCheck (h : s.Writes t newtCheckFlds) : t.newtCheck d n o = s.newtCheck d n o := by
  have hmem : t.mem = s.mem := (congrArg State.mem h.rest :)
  have herrs : t.errs = s.errs := (congrArg State.errs h.rest :)
  have hload : t.load d (newtLocal n o) 8 = s.load d (newtLocal n o) 8 := by
    exact State.load_congr _ _ _ fun i _ => by unfold State.byte; rw [hmem]
  unfold State.newtCheck State.errMask State.newtInjects
  rw [hload, herrs, h.get .FLT_INJ_COUNT (by decide), h.get .FLT_INJ_SEL (by decide), h.get .FLT_INJ_MASK (by decide)]

/-- The first word is checked, then the others. -/
theorem State.newtReadWords_cons (o : Nat) (l : List Nat) : (s.newtReadWords d n inst (o :: l)).1 =
    ((s.afterNewtCheck d n o).newtReadWords d n inst l).1 := by
  rw [State.newtReadWords]

theorem State.newtReadWords_writes (hinj : s.get .FLT_INJ_COUNT d (newtSet n) = 0) (l : List Nat) :
    s.Writes (s.newtReadWords d n inst l).1 newtCheckFlds := by
  induction l generalizing s with
  | nil => exact .refl
  | cons o l ih =>
    have first := State.afterNewtCheck_writes (o := o) hinj
    rw [State.newtReadWords_cons]
    exact first.trans (ih (by rw [first.get _ (by decide), hinj]))

/-- A word that is not correctable makes the read uncorrectable. -/
theorem State.newtReadWords_ue (hinj : s.get .FLT_INJ_COUNT d (newtSet n) = 0) (hk : (s.newtCheck d n o).kind = 2) {l : List Nat}
    (ho : o ∈ l) : (s.newtReadWords d n inst l).2.2.2 = true := by
  induction l generalizing s with
  | nil => cases ho
  | cons a l ih =>
    have first := State.afterNewtCheck_writes (o := a) hinj
    rw [State.newtReadWords]
    rcases List.mem_cons.1 ho with rfl | ho
    · simp [hk]
    · rw [ih (by rw [first.get _ (by decide), hinj]) (by rw [first.newtCheck, hk]) ho, Bool.or_true]

theorem State.afterNewtCheck_pmemUe (hue : s.get .NEWT_ECC_PMEM_UE d n = 1) (hinj : s.get .FLT_INJ_COUNT d (newtSet n) = 0) :
    (s.afterNewtCheck d n o).get .NEWT_ECC_PMEM_UE d n = 1 := by
  rw [State.afterNewtCheck_eq hinj]
  split
  · exact hue
  · split
    · exact (State.get_put_fld _ (by decide) ..).trans hue
    · split
      · exact (State.get_put_fld _ (by decide) ..).trans hue
      · exact State.get_put_same ..

theorem State.newtReadWords_pmemUe_stays (hinj : s.get .FLT_INJ_COUNT d (newtSet n) = 0) (hue : s.get .NEWT_ECC_PMEM_UE d n = 1) (l : List Nat) :
    (s.newtReadWords d n inst l).1.get .NEWT_ECC_PMEM_UE d n = 1 := by
  induction l generalizing s with
  | nil => exact hue
  | cons o l ih =>
    have first := State.afterNewtCheck_writes (o := o) hinj
    rw [State.newtReadWords_cons]
    exact ih (by rw [first.get _ (by decide), hinj]) (State.afterNewtCheck_pmemUe hue hinj)

/-- A word of PMEM that is not correctable sets PMEM_UE. -/
theorem State.newtReadWords_pmemUe (hinj : s.get .FLT_INJ_COUNT d (newtSet n) = 0) (hk : (s.newtCheck d n o).kind = 2)
    (hp : 0x20000 ≤ o) {l : List Nat} (ho : o ∈ l) : (s.newtReadWords d n inst l).1.get .NEWT_ECC_PMEM_UE d n = 1 := by
  induction l generalizing s with
  | nil => cases ho
  | cons a l ih =>
    have first := State.afterNewtCheck_writes (o := a) hinj
    have noCount : (s.afterNewtCheck d n a).get .FLT_INJ_COUNT d (newtSet n) = 0 := by rw [first.get _ (by decide), hinj]
    rw [State.newtReadWords_cons]
    rcases List.mem_cons.1 ho with rfl | ho
    · refine State.newtReadWords_pmemUe_stays noCount ?_ l
      rw [State.afterNewtCheck_eq hinj, hk, if_neg (by decide), if_neg (by decide), if_neg (by omega)]
      exact State.get_put_same ..
    · exact ih noCount (by rw [first.newtCheck, hk]) ho

end

/-! ### Raises of one cycle -/

theorem Raise.first_mem {l : List Raise} {r : Raise} (h : Raise.first l = some r) : r ∈ l := by
  induction l generalizing r with
  | nil => cases h
  | cons a l ih =>
    rw [Raise.first] at h
    split at h
    · cases h; exact List.mem_cons_self
    · next q hq =>
      split at h
      · cases h; exact List.mem_cons_of_mem _ (ih hq)
      · cases h; exact List.mem_cons_self

theorem Raise.first_eq_none_iff {l : List Raise} : Raise.first l = none ↔ l = [] := by
  cases l with
  | nil => simp [Raise.first]
  | cons a l =>
    rw [Raise.first]
    split
    · simp
    · split <;> simp

theorem Raise.mem_join {l : List Raise} {r : Raise} : r ∈ Raise.join l ↔ r ∈ l := by
  induction l with
  | nil => simp [Raise.join]
  | cons a l ih =>
    rw [Raise.join]
    split
    · next ha =>
      rw [ih, List.mem_cons]
      exact ⟨.inr, fun h => h.elim (fun he => he ▸ ha) id⟩
    · rw [List.mem_cons, List.mem_cons, ih]

theorem Raise.testBit_bits {l : List Raise} {r : Raise} (h : r ∈ l) : (Raise.bits l).testBit r.name.code = true := by
  induction l with
  | nil => cases h
  | cons a l ih =>
    rw [Raise.bits, Nat.testBit_or]
    rcases List.mem_cons.1 h with rfl | h
    · simp
    · simp [ih h]

/-- Each of the raises of one cycle at one block sets its STICKY bit. -/
theorem State.raises_raised (s : State) (d b : Nat) {l : List Raise} {r : Raise} (h : r ∈ l) (hty : ∀ q ∈ l, q.name.type = r.name.type) :
    (s.raises d b l).Raised r.name d b := by
  cases hf : Raise.first (Raise.join l) with
  | none =>
    have empty := Raise.first_eq_none_iff.1 hf
    exact absurd (Raise.mem_join.2 h) (by simp [empty])
  | some q =>
    have hset : q.name.set b = r.name.set b := by
      unfold FaultName.set
      rw [hty q (Raise.mem_join.1 (Raise.first_mem hf))]
    have sticky := s.get_sticky_raisesAt (s.capture d) d b hf
    rw [hset] at sticky
    rw [State.Raised, State.raises, sticky, bitAt_eq_one_iff, Nat.testBit_mod_two_pow, Nat.testBit_or, Raise.testBit_bits h]
    simp [r.name.code_lt]

/-! ### A newt faults (R71, R132) -/

section
variable {s t : State} {d n st : Nat} {f : FaultName} {others : List Raise}

/-- The cells that a newt's entry to FAULTED writes. -/
def newtFaultFlds : List Fld := [.NEWT_REPT, .NEWT_STATUS_INREPT, .NEWT_STATUS_STATE, .NEWT_STATUS_CFGLOCK, .NEWT_PC] ++ faultFlds

theorem State.Touches.condMark {l : List Fld} {b : Nat} {r : Raise} (h : s.Touches t l) (hl : .FLT_LIVE ∈ l) :
    s.Touches (t.condMark d b r) l := .put (.ite h h.update) hl

theorem State.Touches.signal {l : List Fld} {b : Nat} {events conds : List Raise} (h : s.Touches t l) (hl : faultFlds ⊆ l) :
    s.Touches (t.signal d b events conds) l :=
  .raisesAt (h.each fun _ _ k => k.condMark (hl (by decide))) fun _ hf => hl (List.mem_cons_of_mem _ hf)

theorem State.Touches.newtGo {l : List Fld} (h : s.Touches t l) (hs : .NEWT_STATUS_STATE ∈ l) (hc : .NEWT_STATUS_CFGLOCK ∈ l) :
    s.Touches (t.newtGo d n st) l := (h.put hs).put hc

theorem State.Touches.reptEnd {l : List Fld} (h : s.Touches t l) (hr : .NEWT_REPT ∈ l) (hi : .NEWT_STATUS_INREPT ∈ l) (hl : raiseFlds ⊆ l) :
    s.Touches (t.reptEnd d n) l := ((h.put hr).put hi).newtFlush hl

/-- The newt in FAULTED, its fault not yet signalled. -/
def State.faulting (s : State) (d n : Nat) : State :=
  (((s.dropBundle d n).reptEnd d n).newtGo d n newtFaulted).put .NEWT_PC d n (s.get .NEWT_NEXT d n)

theorem State.faulting_touches (s : State) (d n : Nat) : (s.dropBundle d n).Touches (s.faulting d n)
    ([.NEWT_REPT, .NEWT_STATUS_INREPT, .NEWT_STATUS_STATE, .NEWT_STATUS_CFGLOCK, .NEWT_PC] ++ raiseFlds) :=
  ((State.Touches.refl.reptEnd (by decide) (by decide) (by decide)).newtGo (by decide) (by decide)).put (by decide)

theorem State.newtFaults_touches (s : State) (f : FaultName) (others : List Raise) (d n : Nat) :
    (s.faulting d n).Touches (s.newtFaults f others d n) faultFlds := State.Touches.refl.signal (List.Subset.refl _)

theorem State.newtFaults_sameMem (s : State) (f : FaultName) (others : List Raise) (d n : Nat) : s.SameMem (s.newtFaults f others d n) :=
  SameMem.of_mem ((s.newtFaults_touches f others d n).mem.trans (s.faulting_touches d n).mem)

/-- A cell that neither the entry nor the signal writes. -/
theorem State.newtFaults_get (s : State) (f : FaultName) (others : List Raise) (d n : Nat) {g : Fld} (hg : g ∉ newtFaultFlds) (e i : Nat) :
    (s.newtFaults f others d n).get g e i = s.get g e i := by
  simp only [newtFaultFlds, faultFlds, List.mem_append, List.mem_cons, not_or] at hg
  rw [(s.newtFaults_touches f others d n).get g (by simp [faultFlds, hg]), (s.faulting_touches d n).get g (by simp [hg])]
  rfl

theorem State.newtIs_newtGo (hs : st < 8) : (s.newtGo d n st).newtIs d n st = true := by
  simp [State.newtIs, State.newtGo, State.get_put, Nat.mod_eq_of_lt hs]

theorem State.newtFaults_state (s : State) (f : FaultName) (others : List Raise) (d n : Nat) :
    (s.newtFaults f others d n).newtIs d n newtFaulted = true := by
  have faulted := State.newtIs_newtGo (s := (s.dropBundle d n).reptEnd d n) (d := d) (n := n) (st := newtFaulted) (by decide)
  unfold State.newtIs at faulted ⊢
  rw [(s.newtFaults_touches f others d n).get _ (by decide), State.faulting, State.get_put_fld _ (by decide), faulted]

theorem State.newtFaults_pc (hc : s.canonical = true) (f : FaultName) (others : List Raise) (d n : Nat) :
    (s.newtFaults f others d n).get .NEWT_PC d n = s.get .NEWT_NEXT d n := by
  rw [(s.newtFaults_touches f others d n).get _ (by decide), State.faulting, State.get_put_same]
  exact Nat.mod_eq_of_lt (State.get_lt (f := .NEWT_NEXT) hc rfl)

theorem State.live_faulting (s : State) (d n : Nat) (f : FaultName) : (s.faulting d n).live d n f = s.live d n f := by
  unfold State.live
  rw [(s.faulting_touches d n).get _ (by decide)]
  rfl

/-- The fault is raised where it did not hold before. -/
theorem State.newtFaults_raised (hlive : s.live d n f = false) (hty : ∀ q ∈ others, q.name.type = f.type) :
    (s.newtFaults f others d n).Raised f d n := by
  have rising (x : Nat) : risingConds (s.faulting d n) d n [⟨f, x⟩] = [⟨f, x⟩] := by
    simp [risingConds, State.live_faulting, hlive]
  have signals : s.newtFaults f others d n = (s.faulting d n).signal d n others [⟨f, s.newtSlot d n⟩] := rfl
  rw [signals, State.signal, rising]
  refine State.raises_raised _ d n (r := ⟨f, s.newtSlot d n⟩) (by simp) fun q hq => ?_
  rcases List.mem_append.1 hq with hq | hq
  · exact hty q hq
  · rw [List.mem_singleton.1 hq]

end

/-! ### A newt halts and goes on (R93, R94) -/

section
variable {s : State} {d n : Nat}

@[simp] theorem State.dropBundle_get (s : State) (d n : Nat) (f : Fld) (e i : Nat) : (s.dropBundle d n).get f e i = s.get f e i := rfl

theorem State.newtHalts_sameBut (s : State) (d n : Nat) : s.SameBut (s.newtHalts d n)
    [.NEWT_STATUS_STATE, .NEWT_STATUS_CFGLOCK, .NEWT_STATUS_HALT_PEND, .NEWT_PC, .NEWT_STEP, .NEWT_HALTT] :=
  have h : s.SameBut s [.NEWT_STATUS_STATE, .NEWT_STATUS_CFGLOCK, .NEWT_STATUS_HALT_PEND, .NEWT_PC, .NEWT_STEP, .NEWT_HALTT] := .refl
  (((((h.put (by decide)).put (by decide)).put (by decide)).put (by decide)).put (by decide)).put (by decide)

theorem State.newtHalts_sameMem (s : State) (d n : Nat) : s.SameMem (s.newtHalts d n) :=
  SameMem.of_mem (by simp [State.newtHalts, State.dropBundle, State.newtGo])

theorem State.newtHalts_state (s : State) (d n : Nat) : (s.newtHalts d n).newtIs d n newtHalted = true := by
  simp [State.newtIs, State.newtHalts, State.newtGo, State.get_put, newtHalted]

theorem State.newtHalts_pc (hc : s.canonical = true) (d n : Nat) : (s.newtHalts d n).get .NEWT_PC d n = s.get .NEWT_NEXT d n := by
  have fits : s.get .NEWT_NEXT d n < 2 ^ 13 := State.get_lt (f := .NEWT_NEXT) hc rfl
  simpa [State.newtHalts, State.get_put] using fits

/-- A write of a cell leaves the scoreboards. -/
theorem State.put_withBoards (s : State) (b : List Board) (f : Fld) (d i v : Nat) :
    ({ s with boards := b } : State).put f d i v = { s.put f d i v with boards := b } := by
  unfold State.put
  split <;> rfl

theorem State.withBoards_same {b : List Board} (h : s.boards = b) : { s with boards := b } = s := by rw [← h]

/-- The scoreboard is no cell. -/
theorem State.Changes.boardWait {t : State} {l : List (Loc × Nat)} {k : Nat} (h : s.Changes t l) :
    s.Changes { t.boardWait d n k with boards := s.boards } l :=
  have kept : t.boards = s.boards := (congrArg State.boards h.2 :)
  have same : { t.boardWait d n k with boards := s.boards } = t := State.withBoards_same kept
  (congrArg (fun u => s.Changes u l) same).mpr h

/-- A newt runs on from HALTED past a breakpoint. -/
theorem State.newtGoesOn_changes (hc : s.canonical = true) (d n k : Nat) (hk : k < 2) :
    s.Changes { (s.newtGoesOn d n).put .NEWT_STEP d n k with boards := s.boards } [(⟨.NEWT_STATUS_STATE, d, n⟩, newtRun),
      (⟨.NEWT_STATUS_CFGLOCK, d, n⟩, 1), (⟨.NEWT_PC, d, n⟩, s.get .NEWT_LAST d n), (⟨.NEWT_SKIPBP, d, n⟩, 1), (⟨.NEWT_STEP, d, n⟩, k)] := by
  have boards : { (s.newtGoesOn d n).put .NEWT_STEP d n k with boards := s.boards } =
      ((s.newtLeaves d n newtRun).put .NEWT_SKIPBP d n 1).put .NEWT_STEP d n k := by
    have kept : (((s.newtLeaves d n newtRun).put .NEWT_SKIPBP d n 1).put .NEWT_STEP d n k).boards = s.boards := by
      simp [State.newtLeaves, State.newtGo]
    unfold State.newtGoesOn State.boardWait State.setBoard
    dsimp only
    rw [State.put_withBoards]
    exact State.withBoards_same kept
  have written := ((((State.Changes.refl s).newtGo (d := d) (n := n) (st := newtRun) (by decide)).put .NEWT_PC d n _
    (State.get_lt (f := .NEWT_LAST) (d := d) (i := n) hc rfl)).put .NEWT_SKIPBP d n 1 (by decide)).put .NEWT_STEP d n k hk
  rw [boards]
  exact State.Changes.inOrder written (by simp)

/-! ### A condition ceases (R442) -/

theorem bitAt_clearBit (v k : Nat) : bitAt (clearBit v k) k = 0 := by
  unfold clearBit
  split
  · next h =>
    unfold bitAt at h ⊢
    have cut := Nat.sub_mul_div v (2 ^ k) 1
    rw [Nat.mul_one] at cut
    rw [cut]
    omega
  · next h =>
    unfold bitAt at h ⊢
    omega

theorem State.condEnd_conds (s : State) (f : FaultName) (d b i : Nat) :
    (s.condEnd f d b i).conds = s.conds.erase ⟨d, f.set b, f.code, i⟩ := by
  unfold State.condEnd
  dsimp only
  split
  · rfl
  · exact State.when_keeps (P := fun u => u.conds = s.conds.erase ⟨d, f.set b, f.code, i⟩) _ (by simp) (by simp)

/-- LIVE falls with the last place where the condition holds. -/
theorem State.condEnd_live {f : FaultName} {b i : Nat}
    (h : (s.conds.erase ⟨d, f.set b, f.code, i⟩).any (fun c => c.die == d && c.set == f.set b && c.code == f.code) = false) :
    (s.condEnd f d b i).live d b f = false := by
  have falls : (s.condEnd f d b i).get .FLT_LIVE d (f.set b) = clearBit (s.get .FLT_LIVE d (f.set b)) f.code % 2 ^ 32 := by
    unfold State.condEnd
    dsimp only
    rw [if_neg (by simp [h])]
    exact State.when_keeps (P := fun u => u.get .FLT_LIVE d (f.set b) = clearBit (s.get .FLT_LIVE d (f.set b)) f.code % 2 ^ 32) _
      (State.get_put_same ..) ((State.get_put_fld _ (by decide) ..).trans (State.get_put_same ..))
  have clear := (bitAt_eq_zero_iff ..).1 (bitAt_clearBit (s.get .FLT_LIVE d (f.set b)) f.code)
  unfold State.live
  rw [falls, (bitAt_eq_zero_iff ..).2 (by rw [Nat.testBit_mod_two_pow, clear, Bool.and_false])]
  rfl

/-- With an illegal bundle as the newt's only condition, its end clears LIVE. -/
theorem State.newtFaultEnds_illegal (h : s.conds = [⟨d, newtSet n, 1, s.newtSlot d n⟩]) :
    (s.newtFaultEnds d n).live d n .NEWT_ILLEGAL = false := by
  refine State.condEnd_live ?_
  rw [State.condEnd_conds, h]
  simp [FaultName.set, FaultName.code, FaultName.type]

end

/-! ### The fetch -/

section
variable {s : State} {d n : Nat}

/-- The 64-bit word that holds the next bundle's first word is one of those the fetch checks (R70). -/
theorem mem_fetchWords {pc l : Nat} (hl : 1 ≤ l) :
    0x20000 + pc / 2 * 8 ∈ wordsOf (0x20000 + pc / 4 * 16) (((pc + l - 1) / 4 - pc / 4 + 1) * 16) := by
  unfold wordsOf
  rw [if_neg (by omega)]
  refine List.mem_map.2 ⟨pc / 2 - pc / 4 * 2, List.mem_range.2 ?_, ?_⟩ <;> omega

theorem State.bundleLen_pos (s : State) (d n pc : Nat) : 1 ≤ s.bundleLen d n pc := by
  unfold State.bundleLen
  dsimp only
  split
  · decide
  · split <;> decide

/-- The words that the fetch of the next bundle checks. -/
def State.fetchWords (s : State) (d n : Nat) : List Nat :=
  let pc := s.get .NEWT_NEXT d n
  wordsOf (0x20000 + pc / 4 * 16) (((pc + min (s.bundleLen d n pc) (8192 - pc) - 1) / 4 - pc / 4 + 1) * 16)

theorem State.mem_fetchWords (hc : s.canonical = true) (d n : Nat) : 0x20000 + s.get .NEWT_NEXT d n / 2 * 8 ∈ s.fetchWords d n := by
  have fits : s.get .NEWT_NEXT d n < 2 ^ 13 := State.get_lt (f := .NEWT_NEXT) hc rfl
  have some := s.bundleLen_pos d n (s.get .NEWT_NEXT d n)
  exact Machine.mem_fetchWords (by omega)

/-- The fetch of a running newt that keeps its reads. -/
theorem exec_instructionFetch (hs : s.newtIs d n newtRun = true) (hc : s.dieClocked d = true) :
    exec (.instructionFetch d n false) s = .next
      (let r := s.newtReadWords d n 0xFFFF (s.fetchWords d n)
       let ce := r.2.2.1.filter fun q => q.name == .NEWT_ECC_CE
       if r.2.2.2 then r.1.newtFaults .NEWT_PMEM_UE ce d n else r.1.newtRaise d n ce) := next_when ⟨hs, hc⟩

/-- With sound words a fetch changes nothing. -/
theorem exec_instructionFetch_sound (herr : s.errs = []) (hinj : s.get .FLT_INJ_COUNT d (newtSet n) = 0) :
    exec (.instructionFetch d n false) s = .next s := by
  by_cases run : s.newtIs d n newtRun = true ∧ s.dieClocked d = true
  · rw [exec_instructionFetch run.1 run.2, State.newtReadWords_sound herr hinj]
    rfl
  · exact next_when_not run

/-- A fetch that loses its read costs a cycle. -/
theorem exec_instructionFetch_stalled (hs : s.newtIs d n newtRun = true) (hc : s.dieClocked d = true) :
    Completes (.instructionFetch d n true) s fun t =>
      s.Changes { t with boards := s.boards } [(⟨.NEWT_STALL_FAB, d, n⟩, (s.get .NEWT_STALL_FAB d n + 1) % 2 ^ 32)] := by
  exact ⟨_, next_when ⟨hs, hc⟩, ((State.Changes.refl s).putMod ..).boardWait⟩

/-- An uncorrectable word of the next bundle faults the newt (R71). -/
theorem exec_instructionFetch_uncorrectable (hcan : s.canonical = true) (hs : s.newtIs d n newtRun = true) (hc : s.dieClocked d = true)
    (hinj : s.get .FLT_INJ_COUNT d (newtSet n) = 0) (hk : (s.newtCheck d n (0x20000 + s.get .NEWT_NEXT d n / 2 * 8)).kind = 2)
    (hlive : s.live d n .NEWT_PMEM_UE = false) : Completes (.instructionFetch d n false) s fun t =>
      t.newtIs d n newtFaulted = true ∧ t.get .NEWT_PC d n = s.get .NEWT_NEXT d n ∧ t.get .NEWT_ECC_PMEM_UE d n = 1 ∧
        t.Raised .NEWT_PMEM_UE d n ∧ s.SameMem t := by
  have word := State.mem_fetchWords hcan d n
  have reads := State.newtReadWords_writes (inst := 0xFFFF) hinj (s.fetchWords d n)
  have uncorrectable := State.newtReadWords_ue (inst := 0xFFFF) hinj hk word
  have flagged := State.newtReadWords_pmemUe (inst := 0xFFFF) hinj hk (by omega) word
  refine ⟨_, exec_instructionFetch hs hc, ?_⟩
  dsimp only
  rw [if_pos uncorrectable]
  refine ⟨State.newtFaults_state .., ?_, ?_, State.newtFaults_raised ?_ ?_, ?_⟩
  · rw [State.newtFaults_pc ((State.Keeps.refl (p := fun _ => False)).newtReadWords.canonical hcan), reads.get _ (by decide)]
  · rw [State.newtFaults_get _ _ _ _ _ (by decide), flagged]
  · unfold State.live at hlive ⊢
    rw [reads.get _ (by decide), hlive]
  · intro q hq
    have corrected := (List.mem_filter.1 hq).2
    rw [beq_iff_eq] at corrected
    rw [corrected]
    rfl
  · exact fun e a => (State.newtFaults_sameMem _ _ _ _ _ e a).trans (reads.sameMem e a)

end

/-! ### NEWT_CTL and the breakpoints (R93 to R95) -/

section
variable {s : State} {d n : Nat} (hclk : s.dieClocked d = true)

theorem exec_haltReq_noDebug (hd : s.dbgEn d n = false) : exec (.haltReq d n) s = .next s := by
  by_cases clocked : s.dieClocked d = true
  · exact (next_when clocked).trans (by rw [if_pos (.inl hd)])
  · exact next_when_not clocked

include hclk

theorem exec_haltReq_idle (hd : s.dbgEn d n = true) (hs : s.get .NEWT_STATUS_STATE d n = newtIdle) :
    exec (.haltReq d n) s = .next (s.put .NEWT_STATUS_HALT_PEND d n 1) := by
  refine (next_when hclk).trans ?_
  rw [if_neg (by simp [hd, State.newtIs, hs]), if_neg (by simp [State.newtIs, hs])]

theorem exec_haltReq_run (hd : s.dbgEn d n = true) (hs : s.get .NEWT_STATUS_STATE d n = newtRun) (hb : s.bundleOf d n = none)
    (hr : s.get .NEWT_STATUS_INREPT d n = 0) : exec (.haltReq d n) s = .next (s.newtHalts d n) := by
  refine (next_when hclk).trans ?_
  rw [if_neg (by simp [hd, State.newtIs, hs]), if_pos (by simp [State.newtIs, hs, hb, State.on, hr])]

theorem exec_breakpointMatch_halts (hd : s.dbgEn d n = true) (hs : s.newtIs d n newtRun = true) (hb : s.bundleOf d n = none)
    (hr : s.get .NEWT_STATUS_INREPT d n = 0) (hskip : s.get .NEWT_SKIPBP d n = 0) (hhit : s.bkptHit d n = true) :
    exec (.breakpointMatch d n) s = .next (s.newtHalts d n) := by
  refine (next_when ⟨hs, hclk, hd, hb, hhit⟩).trans ?_
  rw [if_neg (by simp [State.on, hr]), State.when_true _ (by simp [State.on, hskip])]

/-- ABORT: a halted or faulted newt drains, and an illegal bundle's condition ends with the state. -/
theorem exec_abort_drains (hs : s.newtIs d n newtHalted = true ∨ s.newtIs d n newtFaulted = true) :
    Completes (.abort d n) s fun t => t.newtIs d n newtDraining = true ∧ t.get .NEWT_STATUS_ABORTED d n = 1 ∧ s.SameMem t ∧
      (s.conds = [⟨d, newtSet n, 1, s.newtSlot d n⟩] → t.live d n .NEWT_ILLEGAL = false) := by
  refine ⟨_, next_when ⟨hclk, hs⟩, ?_, ?_, ?_, fun hcond => ?_⟩
  · simp [State.newtIs, State.newtDrains, State.newtGo, State.get_put, newtDraining]
  · exact State.get_put_same ..
  · refine SameMem.of_mem ?_
    have ends := (State.Touches.refl (s := s)).newtFaultEnds (d := d) (i := n) (l := faultFlds) (List.Subset.refl _)
    simp only [State.newtDrains, State.newtLeaves, State.newtGo, State.put_mem, ends.mem]
  · have ended := State.newtFaultEnds_illegal hcond
    unfold State.live at ended ⊢
    rw [← ended]
    simp [State.newtDrains, State.newtLeaves, State.newtGo, State.get_put]

end

theorem State.bkptHit_of_second {s : State} {d n : Nat} (hen : s.get .NEWT_BKPT_EN d (n * 2 + 1) = 1)
    (haddr : s.get .NEWT_BKPT_ADDR d (n * 2 + 1) = s.get .NEWT_NEXT d n) : s.bkptHit d n = true := by
  simp [State.bkptHit, State.on, hen, haddr]

/-! ### The debug registers (R99) -/

section
variable {s : State} {r : FabReq} {h : RegHit} {n off : Nat} (hp : s.Passes r) (hal : r.loc % 4 = 0) (hlen : r.len = 4)
  (hplace : place r.tdie r.loc = .reg .newt n off) (hfind : regFind r.tdie .newt n off = some h)

include hplace hfind

theorem FabReq.register_of_newtPlace : r.register = some h := by
  unfold FabReq.register
  rw [hplace]
  exact hfind

include hp hal hlen

/-- A request for a newt's register that passes the fabric's checks enters, also where the register does not answer. -/
theorem State.Passes.newtFabEnter : s.fabEnter r = (s.granted r, .here (place r.tdie r.loc)) := by
  obtain ⟨-, hdie, htdie, hlt, hown, hroute, -, hgill, hperm⟩ := hp
  have hsame := s.granted_sameBut r
  have hmiss : (s.granted r).missing r.tdie (place r.tdie r.loc) = false := by simp [State.missing, hplace, hfind]
  have htake : (place r.tdie r.loc).takes r = true := by simp [hplace, Place.takes, FabReq.isWord, hlen, hal]
  have htarget : (s.granted r).fabTarget r = (s.granted r, .here (place r.tdie r.loc)) := by
    unfold State.fabTarget
    rw [if_neg fun k => k.2 (hgill k.1), hmiss, if_neg (by rw [hplace]; simp), if_neg (by simp [htake]), hsame.permits,
      if_neg (by simp [hperm])]
  unfold State.fabEnter State.fabCheck State.fabFar
  simp only [hsame.dieClocked, hsame.ownUnit, hsame.routeUp, hdie, htdie, hown, hroute, Nat.not_le.2 hlt, htarget]
  simp

/-- A barred register answers with an error and takes nothing. -/
theorem State.Passes.access_barred (hbar : s.dbgBarred r.tdie h = true) : s.access r = (s.entered r).reply 0 true := by
  have barred : (s.entered r).dbgBarred r.tdie h = true := by rw [(s.entered_sameBut r).dbgBarred, hbar]
  have hflits : s.flitsOf r = [] := by
    obtain ⟨-, -, -, -, -, -, hflits, -⟩ := hp
    exact hflits
  unfold State.access
  rw [State.Passes.newtFabEnter hp hal hlen hplace hfind]
  simp only [State.overLinks, s.granted_flitsOf, hflits, if_true, hplace, State.serveAt, State.regAccess, hfind]
  rw [if_neg (by simp)]
  have answers (w : Bool) : (if w then (s.entered r).regWrite r h else (s.entered r).regRead r h) = (s.entered r).reply 0 true := by
    cases w
    · exact if_pos barred
    · exact if_pos barred
  exact answers r.write

end

section
variable {s : State} {md p addr data n off : Nat} {w : Bool} {h : RegHit}

/-- A debug register, as the command tests it. -/
def FabReq.debugWord (r : FabReq) : Bool :=
  match r.register with
  | some h => h.row.blk == .newt && 0x1000 ≤ h.row.off
  | none => false

theorem exec_dbgRegisterAccess (s : State) (md p addr : Nat) (w : Bool) (data : Nat) :
    exec (.dbgRegisterAccess md p addr w data) s = .next (s.regCommand md p addr w data 0 0 FabReq.debugWord) := rfl

theorem FabReq.debugWord_of_register {r : FabReq} (hr : r.register = some h) (hblk : h.row.blk = .newt) (hoff : 0x1000 ≤ h.row.off) :
    r.debugWord = true := by
  simp [FabReq.debugWord, hr, hblk, hoff]

/-- Outside HALTED and FAULTED an access of a debug register is answered with an error and changes nothing else. -/
theorem exec_dbgRegisterAccess_barred (hp : s.Passes (s.request md p addr w 4 data)) (hal : (s.request md p addr w 4 data).loc % 4 = 0)
    (hplace : place (s.request md p addr w 4 data).tdie (s.request md p addr w 4 data).loc = .reg .newt n off)
    (hfind : regFind (s.request md p addr w 4 data).tdie .newt n off = some h) (hblk : h.row.blk = .newt) (hoff : 0x1000 ≤ h.row.off)
    (hbar : s.dbgBarred (s.request md p addr w 4 data).tdie h = true) : Completes (.dbgRegisterAccess md p addr w data) s fun t =>
      t.answer = ⟨0, true⟩ ∧ s.OnlyServed t (s.request md p addr w 4 data) [] := by
  have named := FabReq.register_of_newtPlace hplace hfind
  obtain ⟨may, -, -, -, -, -, flits, -⟩ := id hp
  have served : s.Serves ((s.entered (s.request md p addr w 4 data)).reply 0 true) ⟨0, true⟩
      (s.fabCells (s.request md p addr w 4 data) ++ []) := (State.entered_serves flits (List.subset_append_left ..)).reply
  have debug : FabReq.debugWord { s.request md p addr w 4 data with tie := 0, before := 0 } = true :=
    FabReq.debugWord_of_register named hblk hoff
  refine ⟨_, (exec_dbgRegisterAccess ..).trans (congrArg Host.Outcome.next ?_), served.answer_eq, served.within⟩
  unfold State.regCommand
  dsimp only
  rw [State.when_true _ ⟨may, debug⟩]
  exact State.Passes.access_barred hp hal rfl hplace hfind hbar

end

section
variable {s : State} {r : FabReq} {h : RegHit} (hf : h.row.fields = [⟨.DBG_S, 0, .RW⟩]) (hwide : h.row.wide = false)
  (hreach : s.Reaches r h)
include hf

theorem RegHit.head_of_dbgS : h.head = .DBG_S := by rw [RegHit.head, hf]; rfl

include hwide hreach

/-- A read of a scalar register where it answers. -/
theorem State.Reaches.read_dbgS (htie : r.tie = 0) : ((s.entered r).regRead r h).answer = ⟨s.get .DBG_S r.tdie h.inst, false⟩ ∧
    ((s.entered r).regRead r h).get .DBG_S r.tdie h.inst = s.get .DBG_S r.tdie h.inst := by
  have head := RegHit.head_of_dbgS hf
  have same := s.entered_sameBut r
  have shown : (s.entered r).shown r.tdie 0 r.before h = s.get .DBG_S r.tdie h.inst := by
    rw [State.shown_zero]
    simp [State.regValue, hf, State.fieldValue, same.get_listed .DBG_S _ _ rfl]
  rw [State.regRead_narrow hreach.dbgBarred hwide (by simp [head]), htie, shown, State.readClears_eq (by simp [head]) (by simp [head]), hf]
  exact ⟨rfl, same.get_listed .DBG_S _ _ rfl⟩

/-- A write of a scalar register where it answers. -/
theorem State.Reaches.write_dbgS (hdata : r.data < 2 ^ 32) : ((s.entered r).regWrite r h).answer = ⟨0, false⟩ ∧
    ((s.entered r).regWrite r h).get .DBG_S r.tdie h.inst = r.data := by
  have head := RegHit.head_of_dbgS hf
  have plain (t : State) (c v : Nat) : t.regStore r.tdie c h v = t.regPlain r.tdie h v := by
    unfold State.regStore State.netStore State.ctlStore
    rw [head]
  have noRecord : h.head = .FLT_FIRST_CODE → bitAt r.tie 7 = 0 := by simp [head]
  have served : s.Serves ((s.entered r).reply 0 false) ⟨0, false⟩ (s.fabCells r ++ h.locs r.tdie) := hreach.entered_serves.reply
  have taken := State.regTake_fieldTaken (v := r.data) hreach.regular (by simp [head]) plain noRecord
    (t := (s.entered r).reply 0 false) (s.entered_sameBut r) (by simp [RegHit.cells, hf]) (f := ⟨.DBG_S, 0, .RW⟩) (by simp [hf])
  rw [State.regWrite_narrow hreach.dbgBarred hwide hdata]
  refine ⟨(served.regTake hreach.regular (by simp [head]) plain noRecord (List.subset_append_right ..)).answer_eq, taken.trans ?_⟩
  simpa [bitsAt] using hdata

end

section
variable {s : State} {md p addr data n off : Nat} {w : Bool} {h : RegHit}

/-- In HALTED and FAULTED a scalar register is read and written. -/
theorem exec_dbgRegisterAccess_dbgS (hreach : s.Reaches (s.request md p addr w 4 data) h) (hdata : data < 2 ^ 32)
    (hblk : h.row.blk = .newt) (hoff : 0x1000 ≤ h.row.off) (hwide : h.row.wide = false) (hf : h.row.fields = [⟨.DBG_S, 0, .RW⟩]) :
    Completes (.dbgRegisterAccess md p addr w data) s fun t => t.answer.err = false ∧
      (w = false → t.answer.data = s.get .DBG_S (s.request md p addr w 4 data).tdie h.inst) ∧
      t.get .DBG_S (s.request md p addr w 4 data).tdie h.inst =
        if w then data else s.get .DBG_S (s.request md p addr w 4 data).tdie h.inst := by
  have debug : FabReq.debugWord { s.request md p addr w 4 data with tie := 0, before := 0 } = true :=
    FabReq.debugWord_of_register hreach.register hblk hoff
  cases w with
  | false =>
    obtain ⟨answer, stays⟩ := hreach.read_dbgS hf hwide rfl
    exact ⟨_, (exec_dbgRegisterAccess ..).trans (congrArg Host.Outcome.next (State.regCommand_read hreach debug)),
      congrArg FabResp.err answer, fun _ => congrArg FabResp.data answer, stays⟩
  | true =>
    obtain ⟨answer, taken⟩ := hreach.write_dbgS hf hwide hdata
    exact ⟨_, (exec_dbgRegisterAccess ..).trans (congrArg Host.Outcome.next (State.regCommand_write hreach debug)),
      congrArg FabResp.err answer, by simp, taken⟩

end

end Sys2Proof.Machine
end

section
/-! PROOF. -/

open Sys2Proof Sys2Proof.Machine

/-- Settles O12: a fetch by its checks (`exec_instructionFetch_uncorrectable`), a fault by `State.newtFaults`, a halt by
`State.newtHalts`, the debug registers by the checks of the fabric (`State.Passes.access_barred`) and of R99. -/
theorem fetchAndDebugStops : Obligations.FetchAndDebugStops := by
  unfold Obligations.FetchAndDebugStops
  intro s d n _ _ hc pc st
  have state {k : Nat} (h : st = k) : s.newtIs d n k = true := by simpa [State.newtIs] using h
  have stateNot {k : Nat} (h : st ≠ k) : s.newtIs d n k = false := by simpa [State.newtIs] using h
  have notHalted (h : st = newtRun) : s.newtIs d n newtHalted = false := stateNot (by rw [h]; decide)
  have notFaulted (h : st = newtRun) : s.newtIs d n newtFaulted = false := stateNot (by rw [h]; decide)
  have debug (h : s.get .NEWT_CFG_DBGEN d n = 1) : s.dbgEn d n = true := by simp [State.dbgEn, State.on, h]
  have noDebug (h : s.get .NEWT_CFG_DBGEN d n = 0) : s.dbgEn d n = false := by simp [State.dbgEn, State.on, h]
  refine ⟨fun _ herr hinj => exec_instructionFetch_sound herr hinj, fun hs hclk => exec_instructionFetch_stalled (state hs) hclk,
    fun hs hclk hinj hk hlive => exec_instructionFetch_uncorrectable hc (state hs) hclk hinj hk hlive, fun hs hclk hill hlive => ?_,
    fun hs hclk hen hbun hrept hskip hbk haddr => ?_, fun hen => ⟨?_, ?_, ?_⟩, fun hclk hen hs => ?_, fun hclk hen hs hbun hrept => ?_,
    fun hs hclk => ⟨?_, fun hen => ?_⟩, fun hs => ⟨?_, ?_, ?_⟩, fun hs hclk => ?_, ?_⟩
  · exact ⟨_, next_when ⟨state hs, hclk, hill⟩, State.newtFaults_state .., State.newtFaults_pc hc .., State.newtFaults_raised hlive (by simp),
      s.newtFaults_sameMem _ _ d n⟩
  · exact ⟨_, exec_breakpointMatch_halts hclk (debug hen) (state hs) hbun hrept hskip (State.bkptHit_of_second hbk haddr),
      s.newtHalts_state d n, State.newtHalts_pc hc d n, s.newtHalts_sameMem d n, s.newtHalts_sameBut d n⟩
  · exact exec_haltReq_noDebug (noDebug hen)
  · exact next_when_not fun h => by simp [noDebug hen] at h
  · exact next_when_not fun h => by simp [noDebug hen] at h
  · exact ⟨_, exec_haltReq_idle hclk (debug hen) hs, (State.Changes.refl s).put _ _ _ _ (by decide)⟩
  · exact ⟨_, exec_haltReq_run hclk (debug hen) hs hbun hrept, s.newtHalts_state d n, State.newtHalts_pc hc d n, s.newtHalts_sameMem d n⟩
  · exact ⟨_, next_when ⟨hclk, state hs⟩, State.newtGoesOn_changes hc d n 0 (by decide)⟩
  · exact ⟨_, next_when ⟨hclk, state hs, debug hen⟩, State.newtGoesOn_changes hc d n 1 (by decide)⟩
  · exact next_when_not fun h => by simp [notHalted hs] at h
  · exact next_when_not fun h => by simp [notHalted hs] at h
  · exact next_when_not fun h => by simp [notHalted hs, notFaulted hs] at h
  · obtain ⟨t, ran, drains, aborted, mem, ends⟩ := exec_abort_drains hclk (hs.imp state state)
    exact ⟨t, ran, drains, aborted, mem, fun _ => ends⟩
  · intro md p addr w data off h hdata r hpass hal hdie hplace hfind
    rw [← hdie] at hplace hfind
    refine ⟨fun hoff hcount hinst hblk hh hf => ?_, fun hoff hwide hblk hfields hcount hinst hs => ?_⟩
    · have bar : s.dbgBarred r.tdie h = true := by
        rw [hdie]
        simp [State.dbgBarred, hblk, hoff, hcount, hinst, stateNot hh, stateNot hf]
      exact exec_dbgRegisterAccess_barred hpass hal hplace hfind hblk hoff bar
    · have answers : s.dbgBarred r.tdie h = false := by
        rw [hdie]
        rcases hs with hs | hs <;> simp [State.dbgBarred, hcount, hinst, state hs]
      have window (b : Block) (i o : Nat) (hp : place r.tdie r.loc = .reg b i o) : ¬ (b = .axo ∧ 0x10000 ≤ o ∧ o < 0x20000) := by
        rw [hplace] at hp
        cases hp
        simp
      have hreach : s.Reaches r h := ⟨hpass, hal, FabReq.register_of_newtPlace hplace hfind, answers, window⟩
      have access := exec_dbgRegisterAccess_dbgS hreach hdata hblk (by omega) hwide hfields
      change (s.request md p addr w 4 data).tdie = d at hdie
      rwa [hdie] at access
end

section
/-! SUPPORT. The values of lanes as rationals: exact operations, the one rounding, accumulators (R79 to R82). -/

namespace Sys2Proof.Machine

/-! ### Values -/

/-- A finite value as a rational; NaN and the infinities count as 0. -/
def FpVal.rat : FpVal → ℚ
  | .fin n s e => (sigInt n s : ℚ) * 2 ^ e
  | .nan | .inf _ | .zero _ => 0

/-- A finite value, its significand not 0 where it is not a zero. -/
def FpVal.Finite : FpVal → Prop
  | .zero _ => True
  | .fin _ s _ => s ≠ 0
  | .nan | .inf _ => False

theorem sigInt_eq (n : Bool) (s : Nat) : ((sigInt n s : ℤ) : ℚ) = (if n then -1 else 1) * (s : ℚ) := by
  cases n <;> simp [sigInt]

theorem sigInt_xor (m n : Bool) (s t : Nat) : sigInt (m != n) (s * t) = sigInt m s * sigInt n t := by
  cases m <;> cases n <;> simp [sigInt]

theorem sigInt_ne_zero {n : Bool} {s : Nat} (h : s ≠ 0) : sigInt n s ≠ 0 := by
  cases n <;> simp [sigInt, h]

theorem sigInt_natAbs (x : ℤ) : sigInt (x < 0) x.natAbs = x := by
  by_cases h : x < 0
  · simp only [sigInt, h, decide_true, if_true]; omega
  · simp only [sigInt, h, decide_false]; simp; omega

/-- A significand over a smaller exponent. -/
theorem zpow_shift {e m : ℤ} (h : m ≤ e) : (2 : ℚ) ^ e = ((2 ^ (e - m).toNat : Nat) : ℚ) * 2 ^ m := by
  have split : e = ((e - m).toNat : ℤ) + m := by omega
  conv_lhs => rw [split, zpow_add₀ two_ne_zero, zpow_natCast]
  push_cast
  rfl

/-! ### Exact operations (R80) -/

theorem FpVal.Finite.neg {x : FpVal} (h : x.Finite) : x.neg.Finite := by
  cases x with
  | nan | inf => exact h
  | zero => trivial
  | fin => exact h

theorem FpVal.rat_neg (x : FpVal) : x.neg.rat = -x.rat := by
  cases x with
  | nan | inf | zero => simp [FpVal.neg, FpVal.rat]
  | fin n s e => cases n <;> simp [FpVal.neg, FpVal.rat, sigInt]

theorem FpVal.Finite.mul {x y : FpVal} (hx : x.Finite) (hy : y.Finite) : (x.mul y).Finite ∧ (x.mul y).rat = x.rat * y.rat := by
  cases x with
  | nan | inf => cases hx
  | zero => cases y with
    | nan | inf => cases hy
    | zero | fin => simp [FpVal.mul, FpVal.Finite, FpVal.rat]
  | fin m s e => cases y with
    | nan | inf => cases hy
    | zero => simp [FpVal.mul, FpVal.Finite, FpVal.rat]
    | fin n t f =>
      refine ⟨Nat.mul_ne_zero hx hy, ?_⟩
      simp only [FpVal.mul, FpVal.rat, sigInt_xor, zpow_add₀ (two_ne_zero (α := ℚ))]
      push_cast
      ring

theorem fpOfInt_finite (x e : ℤ) : (fpOfInt x e).Finite ∧ (fpOfInt x e).rat = (x : ℚ) * 2 ^ e := by
  unfold fpOfInt
  split
  · next h => simp [FpVal.Finite, FpVal.rat, h]
  · next h => exact ⟨by simpa [FpVal.Finite] using h, by rw [FpVal.rat, sigInt_natAbs]⟩

/-- Two finite values over their lesser exponent. -/
theorem rat_fin_shift (n : Bool) (s : Nat) {e m : ℤ} (h : m ≤ e) :
    (FpVal.fin n s e).rat = ((sigInt n s * (2 ^ (e - m).toNat : Nat) : ℤ) : ℚ) * 2 ^ m := by
  rw [FpVal.rat, zpow_shift h]
  push_cast
  ring

theorem FpVal.Finite.add {x y : FpVal} (hx : x.Finite) (hy : y.Finite) : (x.add y).Finite ∧ (x.add y).rat = x.rat + y.rat := by
  cases x with
  | nan | inf => cases hx
  | zero => cases y with
    | nan | inf => cases hy
    | zero => simp [FpVal.add, FpVal.Finite, FpVal.rat]
    | fin => exact ⟨hy, (zero_add _).symm⟩
  | fin m s e => cases y with
    | nan | inf => cases hy
    | zero => exact ⟨hx, (add_zero _).symm⟩
    | fin n t f =>
      obtain ⟨finite, value⟩ := fpOfInt_finite
        (sigInt m s * (2 ^ (e - min e f).toNat : Nat) + sigInt n t * (2 ^ (f - min e f).toNat : Nat)) (min e f)
      refine ⟨finite, value.trans ?_⟩
      rw [rat_fin_shift m s (min_le_left e f), rat_fin_shift n t (min_le_right e f), Int.cast_add, add_mul]

/-- The sign of a finite value that is not zero. -/
theorem rat_fin_sign (n : Bool) {s : Nat} (hs : s ≠ 0) (e : ℤ) :
    ((FpVal.fin n s e).rat < 0 ↔ n = true) ∧ (0 < (FpVal.fin n s e).rat ↔ n = false) := by
  have pos : (0 : ℚ) < (s : ℚ) * 2 ^ e := mul_pos (by exact_mod_cast Nat.pos_of_ne_zero hs) (zpow_pos two_pos e)
  cases n
  · simpa [FpVal.rat, sigInt, pos] using pos.le
  · simpa [FpVal.rat, sigInt, pos] using pos.le

theorem FpVal.Finite.lt_iff {x y : FpVal} (hx : x.Finite) (hy : y.Finite) : x.lt y = true ↔ x.rat < y.rat := by
  cases x with
  | nan | inf => cases hx
  | zero => cases y with
    | nan | inf => cases hy
    | zero => simp [FpVal.lt, FpVal.rat]
    | fin n t f =>
      have key := (rat_fin_sign n hy f).2
      cases n <;> simpa [FpVal.lt, FpVal.rat] using key
  | fin m s e => cases y with
    | nan | inf => cases hy
    | zero =>
      have key := (rat_fin_sign m hx e).1
      cases m <;> simpa [FpVal.lt, FpVal.rat] using key
    | fin n t f =>
      rw [rat_fin_shift m s (min_le_left e f), rat_fin_shift n t (min_le_right e f),
        mul_lt_mul_iff_left₀ (zpow_pos (two_pos (α := ℚ)) _), Int.cast_lt]
      simp [FpVal.lt]

/-! ### The words of finite operands -/

theorem fpOf_finite {b : Nat} (h : bitsAt b 23 8 ≠ 255) : (fpOf b).Finite ∧ (fpOf b).rat = fpRat b := by
  unfold fpOf fpRat
  dsimp only
  rw [if_neg h]
  split
  · exact ⟨trivial, rfl⟩
  · refine ⟨by simp [FpVal.Finite], ?_⟩
    rw [FpVal.rat, sigInt_eq]
    simp [Nat.add_comm]

theorem accOf_finite {b : Nat} (hl : accLegal b = true) (h : bitsAt b 48 10 ≠ 1023) : (accOf b).Finite ∧ (accOf b).rat = accRat b := by
  have zero (he : bitsAt b 48 10 = 0) : bitsAt b 0 48 = 0 := by
    simp [accLegal, he] at hl
    exact hl.2.1
  have normal (he : bitsAt b 48 10 ≠ 0) : bitsAt b 0 48 ≠ 0 := by
    simp [accLegal, he, h] at hl
    simp only [bitAt, bitsAt] at hl ⊢
    omega
  unfold accOf accRat
  dsimp only
  rw [if_neg h]
  split
  · next he => exact ⟨trivial, by simp [FpVal.rat, zero he]⟩
  · next he =>
    refine ⟨normal he, ?_⟩
    rw [FpVal.rat, sigInt_eq]
    simp [sub_sub]

theorem fpNan_iff (b : Nat) : fpNan b = true ↔ bitsAt b 23 8 = 255 ∧ bitsAt b 0 23 ≠ 0 := by
  unfold fpNan fpOf
  dsimp only
  split_ifs <;> simp_all

/-! ### The one rounding (R81) -/

theorem bitLen_bounds {s : Nat} (h : s ≠ 0) : 1 ≤ bitLen s ∧ 2 ^ (bitLen s - 1) ≤ s ∧ s < 2 ^ bitLen s := by
  unfold bitLen
  rw [if_neg h, Nat.add_sub_cancel]
  exact ⟨by omega, Nat.log2_self_le h, Nat.lt_log2_self⟩

theorem abs_sigInt (n : Bool) (s : Nat) : |((sigInt n s : ℤ) : ℚ)| = s := by
  cases n <;> simp [sigInt]

/-- A rounding over the exponent in which the significand has its bits before the point. -/
theorem Rounds.of_scaled {p : Nat} {q y r : ℚ} {x : ℤ} (hq : q = y * 2 ^ x) (hlo : 2 ^ (p - 1) ≤ |y|) (hhi : |y| < 2 ^ p)
    (hr : r = ⌊y + 1 / 2⌋ * 2 ^ x) : Rounds p q r := by
  have pos : (0 : ℚ) < 2 ^ x := zpow_pos two_pos x
  have unscaled : q / 2 ^ x = y := by rw [hq, mul_div_cancel_right₀ _ pos.ne']
  have unscaledAbs : |q| / 2 ^ x = |y| := by rw [← unscaled, abs_div, abs_of_pos pos]
  exact ⟨x, by rw [unscaledAbs]; exact hlo, by rw [unscaledAbs]; exact hhi, by rw [unscaled]; exact hr⟩

/-- The half-up quotient of a signed significand by 2^k. -/
def halfUp (n : Bool) (s k : Nat) : ℤ := (sigInt n s + (2 ^ (k - 1) : Nat)) / ((2 ^ k : Nat) : ℤ)

theorem halfUp_eq_floor (n : Bool) (s : Nat) {k : Nat} (hk : 1 ≤ k) : halfUp n s k = ⌊(sigInt n s : ℚ) / 2 ^ k + 1 / 2⌋ := by
  have half : ((2 : ℚ) ^ k) = 2 * 2 ^ (k - 1) := by rw [← pow_succ', Nat.sub_add_cancel hk]
  have joined : (sigInt n s : ℚ) / 2 ^ k + 1 / 2 = ((sigInt n s + (2 ^ (k - 1) : Nat) : ℤ) : ℚ) / ((2 ^ k : Nat) : ℚ) := by
    push_cast
    rw [half]
    field_simp
  rw [joined, Rat.floor_intCast_div_natCast]
  rfl

/-- Rounding half up keeps the sign, and the significand's bits or one more. -/
theorem halfUp_bounds (n : Bool) {s k p : Nat} (hk : 1 ≤ k) (hp : 1 ≤ p) (hlo : 2 ^ (p - 1) * 2 ^ k ≤ s) (hhi : s < 2 ^ p * 2 ^ k) :
    sigInt n (halfUp n s k).natAbs = halfUp n s k ∧ 2 ^ (p - 1) ≤ (halfUp n s k).natAbs ∧ (halfUp n s k).natAbs ≤ 2 ^ p := by
  obtain ⟨H, hH⟩ : ∃ H : Nat, 2 ^ (k - 1) = H := ⟨_, rfl⟩
  obtain ⟨P, hP⟩ : ∃ P : Nat, 2 ^ (p - 1) = P := ⟨_, rfl⟩
  have hk2 : 2 ^ k = 2 * H := by rw [← hH, ← pow_succ', Nat.sub_add_cancel hk]
  have hp2 : 2 ^ p = 2 * P := by rw [← hP, ← pow_succ', Nat.sub_add_cancel hp]
  have hH1 : 1 ≤ H := hH ▸ Nat.one_le_two_pow
  have hP1 : 1 ≤ P := hP ▸ Nat.one_le_two_pow
  rw [hk2, hP] at hlo
  rw [hk2, hp2] at hhi
  unfold halfUp
  rw [hH, hk2, hP, hp2]
  have pos : (0 : ℤ) < ((2 * H : Nat) : ℤ) := by omega
  zify at hlo hhi
  cases n
  · have low : (P : ℤ) ≤ (sigInt false s + (H : ℤ)) / ((2 * H : Nat) : ℤ) :=
      (Int.le_ediv_iff_mul_le pos).2 (by rw [sigInt, if_neg (by decide)]; push_cast; nlinarith)
    have high : (sigInt false s + (H : ℤ)) / ((2 * H : Nat) : ℤ) < 2 * P + 1 :=
      (Int.ediv_lt_iff_lt_mul pos).2 (by rw [sigInt, if_neg (by decide)]; push_cast; nlinarith)
    generalize (sigInt false s + (H : ℤ)) / ((2 * H : Nat) : ℤ) = R at low high
    rw [sigInt, if_neg (by decide)]
    omega
  · have low : -(2 * P : ℤ) ≤ (sigInt true s + (H : ℤ)) / ((2 * H : Nat) : ℤ) :=
      (Int.le_ediv_iff_mul_le pos).2 (by rw [sigInt, if_pos rfl]; push_cast; nlinarith)
    have high : (sigInt true s + (H : ℤ)) / ((2 * H : Nat) : ℤ) < -P + 1 :=
      (Int.ediv_lt_iff_lt_mul pos).2 (by rw [sigInt, if_pos rfl]; push_cast; nlinarith)
    generalize (sigInt true s + (H : ℤ)) / ((2 * H : Nat) : ℤ) = R at low high
    rw [sigInt, if_pos rfl]
    omega

/-- `roundSig` is the rounding of the exact value, its significand of `p` bits. -/
theorem roundSig_rounds {p : Nat} (hp : 1 ≤ p) (n : Bool) {s : Nat} (hs : s ≠ 0) (e : ℤ) :
    2 ^ (p - 1) ≤ (roundSig p n s e).1 ∧ (roundSig p n s e).1 < 2 ^ p ∧
      Rounds p (FpVal.fin n s e).rat ((sigInt n (roundSig p n s e).1 : ℚ) * 2 ^ (roundSig p n s e).2) := by
  obtain ⟨hl, hlo, hhi⟩ := bitLen_bounds hs
  unfold roundSig
  dsimp only
  split
  · next fits =>
    have low : 2 ^ (p - 1) ≤ s * 2 ^ (p - bitLen s) := by
      calc 2 ^ (p - 1) = 2 ^ (bitLen s - 1) * 2 ^ (p - bitLen s) := by rw [← pow_add]; congr 1; omega
        _ ≤ s * 2 ^ (p - bitLen s) := Nat.mul_le_mul_right _ hlo
    have high : s * 2 ^ (p - bitLen s) < 2 ^ p := by
      calc s * 2 ^ (p - bitLen s) < 2 ^ bitLen s * 2 ^ (p - bitLen s) := Nat.mul_lt_mul_of_pos_right hhi (Nat.two_pow_pos _)
        _ = 2 ^ p := by rw [← pow_add]; congr 1; omega
    refine ⟨low, high, Rounds.of_scaled (y := ((sigInt n (s * 2 ^ (p - bitLen s)) : ℤ) : ℚ)) (x := e - (p - bitLen s : Nat)) ?_ ?_ ?_ ?_⟩
    · have shift := zpow_shift (e := e) (m := e - (p - bitLen s : Nat)) (by omega)
      rw [FpVal.rat, shift, sigInt_eq, sigInt_eq, sub_sub_cancel, Int.toNat_natCast]
      push_cast
      ring
    · rw [abs_sigInt]; exact_mod_cast low
    · rw [abs_sigInt]; exact_mod_cast high
    · have exact_ : ⌊((sigInt n (s * 2 ^ (p - bitLen s)) : ℤ) : ℚ) + 1 / 2⌋ = sigInt n (s * 2 ^ (p - bitLen s)) := by
        rw [Int.floor_intCast_add]; norm_num
      rw [exact_]
  · next wide =>
    have hk : 1 ≤ bitLen s - p := by omega
    have low : 2 ^ (p - 1) * 2 ^ (bitLen s - p) ≤ s := by
      rw [← pow_add, show p - 1 + (bitLen s - p) = bitLen s - 1 by omega]
      exact hlo
    have high : s < 2 ^ p * 2 ^ (bitLen s - p) := by
      rw [← pow_add, show p + (bitLen s - p) = bitLen s by omega]
      exact hhi
    obtain ⟨sign, least, most⟩ := halfUp_bounds n hk hp low high
    have quotient : ((if n then -(s : ℤ) else s) + (2 ^ (bitLen s - p - 1) : Nat)) / ((2 ^ (bitLen s - p) : Nat) : ℤ) =
      halfUp n s (bitLen s - p) := rfl
    have rounds : Rounds p (FpVal.fin n s e).rat ((halfUp n s (bitLen s - p) : ℚ) * 2 ^ (e + (bitLen s - p : Nat) : ℤ)) := by
      refine Rounds.of_scaled (y := (sigInt n s : ℚ) / 2 ^ (bitLen s - p)) (x := e + (bitLen s - p : Nat)) ?_ ?_ ?_ ?_
      · rw [FpVal.rat, zpow_add₀ two_ne_zero, zpow_natCast]
        field_simp
      · rw [abs_div, abs_sigInt, abs_of_pos (by positivity), le_div_iff₀ (by positivity)]
        exact_mod_cast low
      · rw [abs_div, abs_sigInt, abs_of_pos (by positivity), div_lt_iff₀ (by positivity)]
        exact_mod_cast high
      · rw [halfUp_eq_floor n s hk]
    rw [quotient]
    split
    · next carry =>
      have double : (2 : Nat) ^ p = 2 * 2 ^ (p - 1) := by rw [← pow_succ', Nat.sub_add_cancel hp]
      have pos := Nat.two_pow_pos (p - 1)
      refine ⟨le_rfl, by omega, ?_⟩
      have same : ((sigInt n (2 ^ (p - 1)) : ℤ) : ℚ) * 2 ^ (e + (bitLen s - p : Nat) + 1 : ℤ) =
          (halfUp n s (bitLen s - p) : ℚ) * 2 ^ (e + (bitLen s - p : Nat) : ℤ) := by
        rw [← sign, carry, double, sigInt_eq, sigInt_eq, zpow_add_one₀ two_ne_zero]
        push_cast
        ring
      dsimp only
      rw [same]
      exact rounds
    · next noCarry =>
      refine ⟨least, lt_of_le_of_ne most noCarry, ?_⟩
      dsimp only
      rw [sign]
      exact rounds

/-! ### Accumulators (R79) -/

/-- The fields of an accumulator word put together. -/
theorem accWord_fields (n : Bool) {x m : Nat} (hx : x < 1024) (hm : m < 2 ^ 48) :
    bitsAt ((if n then 2 ^ 63 else 0) + x * 2 ^ 48 + m) 0 48 = m ∧ bitsAt ((if n then 2 ^ 63 else 0) + x * 2 ^ 48 + m) 48 10 = x ∧
      bitsAt ((if n then 2 ^ 63 else 0) + x * 2 ^ 48 + m) 58 5 = 0 ∧ bitAt ((if n then 2 ^ 63 else 0) + x * 2 ^ 48 + m) 63 = flag n ∧
      bitAt ((if n then 2 ^ 63 else 0) + x * 2 ^ 48 + m) 47 = m / 2 ^ 47 := by
  unfold bitsAt bitAt flag
  cases n
  · simp only [Bool.false_eq_true, if_false]; omega
  · simp only [if_true]; omega

/-- The magnitude of a normal accumulator in its binade. -/
theorem binade_bounds {m : Nat} {x : ℤ} (hlo : 2 ^ 47 ≤ m) (hhi : m < 2 ^ 48) :
    (2 : ℚ) ^ (x + 47) ≤ (m : ℚ) * 2 ^ x ∧ (m : ℚ) * 2 ^ x < 2 ^ (x + 48) := by
  have pos : (0 : ℚ) < 2 ^ x := zpow_pos two_pos x
  have split (k : Nat) : (2 : ℚ) ^ (x + k : ℤ) = 2 ^ k * 2 ^ x := by rw [zpow_add₀ two_ne_zero, zpow_natCast, mul_comm]
  have low := split 47
  have high := split 48
  push_cast at low high
  rw [low, high]
  exact ⟨mul_le_mul_of_nonneg_right (by exact_mod_cast hlo) pos.le, mul_lt_mul_of_pos_right (by exact_mod_cast hhi) pos⟩

/-- The range of an accumulator's exponent, by the magnitude. -/
theorem overflows_iff {m : Nat} {x : ℤ} (hlo : 2 ^ 47 ≤ m) (hhi : m < 2 ^ 48) : (2 : ℚ) ^ 512 ≤ (m : ℚ) * 2 ^ x ↔ 1022 < x + 558 := by
  obtain ⟨least, most⟩ := binade_bounds (x := x) hlo hhi
  rw [← zpow_natCast (2 : ℚ) 512]
  constructor
  · intro h
    by_contra hx
    exact absurd (h.trans_lt most) (zpow_le_zpow_right₀ one_le_two (by omega)).not_gt
  · exact fun hx => (zpow_le_zpow_right₀ one_le_two (by omega)).trans least

theorem underflows_iff {m : Nat} {x : ℤ} (hlo : 2 ^ 47 ≤ m) (hhi : m < 2 ^ 48) :
    (m : ℚ) * 2 ^ x < 2 ^ (-510 : ℤ) ↔ x + 558 < 1 := by
  obtain ⟨least, most⟩ := binade_bounds (x := x) hlo hhi
  constructor
  · intro h
    by_contra hx
    exact absurd (least.trans_lt h) (zpow_le_zpow_right₀ one_le_two (by omega)).not_gt
  · exact fun hx => most.trans_le (zpow_le_zpow_right₀ one_le_two (by omega))

/-- A word of a normal accumulator, and its value. -/
theorem accWord_normal (n : Bool) {m : Nat} {x : ℤ} (hlo : 2 ^ 47 ≤ m) (hhi : m < 2 ^ 48) (ho : ¬ 1022 < x + 558) (hu : ¬ x + 558 < 1) :
    let b := (if n then 2 ^ 63 else 0) + (x + 558).toNat * 2 ^ 48 + m
    accLegal b = true ∧ bitsAt b 48 10 ≠ 1023 ∧ accRat b = (sigInt n m : ℚ) * 2 ^ x := by
  intro b
  obtain ⟨sig, exp, gap, neg, top⟩ := accWord_fields n (x := (x + 558).toNat) (m := m) (by omega) hhi
  have one : m / 2 ^ 47 = 1 := by omega
  refine ⟨?_, by simp only [b, exp]; omega, ?_⟩
  · simp only [accLegal, b, sig, exp, gap, neg, top, one]
    simp
    omega
  · have shift : (((x + 558).toNat : ℕ) : ℤ) - 511 - 47 = x := by omega
    simp only [accRat, b, sig, exp, neg, shift, sigInt_eq]
    cases n <;> simp [flag]

theorem rat_fin_ne_zero (n : Bool) {s : Nat} (hs : s ≠ 0) (e : ℤ) : (FpVal.fin n s e).rat ≠ 0 :=
  mul_ne_zero (Int.cast_ne_zero.2 (sigInt_ne_zero hs)) (zpow_pos two_pos e).ne'

/-- A finite value is stored as R79 and R81 say. -/
theorem accOut_accumulates (nan : Nat) {v : FpVal} (hv : v.Finite) : Accumulates v.rat (accOut nan v) := by
  cases v with
  | nan | inf => cases hv
  | zero => simp [Accumulates, FpVal.rat, accOut]
  | fin n s e =>
    obtain ⟨hlo, hhi, rounds⟩ := roundSig_rounds (p := 48) (by decide) n hv e
    unfold Accumulates
    rw [if_neg (rat_fin_ne_zero n hv e)]
    refine ⟨_, rounds, ?_⟩
    unfold accOut
    dsimp only
    generalize (roundSig 48 n s e).1 = m at *
    generalize (roundSig 48 n s e).2 = x at *
    rw [abs_mul, abs_sigInt, abs_of_pos (zpow_pos (two_pos (α := ℚ)) x)]
    have sign : (if (FpVal.fin n s e).rat < 0 then (2 ^ 63 : Nat) else 0) = if n then 2 ^ 63 else 0 := by
      simp only [(rat_fin_sign n hv e).1]
    rw [sign]
    by_cases ho : 1022 < x + 558
    · rw [if_pos ((overflows_iff hlo hhi).2 ho), if_pos ho]
    · rw [if_neg (mt (overflows_iff hlo hhi).1 ho), if_neg ho]
      by_cases hu : x + 558 < 1
      · rw [if_pos ((underflows_iff hlo hhi).2 hu), if_pos hu]
      · rw [if_neg (mt (underflows_iff hlo hhi).1 hu), if_neg hu]
        exact ⟨rfl, accWord_normal n hlo hhi ho hu⟩

/-- VMAC of finite operands. -/
theorem laneMac_accumulates {acc x y : Nat} (z n : Bool) (hx : bitsAt x 23 8 ≠ 255) (hy : bitsAt y 23 8 ≠ 255) (hl : accLegal acc = true)
    (he : bitsAt acc 48 10 ≠ 1023) :
    Accumulates ((if z then 0 else accRat acc) + (if n then -1 else 1) * fpRat x * fpRat y) (laneMac z n acc x y) := by
  obtain ⟨finX, valX⟩ := fpOf_finite hx
  obtain ⟨finY, valY⟩ := fpOf_finite hy
  obtain ⟨finA, valA⟩ := accOf_finite hl he
  obtain ⟨finP, valP⟩ := finX.mul finY
  have product : (if n then ((fpOf x).mul (fpOf y)).neg else (fpOf x).mul (fpOf y)).Finite ∧
      (if n then ((fpOf x).mul (fpOf y)).neg else (fpOf x).mul (fpOf y)).rat = (if n then -1 else 1) * fpRat x * fpRat y := by
    cases n
    · exact ⟨finP, by simp [valP, valX, valY]⟩
    · exact ⟨finP.neg, by simp [FpVal.rat_neg, valP, valX, valY]⟩
  obtain ⟨finQ, valQ⟩ := product
  unfold laneMac
  dsimp only
  rw [← valQ, ← valA]
  cases z
  · obtain ⟨finS, valS⟩ := finA.add finQ
    simp only [Bool.false_eq_true, if_false]
    rw [← valS]
    exact accOut_accumulates _ finS
  · simp only [if_true, zero_add]
    exact accOut_accumulates _ finQ

/-! ### NaN operands and conditions (R80, R113) -/

theorem fpOf_eq_nan {b : Nat} (h : bitsAt b 23 8 = 255 ∧ bitsAt b 0 23 ≠ 0) : fpOf b = .nan := by
  have key := (fpNan_iff b).2 h
  simpa [fpNan] using key

theorem FpVal.mul_nan (x : FpVal) : x.mul .nan = .nan := by cases x <;> rfl
theorem FpVal.add_nan (x : FpVal) : x.add .nan = .nan := by cases x <;> rfl
theorem FpVal.lt_nan (x : FpVal) : x.lt .nan = false := by cases x <;> rfl
theorem FpVal.nan_lt (x : FpVal) : FpVal.lt .nan x = false := by cases x <;> rfl

/-- VMAC of a NaN operand. -/
theorem laneMac_of_nan {x y : Nat} (z n : Bool) (acc : Nat) (h : fpOf x = .nan ∨ fpOf y = .nan) :
    laneMac z n acc x y = ⟨accNan acc x y, true, false, false⟩ := by
  have product : (fpOf x).mul (fpOf y) = .nan := by
    rcases h with h | h
    · rw [h]; rfl
    · rw [h, FpVal.mul_nan]
  unfold laneMac
  rw [product]
  cases n <;> cases z <;> simp [FpVal.neg, FpVal.add_nan, accOut]

theorem accNan_fields (acc x y : Nat) : bitsAt (accNan acc x y) 48 10 = 1023 ∧ bitsAt (accNan acc x y) 0 48 ≠ 0 := by
  unfold accNan bitsAt
  dsimp only
  generalize Config.accNan acc x y = w
  have sig := Nat.mod_lt (w / 2) (show 0 < 2 ^ 48 - 1 by decide)
  have sign := Nat.mod_lt w (show 0 < 2 by decide)
  generalize w / 2 % (2 ^ 48 - 1) = f at *
  generalize w % 2 = g at *
  omega

/-- A NaN operand satisfies NE and UN alone. -/
theorem laneCmp_of_nan {x y : Nat} (c : Nat) (hc : c < 7) (h : fpOf x = .nan ∨ fpOf y = .nan) : laneCmp c x y = true ↔ c = 1 ∨ c = 6 := by
  have unordered : (fpOf x == .nan || fpOf y == .nan) = true := by simpa using h
  have notLess : (fpOf x).lt (fpOf y) = false := by
    rcases h with h | h
    · rw [h, FpVal.nan_lt]
    · rw [h, FpVal.lt_nan]
  have notMore : (fpOf y).lt (fpOf x) = false := by
    rcases h with h | h
    · rw [h, FpVal.lt_nan]
    · rw [h, FpVal.nan_lt]
  unfold laneCmp
  dsimp only
  rw [unordered, notLess, notMore]
  interval_cases c <;> simp

theorem FpVal.Finite.ne_nan {x : FpVal} (h : x.Finite) : (x == .nan) = false := by
  cases x with
  | nan => cases h
  | inf | zero | fin => rfl

/-- Finite operands compare as their values. -/
theorem laneCmp_of_finite {x y : Nat} (hx : bitsAt x 23 8 ≠ 255) (hy : bitsAt y 23 8 ≠ 255) (c : Nat) (h : Prop)
    (hm : (c, h) ∈ [(0, fpRat x = fpRat y), (1, fpRat x ≠ fpRat y), (2, fpRat x < fpRat y), (3, fpRat x ≤ fpRat y),
      (4, fpRat x > fpRat y), (5, fpRat x ≥ fpRat y), (6, False)]) : laneCmp c x y = true ↔ h := by
  obtain ⟨finX, valX⟩ := fpOf_finite hx
  obtain ⟨finY, valY⟩ := fpOf_finite hy
  have less := finX.lt_iff finY
  have more := finY.lt_iff finX
  rw [valX, valY] at less more
  have ordered : (fpOf x == .nan || fpOf y == .nan) = false := by rw [finX.ne_nan, finY.ne_nan]; rfl
  unfold laneCmp
  dsimp only
  rw [ordered]
  simp only [List.mem_cons, List.not_mem_nil, or_false, Prod.mk.injEq] at hm
  rcases hm with ⟨rfl, rfl⟩ | ⟨rfl, rfl⟩ | ⟨rfl, rfl⟩ | ⟨rfl, rfl⟩ | ⟨rfl, rfl⟩ | ⟨rfl, rfl⟩ | ⟨rfl, rfl⟩ <;>
    simp only [Bool.not_false, Bool.true_and, Bool.false_or, Bool.and_eq_true, Bool.or_eq_true, Bool.not_eq_true', ← Bool.not_eq_true, less,
      more, not_lt, gt_iff_lt, ge_iff_le, Bool.false_eq_true]
  · exact and_comm.trans le_antisymm_iff.symm
  · exact lt_or_lt_iff_ne

end Sys2Proof.Machine
end

section
/-! SUPPORT. A bundle of one M instruction issues (R75, R76, R93, R104), and what the M slot does lane by lane (R78, R82). -/

namespace Sys2Proof.Machine

/-! ### The end of a bundle -/

section
variable {s t u : State} {d n : Nat}

/-- The cells that the M slot writes. -/
def laneFlds : List Fld := [.DBG_V, .DBG_ACC, .DBG_P, .NEWT_FPFLAGS_V, .NEWT_FPFLAGS_O, .NEWT_FPFLAGS_U]

theorem State.dropBundle_of_none (h : s.bundleOf d n = none) : s.dropBundle d n = s := by
  have all : s.bundles.filter (fun b => !(b.die == d && b.newt == n)) = s.bundles :=
    List.filter_eq_self.2 fun b hb => by simpa [imp_iff_not_or] using List.find?_eq_none.1 h b hb
  unfold State.dropBundle
  rw [all]

/-- Where nothing repeats, steps or halts, a bundle's end moves the PC. -/
theorem State.bundleEnd_plain (hrun : s.newtIs d n newtRun = true) (hrept : s.get .NEWT_STATUS_INREPT d n = 0)
    (hstep : s.get .NEWT_STEP d n = 0) (hhalt : s.get .NEWT_STATUS_HALT_PEND d n = 0) (pc next : Nat) :
    s.bundleEnd d n pc next false =
      (((s.put .NEWT_PC d n pc).put .NEWT_LAST d n pc).put .NEWT_SKIPBP d n 0).put .NEWT_NEXT d n next := by
  simp only [State.newtIs, beq_iff_eq] at hrun
  unfold State.bundleEnd
  simp only [Bool.false_eq_true, if_false]
  rw [if_neg (by simp [State.on, State.get_put, State.newtIs, hrun, hrept])]
  simp [State.on, State.get_put, State.when_false, hstep, hhalt]

theorem lCycles_none (n : Nat) : lCycles n ([], false) = 1 := rfl

/-- The stalls of a bundle without an L instruction are those of the scoreboard. -/
theorem State.stalls_noL (s o : State) {b : Bundle} (hl : b.l = none) (next tgt : Nat) : ∃ k b', s.stalls o b next tgt =
    (((s.inc .NEWT_STALL_SB b.die b.newt k).inc .NEWT_STALL_FAB b.die b.newt 0).inc .NEWT_STALL_MEM b.die b.newt 0).setBoard b' := by
  have words : lWords b.newt ([], false) = [] := rfl
  have lanes : dmemLanes [] = [] := rfl
  unfold State.stalls
  simp only [hl, Option.map_none, Option.getD_none, words, lanes, lCycles_none, List.filter_nil, List.length_nil, if_true, Nat.sub_self, ite_self,
    Nat.add_zero]
  exact ⟨_, _, rfl⟩

/-! ### Cells and scoreboards alone -/

variable {l m : List Loc} {f : Fld} {e i v : Nat}

theorem State.Within.mono (h : s.Within t l) (hm : l ⊆ m) : s.Within t m := ⟨fun c hc => h.1 c fun k => hc (hm k), h.2⟩

theorem State.Within.each {α : Type} {g : α → State → State} {w : List α} (h : s.Within t l)
    (hg : ∀ a ∈ w, ∀ u, s.Within u l → s.Within (g a u) l) : s.Within (t.each w g) l :=
  State.each_keeps (P := fun u => s.Within u l) t h hg

/-- Beside the scoreboards only the cells of `l` differ. -/
def State.WithinBoards (s t : State) (l : List Loc) : Prop := s.Within { t with boards := s.boards } l

theorem State.Within.withBoards (h : s.Within t l) : s.WithinBoards t l := by
  have kept : t.boards = s.boards := (congrArg State.boards h.2 :)
  unfold State.WithinBoards
  rw [← kept]
  exact h

theorem State.WithinBoards.put (h : s.WithinBoards t l) (hm : ⟨f, e, i⟩ ∈ l) : s.WithinBoards (t.put f e i v) l := by
  unfold State.WithinBoards
  rw [← State.put_withBoards]
  exact State.Within.put h hm

theorem State.WithinBoards.setBoard {b : Board} (h : s.WithinBoards t l) : s.WithinBoards (t.setBoard b) l := h

/-- Nothing is added to a counter within its width. -/
theorem State.WithinBoards.incZero (h : s.WithinBoards t l) (ht : t.get f e i < 2 ^ f.width) : s.WithinBoards (t.inc f e i 0) l := by
  obtain ⟨hget, hrest⟩ := h
  refine ⟨fun c hc => Eq.trans ?_ (hget c hc), Eq.trans ?_ hrest⟩
  · refine (State.get_put t f c.fld e c.die i c.inst _).trans ?_
    split
    · next hc => obtain ⟨rfl, rfl, rfl⟩ := hc; exact Nat.mod_eq_of_lt ht
    · rfl
  · unfold State.inc State.put
    split <;> rfl

end

/-! ### An M instruction alone in its bundle -/

section
variable {s : State} {d n : Nat} {i : MIns}

/-- The bundle of one M instruction. -/
def mBundle (d n : Nat) (i : MIns) : Bundle := ⟨d, n, some i, none, none, AccessMeets.free⟩

/-- A ready newt that finds a legal M instruction with E issues it at once. -/
theorem State.issueM_ready (hr : s.Ready d n) (hh : s.holds d n (s.get .NEWT_NEXT d n) true (.m i) = true) (hl : MIns.legal i = true)
    (hd : distinct (MIns.dests i) = true) : s.issueM d n true i =
      ((s.mSlot s d n i).stalls s (mBundle d n i) (s.get .NEWT_NEXT d n + 1) (s.get .NEWT_NEXT d n + 1)).bundleEnd d n
        (s.get .NEWT_NEXT d n) (s.get .NEWT_NEXT d n + 1) false := by
  obtain ⟨-, hclk, hrun, hbun, hrept, -, -, hstop, -⟩ := hr
  have empty : s.openBundle d n = ⟨d, n, none, none, none, AccessMeets.free⟩ := by rw [State.openBundle, hbun]; rfl
  have words : Bundle.words ⟨d, n, none, none, none, AccessMeets.free⟩ = 0 := rfl
  have joins : Bundle.join ⟨d, n, none, none, none, AccessMeets.free⟩ (.m i) = some (mBundle d n i) := rfl
  have legal : s.legalBundle (mBundle d n i) (s.get .NEWT_NEXT d n) = true := by
    simp [State.legalBundle, mBundle, hl, Bundle.dests, hd, hrept]
  have repeats : s.on .NEWT_STATUS_INREPT d n = false := by simp [State.on, hrept]
  unfold State.issueM State.issue
  dsimp only
  rw [empty, words, Nat.add_zero, if_neg (by simp [hrun, hclk, hh]), if_neg (by simp [hstop]), joins]
  dsimp only
  rw [if_pos rfl]
  have issues : s.runBundle (mBundle d n i) = s.issueBundle (mBundle d n i) (s.get .NEWT_NEXT d n) := by
    unfold State.runBundle
    dsimp only
    rw [show (mBundle d n i).die = d from rfl, show (mBundle d n i).newt = n from rfl, State.dropBundle_of_none hbun, if_pos legal]
  refine Eq.trans issues ?_
  unfold State.issueBundle
  rw [State.when_false _ (by simp [State.cutShort, mBundle])]
  dsimp only [mBundle]
  rw [repeats]
  rfl

/-- What such a bundle leaves: the slot's results, the newt at its next word, and the cycles. -/
theorem State.issueM_ran (hr : s.Ready d n) (hh : s.holds d n (s.get .NEWT_NEXT d n) true (.m i) = true) (hl : MIns.legal i = true)
    (hd : distinct (MIns.dests i) = true) {l : List Loc} (hw : s.Within (s.mSlot s d n i) l) (hf : ∀ c ∈ l, c.fld ∈ laneFlds) :
    s.Ran (s.issueM d n true i) d n (s.get .NEWT_NEXT d n + 1) l ∧
      ∀ f ∈ laneFlds, ∀ e j, (s.issueM d n true i).get f e j = (s.mSlot s d n i).get f e j := by
  obtain ⟨hc, hclk, hrun, hbun, hrept, hstep, hhalt, hstop, hnext⟩ := id hr
  have slot (f : Fld) (hm : f ∉ laneFlds) (e j : Nat) : (s.mSlot s d n i).get f e j = s.get f e j :=
    hw.1 ⟨f, e, j⟩ fun k => hm (hf _ k)
  obtain ⟨k, b, stalls⟩ := State.stalls_noL (s.mSlot s d n i) s (b := mBundle d n i) rfl (s.get .NEWT_NEXT d n + 1) (s.get .NEWT_NEXT d n + 1)
  have stalled (f : Fld) (hm : f ∉ [.NEWT_STALL_SB, .NEWT_STALL_FAB, .NEWT_STALL_MEM]) (e j : Nat) :
      ((s.mSlot s d n i).stalls s (mBundle d n i) (s.get .NEWT_NEXT d n + 1) (s.get .NEWT_NEXT d n + 1)).get f e j =
        (s.mSlot s d n i).get f e j := by
    simp only [List.mem_cons, List.not_mem_nil, or_false, not_or] at hm
    obtain ⟨sb, fab, mem⟩ := hm
    rw [stalls]
    exact (State.get_put_fld _ mem ..).trans ((State.get_put_fld _ fab ..).trans (State.get_put_fld _ sb ..))
  have fab : ((s.mSlot s d n i).inc .NEWT_STALL_SB d n k).get .NEWT_STALL_FAB d n < 2 ^ 32 := by
    rw [State.inc, State.get_put_fld _ (by decide), slot _ (by decide)]
    exact State.get_lt (f := .NEWT_STALL_FAB) hc rfl
  have mem : (((s.mSlot s d n i).inc .NEWT_STALL_SB d n k).inc .NEWT_STALL_FAB d n 0).get .NEWT_STALL_MEM d n < 2 ^ 32 := by
    rw [State.inc, State.get_put_fld _ (by decide), State.inc, State.get_put_fld _ (by decide), slot _ (by decide)]
    exact State.get_lt (f := .NEWT_STALL_MEM) hc rfl
  have ends := (State.issueM_ready hr hh hl hd).trans (State.bundleEnd_plain
    (by rw [State.newtIs, stalled _ (by decide), slot _ (by decide)]; exact hrun)
    (by rw [stalled _ (by decide), slot _ (by decide), hrept]) (by rw [stalled _ (by decide), slot _ (by decide), hstep])
    (by rw [stalled _ (by decide), slot _ (by decide), hhalt]) ..)
  have cell {f : Fld} (hm : ⟨f, d, n⟩ ∈ issueCells d n) : (⟨f, d, n⟩ : Loc) ∈ l ++ issueCells d n := List.mem_append_right _ hm
  have counted : s.WithinBoards ((s.mSlot s d n i).stalls s (mBundle d n i) (s.get .NEWT_NEXT d n + 1) (s.get .NEWT_NEXT d n + 1))
      (l ++ issueCells d n) := by
    rw [stalls]
    exact ((((hw.mono (List.subset_append_left ..)).withBoards.put (cell (by simp [issueCells]))).incZero fab).incZero mem).setBoard
  rw [ends]
  refine ⟨⟨⟨?_, ?_⟩, ?_⟩, fun f hm e j => ?_⟩
  · have fits : s.get .NEWT_NEXT d n < 2 ^ 13 := by omega
    simpa [State.get_put] using fits
  · have fits : s.get .NEWT_NEXT d n + 1 < 2 ^ 13 := by omega
    rw [State.get_put_same]
    exact Nat.mod_eq_of_lt fits
  · exact (((counted.put (cell (by simp [issueCells]))).put (cell (by simp [issueCells]))).put (cell (by simp [issueCells]))).put
      (cell (by simp [issueCells]))
  · have other : ∀ g ∈ laneFlds, g ∉ [Fld.NEWT_PC, .NEWT_LAST, .NEWT_SKIPBP, .NEWT_NEXT, .NEWT_STALL_SB, .NEWT_STALL_FAB, .NEWT_STALL_MEM] := by
      decide
    have ne := other f hm
    simp only [List.mem_cons, List.not_mem_nil, or_false, not_or] at ne
    obtain ⟨pc, last, skip, next, sb, fab, mem⟩ := ne
    rw [State.get_put_fld _ next, State.get_put_fld _ skip, State.get_put_fld _ last, State.get_put_fld _ pc,
      stalled f (by simp [sb, fab, mem])]

end

/-! ### Lane by lane (R78) -/

section
variable {s t : State} {d n : Nat}

theorem mem_lanesOf {p k : Nat} : k ∈ lanesOf p ↔ k < 8 ∧ bitAt p k = 1 := by simp [lanesOf]

theorem lanesOf_nodup (p : Nat) : (lanesOf p).Nodup := List.nodup_range.filter _

/-- What is seen of a state after a step for each of some lanes, where only the step of lane `k` changes it. -/
theorem State.observe_each {β : Type} {φ : State → β} {F : β → β} {g : Nat → State → State} {l : List Nat} {k : Nat} (hl : l.Nodup)
    (own : k ∈ l → ∀ u, φ (g k u) = F (φ u)) (other : ∀ j ∈ l, j ≠ k → ∀ u, φ (g j u) = φ u) (s : State) :
    φ (s.each l g) = if k ∈ l then F (φ s) else φ s := by
  induction l generalizing s with
  | nil => rfl
  | cons j l ih =>
    obtain ⟨hj, hl⟩ := List.nodup_cons.1 hl
    refine (ih hl (fun hk => own (List.mem_cons_of_mem _ hk)) (fun i hi => other i (List.mem_cons_of_mem _ hi)) (g j s)).trans ?_
    by_cases hk : j = k
    · subst hk
      rw [if_neg hj, if_pos List.mem_cons_self, own List.mem_cons_self]
    · have hne : k ≠ j := fun h => hk h.symm
      rw [other j List.mem_cons_self hk]
      simp [hne]

/-- The same for the lanes that a predicate enables. -/
theorem State.observe_lanes {β : Type} {φ : State → β} {F : β → β} {g : Nat → State → State} {p k : Nat} (hk : k < 8)
    (own : ∀ u, φ (g k u) = F (φ u)) (other : ∀ j, j < 8 → j ≠ k → ∀ u, φ (g j u) = φ u) (s : State) :
    φ (s.each (lanesOf p) g) = if bitAt p k = 1 then F (φ s) else φ s := by
  rw [State.observe_each (lanesOf_nodup p) (fun _ => own) (fun j hj => other j (mem_lanesOf.1 hj).1)]
  simp [mem_lanesOf, hk]

/-! ### Sticky flags (R82) -/

/-- The names of the sticky flags. -/
def flagFlds : List Fld := [.NEWT_FPFLAGS_V, .NEWT_FPFLAGS_O, .NEWT_FPFLAGS_U]

/-- A lane's flag sets where its result has it. -/
def State.flagIf (s : State) (f : Fld) (d n k : Nat) (b : Bool) : State :=
  s.when (b = true) fun t => t.put f d n (setBit (t.get f d n) k)

/-- The flag of a result that a sticky flag gathers. -/
def FpRes.flagged (r : FpRes) : Fld → Bool
  | .NEWT_FPFLAGS_V => r.v
  | .NEWT_FPFLAGS_O => r.o
  | _ => r.u

theorem State.setFlags_eq (s : State) (d n k : Nat) (r : FpRes) : s.setFlags d n k r =
    ((s.flagIf .NEWT_FPFLAGS_V d n k r.v).flagIf .NEWT_FPFLAGS_O d n k r.o).flagIf .NEWT_FPFLAGS_U d n k r.u := rfl

theorem State.get_flagIf_ne {f g : Fld} (h : g ≠ f) (k : Nat) (b : Bool) (e j : Nat) : (s.flagIf f d n k b).get g e j = s.get g e j :=
  State.when_keeps (P := fun w => w.get g e j = s.get g e j) s rfl (State.get_put_fld s h ..)

theorem testBit_setBit (v k j : Nat) : (setBit v k).testBit j = (v.testBit j || decide (k = j)) := by
  rw [setBit, Nat.testBit_or, Nat.testBit_two_pow]

theorem State.testBit_flagIf {f : Fld} {k : Nat} (hw : f.width = 8) (hk : k < 8) (j : Nat) (b : Bool) :
    ((s.flagIf f d n j b).get f d n).testBit k = ((s.get f d n).testBit k || (decide (j = k) && b)) := by
  cases b
  · simp [State.flagIf, State.when]
  · rw [State.flagIf, State.when_true _ rfl, State.get_put_same, hw, Nat.testBit_mod_two_pow, testBit_setBit]
    simp [hk]

theorem State.get_setFlags {f : Fld} (hf : f ∉ flagFlds) (k : Nat) (r : FpRes) (e j : Nat) :
    (s.setFlags d n k r).get f e j = s.get f e j := by
  simp only [flagFlds, List.mem_cons, List.not_mem_nil, or_false, not_or] at hf
  obtain ⟨v, o, u⟩ := hf
  rw [State.setFlags_eq, State.get_flagIf_ne u, State.get_flagIf_ne o, State.get_flagIf_ne v]

/-- The flags after a lane's result: its own bits set where the result has the flag. -/
theorem State.testBit_setFlags {f : Fld} (hf : f ∈ flagFlds) {k : Nat} (hk : k < 8) (j : Nat) (r : FpRes) :
    ((s.setFlags d n j r).get f d n).testBit k = ((s.get f d n).testBit k || (decide (j = k) && r.flagged f)) := by
  simp only [flagFlds, List.mem_cons, List.not_mem_nil, or_false] at hf
  rw [State.setFlags_eq]
  rcases hf with rfl | rfl | rfl
  · rw [State.get_flagIf_ne (by decide), State.get_flagIf_ne (by decide), State.testBit_flagIf rfl hk]; rfl
  · rw [State.get_flagIf_ne (by decide), State.testBit_flagIf rfl hk, State.get_flagIf_ne (by decide)]; rfl
  · rw [State.testBit_flagIf rfl hk, State.get_flagIf_ne (by decide), State.get_flagIf_ne (by decide)]; rfl

theorem State.Within.setFlags {l : List Loc} {k : Nat} {r : FpRes} (h : s.Within t l) (hl : flagCells d n ⊆ l) :
    s.Within (t.setFlags d n k r) l :=
  ((h.when fun _ q => q.put (hl (by simp [flagCells]))).when fun _ q => q.put (hl (by simp [flagCells]))).when fun _ q =>
    q.put (hl (by simp [flagCells]))

/-- Lanes that each write their own cells and set the flags of their results leave the flags of the enabled lanes' results. -/
theorem State.sticky_lanes {g : Nat → State → State} {r : Nat → FpRes} {p : Nat}
    (hg : ∀ j u, ∀ f ∈ flagFlds, (g j u).get f d n = u.get f d n) :
    s.Sticky (s.each (lanesOf (s.pReg d n p)) fun j t => (g j t).setFlags d n j (r j)) d n p r := by
  intro k hk
  have flag (f : Fld) (hf : f ∈ flagFlds) :
      (((s.each (lanesOf (s.pReg d n p)) fun j t => (g j t).setFlags d n j (r j)).get f d n).testBit k = true) ↔
        ((s.get f d n).testBit k = true ∨ (bitAt (s.pReg d n p) k = 1 ∧ (r k).flagged f = true)) := by
    rw [State.observe_lanes (φ := fun u => (u.get f d n).testBit k) (F := fun b => b || (r k).flagged f) hk]
    · split
      · next on => simp [on]
      · next off => simp [off]
    · intro u
      rw [State.testBit_setFlags hf hk, hg k u f hf]
      simp
    · intro j _ hj u
      rw [State.testBit_setFlags hf hk, hg j u f hf]
      simp [hj]
  simp only [bitAt_eq_one_iff] at flag ⊢
  exact ⟨flag .NEWT_FPFLAGS_V (by decide), flag .NEWT_FPFLAGS_O (by decide), flag .NEWT_FPFLAGS_U (by decide)⟩

/-- Sticky flags read the same in a state that has the same flags. -/
theorem State.Sticky.congr {u : State} {p : Nat} {r : Nat → FpRes} (h : s.Sticky t d n p r) (hg : ∀ f ∈ flagFlds, u.get f d n = t.get f d n) :
    s.Sticky u d n p r := by
  intro k hk
  rw [hg _ (by decide), hg _ (by decide), hg _ (by decide)]
  exact h k hk

end

end Sys2Proof.Machine
end

section
/-! SUPPORT. The instructions of the M slot that write accumulators, predicates and pairs of registers (R112 to R114, R117, R119). -/

namespace Sys2Proof.Machine

/-! ### Lanes of registers -/

section
variable {s t : State} {d n x q j k v : Nat}

theorem State.accReg_setAcc : (s.setAcc d n x j v).accReg d n x k = if k = j then v % 2 ^ 64 else s.accReg d n x k := by
  unfold State.accReg State.setAcc
  rw [State.get_put]
  simp

theorem State.vReg_setV (hj : j < 8) (hk : k < 8) :
    (s.setV d n x j v).vReg d n q k = if q = x ∧ k = j then v % 2 ^ 32 else s.vReg d n q k := by
  unfold State.vReg State.setV
  rw [State.get_put]
  have same : n * 256 + q * 8 + k = n * 256 + x * 8 + j ↔ q = x ∧ k = j := by omega
  simp [same]

theorem bitAt_eq_toNat (v k : Nat) : bitAt v k = (v.testBit k).toNat := (Nat.toNat_testBit v k).symm

/-- A single bit replaced. -/
theorem bitAt_setBits_one (v j k : Nat) {b : Nat} (hb : b < 2) : bitAt (setBits v j 1 b) k = if k = j then b else bitAt v k := by
  have low : v % 2 ^ j < 2 ^ j := Nat.mod_lt _ (Nat.two_pow_pos j)
  have split : v = 2 ^ j * (2 * (v / 2 ^ j / 2) + v / 2 ^ j % 2) + v % 2 ^ j := by
    rw [Nat.div_add_mod, Nat.div_add_mod]
  have replaced : setBits v j 1 b = 2 ^ j * (2 * (v / 2 ^ j / 2) + b) + v % 2 ^ j := by
    unfold setBits bitsAt
    rw [Nat.pow_one, Nat.mod_eq_of_lt hb]
    generalize v / 2 ^ j / 2 = h at *
    generalize v / 2 ^ j % 2 = o at *
    generalize v % 2 ^ j = l at *
    generalize 2 ^ j = w at *
    subst split
    have cut : w * (2 * h + o) + l - o * w = w * (2 * h) + l := by
      rw [Nat.mul_add, Nat.mul_comm o w]
      omega
    rw [cut]
    ring
  rw [bitAt_eq_toNat, bitAt_eq_toNat, replaced, Nat.testBit_two_pow_mul_add _ low]
  by_cases hk : k < j
  · rw [if_pos hk, if_neg (by omega)]
    conv_rhs => rw [split, Nat.testBit_two_pow_mul_add _ low, if_pos hk]
  · rw [if_neg hk]
    by_cases he : k = j
    · subst he
      rw [if_pos rfl, Nat.sub_self, Nat.toNat_testBit]
      omega
    · obtain ⟨m, hm⟩ : ∃ m, k - j = m + 1 := ⟨k - j - 1, by omega⟩
      rw [if_neg he, hm]
      conv_rhs => rw [split, Nat.testBit_two_pow_mul_add _ low, if_neg hk, hm]
      rw [Nat.testBit_succ, Nat.testBit_succ]
      congr 2
      omega

theorem State.pReg_setP (hx : x ≠ 0) : (s.setP d n x v).pReg d n x = v % 2 ^ 8 := by
  rw [State.setP, if_neg hx, State.pReg, if_neg hx, State.get_put_same]
  rfl

theorem State.pReg_congr (h : t.get .DBG_P d (n * 4 + x) = s.get .DBG_P d (n * 4 + x)) : t.pReg d n x = s.pReg d n x := by
  unfold State.pReg
  rw [h]

theorem State.get_setP_ne {f : Fld} (hf : f ≠ .DBG_P) (e i : Nat) : (s.setP d n x v).get f e i = s.get f e i := by
  unfold State.setP
  split
  · rfl
  · exact State.get_put_fld s hf ..

theorem State.Within.setP {l : List Loc} (h : s.Within t l) (hl : x ≠ 0 → ⟨.DBG_P, d, n * 4 + x⟩ ∈ l) : s.Within (t.setP d n x v) l := by
  unfold State.setP
  split
  · exact h
  · next hx => exact h.put (hl hx)

theorem State.Within.setAcc {l : List Loc} (h : s.Within t l) (hj : j < 8) (hl : accCells d n x ⊆ l) : s.Within (t.setAcc d n x j v) l :=
  h.put (hl (List.mem_map.2 ⟨j, List.mem_range.2 hj, rfl⟩))

theorem State.Within.setV {l : List Loc} (h : s.Within t l) (hj : j < 8) (hl : vCells d n x ⊆ l) : s.Within (t.setV d n x j v) l :=
  h.put (hl (List.mem_map.2 ⟨j, List.mem_range.2 hj, rfl⟩))

theorem fld_of_mem_accCells {c : Loc} (h : c ∈ accCells d n x) : c.fld = .DBG_ACC := by
  obtain ⟨k, -, rfl⟩ := List.mem_map.1 h
  rfl

theorem fld_of_mem_vCells {c : Loc} (h : c ∈ vCells d n x) : c.fld = .DBG_V := by
  obtain ⟨k, -, rfl⟩ := List.mem_map.1 h
  rfl

theorem fld_of_mem_flagCells {c : Loc} (h : c ∈ flagCells d n) : c.fld ∈ flagFlds := by
  simp only [flagCells, List.mem_cons, List.not_mem_nil, or_false] at h
  rcases h with rfl | rfl | rfl <;> simp [flagFlds]

/-- Lanes that each write their lane of two registers. -/
theorem State.twoRegisters_lanes {g : Nat → State → State} {b p : Nat} {y : Nat → Nat × Nat} (hxb : b ≠ x) (hk : k < 8)
    (hy : (y k).1 < 2 ^ 32 ∧ (y k).2 < 2 ^ 32)
    (hg : ∀ j u r, (g j u).vReg d n r k = ((u.setV d n x j (y j).1).setV d n b j (y j).2).vReg d n r k) (s : State) :
    ((s.each (lanesOf p) g).vReg d n x k, (s.each (lanesOf p) g).vReg d n b k) =
      if bitAt p k = 1 then y k else (s.vReg d n x k, s.vReg d n b k) := by
  have first := State.observe_lanes (φ := fun u => u.vReg d n x k) (F := fun _ => (y k).1) (g := g) (p := p) hk
    (fun u => by simpa [hg, State.vReg_setV hk hk, hxb.symm] using hy.1)
    (fun j hj hne u => by simp [hg, State.vReg_setV hj hk, hne.symm]) s
  have second := State.observe_lanes (φ := fun u => u.vReg d n b k) (F := fun _ => (y k).2) (g := g) (p := p) hk
    (fun u => by simpa [hg, State.vReg_setV hk hk] using hy.2)
    (fun j hj hne u => by simp [hg, State.vReg_setV hj hk, hne.symm]) s
  rw [first, second]
  split <;> rfl

end

/-! ### The words that the lane functions give -/

theorem fpNan_eq (b : Nat) : fpNan b = (bitsAt b 23 8 == 255 && bitsAt b 0 23 != 0) := by
  rw [Bool.eq_iff_iff, fpNan_iff]
  simp

theorem bitAt_lt (v k : Nat) : bitAt v k < 2 := Nat.mod_lt _ two_pos

theorem laneGlide_lt {gain target x st : Nat} (hg : gain < 2 ^ 32) (ht : target < 2 ^ 32) :
    (laneGlide gain target x st).1 < 2 ^ 32 ∧ (laneGlide gain target x st).2 < 2 ^ 32 := by
  have remain := bitsAt_lt st 0 16
  have sign := bitAt_lt x 31
  have past := bitAt_lt st 16
  have valid := bitAt_lt st 17
  have pend := bitAt_lt st 18
  unfold laneGlide
  dsimp only
  constructor
  · split <;> assumption
  · split_ifs <;> omega

theorem divSig_lt (b : Nat) : 2 ^ 23 ≤ divSig b ∧ divSig b < 2 ^ 24 := by
  have frac := bitsAt_lt b 0 23
  unfold divSig fpOf
  dsimp only
  split_ifs <;> dsimp only <;> omega

theorem laneDivi_lt (a : Nat) : (laneDivi a).1 < 2 ^ 32 ∧ (laneDivi a).2 < 2 ^ 32 := by
  obtain ⟨-, small⟩ := divSig_lt a
  exact ⟨by simp only [laneDivi]; omega, Nat.two_pow_pos 32⟩

theorem laneDivs_lt {d0 d1 : Nat} (b : Nat) (h0 : d0 < 2 ^ 32) (h1 : d1 < 2 ^ 32) :
    (laneDivs d0 d1 b).1 < 2 ^ 32 ∧ (laneDivs d0 d1 b).2 < 2 ^ 32 := by
  unfold laneDivs
  dsimp only
  split
  · exact ⟨h0, h1⟩
  · next more =>
    have rem := Nat.mod_lt (4 * bitsAt d0 0 25 - 2 * (2 * bitsAt d0 0 25 / divSig b) * divSig b) (Nat.two_pow_pos 25)
    have quo := Nat.mod_lt (bitsAt d1 0 26 * 4 ||| 2 * bitsAt d0 0 25 / divSig b) (Nat.two_pow_pos 26)
    dsimp only
    omega

/-! ### The instructions -/

section
variable {s : State} {d n x a b p : Nat} {bs : Bool}

/-- The next word of a ready newt holds the instruction that it has fetched. -/
theorem State.holds_of_fetched {i : Instr} {e : Bool} {op : NewtOp} (hr : s.Ready d n) (hi : newtInstr i = some ⟨d, n, e, op⟩)
    (h : s.fetched i = true) : s.holds d n (s.get .NEWT_NEXT d n) e op = true := by
  obtain ⟨-, -, -, none, -⟩ := hr
  have empty : (s.openBundle d n).words = 0 := by rw [State.openBundle, none]; rfl
  unfold State.fetched at h
  rw [hi] at h
  dsimp only at h
  rwa [empty, Nat.add_zero] at h

/-- A fetched M instruction of a ready newt completes; its slot writes the cells of `l`. -/
theorem completes_issueM {i : Instr} {m : MIns} {l : List Loc} {post : State → Prop} (hr : s.Ready d n)
    (hi : newtInstr i = some ⟨d, n, true, .m m⟩) (hx : exec i s = .next (s.issueM d n true m)) (hf : s.fetched i = true)
    (hl : MIns.legal m = true) (hd : distinct (MIns.dests m) = true) (hw : s.Within (s.mSlot s d n m) l) (hc : ∀ c ∈ l, c.fld ∈ laneFlds)
    (hpost : ∀ t, s.Ran t d n (s.get .NEWT_NEXT d n + 1) l → (∀ f ∈ laneFlds, ∀ e j, t.get f e j = (s.mSlot s d n m).get f e j) → post t) :
    Completes i s post := by
  obtain ⟨ran, same⟩ := State.issueM_ran hr (State.holds_of_fetched hr hi hf) hl hd hw hc
  exact ⟨_, hx, hpost _ ran same⟩

theorem flagFlds_subset : flagFlds ⊆ laneFlds := by decide

section
variable {z neg : Bool} {k : Nat}

/-- VMAC (R112). -/
theorem exec_vmac_lanes (hr : s.Ready d n) (hb : bs = true → b < 16) (hk : k < 8) (hf : s.fetched (.vmac d n true x a b p bs z neg) = true) :
    Completes (.vmac d n true x a b p bs z neg) s fun t =>
      s.Ran t d n (s.get .NEWT_NEXT d n + 1) (accCells d n x ++ flagCells d n) ∧
      s.Sticky t d n p (fun j => laneMac z neg (s.accReg d n x j) (s.vReg d n a j) (s.srcB d n b bs j)) ∧
      t.accReg d n x k = if bitAt (s.pReg d n p) k = 1
        then (laneMac z neg (s.accReg d n x k) (s.vReg d n a k) (s.srcB d n b bs k)).bits % 2 ^ 64 else s.accReg d n x k := by
  let r := fun j => laneMac z neg (s.accReg d n x j) (s.vReg d n a j) (s.srcB d n b bs j)
  have slot : s.mSlot s d n (.vmac x a b p bs z neg) =
    s.each (lanesOf (s.pReg d n p)) fun j t => (t.setAcc d n x j (r j).bits).setFlags d n j (r j) := rfl
  refine completes_issueM (m := .vmac x a b p bs z neg) (l := accCells d n x ++ flagCells d n) hr rfl rfl hf ?_ rfl ?_ ?_
    fun t ran same => ⟨ran, ?_, ?_⟩
  · cases bs
    · rfl
    · simpa [MIns.legal, legalB] using hb
  · rw [slot]
    exact State.Within.refl.each fun j hj u h => (h.setAcc (mem_lanesOf.1 hj).1 (List.subset_append_left ..)).setFlags
      (List.subset_append_right ..)
  · intro c hc
    rcases List.mem_append.1 hc with hc | hc
    · rw [fld_of_mem_accCells hc]; decide
    · exact flagFlds_subset (fld_of_mem_flagCells hc)
  · refine State.Sticky.congr ?_ fun f hf => same f (flagFlds_subset hf) d n
    rw [slot]
    exact State.sticky_lanes fun j u f hf => State.get_put_fld u (by rintro rfl; simp [flagFlds] at hf) ..
  · rw [State.accReg, same _ (by decide), slot]
    refine State.observe_lanes (φ := fun u => u.accReg d n x k) (F := fun _ => (r k).bits % 2 ^ 64) hk (fun u => ?_) (fun j hj hne u => ?_) s
    · refine (State.get_setFlags (by decide) ..).trans ?_
      exact State.accReg_setAcc.trans (if_pos rfl)
    · refine (State.get_setFlags (by decide) ..).trans ?_
      exact State.accReg_setAcc.trans (if_neg hne.symm)

/-- VCMP (R113). -/
theorem exec_vcmp_lanes {cond : Nat} (hr : s.Ready d n) (hb : bs = true → b < 16) (hcond : cond < 7) (hk : k < 8)
    (hf : s.fetched (.vcmp d n true x a b p bs cond) = true) :
    Completes (.vcmp d n true x a b p bs cond) s fun t =>
      s.Ran t d n (s.get .NEWT_NEXT d n + 1) ((if x = 0 then [] else [⟨.DBG_P, d, n * 4 + x⟩]) ++ flagCells d n) ∧
      s.Sticky t d n p (fun j => nanFlag (fpNan (s.vReg d n a j) || fpNan (s.srcB d n b bs j))) ∧
      (x ≠ 0 → bitAt (t.pReg d n x) k = if bitAt (s.pReg d n p) k = 1 then flag (laneCmp cond (s.vReg d n a k) (s.srcB d n b bs k))
        else bitAt (s.pReg d n x) k) := by
  let c := fun j => flag (laneCmp cond (s.vReg d n a j) (s.srcB d n b bs j))
  let r := fun j => nanFlag (fpNan (s.vReg d n a j) || fpNan (s.srcB d n b bs j))
  have slot : s.mSlot s d n (.vcmp x a b p bs cond) = s.each (lanesOf (s.pReg d n p)) fun j t =>
    (t.setP d n x (setBits (t.pReg d n x) j 1 (c j))).setFlags d n j (r j) := rfl
  have bit (j : Nat) : c j < 2 := by
    simp only [c, flag]
    split <;> decide
  refine completes_issueM (m := .vcmp x a b p bs cond) (l := (if x = 0 then [] else [⟨.DBG_P, d, n * 4 + x⟩]) ++ flagCells d n) hr rfl rfl
    hf ?_ rfl ?_ ?_ fun t ran same => ⟨ran, ?_, fun hx => ?_⟩
  · cases bs
    · simp [MIns.legal, legalB, hcond]
    · simpa [MIns.legal, legalB, hcond] using hb
  · rw [slot]
    exact State.Within.refl.each fun j _ u h => (h.setP fun hx => by simp [hx]).setFlags (List.subset_append_right ..)
  · intro l hl
    rcases List.mem_append.1 hl with hl | hl
    · split at hl
      · cases hl
      · simp [List.mem_singleton.1 hl, laneFlds]
    · exact flagFlds_subset (fld_of_mem_flagCells hl)
  · refine State.Sticky.congr ?_ fun f hf => same f (flagFlds_subset hf) d n
    rw [slot]
    exact State.sticky_lanes fun j u f hf => State.get_setP_ne (by rintro rfl; simp [flagFlds] at hf) ..
  · have keeps (j : Nat) (u : State) : bitAt (((u.setP d n x (setBits (u.pReg d n x) j 1 (c j))).setFlags d n j (r j)).pReg d n x) k =
        if k = j then c j else bitAt (u.pReg d n x) k := by
      have flags : ((u.setP d n x (setBits (u.pReg d n x) j 1 (c j))).setFlags d n j (r j)).pReg d n x =
          (u.setP d n x (setBits (u.pReg d n x) j 1 (c j))).pReg d n x := State.pReg_congr (State.get_setFlags (by decide) ..)
      rw [flags, State.pReg_setP hx, ← bitAt_setBits_one _ _ _ (bit j), bitAt_eq_toNat, bitAt_eq_toNat, Nat.testBit_mod_two_pow]
      simp [hk]
    rw [State.pReg_congr (same .DBG_P (by decide) ..), slot]
    refine State.observe_lanes (φ := fun u => bitAt (u.pReg d n x) k) (F := fun _ => c k) hk (fun u => ?_) (fun j hj hne u => ?_) s
    · exact (keeps k u).trans (if_pos rfl)
    · exact (keeps j u).trans (if_neg hne.symm)

/-- VSEL (R114). -/
theorem exec_vsel_lanes (hr : s.Ready d n) (hk : k < 8) (hf : s.fetched (.vsel d n true x a b p) = true) :
    Completes (.vsel d n true x a b p) s fun t => s.Ran t d n (s.get .NEWT_NEXT d n + 1) (vCells d n x) ∧
      t.vReg d n x k = if bitAt (s.pReg d n p) k = 1 then s.vReg d n a k else s.vReg d n b k := by
  let y := fun j => if bitAt (s.pReg d n p) j = 1 then s.vReg d n a j else s.vReg d n b j
  have slot : s.mSlot s d n (.vsel x a b p) = s.each (List.range 8) fun j t => t.setV d n x j (y j) := rfl
  obtain ⟨canonical, -⟩ := id hr
  have word : y k < 2 ^ 32 := by
    have lane (q : Nat) : s.vReg d n q k < 2 ^ 32 := State.get_lt (f := .DBG_V) canonical rfl
    simp only [y]
    split
    · exact lane a
    · exact lane b
  refine completes_issueM (m := .vsel x a b p) (l := vCells d n x) hr rfl rfl hf rfl rfl ?_ ?_ fun t ran same => ⟨ran, ?_⟩
  · rw [slot]
    exact State.Within.refl.each fun j hj u h => h.setV (List.mem_range.1 hj) (List.Subset.refl _)
  · intro c hc
    rw [fld_of_mem_vCells hc]
    decide
  · rw [State.vReg, same _ (by decide), slot]
    have copied := State.observe_each (φ := fun u => u.vReg d n x k) (F := fun _ => y k % 2 ^ 32) (g := fun j t => t.setV d n x j (y j))
      List.nodup_range (fun _ u => (State.vReg_setV hk hk).trans (if_pos ⟨rfl, rfl⟩))
      (fun j hj hne u => (State.vReg_setV (List.mem_range.1 hj) hk).trans (if_neg fun h => hne h.2.symm)) s
    rw [if_pos (List.mem_range.2 hk), Nat.mod_eq_of_lt word] at copied
    exact copied

/-- VGLIDE (R117). -/
theorem exec_vglide_lanes (hr : s.Ready d n) (hx : x % 2 = 0) (hb : b ≠ x) (hb' : b ≠ x + 1) (hk : k < 8)
    (hf : s.fetched (.vglide d n true x a b p) = true) :
    Completes (.vglide d n true x a b p) s fun t =>
      s.Ran t d n (s.get .NEWT_NEXT d n + 1) (vCells d n x ++ vCells d n b ++ flagCells d n) ∧
      s.Sticky t d n p (fun j => nanFlag (fpNan (s.vReg d n a j))) ∧
      (t.vReg d n x k, t.vReg d n b k) = if bitAt (s.pReg d n p) k = 1
        then laneGlide (s.vReg d n x k) (s.vReg d n (x + 1) k) (s.vReg d n a k) (s.vReg d n b k) else (s.vReg d n x k, s.vReg d n b k) := by
  let y := fun j => laneGlide (s.vReg d n x j) (s.vReg d n (x + 1) j) (s.vReg d n a j) (s.vReg d n b j)
  let r := fun j => nanFlag (fpNan (s.vReg d n a j))
  have slot : s.mSlot s d n (.vglide x a b p) = s.each (lanesOf (s.pReg d n p)) fun j t =>
    ((t.setV d n x j (y j).1).setV d n b j (y j).2).setFlags d n j (r j) := rfl
  obtain ⟨canonical, -⟩ := id hr
  have lane (q : Nat) : s.vReg d n q k < 2 ^ 32 := State.get_lt (f := .DBG_V) canonical rfl
  refine completes_issueM (m := .vglide x a b p) (l := vCells d n x ++ vCells d n b ++ flagCells d n) hr rfl rfl hf ?_ ?_ ?_ ?_
    fun t ran same => ⟨ran, ?_, ?_⟩
  · simp [MIns.legal, hx, hb, hb']
  · simp [MIns.dests, distinct, hb.symm]
  · rw [slot]
    exact State.Within.refl.each fun j hj u h => ((h.setV (mem_lanesOf.1 hj).1 (by simp)).setV (mem_lanesOf.1 hj).1 (by simp)).setFlags
      (by simp)
  · intro c hc
    rcases List.mem_append.1 hc with hc | hc
    · rcases List.mem_append.1 hc with hc | hc <;> rw [fld_of_mem_vCells hc] <;> decide
    · exact flagFlds_subset (fld_of_mem_flagCells hc)
  · refine State.Sticky.congr ?_ fun f hf => same f (flagFlds_subset hf) d n
    rw [slot]
    exact State.sticky_lanes fun j u f hf => (State.get_put_fld _ (by rintro rfl; simp [flagFlds] at hf) ..).trans
      (State.get_put_fld _ (by rintro rfl; simp [flagFlds] at hf) ..)
  · rw [State.vReg, same _ (by decide), State.vReg, same _ (by decide), slot]
    exact State.twoRegisters_lanes (y := y) hb hk (laneGlide_lt (lane x) (lane (x + 1))) (fun j u q => State.get_setFlags (by decide) ..) s

/-- A division instruction writes the two words of its state in the enabled lanes alone (R119). -/
theorem completes_division {i : Instr} {m : MIns} {y : Nat → Nat × Nat} (hr : s.Ready d n) (hi : newtInstr i = some ⟨d, n, true, .m m⟩)
    (hx : exec i s = .next (s.issueM d n true m)) (hf : s.fetched i = true) (hl : MIns.legal m = true) (hd : MIns.dests m = [(0, x), (0, x + 1)])
    (hslot : s.mSlot s d n m = s.each (lanesOf (s.pReg d n p)) fun j t => (t.setV d n x j (y j).1).setV d n (x + 1) j (y j).2) (hk : k < 8)
    (hy : (y k).1 < 2 ^ 32 ∧ (y k).2 < 2 ^ 32) :
    Completes i s fun t => s.Ran t d n (s.get .NEWT_NEXT d n + 1) (vCells d n x ++ vCells d n (x + 1)) ∧
      (t.vReg d n x k, t.vReg d n (x + 1) k) = if bitAt (s.pReg d n p) k = 1 then y k else (s.vReg d n x k, s.vReg d n (x + 1) k) := by
  refine completes_issueM (l := vCells d n x ++ vCells d n (x + 1)) hr hi hx hf hl ?_ ?_ ?_ fun t ran same => ⟨ran, ?_⟩
  · simp [hd, distinct]
  · rw [hslot]
    exact State.Within.refl.each fun j hj u h => (h.setV (mem_lanesOf.1 hj).1 (by simp)).setV (mem_lanesOf.1 hj).1 (by simp)
  · intro c hc
    rcases List.mem_append.1 hc with hc | hc <;> rw [fld_of_mem_vCells hc] <;> decide
  · rw [State.vReg, same _ (by decide), State.vReg, same _ (by decide), hslot]
    exact State.twoRegisters_lanes (y := y) (by omega) hk hy (fun _ _ _ => rfl) s

end

end

end Sys2Proof.Machine
end

section
/-! PROOF. -/

open Sys2Proof Sys2Proof.Machine

/-- Settles O15: each instruction by what its slot does lane by lane (`State.observe_lanes`, `State.sticky_lanes`); the accumulator's
arithmetic by `roundSig_rounds`, the conditions by the order of the values. -/
theorem laneStateOperations : Obligations.LaneStateOperations := by
  unfold Obligations.LaneStateOperations
  refine ⟨?_, ?_⟩
  · intro s d n x a b p k bs z neg _ _ _ _ _ hb _ hk hr isNan on B next
    have canonical : s.canonical = true := hr.1
    have lane (q : Nat) : s.vReg d n q k < 2 ^ 32 := State.get_lt (f := .DBG_V) canonical rfl
    refine ⟨fun _ hf => exec_vmac_lanes hr hb hk hf, fun cond hcond _ hf => ?_, fun hf => exec_vsel_lanes hr hk hf,
      fun hx hbx hbx' hf => ?_, fun hx hf => ?_, fun hx hf => ?_⟩
    · have done := exec_vcmp_lanes hr hb hcond hk hf
      simp only [fpNan_eq] at done
      exact done
    · obtain ⟨t, ran, cells, sticky, pair⟩ := exec_vglide_lanes hr hx hbx hbx' hk hf
      simp only [fpNan_eq] at sticky
      refine ⟨t, ran, cells, sticky, fun hon => pair.trans (if_pos hon), fun hoff => ?_⟩
      exact Prod.mk.inj (pair.trans (if_neg hoff))
    · exact completes_division (y := fun j => laneDivi (s.vReg d n a j)) hr rfl rfl hf (by simp [MIns.legal, hx]) rfl rfl hk (laneDivi_lt _)
    · exact completes_division (y := fun j => laneDivs (s.vReg d n x j) (s.vReg d n (x + 1) j) (s.vReg d n b j)) hr rfl rfl hf
        (by simp [MIns.legal, hx]) rfl rfl hk (laneDivs_lt _ (lane x) (lane (x + 1)))
  · intro acc x y z neg _ _ nan
    refine ⟨fun hx hy => ⟨fun hl he => laneMac_accumulates z neg hx hy hl he, laneCmp_of_finite hx hy⟩, fun h => ?_⟩
    have operand : fpOf x = .nan ∨ fpOf y = .nan := h.imp fpOf_eq_nan fpOf_eq_nan
    obtain ⟨exponent, significand⟩ := accNan_fields acc x y
    rw [laneMac_of_nan z neg acc operand]
    exact ⟨rfl, exponent, significand, fun c hc => laneCmp_of_nan c hc operand⟩
end

section
/-! SUPPORT. Division steps (R119) and the seed of the reciprocal (R118), as integers. -/

namespace Sys2Proof.Machine

/-! ### Division steps -/

/-- The words of a lane that has taken `k` division steps of `ma` by `mb`: two bits of the quotient a step, the remainder doubled. -/
structure DivState (ma mb k : Nat) (q : Nat × Nat) : Prop where
  steps : bitsAt q.1 28 4 = k
  gap : bitsAt q.1 25 3 = 0
  word : q.1 < 2 ^ 32
  rem_lt : bitsAt q.1 0 25 < 2 * mb
  quotient : q.2 * (2 * mb) + bitsAt q.1 0 25 = ma * 4 ^ k

/-- A field between the bits above it and those below. -/
theorem bitsAt_packed {v hi mid low lo w : Nat} (hv : v = (hi * 2 ^ w + mid) * 2 ^ lo + low) (hlow : low < 2 ^ lo) (hmid : mid < 2 ^ w) :
    bitsAt v lo w = mid := by
  rw [hv, bitsAt, Nat.add_comm, Nat.add_mul_div_right _ _ (Nat.two_pow_pos lo), Nat.div_eq_of_lt hlow, Nat.zero_add, Nat.mul_add_mod',
    Nat.mod_eq_of_lt hmid]

/-- The fields of a word of R119's layout. -/
theorem divWord_fields {r k : Nat} (hr : r < 2 ^ 25) (hk : k < 16) :
    bitsAt (r + k * 2 ^ 28) 0 25 = r ∧ bitsAt (r + k * 2 ^ 28) 25 3 = 0 ∧ bitsAt (r + k * 2 ^ 28) 28 4 = k ∧ r + k * 2 ^ 28 < 2 ^ 32 := by
  refine ⟨bitsAt_packed (hi := k * 8) (low := 0) ?_ (by decide) hr, bitsAt_packed (hi := k) ?_ hr (by decide),
    bitsAt_packed (hi := 0) ?_ (hr.trans (by decide)) ?_, ?_⟩ <;> omega

theorem divState_init (a b : Nat) : DivState (divSig a) (divSig b) 0 (laneDivi a) := by
  obtain ⟨lo, hi⟩ := divSig_lt a
  obtain ⟨lob, -⟩ := divSig_lt b
  obtain ⟨rem, gap, steps, word⟩ := divWord_fields (r := divSig a) (k := 0) (by omega) (by decide)
  rw [Nat.zero_mul, Nat.add_zero] at rem gap steps word
  exact ⟨steps, gap, word, by rw [laneDivi, rem]; omega, by simp [laneDivi, rem]⟩

/-- A quotient, with a remainder, of at most thirteen steps. -/
theorem lt_of_scaled {x m r ma k : Nat} (h : x * m + r = ma * 4 ^ k) (hlt : ma < m) (hk : k ≤ 13) : x < 2 ^ 26 := by
  have pow : (4 : Nat) ^ k ≤ 2 ^ 26 := (Nat.pow_le_pow_right (by decide) hk : 4 ^ k ≤ 4 ^ 13).trans (by decide)
  refine Nat.lt_of_mul_lt_mul_right (a := m) ?_
  calc x * m ≤ ma * 4 ^ k := h ▸ Nat.le_add_right ..
    _ ≤ ma * 2 ^ 26 := Nat.mul_le_mul_left _ pow
    _ < m * 2 ^ 26 := Nat.mul_lt_mul_of_pos_right hlt (by decide)
    _ = 2 ^ 26 * m := Nat.mul_comm ..

/-- Where steps are left the quotient is below 2²⁶ after the next. -/
theorem DivState.quotient_lt {ma mb k : Nat} {q : Nat × Nat} (h : DivState ma mb k q) (hlt : ma < 2 * mb) (hk : k ≤ 13) : q.2 < 2 ^ 26 :=
  lt_of_scaled h.quotient hlt hk

/-- One step: the quotient gains ⌊2R / MB⌋, below 4, and the remainder becomes twice what is left. -/
theorem DivState.step {ma b k : Nat} {q : Nat × Nat} (h : DivState ma (divSig b) k q) (hlt : ma < 2 * divSig b) (hk : k < 13) :
    DivState ma (divSig b) (k + 1) (laneDivs q.1 q.2 b) := by
  obtain ⟨lob, hib⟩ := divSig_lt b
  have small := h.quotient_lt hlt (by omega)
  obtain ⟨steps, gap, word, rem_lt, quotient⟩ := h
  have quo : bitsAt q.2 0 26 = q.2 := by rw [bitsAt, Nat.pow_zero, Nat.div_one, Nat.mod_eq_of_lt small]
  generalize hm : divSig b = mb at *
  generalize hr : bitsAt q.1 0 25 = r at *
  have digit : 2 * r / mb < 2 ^ 2 := Nat.div_lt_of_lt_mul (by omega)
  have split : mb * (2 * r / mb) + 2 * r % mb = 2 * r := Nat.div_add_mod ..
  have left : 2 * r % mb < mb := Nat.mod_lt _ (by omega)
  have joined : q.2 * 4 ||| 2 * r / mb = q.2 * 4 + 2 * r / mb := by
    rw [Nat.mul_comm, ← Nat.two_pow_add_eq_or_of_lt digit]
  have twice : 4 * r - 2 * (2 * r / mb) * mb = 2 * (2 * r % mb) := by
    rw [show 2 * (2 * r / mb) * mb = 2 * (mb * (2 * r / mb)) by ring]
    omega
  have advanced : (q.2 * 4 + 2 * r / mb) * (2 * mb) + 2 * (2 * r % mb) = ma * 4 ^ (k + 1) := by
    calc (q.2 * 4 + 2 * r / mb) * (2 * mb) + 2 * (2 * r % mb)
        = 4 * (q.2 * (2 * mb)) + 2 * (mb * (2 * r / mb) + 2 * r % mb) := by ring
      _ = 4 * (q.2 * (2 * mb) + r) := by rw [split]; ring
      _ = ma * 4 ^ (k + 1) := by rw [quotient]; ring
  have fits : q.2 * 4 + 2 * r / mb < 2 ^ 26 := lt_of_scaled advanced hlt hk
  obtain ⟨rem', gap', steps', word'⟩ := divWord_fields (r := 2 * (2 * r % mb)) (k := k + 1) (by omega) (by omega)
  have result : laneDivs q.1 q.2 b = (2 * (2 * r % mb) + (k + 1) * 2 ^ 28, q.2 * 4 + 2 * r / mb) := by
    unfold laneDivs
    dsimp only
    rw [steps, if_neg (by omega), hm, hr, quo, twice, joined, Nat.mod_eq_of_lt (by omega), Nat.mod_eq_of_lt fits]
  rw [result]
  exact ⟨steps', gap', word', by rw [rem']; omega, by rw [rem']; exact advanced⟩

theorem divState_repeat (a b : Nat) {k : Nat} (hk : k ≤ 13) :
    DivState (divSig a) (divSig b) k (Nat.repeat (fun q : Nat × Nat => laneDivs q.1 q.2 b) k (laneDivi a)) := by
  obtain ⟨-, hia⟩ := divSig_lt a
  obtain ⟨lob, -⟩ := divSig_lt b
  induction k with
  | zero => exact divState_init a b
  | succ k ih => exact (ih (by omega)).step (by omega) (by omega)

/-- After thirteen steps the quotient is ⌊MA × 2²⁵ / MB⌋. -/
theorem DivState.done {ma mb : Nat} {q : Nat × Nat} (h : DivState ma mb 13 q) : q.2 = ma * 2 ^ 25 / mb := by
  obtain ⟨-, -, -, rem_lt, quotient⟩ := h
  have doubled : ma * 2 ^ 25 / mb = ma * 4 ^ 13 / (2 * mb) := by
    rw [show ma * 4 ^ 13 = 2 * (ma * 2 ^ 25) by ring, Nat.mul_div_mul_left _ _ two_pos]
  rw [doubled, ← quotient, Nat.mul_comm q.2, Nat.mul_add_div (by omega), Nat.div_eq_of_lt rem_lt, Nat.add_zero]

/-- A lane whose steps are done keeps its words. -/
theorem laneDivs_done {d0 : Nat} (d1 b : Nat) (h : 13 ≤ bitsAt d0 28 4) : laneDivs d0 d1 b = (d0, d1) := by
  unfold laneDivs
  exact if_pos h

theorem divSig_eq (x : Nat) : divSig x = if bitsAt x 23 8 = 0 ∨ bitsAt x 23 8 = 255 then 2 ^ 23 else 2 ^ 23 + bitsAt x 0 23 := by
  unfold divSig fpOf
  dsimp only
  by_cases top : bitsAt x 23 8 = 255
  · rw [if_pos top, if_pos (Or.inr top : bitsAt x 23 8 = 0 ∨ bitsAt x 23 8 = 255)]
    by_cases inf : bitsAt x 0 23 = 0
    · rw [if_pos inf]
    · rw [if_neg inf]
  · rw [if_neg top]
    by_cases bottom : bitsAt x 23 8 = 0
    · rw [if_pos bottom, if_pos (Or.inl bottom : bitsAt x 23 8 = 0 ∨ bitsAt x 23 8 = 255)]
    · rw [if_neg bottom, if_neg (by simp [top, bottom])]
      exact Nat.add_comm ..

/-! ### The seed -/

theorem fpOf_normal {x : Nat} (h0 : bitsAt x 23 8 ≠ 0) (h255 : bitsAt x 23 8 ≠ 255) :
    fpOf x = .fin (fpNeg x) (bitsAt x 0 23 + 2 ^ 23) ((bitsAt x 23 8 : ℤ) - 150) := by
  unfold fpOf
  dsimp only
  rw [if_neg h255, if_neg h0]
  rfl

theorem flag_fpNeg (x : Nat) : flag (fpNeg x) = bitAt x 31 := by
  have bit := bitAt_lt x 31
  unfold fpNeg
  interval_cases bitAt x 31 <;> rfl

/-- The fields of a normal fp32 word. -/
theorem fpWord_fields (n : Bool) {e f : Nat} (he : e < 256) (hf : f < 2 ^ 23) :
    let b := (if n then 2 ^ 31 else 0) + e * 2 ^ 23 + f
    bitAt b 31 = flag n ∧ bitsAt b 23 8 = e ∧ bitsAt b 0 23 = f ∧ b < 2 ^ 32 := by
  intro b
  have sign : flag n < 2 := by cases n <;> decide
  have top : (if n then 2 ^ 31 else 0) = flag n * 2 ^ 31 := by cases n <;> decide
  have word : b = flag n * 2 ^ 31 + e * 2 ^ 23 + f := congrArg (· + e * 2 ^ 23 + f) top
  clear_value b
  subst word
  generalize flag n = g at sign
  refine ⟨bitsAt_packed (w := 1) (hi := 0) (low := e * 2 ^ 23 + f) ?_ ?_ ?_, bitsAt_packed (hi := g) ?_ hf ?_,
    bitsAt_packed (hi := g * 2 ^ 8 + e) (low := 0) ?_ (by decide) hf, ?_⟩ <;> omega

theorem bitLen_eq {s l : Nat} (hlo : 2 ^ l ≤ s) (hhi : s < 2 ^ (l + 1)) : bitLen s = l + 1 := by
  have pos := Nat.two_pow_pos l
  rw [bitLen, if_neg (by omega), (Nat.log2_eq_iff (by omega)).2 ⟨hlo, hhi⟩]

/-- A significand of no more bits than the result keeps is exact. -/
theorem roundSig_exact {p s : Nat} (n : Bool) (e : ℤ) (h : bitLen s ≤ p) :
    roundSig p n s e = (s * 2 ^ (p - bitLen s), e - (p - bitLen s : Nat)) := if_pos h

/-- A thirteen-bit significand delivered in the range of normal values. -/
theorem fpOut_thirteenBits (n : Bool) {q e : Nat} (hlo : 2 ^ 12 ≤ q) (hhi : q < 2 ^ 13) (h1 : 1 ≤ e) (h2 : e < 255) :
    fpOut (.fin n q ((e : ℤ) - 139)) = FpRes.plain ((if n then 2 ^ 31 else 0) + e * 2 ^ 23 + (q * 2 ^ 11 - 2 ^ 23)) := by
  have len : bitLen q = 13 := bitLen_eq (l := 12) hlo hhi
  have exact_ : roundSig 24 n q ((e : ℤ) - 139) = (q * 2 ^ 11, (e : ℤ) - 150) := by
    rw [roundSig_exact n _ (by omega), len]
    exact Prod.ext rfl (by push_cast; ring)
  have field : ((e : ℤ) - 150 + 23 + 127).toNat = e := by omega
  unfold fpOut
  dsimp only
  rw [exact_]
  dsimp only
  rw [if_neg (by omega), if_neg (by omega), field]

/-- The divisor and the seed that RCPS takes of a significand (R118). -/
def seedDivisor (sig : Nat) : Nat := 2049 + 2 * bitsAt sig 13 10
def seedOf (sig : Nat) : Nat := (2 ^ 25 + seedDivisor sig) / (2 * seedDivisor sig)

/-- The divisor stands in the middle of the significands that share it. -/
theorem seedDivisor_bounds {sig : Nat} (hlo : 2 ^ 23 ≤ sig) (hhi : sig < 2 ^ 24) :
    2049 ≤ seedDivisor sig ∧ seedDivisor sig ≤ 4095 ∧ 2 ^ 12 * seedDivisor sig ≤ sig + 2 ^ 12 ∧ sig < 2 ^ 12 * seedDivisor sig + 2 ^ 12 := by
  unfold seedDivisor bitsAt
  omega

/-- The seed is 2²⁴ over the divisor, rounded. -/
theorem seedOf_bounds (sig : Nat) : 2 * (seedOf sig * seedDivisor sig) ≤ 2 ^ 25 + seedDivisor sig ∧
    2 ^ 25 < 2 * (seedOf sig * seedDivisor sig) + seedDivisor sig := by
  have pos : 0 < 2 * seedDivisor sig := by unfold seedDivisor; omega
  have split := Nat.div_add_mod (2 ^ 25 + seedDivisor sig) (2 * seedDivisor sig)
  have left := Nat.mod_lt (2 ^ 25 + seedDivisor sig) pos
  have product : 2 * seedDivisor sig * seedOf sig = 2 * (seedOf sig * seedDivisor sig) := by ring
  unfold seedOf at *
  omega

theorem seedOf_range {sig : Nat} (hlo : 2 ^ 23 ≤ sig) (hhi : sig < 2 ^ 24) : 2 ^ 12 ≤ seedOf sig ∧ seedOf sig < 2 ^ 13 := by
  obtain ⟨dlo, dhi, -, -⟩ := seedDivisor_bounds hlo hhi
  obtain ⟨most, least⟩ := seedOf_bounds sig
  constructor
  · by_contra small
    have : seedOf sig * seedDivisor sig ≤ 4095 * 4095 := Nat.mul_le_mul (by omega) dhi
    omega
  · by_contra large
    have : 8192 * 2049 ≤ seedOf sig * seedDivisor sig := Nat.mul_le_mul (by omega) dlo
    omega

/-- The product of a significand and its seed lies within 2²⁶ of 2³⁶. -/
theorem sig_mul_seedOf {sig : Nat} (hlo : 2 ^ 23 ≤ sig) (hhi : sig < 2 ^ 24) :
    2 ^ 36 < sig * seedOf sig + 2 ^ 26 ∧ sig * seedOf sig < 2 ^ 36 + 2 ^ 26 := by
  obtain ⟨-, dhi, below, above⟩ := seedDivisor_bounds hlo hhi
  obtain ⟨most, least⟩ := seedOf_bounds sig
  obtain ⟨-, qhi⟩ := seedOf_range hlo hhi
  have low : 2 ^ 12 * seedDivisor sig * seedOf sig ≤ (sig + 2 ^ 12) * seedOf sig := Nat.mul_le_mul_right _ below
  have high : sig * seedOf sig ≤ (2 ^ 12 * seedDivisor sig + 2 ^ 12) * seedOf sig := Nat.mul_le_mul_right _ above.le
  have middle : 2 ^ 12 * seedDivisor sig * seedOf sig = 2 ^ 12 * (seedOf sig * seedDivisor sig) := by ring
  rw [Nat.add_mul] at low high
  omega

/-- RCPS of a normal value whose seed does not underflow. -/
theorem laneRcps_normal {x : Nat} (h1 : 0 < bitsAt x 23 8) (h2 : bitsAt x 23 8 < 253) :
    laneRcps x = FpRes.plain ((if fpNeg x then 2 ^ 31 else 0) + (253 - bitsAt x 23 8) * 2 ^ 23 +
      (seedOf (bitsAt x 0 23 + 2 ^ 23) * 2 ^ 11 - 2 ^ 23)) := by
  have frac := bitsAt_lt x 0 23
  obtain ⟨qlo, qhi⟩ := seedOf_range (sig := bitsAt x 0 23 + 2 ^ 23) (by omega) (by omega)
  have exponent : -13 - ((bitsAt x 23 8 : ℤ) - 150 + 23) = ((253 - bitsAt x 23 8 : Nat) : ℤ) - 139 := by omega
  unfold laneRcps
  rw [fpOf_normal (by omega) (by omega)]
  dsimp only
  rw [exponent]
  exact fpOut_thirteenBits _ qlo qhi (by omega) (by omega)

end Sys2Proof.Machine
end

section
/-! PROOF. -/

open Sys2Proof Sys2Proof.Machine

/-- Settles O16: the state after each step is `DivState`, by induction on the steps. -/
theorem divisionStepsGiveTheQuotient : Obligations.DivisionStepsGiveTheQuotient := by
  unfold Obligations.DivisionStepsGiveTheQuotient
  intro a b sig step q
  have state : DivState (divSig a) (divSig b) 13 q := divState_repeat a b le_rfl
  obtain ⟨-, hia⟩ := divSig_lt a
  obtain ⟨lob, -⟩ := divSig_lt b
  refine ⟨state.steps, state.gap, state.word, ?_, state.quotient_lt (by omega) le_rfl, laneDivs_done _ _ (by rw [state.steps])⟩
  rw [state.done, divSig_eq, divSig_eq]
end

section
/-! PROOF. -/

open Sys2Proof Sys2Proof.Machine

/-- Settles O17: the divisor of the seed is within 2¹² of the significand over 2¹² (`seedDivisor_bounds`), the seed within half of the
exact quotient (`seedOf_bounds`). -/
theorem reciprocalSeedBound : Obligations.ReciprocalSeedBound := by
  unfold Obligations.ReciprocalSeedBound
  intro x _ h1 h2 r p
  have frac := bitsAt_lt x 0 23
  obtain ⟨qlo, qhi⟩ := seedOf_range (sig := bitsAt x 0 23 + 2 ^ 23) (by omega) (by omega)
  obtain ⟨low, high⟩ := sig_mul_seedOf (sig := bitsAt x 0 23 + 2 ^ 23) (by omega) (by omega)
  obtain ⟨sign, exponent, significand, -⟩ := fpWord_fields (fpNeg x) (e := 253 - bitsAt x 23 8)
    (f := seedOf (bitsAt x 0 23 + 2 ^ 23) * 2 ^ 11 - 2 ^ 23) (by omega) (by omega)
  have result : r = _ := laneRcps_normal h1 h2
  have product : p = (bitsAt x 0 23 + 2 ^ 23) * seedOf (bitsAt x 0 23 + 2 ^ 23) * 2 ^ 11 := by
    simp only [p, result, FpRes.plain]
    rw [significand, Nat.add_sub_cancel' (by omega)]
    ring
  rw [product, result]
  refine ⟨rfl, rfl, rfl, sign.trans (flag_fpNeg x), ?_, by omega, by omega⟩
  rw [FpRes.plain, exponent]
  omega
end

section
/-! SUPPORT. The state of O11's counterexample. -/

namespace Sys2Proof.Machine

/-- The VMAC that a word of zeros is, without E. -/
def zeroWord : Instr := .vmac 5 31 false 0 0 0 0 false false false

/-- Newt 31 of die 5 before its bundle at word 100. -/
def plainNewt : State := demoNewt [] []

/-- The same newt, decoding a bundle that a VMAC opened, with an entry of 8192 for the 13-bit NEWT_NEXT. -/
def strayNewt : State :=
  { plainNewt with
    cells := Cells.insert ⟨.NEWT_NEXT, 5, 31⟩ 8192 plainNewt.cells
    bundles := [mBundle 5 31 (.vmac 0 0 0 0 false false false)] }

theorem plainNewt_ready : plainNewt.Ready 5 31 := by decide +kernel

theorem strayNewt_meetsPremises : strayNewt.newtIs 5 31 newtRun = true ∧ strayNewt.dieClocked 5 = true ∧
    strayNewt.bundleOf 5 31 = some (mBundle 5 31 (.vmac 0 0 0 0 false false false)) ∧ strayNewt.fetched zeroWord = true ∧
    strayNewt.get .NEWT_NEXT 5 31 = 8192 := by decide +kernel

/-- Whatever stood in NEWT_NEXT, the NEWT_PC of a newt that has just faulted keeps within its 13 bits. -/
theorem State.newtFaults_pc_lt (s : State) (f : FaultName) (others : List Raise) (d n : Nat) :
    (s.newtFaults f others d n).get .NEWT_PC d n < 2 ^ 13 := by
  rw [(s.newtFaults_touches f others d n).get _ (by decide), State.faulting, State.get_put_same]
  exact Nat.mod_lt _ (Nat.two_pow_pos _)

/-- A second M instruction faults the newt. -/
theorem exec_zeroWord_strayNewt : exec zeroWord strayNewt = .next (strayNewt.newtFaults .NEWT_ILLEGAL [] 5 31) := rfl

end Sys2Proof.Machine
end

section
/-! PROOF. -/

open Sys2Proof Sys2Proof.Machine

/-- Refutes O11: the statement's second state `t` need not be canonical, and wants NEWT_PC at `t.get .NEWT_NEXT d n` even where the
list holds 8192 for that cell; NEWT_PC has 13 bits and reads 0. -/
theorem not_bundlesFormAndFault : ¬ Obligations.BundlesFormAndFault := by
  unfold Obligations.BundlesFormAndFault
  intro h
  obtain ⟨runs, clocked, opened, fetched, next⟩ := strayNewt_meetsPremises
  obtain ⟨-, joins, -⟩ := h plainNewt 5 31 (by decide) (by decide) plainNewt_ready
  have faults := (joins zeroWord ⟨5, 31, false, .m (.vmac 0 0 0 0 false false false)⟩ strayNewt _ rfl rfl rfl runs clocked opened fetched).1
  obtain ⟨u, ran, -, pc⟩ := faults (by decide)
  obtain rfl : strayNewt.newtFaults .NEWT_ILLEGAL [] 5 31 = u := Host.Outcome.next.inj (exec_zeroWord_strayNewt.symm.trans ran)
  have small := strayNewt.newtFaults_pc_lt .NEWT_ILLEGAL [] 5 31
  rw [pc, next] at small
  exact absurd small (by decide)
end

section
/-! SUPPORT. The instructions of the M slot that deliver a word to each enabled lane of a v register (R111, R115, R116, R118, R120). -/

namespace Sys2Proof.Machine

section
variable {s t : State} {d n x y p k : Nat}

/-- An update for a lane sets that lane's bit of each sticky flag that its result has, and no other. -/
def FlagsLane (d n : Nat) (g : Nat → State → State) (r : Nat → FpRes) : Prop := ∀ k, k < 8 → ∀ j u, ∀ f ∈ flagFlds,
  ((g j u).get f d n).testBit k = ((u.get f d n).testBit k || (decide (j = k) && (r j).flagged f))

/-- Lanes that each set the flags of their results, whatever else they write. -/
theorem State.sticky_of_flags {g : Nat → State → State} {r : Nat → FpRes} (hg : FlagsLane d n g r) :
    s.Sticky (s.each (lanesOf (s.pReg d n p)) g) d n p r := by
  intro k hk
  have bit (f : Fld) (hf : f ∈ flagFlds) : bitAt ((s.each (lanesOf (s.pReg d n p)) g).get f d n) k = 1 ↔
      bitAt (s.get f d n) k = 1 ∨ (bitAt (s.pReg d n p) k = 1 ∧ (r k).flagged f = true) := by
    rw [bitAt_eq_one_iff, bitAt_eq_one_iff (s.get f d n),
      State.observe_lanes (φ := fun u => (u.get f d n).testBit k) (F := fun b => b || (r k).flagged f) hk (fun u => by simp [hg k hk k u f hf])
        (fun j _ hj u => by simp [hg k hk j u f hf, hj])]
    split
    · next on => simp [on]
    · next off => simp [off]
  exact ⟨bit _ (by decide), bit _ (by decide), bit _ (by decide)⟩

/-- An M instruction whose lanes each deliver a result to register `y`, with its flags, and write the cells of `own` besides. -/
theorem completes_lanes {i : Instr} {m : MIns} {g : Nat → State → State} {r : Nat → FpRes} {own : List Loc} {post : State → Prop}
    (hr : s.Ready d n) (hi : newtInstr i = some ⟨d, n, true, .m m⟩) (hx : exec i s = .next (s.issueM d n true m)) (hf : s.fetched i = true)
    (hl : MIns.legal m = true) (hd : distinct (MIns.dests m) = true) (hslot : s.mSlot s d n m = s.each (lanesOf (s.pReg d n p)) g)
    (hown : ∀ c ∈ own, c.fld ∈ laneFlds)
    (hw : ∀ j u, j < 8 → s.Within u (vCells d n y ++ own ++ flagCells d n) → s.Within (g j u) (vCells d n y ++ own ++ flagCells d n))
    (hg : FlagsLane d n g r)
    (hv : ∀ j u k, (g j u).vReg d n y k = (u.setV d n y j (r j).bits).vReg d n y k)
    (hpost : ∀ t, s.Sticky t d n p r → (k < 8 → t.vReg d n y k = if bitAt (s.pReg d n p) k = 1 then (r k).bits % 2 ^ 32 else s.vReg d n y k) →
      s.Ran t d n (s.get .NEWT_NEXT d n + 1) (vCells d n y ++ own ++ flagCells d n) →
      (∀ f ∈ laneFlds, ∀ e j, t.get f e j = (s.mSlot s d n m).get f e j) → post t) :
    Completes i s post := by
  refine completes_issueM (l := vCells d n y ++ own ++ flagCells d n) hr hi hx hf hl hd ?_ ?_ fun t ran same => hpost t ?_ (fun hk => ?_) ran same
  · rw [hslot]
    exact State.Within.refl.each fun j hj u h => hw j u (mem_lanesOf.1 hj).1 h
  · intro c hc
    rcases List.mem_append.1 hc with hc | hc
    · rcases List.mem_append.1 hc with hc | hc
      · rw [fld_of_mem_vCells hc]; decide
      · exact hown c hc
    · exact flagFlds_subset (fld_of_mem_flagCells hc)
  · refine State.Sticky.congr ?_ fun f hf => same f (flagFlds_subset hf) d n
    rw [hslot]
    exact State.sticky_of_flags hg
  · rw [State.vReg, same _ (by decide), hslot]
    refine State.observe_lanes (φ := fun u => u.vReg d n y k) (F := fun _ => (r k).bits % 2 ^ 32) hk (fun u => ?_) (fun j hj hne u => ?_) s
    · exact (hv k u k).trans ((State.vReg_setV hk hk).trans (if_pos ⟨rfl, rfl⟩))
    · exact (hv j u k).trans ((State.vReg_setV hj hk).trans (if_neg fun h => hne h.2.symm))

theorem State.Within.laneOut {l : List Loc} {j : Nat} {r : FpRes} (h : s.Within t l) (hj : j < 8) (hv : vCells d n y ⊆ l)
    (hf : flagCells d n ⊆ l) : s.Within (t.laneOut d n y j r) l := (h.setV hj hv).setFlags hf

theorem flagsLane_laneOut (r : Nat → FpRes) : FlagsLane d n (fun j t => t.laneOut d n y j (r j)) r := by
  intro k hk j u f hf
  refine (State.testBit_setFlags hf hk j (r j)).trans ?_
  rw [State.setV, State.get_put_fld _ (by rintro rfl; simp [flagFlds] at hf)]

theorem State.vReg_laneOut (u : State) (j : Nat) (r : FpRes) (q k : Nat) :
    (u.laneOut d n y j r).vReg d n q k = (u.setV d n y j r.bits).vReg d n q k := State.get_setFlags (by decide) ..

/-- A lane operation into a v register, and nothing else. -/
theorem completes_laneOut {a : Nat} {i : Instr} {m : MIns} {r : Nat → FpRes} (hr : s.Ready d n) (hi : newtInstr i = some ⟨d, n, true, .m m⟩)
    (hx : exec i s = .next (s.issueM d n true m)) (hf : s.fetched i = true) (hl : MIns.legal m = true) (hd : distinct (MIns.dests m) = true)
    (hslot : s.mSlot s d n m = s.each (lanesOf (s.pReg d n p)) fun j t => t.laneOut d n y j (r j)) :
    Completes i s fun t => s.Sticky t d n p r ∧
      ((k < 8 → t.vReg d n y k = if bitAt (s.pReg d n p) k = 1 then (r k).bits % 2 ^ 32 else s.vReg d n y k) ∧
        s.Ran t d n (s.get .NEWT_NEXT d n + 1) (vCells d n y ++ [] ++ flagCells d n)) ∧
      (k < 8 → ([] : List Loc) ≠ [] → t.accReg d n a k = if bitAt (s.pReg d n p) k = 1 then 0 else s.accReg d n a k) :=
  completes_lanes (r := r) (k := k) hr hi hx hf hl hd hslot (fun _ h => absurd h List.not_mem_nil) (fun _ _ hj h => h.laneOut hj (by simp) (by simp))
    (flagsLane_laneOut r) (fun j u k => State.vReg_laneOut u j (r j) y k)
    fun _ sticky lanes ran _ => ⟨sticky, ⟨lanes, ran⟩, fun _ h => absurd rfl h⟩

/-- VRND with C: the accumulator's enabled lanes are cleared too (R115). -/
theorem completes_vrnd_clear {a : Nat} (hr : s.Ready d n) (hf : s.fetched (.vrnd d n true y a p true) = true) :
    Completes (.vrnd d n true y a p true) s fun t => s.Sticky t d n p (fun j => laneRnd (s.accReg d n a j)) ∧
      ((k < 8 → t.vReg d n y k = if bitAt (s.pReg d n p) k = 1 then (laneRnd (s.accReg d n a k)).bits % 2 ^ 32 else s.vReg d n y k) ∧
        s.Ran t d n (s.get .NEWT_NEXT d n + 1) (vCells d n y ++ accCells d n a ++ flagCells d n)) ∧
      (k < 8 → accCells d n a ≠ [] → t.accReg d n a k = if bitAt (s.pReg d n p) k = 1 then 0 else s.accReg d n a k) := by
  let r := fun j => laneRnd (s.accReg d n a j)
  let g := fun (j : Nat) (t : State) => (t.laneOut d n y j (r j)).setAcc d n a j 0
  have slot : s.mSlot s d n (.vrnd y a p true) = s.each (lanesOf (s.pReg d n p)) g := rfl
  have kept {f : Fld} (hne : f ≠ .DBG_ACC) (j e i : Nat) (u : State) : (g j u).get f e i = (u.laneOut d n y j (r j)).get f e i :=
    State.get_put_fld _ hne ..
  refine completes_lanes (r := r) (g := g) (k := k) (own := accCells d n a) hr rfl rfl hf rfl rfl slot
    (fun c hc => by rw [fld_of_mem_accCells hc]; decide) (fun j u hj h => (h.laneOut hj (by simp) (by simp)).setAcc hj (by simp))
    (fun k hk j u f hf => ?_) (fun j u k => (kept (by decide) ..).trans (State.vReg_laneOut u j (r j) y k)) fun t sticky lanes ran same =>
      ⟨sticky, ⟨lanes, ran⟩, fun hk _ => ?_⟩
  · rw [kept (by rintro rfl; simp [flagFlds] at hf)]
    exact flagsLane_laneOut r k hk j u f hf
  · have cleared (j k : Nat) (u : State) : (g j u).accReg d n a k = if k = j then 0 else u.accReg d n a k := by
      refine State.accReg_setAcc.trans ?_
      split
      · rfl
      · exact (State.get_setFlags (by decide) ..).trans (State.get_put_fld _ (by decide) ..)
    rw [State.accReg, same _ (by decide), slot]
    exact State.observe_lanes (φ := fun u => u.accReg d n a k) (F := fun _ => 0) hk (fun u => (cleared k k u).trans (if_pos rfl))
      (fun j _ hne u => (cleared j k u).trans (if_neg hne.symm)) s

end

end Sys2Proof.Machine
end

section
/-! SUPPORT. The fp32 results of the lanes as exact values rounded once (R80, R81, R111 to R120). -/

namespace Sys2Proof.Machine

/-! ### The word of a rounded significand (R80, R81) -/

/-- A significand of `p + 1` bits over 2^x against a power of two. -/
theorem zpow_le_scaled_iff {p m : Nat} {x k : ℤ} (hlo : 2 ^ p ≤ m) (hhi : m < 2 ^ (p + 1)) : (2 : ℚ) ^ k ≤ (m : ℚ) * 2 ^ x ↔ k ≤ x + p := by
  have pos : (0 : ℚ) < 2 ^ x := zpow_pos two_pos x
  have split (j : Nat) : (2 : ℚ) ^ (x + j : ℤ) = 2 ^ j * 2 ^ x := by rw [zpow_add₀ two_ne_zero, zpow_natCast, mul_comm]
  have least : (2 : ℚ) ^ (x + p : ℤ) ≤ m * 2 ^ x := by
    rw [split]
    exact mul_le_mul_of_nonneg_right (by exact_mod_cast hlo) pos.le
  have most : (m : ℚ) * 2 ^ x < 2 ^ (x + (p + 1 : Nat) : ℤ) := by
    rw [split]
    exact mul_lt_mul_of_pos_right (by exact_mod_cast hhi) pos
  constructor
  · intro h
    by_contra hx
    exact absurd (h.trans_lt most) (zpow_le_zpow_right₀ one_le_two (by push_cast; omega)).not_gt
  · exact fun hx => (zpow_le_zpow_right₀ one_le_two hx).trans least

/-- A 24-bit significand over 2^x as a fp32 word with its flags. -/
def fpWord (n : Bool) (m : Nat) (x : ℤ) : FpRes :=
  if 127 < x + 23 then ⟨fpInf n, false, true, false⟩
  else if x + 23 < -126 then ⟨fpZero n, false, false, true⟩
  else FpRes.plain ((if n then 2 ^ 31 else 0) + (x + 23 + 127).toNat * 2 ^ 23 + (m - 2 ^ 23))

theorem fpOut_fin (n : Bool) (s : Nat) (e : ℤ) : fpOut (.fin n s e) = fpWord n (roundSig 24 n s e).1 (roundSig 24 n s e).2 := rfl

/-- The word of a normal value, and its value. -/
theorem fpWord_normal (n : Bool) {m : Nat} {x : ℤ} (hlo : 2 ^ 23 ≤ m) (hhi : m < 2 ^ 24) (ho : ¬ 127 < x + 23) (hu : ¬ x + 23 < -126) :
    let b := (if n then 2 ^ 31 else 0) + (x + 23 + 127).toNat * 2 ^ 23 + (m - 2 ^ 23)
    b < 2 ^ 32 ∧ 1 ≤ bitsAt b 23 8 ∧ bitsAt b 23 8 ≤ 254 ∧ fpRat b = (sigInt n m : ℚ) * 2 ^ x := by
  intro b
  obtain ⟨sign, exp, sig, word⟩ := fpWord_fields n (e := (x + 23 + 127).toNat) (f := m - 2 ^ 23) (by omega) (by omega)
  refine ⟨word, by rw [exp]; omega, by rw [exp]; omega, ?_⟩
  have shift : (((x + 23 + 127).toNat : ℕ) : ℤ) - 150 = x := by omega
  unfold fpRat
  rw [exp, sig, sign, if_neg (by omega), shift, Nat.add_sub_cancel' hlo, sigInt_eq]
  cases n <;> simp [flag]

/-- A rounded value delivered (R80, R81). -/
theorem fpWord_delivers {q : ℚ} {n : Bool} {m : Nat} {x : ℤ} (hq : q ≠ 0) (hn : q < 0 ↔ n = true) (hlo : 2 ^ 23 ≤ m) (hhi : m < 2 ^ 24)
    (rounds : Rounds 24 q ((sigInt n m : ℚ) * 2 ^ x)) : Delivers q (fpWord n m x) := by
  have overflows : (2 : ℚ) ^ 128 ≤ m * 2 ^ x ↔ 127 < x + 23 := by
    rw [← zpow_natCast, zpow_le_scaled_iff hlo hhi]
    push_cast
    omega
  have underflows : (m : ℚ) * 2 ^ x < 2 ^ (-126 : ℤ) ↔ x + 23 < -126 := by
    rw [← not_le, zpow_le_scaled_iff hlo hhi]
    push_cast
    omega
  have sign : decide (q < 0) = n := by cases n <;> simpa using hn
  unfold Delivers
  rw [if_neg hq]
  refine ⟨_, rounds, ?_⟩
  rw [abs_mul, abs_sigInt, abs_of_pos (zpow_pos (two_pos (α := ℚ)) x), sign]
  unfold fpWord
  by_cases ho : 127 < x + 23
  · rw [if_pos (overflows.2 ho), if_pos ho]
  · rw [if_neg (mt overflows.1 ho), if_neg ho]
    by_cases hu : x + 23 < -126
    · rw [if_pos (underflows.2 hu), if_pos hu]
    · rw [if_neg (mt underflows.1 hu), if_neg hu]
      exact ⟨rfl, fpWord_normal n hlo hhi ho hu⟩

/-- A finite value is delivered as R80 and R81 say; a zero as +0. -/
theorem fpOut_delivers {v : FpVal} (hv : v.Finite) (hz : v ≠ .zero true) : Delivers v.rat (fpOut v) := by
  cases v with
  | nan | inf => cases hv
  | zero n =>
    cases n
    · simp [Delivers, FpVal.rat, fpOut, fpZero]
    · exact absurd rfl hz
  | fin n s e =>
    obtain ⟨hlo, hhi, rounds⟩ := roundSig_rounds (p := 24) (by decide) n hv e
    exact fpWord_delivers (rat_fin_ne_zero n hv e) (rat_fin_sign n hv e).1 hlo hhi rounds

/-! ### Sums and products (R111) -/

theorem fpOfInt_ne_negZero (x e : ℤ) : fpOfInt x e ≠ .zero true := by
  unfold fpOfInt
  split <;> simp

theorem FpVal.Finite.add_ne_negZero {x y : FpVal} (hx : x.Finite) (hy : y.Finite) : x.add y ≠ .zero true := by
  cases x with
  | nan | inf => cases hx
  | zero => cases y with
    | nan | inf => cases hy
    | zero | fin => simp [FpVal.add]
  | fin => cases y with
    | nan | inf => cases hy
    | zero => simp [FpVal.add]
    | fin => exact fpOfInt_ne_negZero _ _

/-- A sum of finite values is delivered. -/
theorem add_delivers {x y : FpVal} (hx : x.Finite) (hy : y.Finite) : Delivers (x.rat + y.rat) (fpOut (x.add y)) := by
  obtain ⟨finite, value⟩ := hx.add hy
  rw [← value]
  exact fpOut_delivers finite (hx.add_ne_negZero hy)

section
variable {x y z : Nat}

theorem laneAdd_delivers (hx : bitsAt x 23 8 ≠ 255) (hy : bitsAt y 23 8 ≠ 255) : Delivers (fpRat x + fpRat y) (laneAdd x y) := by
  obtain ⟨finX, valX⟩ := fpOf_finite hx
  obtain ⟨finY, valY⟩ := fpOf_finite hy
  rw [← valX, ← valY]
  exact add_delivers finX finY

theorem laneSub_delivers (hx : bitsAt x 23 8 ≠ 255) (hy : bitsAt y 23 8 ≠ 255) : Delivers (fpRat x - fpRat y) (laneSub x y) := by
  obtain ⟨finX, valX⟩ := fpOf_finite hx
  obtain ⟨finY, valY⟩ := fpOf_finite hy
  rw [← valX, ← valY, sub_eq_add_neg, ← FpVal.rat_neg]
  exact add_delivers finX finY.neg

theorem laneFma_delivers (hx : bitsAt x 23 8 ≠ 255) (hy : bitsAt y 23 8 ≠ 255) (hz : bitsAt z 23 8 ≠ 255) :
    Delivers (fpRat z + fpRat x * fpRat y) (laneFma z x y) := by
  obtain ⟨finX, valX⟩ := fpOf_finite hx
  obtain ⟨finY, valY⟩ := fpOf_finite hy
  obtain ⟨finZ, valZ⟩ := fpOf_finite hz
  obtain ⟨finP, valP⟩ := finX.mul finY
  rw [← valX, ← valY, ← valZ, ← valP]
  exact add_delivers finZ finP

/-- A finite word is a zero of its sign or a normal value. -/
theorem fpOf_cases (hx : bitsAt x 23 8 ≠ 255) : (bitsAt x 23 8 = 0 ∧ fpOf x = .zero (fpNeg x) ∧ fpRat x = 0) ∨
    (bitsAt x 23 8 ≠ 0 ∧ fpOf x = .fin (fpNeg x) (bitsAt x 0 23 + 2 ^ 23) ((bitsAt x 23 8 : ℤ) - 150) ∧ fpRat x ≠ 0) := by
  obtain ⟨-, value⟩ := fpOf_finite hx
  by_cases h0 : bitsAt x 23 8 = 0
  · have zero : fpOf x = .zero (fpNeg x) := by
      unfold fpOf
      dsimp only
      rw [if_neg hx, if_pos h0]
      rfl
    exact .inl ⟨h0, zero, by rw [← value, zero]; rfl⟩
  · have normal := fpOf_normal h0 hx
    exact .inr ⟨h0, normal, by rw [← value, normal]; exact rat_fin_ne_zero _ (by omega) _⟩

theorem fpOf_zero (h : bitsAt x 23 8 = 0) : fpOf x = .zero (fpNeg x) := by
  rcases fpOf_cases (x := x) (by omega) with ⟨-, zero, -⟩ | ⟨normal, -⟩
  · exact zero
  · exact absurd h normal

theorem laneMul_delivers (hx : bitsAt x 23 8 ≠ 255) (hy : bitsAt y 23 8 ≠ 255) :
    if fpRat x * fpRat y = 0 then laneMul x y = FpRes.plain (fpZero (fpNeg x != fpNeg y)) else Delivers (fpRat x * fpRat y) (laneMul x y) := by
  obtain ⟨finX, valX⟩ := fpOf_finite hx
  obtain ⟨finY, valY⟩ := fpOf_finite hy
  obtain ⟨finP, valP⟩ := finX.mul finY
  split
  · next h =>
    unfold laneMul
    rcases fpOf_cases hx with ⟨-, zx, -⟩ | ⟨-, nx, vx⟩ <;> rcases fpOf_cases hy with ⟨-, zy, -⟩ | ⟨-, ny, vy⟩
    · rw [zx, zy]; rfl
    · rw [zx, ny]; rfl
    · rw [nx, zy]; rfl
    · exact absurd h (mul_ne_zero vx vy)
  · next h =>
    rw [← valX, ← valY, ← valP] at h ⊢
    refine fpOut_delivers finP fun zero => h ?_
    rw [zero]
    rfl

/-! ### Values moved (R80, R111) -/

theorem fpPass_of_zero (h : bitsAt x 23 8 = 0) : fpPass x = FpRes.plain (fpZero (fpNeg x)) := by
  unfold fpPass
  rw [fpOf_zero h]

theorem fpOf_inf (h : bitsAt x 23 8 = 255) (hf : bitsAt x 0 23 = 0) : fpOf x = .inf (fpNeg x) := by
  unfold fpOf
  dsimp only
  rw [if_pos h, if_pos hf]
  rfl

/-- A word that is no NaN is moved as it stands, but a subnormal. -/
theorem fpPass_eq (hx : x < 2 ^ 32) (h : ¬ (bitsAt x 23 8 = 255 ∧ bitsAt x 0 23 ≠ 0)) :
    fpPass x = FpRes.plain (if bitsAt x 23 8 = 0 then fpZero (fpNeg x) else x) := by
  by_cases h0 : bitsAt x 23 8 = 0
  · rw [fpPass_of_zero h0, if_pos h0]
  · rw [if_neg h0]
    unfold fpPass
    by_cases top : bitsAt x 23 8 = 255
    · rw [fpOf_inf top (by simpa [top] using h)]
      dsimp only
      rw [Nat.mod_eq_of_lt hx]
    · rw [fpOf_normal h0 top]
      dsimp only
      rw [Nat.mod_eq_of_lt hx]

theorem fpOf_ne_nan (h : ¬ (bitsAt x 23 8 = 255 ∧ bitsAt x 0 23 ≠ 0)) : fpOf x ≠ .nan := fun hn =>
  h ((fpNan_iff x).1 (by simp [fpNan, hn]))

theorem clearBit_sign (hx : x < 2 ^ 32) : clearBit x 31 = x % 2 ^ 31 := by
  unfold clearBit bitAt
  split <;> omega

/-- The exclusive-or with the top bit adds it, modulo the width. -/
theorem xor_topBit {k : Nat} (hx : x < 2 ^ (k + 1)) : x ^^^ 2 ^ k = (x + 2 ^ k) % 2 ^ (k + 1) := by
  have low : (x ^^^ 2 ^ k) % 2 ^ k = x % 2 ^ k := by rw [Nat.xor_mod_two_pow, Nat.mod_self, Nat.xor_zero]
  have high : (x ^^^ 2 ^ k) / 2 ^ k = x / 2 ^ k ^^^ 1 := by rw [Nat.xor_div_two_pow, Nat.div_self (Nat.two_pow_pos k)]
  have split := Nat.div_add_mod (x ^^^ 2 ^ k) (2 ^ k)
  have splitX := Nat.div_add_mod x (2 ^ k)
  have rest := Nat.mod_lt x (Nat.two_pow_pos k)
  have bit : x / 2 ^ k < 2 := Nat.div_lt_of_lt_mul (by rwa [← Nat.pow_succ])
  rw [low, high] at split
  rw [Nat.pow_succ]
  generalize 2 ^ k = w at *
  generalize x / w = b at *
  interval_cases b
  · rw [Nat.mod_eq_of_lt (by omega)]
    simp at split
    omega
  · rw [Nat.mod_eq_sub_mod (by omega), Nat.mod_eq_of_lt (by omega)]
    simp at split
    omega

theorem laneAbs_eq (hx : x < 2 ^ 32) (h : ¬ (bitsAt x 23 8 = 255 ∧ bitsAt x 0 23 ≠ 0)) :
    laneAbs x = FpRes.plain (if bitsAt x 23 8 = 0 then 0 else x % 2 ^ 31) := by
  have moved : laneAbs x = FpRes.plain (clearBit (fpPass x).bits 31) := by
    unfold laneAbs
    split
    · next hn => exact absurd hn (fpOf_ne_nan h)
    · rfl
  rw [moved, fpPass_eq hx h]
  split
  · cases fpNeg x <;> rfl
  · exact congrArg FpRes.plain (clearBit_sign hx)

theorem laneNeg_eq (hx : x < 2 ^ 32) (h : ¬ (bitsAt x 23 8 = 255 ∧ bitsAt x 0 23 ≠ 0)) :
    laneNeg x = FpRes.plain (if bitsAt x 23 8 = 0 then fpZero (!fpNeg x) else (x + 2 ^ 31) % 2 ^ 32) := by
  have moved : laneNeg x = FpRes.plain ((fpPass x).bits ^^^ 2 ^ 31) := by
    unfold laneNeg
    split
    · next hn => exact absurd hn (fpOf_ne_nan h)
    · rfl
  rw [moved, fpPass_eq hx h]
  split
  · cases fpNeg x <;> rfl
  · exact congrArg FpRes.plain (xor_topBit hx)

/-- The lesser and the greater of two finite words of different value. -/
theorem laneMinMax_of_lt (hx : bitsAt x 23 8 ≠ 255) (hy : bitsAt y 23 8 ≠ 255) (h : fpRat x < fpRat y) :
    laneMin x y = fpPass x ∧ laneMax x y = fpPass y ∧ laneMin y x = fpPass x ∧ laneMax y x = fpPass y := by
  obtain ⟨finX, valX⟩ := fpOf_finite hx
  obtain ⟨finY, valY⟩ := fpOf_finite hy
  have less : (fpOf x).lt (fpOf y) = true := (finX.lt_iff finY).2 (by rw [valX, valY]; exact h)
  have notMore : (fpOf y).lt (fpOf x) = false := by
    rw [← Bool.not_eq_true, finY.lt_iff finX, valX, valY]
    exact h.not_gt
  unfold laneMin laneMax
  rcases fpOf_cases hx with ⟨-, zx, vx⟩ | ⟨-, nx, -⟩ <;> rcases fpOf_cases hy with ⟨-, zy, vy⟩ | ⟨-, ny, -⟩
  · rw [vx, vy] at h
    exact absurd h (lt_irrefl _)
  · rw [zx, ny] at less notMore ⊢
    simp only [less, notMore, if_true, Bool.false_eq_true, if_false, and_self]
  · rw [nx, zy] at less notMore ⊢
    simp only [less, notMore, if_true, Bool.false_eq_true, if_false, and_self]
  · rw [nx, ny] at less notMore ⊢
    simp only [less, notMore, if_true, Bool.false_eq_true, if_false, and_self]

theorem exponent_of_rat_zero (hx : bitsAt x 23 8 ≠ 255) (h : fpRat x = 0) : bitsAt x 23 8 = 0 := by
  rcases fpOf_cases hx with ⟨zero, -⟩ | ⟨-, -, value⟩
  · exact zero
  · exact absurd h value

theorem laneMinMax_of_zeros (hx : bitsAt x 23 8 = 0) (hy : bitsAt y 23 8 = 0) :
    laneMin x y = FpRes.plain (fpZero (fpNeg x || fpNeg y)) ∧ laneMax x y = FpRes.plain (fpZero (fpNeg x && fpNeg y)) := by
  unfold laneMin laneMax
  rw [fpOf_zero hx, fpOf_zero hy]
  exact ⟨rfl, rfl⟩

end

end Sys2Proof.Machine
end

section
/-! SUPPORT. NaN operands, infinities, conversions, accumulators rounded to fp32, and the end of a division (R80, R111, R115, R116, R118, R120). -/

namespace Sys2Proof.Machine

/-! ### NaN operands and infinities -/

section
variable {x y z : Nat}

/-- A NaN operand gives the canonical NaN, with V (R80). -/
theorem lanes_of_nan (h : fpOf x = .nan ∨ fpOf y = .nan) (z : Nat) : ∀ r, r ∈ [laneAdd x y, laneSub x y, laneMul x y, laneMin x y, laneMax x y,
    laneFma z x y, laneFma x z y] → r = FpRes.invalid := by
  have add : (fpOf x).add (fpOf y) = .nan := by
    rcases h with h | h
    · rw [h]; rfl
    · rw [h, FpVal.add_nan]
  have sub : (fpOf x).add (fpOf y).neg = .nan := by
    rcases h with h | h
    · rw [h]; rfl
    · rw [h]; exact FpVal.add_nan _
  have mul : (fpOf x).mul (fpOf y) = .nan := by
    rcases h with h | h
    · rw [h]; rfl
    · rw [h, FpVal.mul_nan]
  have addend : (fpOf x).add ((fpOf z).mul (fpOf y)) = .nan := by
    rcases h with h | h
    · rw [h]; rfl
    · rw [h, FpVal.mul_nan, FpVal.add_nan]
  have min : laneMin x y = FpRes.invalid := by
    unfold laneMin
    rcases h with h | h
    · rw [h]
    · rw [h]; cases fpOf x <;> rfl
  have max : laneMax x y = FpRes.invalid := by
    unfold laneMax
    rcases h with h | h
    · rw [h]
    · rw [h]; cases fpOf x <;> rfl
  intro r hr
  simp only [List.mem_cons, List.not_mem_nil, or_false, laneAdd, laneSub, laneMul, laneFma, add, sub, mul, addend, min, max,
    FpVal.add_nan] at hr
  rcases hr with rfl | rfl | rfl | rfl | rfl | rfl | rfl <;> rfl

theorem laneDivf_of_nan (h : fpOf x = .nan ∨ fpOf y = .nan) (d0 d1 : Nat) : laneDivf d0 d1 x y = FpRes.invalid := by
  unfold laneDivf
  rcases h with h | h
  · rw [h]
  · rw [h]; cases fpOf x <;> rfl

theorem unaries_of_nan (h : fpOf x = .nan) (sh : Nat) : laneAbs x = FpRes.invalid ∧ laneNeg x = FpRes.invalid ∧ laneRcps x = FpRes.invalid ∧
    laneToFix sh x = ⟨0, true, false, false⟩ := by
  unfold laneAbs laneNeg laneRcps laneToFix
  rw [h]
  exact ⟨rfl, rfl, rfl, rfl⟩

theorem fpOf_fpInf (g : Bool) : fpOf (fpInf g) = .inf g := by cases g <;> decide

theorem fpNeg_fpInf (g : Bool) : fpNeg (fpInf g) = g := by cases g <;> decide

/-- The words of the infinities. -/
theorem eq_fpInf_iff (hy : y < 2 ^ 32) (g : Bool) : y = fpInf g ↔ fpOf y = .inf g := by
  constructor
  · rintro rfl
    exact fpOf_fpInf g
  · intro h
    have exponent : bitsAt y 23 8 = 255 := by
      by_contra he
      have finite := (fpOf_finite he).1
      rw [h] at finite
      exact finite
    have fraction : bitsAt y 0 23 = 0 := by
      by_contra hf
      exact absurd h (by rw [fpOf_eq_nan ⟨exponent, hf⟩]; simp)
    have sign : fpNeg y = g := by
      rw [fpOf_inf exponent fraction] at h
      exact FpVal.inf.inj h
    have bit := flag_fpNeg y
    rw [sign] at bit
    unfold bitsAt bitAt at *
    cases g
    · simp only [flag, Bool.false_eq_true, if_false, fpInf] at bit ⊢; omega
    · simp only [flag, if_true, fpInf] at bit ⊢; omega

/-- The sum of an infinity and a value that is no NaN. -/
theorem inf_add (g : Bool) {v : FpVal} (hv : v ≠ .nan) :
    fpOut (FpVal.add (.inf g) v) = if v = .inf !g then FpRes.invalid else FpRes.plain (fpInf g) := by
  cases v with
  | nan => exact absurd rfl hv
  | inf b => cases g <;> cases b <;> rfl
  | zero | fin => rfl

theorem neg_eq_inf_iff (v : FpVal) (g : Bool) : v.neg = .inf (!g) ↔ v = .inf g := by
  cases v with
  | nan | zero | fin => simp [FpVal.neg]
  | inf b => cases g <;> cases b <;> simp [FpVal.neg]

theorem neg_ne_nan {v : FpVal} (hv : v ≠ .nan) : v.neg ≠ .nan := by
  cases v with
  | nan => exact absurd rfl hv
  | inf | zero | fin => simp [FpVal.neg]

/-- An infinity and an operand that is no NaN (R80). -/
theorem lanes_of_inf (g : Bool) (hy : y < 2 ^ 32) (hn : ¬ (bitsAt y 23 8 = 255 ∧ bitsAt y 0 23 ≠ 0)) :
    laneAdd (fpInf g) y = (if y = fpInf !g then FpRes.invalid else FpRes.plain (fpInf g)) ∧
    laneSub (fpInf g) y = (if y = fpInf g then FpRes.invalid else FpRes.plain (fpInf g)) ∧
    laneMul (fpInf g) y = if bitsAt y 23 8 = 0 then FpRes.invalid else FpRes.plain (fpInf (g != fpNeg y)) := by
  have value := fpOf_ne_nan hn
  refine ⟨?_, ?_, ?_⟩
  · rw [laneAdd, fpOf_fpInf, inf_add g value]
    simp only [eq_fpInf_iff hy]
  · rw [laneSub, fpOf_fpInf, inf_add g (neg_ne_nan value)]
    simp only [eq_fpInf_iff hy, neg_eq_inf_iff]
  · rw [laneMul, fpOf_fpInf]
    by_cases h0 : bitsAt y 23 8 = 0
    · rw [if_pos h0, fpOf_zero h0]; rfl
    · rw [if_neg h0]
      by_cases top : bitsAt y 23 8 = 255
      · rw [fpOf_inf top (by simpa [top] using hn)]; rfl
      · rw [fpOf_normal h0 top]; rfl

end

/-! ### Accumulators and conversion (R115, R116) -/

theorem laneRnd_delivers {w : Nat} (hl : accLegal w = true) (he : bitsAt w 48 10 ≠ 1023) : Delivers (accRat w) (laneRnd w) := by
  obtain ⟨finite, value⟩ := accOf_finite hl he
  rw [← value]
  refine fpOut_delivers finite ?_
  unfold accOf
  dsimp only
  rw [if_neg he]
  split <;> simp

theorem laneFromFix_delivers (sh x : Nat) : Delivers ((BitVec.ofNat 32 x).toInt / 2 ^ sh) (laneFromFix sh x) := by
  obtain ⟨finite, value⟩ := fpOfInt_finite (signed 32 x) (-(sh : ℤ))
  have word : signed 32 x = (BitVec.ofNat 32 x).toInt := by
    simp only [signed, BitVec.toInt, BitVec.toNat_ofNat]
    omega
  have quotient : ((BitVec.ofNat 32 x).toInt : ℚ) / 2 ^ sh = (fpOfInt (signed 32 x) (-(sh : ℤ))).rat := by
    rw [value, word, zpow_neg, zpow_natCast, div_eq_mul_inv]
  rw [quotient]
  exact fpOut_delivers finite (fpOfInt_ne_negZero _ _)

/-- The fixed-point word of an integer, saturated (R116). -/
def fixWord (v : ℤ) : FpRes :=
  if v < -2 ^ 31 then ⟨0x80000000, false, true, false⟩ else if 2 ^ 31 ≤ v then ⟨0x7FFFFFFF, false, true, false⟩
    else FpRes.plain (v % 2 ^ 32).toNat

/-- A signed significand over 2^x to the nearest integer, a tie toward +∞. -/
def nearest (m x : ℤ) : ℤ := if 0 ≤ x then m * (2 ^ x.toNat : Nat) else (m + (2 ^ ((-x).toNat - 1) : Nat)) / ((2 ^ (-x).toNat : Nat) : ℤ)

theorem nearest_eq_floor (m x : ℤ) : nearest m x = ⌊(m : ℚ) * 2 ^ x + 1 / 2⌋ := by
  unfold nearest
  split
  · next h =>
    have whole : (m : ℚ) * 2 ^ x = ((m * (2 ^ x.toNat : Nat) : ℤ) : ℚ) := by
      conv_lhs => rw [← Int.toNat_of_nonneg h, zpow_natCast]
      push_cast
      rfl
    rw [whole, Int.floor_intCast_add]
    norm_num
  · next h =>
    obtain ⟨k, hk⟩ : ∃ k : Nat, (-x).toNat = k + 1 := ⟨(-x).toNat - 1, by omega⟩
    have power : x = -((k + 1 : Nat) : ℤ) := by omega
    have joined : (m : ℚ) * 2 ^ x + 1 / 2 = ((m + (2 ^ k : Nat) : ℤ) : ℚ) / ((2 ^ (k + 1) : Nat) : ℚ) := by
      rw [power, zpow_neg, zpow_natCast]
      push_cast
      field_simp
      ring
    rw [joined, Rat.floor_intCast_div_natCast, hk, Nat.add_sub_cancel]

theorem laneToFix_fin {x sh : Nat} {n : Bool} {s : Nat} {e : ℤ} (h : fpOf x = .fin n s e) :
    laneToFix sh x = fixWord (nearest (sigInt n s) (e + sh)) := by
  have sat (r : ℤ) : (if r < -((2 ^ 31 : Nat) : ℤ) then (⟨0x80000000, false, true, false⟩ : FpRes)
      else if ((2 ^ 31 - 1 : Nat) : ℤ) < r then ⟨0x7FFFFFFF, false, true, false⟩ else FpRes.plain (unsigned 32 r)) = fixWord r := by
    have below : r < -((2 ^ 31 : Nat) : ℤ) ↔ r < -2 ^ 31 := by norm_num
    have above : ((2 ^ 31 - 1 : Nat) : ℤ) < r ↔ 2 ^ 31 ≤ r := by norm_num; omega
    unfold fixWord
    simp only [below, above]
    rfl
  unfold laneToFix
  rw [h]
  exact sat _

/-- A finite value converted to fixed point. -/
theorem laneToFix_eq {x : Nat} (hx : bitsAt x 23 8 ≠ 255) (sh : Nat) : laneToFix sh x = fixWord ⌊fpRat x * 2 ^ sh + 1 / 2⌋ := by
  obtain ⟨-, value⟩ := fpOf_finite hx
  rcases fpOf_cases hx with ⟨-, zero, rat⟩ | ⟨-, normal, -⟩
  · have none : ⌊fpRat x * 2 ^ sh + 1 / 2⌋ = 0 := by rw [rat]; norm_num
    rw [none]
    unfold laneToFix
    rw [zero]
    rfl
  · rw [laneToFix_fin normal, nearest_eq_floor, ← value, normal, FpVal.rat, zpow_add₀ two_ne_zero, zpow_natCast, mul_assoc]

/-! ### The end of a division (R120) -/

/-- Twice a quotient cut to an integer, rounded to the quotient: within half, and never at half where the dividend has more factors of two
than the divisor. -/
theorem halfUp_quotient {N M K : Nat} (hM : 0 < M) (hlt : M < 2 ^ K) (hdvd : 2 ^ K ∣ N) :
    N < 2 * (N / M / 2 + N / M % 2) * M + M ∧ 2 * (N / M / 2 + N / M % 2) * M < N + M := by
  have split := Nat.div_add_mod N M
  have rest := Nat.mod_lt N hM
  generalize hF : N / M = F at *
  rcases Nat.mod_two_eq_zero_or_one F with even | odd
  · have twice : 2 * (F / 2 + F % 2) = F := by omega
    rw [twice, Nat.mul_comm F M]
    omega
  · have twice : 2 * (F / 2 + F % 2) = F + 1 := by omega
    have noTie : N % M ≠ 0 := by
      intro tie
      rw [tie, Nat.add_zero] at split
      have coprime : Nat.Coprime (2 ^ K) F := Nat.Coprime.pow_left K (Nat.coprime_two_left.2 (Nat.odd_iff.2 odd))
      have divides : 2 ^ K ∣ M := coprime.dvd_of_dvd_mul_right (split ▸ hdvd)
      exact absurd (Nat.le_of_dvd hM divides) (by omega)
    rw [twice, Nat.add_mul, Nat.one_mul, Nat.mul_comm F M]
    omega

/-- Nearest integers keep the sign where there is no tie. -/
theorem floor_signed {y : ℚ} {m : Nat} (n : Bool) (h1 : y < m + 1 / 2) (h2 : (m : ℚ) < y + 1 / 2) :
    ⌊(if n then -1 else 1) * y + 1 / 2⌋ = sigInt n m := by
  rw [Int.floor_eq_iff, sigInt_eq]
  cases n
  · simp only [Bool.false_eq_true, if_false, one_mul]
    constructor <;> linarith
  · simp only [if_true, neg_one_mul]
    constructor <;> linarith

/-- A quotient of significands, scaled by 2^k to 24 bits before the point and rounded, as the integers of R120 have it. -/
theorem quotient_rounds {ma mb k : Nat} (n : Bool) (e : ℤ) (hb : 0 < mb) (hk : mb < 2 ^ (k + 1)) (hlo : 2 ^ 23 * mb ≤ ma * 2 ^ k)
    (hhi : ma * 2 ^ k < 2 ^ 24 * mb) :
    let m := ma * 2 ^ (k + 1) / mb / 2 + ma * 2 ^ (k + 1) / mb % 2
    2 ^ 23 ≤ m ∧ m ≤ 2 ^ 24 ∧
      Rounds 24 ((if n then -1 else 1) * ((ma : ℚ) / mb) * 2 ^ e) ((sigInt n m : ℚ) * 2 ^ (e - k)) := by
  intro m
  obtain ⟨above, below⟩ : ma * 2 ^ (k + 1) < 2 * m * mb + mb ∧ 2 * m * mb < ma * 2 ^ (k + 1) + mb :=
    halfUp_quotient hb hk (Dvd.intro_left _ rfl)
  have double : ma * 2 ^ (k + 1) = 2 * (ma * 2 ^ k) := by rw [Nat.pow_succ]; ring
  rw [double] at above below
  have posb : (0 : ℚ) < mb := by exact_mod_cast hb
  obtain ⟨y, hy⟩ : ∃ y : ℚ, (ma : ℚ) * 2 ^ k = y * mb := ⟨ma * 2 ^ k / mb, (div_mul_cancel₀ _ posb.ne').symm⟩
  have near1 : y < m + 1 / 2 := by
    have scaled : (2 : ℚ) * (ma * 2 ^ k) < 2 * m * mb + mb := by exact_mod_cast above
    rw [hy] at scaled
    exact lt_of_mul_lt_mul_right (by linarith : y * mb < (m + 1 / 2) * mb) posb.le
  have near2 : (m : ℚ) < y + 1 / 2 := by
    have scaled : (2 : ℚ) * m * mb < 2 * (ma * 2 ^ k) + mb := by exact_mod_cast below
    rw [hy] at scaled
    exact lt_of_mul_lt_mul_right (by linarith : m * mb < (y + 1 / 2) * mb) posb.le
  have least : (2 : ℚ) ^ 23 ≤ y := by
    have scaled : (2 : ℚ) ^ 23 * mb ≤ ma * 2 ^ k := by exact_mod_cast hlo
    rw [hy] at scaled
    exact le_of_mul_le_mul_right scaled posb
  have most : y < (2 : ℚ) ^ 24 := by
    have scaled : (ma : ℚ) * 2 ^ k < 2 ^ 24 * mb := by exact_mod_cast hhi
    rw [hy] at scaled
    exact lt_of_mul_lt_mul_right scaled posb.le
  refine ⟨?_, ?_, ?_⟩
  · have : (2 : ℚ) ^ 23 < m + 1 := by linarith
    exact Nat.lt_succ_iff.1 (by exact_mod_cast this)
  · have : (m : ℚ) < 2 ^ 24 + 1 := by linarith
    exact Nat.lt_succ_iff.1 (by exact_mod_cast this)
  · have magnitude : |(if n then -1 else 1) * y| = y := by
      rw [abs_mul, abs_of_nonneg (by linarith : (0 : ℚ) ≤ y)]
      cases n <;> simp
    refine Rounds.of_scaled (y := (if n then -1 else 1) * y) (x := e - k) ?_ (by rw [magnitude]; exact_mod_cast least)
      (by rw [magnitude]; exact_mod_cast most) (by rw [floor_signed n near1 near2])
    have quotient : (ma : ℚ) / mb * 2 ^ k = y := by rw [div_mul_eq_mul_div, hy, mul_div_cancel_right₀ _ posb.ne']
    rw [← quotient, zpow_sub₀ two_ne_zero, zpow_natCast, mul_assoc, mul_assoc, mul_assoc, mul_div_cancel₀ _ (pow_ne_zero k two_ne_zero)]

/-- A rounded quotient delivered, its carry taken out. -/
theorem carried_delivers {q : ℚ} {n : Bool} {m : Nat} {e : ℤ} (hq : q ≠ 0) (hn : q < 0 ↔ n = true) (hlo : 2 ^ 23 ≤ m) (hhi : m ≤ 2 ^ 24)
    (rounds : Rounds 24 q ((sigInt n m : ℚ) * 2 ^ (e - 23))) :
    Delivers q (fpOut (.fin n (if m = 2 ^ 24 then 2 ^ 23 else m) ((if m = 2 ^ 24 then e + 1 else e) - 23))) := by
  have bits {s : Nat} (h1 : 2 ^ 23 ≤ s) (h2 : s < 2 ^ 24) (x : ℤ) : fpOut (.fin n s x) = fpWord n s x := by
    have len : bitLen s = 24 := bitLen_eq (l := 23) h1 h2
    rw [fpOut_fin, roundSig_exact n x (by omega), len]
    simp
  by_cases carry : m = 2 ^ 24
  · have same : (sigInt n m : ℚ) * 2 ^ (e - 23) = (sigInt n (2 ^ 23) : ℚ) * 2 ^ (e + 1 - 23) := by
      rw [carry, sigInt_eq, sigInt_eq, show e + 1 - 23 = (e - 23) + 1 by ring, zpow_add_one₀ two_ne_zero]
      push_cast
      ring
    rw [if_pos carry, if_pos carry, bits le_rfl (by norm_num)]
    exact fpWord_delivers hq hn le_rfl (by norm_num) (same ▸ rounds)
  · rw [if_neg carry, if_neg carry, bits hlo (by omega)]
    exact fpWord_delivers hq hn hlo (by omega) rounds

/-- DIVF of normal operands and a quotient of thirteen steps, in terms of its rounded significand. -/
theorem laneDivf_normal {d0 d1 x y : Nat} {na nb : Bool} {sa sb : Nat} {ea eb : ℤ} (hx : fpOf x = .fin na sa ea) (hy : fpOf y = .fin nb sb eb)
    (h0 : bitsAt d0 28 4 = 13) (h1 : d1 < 2 ^ 26) :
    let f := if 2 ^ 25 ≤ d1 then d1 / 2 else d1
    let m := f / 2 + f % 2
    let e := if 2 ^ 25 ≤ d1 then ea - eb else ea - eb - 1
    2 ^ 23 ≤ m → laneDivf d0 d1 x y = fpOut (.fin (fpNeg x != fpNeg y) (if m = 2 ^ 24 then 2 ^ 23 else m)
      ((if m = 2 ^ 24 then e + 1 else e) - 23)) := by
  intro f m e hm
  have quo : bitsAt d1 0 26 * 2 ^ (2 * (13 - min 13 13)) = d1 := by
    rw [bitsAt, Nat.pow_zero, Nat.div_one, Nat.mod_eq_of_lt h1]
    norm_num
  have quarter : d1 / 2 / 2 = d1 / 4 := Nat.div_div_eq_div_mul ..
  have sig : (if 2 ^ 25 ≤ d1 then d1 / 4 else d1 / 2) + (if 2 ^ 25 ≤ d1 then d1 / 2 % 2 else d1 % 2) = m := by
    by_cases big : 2 ^ 25 ≤ d1
    · simp only [m, f, if_pos big, quarter]
    · simp only [m, f, if_neg big]
  unfold laneDivf
  rw [hx, hy]
  dsimp only
  rw [h0, quo]
  simp only [sig]
  rw [if_neg (by split <;> omega)]

/-- The sign of a quotient. -/
theorem sign_div (a b : Bool) : (if a then -1 else 1 : ℚ) / (if b then -1 else 1) = if a != b then -1 else 1 := by
  cases a <;> cases b <;> norm_num

/-- DIVF after thirteen steps delivers the quotient. -/
theorem laneDivf_delivers {x y : Nat} {q : Nat × Nat} (hq : DivState (divSig x) (divSig y) 13 q) (hx : bitsAt x 23 8 ≠ 255)
    (hy : bitsAt y 23 8 ≠ 255) (vx : fpRat x ≠ 0) (vy : fpRat y ≠ 0) : Delivers (fpRat x / fpRat y) (laneDivf q.1 q.2 x y) := by
  obtain ⟨lox, hix⟩ := divSig_lt x
  obtain ⟨loy, hiy⟩ := divSig_lt y
  obtain ⟨-, valX⟩ := fpOf_finite hx
  obtain ⟨-, valY⟩ := fpOf_finite hy
  have normal {z : Nat} (hz : bitsAt z 23 8 ≠ 255) (vz : fpRat z ≠ 0) :
      fpOf z = .fin (fpNeg z) (divSig z) ((bitsAt z 23 8 : ℤ) - 150) := by
    rcases fpOf_cases hz with ⟨-, -, zero⟩ | ⟨-, eq, -⟩
    · exact absurd zero vz
    · rw [divSig, eq]
  have nx := normal hx vx
  have ny := normal hy vy
  generalize (bitsAt x 23 8 : ℤ) - 150 = ea at nx
  generalize (bitsAt y 23 8 : ℤ) - 150 = eb at ny
  have value : fpRat x / fpRat y = (if fpNeg x != fpNeg y then -1 else 1) * ((divSig x : ℚ) / divSig y) * 2 ^ (ea - eb) := by
    rw [← valX, ← valY, nx, ny, FpVal.rat, FpVal.rat, sigInt_eq, sigInt_eq, zpow_sub₀ two_ne_zero]
    rw [mul_div_mul_comm, mul_div_mul_comm, sign_div]
  have nonzero : fpRat x / fpRat y ≠ 0 := div_ne_zero vx vy
  have sign : fpRat x / fpRat y < 0 ↔ (fpNeg x != fpNeg y) = true := by
    have pos : (0 : ℚ) < (divSig x : ℚ) / divSig y * 2 ^ (ea - eb) := by
      have hX : (0 : ℚ) < divSig x := by exact_mod_cast (by omega : 0 < divSig x)
      have hY : (0 : ℚ) < divSig y := by exact_mod_cast (by omega : 0 < divSig y)
      positivity
    rw [value, mul_assoc]
    cases (fpNeg x != fpNeg y)
    · simpa using pos.le
    · simpa using pos
  have small := hq.quotient_lt (by omega) le_rfl
  have done := hq.done
  have steps := hq.steps
  have divf := laneDivf_normal nx ny steps small
  by_cases big : 2 ^ 25 ≤ q.2
  · have ge : divSig y ≤ divSig x := by
      by_contra h
      have : divSig x * 2 ^ 25 / divSig y < 2 ^ 25 := Nat.div_lt_of_lt_mul (Nat.mul_lt_mul_of_pos_right (not_le.1 h) (by decide))
      omega
    have half : q.2 / 2 = divSig x * 2 ^ 24 / divSig y := by
      rw [done, Nat.div_div_eq_div_mul, show divSig x * 2 ^ 25 = divSig x * 2 ^ 24 * 2 by ring, Nat.mul_div_mul_right _ _ two_pos]
    simp only [if_pos big, half] at divf
    obtain ⟨lo, hi, rounds⟩ := quotient_rounds (ma := divSig x) (mb := divSig y) (k := 23) (fpNeg x != fpNeg y) (ea - eb) (by omega) hiy
      ((Nat.mul_comm ..).trans_le (Nat.mul_le_mul_right _ ge))
      ((Nat.mul_lt_mul_of_pos_right hix (by decide)).trans_le (Nat.mul_le_mul_left _ loy))
    rw [divf lo]
    exact carried_delivers nonzero sign lo hi (by rw [value]; exact rounds)
  · have lt : divSig x < divSig y := by
      by_contra h
      have : 2 ^ 25 ≤ divSig x * 2 ^ 25 / divSig y := (Nat.le_div_iff_mul_le (by omega)).2 ((Nat.mul_comm ..).trans_le (Nat.mul_le_mul_right _ (not_lt.1 h)))
      omega
    simp only [if_neg big] at divf
    obtain ⟨lo, hi, rounds⟩ := quotient_rounds (ma := divSig x) (mb := divSig y) (k := 24) (fpNeg x != fpNeg y) (ea - eb) (by omega) (by omega)
      ((Nat.mul_le_mul_left _ hiy.le).trans (Nat.mul_le_mul_right _ lox))
      ((Nat.mul_lt_mul_of_pos_right lt (by decide)).trans_eq (Nat.mul_comm ..))
    rw [show divSig x * 2 ^ (24 + 1) / divSig y = q.2 from done.symm] at lo hi rounds
    rw [show ea - eb - ((24 : Nat) : ℤ) = ea - eb - 1 - 23 by ring] at rounds
    rw [divf lo]
    exact carried_delivers nonzero sign lo hi (by rw [value]; exact rounds)

end Sys2Proof.Machine
end

section
/-! SUPPORT. The entries of the lane operations' statement. -/

namespace Sys2Proof.Machine

/-- An instruction with its lane function and the cells it clears besides: what it leaves in its destination `y`. -/
def State.LaneMoves (s : State) (d n a p k y : Nat) (i : Instr) (f : Nat → FpRes) (own : List Loc) : Prop := s.fetched i = true →
  Completes i s fun t => s.Sticky t d n p f ∧
    ((k < 8 → t.vReg d n y k = if bitAt (s.pReg d n p) k = 1 then (f k).bits % 2 ^ 32 else s.vReg d n y k) ∧
      s.Ran t d n (s.get .NEWT_NEXT d n + 1) (vCells d n y ++ own ++ flagCells d n)) ∧
    (k < 8 → own ≠ [] → t.accReg d n (a % 8) k = if bitAt (s.pReg d n p) k = 1 then 0 else s.accReg d n (a % 8) k)

/-- The same of an entry of the list, DIVF's destination being even. -/
def State.LaneEntry (s : State) (d n x a b p k : Nat) (q : Instr × (Nat → FpRes) × List Loc) : Prop :=
  s.LaneMoves d n a p k (if q.1 = .divf d n true (x / 2 * 2) a b p then x / 2 * 2 else x) q.1 q.2.1 q.2.2

theorem State.LaneMoves.entry {s : State} {d n x a b p k : Nat} {i : Instr} {f : Nat → FpRes} {own : List Loc}
    (h : s.LaneMoves d n a p k x i f own) (hne : i ≠ .divf d n true (x / 2 * 2) a b p) : s.LaneEntry d n x a b p k (i, f, own) := by
  unfold State.LaneEntry
  rwa [if_neg hne]

theorem State.LaneMoves.entry_divf {s : State} {d n x a b p k : Nat} {f : Nat → FpRes} {own : List Loc}
    (h : s.LaneMoves d n a p k (x / 2 * 2) (.divf d n true (x / 2 * 2) a b p) f own) :
    s.LaneEntry d n x a b p k (.divf d n true (x / 2 * 2) a b p, f, own) := by
  unfold State.LaneEntry
  rwa [if_pos rfl]

end Sys2Proof.Machine
end

section
/-! PROOF. -/

open Sys2Proof Sys2Proof.Machine

/-- Settles O14: an instruction by what its slot delivers lane by lane (`completes_laneOut`), the lane functions by the exact operations on
values (`FpVal.Finite.add`, `FpVal.Finite.mul`) and the one rounding (`fpWord_delivers`), the quotient by `DivState`. -/
theorem laneResults : Obligations.LaneResults := by
  unfold Obligations.LaneResults
  refine ⟨?_, ?_⟩
  · intro s d n x a b p sh k bs dir clr _ _ _ _ _ hb _ _ hr D A B i f own hm hf
    have source : legalB b bs = true := by
      cases bs
      · rfl
      · exact decide_eq_true (hb rfl)
    have rounds : s.LaneMoves d n a p k x (.vrnd d n true x (a % 8) p clr) (fun k => laneRnd (s.accReg d n (a % 8) k))
        (if clr then accCells d n (a % 8) else []) := fun hf => by
      cases clr
      · exact completes_laneOut (m := .vrnd x (a % 8) p false) hr rfl rfl hf rfl rfl rfl
      · exact completes_vrnd_clear hr hf
    refine (List.forall_iff_forall_mem (p := s.LaneEntry d n x a b p k)).1 ?_ (i, f, own) hm hf
    dsimp only [List.Forall]
    exact ⟨.entry (fun hf => completes_laneOut (m := .lane .fma x a b p bs) hr rfl rfl hf source rfl rfl) nofun,
      .entry (fun hf => completes_laneOut (m := .lane .mul x a b p bs) hr rfl rfl hf source rfl rfl) nofun,
      .entry (fun hf => completes_laneOut (m := .lane .add x a b p bs) hr rfl rfl hf source rfl rfl) nofun,
      .entry (fun hf => completes_laneOut (m := .lane .sub x a b p bs) hr rfl rfl hf source rfl rfl) nofun,
      .entry (fun hf => completes_laneOut (m := .lane .min x a b p bs) hr rfl rfl hf source rfl rfl) nofun,
      .entry (fun hf => completes_laneOut (m := .lane .max x a b p bs) hr rfl rfl hf source rfl rfl) nofun,
      .entry (fun hf => completes_laneOut (m := .unary .abs x a p) hr rfl rfl hf rfl rfl rfl) nofun,
      .entry (fun hf => completes_laneOut (m := .unary .neg x a p) hr rfl rfl hf rfl rfl rfl) nofun,
      .entry (fun hf => completes_laneOut (m := .unary .rcps x a p) hr rfl rfl hf rfl rfl rfl) nofun,
      .entry (fun hf => completes_laneOut (m := .vcvt x a p dir sh) hr rfl rfl hf rfl rfl rfl) nofun,
      .entry rounds nofun,
      .entry_divf fun hf => completes_laneOut (m := .divf (x / 2 * 2) a b p) hr rfl rfl hf (by simp [MIns.legal]) rfl rfl⟩
  · intro x y z w sh hx hy hz _ fin nan plain signs q
    have quotient : DivState (divSig x) (divSig y) 13 q := divState_repeat x y le_rfl
    refine ⟨fun fx fy => ⟨laneAdd_delivers fx fy, laneSub_delivers fx fy, laneMul_delivers fx fy, laneFma_delivers fx fy,
      laneMinMax_of_lt fx fy, fun zx zy => laneMinMax_of_zeros (exponent_of_rat_zero fx zx) (exponent_of_rat_zero fy zy),
      laneDivf_delivers quotient fx fy⟩, fun hn => ⟨fpPass_eq hx hn, laneAbs_eq hx hn, laneNeg_eq hx hn⟩, fun h r hr => ?_,
      fun hn => unaries_of_nan (fpOf_eq_nan hn) sh, fun g hn => lanes_of_inf g hy hn, laneRnd_delivers, fun fx => laneToFix_eq fx sh,
      laneFromFix_delivers sh x⟩
    have operand : fpOf x = .nan ∨ fpOf y = .nan := h.imp fpOf_eq_nan fpOf_eq_nan
    rcases List.mem_append.1 (show r ∈ [laneAdd x y, laneSub x y, laneMul x y, laneMin x y, laneMax x y, laneFma z x y, laneFma x z y] ++
      [laneDivf q.1 q.2 x y] from hr) with hr | hr
    · exact lanes_of_nan operand z r hr
    · rw [List.mem_singleton.1 hr, laneDivf_of_nan operand]
end

section
/-! SUPPORT. A bundle of one L or C instruction issues (R75, R76, R93, R104), and what a C instruction alone in its bundle leaves. -/

namespace Sys2Proof.Machine

/-! ### Issue and end -/

section
variable {s t u : State} {d n : Nat}

/-- A ready newt that finds an instruction with E, legal as a bundle of its own, issues it at once. -/
theorem State.issue_ready {op : NewtOp} {io : Option AccessMeets} {b : Bundle} (hr : s.Ready d n)
    (hh : s.holds d n (s.get .NEWT_NEXT d n) true op = true) (hj : Bundle.join ⟨d, n, none, none, none, AccessMeets.free⟩ op = some b)
    (hd : b.die = d) (hn : b.newt = n) (hl : s.legalBundle { b with io := io.getD b.io } (s.get .NEWT_NEXT d n) = true) :
    s.issue d n true op io = s.issueBundle { b with io := io.getD b.io } (s.get .NEWT_NEXT d n) := by
  subst hd hn
  obtain ⟨-, hclk, hrun, hbun, -, -, -, hstop, -⟩ := hr
  have empty : s.openBundle b.die b.newt = ⟨b.die, b.newt, none, none, none, AccessMeets.free⟩ := by rw [State.openBundle, hbun]; rfl
  have words : Bundle.words ⟨b.die, b.newt, none, none, none, AccessMeets.free⟩ = 0 := rfl
  unfold State.issue
  dsimp only
  rw [empty, words, Nat.add_zero, if_neg (by simp [hrun, hclk, hh]), if_neg (by simp [hstop]), hj]
  dsimp only
  rw [if_pos rfl]
  unfold State.runBundle
  dsimp only
  rw [State.dropBundle_of_none hbun, if_pos hl]

/-- Nothing follows a bundle that repeats nothing: the newt has left RUN, starts a repeat, or neither steps nor is to halt. -/
def State.EndsPlainly (s : State) (d n : Nat) : Prop :=
  s.newtIs d n newtRun = false ∨ s.get .NEWT_STATUS_INREPT d n = 1 ∨ (s.get .NEWT_STEP d n = 0 ∧ s.get .NEWT_STATUS_HALT_PEND d n = 0)

theorem State.Ready.endsPlainly (hr : s.Ready d n) : s.EndsPlainly d n := .inr (.inr ⟨hr.2.2.2.2.2.1, hr.2.2.2.2.2.2.1⟩)

theorem State.Ready.next_lt (hr : s.Ready d n) : s.get .NEWT_NEXT d n + 1 < 8192 := by
  obtain ⟨-, -, -, -, -, -, -, -, hlast⟩ := hr
  omega

/-- The cells that decide what follows a bundle. -/
def endFlds : List Fld := [.NEWT_STATUS_STATE, .NEWT_STATUS_INREPT, .NEWT_STEP, .NEWT_STATUS_HALT_PEND]

theorem State.EndsPlainly.congr (h : s.EndsPlainly d n) (same : ∀ f ∈ endFlds, t.get f d n = s.get f d n) : t.EndsPlainly d n := by
  unfold State.EndsPlainly State.newtIs at *
  rw [same .NEWT_STATUS_STATE (by decide), same .NEWT_STATUS_INREPT (by decide), same .NEWT_STEP (by decide),
    same .NEWT_STATUS_HALT_PEND (by decide)]
  exact h

/-- The names of the cells that every bundle writes. -/
def issueFlds : List Fld := [.NEWT_PC, .NEWT_LAST, .NEWT_NEXT, .NEWT_SKIPBP, .NEWT_STALL_SB]

/-- The PC moved past a bundle. -/
def State.moved (s : State) (d n pc next : Nat) : State :=
  (((s.put .NEWT_PC d n pc).put .NEWT_LAST d n pc).put .NEWT_SKIPBP d n 0).put .NEWT_NEXT d n next

theorem State.moved_get (s : State) (pc next : Nat) {f : Fld} (hf : f ∉ issueFlds) (e i : Nat) :
    (s.moved d n pc next).get f e i = s.get f e i := by
  have other {g : Fld} (hg : g ∈ issueFlds) : f ≠ g := fun same => hf (same ▸ hg)
  unfold State.moved
  rw [State.get_put_fld _ (other (by decide)), State.get_put_fld _ (other (by decide)), State.get_put_fld _ (other (by decide)),
    State.get_put_fld _ (other (by decide))]

theorem State.moved_newtIs (s : State) (pc next st : Nat) : (s.moved d n pc next).newtIs d n st = s.newtIs d n st := by
  rw [State.newtIs, State.moved_get _ _ _ (by decide), State.newtIs]

theorem State.moved_on (s : State) (pc next : Nat) {f : Fld} (hf : f ∉ issueFlds) : (s.moved d n pc next).on f d n = s.on f d n := by
  rw [State.on, State.moved_get _ _ _ hf, State.on]

/-- The end of a bundle that repeats nothing. -/
theorem State.bundleEnd_moved (s : State) (pc next : Nat) : s.bundleEnd d n pc next false =
    if (s.moved d n pc next).newtIs d n newtRun = false ∨ (s.moved d n pc next).on .NEWT_STATUS_INREPT d n = true then s.moved d n pc next
    else
      let t := (s.moved d n pc next).when ((s.moved d n pc next).on .NEWT_STEP d n = true) fun t =>
        (t.put .NEWT_STEP d n 0).put .NEWT_STATUS_HALT_PEND d n 1
      t.when (t.on .NEWT_STATUS_HALT_PEND d n = true ∧ t.dbgEn d n = true) fun t => t.newtHalts d n := rfl

/-- Where nothing follows, the bundle's end moves the PC alone. -/
theorem State.bundleEnd_moves (h : s.EndsPlainly d n) (pc next : Nat) : s.bundleEnd d n pc next false = s.moved d n pc next := by
  rw [State.bundleEnd_moved, State.moved_newtIs, State.moved_on _ _ _ (by decide), State.moved_on _ _ _ (by decide)]
  rcases h with h | h | ⟨hstep, hhalt⟩
  · exact if_pos (.inl h)
  · exact if_pos (.inr (beq_iff_eq.2 h))
  · have step : ¬ s.on .NEWT_STEP d n = true := by rw [State.on, hstep]; decide
    have halt : ¬ s.on .NEWT_STATUS_HALT_PEND d n = true := by rw [State.on, hhalt]; decide
    rw [State.when_false _ step]
    dsimp only
    rw [State.moved_on _ _ _ (by decide), State.when_false _ fun both => halt both.1]
    exact ite_self _

/-! ### Cells in turn -/

variable {l m : List Loc}

theorem State.Within.thenBoards (h : s.Within u l) (ht : u.WithinBoards t m) : s.WithinBoards t (l ++ m) := by
  obtain ⟨hget, hrest⟩ := h
  obtain ⟨tget, trest⟩ := ht
  have kept : u.boards = s.boards := (congrArg State.boards hrest :)
  refine ⟨fun c hc => (tget c fun k => hc (List.mem_append_right _ k)).trans (hget c fun k => hc (List.mem_append_left _ k)), ?_⟩
  refine Eq.trans ?_ hrest
  rw [← kept]
  exact congrArg (fun w : State => { w with cells := s.cells }) trest

theorem State.WithinBoards.get (h : u.WithinBoards t l) {f : Fld} {e i : Nat} (hf : ⟨f, e, i⟩ ∉ l) : t.get f e i = u.get f e i := h.1 ⟨f, e, i⟩ hf

theorem State.WithinBoards.mono (h : s.WithinBoards t l) (hm : l ⊆ m) : s.WithinBoards t m := State.Within.mono h hm

/-- Cells by their names. -/
theorem mem_issueCells {f : Fld} (hf : f ∈ issueFlds) : ⟨f, d, n⟩ ∈ issueCells d n :=
  List.mem_map_of_mem (f := fun f : Fld => (⟨f, d, n⟩ : Loc)) hf

theorem notMem_of_fld {c : Loc} (h : (l.map Loc.fld).contains c.fld = false) : c ∉ l := fun k => by
  rw [List.contains_iff_mem.2 (List.mem_map_of_mem k)] at h
  cases h

theorem notMem_of_flds {fs : List Fld} (h : (fs.all fun f => !(l.map Loc.fld).contains f) = true) {f : Fld} (hf : f ∈ fs) (e i : Nat) :
    ⟨f, e, i⟩ ∉ l :=
  notMem_of_fld (by simpa using List.all_eq_true.1 h f hf)

theorem State.WithinBoards.get_fld (h : u.WithinBoards t (l ++ issueCells d n)) {f : Fld} (hf : f ∉ issueFlds) {e i : Nat}
    (hl : ⟨f, e, i⟩ ∉ l) : t.get f e i = u.get f e i := h.get fun k => by
  rcases List.mem_append.1 k with k | k
  · exact hl k
  · exact hf (List.mem_map_of_mem (f := Loc.fld) k)

theorem State.WithinBoards.moved {w : State} (h : u.WithinBoards w l) (pc next : Nat) (hl : ∀ f ∈ issueFlds, ⟨f, d, n⟩ ∈ l) :
    u.WithinBoards (w.moved d n pc next) l :=
  (((h.put (hl _ (by decide))).put (hl _ (by decide))).put (hl _ (by decide))).put (hl _ (by decide))

/-- The bundle's stalls and its end, after the slots have left `u`. -/
theorem State.ended {w : State} {pc next : Nat} (hpc : pc < 2 ^ 13) (hnext : next < 2 ^ 13) (hw : u.WithinBoards w (l ++ issueCells d n))
    (hl : ∀ f ∈ endFlds, ⟨f, d, n⟩ ∉ l) (he : u.EndsPlainly d n) :
    (w.bundleEnd d n pc next false).get .NEWT_PC d n = pc ∧ (w.bundleEnd d n pc next false).get .NEWT_NEXT d n = next ∧
      u.WithinBoards (w.bundleEnd d n pc next false) (l ++ issueCells d n) := by
  have plain : w.EndsPlainly d n := he.congr fun f hf => hw.get_fld (by revert f; decide) (hl f hf)
  rw [State.bundleEnd_moves plain]
  refine ⟨?_, ?_, hw.moved pc next fun f hf => List.mem_append_right _ (mem_issueCells hf)⟩
  · unfold State.moved
    rw [State.get_put_fld _ (by decide), State.get_put_fld _ (by decide), State.get_put_fld _ (by decide), State.get_put_same]
    exact Nat.mod_eq_of_lt hpc
  · exact (State.get_put_same ..).trans (Nat.mod_eq_of_lt hnext)

/-- A bundle without an L instruction counts nothing for memory. -/
theorem State.stalls_within {b : Bundle} {next tgt : Nat} (hb : b.l = none) (hfab : u.get .NEWT_STALL_FAB b.die b.newt < 2 ^ 32)
    (hmem : u.get .NEWT_STALL_MEM b.die b.newt < 2 ^ 32) : u.WithinBoards (u.stalls s b next tgt) ([] ++ issueCells b.die b.newt) := by
  obtain ⟨k, board, stalls⟩ := State.stalls_noL u s hb next tgt
  rw [stalls]
  have fab : (u.inc .NEWT_STALL_SB b.die b.newt k).get .NEWT_STALL_FAB b.die b.newt < 2 ^ 32 := by
    rw [State.inc, State.get_put_fld _ (by decide)]
    exact hfab
  have mem : ((u.inc .NEWT_STALL_SB b.die b.newt k).inc .NEWT_STALL_FAB b.die b.newt 0).get .NEWT_STALL_MEM b.die b.newt < 2 ^ 32 := by
    rw [State.inc, State.get_put_fld _ (by decide), State.inc, State.get_put_fld _ (by decide)]
    exact hmem
  have counted : u.WithinBoards (u.inc .NEWT_STALL_SB b.die b.newt k) ([] ++ issueCells b.die b.newt) :=
    State.WithinBoards.put State.Within.refl.withBoards (List.mem_append_right _ (mem_issueCells (by decide)))
  exact ((counted.incZero fab).incZero mem).setBoard

theorem State.ended_noL {b : Bundle} {pc next tgt : Nat} (hb : b.l = none) (hfab : u.get .NEWT_STALL_FAB b.die b.newt < 2 ^ 32)
    (hmem : u.get .NEWT_STALL_MEM b.die b.newt < 2 ^ 32) (hpc : pc < 2 ^ 13) (htgt : tgt < 2 ^ 13) (he : u.EndsPlainly b.die b.newt) :
    ((u.stalls s b next tgt).bundleEnd b.die b.newt pc tgt false).get .NEWT_PC b.die b.newt = pc ∧
      ((u.stalls s b next tgt).bundleEnd b.die b.newt pc tgt false).get .NEWT_NEXT b.die b.newt = tgt ∧
      u.WithinBoards ((u.stalls s b next tgt).bundleEnd b.die b.newt pc tgt false) (issueCells b.die b.newt) :=
  State.ended hpc htgt (State.stalls_within hb hfab hmem) (fun _ _ => List.not_mem_nil) he

end

/-! ### A C instruction alone in its bundle -/

section
variable {s t : State} {d n : Nat} {c : CIns}

/-- The bundle of one C instruction. -/
def cBundle (d n : Nat) (c : CIns) : Bundle := ⟨d, n, none, none, some c, AccessMeets.free⟩

/-- What the C slot leaves, and the word at which the newt goes on. -/
def State.cSlot (s : State) (d n : Nat) (c : CIns) : State × Nat :=
  (s.cMove s d n (s.get .NEWT_NEXT d n + 1) c).control s d n (s.get .NEWT_NEXT d n + 1) c

theorem CIns.distinct_dests (c : CIns) : distinct (CIns.dests c) = true := by
  cases c with
  | movr df di sf si =>
    simp only [CIns.dests]
    split <;> rfl
  | _ => rfl

theorem State.issueC_ready (hr : s.Ready d n) (hh : s.holds d n (s.get .NEWT_NEXT d n) true (.c c) = true)
    (hl : s.legalC d n (s.get .NEWT_NEXT d n) (s.get .NEWT_NEXT d n + 1) c = true) : s.issueC d n true c =
      ((s.cSlot d n c).1.stalls s (cBundle d n c) (s.get .NEWT_NEXT d n + 1) (s.cSlot d n c).2).bundleEnd d n (s.get .NEWT_NEXT d n)
        (s.cSlot d n c).2 false := by
  obtain ⟨-, -, -, -, hrept, -⟩ := id hr
  have legal : s.legalBundle (cBundle d n c) (s.get .NEWT_NEXT d n) = true := by
    have words : Bundle.words (cBundle d n c) = 1 := rfl
    simp only [State.legalBundle, words]
    simp [cBundle, Bundle.dests, CIns.distinct_dests, hrept, hl]
  refine (State.issue_ready (b := cBundle d n c) hr hh rfl rfl rfl legal).trans ?_
  have repeats : s.on .NEWT_STATUS_INREPT d n = false := by simp [State.on, hrept]
  unfold State.issueBundle
  rw [State.when_false _ (by simp [State.cutShort, cBundle])]
  dsimp only [cBundle]
  rw [repeats]
  rfl

/-- A fetched, legal C instruction of a ready newt completes; after its slot come the bundle's stalls and its end. -/
theorem completes_issueC {i : Instr} {post : State → Prop} (hr : s.Ready d n) (hi : newtInstr i = some ⟨d, n, true, .c c⟩)
    (hx : exec i s = .next (s.issueC d n true c)) (hf : s.fetched i = true)
    (hl : s.legalC d n (s.get .NEWT_NEXT d n) (s.get .NEWT_NEXT d n + 1) c = true)
    (hsame : ∀ f ∈ [Fld.NEWT_STALL_FAB, .NEWT_STALL_MEM], (s.cSlot d n c).1.get f d n = s.get f d n)
    (hnext : (s.cSlot d n c).2 < 8192) (he : (s.cSlot d n c).1.EndsPlainly d n)
    (hpost : ∀ t, s.Issued t d n (s.cSlot d n c).2 → (s.cSlot d n c).1.WithinBoards t (issueCells d n) → post t) : Completes i s post := by
  obtain ⟨hc, -, -, -, -, -, -, -, hlast⟩ := id hr
  refine ⟨_, hx, ?_⟩
  rw [State.issueC_ready hr (State.holds_of_fetched hr hi hf) hl]
  have bound {f : Fld} (hm : f ∈ [Fld.NEWT_STALL_FAB, .NEWT_STALL_MEM]) (hz : f.reset d n = 0) :
      (s.cSlot d n c).1.get f d n < 2 ^ f.width := by
    rw [hsame f hm]
    exact State.get_lt hc hz
  obtain ⟨pc, next, ran⟩ := State.ended_noL (s := s) (b := cBundle d n c) rfl (bound (f := .NEWT_STALL_FAB) (by decide) rfl)
    (bound (f := .NEWT_STALL_MEM) (by decide) rfl) (pc := s.get .NEWT_NEXT d n) (by omega) (next := s.get .NEWT_NEXT d n + 1) hnext he
  exact hpost _ ⟨pc, next⟩ ran

/-- The names of the cells that a C instruction writes which neither halts nor repeats nor ends the task. -/
def moveFlds : List Fld := [.DBG_S, .DBG_A, .DBG_B, .DBG_L, .DBG_M, .DBG_P, .DBG_V, .NEWT_FPFLAGS_V, .NEWT_FPFLAGS_O, .NEWT_FPFLAGS_U,
  .NEWT_STATUS_LOOPDEPTH]

/-- Such an instruction, whose slot writes the cells of `l`: they keep what the slot wrote. -/
theorem completes_moveC {i : Instr} {l : List Loc} {tgt : Nat} {post : State → Prop} (hr : s.Ready d n)
    (hi : newtInstr i = some ⟨d, n, true, .c c⟩) (hx : exec i s = .next (s.issueC d n true c)) (hf : s.fetched i = true)
    (hl : s.legalC d n (s.get .NEWT_NEXT d n) (s.get .NEWT_NEXT d n + 1) c = true) (htgt : (s.cSlot d n c).2 = tgt) (hnext : tgt < 8192)
    (hw : s.Within (s.cSlot d n c).1 l) (hc : ∀ c ∈ l, c.fld ∈ moveFlds)
    (hpost : ∀ t, s.Ran t d n tgt l → (∀ f ∈ moveFlds, ∀ e j, t.get f e j = (s.cSlot d n c).1.get f e j) → post t) : Completes i s post := by
  have slot (f : Fld) (hm : f ∉ moveFlds) (e j : Nat) : (s.cSlot d n c).1.get f e j = s.get f e j :=
    hw.1 ⟨f, e, j⟩ fun k => hm (hc _ k)
  refine completes_issueC hr hi hx hf hl (fun f hf => slot f (by revert f; decide) d n) (htgt ▸ hnext)
    (hr.endsPlainly.congr fun f hf => slot f (by revert f; decide) d n) fun t issued ends => hpost t ⟨htgt ▸ issued, hw.thenBoards ends⟩ ?_
  intro f hm e j
  exact ends.get_fld (l := []) (by revert f; decide) List.not_mem_nil

end

end Sys2Proof.Machine
end

section
/-! SUPPORT. The results of the SALU group and of the register moves (R123 to R125). -/

namespace Sys2Proof.Machine

/-! ### The functions of the SALU group on vectors -/

/-- The functions of R123 on 32-bit vectors. -/
def SaluFn.vec : SaluFn → BitVec 32 → BitVec 32 → BitVec 32
  | .add, A, B => A + B
  | .sub, A, B => A - B
  | .and, A, B => A &&& B
  | .or, A, B => A ||| B
  | .xor, A, B => A ^^^ B
  | .shl, A, B => A <<< (B.toNat % 32)
  | .shr, A, B => A >>> (B.toNat % 32)
  | .sra, A, B => A.sshiftRight (B.toNat % 32)
  | .mul, A, B => A * B
  | .min, A, B => if A.slt B then A else B
  | .max, A, B => if A.slt B then B else A
  | .slt, A, B => if A.slt B then 1 else 0
  | .sltu, A, B => if A.ult B then 1 else 0

theorem signed_toNat {w : Nat} (hw : 0 < w) (A : BitVec w) : signed w A.toNat = A.toInt := by
  have double : 2 ^ w = 2 * 2 ^ (w - 1) := by
    rw [← Nat.pow_succ']
    congr 1
    omega
  have small : A.toNat < 2 ^ w := A.isLt
  rw [signed, BitVec.toInt_eq_toNat_cond, Nat.mod_eq_of_lt small]
  split_ifs <;> omega

theorem unsigned_eq_toNat (w : Nat) (x : Int) : unsigned w x = (BitVec.ofInt w x).toNat := by rw [unsigned, BitVec.toNat_ofInt]

theorem signed_lt_iff (A B : BitVec 32) : signed 32 A.toNat < signed 32 B.toNat ↔ A.slt B = true := by
  rw [signed_toNat (by decide), signed_toNat (by decide), BitVec.slt_iff_toInt_lt]

theorem SaluFn.eval_toNat (fn : SaluFn) (A B : BitVec 32) : SaluFn.eval fn A.toNat B.toNat % 2 ^ 32 = (SaluFn.vec fn A B).toNat := by
  have fits (v : BitVec 32) : v.toNat % 2 ^ 32 = v.toNat := Nat.mod_eq_of_lt v.isLt
  cases fn with
  | add => rw [SaluFn.eval, Nat.mod_mod, SaluFn.vec, BitVec.toNat_add]
  | sub =>
    rw [SaluFn.eval, Nat.mod_mod, SaluFn.vec, BitVec.toNat_sub]
    congr 1
    omega
  | and => rw [SaluFn.eval, ← BitVec.toNat_and, fits, SaluFn.vec]
  | or => rw [SaluFn.eval, ← BitVec.toNat_or, fits, SaluFn.vec]
  | xor => rw [SaluFn.eval, ← BitVec.toNat_xor, fits, SaluFn.vec]
  | shl => rw [SaluFn.eval, Nat.mod_mod, SaluFn.vec, BitVec.toNat_shiftLeft, Nat.shiftLeft_eq]
  | shr => rw [SaluFn.eval, ← Nat.shiftRight_eq_div_pow, ← BitVec.toNat_ushiftRight, fits, SaluFn.vec]
  | sra =>
    rw [SaluFn.eval, signed_toNat (by decide), ← Int.shiftRight_eq_div_pow, ← BitVec.toInt_sshiftRight, unsigned_eq_toNat, BitVec.ofInt_toInt,
      fits, SaluFn.vec]
  | mul => rw [SaluFn.eval, Nat.mod_mod, SaluFn.vec, BitVec.toNat_mul]
  | min =>
    simp only [SaluFn.eval, SaluFn.vec, signed_lt_iff]
    split <;> exact fits _
  | max =>
    simp only [SaluFn.eval, SaluFn.vec, signed_lt_iff]
    split <;> exact fits _
  | slt =>
    simp only [SaluFn.eval, SaluFn.vec, signed_lt_iff, flag, decide_eq_true_eq]
    split <;> rfl
  | sltu =>
    simp only [SaluFn.eval, SaluFn.vec, flag, BitVec.ult, decide_eq_true_eq]
    split <;> rfl

/-- The sum with a signed immediate (R123). -/
theorem unsigned_add_signed (A : BitVec 32) (imm : Nat) :
    unsigned 32 ((A.toNat : Int) + signed 16 imm) % 2 ^ 32 = (A + (BitVec.ofNat 16 imm).signExtend 32).toNat := by
  have low : signed 16 imm = (BitVec.ofNat 16 imm).toInt := by
    rw [← signed_toNat (by decide), BitVec.toNat_ofNat, signed, signed, Nat.mod_mod]
  rw [Nat.mod_eq_of_lt (unsigned_lt ..), unsigned_eq_toNat, low]
  congr 1
  rw [BitVec.ofInt_add, BitVec.ofInt_natCast, BitVec.ofNat_toNat, BitVec.setWidth_eq, BitVec.signExtend]

/-! ### Clearing bits -/

/-- What is left of `v` without its bits in `m`. -/
theorem testBit_sub_and {v : Nat} (hv : v < 2 ^ 8) (m k : Nat) (hk : k < 8) :
    (v - (v &&& m)).testBit k = (v.testBit k && !m.testBit k) := by
  let V := BitVec.ofNat 8 v
  let M := BitVec.ofNat 8 m
  have parts : V = (V &&& ~~~M) + (V &&& M) := by
    rw [BitVec.add_eq_or_of_and_eq_zero]
    · ext i hi
      simp only [BitVec.getElem_or, BitVec.getElem_and, BitVec.getElem_not]
      cases V[i] <;> cases M[i] <;> rfl
    · ext i hi
      simp only [BitVec.getElem_and, BitVec.getElem_not, BitVec.getElem_zero]
      cases V[i] <;> cases M[i] <;> rfl
  have value : V.toNat = v := Nat.mod_eq_of_lt hv
  have common : (V &&& M).toNat = v &&& m := by
    rw [BitVec.toNat_and, value, BitVec.toNat_ofNat]
    refine Nat.eq_of_testBit_eq fun i => ?_
    rw [Nat.testBit_and, Nat.testBit_and, Nat.testBit_mod_two_pow]
    by_cases hi : i < 8
    · simp [hi]
    · rw [Nat.testBit_lt_two_pow (lt_of_lt_of_le hv (Nat.pow_le_pow_right two_pos (not_lt.1 hi)))]
      rfl
  have rest : V - (V &&& M) = V &&& ~~~M := by
    conv_lhs => lhs; rw [parts]
    exact BitVec.add_sub_cancel ..
  have less : V &&& M ≤ V := by
    rw [BitVec.le_def, common, value]
    exact Nat.and_le_left
  rw [← common, ← value, ← BitVec.toNat_sub_of_le less, rest, BitVec.testBit_toNat, BitVec.testBit_toNat, BitVec.getLsbD_and, BitVec.getLsbD_not,
    show M.getLsbD k = _ from BitVec.getLsbD_ofNat .., decide_eq_true hk, Bool.true_and, Bool.true_and]

/-! ### One register written -/

section
variable {s : State} {d n x : Nat} {c : CIns} {i : Instr}

/-- A C instruction that writes one cell, after which the newt goes on at `tgt`. -/
theorem completes_writesC {f : Fld} {j v tgt : Nat} (hr : s.Ready d n) (hi : newtInstr i = some ⟨d, n, true, .c c⟩)
    (hx : exec i s = .next (s.issueC d n true c)) (hf : s.fetched i = true)
    (hl : s.legalC d n (s.get .NEWT_NEXT d n) (s.get .NEWT_NEXT d n + 1) c = true) (hslot : s.cSlot d n c = (s.put f d j v, tgt))
    (htgt : tgt < 8192) (hm : f ∈ moveFlds) : Completes i s fun t => s.Ran t d n tgt [⟨f, d, j⟩] ∧ t.get f d j = v % 2 ^ f.width := by
  refine completes_moveC hr hi hx hf hl (by rw [hslot]) htgt ?_ (fun c hc => ?_) fun t ran same => ⟨ran, ?_⟩
  · rw [hslot]
    exact State.Within.refl.put (List.mem_singleton.2 rfl)
  · rwa [List.mem_singleton.1 hc]
  · rw [same f hm, hslot]
    exact State.get_put_same ..

/-- A C instruction that writes nothing. -/
theorem completes_restC {tgt : Nat} (l : List Loc) (hr : s.Ready d n) (hi : newtInstr i = some ⟨d, n, true, .c c⟩)
    (hx : exec i s = .next (s.issueC d n true c)) (hf : s.fetched i = true)
    (hl : s.legalC d n (s.get .NEWT_NEXT d n) (s.get .NEWT_NEXT d n + 1) c = true) (hslot : s.cSlot d n c = (s, tgt)) (htgt : tgt < 8192)
    (hm : ∀ c ∈ l, c.fld ∈ moveFlds) : Completes i s fun t => s.Ran t d n tgt l ∧ ∀ f ∈ moveFlds, ∀ e j, t.get f e j = s.get f e j := by
  refine completes_moveC hr hi hx hf hl (by rw [hslot]) htgt ?_ hm fun t ran same => ⟨ran, ?_⟩
  · rw [hslot]
    exact State.Within.refl
  · rwa [hslot] at same

/-- A C instruction whose result is a scalar register. -/
theorem completes_toS {v : Nat} {V : BitVec 32} (hr : s.Ready d n) (hi : newtInstr i = some ⟨d, n, true, .c c⟩)
    (hx : exec i s = .next (s.issueC d n true c)) (hf : s.fetched i = true)
    (hl : s.legalC d n (s.get .NEWT_NEXT d n) (s.get .NEWT_NEXT d n + 1) c = true)
    (hslot : s.cSlot d n c = (s.setS d n x v, s.get .NEWT_NEXT d n + 1)) (hv : v % 2 ^ 32 = V.toNat) :
    Completes i s fun t => s.Ran t d n (s.get .NEWT_NEXT d n + 1) [⟨.DBG_S, d, n * 16 + x⟩] ∧ t.sReg d n x = V.toNat :=
  hv ▸ completes_writesC (f := .DBG_S) hr hi hx hf hl hslot hr.next_lt (by decide)

/-- An instruction whose result is a scalar register. -/
def State.MovesTo (s : State) (d n x : Nat) (q : Instr × BitVec 32) : Prop := s.fetched q.1 = true →
  Completes q.1 s fun t => s.Ran t d n (s.get .NEWT_NEXT d n + 1) [⟨.DBG_S, d, n * 16 + x⟩] ∧ t.sReg d n x = q.2.toNat

/-! ### MOVR (R124, R125) -/

theorem legalMovr_address (m : Nat) {f : Nat} (hf : f ∈ [1, 2, 3]) (j : Nat) : legalMovr m f (j % 8) = true := by
  have low : j % 8 < 8 := Nat.mod_lt _ (by decide)
  simp only [List.mem_cons, List.not_mem_nil, or_false] at hf
  rcases hf with rfl | rfl | rfl <;> simp [legalMovr, legalAr, low]

theorem legalMovr_modifier (m j : Nat) : legalMovr m 4 (j % 4) = true ∧ legalMovr m 5 (j % 4) = true := by
  have low : j % 4 < 4 := Nat.mod_lt _ (by decide)
  simp [legalMovr, low]

theorem State.pReg_lt {p : Nat} (hc : s.canonical = true) : s.pReg d n p < 2 ^ 8 := by
  unfold State.pReg
  split
  · decide
  · exact State.get_lt_width (f := .DBG_P) hc (by unfold Fld.reset; dsimp only; split <;> decide)

/-- The sources of MOVR: what each reads, that it is a word, and that its encoding is legal. -/
theorem State.movrSrc_of_mem {a sf si v : Nat} (hc : s.canonical = true) (ha : a < 16) (m : Nat)
    (h : (sf, si, v) ∈ [(0, a, s.sReg d n a), (1, a % 8, s.get .DBG_A d (n * 12 + a % 8)), (2, a % 8, s.get .DBG_B d (n * 12 + a % 8)),
      (3, a % 8, s.get .DBG_L d (n * 12 + a % 8)), (4, a % 4, s.mReg d n (a % 4)), (5, a % 4, s.pReg d n (a % 4)), (6, 0, s.fpFlags d n)]) :
    s.movrSrc d n sf si = v ∧ v < 2 ^ 32 ∧ legalMovr m sf si = true := by
  simp only [List.mem_cons, List.not_mem_nil, or_false, Prod.mk.injEq] at h
  rcases h with ⟨rfl, rfl, rfl⟩ | ⟨rfl, rfl, rfl⟩ | ⟨rfl, rfl, rfl⟩ | ⟨rfl, rfl, rfl⟩ | ⟨rfl, rfl, rfl⟩ | ⟨rfl, rfl, rfl⟩ | ⟨rfl, rfl, rfl⟩
  · exact ⟨rfl, State.get_lt (f := .DBG_S) hc rfl, by simp [legalMovr, ha]⟩
  · exact ⟨rfl, State.get_lt (f := .DBG_A) hc rfl, legalMovr_address m (by decide) a⟩
  · exact ⟨rfl, State.get_lt (f := .DBG_B) hc rfl, legalMovr_address m (by decide) a⟩
  · exact ⟨rfl, State.get_lt (f := .DBG_L) hc rfl, legalMovr_address m (by decide) a⟩
  · exact ⟨rfl, State.get_lt (f := .DBG_M) hc rfl, (legalMovr_modifier m a).1⟩
  · exact ⟨rfl, State.pReg_lt hc |>.trans (by decide), (legalMovr_modifier m a).2⟩
  · refine ⟨rfl, ?_, rfl⟩
    have v : s.get .NEWT_FPFLAGS_V d n < 2 ^ 8 := State.get_lt (f := .NEWT_FPFLAGS_V) hc rfl
    have o : s.get .NEWT_FPFLAGS_O d n < 2 ^ 8 := State.get_lt (f := .NEWT_FPFLAGS_O) hc rfl
    have u : s.get .NEWT_FPFLAGS_U d n < 2 ^ 8 := State.get_lt (f := .NEWT_FPFLAGS_U) hc rfl
    unfold State.fpFlags
    omega

/-- A move into a scalar register. -/
theorem completes_movr_s {a sf si v : Nat} (hr : s.Ready d n) (hx : x < 16) (ha : a < 16) (hf : s.fetched (.movr d n true 0 x sf si) = true)
    (h : (sf, si, v) ∈ [(0, a, s.sReg d n a), (1, a % 8, s.get .DBG_A d (n * 12 + a % 8)), (2, a % 8, s.get .DBG_B d (n * 12 + a % 8)),
      (3, a % 8, s.get .DBG_L d (n * 12 + a % 8)), (4, a % 4, s.mReg d n (a % 4)), (5, a % 4, s.pReg d n (a % 4)), (6, 0, s.fpFlags d n)]) :
    Completes (.movr d n true 0 x sf si) s fun t => s.Ran t d n (s.get .NEWT_NEXT d n + 1) [⟨.DBG_S, d, n * 16 + x⟩] ∧
      t.sReg d n x = (BitVec.ofNat 32 v).toNat := by
  obtain ⟨value, -, legal⟩ := State.movrSrc_of_mem hr.1 ha (s.get .NEWT_CFG_LOOPSEL d n) h
  refine completes_toS (v := s.movrSrc d n sf si) hr rfl rfl hf ?_ rfl ?_
  · simp only [State.legalC, legal, Bool.and_true]
    simp [legalMovr, hx]
  · rw [value, BitVec.toNat_ofNat]

/-- A move into an address, base, length, modifier or predicate register. -/
theorem completes_movr_file {f : Fld} {df di j sf si v : Nat} (hr : s.Ready d n) (hv : v < 2 ^ 32) (hsrc : s.movrSrc d n sf si = v)
    (hl : legalMovr (s.get .NEWT_CFG_LOOPSEL d n) df di = true) (hs : legalMovr (s.get .NEWT_CFG_LOOPSEL d n) sf si = true)
    (hf : s.fetched (.movr d n true df di sf si) = true) (hm : f ∈ moveFlds) (hw : f.width = 32)
    (hslot : s.movrDst d n df di v = s.put f d j v) :
    Completes (.movr d n true df di sf si) s fun t => s.Ran t d n (s.get .NEWT_NEXT d n + 1) [⟨f, d, j⟩] ∧ t.get f d j = v := by
  have done := completes_writesC (c := .movr df di sf si) (f := f) (j := j) (v := v) hr rfl rfl hf (by simp only [State.legalC, hl, hs]; rfl)
    (by rw [State.cSlot, State.cMove, hsrc, hslot]; rfl) hr.next_lt hm
  rwa [hw, Nat.mod_eq_of_lt hv] at done

/-- A move into a predicate register; one into p0 writes nothing. -/
theorem completes_movr_p {sf si v : Nat} (hr : s.Ready d n) (hsrc : s.movrSrc d n sf si = v)
    (hs : legalMovr (s.get .NEWT_CFG_LOOPSEL d n) sf si = true) (hf : s.fetched (.movr d n true 5 (x % 4) sf si) = true) :
    Completes (.movr d n true 5 (x % 4) sf si) s fun t => s.Ran t d n (s.get .NEWT_NEXT d n + 1) [⟨.DBG_P, d, n * 4 + x % 4⟩] ∧
      t.get .DBG_P d (n * 4 + x % 4) = if x % 4 = 0 then s.get .DBG_P d (n * 4) else v % 256 := by
  have legal : s.legalC d n (s.get .NEWT_NEXT d n) (s.get .NEWT_NEXT d n + 1) (.movr 5 (x % 4) sf si) = true := by
    simp only [State.legalC, (legalMovr_modifier _ x).2, hs, Bool.and_self]
  have slot : s.cSlot d n (.movr 5 (x % 4) sf si) = (s.setP d n (x % 4) (v % 256), s.get .NEWT_NEXT d n + 1) := by
    rw [State.cSlot, State.cMove, hsrc]
    rfl
  by_cases hp : x % 4 = 0
  · rw [State.setP, if_pos hp] at slot
    obtain ⟨t, next, ran, same⟩ := completes_restC [⟨.DBG_P, d, n * 4 + x % 4⟩] hr rfl rfl hf legal slot
      hr.next_lt (fun c hc => List.mem_singleton.1 hc ▸ (by decide : Fld.DBG_P ∈ moveFlds))
    refine ⟨t, next, ran, ?_⟩
    rw [same .DBG_P (by decide), hp]
    rfl
  · rw [State.setP, if_neg hp] at slot
    obtain ⟨t, next, ran, value⟩ := completes_writesC hr rfl rfl hf legal slot hr.next_lt (by decide)
    refine ⟨t, next, ran, ?_⟩
    rw [value, if_neg hp]
    exact Nat.mod_mod ..

/-- A move into NEWT_FPFLAGS clears the flags whose bits are 1 (R125). -/
theorem completes_movr_flags {sf si v k : Nat} (hr : s.Ready d n) (hk : k < 8) (hsrc : s.movrSrc d n sf si = v)
    (hs : legalMovr (s.get .NEWT_CFG_LOOPSEL d n) sf si = true) (hf : s.fetched (.movr d n true 6 0 sf si) = true) :
    Completes (.movr d n true 6 0 sf si) s fun t => s.Ran t d n (s.get .NEWT_NEXT d n + 1) (flagCells d n) ∧
      (bitAt (t.get .NEWT_FPFLAGS_V d n) k = 1 ↔ bitAt (s.get .NEWT_FPFLAGS_V d n) k = 1 ∧ bitAt v k = 0) ∧
      (bitAt (t.get .NEWT_FPFLAGS_O d n) k = 1 ↔ bitAt (s.get .NEWT_FPFLAGS_O d n) k = 1 ∧ bitAt v (8 + k) = 0) ∧
      (bitAt (t.get .NEWT_FPFLAGS_U d n) k = 1 ↔ bitAt (s.get .NEWT_FPFLAGS_U d n) k = 1 ∧ bitAt v (16 + k) = 0) := by
  have hc : s.canonical = true := hr.1
  have slot : s.cSlot d n (.movr 6 0 sf si) = (s.clearFpFlags d n v, s.get .NEWT_NEXT d n + 1) := by
    rw [State.cSlot, State.cMove, hsrc]
    rfl
  have bit {u : State} {f : Fld} {lo : Nat} (hw : f.width = 8) (hz : f.reset d n = 0)
      (hu : u.get f d n = (s.get f d n - (s.get f d n &&& bitsAt v lo 8)) % 2 ^ f.width) :
      bitAt (u.get f d n) k = 1 ↔ bitAt (s.get f d n) k = 1 ∧ bitAt v (lo + k) = 0 := by
    have byte : s.get f d n < 2 ^ 8 := hw ▸ State.get_lt hc hz
    rw [hu, hw, Nat.mod_eq_of_lt (lt_of_le_of_lt (Nat.sub_le ..) byte), bitAt_eq_one_iff, testBit_sub_and byte _ _ hk, testBit_bitsAt]
    simp [hk, bitAt_eq_one_iff, bitAt_eq_zero_iff]
  refine completes_moveC hr rfl rfl hf ?_ (by rw [slot]) hr.next_lt ?_ (l := flagCells d n) ?_ fun t ran same => ⟨ran, ?_, ?_, ?_⟩
  · simp only [State.legalC, hs, Bool.and_true]
    rfl
  · rw [slot]
    exact ((State.Within.refl.put (.head _)).put (.tail _ (.head _))).put (.tail _ (.tail _ (.head _)))
  · intro c hc
    have mem := fld_of_mem_flagCells hc
    revert mem
    generalize c.fld = f
    revert f
    decide
  · simpa using bit (lo := 0) (f := .NEWT_FPFLAGS_V) rfl rfl (by
      rw [same _ (by decide), slot]
      simp [State.clearFpFlags, State.get_put, bitsAt])
  · exact bit (lo := 8) rfl rfl (by
      rw [same _ (by decide), slot]
      simp [State.clearFpFlags, State.get_put, bitsAt])
  · exact bit (lo := 16) rfl rfl (by
      rw [same _ (by decide), slot]
      simp [State.clearFpFlags, bitsAt])

end

end Sys2Proof.Machine
end

section
/-! PROOF. -/

open Sys2Proof Sys2Proof.Machine

/-- Settles O18: the SALU group by `SaluFn.eval_toNat`, each move by the cell that it writes (`completes_writesC`), the sources of MOVR by
`State.movrSrc_of_mem`. -/
theorem scalarMoves : Obligations.ScalarMoves := by
  unfold Obligations.ScalarMoves
  intro s d n x a b imm k _ _ hx ha hb himm hk hr A B next
  have canonical : s.canonical = true := hr.1
  have scalar (q : Nat) : (BitVec.ofNat 32 (s.sReg d n q)).toNat = s.sReg d n q :=
    Nat.mod_eq_of_lt (State.get_lt (f := .DBG_S) canonical rfl)
  have salu (fn : SaluFn) : SaluFn.eval fn (s.sReg d n a) (s.sReg d n b) % 2 ^ 32 = (SaluFn.vec fn A B).toNat := by
    rw [← SaluFn.eval_toNat, scalar, scalar]
  refine ⟨?_, fun hf => ?_, fun hf => ?_, ?_⟩
  · refine fun i v hm => (List.forall_iff_forall_mem (p := s.MovesTo d n x)).1 ?_ (i, v) hm
    dsimp only [List.Forall]
    refine ⟨fun hf => completes_toS hr rfl rfl hf rfl rfl (salu .add),
      fun hf => completes_toS hr rfl rfl hf rfl rfl (salu .sub),
      fun hf => completes_toS hr rfl rfl hf rfl rfl (salu .and),
      fun hf => completes_toS hr rfl rfl hf rfl rfl (salu .or),
      fun hf => completes_toS hr rfl rfl hf rfl rfl (salu .xor),
      fun hf => completes_toS hr rfl rfl hf rfl rfl (salu .shl),
      fun hf => completes_toS hr rfl rfl hf rfl rfl (salu .shr),
      fun hf => completes_toS hr rfl rfl hf rfl rfl (salu .sra),
      fun hf => completes_toS hr rfl rfl hf rfl rfl (salu .mul),
      fun hf => completes_toS hr rfl rfl hf rfl rfl (salu .min),
      fun hf => completes_toS hr rfl rfl hf rfl rfl (salu .max),
      fun hf => completes_toS hr rfl rfl hf rfl rfl (salu .slt),
      fun hf => completes_toS hr rfl rfl hf rfl rfl (salu .sltu),
      fun hf => completes_toS hr rfl rfl hf rfl rfl (by rw [← unsigned_add_signed, scalar]),
      fun hf => completes_toS hr rfl rfl hf rfl rfl (BitVec.toNat_ofNat ..).symm,
      fun hf => completes_toS hr rfl rfl hf rfl rfl (BitVec.toNat_ofNat ..).symm,
      fun hf => completes_toS hr rfl rfl hf rfl rfl (BitVec.toNat_ofNat ..).symm,
      fun hf => completes_movr_s hr hx ha hf (.head _),
      fun hf => completes_movr_s hr hx ha hf (.tail _ (.tail _ (.head _))),
      fun hf => completes_movr_s hr hx ha hf (.tail _ (.tail _ (.tail _ (.head _)))),
      fun hf => completes_movr_s hr hx ha hf (.tail _ (.tail _ (.tail _ (.tail _ (.head _))))),
      fun hf => completes_movr_s hr hx ha hf (.tail _ (.head _)),
      fun hf => completes_movr_s hr hx ha hf (.tail _ (.tail _ (.tail _ (.tail _ (.tail _ (.head _)))))),
      fun hf => completes_movr_s hr hx ha hf (.tail _ (.tail _ (.tail _ (.tail _ (.tail _ (.tail _ (.head _)))))))⟩
  · obtain ⟨t, done, ran, -⟩ := completes_restC [] hr rfl rfl hf rfl rfl hr.next_lt (List.forall_mem_nil _)
    exact ⟨t, done, ran⟩
  · have word : s.sReg d n a < 2 ^ 32 := State.get_lt (f := .DBG_S) canonical rfl
    obtain ⟨t, done, ran, value⟩ := completes_writesC (f := .DBG_V) (j := n * 256 + x * 8 + k) (v := s.sReg d n a) hr rfl rfl hf rfl rfl
      hr.next_lt (by decide)
    exact ⟨t, done, ran, value.trans (Nat.mod_eq_of_lt word)⟩
  · intro sf si v hm
    rw [scalar] at hm
    obtain ⟨value, word, legal⟩ := State.movrSrc_of_mem canonical ha (s.get .NEWT_CFG_LOOPSEL d n) hm
    refine ⟨?_, completes_movr_flags hr hk value legal⟩
    intro df l w hd i hf
    simp only [List.mem_cons, List.not_mem_nil, or_false, Prod.mk.injEq] at hd
    rcases hd with ⟨rfl, rfl, rfl⟩ | ⟨rfl, rfl, rfl⟩ | ⟨rfl, rfl, rfl⟩ | ⟨rfl, rfl, rfl⟩ | ⟨rfl, rfl, rfl⟩
    · exact completes_movr_file hr word value (legalMovr_address _ (by decide) x) legal hf (by decide) rfl rfl
    · exact completes_movr_file hr word value (legalMovr_address _ (by decide) x) legal hf (by decide) rfl rfl
    · exact completes_movr_file hr word value (legalMovr_address _ (by decide) x) legal hf (by decide) rfl rfl
    · exact completes_movr_file hr word value (legalMovr_modifier _ x).1 legal hf (by decide) rfl rfl
    · exact completes_movr_p hr value legal hf
end

section
/-! SUPPORT. The control of a bundle (R126 to R130): branches and the levels they leave, loops, repeats, posts, the end of a task, halts. -/

namespace Sys2Proof.Machine

/-! ### Levels (R127, R128) -/

section
variable {s t u : State} {d n x k m tgt : Nat} {l : List Loc}

theorem mem_levelCells {i : Nat} {f : Fld} (hk : k ≤ i) (hm : i < m) (hf : f ∈ [Fld.DBG_A, .DBG_B, .DBG_L]) :
    ⟨f, d, levelIx n i⟩ ∈ levelCells d n k m := by
  refine List.mem_cons_of_mem _ (List.mem_flatMap.2 ⟨i, List.mem_filter.2 ⟨List.mem_range.2 hm, by simpa using hk⟩, ?_⟩)
  exact List.mem_map_of_mem (f := fun f : Fld => (⟨f, d, levelIx n i⟩ : Loc)) hf

theorem fld_of_mem_levelCells {c : Loc} (h : c ∈ levelCells d n k m) : c.fld ∈ moveFlds := by
  rcases List.mem_cons.1 h with rfl | h
  · exact (by decide : Fld.NEWT_STATUS_LOOPDEPTH ∈ moveFlds)
  · obtain ⟨i, -, hc⟩ := List.mem_flatMap.1 h
    exact (by decide : [Fld.DBG_A, .DBG_B, .DBG_L] ⊆ moveFlds) (List.mem_map_of_mem (f := Loc.fld) hc)

theorem State.loopDepth_lt (hc : s.canonical = true) : s.loopDepth d n < 8 := State.get_lt (f := .NEWT_STATUS_LOOPDEPTH) hc rfl

theorem State.Within.popLevel (h : s.Within t (levelCells d n k m)) (hk : k < t.loopDepth d n) (hm : t.loopDepth d n ≤ m) :
    s.Within (t.popLevel d n) (levelCells d n k m) := by
  have cell {f : Fld} (hf : f ∈ [Fld.DBG_A, .DBG_B, .DBG_L]) : ⟨f, d, levelIx n (t.loopDepth d n - 1)⟩ ∈ levelCells d n k m :=
    mem_levelCells (by omega) (by omega) hf
  exact (((h.put (cell (by decide))).put (cell (by decide))).put (cell (by decide))).put List.mem_cons_self

theorem State.loopDepth_popLevel (h : t.loopDepth d n ≤ 8) : (t.popLevel d n).loopDepth d n = t.loopDepth d n - 1 := by
  rw [State.loopDepth, State.popLevel, State.get_put_same]
  exact Nat.mod_eq_of_lt (show t.loopDepth d n - 1 < 8 by omega)

/-- The levels below the innermost stay. -/
theorem State.level_popLevel {i : Nat} (h : i < t.loopDepth d n - 1) :
    (t.popLevel d n).levelStart d n i = t.levelStart d n i ∧ (t.popLevel d n).levelEnd d n i = t.levelEnd d n i := by
  have other {g f : Fld} : ¬ (f = g ∧ d = d ∧ levelIx n i = levelIx n (t.loopDepth d n - 1)) := by
    unfold levelIx
    omega
  have cell {f : Fld} (hf : f ≠ .NEWT_STATUS_LOOPDEPTH) : (t.popLevel d n).get f d (levelIx n i) = t.get f d (levelIx n i) := by
    unfold State.popLevel
    rw [State.get_put_fld _ hf, State.get_put_ne _ other, State.get_put_ne _ other, State.get_put_ne _ other]
  exact ⟨congrArg (· / 4) (cell (by decide)), congrArg (· / 4) (cell (by decide))⟩

/-- A taken branch leaves the levels from the innermost outward to the first whose body holds its target. -/
theorem State.popOutside_within {fuel : Nat} (hs : s.Within t (levelCells d n k m)) (hm : t.loopDepth d n ≤ m) (h8 : m < 8)
    (hk : k ≤ t.loopDepth d n) (hfuel : t.loopDepth d n - k ≤ fuel)
    (stop : k = 0 ∨ (t.levelStart d n (k - 1) ≤ tgt ∧ tgt ≤ t.levelEnd d n (k - 1)))
    (leave : ∀ i, k ≤ i → i < t.loopDepth d n → ¬ (t.levelStart d n i ≤ tgt ∧ tgt ≤ t.levelEnd d n i)) :
    (t.popOutside d n tgt fuel).loopDepth d n = k ∧ s.Within (t.popOutside d n tgt fuel) (levelCells d n k m) := by
  induction fuel generalizing t with
  | zero => exact ⟨by rw [State.popOutside]; omega, hs⟩
  | succ fuel ih =>
    rw [State.popOutside]
    by_cases here : t.loopDepth d n = k
    · rw [if_pos]
      · exact ⟨here, hs⟩
      · rwa [here]
    · have inner : k < t.loopDepth d n := by omega
      have depth := State.loopDepth_popLevel (t := t) (d := d) (n := n) (by omega)
      rw [if_neg]
      · refine ih (hs.popLevel inner hm) (by omega) (by omega) (by omega) ?_ fun i hi hlt => ?_
        · rcases stop with zero | holds
          · exact .inl zero
          · by_cases zero : k = 0
            · exact .inl zero
            · rw [(State.level_popLevel (by omega)).1, (State.level_popLevel (by omega)).2]
              exact .inr holds
        · obtain ⟨first, last⟩ := State.level_popLevel (t := t) (d := d) (n := n) (i := i) (by omega)
          rw [first, last]
          exact leave i hi (by omega)
      · rintro (none | inside)
        · omega
        · exact leave _ (by omega) (by omega) inside

/-! ### Branches (R126) -/

variable {c : CIns} {i : Instr}

/-- A taken branch (R126, R128). -/
theorem completes_branch (hr : s.Ready d n) (hi : newtInstr i = some ⟨d, n, true, .c c⟩) (hx : exec i s = .next (s.issueC d n true c))
    (hf : s.fetched i = true) (hl : s.legalC d n (s.get .NEWT_NEXT d n) (s.get .NEWT_NEXT d n + 1) c = true)
    (hslot : s.cSlot d n c = (s.popOutside d n tgt 4, tgt)) (htgt : tgt < 8192) (hk : k ≤ s.loopDepth d n) (hm : s.loopDepth d n ≤ 4)
    (stop : k = 0 ∨ (s.levelStart d n (k - 1) ≤ tgt ∧ tgt ≤ s.levelEnd d n (k - 1)))
    (leave : ∀ i, k ≤ i → i < s.loopDepth d n → ¬ (s.levelStart d n i ≤ tgt ∧ tgt ≤ s.levelEnd d n i)) :
    Completes i s fun t => t.loopDepth d n = k ∧ s.Ran t d n tgt (levelCells d n k (s.loopDepth d n)) := by
  obtain ⟨depth, within⟩ := State.popOutside_within (fuel := 4) State.Within.refl le_rfl (by omega) hk (by omega) stop leave
  refine completes_moveC hr hi hx hf hl (by rw [hslot]) htgt (by rw [hslot]; exact within) (fun c hc => fld_of_mem_levelCells hc)
    fun t ran same => ⟨?_, ran⟩
  rw [State.loopDepth, same _ (by decide), hslot]
  exact depth

/-- The condition of BRC. -/
theorem State.brcTaken_iff {cond a : Nat} {holds : Prop} (hc : s.canonical = true) (ha : 6 ≤ cond → a < 4)
    (h : (cond, holds) ∈ [(0, (BitVec.ofNat 32 (s.sReg d n a)).toInt = 0), (1, (BitVec.ofNat 32 (s.sReg d n a)).toInt ≠ 0),
      (2, (BitVec.ofNat 32 (s.sReg d n a)).toInt < 0), (3, 0 ≤ (BitVec.ofNat 32 (s.sReg d n a)).toInt),
      (4, 0 < (BitVec.ofNat 32 (s.sReg d n a)).toInt), (5, (BitVec.ofNat 32 (s.sReg d n a)).toInt ≤ 0),
      (6, a < 4 ∧ s.pReg d n a ≠ 0), (7, a < 4 ∧ s.pReg d n a = 255)]) : s.brcTaken d n cond a = true ↔ holds := by
  have word : (BitVec.ofNat 32 (s.sReg d n a)).toNat = s.sReg d n a := Nat.mod_eq_of_lt (State.get_lt (f := .DBG_S) hc rfl)
  rw [← signed_toNat (by decide), word] at h
  refine (List.forall_iff_forall_mem (p := fun q : Nat × Prop => (6 ≤ q.1 → a < 4) → (s.brcTaken d n q.1 a = true ↔ q.2))).1 ?_
    (cond, holds) h ha
  dsimp only [List.Forall]
  refine ⟨fun _ => beq_iff_eq, fun _ => bne_iff_ne, fun _ => decide_eq_true_iff, fun _ => decide_eq_true_iff, fun _ => decide_eq_true_iff,
    fun _ => decide_eq_true_iff, fun small => ?_, fun small => ?_⟩
  · exact bne_iff_ne.trans (by rw [Nat.mod_eq_of_lt (small le_rfl), and_iff_right (small le_rfl)])
  · exact beq_iff_eq.trans (by rw [Nat.mod_eq_of_lt (small (by decide)), and_iff_right (small (by decide))])

theorem State.brc_legal {cond a : Nat} {pc next : Nat} (h : 6 ≤ cond → a < 4) : s.legalC d n pc next (.brc cond a tgt) = true := by
  simp only [State.legalC, Bool.or_eq_true, decide_eq_true_eq]
  omega

/-! ### Loops (R127, R128) -/

/-- A level pushed. -/
theorem State.pushLevel_within {start stop count : Nat} :
    s.Within (s.pushLevel d n start stop count) (levelCells d n (s.loopDepth d n) (s.loopDepth d n + 1)) := by
  have cell {f : Fld} (hf : f ∈ [Fld.DBG_A, .DBG_B, .DBG_L]) :
      ⟨f, d, levelIx n (s.loopDepth d n)⟩ ∈ levelCells d n (s.loopDepth d n) (s.loopDepth d n + 1) :=
    mem_levelCells le_rfl (Nat.lt_succ_self _) hf
  exact (((State.Within.refl.put (cell (by decide))).put (cell (by decide))).put (cell (by decide))).put List.mem_cons_self

/-- LOOP with a count (R127). -/
theorem completes_loop {byReg : Bool} (hr : s.Ready d n) (hcount : s.countOf d n byReg x ≠ 0) (hx : byReg = true → x < 16)
    (hsel : s.get .NEWT_CFG_LOOPSEL d n = 0) (hdepth : s.loopDepth d n < 4) (hpc : s.get .NEWT_NEXT d n < tgt) (htgt : tgt < 8192)
    (hword : s.countOf d n byReg x < 2 ^ 32) (hf : s.fetched (.loopTop d n true byReg x tgt) = true) :
    Completes (.loopTop d n true byReg x tgt) s fun t =>
      s.Ran t d n (s.get .NEWT_NEXT d n + 1) (levelCells d n (s.loopDepth d n) (s.loopDepth d n + 1)) ∧
      t.loopDepth d n = s.loopDepth d n + 1 ∧ t.levelStart d n (s.loopDepth d n) = s.get .NEWT_NEXT d n + 1 ∧
      t.levelEnd d n (s.loopDepth d n) = tgt ∧ t.levelCount d n (s.loopDepth d n) = s.countOf d n byReg x := by
  have slot : s.cSlot d n (.loopTop byReg x tgt) =
      (s.pushLevel d n (s.get .NEWT_NEXT d n + 1) tgt (s.countOf d n byReg x), s.get .NEWT_NEXT d n + 1) := if_neg hcount
  have next := hr.next_lt
  refine completes_moveC hr rfl rfl hf ?_ (by rw [slot]) next (by rw [slot]; exact State.pushLevel_within)
    (fun c hc => fld_of_mem_levelCells hc) fun t ran same => ⟨ran, ?_, ?_, ?_, ?_⟩
  · cases byReg
    · simp only [State.legalC, hsel, hdepth, Nat.succ_le_of_lt hpc, decide_true]
      rfl
    · simp only [State.legalC, hsel, hdepth, Nat.succ_le_of_lt hpc, hx rfl, decide_true]
      rfl
  · rw [State.loopDepth, same _ (by decide), slot, State.pushLevel, State.get_put_same]
    exact Nat.mod_eq_of_lt (show s.loopDepth d n + 1 < 2 ^ 3 by omega)
  · rw [State.levelStart, same _ (by decide), slot]
    have fits : (s.get .NEWT_NEXT d n + 1) * 4 < 2 ^ 32 := by omega
    rw [State.pushLevel, State.get_put_fld _ (by decide), State.get_put_fld _ (by decide), State.get_put_fld _ (by decide), State.get_put_same]
    exact (congrArg (· / 4) (Nat.mod_eq_of_lt fits)).trans (Nat.mul_div_cancel _ (by decide))
  · rw [State.levelEnd, same _ (by decide), slot]
    have fits : tgt * 4 < 2 ^ 32 := by omega
    rw [State.pushLevel, State.get_put_fld _ (by decide), State.get_put_fld _ (by decide), State.get_put_same]
    exact (congrArg (· / 4) (Nat.mod_eq_of_lt fits)).trans (Nat.mul_div_cancel _ (by decide))
  · rw [State.levelCount, same _ (by decide), slot]
    rw [State.pushLevel, State.get_put_fld _ (by decide), State.get_put_same]
    exact Nat.mod_eq_of_lt hword

/-- LOOP with the count 0 in a register goes on past the bundle at its target (R127). -/
theorem completes_loop_none {a : Nat} (hr : s.Ready d n) (ha : a < 16) (hzero : s.sReg d n a = 0) (hsel : s.get .NEWT_CFG_LOOPSEL d n = 0)
    (hdepth : s.loopDepth d n < 4) (hpc : s.get .NEWT_NEXT d n < tgt) (hlen : tgt + s.bundleLen d n tgt < 8192)
    (hf : s.fetched (.loopTop d n true true a tgt) = true) :
    Completes (.loopTop d n true true a tgt) s fun t => s.Ran t d n (tgt + s.bundleLen d n tgt) [] := by
  have slot : s.cSlot d n (.loopTop true a tgt) = (s, tgt + s.bundleLen d n tgt) := if_pos hzero
  obtain ⟨t, done, ran, -⟩ := completes_restC [] hr rfl rfl hf (by simp [State.legalC, hsel, hdepth, ha, Nat.succ_le_of_lt hpc]) slot hlen (List.forall_mem_nil _)
  exact ⟨t, done, ran⟩

/-- ENDL at the end of the innermost level is legal (R131). -/
theorem State.endl_legal (hsel : s.get .NEWT_CFG_LOOPSEL d n = 0) (hdepth : s.loopDepth d n = k + 1)
    (hend : s.levelEnd d n k = s.get .NEWT_NEXT d n) (next : Nat) : s.legalC d n (s.get .NEWT_NEXT d n) next .endl = true := by
  simp [State.legalC, hsel, hdepth, hend]

/-- ENDL goes back while the count exceeds 1 (R128). -/
theorem completes_endl_again (hr : s.Ready d n) (hsel : s.get .NEWT_CFG_LOOPSEL d n = 0) (hdepth : s.loopDepth d n = k + 1)
    (hend : s.levelEnd d n k = s.get .NEWT_NEXT d n) (hf : s.fetched (.endl d n true) = true) (hcount : 1 < s.levelCount d n k)
    (hstart : s.levelStart d n k < 8192) :
    Completes (.endl d n true) s fun t => s.Ran t d n (s.levelStart d n k) [⟨.DBG_L, d, levelIx n k⟩] ∧
      t.levelCount d n k = s.levelCount d n k - 1 := by
  have slot : s.cSlot d n .endl = (s.put .DBG_L d (levelIx n k) (s.levelCount d n k - 1), s.levelStart d n k) := by
    simp only [State.cSlot, State.cMove, State.control, hdepth, Nat.add_sub_cancel, if_pos hcount]
    rfl
  have word : s.levelCount d n k < 2 ^ 32 := State.get_lt (f := .DBG_L) hr.1 rfl
  obtain ⟨t, done, ran, value⟩ := completes_writesC hr rfl rfl hf (State.endl_legal hsel hdepth hend _) slot hstart (by decide)
  exact ⟨t, done, ran, value.trans (Nat.mod_eq_of_lt (lt_of_le_of_lt (Nat.sub_le ..) word))⟩

/-- ENDL pops the level after its last pass (R128). -/
theorem completes_endl_last (hr : s.Ready d n) (hsel : s.get .NEWT_CFG_LOOPSEL d n = 0) (hdepth : s.loopDepth d n = k + 1)
    (hend : s.levelEnd d n k = s.get .NEWT_NEXT d n) (hf : s.fetched (.endl d n true) = true) (hcount : s.levelCount d n k ≤ 1) :
    Completes (.endl d n true) s fun t => s.Ran t d n (s.get .NEWT_NEXT d n + 1) (levelCells d n k (s.loopDepth d n)) ∧
      t.loopDepth d n = k := by
  have slot : s.cSlot d n .endl = (s.popLevel d n, s.get .NEWT_NEXT d n + 1) := by
    simp only [State.cSlot, State.cMove, State.control, hdepth, Nat.add_sub_cancel, if_neg (not_lt.2 hcount)]
  have bound := State.loopDepth_lt (d := d) (n := n) hr.1
  refine completes_moveC hr rfl rfl hf (State.endl_legal hsel hdepth hend _) (by rw [slot]) hr.next_lt
    (by rw [slot]; exact State.Within.refl.popLevel (by omega) le_rfl) (fun c hc => fld_of_mem_levelCells hc) fun t ran same => ⟨ran, ?_⟩
  rw [State.loopDepth, same _ (by decide), slot]
  exact (State.loopDepth_popLevel (by omega)).trans (by omega)

/-! ### Repeats (R129) -/

/-- REPT with a count makes the next bundle repeat. -/
theorem completes_rept {count : Nat} {rs : Bool} {a q : Nat} (hr : s.Ready d n) (hzero : (if rs then q else a) = 0)
    (hcount : s.countOf d n rs (if rs then a else q) = count) (hne : count ≠ 0) (hle : count ≤ 65536)
    (hlegal : s.repeatsLegal d n (s.get .NEWT_NEXT d n + 1) = true) (hf : s.fetched (.rept d n true rs a q) = true) :
    Completes (.rept d n true rs a q) s fun t =>
      s.Ran t d n (s.get .NEWT_NEXT d n + 1) [⟨.NEWT_REPT, d, n⟩, ⟨.NEWT_STATUS_INREPT, d, n⟩] ∧ t.get .NEWT_REPT d n = count ∧
      t.get .NEWT_STATUS_INREPT d n = 1 := by
  have slot : s.cSlot d n (.rept rs a q) =
      ((s.put .NEWT_REPT d n count).put .NEWT_STATUS_INREPT d n 1, s.get .NEWT_NEXT d n + 1) := by
    simp only [State.cSlot, State.cMove, State.control, hcount, if_neg hne]
  have width : count < 2 ^ 17 := by omega
  refine completes_issueC hr rfl rfl hf ?_ (fun f hf => ?_) (by rw [slot]; exact hr.next_lt) ?_ fun t issued ends => ?_
  · simp only [State.legalC, hzero, hlegal, hcount, hle]
    rfl
  · rw [slot, State.get_put_fld _ (by rintro rfl; simp at hf), State.get_put_fld _ (by rintro rfl; simp at hf)]
  · rw [slot]
    exact .inr (.inl (State.get_put_same ..))
  · rw [slot] at issued ends
    refine ⟨⟨issued, State.Within.thenBoards ((State.Within.refl.put (.head _)).put (.tail _ (.head _))) ends⟩, ?_, ?_⟩
    · rw [ends.get (notMem_of_fld rfl), State.get_put_fld _ (by decide), State.get_put_same]
      exact Nat.mod_eq_of_lt width
    · rw [ends.get (notMem_of_fld rfl), State.get_put_same]
      rfl

/-- REPT with the count 0 in a register skips the next bundle. -/
theorem completes_rept_none {a : Nat} (hr : s.Ready d n) (hzero : s.sReg d n a = 0)
    (hlen : s.get .NEWT_NEXT d n + 1 + s.bundleLen d n (s.get .NEWT_NEXT d n + 1) < 8192)
    (hlegal : s.repeatsLegal d n (s.get .NEWT_NEXT d n + 1) = true) (hf : s.fetched (.rept d n true true a 0) = true) :
    Completes (.rept d n true true a 0) s fun t =>
      s.Ran t d n (s.get .NEWT_NEXT d n + 1 + s.bundleLen d n (s.get .NEWT_NEXT d n + 1)) [] := by
  have slot : s.cSlot d n (.rept true a 0) =
      (s, s.get .NEWT_NEXT d n + 1 + s.bundleLen d n (s.get .NEWT_NEXT d n + 1)) := if_pos hzero
  obtain ⟨t, done, ran, -⟩ := completes_restC [] hr rfl rfl hf (by simp [State.legalC, hlegal, State.countOf, hzero]) slot hlen (List.forall_mem_nil _)
  exact ⟨t, done, ran⟩

/-! ### Posts (R130) -/

theorem State.WithinBoards.sent (h : u.WithinBoards t l) : t.sent = u.sent := (congrArg State.sent h.2 :)

theorem State.WithinBoards.mem_eq (h : u.WithinBoards t l) : t.mem = u.mem := (congrArg State.mem h.2 :)

/-- Messages sent before the bundle's end. -/
theorem State.Within.thenBoardsSent {m : List Loc} (h : s.Within { u with sent := s.sent } l) (ht : u.WithinBoards t m) :
    s.Within { t with boards := s.boards, sent := s.sent } (l ++ m) :=
  h.thenBoards (t := { t with sent := s.sent }) ⟨ht.1, congrArg (fun w : State => { w with sent := s.sent }) ht.2⟩

theorem State.granted_within (s : State) (r : FabReq) : s.Within (s.granted r) (s.fabCells r) :=
  State.when_keeps (P := fun t => s.Within t (s.fabCells r)) s State.Within.refl <|
    State.Within.refl.each fun q hq _ k => k.put (List.mem_append_left _ (List.mem_map.2 ⟨q, hq, rfl⟩))

/-- A post that a tongue takes is on its way, the request granted (R130). -/
theorem State.post_own {p die c k flags dom : Nat} (hdie : die < 6) (hc : c < 4) (hk : k < 256) (hup : s.routeUp d die = true)
    (hclk : s.dieClocked die = true) (hperm : s.permits die (s.masterClass d p) 5 true = true) :
    s.post d p (15 * 2 ^ 14 + die * 2 ^ 10 + c * 2 ^ 8 + k) flags dom 0 =
      (s.granted (s.postReq d p 15 die c k flags)).send (.post d p die c k (flags % 2 ^ 31) dom 0) := by
  have unit : bitsAt (15 * 2 ^ 14 + die * 2 ^ 10 + c * 2 ^ 8 + k) 14 4 = 15 :=
    bitsAt_packed (hi := 0) (low := die * 2 ^ 10 + c * 2 ^ 8 + k) (by omega) (by omega) (by decide)
  have target : bitsAt (15 * 2 ^ 14 + die * 2 ^ 10 + c * 2 ^ 8 + k) 10 4 = die :=
    bitsAt_packed (hi := 15) (low := c * 2 ^ 8 + k) (by omega) (by omega) (by omega)
  have clutch : bitsAt (15 * 2 ^ 14 + die * 2 ^ 10 + c * 2 ^ 8 + k) 8 2 = c :=
    bitsAt_packed (hi := 15 * 2 ^ 4 + die) (low := k) (by omega) hk hc
  have slot : bitsAt (15 * 2 ^ 14 + die * 2 ^ 10 + c * 2 ^ 8 + k) 0 8 = k :=
    bitsAt_packed (hi := 15 * 2 ^ 6 + die * 2 ^ 2 + c) (low := 0) (by omega) (by decide) hk
  have same := s.granted_sameBut (s.postReq d p 15 die c k flags)
  unfold State.post
  dsimp only
  rw [unit, target, clutch, slot]
  generalize hu : s.granted (s.postReq d p 15 die c k flags) = u at *
  have reqDie : (s.postReq d p 15 die c k flags).tdie = die := rfl
  have reqUnit : (s.postReq d p 15 die c k flags).unit = 15 := rfl
  have reqClass : (s.postReq d p 15 die c k flags).cls = s.masterClass d p := rfl
  have own : u.ownUnit 15 = true := rfl
  rw [reqDie, reqUnit, reqClass, if_neg (by omega), if_neg (by rw [own]; decide), same.routeUp, same.dieClocked, same.permits, hup, hclk, hperm,
    if_neg (by decide), if_neg (by omega), if_neg (by decide)]
  rfl

theorem State.postReq_mod (p unit die c k flags : Nat) : s.postReq d p unit die c k (flags % 2 ^ 31) = s.postReq d p unit die c k flags := by
  unfold State.postReq
  rw [Nat.mod_mod]

/-- SIG with flags, to a slot that a tongue serves (R130). -/
theorem completes_sig {a b die c k : Nat} (hr : s.Ready d n) (hdie : die < 6) (hc : c < 4) (hk : k < 256)
    (ha : s.sReg d n a = 15 * 2 ^ 14 + die * 2 ^ 10 + c * 2 ^ 8 + k) (hb : s.sReg d n b % 2 ^ 31 ≠ 0) (hup : s.routeUp d die = true)
    (hclk : s.dieClocked die = true) (hperm : s.permits die (s.masterClass d (n / 8)) 5 true = true)
    (hf : s.fetched (.sig d n true a b) = true) : Completes (.sig d n true a b) s fun t => s.Issued t d n (s.get .NEWT_NEXT d n + 1) ∧
      t.sent = s.sent ++ [.post d (n / 8) die c k (s.sReg d n b % 2 ^ 31) (s.get .NEWT_TASK_DOMAIN d n) 0] ∧
      s.Within { t with boards := s.boards, sent := s.sent }
        (s.fabCells (s.postReq d (n / 8) 15 die c k (s.sReg d n b)) ++ issueCells d n) := by
  have within := s.granted_within (s.postReq d (n / 8) 15 die c k (s.sReg d n b))
  have way := s.granted_sameBut_way (s.postReq d (n / 8) 15 die c k (s.sReg d n b))
  have slot : s.cSlot d n (.sig a b) = ((s.granted (s.postReq d (n / 8) 15 die c k (s.sReg d n b))).send
      (.post d (n / 8) die c k (s.sReg d n b % 2 ^ 31) (s.get .NEWT_TASK_DOMAIN d n) 0), s.get .NEWT_NEXT d n + 1) := by
    simp only [State.cSlot, State.cMove, State.control]
    rw [State.when_true _ hb, ha, State.post_own hdie hc hk hup hclk hperm, State.postReq_mod, Nat.mod_mod]
  generalize s.granted (s.postReq d (n / 8) 15 die c k (s.sReg d n b)) = u at *
  have messages : u.sent = s.sent := (congrArg State.sent within.2 :)
  refine completes_issueC hr rfl rfl hf rfl (fun f hf => ?_) (by rw [slot]; exact hr.next_lt) ?_ fun t issued ends => ?_
  · rw [slot]
    exact way f d n (by revert f; decide)
  · rw [slot]
    exact hr.endsPlainly.congr fun f hf => way f d n (by revert f; decide)
  · rw [slot] at issued ends
    refine ⟨issued, ?_, State.Within.thenBoardsSent ?_ ends⟩
    · rw [ends.sent, State.send, messages]
    · exact (congrArg (fun m => s.Within { u with sent := m } _) messages).mp within

/-! ### The end of a task, and halts (R91, R93, R95) -/

/-- DONE (R91). -/
theorem completes_done (hr : s.Ready d n) (hf : s.fetched (.done d n true) = true) : Completes (.done d n true) s fun t =>
    t.newtIs d n newtDraining = true ∧ s.Ran t d n (s.get .NEWT_NEXT d n + 1)
      [⟨.NEWT_STATUS_STATE, d, n⟩, ⟨.NEWT_STATUS_CFGLOCK, d, n⟩, ⟨.NEWT_DONET, d, n⟩, ⟨.NEWT_STEP, d, n⟩] := by
  have drains : (s.newtDrains d n).get .NEWT_STATUS_STATE d n = newtDraining := by
    unfold State.newtDrains State.newtGo
    rw [State.get_put_fld _ (by decide), State.get_put_fld _ (by decide), State.get_put_fld _ (by decide), State.get_put_same]
    rfl
  have slot : s.cSlot d n .done = (s.newtDrains d n, s.get .NEWT_NEXT d n + 1) := rfl
  have drained : s.Within (s.newtDrains d n) [⟨.NEWT_STATUS_STATE, d, n⟩, ⟨.NEWT_STATUS_CFGLOCK, d, n⟩, ⟨.NEWT_DONET, d, n⟩, ⟨.NEWT_STEP, d, n⟩] :=
    (((State.Within.refl.put (.head _)).put (.tail _ (.head _))).put (.tail _ (.tail _ (.head _)))).put (.tail _ (.tail _ (.tail _ (.head _))))
  refine completes_issueC hr rfl rfl hf rfl (fun f hf => ?_) hr.next_lt (.inl ?_) fun t issued ends => ⟨?_, issued, ?_⟩
  · exact drained.1 ⟨f, d, n⟩ (notMem_of_flds rfl hf d n)
  · rw [slot, State.newtIs, drains]
    rfl
  · rw [State.newtIs, ends.get (notMem_of_fld rfl), slot, drains]
    rfl
  · exact State.Within.thenBoards drained ends

/-- The slot of a HALT (R93, R95). -/
theorem State.cSlot_halt (s : State) (d n : Nat) : s.cSlot d n .halt =
    (if s.dbgEn d n then s.put .NEWT_STATUS_HALT_PEND d n 1
      else (s.put .NEWT_STATUS_HALT_IGN d n 1).newtRaise d n [⟨.NEWT_HALT_IGN, s.newtSlot d n⟩], s.get .NEWT_NEXT d n + 1) := rfl

/-- HALT without DBGEN is ignored, and reported (R95). -/
theorem completes_halt_ignored (hr : s.Ready d n) (hen : s.dbgEn d n = false) (hf : s.fetched (.halt d n true) = true) :
    Completes (.halt d n true) s fun t => s.Issued t d n (s.get .NEWT_NEXT d n + 1) ∧ t.newtIs d n newtRun = true ∧
      t.get .NEWT_STATUS_HALT_IGN d n = 1 ∧ t.Raised .NEWT_HALT_IGN d n ∧ s.SameMem t := by
  obtain ⟨-, -, hrun, -, hrept, -⟩ := id hr
  have slot : s.cSlot d n .halt =
      ((s.put .NEWT_STATUS_HALT_IGN d n 1).raises d n [⟨.NEWT_HALT_IGN, s.newtSlot d n⟩], s.get .NEWT_NEXT d n + 1) := by
    rw [State.cSlot_halt, if_neg (by rw [hen]; decide), State.newtRaise, if_neg (by simp), if_neg (by rw [State.get_put_fld _ (by decide), hrept]; decide)]
  have raised := State.raises_raised (s.put .NEWT_STATUS_HALT_IGN d n 1) d n (l := [⟨.NEWT_HALT_IGN, s.newtSlot d n⟩])
    (List.mem_singleton.2 rfl) (by simp)
  have touches : (s.put .NEWT_STATUS_HALT_IGN d n 1).Touches
      ((s.put .NEWT_STATUS_HALT_IGN d n 1).raises d n [⟨.NEWT_HALT_IGN, s.newtSlot d n⟩]) raiseFlds :=
    State.Touches.refl.raisesAt (List.Subset.refl _)
  generalize (s.put .NEWT_STATUS_HALT_IGN d n 1).raises d n [⟨.NEWT_HALT_IGN, s.newtSlot d n⟩] = u at *
  have kept {f : Fld} (hf : f ∉ raiseFlds) (hne : f ≠ .NEWT_STATUS_HALT_IGN) : u.get f d n = s.get f d n :=
    (touches.get f hf d n).trans (State.get_put_fld _ hne ..)
  refine completes_issueC hr rfl rfl hf rfl (fun f hf => ?_) (by rw [slot]; exact hr.next_lt) ?_ fun t issued ends => ?_
  · rw [slot]
    exact kept (by revert f; decide) (by revert f; decide)
  · rw [slot]
    exact hr.endsPlainly.congr fun f hf => kept (by revert f; decide) (by revert f; decide)
  · rw [slot] at issued ends
    refine ⟨issued, ?_, ?_, ?_, SameMem.of_mem ?_⟩
    · rw [State.newtIs, ends.get (notMem_of_fld rfl), kept (by decide) (by decide)]
      exact hrun
    · rw [ends.get (notMem_of_fld rfl), touches.get _ (by decide), State.get_put_same]
      rfl
    · rw [State.Raised, ends.get (notMem_of_fld rfl)]
      exact raised
    · rw [ends.mem_eq, touches.mem, State.put_mem]

/-- Where a halt is pending and the newt may halt, it halts at the bundle's end (R93). -/
theorem State.bundleEnd_halts (hrun : s.newtIs d n newtRun = true) (hrept : s.get .NEWT_STATUS_INREPT d n = 0)
    (hstep : s.get .NEWT_STEP d n = 0) (hhalt : s.get .NEWT_STATUS_HALT_PEND d n = 1) (hen : s.dbgEn d n = true) (pc next : Nat) :
    s.bundleEnd d n pc next false = (s.moved d n pc next).newtHalts d n := by
  have goes : ¬ (s.newtIs d n newtRun = false ∨ s.on .NEWT_STATUS_INREPT d n = true) := by rw [hrun, State.on, hrept]; decide
  have step : ¬ s.on .NEWT_STEP d n = true := by rw [State.on, hstep]; decide
  rw [State.bundleEnd_moved, State.moved_newtIs, State.moved_on _ _ _ (by decide), State.moved_on _ _ _ (by decide), if_neg goes,
    State.when_false _ step]
  dsimp only
  rw [State.dbgEn, State.moved_on _ _ _ (by decide), State.moved_on _ _ _ (by decide), State.when_true _ ⟨beq_iff_eq.2 hhalt, hen⟩]

theorem State.WithinBoards.newtHalts (h : s.WithinBoards t l) (hb : s.bundleOf d n = none)
    (hl : ∀ f ∈ [Fld.NEWT_STATUS_STATE, .NEWT_STATUS_CFGLOCK, .NEWT_STATUS_HALT_PEND, .NEWT_PC, .NEWT_STEP, .NEWT_HALTT], ⟨f, d, n⟩ ∈ l) :
    s.WithinBoards (t.newtHalts d n) l := by
  have bundles : t.bundles = s.bundles := (congrArg State.bundles h.2 :)
  unfold State.newtHalts
  rw [State.dropBundle_of_none (by simpa [State.bundleOf, State.newtGo, bundles] using hb)]
  exact (((((h.put (hl _ (by decide))).put (hl _ (by decide))).put (hl _ (by decide))).put (hl _ (by decide))).put (hl _ (by decide))).put
    (hl _ (by decide))

/-- The cells of a halt, beside the PC. -/
def haltFlds : List Fld := [.NEWT_STATUS_STATE, .NEWT_STATUS_CFGLOCK, .NEWT_STATUS_HALT_PEND, .NEWT_STEP, .NEWT_HALTT]

def haltCells (d n : Nat) : List Loc := haltFlds.map fun f => ⟨f, d, n⟩

theorem State.newtHalts_movedPc (s : State) (d n pc next : Nat) : ((s.moved d n pc next).newtHalts d n).get .NEWT_PC d n = next % 2 ^ 13 % 2 ^ 13 :=
  (State.get_put_fld _ (by decide) ..).trans <| (State.get_put_fld _ (by decide) ..).trans <| (State.get_put_same ..).trans <|
    congrArg (· % 2 ^ 13) (State.get_put_same ..)

/-- HALT with DBGEN (R93). -/
theorem completes_halt (hr : s.Ready d n) (hen : s.dbgEn d n = true) (hf : s.fetched (.halt d n true) = true) :
    Completes (.halt d n true) s fun t => t.newtIs d n newtHalted = true ∧ t.get .NEWT_PC d n = s.get .NEWT_NEXT d n + 1 ∧
      s.Within { t with boards := s.boards } ([⟨.NEWT_STATUS_STATE, d, n⟩, ⟨.NEWT_STATUS_CFGLOCK, d, n⟩, ⟨.NEWT_STATUS_HALT_PEND, d, n⟩,
        ⟨.NEWT_STEP, d, n⟩, ⟨.NEWT_HALTT, d, n⟩] ++ issueCells d n) := by
  obtain ⟨hc, -, hrun, hbun, hrept, hstep, -, -, -⟩ := id hr
  have next := hr.next_lt
  have slot : s.cSlot d n .halt = (s.put .NEWT_STATUS_HALT_PEND d n 1, s.get .NEWT_NEXT d n + 1) := by
    rw [State.cSlot_halt, if_pos hen]
  have put {f : Fld} (hf : f ≠ .NEWT_STATUS_HALT_PEND) : (s.put .NEWT_STATUS_HALT_PEND d n 1).get f d n = s.get f d n :=
    State.get_put_fld _ hf ..
  have stalled := State.stalls_within (u := s.put .NEWT_STATUS_HALT_PEND d n 1) (s := s) (b := cBundle d n .halt)
    (next := s.get .NEWT_NEXT d n + 1) (tgt := s.get .NEWT_NEXT d n + 1) rfl
    (lt_of_eq_of_lt (put (by decide)) (State.get_lt (f := .NEWT_STALL_FAB) hc rfl))
    (lt_of_eq_of_lt (put (by decide)) (State.get_lt (f := .NEWT_STALL_MEM) hc rfl))
  refine ⟨_, rfl, ?_⟩
  rw [State.issueC_ready hr (State.holds_of_fetched hr rfl hf) rfl, slot]
  dsimp only
  generalize (s.put .NEWT_STATUS_HALT_PEND d n 1).stalls s (cBundle d n .halt) (s.get .NEWT_NEXT d n + 1) (s.get .NEWT_NEXT d n + 1) = w at *
  have keeps {f : Fld} (hf : f ∉ issueFlds) (hne : f ≠ .NEWT_STATUS_HALT_PEND) : w.get f d n = s.get f d n :=
    (stalled.get_fld hf List.not_mem_nil).trans (put hne)
  have run : w.newtIs d n newtRun = true := by rwa [State.newtIs, keeps (by decide) (by decide)]
  have pending : w.get .NEWT_STATUS_HALT_PEND d n = 1 := (stalled.get_fld (by decide) List.not_mem_nil).trans (State.get_put_same ..)
  have enabled : w.dbgEn d n = true := by rwa [State.dbgEn, State.on, keeps (by decide) (by decide)]
  rw [State.bundleEnd_halts run ((keeps (by decide) (by decide)).trans hrept) ((keeps (by decide) (by decide)).trans hstep) pending enabled]
  have cell {f : Fld} (hf : f ∈ haltFlds ++ issueFlds) : ⟨f, d, n⟩ ∈ haltCells d n ++ issueCells d n :=
    List.mem_map_of_mem (f := fun f : Fld => (⟨f, d, n⟩ : Loc)) hf
  refine ⟨State.newtHalts_state .., ?_, ?_⟩
  · rw [State.newtHalts_movedPc]
    exact (Nat.mod_mod ..).trans (Nat.mod_eq_of_lt next)
  · have within : s.WithinBoards w (haltCells d n ++ issueCells d n) :=
      State.Within.thenBoards (State.Within.refl.put (.tail _ (.tail _ (.head _)))) stalled
    exact (within.moved _ _ fun f hf => cell (List.mem_append_right _ hf)).newtHalts hbun fun f hf => cell (by revert f; decide)

end

end Sys2Proof.Machine
end

section
/-! PROOF. -/

open Sys2Proof Sys2Proof.Machine

/-- Settles O19: a taken branch by the levels that it leaves (`State.popOutside_within`), every other control instruction by what its slot
leaves and where the newt goes on. -/
theorem controlFlow : Obligations.ControlFlow := by
  unfold Obligations.ControlFlow
  intro s d n a b tgt _ _ ha _ htgt hr pc v repeatCells m inside left outermost
  refine ⟨fun k hk hf => ?_, fun cond holds hc hlow hf => ⟨fun k hk hh => ?_, fun hh => ?_⟩, fun hf => ?_, fun hf => ?_,
    fun byReg x hcount hx hsel hdepth hpc hword hf => completes_loop hr hcount hx hsel hdepth hpc htgt hword hf,
    fun hzero hsel hdepth hpc hlen hf => completes_loop_none hr ha hzero hsel hdepth hpc hlen hf,
    fun k hsel hdepth _ hend hf => ⟨completes_endl_again hr hsel hdepth hend hf, completes_endl_last hr hsel hdepth hend hf⟩,
    fun cnt hcnt hlegal hf => completes_rept hr rfl rfl (Nat.succ_ne_zero cnt) hcnt hlegal hf,
    fun hne hle hlegal hf => completes_rept hr rfl rfl hne hle hlegal hf, fun hzero hlen hlegal hf => completes_rept_none hr hzero hlen hlegal hf,
    fun hzero hf => ?_,
    fun die c k hdie hc hk htarget hflags hup hclk hperm hf => completes_sig hr hdie hc hk htarget hflags hup hclk hperm hf,
    fun hf => completes_done hr hf, fun hf => ⟨fun hen => completes_halt hr hen hf, fun hen => completes_halt_ignored hr hen hf⟩⟩
  · obtain ⟨hkm, hm, stop, leave⟩ := hk
    exact completes_branch hr rfl rfl hf rfl rfl htgt hkm hm stop leave
  · obtain ⟨hkm, hm, stop, leave⟩ := hk
    exact completes_branch hr rfl rfl hf (State.brc_legal hlow) (if_pos ((State.brcTaken_iff hr.1 hlow hc).2 hh)) htgt hkm hm stop leave
  · obtain ⟨t, done, ran, -⟩ := completes_restC [] hr rfl rfl hf (State.brc_legal hlow)
      (if_neg fun taken => hh ((State.brcTaken_iff hr.1 hlow hc).1 taken)) hr.next_lt (List.forall_mem_nil _)
    exact ⟨t, done, ran⟩
  · obtain ⟨t, done, ran, value⟩ := completes_writesC (f := .DBG_S) hr rfl rfl hf rfl rfl htgt (by decide)
    have fits : (s.get .NEWT_NEXT d n + 1) * 4 < 2 ^ 32 := by have := hr.next_lt; omega
    exact ⟨t, done, ran, value.trans (Nat.mod_eq_of_lt fits)⟩
  · obtain ⟨t, done, ran, -⟩ := completes_restC (tgt := s.sReg d n 12 / 4 % 8192) [] hr rfl rfl hf rfl rfl (Nat.mod_lt _ (by decide)) (List.forall_mem_nil _)
    exact ⟨t, done, ran⟩
  · obtain ⟨t, done, ran, -⟩ := completes_restC (tgt := s.get .NEWT_NEXT d n + 1) [] hr rfl rfl hf rfl
      (congrArg (·, s.get .NEWT_NEXT d n + 1) (State.when_false _ (not_not.2 hzero) _)) hr.next_lt (List.forall_mem_nil _)
    exact ⟨t, done, ran⟩
end

section
/-! SUPPORT. An L instruction alone in its bundle (R107, R110, R121): its issue, its cycles, its addresses and its post-update. -/

namespace Sys2Proof.Machine

/-! ### Issue and cycles -/

section
variable {s t u : State} {d n : Nat} {i : LIns} {io : AccessMeets}

/-- The bundle of one L instruction. -/
def lBundle (d n : Nat) (i : LIns) (io : AccessMeets) : Bundle := ⟨d, n, none, some i, none, io⟩

theorem LIns.distinct_dests (i : LIns) : distinct (LIns.dests i) = true := by
  cases i with
  | vld r ar p sm smi um u =>
    simp only [LIns.dests]
    split <;> simp [distinct]
  | lds r ar um u =>
    simp only [LIns.dests]
    split <;> simp [distinct]
  | vst | sts | adda =>
    simp only [LIns.dests]
    split <;> rfl

/-- A ready newt that finds a legal L instruction with E issues it at once; no reset cuts its store short. -/
theorem State.issueL_ready (hr : s.Ready d n) (hcut : io.cut = 0) (hh : s.holds d n (s.get .NEWT_NEXT d n) true (.l i) = true)
    (hl : LIns.legal (s.get .NEWT_CFG_LOOPSEL d n) i = true) : s.issueL d n true i io =
      ((s.lSlot s d n io i).stalls s (lBundle d n i io) (s.get .NEWT_NEXT d n + 1) (s.get .NEWT_NEXT d n + 1)).bundleEnd d n
        (s.get .NEWT_NEXT d n) (s.get .NEWT_NEXT d n + 1) false := by
  obtain ⟨-, -, -, -, hrept, -⟩ := id hr
  have legal : s.legalBundle (lBundle d n i io) (s.get .NEWT_NEXT d n) = true := by
    simp [State.legalBundle, lBundle, Bundle.dests, LIns.distinct_dests, hrept, hl]
  have whole : s.cutShort (lBundle d n i io) = false := by
    cases i with
    | vst => exact Bool.and_eq_false_imp.2 fun cut => absurd hcut (of_decide_eq_true cut).ne'
    | vld | lds | sts | adda => rfl
  refine (State.issue_ready (b := lBundle d n i AccessMeets.free) hr hh rfl rfl rfl legal).trans ?_
  change s.issueBundle (lBundle d n i io) (s.get .NEWT_NEXT d n) = _
  unfold State.issueBundle
  rw [whole, State.when_false _ Bool.false_ne_true]
  have repeats : s.on .NEWT_STATUS_INREPT d n = false := by simp [State.on, hrept]
  dsimp only [lBundle]
  rw [repeats]
  rfl

/-- The cycles that an L instruction's access adds: those lost, a retry for each locked word, and those past its first. -/
def State.lStall (o : State) (d n : Nat) (i : LIns) (io : AccessMeets) : Nat :=
  (if lWords n (o.lLanes d n i) = [] then 0 else io.lost) +
    ((lWords n (o.lLanes d n i)).filter fun w => o.lockedFor d w.1 0).length + (lCycles n (o.lLanes d n i) - 1)

theorem State.lStall_of_none (o : State) (d n : Nat) (io : AccessMeets) (h : (o.lLanes d n i).1 = []) : o.lStall d n i io = 0 := by
  have free : o.lLanes d n i = ([], (o.lLanes d n i).2) := by rw [← h]
  unfold State.lStall
  rw [free]
  simp [lWords, sramLanes, sramWords, lCycles, dmemCycles, dmemLanes]

/-- The stalls of a bundle of one L instruction; the fabric's beats count where it reaches DMEM (R68, R69). -/
theorem State.stalls_l (u o : State) (d n : Nat) (i : LIns) (io : AccessMeets) (next tgt : Nat) : ∃ k b,
    u.stalls o (lBundle d n i io) next tgt = (((u.inc .NEWT_STALL_SB d n k).inc .NEWT_STALL_FAB d n
      (if dmemLanes (o.lLanes d n i).1 = [] then 0 else io.fab)).inc .NEWT_STALL_MEM d n (o.lStall d n i io)).setBoard b := ⟨_, _, rfl⟩

/-- The beats of the fabric that an access lost to. -/
def State.lBeats (o : State) (d n : Nat) (i : LIns) (io : AccessMeets) : Nat := if dmemLanes (o.lLanes d n i).1 = [] then 0 else io.fab

/-- The counters of memory. -/
def stallFlds : List Fld := [.NEWT_STALL_FAB, .NEWT_STALL_MEM]

/-- What the counters of a bundle's stalls leave. -/
theorem State.counted (k x m : Nat) (b : Board) (hfab : u.get .NEWT_STALL_FAB d n < 2 ^ 32) (hmem : u.get .NEWT_STALL_MEM d n < 2 ^ 32)
    {w : State} (hw : w = (((u.inc .NEWT_STALL_SB d n k).inc .NEWT_STALL_FAB d n x).inc .NEWT_STALL_MEM d n m).setBoard b) :
    u.WithinBoards w ([⟨.NEWT_STALL_MEM, d, n⟩, ⟨.NEWT_STALL_FAB, d, n⟩] ++ issueCells d n) ∧
      w.get .NEWT_STALL_FAB d n = (u.get .NEWT_STALL_FAB d n + x) % 2 ^ 32 ∧ (x = 0 → m = 0 → u.WithinBoards w ([] ++ issueCells d n)) := by
  have start {l : List Loc} (hl : issueCells d n ⊆ l) : u.WithinBoards (u.inc .NEWT_STALL_SB d n k) l :=
    State.WithinBoards.put State.Within.refl.withBoards (hl (mem_issueCells (by decide)))
  subst hw
  refine ⟨?_, ?_, ?_⟩
  · exact (((start (List.subset_append_right ..)).put (.tail _ (.head _))).put (.head _)).setBoard
  · refine (State.get_put_fld _ (by decide) ..).trans ((State.get_put_same ..).trans ?_)
    rw [State.inc, State.get_put_fld _ (by decide)]
    rfl
  · rintro rfl rfl
    have fab : (u.inc .NEWT_STALL_SB d n k).get .NEWT_STALL_FAB d n < 2 ^ 32 := by
      rw [State.inc, State.get_put_fld _ (by decide)]
      exact hfab
    have mem : ((u.inc .NEWT_STALL_SB d n k).inc .NEWT_STALL_FAB d n 0).get .NEWT_STALL_MEM d n < 2 ^ 32 := by
      rw [State.inc, State.get_put_fld _ (by decide), State.inc, State.get_put_fld _ (by decide)]
      exact hmem
    exact (((start (List.subset_append_right ..)).incZero fab).incZero mem).setBoard

/-- The counters and the bundle's end. -/
theorem State.ended_counted (k x m : Nat) (b : Board) {pc next : Nat} (hfab : u.get .NEWT_STALL_FAB d n < 2 ^ 32)
    (hmem : u.get .NEWT_STALL_MEM d n < 2 ^ 32) (hpc : pc < 2 ^ 13) (hnext : next < 2 ^ 13) (he : u.EndsPlainly d n) {w : State}
    (hw : w = (((u.inc .NEWT_STALL_SB d n k).inc .NEWT_STALL_FAB d n x).inc .NEWT_STALL_MEM d n m).setBoard b) :
    ((w.bundleEnd d n pc next false).get .NEWT_PC d n = pc ∧ (w.bundleEnd d n pc next false).get .NEWT_NEXT d n = next) ∧
      u.WithinBoards (w.bundleEnd d n pc next false) ([⟨.NEWT_STALL_MEM, d, n⟩, ⟨.NEWT_STALL_FAB, d, n⟩] ++ issueCells d n) ∧
      (w.bundleEnd d n pc next false).get .NEWT_STALL_FAB d n = (u.get .NEWT_STALL_FAB d n + x) % 2 ^ 32 ∧
      (x = 0 → m = 0 → u.WithinBoards (w.bundleEnd d n pc next false) (issueCells d n)) := by
  obtain ⟨within, fab, free⟩ := State.counted k x m b hfab hmem hw
  have plain : w.EndsPlainly d n := he.congr fun f hf => within.get_fld (by revert f; decide) (notMem_of_flds rfl hf d n)
  obtain ⟨pcIs, nextIs, ran⟩ := State.ended hpc hnext within (fun f hf => notMem_of_flds rfl hf d n) he
  obtain ⟨-, -, moves⟩ := State.ended (u := w) (l := []) hpc hnext State.Within.refl.withBoards (fun _ _ => List.not_mem_nil) plain
  refine ⟨⟨pcIs, nextIs⟩, ran, ?_, fun hx hm => ?_⟩
  · rw [moves.get_fld (by decide) List.not_mem_nil, fab]
  · exact (State.ended hpc hnext (free hx hm) (fun _ _ => List.not_mem_nil) he).2.2

/-- A fetched, legal L instruction of a ready newt completes; after its slot come the bundle's stalls and its end. -/
theorem completes_issueL {j : Instr} {post : State → Prop} (hr : s.Ready d n) (hi : newtInstr j = some ⟨d, n, true, .l i⟩)
    (hx : exec j s = .next (s.issueL d n true i io)) (hf : s.fetched j = true) (hcut : io.cut = 0)
    (hl : LIns.legal (s.get .NEWT_CFG_LOOPSEL d n) i = true)
    (hsame : ∀ f ∈ stallFlds ++ endFlds, (s.lSlot s d n io i).get f d n = s.get f d n)
    (hpost : ∀ t, s.Issued t d n (s.get .NEWT_NEXT d n + 1) →
      (s.lSlot s d n io i).WithinBoards t ([⟨.NEWT_STALL_MEM, d, n⟩, ⟨.NEWT_STALL_FAB, d, n⟩] ++ issueCells d n) →
      t.get .NEWT_STALL_FAB d n = (s.get .NEWT_STALL_FAB d n + s.lBeats d n i io) % 2 ^ 32 →
      ((s.lLanes d n i).1 = [] → (s.lSlot s d n io i).WithinBoards t (issueCells d n)) → post t) : Completes j s post := by
  refine ⟨_, hx, ?_⟩
  rw [State.issueL_ready hr hcut (State.holds_of_fetched hr hi hf) hl]
  have fabOld := hsame .NEWT_STALL_FAB (by decide)
  have fab : (s.lSlot s d n io i).get .NEWT_STALL_FAB d n < 2 ^ 32 := lt_of_eq_of_lt fabOld (State.get_lt (f := .NEWT_STALL_FAB) hr.1 rfl)
  have mem : (s.lSlot s d n io i).get .NEWT_STALL_MEM d n < 2 ^ 32 :=
    lt_of_eq_of_lt (hsame _ (by decide)) (State.get_lt (f := .NEWT_STALL_MEM) hr.1 rfl)
  have pc : s.get .NEWT_NEXT d n < 2 ^ 13 := lt_of_lt_of_le (Nat.lt_succ_self _) hr.next_lt.le
  obtain ⟨k, b, stalls⟩ := State.stalls_l (s.lSlot s d n io i) s d n i io (s.get .NEWT_NEXT d n + 1) (s.get .NEWT_NEXT d n + 1)
  obtain ⟨issued, within, counts, free⟩ := State.ended_counted k _ _ b fab mem pc hr.next_lt
    (hr.endsPlainly.congr fun f hf => hsame f (List.mem_append_right _ hf)) stalls
  refine hpost _ issued within (counts.trans (by rw [fabOld]; rfl)) fun none => free ?_ (State.lStall_of_none s d n io none)
  rw [none]
  rfl

end

/-! ### Addresses and the post-update (R83, R84, R107) -/

section
variable {s t : State} {d n ar um u sm smi p : Nat}

theorem signed_eq_toInt {w : Nat} (hw : 0 < w) (v : Nat) : signed w v = (BitVec.ofNat w v).toInt := by
  rw [← signed_toNat hw, BitVec.toNat_ofNat, signed, signed, Nat.mod_mod]

theorem moveAddr_eq (a b l : Nat) (m : Int) :
    moveAddr a b l m = ((if l = 0 then (a : Int) + m else (b : Int) + ((a : Int) - b + m) % l) % 2 ^ 32).toNat := by
  unfold moveAddr
  split <;> rfl

theorem moveAddr_lt (a b l : Nat) (m : Int) : moveAddr a b l m < 2 ^ 32 := by
  unfold moveAddr
  split <;> exact unsigned_lt ..

theorem State.strideOf_eq (s : State) (d n sm smi : Nat) :
    s.strideOf d n sm smi = if sm = 0 then 4 else if sm = 1 then (BitVec.ofNat 32 (s.mReg d n smi)).toInt else 0 := by
  rw [State.strideOf, signed_eq_toInt (by decide)]

theorem State.updateOf_eq (s : State) (d n : Nat) (hu : um = 1 → u < 4) :
    s.updateOf d n um u = if um = 1 then (BitVec.ofNat 32 (s.mReg d n u)).toInt else (BitVec.ofNat 7 u).toInt * 4 := by
  rw [State.updateOf, signed_eq_toInt (by decide), signed_eq_toInt (by decide)]
  by_cases h : um = 1
  · rw [if_pos h, if_pos h, Nat.mod_eq_of_lt (hu h)]
  · rw [if_neg h, if_neg h]

/-- The address register after the update of UM. -/
def State.updated (s : State) (d n ar um u : Nat) : Nat :=
  if um = 0 then s.get .DBG_A d (n * 12 + ar) else s.addrBy d n ar (s.updateOf d n um u)

theorem State.postUpdate_within (s : State) (d n ar um u : Nat) : s.Within (s.postUpdate s d n ar um u) [⟨.DBG_A, d, n * 12 + ar⟩] :=
  State.Within.refl.when fun _ h => h.put (List.mem_singleton.2 rfl)

theorem State.postUpdate_get (s : State) (d n ar um u : Nat) :
    (s.postUpdate s d n ar um u).get .DBG_A d (n * 12 + ar) = s.updated d n ar um u := by
  unfold State.postUpdate State.updated State.when
  by_cases h : um = 0
  · rw [if_pos h, if_neg (not_not.2 h)]
  · rw [if_neg h, if_pos h, State.get_put_same]
    exact Nat.mod_eq_of_lt (moveAddr_lt ..)

/-- The update fields of the spec are legal (R105, R107), and the strides. -/
theorem legalUpdate_of (h : um = 0 ∧ u = 0 ∨ um = 1 ∧ u < 4 ∨ um = 2 ∧ u < 128) : legalUpdate um u = true := by
  rcases h with ⟨rfl, rfl⟩ | ⟨rfl, hu⟩ | ⟨rfl, -⟩
  · rfl
  · simp [legalUpdate, hu]
  · rfl

theorem legalStride_of (h : sm = 1 ∧ smi < 4 ∨ sm < 3 ∧ smi = 0) : legalStride sm smi = true := by
  rcases h with ⟨rfl, -⟩ | ⟨hsm, rfl⟩
  · rfl
  · have : sm ≠ 3 := by omega
    simp [legalStride, this]

theorem legalAr_of (m : Nat) (h : ar < 8) : legalAr m ar = true := by simp [legalAr, h]

/-- ADDA updates the address register alone (R121). -/
theorem completes_adda (hr : s.Ready d n) (har : ar < 8) (hu : legalUpdate um u = true) (hne : um ≠ 0)
    (hf : s.fetched (.adda d n true ar um u) = true) : Completes (.adda d n true ar um u) s fun t =>
      t.get .DBG_A d (n * 12 + ar) = s.updated d n ar um u ∧ s.Ran t d n (s.get .NEWT_NEXT d n + 1) [⟨.DBG_A, d, n * 12 + ar⟩] := by
  have within := s.postUpdate_within d n ar um u
  refine completes_issueL (i := .adda ar um u) (io := AccessMeets.free) hr rfl rfl hf rfl ?_ (fun f hf => ?_)
    fun t issued _ _ free => ⟨?_, issued, within.thenBoards (free rfl)⟩
  · rw [LIns.legal, legalAr_of _ har, hu, bne_iff_ne.2 hne]
    rfl
  · exact within.1 ⟨f, d, n⟩ (notMem_of_flds rfl hf d n)
  · exact ((free rfl).get (notMem_of_fld rfl)).trans (s.postUpdate_get d n ar um u)

end

end Sys2Proof.Machine
end

section
/-! SUPPORT. Loads of DMEM and of clutch SRAM (R66, R67, R71, R110, R122): what each lane reads. -/

namespace Sys2Proof.Machine

/-! ### Bytes of a load -/

section
variable (s : State) (d a : Nat)

theorem State.load_lt (k : Nat) : s.load d a k < 256 ^ k := by
  induction k generalizing a with
  | zero => exact Nat.one_pos
  | succ k ih =>
    have byte := (s.byte d a).isLt
    have rest := ih (a + 1)
    rw [State.load, Nat.pow_succ]
    omega

theorem State.load_add (m k : Nat) : s.load d a (m + k) = s.load d a m + 256 ^ m * s.load d (a + m) k := by
  induction m generalizing a with
  | zero => simp [State.load]
  | succ m ih =>
    rw [show m + 1 + k = (m + k) + 1 by omega, State.load, ih, State.load, Nat.pow_succ', show a + 1 + m = a + (m + 1) by omega]
    ring

/-- Bytes within a load. -/
theorem State.load_slice {o k m : Nat} (h : o + k ≤ m) : s.load d a m / 256 ^ o % 256 ^ k = s.load d (a + o) k := by
  obtain ⟨r, rfl⟩ : ∃ r, m = o + (k + r) := ⟨m - (o + k), by omega⟩
  have positive : 0 < 256 ^ o := Nat.pow_pos (by decide)
  rw [State.load_add s d a o, State.load_add s d (a + o) k, Nat.add_mul_div_left _ _ positive, Nat.div_eq_of_lt (s.load_lt d a o), Nat.zero_add,
    Nat.add_mul_mod_self_left, Nat.mod_eq_of_lt (s.load_lt ..)]

end

/-! ### Updates for each element of a list -/

section
variable {α β : Type}

/-- Updates that agree where an invariant holds. -/
theorem State.each_congr {P : State → Prop} {f g : α → State → State} {l : List α} {s : State} (hs : P s)
    (same : ∀ a ∈ l, ∀ t, P t → f a t = g a t) (keep : ∀ a ∈ l, ∀ t, P t → P (g a t)) : s.each l f = s.each l g := by
  induction l generalizing s with
  | nil => rfl
  | cons a l ih =>
    have first := same a List.mem_cons_self s hs
    refine Eq.trans (congrArg (fun u => State.each u l f) first) ?_
    exact ih (keep a List.mem_cons_self s hs) (fun b hb => same b (List.mem_cons_of_mem _ hb)) fun b hb => keep b (List.mem_cons_of_mem _ hb)

/-- What is seen after updates of which some set it to one value, and the others leave it. -/
theorem State.observe_some {φ : State → β} {c : β} {P : α → Prop} [DecidablePred P] {g : α → State → State} {l : List α}
    (h : ∀ a ∈ l, ∀ u, φ (g a u) = if P a then c else φ u) (s : State) : φ (s.each l g) = if ∃ a ∈ l, P a then c else φ s := by
  induction l generalizing s with
  | nil => simp [State.each]
  | cons a l ih =>
    refine (ih (fun b hb => h b (List.mem_cons_of_mem _ hb)) (g a s)).trans ?_
    rw [h a List.mem_cons_self]
    by_cases first : P a <;> simp [first]

end

/-! ### Where the lanes of an access lie (R66, R67) -/

section
variable {s : State} {d n : Nat} {l : List (Nat × Nat)}

/-- Every lane lies aligned in DMEM. -/
def InDmem (l : List (Nat × Nat)) : Prop := ∀ x ∈ l, x.2 % 4 = 0 ∧ x.2 < 0x20000

/-- Every lane lies aligned in the newt's own clutch SRAM. -/
def InSram (l : List (Nat × Nat)) : Prop := ∀ x ∈ l, x.2 % 4 = 0 ∧ 0x01000000 ≤ x.2 ∧ x.2 < 0x01800000

/-- The die-local address of an address in clutch SRAM. -/
def sramLoc (n q : Nat) : Nat := n / 8 * 0x800000 + (q - 0x01000000)

theorem sramLoc_aligned {q : Nat} (low : q % 4 = 0) : sramLoc n q % 4 = 0 :=
  Nat.mod_eq_zero_of_dvd (Nat.dvd_add (Nat.dvd_mul_left_of_dvd (by decide) _) (Nat.dvd_sub (Nat.dvd_of_mod_eq_zero low) (by decide)))

theorem aligned_of {q : Nat} (h : q % 4 = 0) : aligned q = q := by unfold aligned; omega

theorem inDmem_iff {q : Nat} (h : q % 4 = 0) : inDmem q = true ↔ q < 0x20000 := by
  unfold inDmem
  rw [decide_eq_true_eq]
  omega

theorem sramOf_dmem {q : Nat} (h : q % 4 = 0) (hq : q < 0x20000) : sramOf q = none := by
  unfold sramOf
  simp only [aligned_of h]
  rw [if_neg (by omega), if_neg (by omega), if_neg (by omega)]

theorem sramOf_sram {q : Nat} (h : q % 4 = 0) (hlo : 0x01000000 ≤ q) (hhi : q < 0x01800000) : sramOf q = some (q - 0x01000000, 0) := by
  unfold sramOf
  simp only [aligned_of h]
  rw [if_pos ⟨hlo, hhi⟩]

theorem InDmem.dmemLanes (h : InDmem l) : dmemLanes l = l := by
  have all : l.filter (fun q => inDmem q.2) = l := List.filter_eq_self.2 fun x hx => (inDmem_iff (h x hx).1).2 (h x hx).2
  have same : l.map (fun q => (q.1, aligned q.2)) = l.map id := List.map_congr_left fun x hx => by rw [aligned_of (h x hx).1]; rfl
  rw [Machine.dmemLanes, all, same, List.map_id]

theorem InDmem.sramLanes (h : InDmem l) (n : Nat) : sramLanes n l = [] := by
  unfold Machine.sramLanes
  rw [List.filterMap_eq_nil_iff]
  intro x hx
  rw [sramOf_dmem (h x hx).1 (h x hx).2]
  rfl

theorem InSram.dmemLanes (h : InSram l) : dmemLanes l = [] := by
  have none : l.filter (fun q => inDmem q.2) = [] := List.filter_eq_nil_iff.2 fun x hx => by
    have far := h x hx
    rw [inDmem_iff far.1]
    omega
  rw [Machine.dmemLanes, none]
  rfl

theorem InSram.sramLanes (h : InSram l) (n : Nat) : sramLanes n l = l.map fun x => (x.1, sramLoc n x.2, 0) := by
  unfold Machine.sramLanes
  rw [← List.filterMap_eq_map]
  refine List.filterMap_congr fun x hx => ?_
  obtain ⟨low, lo, hi⟩ := h x hx
  rw [sramOf_sram low lo hi]
  rfl

/-- Addresses without a fault. -/
def Faultless (l : List (Nat × Nat)) : Prop := ∀ x ∈ l, misaligned x.2 = false ∧ undecoded x.2 = false

theorem InDmem.faultless (h : InDmem l) : Faultless l := fun x hx =>
  ⟨by simp [misaligned, (h x hx).1], by simp [undecoded, (inDmem_iff (h x hx).1).2 (h x hx).2]⟩

theorem InSram.faultless (h : InSram l) : Faultless l := fun x hx => by
  obtain ⟨low, lo, hi⟩ := h x hx
  exact ⟨by simp [misaligned, low], by simp [undecoded, sramOf_sram low lo hi]⟩

theorem Faultless.addrFaults (h : Faultless l) (s : State) (d n : Nat) : s.addrFaults d n l = (s, []) := by
  have bad : l.filter (fun q => misaligned q.2 || undecoded q.2) = [] := List.filter_eq_nil_iff.2 fun x hx => by simp [h x hx]
  have mis : (l.any fun q => misaligned q.2) = false := List.any_eq_false.2 fun x hx => by simp [(h x hx).1]
  have und : (l.any fun q => undecoded q.2) = false := List.any_eq_false.2 fun x hx => by simp [(h x hx).2]
  unfold State.addrFaults
  dsimp only
  rw [bad, mis, und]
  rfl

theorem Faultless.undecoded (h : Faultless l) : l.filter (fun x => undecoded x.2) = [] :=
  List.filter_eq_nil_iff.2 fun x hx => by simp [(h x hx).2]

theorem State.newtRaise_none (s : State) (d n : Nat) : s.newtRaise d n [] = s := if_pos rfl

end

/-! ### Loads of DMEM -/

section
variable {s u : State} {d n r inst : Nat} {vec : Bool} {l : List (Nat × Nat)} {io : AccessMeets}

/-- The word read for an address, where its 64-bit word is among those read. -/
theorem wordAt_map {f : Nat → Nat} {a : Nat} {ws : List Nat} (h : a / 8 * 8 ∈ ws) :
    wordAt a ws (ws.map f) = f (a / 8 * 8) / 2 ^ (a % 8 * 8) % 2 ^ 32 := by
  induction ws with
  | nil => cases h
  | cons w ws ih =>
    rw [List.map_cons, wordAt]
    by_cases here : a / 8 * 8 = w
    · rw [if_pos here, here]
    · rw [if_neg here]
      exact ih ((List.mem_cons.1 h).resolve_left here)

theorem mem_dmemWords {x : Nat × Nat} (h : x ∈ l) : x.2 / 8 * 8 ∈ dmemWords l :=
  List.mem_eraseDups.2 (List.mem_map.2 ⟨x, h, rfl⟩)

/-- A load of sound words of DMEM: each lane takes its word. -/
theorem State.loadSlot_dmem (herr : u.errs = []) (hinj : u.get .FLT_INJ_COUNT d (newtSet n) = 0) (hl : InDmem l) :
    u.loadSlot d n vec r l io = u.each l fun x t => t.loadTo d n vec r x.1 (u.load d (newtLocal n x.2) 4) := by
  unfold State.loadSlot
  dsimp only
  rw [hl.dmemLanes, hl.sramLanes, hl.faultless.addrFaults, hl.faultless.undecoded, State.newtReadWords_sound herr hinj]
  dsimp only
  rw [List.append_nil, State.newtRaise_none]
  refine Eq.trans (b := u.each l _) rfl ?_
  refine State.each_congr (P := fun _ => True) trivial (fun x hx t _ => ?_) fun _ _ _ _ => trivial
  obtain ⟨low, -⟩ := hl x hx
  have place : newtLocal n (x.2 / 8 * 8) + x.2 % 8 = newtLocal n x.2 := by unfold newtLocal; omega
  have bytes : 2 ^ (x.2 % 8 * 8) = 256 ^ (x.2 % 8) := by rw [Nat.mul_comm, Nat.pow_mul]
  rw [wordAt_map (mem_dmemWords hx), bytes, show 2 ^ 32 = 256 ^ 4 by decide, State.load_slice _ _ _ (by omega), place]

end

/-! ### Words of clutch SRAM -/

section
variable {s t u : State} {d w n r port : Nat} {m : List Loc}

/-- The die's banks hold no error, and none is injected. -/
def State.BanksSound (s : State) (d : Nat) : Prop := s.errs = [] ∧ s.get .FLT_INJ_COUNT d bankSet = 0

theorem State.bankInjects_none (h : s.BanksSound d) (a : Nat) : s.bankInjects d a = false := by simp [State.bankInjects, h.2]

theorem State.bankCheck_sound (h : s.BanksSound d) (a : Nat) : s.bankCheck d a = ⟨s.load d a 8, 0, 0⟩ := by
  have mask : s.errMask d a = 0 := by unfold State.errMask; rw [h.1]; rfl
  unfold State.bankCheck
  rw [mask, State.bankInjects_none h, if_neg Bool.false_ne_true, Nat.xor_zero, decodeCheck_zero]

theorem State.afterCheck_sound (h : s.BanksSound d) (a port merge : Nat) : s.afterCheck d a port merge = s := by
  unfold State.afterCheck
  dsimp only
  rw [State.bankCheck_sound h, State.bankInjects_none h, State.when_false _ Bool.false_ne_true]
  rfl

/-- The halves of a sound word that are read, as one number. -/
def State.halvesData (s : State) (d w halves : Nat) : Nat :=
  (if halves % 2 = 1 then s.load d w 8 else 0) + (if halves / 2 % 2 = 1 then s.load d (w + 8) 8 else 0) * 2 ^ 64

/-- A read of a sound word changes nothing. -/
theorem State.readHalves_sound (h : s.BanksSound d) (w port halves merge : Nat) :
    s.readHalves d w port halves merge = ⟨s, s.halvesData d w halves, false, []⟩ := by
  unfold State.readHalves State.halvesData
  simp only [State.afterCheck_sound h, ite_self, State.bankCheck_sound h, beq_iff_eq]
  split_ifs <;> rfl

/-- A read on port A of a sound word that no lock guards changes nothing. -/
theorem State.wordRead_sound (h : s.BanksSound d) (hoff : s.offline d w = false) (hlock : s.wordLocked d w = false) (halves : Nat) :
    s.wordRead d w port n halves = (s, s.halvesData d w halves, false) := by
  have free : s.passLock d w port n = s := by
    unfold State.passLock State.lockedFor
    rw [hlock]
    rfl
  unfold State.wordRead State.bankRead State.bankReadRaw
  rw [free, if_neg (by rw [hoff]; decide), State.readHalves_sound h]
  rfl

/-- The cells of a newt's registers. -/
def regFlds : List Fld := [.DBG_S, .DBG_V, .DBG_A]

/-- What an access to a bank depends on is no register. -/
theorem State.Within.banks (h : s.Within t m) (hm : ∀ c ∈ m, c.fld ∈ regFlds) (d : Nat) :
    (s.BanksSound d → t.BanksSound d) ∧ (∀ w, t.offline d w = s.offline d w) ∧ (∀ w, t.wordLocked d w = s.wordLocked d w) ∧
      ∀ a k, t.load d a k = s.load d a k := by
  have cell {f : Fld} (hf : f ∉ regFlds) (e i : Nat) : t.get f e i = s.get f e i := h.1 ⟨f, e, i⟩ fun k => hf (hm _ k)
  have errs : t.errs = s.errs := (congrArg State.errs h.2 :)
  have mem : t.mem = s.mem := (congrArg State.mem h.2 :)
  have locks : t.locks = s.locks := (congrArg State.locks h.2 :)
  refine ⟨fun k => ⟨errs.trans k.1, (cell (by decide) ..).trans k.2⟩, fun w => ?_, fun w => ?_, fun a k => ?_⟩
  · unfold State.offline State.on
    rw [cell (by decide)]
  · unfold State.wordLocked State.lockOf State.capture
    rw [locks, cell (by decide), cell (by decide)]
  · exact State.load_congr _ _ _ fun i _ => by unfold State.byte; rw [mem]

/-- Rising insertion inserts. -/
theorem mem_insertUp {x y : Nat × Nat} {l : List (Nat × Nat)} : y ∈ insertUp x l ↔ y = x ∨ y ∈ l := by
  induction l with
  | nil => simp [insertUp]
  | cons z l ih =>
    unfold insertUp
    split_ifs with same less
    · subst same
      simp
    · simp
    · rw [List.mem_cons, ih, List.mem_cons]
      tauto

/-- The words of an access are those of its lanes. -/
theorem mem_sramWords {l : List (Nat × Nat × Nat)} {w : Nat × Nat} : w ∈ sramWords l ↔ ∃ x ∈ l, w = (x.2.1 / 16 * 16, x.2.2) := by
  suffices general : ∀ acc, w ∈ l.foldl (fun w q => insertUp (q.2.1 / 16 * 16, q.2.2) w) acc ↔ w ∈ acc ∨ ∃ x ∈ l, w = (x.2.1 / 16 * 16, x.2.2) by
    simpa [sramWords] using general []
  induction l with
  | nil => simp
  | cons x l ih =>
    intro acc
    rw [List.foldl_cons, ih, mem_insertUp]
    simp only [List.mem_cons, exists_eq_or_imp]
    tauto

/-- The enables of lanes, gathered. -/
theorem testBit_foldl_or {α : Type} (f : α → Nat) (l : List α) (e k : Nat) :
    (l.foldl (fun e x => e ||| f x) e).testBit k = (e.testBit k || l.any fun x => (f x).testBit k) := by
  induction l generalizing e with
  | nil => simp
  | cons x l ih => rw [List.foldl_cons, ih, Nat.testBit_or, List.any_cons, Bool.or_assoc]

theorem testBit_enable (o k : Nat) : (15 * 2 ^ o).testBit k = decide (o ≤ k ∧ k < o + 4) := by
  rw [Nat.mul_comm, Nat.testBit_two_pow_mul, show 15 = 2 ^ 4 - 1 by decide, Nat.testBit_two_pow_sub_one]
  by_cases h : o ≤ k
  · simp only [h, decide_true, Bool.true_and, true_and, decide_eq_decide]
    omega
  · simp [h]

theorem mod_ne_zero_of_testBit {e i w : Nat} (hi : i < w) (h : e.testBit i = true) : e % 2 ^ w ≠ 0 := fun zero => by
  have bit : (e % 2 ^ w).testBit i = true := by rw [Nat.testBit_mod_two_pow, h, Bool.and_true, decide_eq_true hi]
  rw [zero, Nat.zero_testBit] at bit
  cases bit

/-- A 32-bit word in the low half, and one in the high half, of two halves read. -/
theorem State.load_lowHalf (s : State) (d w hi : Nat) {o : Nat} (h : o + 4 ≤ 8) :
    (s.load d w 8 + hi * 256 ^ 8) / 256 ^ o % 256 ^ 4 = s.load d (w + o) 4 := by
  have above : 256 ^ 8 = 256 ^ o * (256 ^ 4 * 256 ^ (4 - o)) := by rw [← Nat.pow_add, ← Nat.pow_add]; congr 1; omega
  rw [above, Nat.mul_left_comm, Nat.add_mul_div_left _ _ (Nat.pow_pos (by decide)), Nat.mul_left_comm, Nat.add_mul_mod_self_left,
    State.load_slice _ _ _ h]

theorem State.load_highHalf (s : State) (d w : Nat) {lo o : Nat} (hlo : lo < 256 ^ 8) (h : o + 4 ≤ 8) :
    (lo + s.load d w 8 * 256 ^ 8) / 256 ^ (8 + o) % 256 ^ 4 = s.load d (w + o) 4 := by
  rw [Nat.pow_add, ← Nat.div_div_eq_div_mul, Nat.add_mul_div_right _ _ (Nat.pow_pos (by decide)), Nat.div_eq_of_lt hlo, Nat.zero_add,
    State.load_slice _ _ _ h]

theorem halvesOf_low {e o : Nat} (ho : o < 8) (h : e.testBit o = true) : halvesOf e % 2 = 1 := by
  have on : e % 256 ≠ 0 := mod_ne_zero_of_testBit (w := 8) ho h
  unfold halvesOf
  rw [if_neg on]
  split <;> rfl

theorem halvesOf_high {e o : Nat} (ho : o < 8) (h : e.testBit (8 + o) = true) : halvesOf e / 2 % 2 = 1 := by
  have on : e / 256 % 256 ≠ 0 := by
    refine mod_ne_zero_of_testBit (w := 8) ho ?_
    rw [show 256 = 2 ^ 8 by decide, Nat.testBit_div_two_pow, Nat.add_comm]
    exact h
  unfold halvesOf
  rw [if_neg on]
  split <;> rfl

/-- An enabled word, of the halves that are read. -/
theorem State.halvesData_word (s : State) (d w : Nat) {e o : Nat} (low : o % 4 = 0) (bound : o < 16) (h : e.testBit o = true) :
    s.halvesData d w (halvesOf e) / 256 ^ o % 256 ^ 4 = s.load d (w + o) 4 := by
  have half : 2 ^ 64 = 256 ^ 8 := by decide
  unfold State.halvesData
  rw [half]
  by_cases lower : o < 8
  · rw [if_pos (halvesOf_low lower h)]
    exact State.load_lowHalf s d w _ (by omega)
  · obtain ⟨q, rfl⟩ : ∃ q, o = 8 + q := ⟨o - 8, by omega⟩
    rw [if_pos (halvesOf_high (by omega) h), ← Nat.add_assoc]
    refine State.load_highHalf s d (w + 8) ?_ (by omega)
    split
    · exact s.load_lt d w 8
    · exact Nat.pow_pos (by decide)

/-- A lane's word, of what is read of the halves that the lanes of its 128-bit word enable. -/
theorem State.halvesData_lane {mine : List (Nat × Nat × Nat)} {x : Nat × Nat × Nat} (hx : x ∈ mine) (low : x.2.1 % 4 = 0) (s : State) (d : Nat) :
    s.halvesData d (x.2.1 / 16 * 16) (halvesOf (mine.foldl (fun e x => e ||| 15 * 2 ^ (x.2.1 % 16)) 0)) / 2 ^ (x.2.1 % 16 * 8) % 2 ^ 32 =
      s.load d x.2.1 4 := by
  have enabled : (mine.foldl (fun e (x : Nat × Nat × Nat) => e ||| 15 * 2 ^ (x.2.1 % 16)) 0).testBit (x.2.1 % 16) = true := by
    rw [testBit_foldl_or (fun x : Nat × Nat × Nat => 15 * 2 ^ (x.2.1 % 16)), Nat.zero_testBit, Bool.false_or, List.any_eq_true]
    exact ⟨x, hx, by rw [testBit_enable]; simp⟩
  have bytes : 2 ^ (x.2.1 % 16 * 8) = 256 ^ (x.2.1 % 16) := by rw [Nat.mul_comm, Nat.pow_mul]
  rw [bytes, show 2 ^ 32 = 256 ^ 4 by decide, State.halvesData_word s d _ (by omega) (Nat.mod_lt _ (by decide)) enabled, Nat.div_add_mod']

end

/-! ### What a load leaves -/

section
variable {s t u : State} {d n r k : Nat} {vec : Bool} {l : List (Nat × Nat)} {io : AccessMeets} {m : List Loc}

/-- The cells of a load's destination. -/
def loadCells (d n : Nat) (vec : Bool) (r : Nat) : List Loc := if vec then vCells d n r else [⟨.DBG_S, d, n * 16 + r⟩]

theorem fld_of_mem_loadCells {c : Loc} (h : c ∈ loadCells d n vec r) : c.fld ∈ [Fld.DBG_S, .DBG_V] := by
  cases vec
  · exact List.mem_singleton.1 h ▸ List.mem_cons_self
  · rw [fld_of_mem_vCells h]
    decide

theorem reg_of_mem_loadCells {c : Loc} (h : c ∈ loadCells d n vec r) : c.fld ∈ regFlds :=
  (by decide : [Fld.DBG_S, .DBG_V] ⊆ regFlds) (fld_of_mem_loadCells h)

theorem State.Within.loadTo {v : Nat} (h : s.Within t m) (hk : vec = true → k < 8) (hm : loadCells d n vec r ⊆ m) :
    s.Within (t.loadTo d n vec r k v) m := by
  cases vec
  · exact h.put (hm (List.mem_singleton.2 rfl))
  · exact h.setV (hk rfl) hm

/-- A read on port A that port B does not meet. -/
theorem State.newtWord_read {w later : Nat} (hmet : io.met = []) (en : Nat) :
    u.newtWord d n w later io .read en 0 = ((u.wordRead d w 0 n (halvesOf en)).1, (u.wordRead d w 0 n (halvesOf en)).2.1) := by
  have free : AccessMeets.atWord io w = none := by rw [AccessMeets.atWord, hmet]; rfl
  unfold State.newtWord
  rw [free]
  rfl

/-- Every lane's word of clutch SRAM is sound, online and unlocked. -/
def State.LanesOpen (s : State) (d n : Nat) (l : List (Nat × Nat)) : Prop :=
  ∀ x ∈ l, s.BanksSound d ∧ s.offline d (sramLoc n x.2) = false ∧ s.wordLocked d (sramLoc n x.2 / 16 * 16) = false

/-- A bank's state is that of its whole words. -/
theorem State.offline_word (s : State) (d a : Nat) : s.offline d (a / 16 * 16) = s.offline d a := by
  have bank : bankOf (a / 16 * 16) = bankOf a := (Nat.div_div_eq_div_mul (a / 16 * 16) 16 0x2000).symm.trans <|
    (congrArg (· / 0x2000) (Nat.mul_div_cancel _ (by decide))).trans (Nat.div_div_eq_div_mul a 16 0x2000)
  rw [State.offline, bank, State.offline]

/-- The lanes of an access to clutch SRAM, as the model lists them. -/
def sramList (n : Nat) (l : List (Nat × Nat)) : List (Nat × Nat × Nat) := l.map fun x => (x.1, sramLoc n x.2, 0)

/-- A load of sound, unlocked words of clutch SRAM: each lane takes its word. -/
theorem State.loadSlot_sram (hl : InSram l) (hopen : u.LanesOpen d n l) (hmet : io.met = [])
    (hk : vec = true → ∀ x ∈ l, x.1 < 8) : u.loadSlot d n vec r l io =
      u.each (sramWords (sramList n l)) fun w t => t.each ((sramList n l).filter fun x => x.2.1 / 16 * 16 == w.1) fun x v =>
        v.loadTo d n vec r x.1 (u.load d x.2.1 4) := by
  have same : (l.map fun x => (x.1, sramLoc n x.2, 0)).map (fun x => (x.1, x.2.1, 0)) = sramList n l := by simp [sramList]
  unfold State.loadSlot
  dsimp only
  rw [hl.dmemLanes, hl.sramLanes, hl.faultless.addrFaults, hl.faultless.undecoded, same]
  refine Eq.trans (b := u.each (sramWords (sramList n l)) _) rfl ?_
  have lane {x : Nat × Nat × Nat} (hx : x ∈ sramList n l) : x.2.1 % 4 = 0 ∧ u.BanksSound d ∧ u.offline d (x.2.1 / 16 * 16) = false ∧
      u.wordLocked d (x.2.1 / 16 * 16) = false ∧ (vec = true → x.1 < 8) := by
    obtain ⟨y, hy, rfl⟩ := List.mem_map.1 hx
    obtain ⟨low, lo, -⟩ := hl y hy
    obtain ⟨banks, online, free⟩ := hopen y hy
    exact ⟨sramLoc_aligned low, banks, (u.offline_word ..).trans online, free, fun h => hk h y hy⟩
  refine State.each_congr (P := fun t => u.Within t (loadCells d n vec r)) State.Within.refl (fun w hw t ht => ?_) fun w hw t ht => ?_
  · obtain ⟨banks, online, locks, loads⟩ := ht.banks (fun c => reg_of_mem_loadCells) d
    obtain ⟨z, hz, rfl⟩ := mem_sramWords.1 hw
    obtain ⟨-, sound, open_, free, -⟩ := lane hz
    rw [State.newtWord_read hmet, State.wordRead_sound (banks sound) ((online _).trans open_) ((locks _).trans free)]
    refine State.each_congr (P := fun _ => True) trivial (fun x hx v _ => ?_) fun _ _ _ _ => trivial
    have word : x.2.1 / 16 * 16 = z.2.1 / 16 * 16 := by simpa using (List.mem_filter.1 hx).2
    dsimp only
    rw [← word, State.halvesData_lane (by rw [word]; exact hx) (lane (List.mem_filter.1 hx).1).1 t d, loads]
  · exact ht.each fun x hx v hv => hv.loadTo (lane (List.mem_filter.1 hx).1).2.2.2.2 (List.Subset.refl _)

/-- What is seen of a load: the destination's cells alone change, each lane's part to its word. -/
structure State.Loads (u t : State) (d n : Nat) (vec : Bool) (r : Nat) (l : List (Nat × Nat)) (val : Nat → Nat) : Prop where
  within : u.Within t (loadCells d n vec r)
  seen : ∀ {β : Type} (φ : State → β) (K : Nat) (c : β),
    (∀ x ∈ l, ∀ v, φ (State.loadTo v d n vec r x.1 (val x.1)) = if x.1 = K then c else φ v) → φ t = if ∃ x ∈ l, x.1 = K then c else φ u

theorem State.loads_dmem {val : Nat → Nat} (herr : u.errs = []) (hinj : u.get .FLT_INJ_COUNT d (newtSet n) = 0) (hl : InDmem l)
    (hk : vec = true → ∀ x ∈ l, x.1 < 8) (hval : ∀ x ∈ l, u.load d (newtLocal n x.2) 4 = val x.1) :
    u.Loads (u.loadSlot d n vec r l io) d n vec r l val := by
  rw [State.loadSlot_dmem herr hinj hl]
  refine ⟨State.Within.refl.each fun x hx v hv => hv.loadTo (fun h => hk h x hx) (List.Subset.refl _), fun φ K c h => ?_⟩
  exact State.observe_some (fun x hx v => by rw [hval x hx]; exact h x hx v) u

theorem State.loads_sram {val : Nat → Nat} (hl : InSram l) (hopen : u.LanesOpen d n l) (hmet : io.met = [])
    (hk : vec = true → ∀ x ∈ l, x.1 < 8) (hval : ∀ x ∈ l, u.load d (sramLoc n x.2) 4 = val x.1) :
    u.Loads (u.loadSlot d n vec r l io) d n vec r l val := by
  have lane {w : Nat × Nat} {x : Nat × Nat × Nat} (hx : x ∈ (sramList n l).filter fun x => x.2.1 / 16 * 16 == w.1) :
      ∃ y ∈ l, x = (y.1, sramLoc n y.2, 0) := by
    obtain ⟨y, hy, rfl⟩ := List.mem_map.1 (List.mem_filter.1 hx).1
    exact ⟨y, hy, rfl⟩
  rw [State.loadSlot_sram hl hopen hmet hk]
  refine ⟨State.Within.refl.each fun w _ t ht => ht.each fun x hx v hv => ?_, fun φ K c h => ?_⟩
  · obtain ⟨y, hy, rfl⟩ := lane hx
    exact hv.loadTo (fun h => hk h y hy) (List.Subset.refl _)
  · have word (w : Nat × Nat) (v : State) : φ (v.each ((sramList n l).filter fun x => x.2.1 / 16 * 16 == w.1) fun x v =>
        v.loadTo d n vec r x.1 (u.load d x.2.1 4)) =
          if ∃ x ∈ (sramList n l).filter (fun x : Nat × Nat × Nat => x.2.1 / 16 * 16 == w.1), x.1 = K then c else φ v := by
      refine State.observe_some (fun x hx v => ?_) v
      obtain ⟨y, hy, rfl⟩ := lane hx
      rw [hval y hy]
      exact h y hy v
    refine (State.observe_some (P := fun w : Nat × Nat => ∃ x ∈ (sramList n l).filter (fun x : Nat × Nat × Nat => x.2.1 / 16 * 16 == w.1),
      x.1 = K) (φ := φ) (fun w _ v => word w v) u).trans (if_congr ⟨?_, ?_⟩ rfl rfl)
    · rintro ⟨w, -, x, hx, rfl⟩
      obtain ⟨y, hy, rfl⟩ := lane hx
      exact ⟨y, hy, rfl⟩
    · rintro ⟨y, hy, rfl⟩
      have listed : (y.1, sramLoc n y.2, 0) ∈ sramList n l := List.mem_map.2 ⟨y, hy, rfl⟩
      exact ⟨_, mem_sramWords.2 ⟨_, listed, rfl⟩, _, List.mem_filter.2 ⟨listed, by simp⟩, rfl⟩

end

/-! ### Loads that meet nothing -/

section
variable {s t : State} {d n r ar um u : Nat} {vec sram : Bool} {l : List (Nat × Nat)} {io : AccessMeets} {i : LIns}

/-- The die-local address of an address in DMEM, or in the newt's own clutch SRAM. -/
def newtPlace (n : Nat) (sram : Bool) (q : Nat) : Nat := if sram then sramLoc n q else newtLocal n q

/-- Every lane lies aligned in DMEM, or in sound and unlocked words of the newt's own clutch SRAM. -/
def State.Reachable (s : State) (d n : Nat) (sram : Bool) (l : List (Nat × Nat)) : Prop :=
  if sram then InSram l ∧ s.LanesOpen d n l else InDmem l

/-- Registers have no part in it. -/
theorem State.Within.reachable {m : List Loc} (h : s.Within t m) (hm : ∀ c ∈ m, c.fld ∈ regFlds) (hs : s.Reachable d n sram l) :
    t.Reachable d n sram l := by
  cases sram
  · exact hs
  · obtain ⟨banks, online, locks, -⟩ := h.banks hm d
    obtain ⟨inside, opens⟩ := hs
    refine ⟨inside, fun x hx => ?_⟩
    obtain ⟨sound, on, free⟩ := opens x hx
    exact ⟨banks sound, (online _).trans on, (locks _).trans free⟩

theorem State.loads_of_reachable {v : State} {val : Nat → Nat} (herr : v.errs = []) (hinj : v.get .FLT_INJ_COUNT d (newtSet n) = 0)
    (hmet : io.met = []) (hl : v.Reachable d n sram l) (hk : vec = true → ∀ x ∈ l, x.1 < 8)
    (hval : ∀ x ∈ l, v.load d (newtPlace n sram x.2) 4 = val x.1) : v.Loads (v.loadSlot d n vec r l io) d n vec r l val := by
  cases sram
  · exact State.loads_dmem herr hinj hl hk hval
  · exact State.loads_sram hl.1 hl.2 hmet hk hval

/-- The beats of an access that reaches one memory. -/
theorem State.lBeats_eq (hl : s.Reachable d n sram (s.lLanes d n i).1) :
    s.lBeats d n i io = if sram = true ∨ (s.lLanes d n i).1 = [] then 0 else io.fab := by
  unfold State.lBeats
  cases sram
  · rw [InDmem.dmemLanes hl]
    simp
  · rw [InSram.dmemLanes hl.1]
    simp

/-- The cells of an access besides those of its data. -/
def accessCells (d n ar : Nat) : List Loc := [⟨.DBG_A, d, n * 12 + ar⟩, ⟨.NEWT_STALL_MEM, d, n⟩, ⟨.NEWT_STALL_FAB, d, n⟩]

/-- A load completes: its destination takes what it reads, the address register its update. -/
theorem completes_load {j : Instr} {val : Nat → Nat} {post : State → Prop} (hr : s.Ready d n) (herr : s.errs = [])
    (hinj : s.get .FLT_INJ_COUNT d (newtSet n) = 0) (hmet : io.met = []) (hcut : io.cut = 0)
    (hi : newtInstr j = some ⟨d, n, true, .l i⟩) (hx : exec j s = .next (s.issueL d n true i io)) (hf : s.fetched j = true)
    (hlegal : LIns.legal (s.get .NEWT_CFG_LOOPSEL d n) i = true)
    (hslot : s.lSlot s d n io i = (s.postUpdate s d n ar um u).loadSlot d n vec r (s.lLanes d n i).1 io)
    (hl : s.Reachable d n sram (s.lLanes d n i).1) (hk : vec = true → ∀ x ∈ (s.lLanes d n i).1, x.1 < 8)
    (hval : ∀ x ∈ (s.lLanes d n i).1, s.load d (newtPlace n sram x.2) 4 = val x.1)
    (hpost : ∀ t, t.get .DBG_A d (n * 12 + ar) = s.updated d n ar um u →
      t.get .NEWT_STALL_FAB d n = (s.get .NEWT_STALL_FAB d n + s.lBeats d n i io) % 2 ^ 32 →
      s.Ran t d n (s.get .NEWT_NEXT d n + 1) (loadCells d n vec r ++ accessCells d n ar) →
      (∀ f ∈ [Fld.DBG_S, .DBG_V], ∀ e q, t.get f e q = (s.lSlot s d n io i).get f e q) →
      (s.postUpdate s d n ar um u).Loads (s.lSlot s d n io i) d n vec r (s.lLanes d n i).1 val → post t) : Completes j s post := by
  have update := s.postUpdate_within d n ar um u
  have regs : ∀ c ∈ [(⟨.DBG_A, d, n * 12 + ar⟩ : Loc)], c.fld ∈ regFlds := fun c hc =>
    List.mem_singleton.1 hc ▸ (by decide : Fld.DBG_A ∈ regFlds)
  obtain ⟨-, -, -, words⟩ := update.banks regs d
  have loads : (s.postUpdate s d n ar um u).Loads (s.lSlot s d n io i) d n vec r (s.lLanes d n i).1 val := by
    rw [hslot]
    refine State.loads_of_reachable (sram := sram) ?_ ?_ hmet (update.reachable regs hl) hk fun x hx => (words ..).trans (hval x hx)
    · exact (congrArg State.errs update.2 :).trans herr
    · exact (update.1 ⟨.FLT_INJ_COUNT, d, newtSet n⟩ (notMem_of_fld rfl)).trans hinj
  have within : s.Within (s.lSlot s d n io i) ([⟨.DBG_A, d, n * 12 + ar⟩] ++ loadCells d n vec r) := by
    refine ⟨fun c hc => ?_, ?_⟩
    · rw [List.mem_append, not_or] at hc
      exact (loads.within.1 c hc.2).trans (update.1 c hc.1)
    · exact (congrArg (fun w : State => { w with cells := s.cells }) loads.within.2).trans update.2
  have kept {f : Fld} (hf : f ∉ regFlds) (e q : Nat) : (s.lSlot s d n io i).get f e q = s.get f e q := within.1 ⟨f, e, q⟩ fun k => by
    rcases List.mem_append.1 k with k | k
    · exact hf (regs _ k)
    · exact hf (reg_of_mem_loadCells k)
  refine completes_issueL hr hi hx hf hcut hlegal (fun f hf => kept (by revert f; decide) d n) fun t issued ends beats _ =>
    hpost t ?_ beats ⟨issued, ?_⟩ (fun f hf e q => ends.get_fld (by revert f; decide) (notMem_of_flds rfl hf e q)) loads
  · refine (ends.get_fld (by decide) (notMem_of_fld rfl)).trans ?_
    refine (loads.within.1 ⟨.DBG_A, d, n * 12 + ar⟩ fun k => ?_).trans (s.postUpdate_get d n ar um u)
    exact absurd (show Fld.DBG_A ∈ [Fld.DBG_S, .DBG_V] from fld_of_mem_loadCells k) (by decide)
  · refine (within.thenBoards ends).mono fun c hc => ?_
    rcases List.mem_append.1 hc with hc | hc
    · rcases List.mem_cons.1 hc with rfl | hc
      · exact List.mem_append_left _ (List.mem_append_right _ List.mem_cons_self)
      · exact List.mem_append_left _ (List.mem_append_left _ hc)
    · rcases List.mem_append.1 hc with hc | hc
      · exact List.mem_append_left _ (List.mem_append_right _ (List.mem_cons_of_mem _ hc))
      · exact List.mem_append_right _ hc

end

end Sys2Proof.Machine
end

section
/-! SUPPORT. The bytes of a store: merging, the gathered lanes of one unit of memory, and the units written in turn (R122, R188, R512). -/

namespace Sys2Proof.Machine

/-! ### Bytes of a number -/

/-- Byte `i` of a number. -/
def byteOf (v i : Nat) : Byte := BitVec.ofNat 8 (v / 256 ^ i)

theorem byteOf_zero (v : Nat) : byteOf v 0 = BitVec.ofNat 8 v := by rw [byteOf, Nat.pow_zero, Nat.div_one]

theorem byteOf_succ (v i : Nat) : byteOf v (i + 1) = byteOf (v / 256) i := by
  rw [byteOf, byteOf, Nat.div_div_eq_div_mul, Nat.pow_succ']

theorem byteOf_add (v i j : Nat) : byteOf v (i + j) = byteOf (v / 256 ^ i) j := by
  rw [byteOf, byteOf, Nat.div_div_eq_div_mul, Nat.pow_add]

theorem getLsbD_byteOf (v i : Nat) {j : Nat} (hj : j < 8) : (byteOf v i).getLsbD j = v.testBit (8 * i + j) := by
  rw [byteOf, BitVec.getLsbD_ofNat, decide_eq_true hj, Bool.true_and, show 256 = 2 ^ 8 by decide, ← Nat.pow_mul, Nat.testBit_div_two_pow,
    Nat.add_comm]

theorem byteOf_mod (v : Nat) {i k : Nat} (h : i < k) : byteOf (v % 256 ^ k) i = byteOf v i := by
  refine BitVec.eq_of_getLsbD_eq fun j hj => ?_
  rw [getLsbD_byteOf _ _ hj, getLsbD_byteOf _ _ hj, show 256 = 2 ^ 8 by decide, ← Nat.pow_mul, Nat.testBit_mod_two_pow,
    decide_eq_true (show 8 * i + j < 8 * k by omega), Bool.true_and]

/-- A byte of a load. -/
theorem State.byteOf_load (s : State) (d a : Nat) {i k : Nat} (h : i < k) : byteOf (s.load d a k) i = s.byte d (a + i) := by
  have slice := s.load_slice d a (o := i) (k := 1) (m := k) (by omega)
  rw [Nat.pow_one, State.load, State.load, Nat.mul_zero, Nat.add_zero] at slice
  refine BitVec.eq_of_toNat_eq ?_
  rw [byteOf, BitVec.toNat_ofNat]
  exact slice

/-- A load of known bytes. -/
theorem State.load_of_bytes {s : State} {d a k v : Nat} (h : ∀ i, i < k → s.byte d (a + i) = byteOf v i) : s.load d a k = v % 256 ^ k := by
  induction k generalizing a v with
  | zero => simp [State.load, Nat.mod_one]
  | succ k ih =>
    have first := h 0 (Nat.succ_pos k)
    rw [Nat.add_zero, byteOf_zero] at first
    have rest := ih (a := a + 1) (v := v / 256) fun i hi => by
      rw [← byteOf_succ, ← h (i + 1) (by omega), show a + (i + 1) = a + 1 + i by omega]
    rw [State.load, first, rest, BitVec.toNat_ofNat, show 2 ^ 8 = 256 by decide, Nat.pow_succ', Nat.mod_mul]

/-! ### Bits replaced -/

theorem testBit_setBits (v lo w x j : Nat) :
    (setBits v lo w x).testBit j = if lo ≤ j ∧ j < lo + w then x.testBit (j - lo) else v.testBit j := by
  have low : v % 2 ^ lo < 2 ^ lo := Nat.mod_lt _ (Nat.two_pow_pos lo)
  have mid : x % 2 ^ w < 2 ^ w := Nat.mod_lt _ (Nat.two_pow_pos w)
  have old : v / 2 ^ lo % 2 ^ w < 2 ^ w := Nat.mod_lt _ (Nat.two_pow_pos w)
  have parts : v = 2 ^ lo * (2 ^ w * (v / 2 ^ lo / 2 ^ w) + v / 2 ^ lo % 2 ^ w) + v % 2 ^ lo := by
    rw [Nat.div_add_mod, Nat.div_add_mod]
  have replaced : setBits v lo w x = 2 ^ lo * (2 ^ w * (v / 2 ^ lo / 2 ^ w) + x % 2 ^ w) + v % 2 ^ lo := by
    unfold setBits bitsAt
    generalize v / 2 ^ lo / 2 ^ w = h at *
    generalize v / 2 ^ lo % 2 ^ w = o at *
    generalize v % 2 ^ lo = l at *
    generalize x % 2 ^ w = y at *
    subst parts
    have cut : 2 ^ lo * (2 ^ w * h + o) + l - o * 2 ^ lo = 2 ^ lo * (2 ^ w * h) + l := by
      rw [Nat.mul_add, Nat.mul_comm o]
      omega
    rw [cut]
    ring
  have bits (y : Nat) (hy : y < 2 ^ w) : (2 ^ lo * (2 ^ w * (v / 2 ^ lo / 2 ^ w) + y) + v % 2 ^ lo).testBit j =
      if j < lo then (v % 2 ^ lo).testBit j else if j - lo < w then y.testBit (j - lo) else (v / 2 ^ lo / 2 ^ w).testBit (j - lo - w) := by
    rw [Nat.testBit_two_pow_mul_add _ low, Nat.testBit_two_pow_mul_add _ hy]
  rw [replaced, bits _ mid]
  conv_rhs => rw [parts, bits _ old]
  by_cases below : j < lo
  · rw [if_pos below, if_neg (by omega), if_pos below]
  · by_cases inside : j - lo < w
    · rw [if_neg below, if_pos inside, if_pos (by omega), Nat.testBit_mod_two_pow, decide_eq_true inside, Bool.true_and]
    · rw [if_neg below, if_neg inside, if_neg (by omega), if_neg below, if_neg inside]

/-- A byte of a number of which four bytes are replaced. -/
theorem byteOf_setBits (v o x i : Nat) :
    byteOf (setBits v (o * 8) 32 x) i = if o ≤ i ∧ i < o + 4 then byteOf x (i - o) else byteOf v i := by
  refine BitVec.eq_of_getLsbD_eq fun j hj => ?_
  rw [getLsbD_byteOf _ _ hj, testBit_setBits]
  by_cases inside : o ≤ i ∧ i < o + 4
  · rw [if_pos (by omega), if_pos inside, getLsbD_byteOf _ _ hj]
    congr 1
    omega
  · rw [if_neg (by omega), if_neg inside, getLsbD_byteOf _ _ hj]

/-! ### Merged bytes (R188, R512) -/

/-- Of a plain write the enabled bytes are the new ones. -/
theorem byteOf_mergeBytes {i k : Nat} (en old new : Nat) (h : i < k) :
    byteOf (mergeBytes 0 en old new k) i = if en.testBit i = true then byteOf new i else byteOf old i := by
  induction k generalizing en old new i with
  | zero => omega
  | succ k ih =>
    have step : mergeBytes 0 en old new (k + 1) = (if en % 2 = 1 then new % 256 else old % 256) +
      256 * mergeBytes 0 (en / 2) (old / 256) (new / 256) k := rfl
    have small : (if en % 2 = 1 then new % 256 else old % 256) < 256 := by split <;> exact Nat.mod_lt _ (by decide)
    rw [step]
    cases i with
    | zero =>
      rw [byteOf_zero, byteOf_zero, byteOf_zero, Nat.testBit_zero]
      refine BitVec.eq_of_toNat_eq ?_
      rw [BitVec.toNat_ofNat, Nat.add_mul_mod_self_left]
      by_cases odd : en % 2 = 1
      · simp [odd]
      · simp [odd]
    | succ i =>
      rw [byteOf_succ, Nat.add_mul_div_left _ _ (by decide), Nat.div_eq_of_lt small, Nat.zero_add, ih _ _ _ (by omega), Nat.testBit_succ,
        byteOf_succ, byteOf_succ]

/-! ### What the lanes of a store leave in a byte (R122) -/

/-- A lane's word covers an address. -/
def covers (y : Nat) (q : Nat × Nat) : Bool := decide (q.1 ≤ y ∧ y < q.1 + 4)

/-- The byte that words stored in turn, each with its address, leave at an address: that of the last word to cover it. -/
def storedByte (l : List (Nat × Nat)) (y : Nat) : Option Byte := (l.reverse.find? (covers y)).map fun q => byteOf q.2 (y - q.1)

theorem storedByte_append (l : List (Nat × Nat)) (q : Nat × Nat) (y : Nat) :
    storedByte (l ++ [q]) y = if covers y q = true then some (byteOf q.2 (y - q.1)) else storedByte l y := by
  unfold storedByte
  rw [List.reverse_append, List.reverse_singleton, List.singleton_append, List.find?_cons]
  cases covers y q <;> rfl

/-- Nothing covers the address. -/
theorem storedByte_none {l : List (Nat × Nat)} {y : Nat} (h : ∀ q ∈ l, covers y q = false) : storedByte l y = none := by
  unfold storedByte
  rw [List.find?_eq_none.2 fun q hq => by simp [h q (List.mem_reverse.1 hq)]]
  rfl

/-- The last word to cover the address. -/
theorem storedByte_last {l m : List (Nat × Nat)} {q : Nat × Nat} {y : Nat} (hq : covers y q = true) (hm : ∀ x ∈ m, covers y x = false) :
    storedByte (l ++ q :: m) y = some (byteOf q.2 (y - q.1)) := by
  have after : m.reverse.find? (covers y) = none := List.find?_eq_none.2 fun x hx => by simp [hm x (List.mem_reverse.1 hx)]
  unfold storedByte
  rw [List.reverse_append, List.reverse_cons, List.append_assoc, List.find?_append, after]
  simp [hq]

theorem storedByte_filter {l : List (Nat × Nat)} {P : Nat × Nat → Bool} {y : Nat} (h : ∀ q ∈ l, covers y q = true → P q = true) :
    storedByte (l.filter P) y = storedByte l y := by
  induction l using List.reverseRecOn with
  | nil => rfl
  | append_singleton l q ih =>
    have rest := ih fun x hx => h x (List.mem_append_left _ hx)
    rw [List.filter_append, storedByte_append]
    by_cases cov : covers y q = true
    · rw [if_pos cov, List.filter_singleton, h q (by simp) cov, cond_true, storedByte_append, if_pos cov]
    · rw [if_neg cov, ← rest, List.filter_singleton]
      cases P q
      · rw [cond_false, List.append_nil]
      · rw [cond_true, storedByte_append, if_neg cov]

/-- Addresses of another origin. -/
theorem storedByte_shift (l : List (Nat × Nat)) (base y : Nat) :
    storedByte (l.map fun q => (base + q.1, q.2)) y = if base ≤ y then storedByte l (y - base) else none := by
  by_cases h : base ≤ y
  · have same (q : Nat × Nat) : covers y (base + q.1, q.2) = covers (y - base) q := by
      unfold covers
      rw [decide_eq_decide]
      omega
    rw [if_pos h]
    induction l using List.reverseRecOn with
    | nil => rfl
    | append_singleton l q ih =>
      rw [List.map_append, List.map_singleton, storedByte_append, storedByte_append, ih, same, Nat.sub_add_eq]
  · rw [if_neg h]
    refine storedByte_none fun q hq => ?_
    obtain ⟨x, -, rfl⟩ := List.mem_map.1 hq
    simp only [covers, decide_eq_false_iff_not]
    omega

/-! ### Gathered lanes -/

theorem gather_append (size : Nat) (l : List (Nat × Nat)) (q : Nat × Nat) : gather size (l ++ [q]) =
    ((gather size l).1 ||| 15 * 2 ^ (q.1 % size), setBits (gather size l).2 (q.1 % size * 8) 32 q.2) := by
  unfold gather
  rw [List.foldl_append]
  rfl

/-- The lanes that fall into one unit of memory, gathered: the bytes that they cover, each from its last lane. -/
theorem gather_stored {size w i : Nat} {l : List (Nat × Nat)} (hl : ∀ q ∈ l, q.1 / size * size = w) :
    (gather size l).1.testBit i = (storedByte l (w + i)).isSome ∧ ∀ b, storedByte l (w + i) = some b → byteOf (gather size l).2 i = b := by
  induction l using List.reverseRecOn with
  | nil => exact ⟨Nat.zero_testBit i, fun b h => by cases h⟩
  | append_singleton l q ih =>
    obtain ⟨bits, bytes⟩ := ih fun x hx => hl x (List.mem_append_left _ hx)
    have unit : q.1 = w + q.1 % size := by rw [← hl q (by simp), Nat.div_add_mod']
    have cov : covers (w + i) q = decide (q.1 % size ≤ i ∧ i < q.1 % size + 4) := by
      unfold covers
      rw [decide_eq_decide]
      omega
    rw [gather_append, storedByte_append, cov]
    dsimp only
    rw [Nat.testBit_or, testBit_enable, bits, byteOf_setBits]
    by_cases inside : q.1 % size ≤ i ∧ i < q.1 % size + 4
    · rw [decide_eq_true inside, if_pos rfl, if_pos inside, Bool.or_true]
      refine ⟨rfl, fun b h => ?_⟩
      rw [← Option.some_inj, ← h, show w + i - q.1 = i - q.1 % size by omega]
    · rw [decide_eq_false inside, if_neg Bool.false_ne_true, if_neg inside, Bool.or_false]
      exact ⟨rfl, bytes⟩

/-! ### Units of memory written -/

/-- Of the `size` bytes at `a` of die `d` those that `en` enables take the bytes of `data`; every other byte reads as before. -/
def State.UnitWritten (s t : State) (d a size en data : Nat) : Prop := ∀ e y, y < 2 ^ 32 → t.byte e y =
  if e = d ∧ a ≤ y ∧ y < a + size ∧ en.testBit (y - a) = true then byteOf data (y - a) else s.byte e y

/-- The words of `l`, of addresses from `base`, are stored in turn, in the units that `ws` lists. -/
def State.UnitsStored (s t : State) (d base size : Nat) (l : List (Nat × Nat)) (ws : List Nat) : Prop := ∀ e y, y < 2 ^ 32 → t.byte e y =
  if e = d ∧ base ≤ y ∧ (y - base) / size * size ∈ ws then (storedByte l (y - base)).getD (s.byte e y) else s.byte e y

section
variable {s t u : State} {d a base size w : Nat} {l : List (Nat × Nat)} {ws : List Nat}

/-- An aligned word that covers an address lies in its unit. -/
theorem unit_of_covers {q : Nat × Nat} {y : Nat} (hs : size % 4 = 0) (hq : q.1 % 4 = 0) (h : covers y q = true) :
    q.1 / size * size = y / size * size := by
  simp only [covers, decide_eq_true_eq] at h
  rcases Nat.eq_zero_or_pos size with rfl | positive
  · simp
  · obtain ⟨r, rfl⟩ : ∃ r, size = 4 * r := ⟨size / 4, by omega⟩
    obtain ⟨p, hp⟩ : ∃ p, q.1 = 4 * p := ⟨q.1 / 4, by omega⟩
    have quarter : y / 4 = p := by omega
    rw [← Nat.div_div_eq_div_mul, ← Nat.div_div_eq_div_mul, quarter, hp, Nat.mul_div_cancel_left _ (by decide)]

/-- A unit written with its gathered lanes. -/
theorem State.UnitWritten.stored (hs : size % 4 = 0) (hpos : 0 < size) (hl : ∀ q ∈ l, q.1 % 4 = 0) (hw : w / size * size = w)
    (h : s.UnitWritten t d (base + w) size (gather size (l.filter fun q => q.1 / size * size == w)).1
      (gather size (l.filter fun q => q.1 / size * size == w)).2) : s.UnitsStored t d base size l [w] := by
  intro e y hy
  rw [h e y hy]
  by_cases here : e = d ∧ base ≤ y ∧ (y - base) / size * size ∈ [w]
  · obtain ⟨rfl, above, unit⟩ := here
    rw [List.mem_singleton] at unit
    have below := Nat.mod_lt (y - base) hpos
    have split := Nat.div_add_mod' (y - base) size
    have offset : w + (y - (base + w)) = y - base := by omega
    obtain ⟨bits, bytes⟩ := gather_stored (size := size) (w := w) (i := y - (base + w))
      (l := l.filter fun q => q.1 / size * size == w) fun q hq => by simpa using (List.mem_filter.1 hq).2
    have all : storedByte (l.filter fun q => q.1 / size * size == w) (y - base) = storedByte l (y - base) :=
      storedByte_filter fun q hq hcov => by simpa [unit] using unit_of_covers hs (hl q hq) hcov
    rw [offset, all] at bits bytes
    rw [if_pos (show e = e ∧ base ≤ y ∧ (y - base) / size * size ∈ [w] from ⟨rfl, above, List.mem_singleton.2 unit⟩), bits]
    cases stored : storedByte l (y - base) with
    | none => simp
    | some b =>
      rw [if_pos ⟨rfl, by omega, by omega, rfl⟩, bytes b stored]
      rfl
  · rw [if_neg here, if_neg]
    rintro ⟨rfl, above, below, -⟩
    refine here ⟨rfl, by omega, List.mem_singleton.2 ?_⟩
    have offset : y - base = w + (y - (base + w)) := by omega
    have rest : y - (base + w) < size := by omega
    rw [offset]
    generalize y - (base + w) = r at rest
    rw [← hw, Nat.add_comm, Nat.add_mul_div_right _ _ hpos, Nat.div_eq_of_lt rest, Nat.zero_add, hw]

theorem State.UnitsStored.nil : s.UnitsStored s d base size l [] := fun e y _ => by simp

/-- One unit, then others. -/
theorem State.UnitsStored.cons (h : s.UnitsStored t d base size l [w]) (k : t.UnitsStored u d base size l ws) :
    s.UnitsStored u d base size l (w :: ws) := by
  intro e y hy
  rw [k e y hy, h e y hy]
  by_cases later : e = d ∧ base ≤ y ∧ (y - base) / size * size ∈ ws
  · obtain ⟨he, above, unit⟩ := later
    have both : e = d ∧ base ≤ y ∧ (y - base) / size * size ∈ w :: ws := ⟨he, above, List.mem_cons_of_mem _ unit⟩
    rw [if_pos ⟨he, above, unit⟩, if_pos both]
    cases storedByte l (y - base) with
    | none => simp
    | some b => rfl
  · rw [if_neg later]
    refine if_congr ?_ rfl rfl
    rw [List.mem_singleton, List.mem_cons]
    tauto

/-- All the units that the words reach. -/
theorem State.UnitsStored.whole (h : s.UnitsStored t d base size l ws) (hs : size % 4 = 0) (hl : ∀ q ∈ l, q.1 % 4 = 0)
    (hws : ∀ q ∈ l, q.1 / size * size ∈ ws) (e y : Nat) (hy : y < 2 ^ 32) :
    t.byte e y = if e = d then (storedByte (l.map fun q => (base + q.1, q.2)) y).getD (s.byte e y) else s.byte e y := by
  rw [h e y hy, storedByte_shift]
  by_cases he : e = d
  · rw [if_pos he]
    by_cases above : base ≤ y
    · rw [if_pos above]
      by_cases unit : (y - base) / size * size ∈ ws
      · rw [if_pos ⟨he, above, unit⟩]
      · rw [if_neg fun k => unit k.2.2, storedByte_none fun q hq => ?_]
        · rfl
        · by_contra cov
          rw [Bool.not_eq_false] at cov
          exact unit (unit_of_covers hs (hl q hq) cov ▸ hws q hq)
    · rw [if_neg above, if_neg fun k => above k.2.1]
      rfl
  · rw [if_neg he, if_neg fun k => he k.1]

end

end Sys2Proof.Machine
end

section
/-! SUPPORT. Stores to DMEM and to clutch SRAM (R66, R122, R188, R512): the bytes that they write, and what the kicks of a bank write
leave. -/

namespace Sys2Proof.Machine

/-! ### Memory alone -/

section
variable {s t u : State} {d n : Nat}

/-- Nothing but memory differs. -/
def State.MemOnly (s t : State) : Prop := { t with mem := s.mem } = s

theorem State.MemOnly.refl : s.MemOnly s := rfl

theorem State.MemOnly.eq (h : s.MemOnly t) : { t with mem := s.mem } = s := h

theorem State.MemOnly.trans (h : s.MemOnly t) (k : t.MemOnly u) : s.MemOnly u := by
  have step := congrArg (fun v : State => ({ v with mem := s.mem } : State)) k.eq
  exact step.trans h.eq

theorem State.MemOnly.get (h : s.MemOnly t) (f : Fld) (e i : Nat) : t.get f e i = s.get f e i :=
  (congrArg (fun v : State => v.get f e i) h.eq :)

theorem State.MemOnly.errs (h : s.MemOnly t) : t.errs = s.errs := (congrArg State.errs h.eq :)

theorem State.store_memOnly (s : State) (d a k v : Nat) : s.MemOnly (s.store d a k v) := by
  induction k generalizing s a v with
  | zero => rfl
  | succ k ih => exact State.MemOnly.trans (t := s.setByte d a (BitVec.ofNat 8 v)) rfl (ih ..)

theorem State.clearErr_none (h : s.errs = []) (d a : Nat) : s.clearErr d a = s := by
  unfold State.clearErr
  rw [h, Errs.erase, ← h]

/-! ### Halves and words -/

/-- A stored word of eight bytes, of which those not enabled were read before. -/
theorem State.store_unit {v en data : Nat} (s : State) (d a : Nat) (ha : a + 8 ≤ 2 ^ 32)
    (hv : ∀ i, i < 8 → byteOf v i = if en.testBit i = true then byteOf data i else s.byte d (a + i)) :
    s.UnitWritten (s.store d a 8 v) d a 8 en data := by
  intro e y hy
  rw [State.byte_store s d a 8 v e y ha hy]
  by_cases inside : e = d ∧ a ≤ y ∧ y < a + 8
  · obtain ⟨rfl, above, below⟩ := inside
    have byte := hv (y - a) (by omega)
    rw [show a + (y - a) = y by omega] at byte
    rw [if_pos ⟨rfl, above, below⟩]
    refine byte.trans (if_congr ?_ rfl rfl)
    exact ⟨fun k => ⟨rfl, above, below, k⟩, fun k => k.2.2.2⟩
  · rw [if_neg inside, if_neg fun k => inside ⟨k.1, k.2.1, k.2.2.1⟩]

/-- Merged with what stood there. -/
theorem State.store_merged (s : State) {d a : Nat} (ha : a + 8 ≤ 2 ^ 32) (en data : Nat) :
    s.UnitWritten (s.store d a 8 (mergeBytes 0 (en % 256) (s.load d a 8) data 8)) d a 8 en data := by
  refine State.store_unit s d a ha fun i hi => ?_
  rw [byteOf_mergeBytes _ _ _ hi, State.byteOf_load s d a hi, show 256 = 2 ^ 8 by decide, Nat.testBit_mod_two_pow, decide_eq_true hi,
    Bool.true_and]

theorem testBit_of_full {e i : Nat} (hi : i < 8) (h : e % 256 = 255) : e.testBit i = true := by
  have bit := Nat.testBit_mod_two_pow e 8 i
  rw [decide_eq_true hi, Bool.true_and] at bit
  rw [← bit, show 2 ^ 8 = 256 by decide, h, show 255 = 2 ^ 8 - 1 by decide, Nat.testBit_two_pow_sub_one, decide_eq_true hi]

theorem testBit_of_empty {e i : Nat} (hi : i < 8) (h : e % 256 = 0) : e.testBit i = false := by
  have bit := Nat.testBit_mod_two_pow e 8 i
  rw [decide_eq_true hi, Bool.true_and] at bit
  rw [← bit, show 2 ^ 8 = 256 by decide, h, Nat.zero_testBit]

/-- Nothing is enabled. -/
theorem State.UnitWritten.none {a en data : Nat} (h : en % 256 = 0) : s.UnitWritten s d a 8 en data := fun e y _ => by
  rw [if_neg]
  rintro ⟨-, above, below, on⟩
  rw [testBit_of_empty (by omega) h] at on
  cases on

/-! ### Stores to DMEM -/

theorem newtLocal_eq (n o : Nat) : newtLocal n o = newtLocal n 0 + o := by
  unfold newtLocal
  omega

/-- A word of DMEM, where no error is found. -/
theorem State.newtWriteWord_sound {o en data inst : Nat} (herr : s.errs = []) (hinj : s.get .FLT_INJ_COUNT d (newtSet n) = 0)
    (ho : newtLocal n o + 8 ≤ 2 ^ 32) : (s.newtWriteWord d n o en data inst).2 = [] ∧ s.MemOnly (s.newtWriteWord d n o en data inst).1 ∧
      s.UnitWritten (s.newtWriteWord d n o en data inst).1 d (newtLocal n o) 8 en data := by
  have stored (v : Nat) : (s.store d (newtLocal n o) 8 v).clearErr d (newtLocal n o) = s.store d (newtLocal n o) 8 v :=
    State.clearErr_none ((s.store_memOnly ..).errs.trans herr) ..
  unfold State.newtWriteWord
  dsimp only
  by_cases empty : en % 256 = 0
  · rw [if_pos empty]
    exact ⟨rfl, State.MemOnly.refl, State.UnitWritten.none empty⟩
  · rw [if_neg empty]
    by_cases full : en % 256 = 255
    · rw [if_pos full, stored]
      refine ⟨rfl, s.store_memOnly .., State.store_unit s d _ ho fun i hi => ?_⟩
      rw [if_pos (testBit_of_full hi full)]
    · rw [if_neg full, State.afterNewtCheck_sound herr hinj, State.newtCheck_sound herr hinj, stored]
      exact ⟨rfl, s.store_memOnly .., s.store_merged ho en data⟩

/-- The words of a store to DMEM, in turn. -/
theorem State.storeDmem_sound {l : List (Nat × Nat)} {ws : List Nat} (herr : s.errs = []) (hinj : s.get .FLT_INJ_COUNT d (newtSet n) = 0)
    (hl : ∀ q ∈ l, q.1 % 4 = 0) (hws : ∀ w ∈ ws, w / 8 * 8 = w ∧ newtLocal n w + 8 ≤ 2 ^ 32) :
    (s.storeDmem d n l ws).2 = [] ∧ s.MemOnly (s.storeDmem d n l ws).1 ∧
      s.UnitsStored (s.storeDmem d n l ws).1 d (newtLocal n 0) 8 l ws := by
  induction ws generalizing s with
  | nil => exact ⟨rfl, State.MemOnly.refl, State.UnitsStored.nil⟩
  | cons w ws ih =>
    obtain ⟨unit, room⟩ := hws w List.mem_cons_self
    obtain ⟨silent, only, written⟩ := State.newtWriteWord_sound (s := s) (d := d) (n := n)
      (en := (gather 8 (l.filter fun q => q.1 / 8 * 8 == w)).1) (data := (gather 8 (l.filter fun q => q.1 / 8 * 8 == w)).2)
      (inst := s.newtSlot d n) herr hinj room
    have first : s.UnitsStored _ d (newtLocal n 0) 8 l [w] := State.UnitWritten.stored (by decide) (by decide) hl unit
      (newtLocal_eq n w ▸ written)
    obtain ⟨silent', only', rest⟩ := ih (only.errs.trans herr) ((only.get ..).trans hinj) fun v hv => hws v (List.mem_cons_of_mem _ hv)
    rw [State.storeDmem]
    dsimp only
    exact ⟨by rw [silent, silent']; rfl, only.trans only', first.cons rest⟩

end

/-! ### What a bank's access leaves beside its data (R169, R192, R224) -/

/-- The cells that collisions and kicks write. -/
def bankFlds : List Fld := [.BANK_COLL_WADDR, .BANK_COLL_KIND, .BANK_COLL_VALID, .BANK_COLL_AMASTER, .BANK_COLL_BMASTER,
  .BANK_COLL_OVF, .CHORUS_XKICK_CNT, .GRP_STAT_KICKS, .DMA_STATUS_BUSY, .DMA_CUR, .DMA_PHASE, .DMA_CLASS, .DMA_DOM, .DMA_BYREG,
  .DMA_STATUS_QDEPTH, .DMA_STATUS_KOVF]

/-- Those, and the cells that raises write. -/
def kickFlds : List Fld := raiseFlds ++ bankFlds

/-- Only such cells differ, and what is neither memory nor a check word. -/
structure State.Beside (s t : State) : Prop where
  sameBut : s.SameBut t kickFlds
  mem : t.mem = s.mem
  errs : t.errs = s.errs

namespace State.Beside
variable {s t u : State} {f : Fld} {d i v w n port : Nat}

theorem refl : s.Beside s := ⟨State.SameBut.refl, rfl, rfl⟩

theorem trans (h : s.Beside t) (k : t.Beside u) : s.Beside u := ⟨h.sameBut.trans k.sameBut, k.mem.trans h.mem, k.errs.trans h.errs⟩

theorem put (h : s.Beside t) (hf : f ∈ kickFlds) : s.Beside (t.put f d i v) :=
  ⟨h.sameBut.put hf, by rw [State.put_mem, h.mem], by rw [State.put_errs, h.errs]⟩

theorem incSat (h : s.Beside t) (hf : f ∈ kickFlds) : s.Beside (t.incSat f d i n) := h.put hf

theorem ite {c : Prop} [Decidable c] {a b : State} (ha : s.Beside a) (hb : s.Beside b) : s.Beside (if c then a else b) := by
  split <;> assumption

theorem when {c : Prop} [Decidable c] {g : State → State} (h : s.Beside t) (hg : ∀ u, s.Beside u → s.Beside (g u)) :
    s.Beside (t.when c g) := State.when_keeps (P := fun u => s.Beside u) t h (hg t h)

theorem raises {b : Nat} {l : List Raise} (h : s.Beside t) : s.Beside (t.raises d b l) := by
  cases hr : Raise.first (Raise.join l) with
  | none =>
    unfold State.raises State.raisesAt
    rw [hr]
    exact h
  | some r =>
    obtain ⟨cells, rest⟩ := t.raisesAt_within (t.capture d) d b hr
    exact h.trans ⟨fun f e j hf => cells ⟨f, e, j⟩ fun hm => hf (List.mem_append_left _ (fld_of_mem_raiseCells hm)),
      (congrArg State.mem rest :), (congrArg State.errs rest :)⟩

theorem byte (h : s.Beside t) (e a : Nat) : t.byte e a = s.byte e a := by
  unfold State.byte
  rw [h.mem]

theorem banksSound (h : s.Beside t) (hb : s.BanksSound d) : t.BanksSound d :=
  ⟨h.errs.trans hb.1, (h.sameBut _ _ _ (by decide)).trans hb.2⟩

theorem collide {kind am bm : Nat} (h : s.Beside t) : s.Beside (t.collide d w kind am bm) := by
  refine .ite ?_ (h.incSat (by decide))
  iterate 5 refine .put ?_ (by decide)
  exact h

theorem passLock {master : Nat} (h : s.Beside t) : s.Beside (t.passLock d w port master) := h.when fun _ k => k.collide

/-- A read of a bank without errors, which may be offline. -/
theorem wordRead {master halves : Nat} (h : s.Beside t) (hb : s.BanksSound d) : s.Beside (t.wordRead d w port master halves).1 := by
  have passed := h.passLock (d := d) (w := w) (port := port) (master := master)
  unfold State.wordRead State.bankRead State.bankReadRaw
  dsimp only
  split
  · exact passed.raises
  · rw [State.readHalves_sound (passed.banksSound hb)]
    exact passed.raises

theorem update {ready kicks} (h : s.Beside t) : s.Beside { t with ready := ready, kicks := kicks } := ⟨h.sameBut, h.mem, h.errs⟩

theorem chorusKick {g : Nat} (h : s.Beside t) : s.Beside (t.chorusKick d g) :=
  .ite (h.incSat (by decide)).raises ((h.incSat (by decide)).when fun _ k => .ite k k.update)

theorem dmaBegin {k : Kick} (h : s.Beside t) : s.Beside (t.dmaBegin k) := by
  iterate 6 refine .put ?_ (by decide)
  exact h

theorem readAhead {k : Kick} (h : s.Beside t) (hb : s.BanksSound k.die) : s.Beside (t.readAhead k).1 := by
  unfold State.readAhead
  split
  · exact h
  · exact h.wordRead hb

theorem dmaKick {k : Kick} (h : s.Beside t) (hb : s.BanksSound k.die) : s.Beside (t.dmaKick k) :=
  .ite (h.readAhead hb).dmaBegin (.ite ((h.readAhead hb).put (by decide)).update (h.put (by decide)).raises)

theorem kickWord (h : s.Beside t) (hb : s.BanksSound d) : s.Beside (t.kickWord d w v) := by
  unfold State.kickWord
  dsimp only
  refine .when (h.when fun _ k => k.chorusKick) fun _ k => k.dmaKick hb

theorem kickWords {en : Nat} (h : s.Beside t) (hb : s.BanksSound d) : s.Beside (t.kickWords d w en) :=
  State.each_keeps (P := fun u => s.Beside u) t h fun _ _ _ k => k.when fun _ l => l.kickWord hb

end State.Beside

end Sys2Proof.Machine
end

section
/-! SUPPORT. Stores to clutch SRAM (R110, R122, R188), and what a store leaves. -/

namespace Sys2Proof.Machine

section
variable {s t u : State} {d n w : Nat}

/-! ### A word of clutch SRAM -/

/-- A half written with what was read of it, which is not needed where all or none of its bytes are enabled. -/
theorem State.writeHalf_written {a en old new : Nat} (herr : s.errs = []) (ha : a + 8 ≤ 2 ^ 32)
    (hold : ¬ (en % 256 = 0 ∨ en % 256 = 255) → old = s.load d a 8) :
    s.MemOnly (s.writeHalf d a 0 en old new) ∧ s.UnitWritten (s.writeHalf d a 0 en old new) d a 8 en new := by
  have stored (v : Nat) : (s.store d a 8 v).clearErr d a = s.store d a 8 v :=
    State.clearErr_none ((s.store_memOnly ..).errs.trans herr) ..
  unfold State.writeHalf
  by_cases empty : en % 256 = 0
  · rw [if_pos empty]
    exact ⟨State.MemOnly.refl, State.UnitWritten.none empty⟩
  · rw [if_neg empty, stored]
    refine ⟨s.store_memOnly .., ?_⟩
    by_cases full : en % 256 = 255
    · refine State.store_unit s d a ha fun i hi => ?_
      rw [byteOf_mergeBytes _ _ _ hi, if_pos (testBit_of_full hi (by rw [full])), if_pos (testBit_of_full hi full)]
    · rw [hold (by simp [empty, full])]
      exact s.store_merged ha en new

/-- Two halves. -/
theorem State.UnitWritten.halves {en data : Nat} (h : s.UnitWritten t d w 8 en (data % 2 ^ 64))
    (k : t.UnitWritten u d (w + 8) 8 (en / 256) (data / 2 ^ 64)) : s.UnitWritten u d w 16 en data := by
  have half : 2 ^ 64 = 256 ^ 8 := by decide
  rw [half] at h k
  intro e y hy
  rw [k e y hy, h e y hy]
  by_cases high : e = d ∧ w + 8 ≤ y ∧ y < w + 16
  · obtain ⟨rfl, above, below⟩ := high
    have bit : (en / 256).testBit (y - (w + 8)) = en.testBit (y - w) := by
      rw [show 256 = 2 ^ 8 by decide, Nat.testBit_div_two_pow, show y - (w + 8) + 8 = y - w by omega]
    have byte : byteOf (data / 256 ^ 8) (y - (w + 8)) = byteOf data (y - w) := by
      rw [← byteOf_add, show 8 + (y - (w + 8)) = y - w by omega]
    have outside : ¬ (e = e ∧ w ≤ y ∧ y < w + 8 ∧ en.testBit (y - w) = true) := fun q => by omega
    rw [bit, byte, if_neg outside]
    refine if_congr ?_ rfl rfl
    exact ⟨fun q => ⟨rfl, by omega, by omega, q.2.2.2⟩, fun q => ⟨rfl, above, by omega, q.2.2.2⟩⟩
  · rw [if_neg fun q => high ⟨q.1, q.2.1, by omega⟩]
    by_cases low : e = d ∧ w ≤ y ∧ y < w + 8
    · obtain ⟨rfl, above, below⟩ := low
      rw [byteOf_mod _ (show y - w < 8 by omega)]
      refine if_congr ?_ rfl rfl
      exact ⟨fun q => ⟨rfl, above, by omega, q.2.2.2⟩, fun q => ⟨rfl, above, below, q.2.2.2⟩⟩
    · rw [if_neg fun q => low ⟨q.1, q.2.1, q.2.2.1⟩, if_neg fun q => ?_]
      by_cases half : y < w + 8
      · exact low ⟨q.1, q.2.1, half⟩
      · exact high ⟨q.1, by omega, q.2.2.1⟩

/-- The halves that a plain write reads first. -/
theorem halvesRead_plain (en : Nat) : (halvesRead 0 en % 2 = 1 ↔ ¬ (en % 256 = 0 ∨ en % 256 = 255)) ∧
    (halvesRead 0 en / 2 % 2 = 1 ↔ ¬ (en / 256 % 256 = 0 ∨ en / 256 % 256 = 255)) := by
  unfold halvesRead
  dsimp only
  rw [if_pos rfl]
  constructor
  · by_cases low : en % 256 = 0 ∨ en % 256 = 255
    · rw [if_pos low]
      simp only [low, not_true_eq_false, iff_false]
      split <;> decide
    · rw [if_neg low, Nat.add_mul_mod_self_left]
      simp [low]
  · by_cases high : en / 256 % 256 = 0 ∨ en / 256 % 256 = 255
    · rw [if_pos high]
      simp only [high, not_true_eq_false, iff_false]
      split <;> decide
    · rw [if_neg high]
      simp only [high, not_false_eq_true, iff_true]
      split <;> decide

theorem State.halvesData_parts (s : State) (d w k : Nat) : s.halvesData d w k % 2 ^ 64 = (if k % 2 = 1 then s.load d w 8 else 0) ∧
    s.halvesData d w k / 2 ^ 64 = if k / 2 % 2 = 1 then s.load d (w + 8) 8 else 0 := by
  have low : (if k % 2 = 1 then s.load d w 8 else 0) < 2 ^ 64 := by
    split
    · exact s.load_lt d w 8
    · exact Nat.two_pow_pos 64
  unfold State.halvesData
  rw [Nat.add_mul_mod_self_right, Nat.mod_eq_of_lt low, Nat.add_mul_div_right _ _ (Nat.two_pow_pos 64), Nat.div_eq_of_lt low, Nat.zero_add]
  exact ⟨rfl, rfl⟩

/-- What a write of one unit leaves: its bytes, and beside them the cells of kicks and collisions. -/
structure State.Written (s t : State) (d a size en data : Nat) : Prop where
  bytes : s.UnitWritten t d a size en data
  sameBut : s.SameBut t kickFlds
  errs : t.errs = s.errs

theorem State.Written.banksSound {a size en data : Nat} (h : s.Written t d a size en data) (hb : s.BanksSound d) : t.BanksSound d :=
  ⟨h.errs.trans hb.1, (h.sameBut _ _ _ (by decide)).trans hb.2⟩

/-- A plain write of a word of a sound bank. -/
theorem State.bankWrite_written {en data port : Nat} (hb : s.BanksSound d) (hoff : s.offline d w = false) (hw : w + 16 ≤ 2 ^ 32) :
    s.Written (s.bankWrite d w port 0 en data).1 d w 16 en data := by
  obtain ⟨readLow, readHigh⟩ := halvesRead_plain en
  obtain ⟨lowPart, highPart⟩ := s.halvesData_parts d w (halvesRead 0 en)
  obtain ⟨only, low⟩ := State.writeHalf_written (s := s) (d := d) (a := w) (en := en) (new := data % 2 ^ 64)
    (old := s.halvesData d w (halvesRead 0 en) % 2 ^ 64) hb.1 (by omega) fun h => by rw [lowPart, if_pos (readLow.2 h)]
  have raw : s.bankWriteRaw d w port 0 en data = ⟨(s.writeHalf d w 0 en (s.halvesData d w (halvesRead 0 en) % 2 ^ 64) (data % 2 ^ 64)).writeHalf
      d (w + 8) 0 (en / 256) (s.halvesData d w (halvesRead 0 en) / 2 ^ 64) (data / 2 ^ 64), 0, false, []⟩ := by
    unfold State.bankWriteRaw
    rw [if_neg (by rw [hoff]; decide), State.readHalves_sound hb]
  generalize s.writeHalf d w 0 en (s.halvesData d w (halvesRead 0 en) % 2 ^ 64) (data % 2 ^ 64) = m at *
  have unread : m.load d (w + 8) 8 = s.load d (w + 8) 8 := State.load_congr _ _ _ fun i hi => by
    rw [low d (w + 8 + i) (by omega), if_neg (by omega)]
  obtain ⟨only', high⟩ := State.writeHalf_written (s := m) (d := d) (a := w + 8) (en := en / 256) (new := data / 2 ^ 64)
    (old := s.halvesData d w (halvesRead 0 en) / 2 ^ 64) (only.errs.trans hb.1) (by omega) fun h => by
      rw [highPart, if_pos (readHigh.2 h), unread]
  unfold State.bankWrite
  rw [raw]
  generalize m.writeHalf d (w + 8) 0 (en / 256) (s.halvesData d w (halvesRead 0 en) / 2 ^ 64) (data / 2 ^ 64) = v at *
  have memory := only.trans only'
  have sound : v.BanksSound d := ⟨memory.errs.trans hb.1, (memory.get ..).trans hb.2⟩
  have kicks : v.Beside (v.kickWords d w en) := State.Beside.refl.kickWords sound
  refine ⟨fun e y hy => (kicks.byte e y).trans (low.halves high e y hy), fun f e i hf => (kicks.sameBut f e i hf).trans (memory.get ..),
    kicks.errs.trans memory.errs⟩

/-- A newt's plain write of a word. -/
theorem State.newtWord_written {later en data : Nat} {io : AccessMeets} (hmet : io.met = []) (hb : s.BanksSound d)
    (hoff : s.offline d w = false) (hw : w + 16 ≤ 2 ^ 32) : s.Written (s.newtWord d n w later io .write en data).1 d w 16 en data := by
  have free : AccessMeets.atWord io w = none := by rw [AccessMeets.atWord, hmet]; rfl
  have passed : s.Beside (s.passLock d w 0 n) := State.Beside.refl.passLock
  have writes : (s.newtWord d n w later io .write en data).1 = ((s.passLock d w 0 n).bankWrite d w 0 0 en data).1 := by
    unfold State.newtWord
    rw [free]
    dsimp only
    rw [if_neg (by decide)]
    unfold State.wordWrite
    rw [if_neg (by simp)]
    rfl
  rw [writes]
  have done := State.bankWrite_written (port := 0) (en := en) (data := data) (passed.banksSound hb)
    (show (s.passLock d w 0 n).offline d w = false by
      unfold State.offline State.on at hoff ⊢
      rwa [passed.sameBut _ _ _ (by decide)]) hw
  refine ⟨fun e y hy => ?_, fun f e i hf => (done.sameBut f e i hf).trans (passed.sameBut f e i hf), done.errs.trans passed.errs⟩
  rw [done.bytes e y hy, passed.byte]

end

/-! ### A store, whole -/

section
variable {s t v o : State} {d n r : Nat} {vec sram : Bool} {l : List (Nat × Nat)} {io : AccessMeets}

/-- The words of a store to clutch SRAM, in turn. -/
theorem State.storeWords_stored {sl : List (Nat × Nat × Nat)} {ws : List (Nat × Nat)} (hmet : io.met = []) (hkind : ∀ x ∈ sl, x.2.2 = 0)
    (hlow : ∀ x ∈ sl, x.2.1 % 4 = 0) (later : Nat)
    (hws : ∀ w ∈ ws, w.2 = 0 ∧ w.1 / 16 * 16 = w.1 ∧ w.1 + 16 ≤ 2 ^ 32 ∧ s.BanksSound d ∧ s.offline d w.1 = false) :
    s.UnitsStored (s.storeWords o d n vec r sl io later ws) d 0 16 (sl.map fun x => (x.2.1, o.storeFrom d n vec r x.1)) (ws.map Prod.fst) ∧
      s.SameBut (s.storeWords o d n vec r sl io later ws) kickFlds := by
  induction ws generalizing s later with
  | nil => exact ⟨State.UnitsStored.nil, State.SameBut.refl⟩
  | cons w ws ih =>
    obtain ⟨plain, unit, room, sound, online⟩ := hws w List.mem_cons_self
    have mine : (sl.filter fun x => x.2.1 / 16 * 16 == w.1 && x.2.2 == w.2).map (fun x => (x.2.1, o.storeFrom d n vec r x.1)) =
        (sl.map fun x => (x.2.1, o.storeFrom d n vec r x.1)).filter fun q => q.1 / 16 * 16 == w.1 := by
      rw [List.filter_map]
      refine congrArg _ (List.filter_congr fun x hx => ?_)
      rw [hkind x hx, plain]
      simp
    rw [State.storeWords]
    rw [mine, plain]
    have first := State.newtWord_written (s := s) (d := d) (n := n) (w := w.1) (later := later)
      (en := (gather 16 ((sl.map fun x => (x.2.1, o.storeFrom d n vec r x.1)).filter fun q => q.1 / 16 * 16 == w.1)).1)
      (data := (gather 16 ((sl.map fun x => (x.2.1, o.storeFrom d n vec r x.1)).filter fun q => q.1 / 16 * 16 == w.1)).2)
      hmet sound online room
    have low : ∀ q ∈ sl.map (fun x => (x.2.1, o.storeFrom d n vec r x.1)), q.1 % 4 = 0 := fun q hq => by
      obtain ⟨x, hx, rfl⟩ := List.mem_map.1 hq
      exact hlow x hx
    have written := first.bytes
    rw [← Nat.zero_add w.1] at written
    have stored := State.UnitWritten.stored (base := 0) (by decide) (by decide) low unit (by simpa using written)
    obtain ⟨rest, kept⟩ := ih (later + if 0 = 0 then 1 else 2) fun x hx => by
      obtain ⟨plain, unit, room, _, on⟩ := hws x (List.mem_cons_of_mem _ hx)
      refine ⟨plain, unit, room, first.banksSound sound, ?_⟩
      unfold State.offline State.on at on ⊢
      rwa [first.sameBut _ _ _ (by decide)]
    exact ⟨stored.cons rest, first.sameBut.trans kept⟩

/-- Each byte that a lane covers is that of the last lane to cover it; every other byte reads as before. -/
def State.BytesStored (s t : State) (d n : Nat) (sram : Bool) (l : List (Nat × Nat)) (val : Nat → Nat) : Prop :=
  ∀ e y, y < 2 ^ 32 → t.byte e y =
    if e = d then (storedByte (l.map fun x => (newtPlace n sram x.2, val x.1)) y).getD (s.byte e y) else s.byte e y

/-- What a store leaves: beside memory the cells of kicks, and nothing where it reaches DMEM. -/
structure State.Stores (s t : State) (d n : Nat) (sram : Bool) (l : List (Nat × Nat)) (val : Nat → Nat) : Prop where
  bytes : s.BytesStored t d n sram l val
  sameBut : s.SameBut t kickFlds
  memOnly : sram = false → s.MemOnly t

theorem State.stores_dmem (herr : v.errs = []) (hinj : v.get .FLT_INJ_COUNT d (newtSet n) = 0) (hn : n < 32) (hl : InDmem l) :
    v.Stores (v.storeSlot o d n vec r l io) d n false l (o.storeFrom d n vec r) := by
  have low : ∀ q ∈ l.map (fun x => (x.2, o.storeFrom d n vec r x.1)), q.1 % 4 = 0 := fun q hq => by
    obtain ⟨x, hx, rfl⟩ := List.mem_map.1 hq
    exact (hl x hx).1
  have words : ∀ w ∈ dmemWords l, w / 8 * 8 = w ∧ newtLocal n w + 8 ≤ 2 ^ 32 := fun w hw => by
    obtain ⟨x, hx, rfl⟩ := List.mem_map.1 (List.mem_eraseDups.1 hw)
    have small := (hl x hx).2
    unfold newtLocal
    omega
  obtain ⟨silent, only, stored⟩ := State.storeDmem_sound (s := v) herr hinj low words
  have result : v.storeSlot o d n vec r l io = (v.storeDmem d n (l.map fun x => (x.2, o.storeFrom d n vec r x.1)) (dmemWords l)).1 := by
    have none : AccessMeets.kept io (sramWords []) = [] := by
      unfold AccessMeets.kept sramWords
      simp
    unfold State.storeSlot
    dsimp only
    rw [hl.dmemLanes, hl.sramLanes, hl.faultless.addrFaults]
    dsimp only
    rw [silent, List.append_nil, State.newtRaise_none, none]
    rfl
  rw [result]
  refine ⟨fun e y hy => ?_, fun f e i _ => only.get f e i, fun _ => only⟩
  rw [stored.whole (by decide) low (fun q hq => ?_) e y hy, List.map_map]
  · have place : (fun q : Nat × Nat => (newtLocal n 0 + q.1, q.2)) ∘ (fun x : Nat × Nat => (x.2, o.storeFrom d n vec r x.1)) =
        fun x => (newtPlace n false x.2, o.storeFrom d n vec r x.1) :=
      funext fun x => Prod.ext (newtLocal_eq n x.2).symm rfl
    rw [place]
  · obtain ⟨x, hx, rfl⟩ := List.mem_map.1 hq
    exact mem_dmemWords hx

theorem State.stores_sram (hmet : io.met = []) (hcut : io.cut = 0) (hn : n < 32) (hl : InSram l) (hopen : v.LanesOpen d n l) :
    v.Stores (v.storeSlot o d n vec r l io) d n true l (o.storeFrom d n vec r) := by
  have all : AccessMeets.kept io (sramWords (sramList n l)) = sramWords (sramList n l) := by
    unfold AccessMeets.kept
    rw [hcut, Nat.sub_zero, List.take_length, ite_self]
  have result : v.storeSlot o d n vec r l io = v.storeWords o d n vec r (sramList n l) io 0 (sramWords (sramList n l)) := by
    unfold State.storeSlot
    dsimp only
    rw [hl.dmemLanes, hl.sramLanes, hl.faultless.addrFaults]
    exact congrArg (v.storeWords o d n vec r (sramList n l) io 0) all
  have lane {x : Nat × Nat × Nat} (hx : x ∈ sramList n l) : ∃ y ∈ l, x = (y.1, sramLoc n y.2, 0) := by
    obtain ⟨y, hy, rfl⟩ := List.mem_map.1 hx
    exact ⟨y, hy, rfl⟩
  have low : ∀ x ∈ sramList n l, x.2.1 % 4 = 0 := fun x hx => by
    obtain ⟨y, hy, rfl⟩ := lane hx
    exact sramLoc_aligned (hl y hy).1
  obtain ⟨stored, kept⟩ := State.storeWords_stored (s := v) (o := o) (d := d) (n := n) (vec := vec) (r := r) (sl := sramList n l)
    (ws := sramWords (sramList n l)) hmet (fun x hx => by obtain ⟨y, -, rfl⟩ := lane hx; rfl) low 0 fun w hw => by
      obtain ⟨x, hx, rfl⟩ := mem_sramWords.1 hw
      obtain ⟨y, hy, rfl⟩ := lane hx
      obtain ⟨-, lo, hi⟩ := hl y hy
      obtain ⟨sound, online, -⟩ := hopen y hy
      refine ⟨rfl, ?_, ?_, sound, (v.offline_word ..).trans online⟩
      · dsimp only
        omega
      · dsimp only [sramLoc]
        omega
  rw [result]
  refine ⟨fun e y hy => ?_, kept, nofun⟩
  rw [stored.whole (by decide) (fun q hq => ?_) (fun q hq => ?_) e y hy]
  · simp only [sramList, List.map_map, Function.comp_def, Nat.zero_add]
    rfl
  · obtain ⟨x, hx, rfl⟩ := List.mem_map.1 hq
    exact low x hx
  · obtain ⟨x, hx, rfl⟩ := List.mem_map.1 hq
    exact List.mem_map.2 ⟨_, mem_sramWords.2 ⟨x, hx, rfl⟩, rfl⟩

theorem State.stores_of_reachable (herr : v.errs = []) (hinj : v.get .FLT_INJ_COUNT d (newtSet n) = 0) (hmet : io.met = [])
    (hcut : io.cut = 0) (hn : n < 32) (hl : v.Reachable d n sram l) :
    v.Stores (v.storeSlot o d n vec r l io) d n sram l (o.storeFrom d n vec r) := by
  cases sram
  · exact State.stores_dmem herr hinj hn hl
  · exact State.stores_sram hmet hcut hn hl.1 hl.2

/-- What the last lane to cover a word leaves there. -/
theorem State.BytesStored.load {val : Nat → Nat} {l₁ l₂ : List (Nat × Nat)} {x : Nat × Nat} (h : s.BytesStored t d n sram l val) (hl : l = l₁ ++ x :: l₂)
    (hroom : newtPlace n sram x.2 + 4 ≤ 2 ^ 32) (hlast : ∀ z ∈ l₂, newtPlace n sram z.2 + 4 ≤ newtPlace n sram x.2 ∨
      newtPlace n sram x.2 + 4 ≤ newtPlace n sram z.2) : t.load d (newtPlace n sram x.2) 4 = val x.1 % 2 ^ 32 := by
  refine (State.load_of_bytes (v := val x.1) fun i hi => ?_).trans (by rw [show 256 ^ 4 = 2 ^ 32 by decide])
  rw [h d _ (by omega), if_pos rfl, hl, List.map_append, List.map_cons, storedByte_last]
  · rw [Nat.add_sub_cancel_left]
    rfl
  · simp [covers, hi]
  · intro q hq
    obtain ⟨z, hz, rfl⟩ := List.mem_map.1 hq
    have apart := hlast z hz
    simp only [covers, decide_eq_false_iff_not]
    omega

/-- A byte that no lane covers. -/
theorem State.BytesStored.byte_other {val : Nat → Nat} (h : s.BytesStored t d n sram l val) {e y : Nat} (hy : y < 2 ^ 32)
    (hother : ∀ x ∈ l, ¬ (e = d ∧ newtPlace n sram x.2 ≤ y ∧ y < newtPlace n sram x.2 + 4)) : t.byte e y = s.byte e y := by
  rw [h e y hy]
  by_cases he : e = d
  · rw [if_pos he, storedByte_none fun q hq => ?_]
    · rfl
    · obtain ⟨x, hx, rfl⟩ := List.mem_map.1 hq
      have apart := hother x hx
      simp only [covers, decide_eq_false_iff_not]
      exact fun k => apart ⟨he, k⟩
  · rw [if_neg he]

end

end Sys2Proof.Machine
end

section
/-! SUPPORT. The loads and stores of an L instruction alone in its bundle (R110, R121, R122). -/

namespace Sys2Proof.Machine

section
variable {s t u : State} {d n r ar um q : Nat} {vec sram : Bool} {io : AccessMeets} {i : LIns} {l m : List Loc}

/-- Memory written before the bundle's end. -/
theorem State.Within.thenBoardsMem (h : s.Within { u with mem := s.mem } l) (ht : u.WithinBoards t m) :
    s.Within { t with boards := s.boards, mem := s.mem } (l ++ m) :=
  h.thenBoards (t := { t with mem := s.mem }) ⟨ht.1, congrArg (fun w : State => { w with mem := s.mem }) ht.2⟩

/-- A store completes: memory takes its words, the address register its update. -/
theorem completes_store {j : Instr} {io' : AccessMeets} {post : State → Prop} (hr : s.Ready d n) (hn : n < 32) (herr : s.errs = [])
    (hinj : s.get .FLT_INJ_COUNT d (newtSet n) = 0) (hmet : io'.met = []) (hcut' : io'.cut = 0) (hcut : io.cut = 0)
    (hi : newtInstr j = some ⟨d, n, true, .l i⟩) (hx : exec j s = .next (s.issueL d n true i io)) (hf : s.fetched j = true)
    (hlegal : LIns.legal (s.get .NEWT_CFG_LOOPSEL d n) i = true)
    (hslot : s.lSlot s d n io i = (s.postUpdate s d n ar um q).storeSlot s d n vec r (s.lLanes d n i).1 io')
    (hl : s.Reachable d n sram (s.lLanes d n i).1)
    (hpost : ∀ t, s.Issued t d n (s.get .NEWT_NEXT d n + 1) → t.get .DBG_A d (n * 12 + ar) = s.updated d n ar um q →
      t.get .NEWT_STALL_FAB d n = (s.get .NEWT_STALL_FAB d n + s.lBeats d n i io) % 2 ^ 32 →
      (sram = false → s.Within { t with boards := s.boards, mem := s.mem } (accessCells d n ar ++ issueCells d n)) →
      s.BytesStored t d n sram (s.lLanes d n i).1 (s.storeFrom d n vec r) → post t) : Completes j s post := by
  have update := s.postUpdate_within d n ar um q
  have updated := s.postUpdate_get d n ar um q
  have regs : ∀ c ∈ [(⟨.DBG_A, d, n * 12 + ar⟩ : Loc)], c.fld ∈ regFlds := fun c hc =>
    List.mem_singleton.1 hc ▸ (by decide : Fld.DBG_A ∈ regFlds)
  have stores : (s.postUpdate s d n ar um q).Stores (s.lSlot s d n io i) d n sram (s.lLanes d n i).1 (s.storeFrom d n vec r) := by
    rw [hslot]
    refine State.stores_of_reachable ?_ ?_ hmet hcut' hn (update.reachable regs hl)
    · exact (congrArg State.errs update.2 :).trans herr
    · exact (update.1 ⟨.FLT_INJ_COUNT, d, newtSet n⟩ (notMem_of_fld rfl)).trans hinj
  generalize s.postUpdate s d n ar um q = v at *
  have memory : v.mem = s.mem := (congrArg State.mem update.2 :)
  refine completes_issueL hr hi hx hf hcut hlegal (fun f hf => ?_) fun t issued ends beats _ => hpost t issued ?_ beats (fun dmem => ?_) ?_
  · rw [stores.sameBut f d n (by revert f; decide)]
    exact update.1 ⟨f, d, n⟩ (notMem_of_flds rfl hf d n)
  · rw [ends.get_fld (by decide) (notMem_of_fld rfl), stores.sameBut _ _ _ (by decide), updated]
  · have only := (stores.memOnly dmem).eq
    rw [memory] at only
    have within : s.Within { s.lSlot s d n io i with mem := s.mem } [⟨.DBG_A, d, n * 12 + ar⟩] := by
      rw [only]
      exact update
    exact (within.thenBoardsMem ends).mono (by simp [accessCells])
  · intro e y hy
    have bytes := stores.bytes e y hy
    unfold State.byte at bytes ⊢
    rwa [ends.mem_eq, ← memory]

/-! ### Scalar accesses -/

/-- LDS (R121). -/
theorem completes_lds (hr : s.Ready d n) (herr : s.errs = []) (hinj : s.get .FLT_INJ_COUNT d (newtSet n) = 0) (hmet : io.met = [])
    (hcut : io.cut = 0) (har : ar < 8) (hu : legalUpdate um q = true) (hl : s.Reachable d n sram (s.scalarLane d n ar))
    (hf : s.fetched (.lds d n true r ar um q io) = true) : Completes (.lds d n true r ar um q io) s fun t =>
      t.sReg d n r = s.load d (newtPlace n sram (s.get .DBG_A d (n * 12 + ar))) 4 ∧
      (t.get .DBG_A d (n * 12 + ar) = s.updated d n ar um q ∧ t.get .NEWT_STALL_FAB d n =
        (s.get .NEWT_STALL_FAB d n + if sram = true ∨ s.scalarLane d n ar = [] then 0 else io.fab) % 2 ^ 32) ∧
      s.Ran t d n (s.get .NEWT_NEXT d n + 1) (loadCells d n false r ++ accessCells d n ar) := by
  refine completes_load (i := .lds r ar um q) (vec := false) (sram := sram)
    (val := fun _ => s.load d (newtPlace n sram (s.get .DBG_A d (n * 12 + ar))) 4) hr herr hinj hmet hcut rfl rfl hf ?_ rfl hl nofun
    (fun x hx => by rw [List.mem_singleton.1 hx]) fun t update beats ran same loads => ⟨?_, ⟨update, ?_⟩, ran⟩
  · simp [LIns.legal, legalAr_of _ har, hu]
  · have word := s.load_lt d (newtPlace n sram (s.get .DBG_A d (n * 12 + ar))) 4
    rw [State.sReg, same _ (by decide)]
    refine (loads.seen (fun u => u.sReg d n r) 0 (s.load d (newtPlace n sram (s.get .DBG_A d (n * 12 + ar))) 4) fun x hx v => ?_).trans ?_
    · rw [List.mem_singleton.1 hx, if_pos rfl]
      exact (State.get_put_same ..).trans (Nat.mod_eq_of_lt word)
    · exact if_pos ⟨_, List.mem_singleton.2 rfl, rfl⟩
  · rw [beats, State.lBeats_eq (i := .lds r ar um q) hl]
    rfl

/-- STS (R121). -/
theorem completes_sts (hr : s.Ready d n) (hn : n < 32) (herr : s.errs = []) (hinj : s.get .FLT_INJ_COUNT d (newtSet n) = 0)
    (hmet : io.met = []) (hcut : io.cut = 0) (har : ar < 8) (hu : legalUpdate um q = true) (hl : s.Reachable d n sram (s.scalarLane d n ar))
    (hf : s.fetched (.sts d n true r ar um q io) = true) : Completes (.sts d n true r ar um q io) s fun t =>
      (s.Issued t d n (s.get .NEWT_NEXT d n + 1) ∧ (t.get .DBG_A d (n * 12 + ar) = s.updated d n ar um q ∧ t.get .NEWT_STALL_FAB d n =
        (s.get .NEWT_STALL_FAB d n + if sram = true ∨ s.scalarLane d n ar = [] then 0 else io.fab) % 2 ^ 32) ∧
        (sram = false → s.Within { t with boards := s.boards, mem := s.mem } (accessCells d n ar ++ issueCells d n))) ∧
      s.BytesStored t d n sram (s.scalarLane d n ar) (s.storeFrom d n false r) := by
  refine completes_store (i := .sts r ar um q) (vec := false) (sram := sram) (io' := { io with cut := 0 }) hr hn herr hinj hmet rfl hcut rfl rfl
    hf ?_ rfl hl fun t issued update beats within bytes => ⟨⟨issued, ⟨update, ?_⟩, within⟩, bytes⟩
  · simp [LIns.legal, legalAr_of _ har, hu]
  · rw [beats, State.lBeats_eq (i := .sts r ar um q) hl]
    rfl

/-! ### Vector accesses -/

variable {p sm smi : Nat}

theorem mem_vecLanes {x : Nat × Nat} : x ∈ s.vecLanes d n ar p sm smi ↔
    (x.1 < 8 ∧ bitAt (s.pReg d n p) x.1 = 1) ∧ x.2 = s.addrBy d n ar (x.1 * s.strideOf d n sm smi) := by
  unfold State.vecLanes
  rw [List.mem_map]
  constructor
  · rintro ⟨k, hk, rfl⟩
    exact ⟨mem_lanesOf.1 hk, rfl⟩
  · rintro ⟨hk, ha⟩
    exact ⟨x.1, mem_lanesOf.2 hk, Prod.ext rfl ha.symm⟩

/-- A predicate without lanes is 0. -/
theorem vecLanes_eq_nil_iff (hc : s.canonical = true) : s.vecLanes d n ar p sm smi = [] ↔ s.pReg d n p = 0 := by
  have byte : s.pReg d n p < 2 ^ 8 := State.pReg_lt hc
  unfold State.vecLanes
  rw [List.map_eq_nil_iff]
  constructor
  · intro none
    refine Nat.eq_of_testBit_eq fun k => ?_
    rw [Nat.zero_testBit]
    by_cases hk : k < 8
    · by_contra on
      have lane : k ∈ lanesOf (s.pReg d n p) := mem_lanesOf.2 ⟨hk, (bitAt_eq_one_iff ..).2 (by simpa using on)⟩
      rw [none] at lane
      cases lane
    · exact Nat.testBit_lt_two_pow (lt_of_lt_of_le byte (Nat.pow_le_pow_right two_pos (not_lt.1 hk)))
  · intro zero
    rw [zero]
    rfl

/-- VLD (R121, R122). -/
theorem completes_vld (hr : s.Ready d n) (herr : s.errs = []) (hinj : s.get .FLT_INJ_COUNT d (newtSet n) = 0) (hmet : io.met = [])
    (hcut : io.cut = 0) (har : ar < 8) (hu : legalUpdate um q = true) (hst : legalStride sm smi = true)
    (hl : s.Reachable d n sram (s.vecLanes d n ar p sm smi)) (hf : s.fetched (.vld d n true r ar p sm smi um q io) = true) :
    Completes (.vld d n true r ar p sm smi um q io) s fun t =>
      (t.get .DBG_A d (n * 12 + ar) = s.updated d n ar um q ∧ t.get .NEWT_STALL_FAB d n =
        (s.get .NEWT_STALL_FAB d n + if sram = true ∨ s.vecLanes d n ar p sm smi = [] then 0 else io.fab) % 2 ^ 32) ∧
      s.Ran t d n (s.get .NEWT_NEXT d n + 1) (loadCells d n true r ++ accessCells d n ar) ∧
      ∀ k, k < 8 → t.vReg d n r k = if bitAt (s.pReg d n p) k = 1
        then s.load d (newtPlace n sram (s.addrBy d n ar (k * s.strideOf d n sm smi))) 4 else s.vReg d n r k := by
  refine completes_load (i := .vld r ar p sm smi um q) (vec := true) (sram := sram)
    (val := fun k => s.load d (newtPlace n sram (s.addrBy d n ar (k * s.strideOf d n sm smi))) 4) hr herr hinj hmet hcut rfl rfl hf ?_ rfl hl
    (fun _ x hx => (mem_vecLanes.1 hx).1.1) (fun x hx => by rw [(mem_vecLanes.1 hx).2]) fun t update beats ran same loads =>
      ⟨⟨update, ?_⟩, ran, fun k hk => ?_⟩
  · simp [LIns.legal, legalAr_of _ har, hu, hst]
  · rw [beats, State.lBeats_eq (i := .vld r ar p sm smi um q) hl]
    rfl
  · have word := s.load_lt d (newtPlace n sram (s.addrBy d n ar (k * s.strideOf d n sm smi))) 4
    have before : (s.postUpdate s d n ar um q).vReg d n r k = s.vReg d n r k :=
      (s.postUpdate_within d n ar um q).1 ⟨.DBG_V, d, n * 256 + r * 8 + k⟩ (by simp)
    rw [State.vReg, same _ (by decide)]
    refine (loads.seen (fun u => u.vReg d n r k) k (s.load d (newtPlace n sram (s.addrBy d n ar (k * s.strideOf d n sm smi))) 4)
      fun x hx v => ?_).trans ?_
    · refine (State.vReg_setV (mem_vecLanes.1 hx).1.1 hk).trans ?_
      by_cases own : x.1 = k
      · rw [if_pos ⟨rfl, own.symm⟩, if_pos own, own]
        exact Nat.mod_eq_of_lt word
      · rw [if_neg fun h => own h.2.symm, if_neg own]
    · rw [before]
      refine if_congr ⟨?_, fun on => ?_⟩ rfl rfl
      · rintro ⟨x, hx, rfl⟩
        exact (mem_vecLanes.1 hx).1.2
      · exact ⟨(k, s.addrBy d n ar (k * s.strideOf d n sm smi)), mem_vecLanes.2 ⟨⟨hk, on⟩, rfl⟩, rfl⟩

/-- VST (R121, R122). -/
theorem completes_vst (hr : s.Ready d n) (hn : n < 32) (herr : s.errs = []) (hinj : s.get .FLT_INJ_COUNT d (newtSet n) = 0)
    (hmet : io.met = []) (hcut : io.cut = 0) (har : ar < 8) (hu : legalUpdate um q = true) (hst : legalStride sm smi = true) (hsm : sm ≠ 2)
    (hl : s.Reachable d n sram (s.vecLanes d n ar p sm smi)) (hf : s.fetched (.vst d n true r ar p sm smi um q io) = true) :
    Completes (.vst d n true r ar p sm smi um q io) s fun t =>
      (s.Issued t d n (s.get .NEWT_NEXT d n + 1) ∧ (t.get .DBG_A d (n * 12 + ar) = s.updated d n ar um q ∧ t.get .NEWT_STALL_FAB d n =
        (s.get .NEWT_STALL_FAB d n + if sram = true ∨ s.vecLanes d n ar p sm smi = [] then 0 else io.fab) % 2 ^ 32) ∧
        (sram = false → s.Within { t with boards := s.boards, mem := s.mem } (accessCells d n ar ++ issueCells d n))) ∧
      s.BytesStored t d n sram (s.vecLanes d n ar p sm smi) (s.storeFrom d n true r) := by
  refine completes_store (i := .vst r ar p sm smi um q) (vec := true) (sram := sram) (io' := io) hr hn herr hinj hmet hcut hcut rfl rfl
    hf ?_ rfl hl fun t issued update beats within bytes => ⟨⟨issued, ⟨update, ?_⟩, within⟩, bytes⟩
  · simp [LIns.legal, legalAr_of _ har, hu, hst, hsm]
  · rw [beats, State.lBeats_eq (i := .vst r ar p sm smi um q) hl]
    rfl

/-- The lanes past an enabled lane. -/
theorem vecLanes_split {k : Nat} (hk : k < 8) (on : bitAt (s.pReg d n p) k = 1) : ∃ l₁ l₂,
    s.vecLanes d n ar p sm smi = l₁ ++ (k, s.addrBy d n ar (k * s.strideOf d n sm smi)) :: l₂ ∧ ∀ z ∈ l₂, z ∈ s.vecLanes d n ar p sm smi ∧ k < z.1 := by
  obtain ⟨m₁, m₂, split⟩ := List.append_of_mem (mem_lanesOf.2 ⟨hk, on⟩)
  have rising : (lanesOf (s.pReg d n p)).Pairwise (· < ·) := List.pairwise_lt_range.filter _
  rw [split, List.pairwise_append] at rising
  obtain ⟨-, after, -⟩ := rising
  refine ⟨m₁.map fun k => (k, s.addrBy d n ar (k * s.strideOf d n sm smi)), m₂.map fun k => (k, s.addrBy d n ar (k * s.strideOf d n sm smi)),
    ?_, fun z hz => ?_⟩
  · rw [State.vecLanes, split, List.map_append, List.map_cons]
  · obtain ⟨j, hj, rfl⟩ := List.mem_map.1 hz
    refine ⟨List.mem_map.2 ⟨j, ?_, rfl⟩, List.rel_of_pairwise_cons after hj⟩
    rw [split]
    exact List.mem_append_right _ (List.mem_cons_of_mem _ hj)

end

/-! ### Places -/

section
variable {s : State} {d n : Nat} {sram : Bool} {l : List (Nat × Nat)}

/-- A reachable lane is aligned, and lies its own distance from the base of its memory. -/
theorem State.Reachable.lane (h : s.Reachable d n sram l) {x : Nat × Nat} (hx : x ∈ l) :
    x.2 % 4 = 0 ∧ (if sram then 0x01000000 ≤ x.2 ∧ x.2 < 0x01800000 else x.2 < 0x20000) := by
  cases sram
  · exact (show InDmem l from h) x hx
  · obtain ⟨inside, -⟩ := (show InSram l ∧ s.LanesOpen d n l from h)
    exact inside x hx

theorem State.Reachable.room (h : s.Reachable d n sram l) (hn : n < 32) {x : Nat × Nat} (hx : x ∈ l) : newtPlace n sram x.2 + 4 ≤ 2 ^ 32 := by
  obtain ⟨-, bounds⟩ := h.lane hx
  unfold newtPlace newtLocal sramLoc
  split_ifs at bounds ⊢ <;> omega

/-- Aligned words at different addresses lie apart. -/
theorem State.Reachable.apart (h : s.Reachable d n sram l) {x z : Nat × Nat} (hx : x ∈ l) (hz : z ∈ l) (hne : z.2 ≠ x.2) :
    newtPlace n sram z.2 + 4 ≤ newtPlace n sram x.2 ∨ newtPlace n sram x.2 + 4 ≤ newtPlace n sram z.2 := by
  obtain ⟨lowX, boundsX⟩ := h.lane hx
  obtain ⟨lowZ, boundsZ⟩ := h.lane hz
  unfold newtPlace newtLocal sramLoc
  split_ifs at boundsX boundsZ ⊢ <;> omega

end

end Sys2Proof.Machine
end

section
/-! SUPPORT. The words of the loads' and stores' statement, as the accesses give them. -/

namespace Sys2Proof.Machine

section
variable {s t : State} {d n r ar um u p sm smi : Nat} {sram : Bool} {l : List (Nat × Nat)}

/-- An address that a load or store may form: aligned, in DMEM, or in a sound and unlocked word of the newt's own clutch SRAM. -/
def State.Good (s : State) (d n : Nat) (sram : Bool) (q : Nat) : Prop :=
  q % 4 = 0 ∧ if sram then 0x01000000 ≤ q ∧ q < 0x01800000 ∧ s.Sound d (newtPlace n sram q) ∧
    s.wordLocked d (newtPlace n sram q / 16 * 16) = false else q < 0x20000

theorem State.reachable_of_good (h : ∀ x ∈ l, s.Good d n sram x.2) : s.Reachable d n sram l := by
  cases sram
  · exact h
  · refine ⟨fun x hx => ?_, fun x hx => ?_⟩
    · obtain ⟨low, lo, hi, -⟩ := h x hx
      exact ⟨low, lo, hi⟩
    · obtain ⟨-, -, -, ⟨-, online, sound⟩, free⟩ := h x hx
      exact ⟨sound, online, free⟩

theorem State.good_scalar (h : s.Good d n sram (s.get .DBG_A d (n * 12 + ar))) : s.Reachable d n sram (s.scalarLane d n ar) :=
  State.reachable_of_good fun x hx => by rwa [List.mem_singleton.1 hx]

theorem State.good_lanes
    (h : ∀ k, k < 8 ∧ bitAt (s.pReg d n p) k = 1 → s.Good d n sram (s.addrBy d n ar (k * s.strideOf d n sm smi))) :
    s.Reachable d n sram (s.vecLanes d n ar p sm smi) :=
  State.reachable_of_good fun x hx => by
    obtain ⟨on, place⟩ := mem_vecLanes.1 hx
    rw [place]
    exact h _ on

/-- The beats lost, by how many lanes are enabled. -/
theorem lostBeats {lanes fab : Nat} (h : l = [] ↔ lanes = 0) :
    (if sram = true ∨ l = [] then 0 else fab) = if sram || lanes == 0 then 0 else fab := by
  simp only [h, Bool.or_eq_true, beq_iff_eq]

/-- A register's word, stored. -/
theorem State.storeFrom_lt (hc : s.canonical = true) (vec : Bool) (k : Nat) : s.storeFrom d n vec r k < 2 ^ 32 := by
  unfold State.storeFrom
  split
  · exact State.get_lt (f := .DBG_V) hc rfl
  · exact State.get_lt (f := .DBG_S) hc rfl

/-- The word at a lane past which none names its word. -/
theorem State.BytesStored.lane {k : Nat} (h : s.BytesStored t d n sram (s.vecLanes d n ar p sm smi) (s.storeFrom d n true r))
    (hc : s.canonical = true) (hn : n < 32) (hl : s.Reachable d n sram (s.vecLanes d n ar p sm smi)) (hk : k < 8)
    (on : bitAt (s.pReg d n p) k = 1) (last : ∀ j, j < 8 ∧ bitAt (s.pReg d n p) j = 1 → k < j →
      s.addrBy d n ar (j * s.strideOf d n sm smi) ≠ s.addrBy d n ar (k * s.strideOf d n sm smi)) :
    t.load d (newtPlace n sram (s.addrBy d n ar (k * s.strideOf d n sm smi))) 4 = s.vReg d n r k := by
  obtain ⟨l₁, l₂, split, after⟩ := vecLanes_split (s := s) (d := d) (n := n) (ar := ar) (p := p) (sm := sm) (smi := smi) hk on
  have own : (k, s.addrBy d n ar (k * s.strideOf d n sm smi)) ∈ s.vecLanes d n ar p sm smi := mem_vecLanes.2 ⟨⟨hk, on⟩, rfl⟩
  refine (h.load split (hl.room hn own) fun z hz => ?_).trans (Nat.mod_eq_of_lt (State.storeFrom_lt hc true k))
  obtain ⟨lane, later⟩ := after z hz
  obtain ⟨enabled, place⟩ := mem_vecLanes.1 lane
  exact hl.apart own lane (by rw [place]; exact last z.1 enabled later)

end

end Sys2Proof.Machine
end

section
/-! PROOF. Loads and stores. -/

open Sys2Proof Sys2Proof.Machine

/-- Settles O20: what each lane reads (`State.Loads`) and what memory holds after a store (`State.BytesStored`), for DMEM and clutch SRAM
alike; the addresses are those of R83 and R84. -/
theorem loadsAndStores : Obligations.LoadsAndStores := by
  unfold Obligations.LoadsAndStores
  intro s d n r ar p sm smi um u x y sram io _ hn _ har _ hum hsm hr herr hinj hmet hcut a b l moved word stride lane a' loc good on next own
    waited stored
  have canon : s.canonical = true := hr.1
  have update := legalUpdate_of hum
  have strides := legalStride_of hsm
  have lanes (k : Nat) : s.addrBy d n ar (k * s.strideOf d n sm smi) = lane k := by
    rw [State.addrBy, moveAddr_eq, State.strideOf_eq]
  have after : s.updated d n ar um u = a' := by
    rw [State.updated, State.addrBy, moveAddr_eq, State.updateOf_eq _ _ _ (by omega)]
  have place (q : Nat) : newtPlace n sram q = loc q := rfl
  have goods (q : Nat) (h : good q) : s.Good d n sram q := h
  have vectors (h : ∀ k, on k → good (lane k)) : s.Reachable d n sram (s.vecLanes d n ar p sm smi) :=
    State.good_lanes fun k hk => by
      rw [lanes]
      exact goods _ (h k hk)
  have one : s.scalarLane d n ar = [] ↔ 1 = 0 := by simp [State.scalarLane]
  have many : s.vecLanes d n ar p sm smi = [] ↔ s.pReg d n p = 0 := vecLanes_eq_nil_iff canon
  refine ⟨fun hne hf => ?_, fun hgood _ hf => ?_, fun hgood hf => ?_, fun hgood _ hf => ?_, fun hgood hne hf => ?_⟩
  · rw [← after]
    exact completes_adda hr har update hne hf
  · obtain ⟨t, done, read, ⟨moves, beats⟩, ran⟩ := completes_lds hr herr hinj hmet hcut har update (State.good_scalar (goods _ hgood)) hf
    exact ⟨t, done, read, ⟨moves.trans after, beats.trans (by rw [lostBeats one])⟩, ran⟩
  · obtain ⟨t, done, ⟨moves, beats⟩, ran, read⟩ := completes_vld hr herr hinj hmet hcut har update strides (vectors hgood) hf
    exact ⟨t, done, ⟨moves.trans after, beats.trans (by rw [lostBeats many])⟩, ran, fun k hk => by rw [read k hk, lanes, place]⟩
  · have reach := State.good_scalar (goods _ hgood)
    have own : (0, a) ∈ s.scalarLane d n ar := List.mem_singleton.2 rfl
    obtain ⟨t, done, ⟨issued, ⟨moves, beats⟩, within⟩, bytes⟩ := completes_sts (r := r) hr hn herr hinj hmet hcut har update reach hf
    refine ⟨t, done, ⟨issued, ⟨moves.trans after, beats.trans (by rw [lostBeats one])⟩, within⟩, ?_, fun hy hother _ =>
      bytes.byte_other hy fun z hz => ?_⟩
    · exact (bytes.load (l₁ := []) (l₂ := []) rfl (reach.room hn own) (List.forall_mem_nil _)).trans
        (Nat.mod_eq_of_lt (State.storeFrom_lt canon false 0))
    · rw [List.mem_singleton.1 hz]
      exact hother
  · have reach := vectors hgood
    obtain ⟨t, done, ⟨issued, ⟨moves, beats⟩, within⟩, bytes⟩ :=
      completes_vst (r := r) hr hn herr hinj hmet hcut har update strides hne reach hf
    refine ⟨t, done, ⟨issued, ⟨moves.trans after, beats.trans (by rw [lostBeats many])⟩, within⟩, fun k hk last => ?_, fun hy _ hother =>
      bytes.byte_other hy fun z hz => ?_⟩
    · have word := bytes.lane canon hn reach hk.1 hk.2 fun j hj later => by
        rw [lanes, lanes]
        exact last j hj later
      rwa [lanes, place] at word
    · obtain ⟨enabled, named⟩ := mem_vecLanes.1 hz
      rw [named, lanes]
      exact hother z.1 enabled
end
